-- ==== Sys2Proof/Word.lean ====
section
/-! DEFINITION. Sys2Proof/Word.lean: the word types of the manual's frames and registers. -/

namespace Sys2Proof

/-- One byte of a frame, file or record (R7). -/
abbrev Byte := BitVec 8

end Sys2Proof
end

