-- ==== Sys2Proof/Syntax.lean ====
section
/-! DEFINITION. Sys2Proof/Syntax.lean: the commands of the block, one constructor of `Instr` per row of
spec/opcode_table.json, and the records their operands use. The table gives no operand fields; each operand is what
the row's rule says the event carries (a frame, a request, a measured value, which string or channel). -/

namespace Sys2Proof

/-- A frame of the inter-die link (R31): type, sequence number, payload, CRC-16. -/
structure LinkFrame where
  type : Byte
  seq : Byte
  payload : BitVec 48
  crc : BitVec 16
deriving DecidableEq, Repr

/-- An output command of the compute die (R14, class 2 of Table 1-6). -/
inductive OutReq
  | energise (d : Fin 12)
  | deenergise (d : Fin 12)
  | loadSwitch (n : Fin 16) (mode duty freq : Nat)
  | motor (n : Fin 4) (rpm : Nat)
  /-- R255: a host clear of a load switch. -/
  | lsClear (n : Fin 16)
  /-- R270: a host clear of a motor channel. -/
  | motorClear (n : Fin 4)
  /-- R275: a host clear of the brake chopper. -/
  | brakeClear
deriving DecidableEq, Repr

/-- Who sent a request that writes an object (R285, R287): the link, the node, the addressed node, the transfer
sequence and priority, and whether the request was TAGGED with a trailer that verified within the node's open
session (R297). -/
structure Req where
  link : Fin 3
  src : Nat
  dest : Nat
  seq : Nat
  prio : Nat
  auth : Bool
  /-- R311: the sender's address on Ethernet, 0 on CAN. -/
  addr : Nat := 0
deriving DecidableEq, Repr

/-- R282, R310: what kind of frame a link delivered. On CAN: a data frame with a 29-bit identifier (plain), with an 11-bit one
(basic), or a remote frame. On Ethernet: a UDP datagram to the device's own address (plain), an IP fragment, a packet with
IP options, one of another protocol, or a broadcast one. On both: a frame whose CRC or FCS is wrong (damaged). -/
inductive FrameForm
  | plain | basic | remote | fragment | options | protocol | broadcast | damaged
deriving DecidableEq, Repr

/-- A QLP message as a link delivered it (R285, R311): the 29-bit identifier on CAN (Table 9-2), the 8 bytes of the datagram
header on Ethernet (Table 9-13), the sender's UDP address (the IPv4 address in bits 31 to 0, the port above them), the
message bytes, and on Ethernet the destination port. -/
structure QlpFrame where
  link : Fin 3
  ident : Nat := 0
  head : List Byte := []
  addr : Nat := 0
  msg : List Byte
  port : Nat := 47740
  form : FrameForm := .plain
deriving DecidableEq, Repr

/-- R307: what a clock announces of its grandmaster, with the port identity of the clock itself. -/
structure PtpAnnounce where
  priority1 : Nat := 128
  clockClass : Nat := 248
  accuracy : Nat := 254
  variance : Nat := 65535
  priority2 : Nat := 128
  identity : Nat
  steps : Nat := 0
  sender : Nat := identity
deriving DecidableEq, Repr

/-- R307: one sync exchange with delay request-response: the domain, the origin time and correction of the sync, those of the
follow-up where the master is a two-step one, the port's own timestamps of the sync's reception and of the delay request's
transmission, the master's timestamp of the delay request with the correction of its response, all in ns, and the other
clocks that the port hears announced. -/
structure PtpSync where
  domain : Nat
  origin : Int
  correction : Int := 0
  twoStep : Bool := false
  followUp : Option (Int × Int) := none
  received : Int
  requested : Int
  answered : Int
  answerCorrection : Int := 0
  heard : List PtpAnnounce := []
deriving DecidableEq, Repr

/-- What the return path of a port gave (R66): a trigger that this device sent, with its measured round trip in ns and its two
data bytes; a command frame; or (R363, R369) a trigger that the other device of a pair sent from the far end. -/
inductive ReturnPath
  | trigger (bEnd : Bool) (roundTripNs : Nat) (seq check : Byte)
  | command (bEnd : Bool) (frame : List Byte)
  | holder
deriving DecidableEq, Repr

/-- What a receiver has seen of its inbound lane (R53): how long no valid symbol has come, ns; code and disparity
violations within the last 32 symbols; consecutive DARK symbols. -/
inductive LaneSeen
  | silent (ns : Nat)
  | violations (n : Nat)
  | dark (n : Nat)
deriving DecidableEq, Repr

/-- R53: a port (the B-end's or the A-end's) and what its receiver has seen when the lane is lost. -/
structure LaneLoss where
  bEnd : Bool
  seen : LaneSeen
deriving DecidableEq, Repr

/-- R53: a port and for how long its receiver has seen valid symbols with no violation and no DARK, µs. -/
structure LaneValid where
  bEnd : Bool
  validUs : Nat
deriving DecidableEq, Repr

/-- The conditions of Table 6-3 (R187). -/
inductive CoilFault
  | openCoil | shortHs | shortLs | regulation | overtemp
deriving DecidableEq, Repr

/-- R187: a condition of Table 6-3 has come up (it is detected), or has ended. -/
structure CoilEvent where
  cond : CoilFault
  present : Bool
deriving DecidableEq, Repr

/-- The off-state output levels that R256 distinguishes. -/
inductive OffStateLevel
  | low | open3V | nearVaux
deriving DecidableEq, Repr

/-- R452, R450: the 1 ms readings of VDDC (mV, mA), VDDIO and the gate drive supply (mV), and the power (mW) of the fixed VDDIO
share and the factory model of the remaining power-die losses. -/
structure Supplies where
  vddcMv : Nat
  vddcMa : Nat
  vddioMv : Nat
  gateMv : Nat
  restMw : Nat
deriving DecidableEq, Repr

/-- What the power die measures for the dissipation estimate of R259: per load switch the output current (mA) and the
on-resistance at the local temperature (mΩ), per contactor driver the coil current (mA), the resistance of the coil (mΩ)
and the sum of its two on-resistances (mΩ), per motor channel the gate supply current (mA) and drive voltage (mV), VAUX (mV)
and the output slew rate (mV/µs); with the readings of the regulated supplies and of the local sensors of the load switches
and of the gate-driver sections (0.01 °C) that the same 1 ms refreshes. -/
structure Dissipation where
  lsMa : List Nat
  lsMohm : List Nat
  coilMa : List Nat
  coilLoad : List Nat
  coilMohm : List Nat
  gateMa : List Nat
  gateMv : List Nat
  vauxMv : Nat
  slewMvPerUs : Nat
  supply : Supplies := ⟨800, 0, 3300, 11000, 0⟩
  lsTemp : List Int := []
  mdTemp : List Int := []
deriving DecidableEq, Repr

/-- R271: whether the cycle-by-cycle limit acted in a PWM period, and then how long after its start, ns. -/
structure LimitHit where
  acted : Bool
  atNs : Nat := 0
deriving DecidableEq, Repr

/-- R244: an element of the power die's safety copies (its key) has come to hold another value. -/
structure CopyUpset where
  key : Nat
  value : Nat
deriving DecidableEq, Repr

/-- R267: a change of sign of a motor's floating phase: the two samples either side of it, as times from the previous crossing
(ns) and voltages above VMOT / 2 (mV); how many samples in a row, since the last commutation, lay more than 1 V inside both
rails; and the time from that commutation to the first of the two samples (ns). -/
structure Crossing where
  beforeNs : Nat
  afterNs : Nat
  beforeMv : Int
  afterMv : Int
  inside : Nat
  commNs : Nat
deriving DecidableEq, Repr

/-- The inputs that can wake a moored device (R406), with what the power die's wake logic has seen: for how long the pin has
been high, µs, or two consecutive samples of `BUSDET`, µV. -/
inductive WakeSource
  | wake0 (highUs : Nat)
  | wake1 (highUs : Nat)
  | busdet (firstUv secondUv : Nat)
deriving DecidableEq, Repr

/-- The outcome of the checks of Table 13-3 (R397): which of items 0 to 2 failed, and the ISA channels, motor
channels and estimator units that failed items 3 to 5; the offsets that item 3 measured, in converter codes by channel; and
what the scans read that was not written whole: the bytes in place of the newest journal record of a KIND × 8 + INSTANCE
(R411), and the log pages with a bad record or header, with its offset (R387). -/
structure StartupChecks where
  item0 : Bool
  item1 : Bool
  item2 : Bool
  isaOffset : List (Fin 4)
  motorOffset : List (Fin 4)
  euFailed : List (Fin 64)
  isaTrims : List (Fin 4 × Int) := []
  records : List (Nat × List Byte) := []
  tornPages : List (Nat × Nat) := []
deriving DecidableEq, Repr

/-- What the four checks of R441 find: `slotBytes` are the bytes of the active slot, by offset into its image, that have come
to read otherwise than what the model's slot holds. -/
structure Integrity where
  slotBytes : List (Nat × Byte) := []
  factoryOk : Bool
  badTableCopies : List (Fin 8)
  configOk : Bool
deriving DecidableEq, Repr

/-- R442: what the tests of a device self-test find: bit 0 the march test, bit 1 the EUs whose known answer was wrong, bit 3 the
checks of R441. -/
structure TestFound where
  marchOk : Bool
  euFailed : BitVec 64
  checks : Integrity
deriving DecidableEq, Repr

/-- The mirrored state of Table 11-3 for one driver. -/
structure MirrorDriver where
  energised : Bool := false
  hold : Bool := false
  weld : Nat := 0
  proofTime : Nat := 0
  breakCount : Nat := 0
  breakPeak : Nat := 0
deriving DecidableEq, Repr

/-- The mirrored state of Table 11-3 for one string; `failAges` are the ages (µs) of its pre-charge failures within
the last 900 s and `cooldown` is the rest of `PrechargeCooldown` (µs). -/
structure MirrorString where
  state : Nat := 0
  tripCause : List Int := [0, 0, 0, 0, 0]
  precharge : List Int := [0, 0, 0, 0, 0]
  cooldown : Nat := 0
  failAges : List Nat := []
  openDeadline : Nat := 0
deriving DecidableEq, Repr

/-- A MIRROR frame's content (R362, Table 11-3); `auth` lists the states of the 128 positions and `latched` the
unacknowledged latched sources with TRIP. -/
structure Mirror where
  drivers : List MirrorDriver
  strings : List MirrorString
  ls : List (Nat × Nat × Nat)
  motors : List (Nat × Nat)
  latched : List Nat
  auth : List Nat
deriving DecidableEq, Repr

/-- A HELLO frame's content (Table 11-2). -/
structure Hello where
  preferred : Bool
  duplexMode : Nat
  berthState : Nat
  dictVersion : Nat
  configCrc : Nat
  tableCrcs : List Nat
  nodeId : Nat
deriving DecidableEq, Repr

/-- R360: LEN and CRC of a frame of the duplex link, as received. -/
structure DupTail where
  len : Nat
  crc : Nat
deriving DecidableEq, Repr

/-- The commands of the block: one constructor per row of the opcode table, in the table's order. -/
inductive Instr
    /-- R15. The hardware comparator finds the two control processors' outputs differ; source 0xF1 is raised and the
  compute die enters reset within 1 µs. -/
  | lockstepMismatch
    /-- R28. A frequency-monitor gate of 8 domain-8 periods ends; the counts of domains 1 and 5 are judged and
  faulty domains raise 0xE8. -/
  | clockMonitorGate (count1 count5 : Nat) (byDomain8 : Bool)
    /-- R28. Both counts have been within tolerance for 10 ms, so the compute die is released from reset. -/
  | clockFaultRelease
    /-- R28. No domain-8 edge arrives for 100 µs; the monitor falls back to domain-7 gating with 5 % tolerance and
  raises 0xE4. -/
  | domain8Loss
    /-- R32. An 80-bit inter-die link frame arrives and is CRC- and sequence-checked; bad frames are discarded and a
  resend is requested. -/
  | interdieFrameReceived (atPower : Bool) (f : LinkFrame)
    /-- R32. 50 µs pass without a valid inter-die frame, so the link is declared lost. -/
  | interdieLinkTimeout (atPower : Bool)
    /-- R32. The 10 µs idle interval expires and the side sends an idle link-alive frame. -/
  | interdieIdleSend (fromPower : Bool)
    /-- R14. An output command from the compute die reaches the power die and is executed only if trust, berth and
  safe-off allow; otherwise it is refused. -/
  | outputRequest (r : OutReq)
    /-- R19. A hardware trip open request reaches the power die; every driver of the string is de-energised, and
  later closes are blocked until the trip is acknowledged. -/
  | tripOpenRequest (string : Fin 4)
    /-- R34. A watchdog answer arrives at the power die; a wrong, out-of-order or early answer ends trust at once.
  -/
  | watchdogAnswer (k : Fin 4) (value : Byte) (at9 : Nat)
    /-- R33. The watchdog window ends; the four answers are checked, trust is extended, ended or restored, and a new
  question starts the next window. -/
  | watchdogWindowEnd
    /-- R40. The once-per-microsecond matrix evaluation routes active sources to trips, capture, logging and
  notifications. -/
  | eventMatrixEvaluate
    /-- R38. A write to a routing word is checked for lock, reserved bits and variant, and applies to the next
  activation. -/
  | eventRouteWrite (req : Req) (source : Byte) (value : BitVec 32)
    /-- R42. An SRAM access finds an ECC error; a single-bit error is counted, an uncorrectable one raises 0xF0 and
  takes the action for its area. -/
  | sramEccError (area : Fin 7) (uncorrectable : Bool) (item : Nat)
    /-- R42. The reload of a table set from flash completes, and the paused strings resume. -/
  | tableSetReloadDone (set : Fin 4)
    /-- R46. The hourly commit of a string's learned data to the journal falls due. -/
  | learnedDataCommit (string : Fin 4) (worn : Bool)
    /-- R46. A change of WeldState forces a commit of that string's learned data within 1 s. -/
  | weldStateCommit (string : Fin 4) (worn : Bool)
    /-- R53. A port receiver declares its inbound lane lost; it transmits DARK and the ring is treated as broken at
  that link. -/
  | laneLost (ring : Fin 4) (loss : LaneLoss)
    /-- R53. A lost lane has shown 10 ms of valid symbols and is declared restored. -/
  | laneRestored (ring : Fin 4) (valid : LaneValid)
    /-- R67. At −30 µs the head sends the tally trigger followed by the SWEEP train on every ring. -/
  | tallyTrigger
    /-- R80. The tally instant: the tally index advances, current inputs latch, BUSDET is sampled and pending rate
  or period changes take effect. -/
  | tallyInstant (busdetUv : Nat)
    /-- R67. A SAMPLE reply is decoded; it is validated, its words are judged by the comparators and delivered for
  its tally. -/
  | sample (ring : Fin 4) (bEnd : Bool) (frame : List Byte)
    /-- R95. An exceedance count reaches ComparatorCount, raising the ring's over- or under-voltage or temperature
  source. -/
  | comparatorSourceRaise (ring : Fin 4) (kind : Fin 4) (number : Nat)
    /-- R70. A hop's SAMPLE is 50 µs overdue; it is declared missing and a retry or far-side re-read is queued. -/
  | hopMissing (ring : Fin 4) (bEnd : Bool) (hop : Fin 32)
    /-- R60. The returning EOT of the train in flight is decoded, so the head may launch the next command. -/
  | trainEotReturned (ring : Fin 4) (bEnd : Bool)
    /-- R60. The train timeout passes without the EOT; the train ends. -/
  | trainTimeout (ring : Fin 4) (bEnd : Bool)
    /-- R66. The head compares a returned trigger or command frame with what it sent, checking trigger round-trip
  drift and the return path. -/
  | returnPathCheck (ring : Fin 4) (r : ReturnPath)
    /-- R82. An idle slot is free and the head launches the next queued train in the order of Table 3-2. -/
  | idleSlotLaunch (ring : Fin 4) (bEnd : Bool)
    /-- R64. An IDENT reply to ENUMERATE or IDENTIFY is decoded, checking position and UID. -/
  | ident (ring : Fin 4) (bEnd : Bool) (frame : List Byte)
    /-- R65. An ECHO_BACK reply is decoded and timestamped to measure a hop delay. -/
  | echoBack (ring : Fin 4) (bEnd : Bool) (frame : List Byte) (t0 t1 : Nat)
    /-- R64. A CONFIG_ACK is decoded and its RESULT and CONFIG_CRC are checked. -/
  | configAck (ring : Fin 4) (bEnd : Bool) (frame : List Byte)
    /-- R99. A STATUS reply to READ_STATUS is decoded; it may clear MONITOR_FAULT or enable a rejoin. -/
  | status (ring : Fin 4) (bEnd : Bool) (frame : List Byte)
    /-- R105. A BAL_ACK is compared with the sent mask; mismatches cause a resend, and a third one removes the
  monitor from balancing. -/
  | balAck (ring : Fin 4) (bEnd : Bool) (frame : List Byte)
    /-- R113. The RESULT reply to an OPEN_WIRE command is decoded. -/
  | openWireResult (ring : Fin 4) (bEnd : Bool) (frame : List Byte)
    /-- R74. The RESULT reply to AUTH_CHALLENGE is decoded. -/
  | authResult (ring : Fin 4) (bEnd : Bool) (frame : List Byte)
    /-- R75. An AUTH_MAC reply is checked against the expected CMAC, updating ModuleAuthState or scheduling a retry.
  -/
  | authMac (ring : Fin 4) (bEnd : Bool) (frame : List Byte)
    /-- R72. A monitor's RESULT to REJOIN is decoded; on success the rejoined ring is checked and monitors are re-
  identified. -/
  | rejoinResult (ring : Fin 4) (bEnd : Bool) (frame : List Byte)
    /-- R74. 1 ms after AUTH_CHALLENGE the AUTH_READ becomes due. -/
  | authReadDue (ring : Fin 4) (pos : Fin 32)
    /-- R75. The 1 s retry after a wrong MAC falls due and a fresh challenge is sent. -/
  | authRetry (ring : Fin 4) (pos : Fin 32)
    /-- R75. A monitor's turn in the 24 h re-authentication spread falls due. -/
  | moduleAuthDue (ring : Fin 4) (pos : Fin 32)
    /-- R64. Enumeration of a ring begins with IDLE on both ends. -/
  | enumerationStart (ring : Fin 4)
    /-- R64. The 15 ms wait of step 2 ends and the ring is judged whole or split before ENUMERATE. -/
  | enumerationWaitDone (ring : Fin 4) (aIdle bIdle : Bool)
    /-- R338. A ring with a mismatched UID is enumerated again once its string is open. -/
  | manifestMismatchReenumerate (ring : Fin 4)
    /-- R79. A write of TallyPeriod is checked against the manifest and starts reconfiguration of the monitors. -/
  | tallyPeriodWrite (req : Req) (value : Nat)
    /-- R79. After every monitor has acknowledged the new hold delays and dwell, the new period takes effect at a
  tally boundary. -/
  | tallyPeriodApply
    /-- R86. Each microsecond both filtered current streams produce one output. -/
  | currentOutput (string : Fin 4) (dsiBits : BitVec 20) (isaCode : BitVec 16)
    /-- R92. A mean has stayed beyond its threshold for FastPathDebounce, raising 0x50 + string. -/
  | fastPathDebounceExpiry (string : Fin 4)
    /-- R88. The interpolated sample and tally mean of each channel reach the compute die over the inter-die link.
  -/
  | currentSampleDelivered (string : Fin 4) (ch : Fin 2)
    /-- R90. DSIn_DAT shows 128 identical bits, setting FAULT and raising 0x54 + string. -/
  | dsiStuckFault (string : Fin 4)
    /-- R90. An ISA input stays outside 0.5 V to 4.5 V for 10 µs, setting FAULT and raising 0x58 + string. -/
  | isaRangeFault (string : Fin 4)
    /-- R90. A channel's FAULT clears after 100 ms without its condition. -/
  | currentFaultClear (string : Fin 4) (ch : Fin 2)
    /-- R91. The two channels disagree in 100 consecutive tallies (or agree again in 100), setting or clearing
  DISAGREE. -/
  | crossCheckDisagree (string : Fin 4)
    /-- R97. A slot dwell ends and the mean of its plausible readings is published. -/
  | tempDwellEnd (ring : Fin 4) (pos : Fin 32) (slot : Fin 10)
    /-- R98. A temperature input has had no plausible reading for 300 ms and carries STALE. -/
  | tempStaleTimeout (ring : Fin 4) (pos : Fin 32) (input : Fin 8)
    /-- R100. Every addressed hop of a ring is accounted for; the string's acquisition results are published. -/
  | sweepComplete (ring : Fin 4)
    /-- R101. A cell's STALE_COUNT reaches 4, raising offset 0x7 and tripping the string. -/
  | staleTrip (ring : Fin 4) (cell : Fin 512)
    /-- R196. A derating cause has been absent for its clearing time and leaves the product. -/
  | deratingClear (string : Fin 4) (code : Fin 9)
    /-- R103. The once-per-second balancing plan is formed and sent as one BALANCE per ring. -/
  | balancePlan
    /-- R108. The open-wire signature holds for 3 epochs, setting pair mode, derating and queuing a targeted test.
  -/
  | openWireSuspect (ring : Fin 4) (cell : Fin 512)
    /-- R109. A queued open-wire test sends OPEN_WIRE with START two tallies ahead. -/
  | openWireTestStart (ring : Fin 4) (pos : Fin 32) (channel : Fin 18)
    /-- R110. The test word after the bleed's end is taken and the result is classified. -/
  | openWireTestEvaluate (ring : Fin 4) (pos : Fin 32)
    /-- R111. The 60 s re-test of a confirmed break or standing suspicion falls due. -/
  | openWireRetest (ring : Fin 4) (pos : Fin 32)
    /-- R112. The next channel of the background open-wire rotation falls due. -/
  | openWireRotation (ring : Fin 4) (pos : Fin 32) (channel : Fin 18)
    /-- R113. A write of OpenWireRequest queues a full-module test under the one-shot rules. -/
  | openWireRequest (req : Req) (value : BitVec 32)
    /-- R113. A requested full-module test completes and OpenWireResult is filled. -/
  | openWireRequestDone
    /-- R116. A write of true to CaptureArm empties the list and buffer and arms the capture. -/
  | captureArm (req : Req) (value : Nat)
    /-- R116. A write of true to CaptureTrigger, or a CAPTURE-routed source, marks the trigger record. -/
  | captureTrigger (req : Req) (value : Nat)
    /-- R116. The post-trigger records are written and the buffer freezes. -/
  | captureFreeze
    /-- R120. An idle EU claims the item at the head of its cluster queue. -/
  | euWorkItemClaim (eu : Fin 64)
    /-- R119. An EU writes back a finished cell update; a residue failure retires it. -/
  | euUpdateComplete (eu : Fin 64) (residueOk : Bool)
    /-- R121. An EU stage handshake goes 20 µs unacknowledged and the EU is retired. -/
  | euHandshakeTimeout (eu : Fin 64)
    /-- R130. An epoch's deadline passes before completion; the epoch is abandoned and the load step may slow. -/
  | epochDeadline (string : Fin 4)
    /-- R132. The age since the last publication exceeds EstimatorMaxAge, moving the string to held. -/
  | estimationHeld (string : Fin 4)
    /-- R133. The conditions have held for 10 s and the load step moves one step faster. -/
  | rateStepUp (region : Fin 2)
    /-- R138. An EU's once-per-second known-answer update falls due in its idle time. -/
  | fabricKnownAnswerTest (eu : Fin 64) (pass : Bool)
    /-- R138. A write of FabricSelfTestRequest queues the known-answer test of every EU. -/
  | fabricSelfTestRequest (req : Req) (value : BitVec 32)
    /-- R138. The requested fabric self-test completes and FabricSelfTestResult is filled. -/
  | fabricSelfTestDone (failed : BitVec 64)
    /-- R150. A table file is checked, stored twice in flash and loaded. -/
  | modelTableFileWrite (req : Req) (set : Fin 4) (file : List Byte)
    /-- R151. A table set finishes loading into SRAM and its strings resume. -/
  | tableSetLoadDone (set : Fin 4)
    /-- R159. The 1 s window ends and each channel is compared with the inferred current. -/
  | currentPlausibilityWindow (string : Fin 4)
    /-- R162. A qualified rest ends, or reaches 4 h, forming a rest point. -/
  | restPointFormed (string : Fin 4)
    /-- R165. The string median innovation has exceeded 5 for 60 s; disagreement is entered and the channel audit
  runs. -/
  | stringDisagreementEnter (string : Fin 4)
    /-- R166. The 60 s repeat of the channel audit during disagreement falls due. -/
  | channelAuditRepeat (string : Fin 4)
    /-- R170. A write of CapLearnReportRequest queues a capacity-learning report. -/
  | capLearnReportRequest (req : Req) (value : BitVec 32)
    /-- R170. The capacity-learning report completes in idle time. -/
  | capLearnReportDone
    /-- R173. A write of ImpedanceSnapshotRequest waits for the next qualifying step. -/
  | impedanceSnapshotRequest (req : Req) (value : BitVec 32)
    /-- R173. 600 s pass without a qualifying step; the snapshot completes with STATUS 1. -/
  | impedanceSnapshotTimeout
    /-- R203. StringCommand 1 asks to close a string and is accepted or refused by state and CloseBlockReason. -/
  | stringClose (req : Req) (string : Fin 4)
    /-- R203. StringCommand 2 asks to open a string, moving CLOSED to OPEN_REQ or aborting a close. -/
  | stringOpen (req : Req) (string : Fin 4)
    /-- R205. The per-tally firmware step of every string's contactor sequence, limits and claim refresh. -/
  | contactorStep
    /-- R204. No other string is closing, so the waiting string gets its turn and its pre-charge driver is
  energised. -/
  | closeTurnGranted (string : Fin 4)
    /-- R206. The weld check time elapses; the negative main is judged and the string moves to PRECHARGE, JOIN_WAIT
  or WELDED. -/
  | weldCheckElapsed (string : Fin 4)
    /-- R208. A pre-charge deadline (t0, 1.3τ, 5τ or close time) passes unmet; the pre-charge fails with its code.
  -/
  | prechargeDeadline (string : Fin 4)
    /-- R209. The PrechargeCooldown of a string runs out. -/
  | prechargeCooldownEnd (string : Fin 4)
    /-- R205. The positive main's close time elapses and the pre-charge driver is de-energised. -/
  | closingCloseTimeElapsed (string : Fin 4)
    /-- R205. The pre-charge driver's drop time elapses and the string becomes CLOSED. -/
  | closingDropTimeElapsed (string : Fin 4)
    /-- R211. JoinWaitTimeout elapses; the string returns to OPEN with 0x9C + n. -/
  | joinWaitTimeout (string : Fin 4)
    /-- R212. OpenRampTimeout elapses in OPEN_REQ; the string is released if the current is below ContactorBreakMax.
  -/
  | openRampTimeout (string : Fin 4)
    /-- R212. Source 0x98 + n is raised again after each 1 s held above ContactorBreakMax. -/
  | breakMaxRepeat (string : Fin 4)
    /-- R213. At the positive main's drop time the opening weld test runs and the negative main is de-energised. -/
  | openingWeldTest (string : Fin 4)
    /-- R205. The negative main's drop time elapses and the string becomes OPEN or WELDED. -/
  | openingDropElapsed (string : Fin 4)
    /-- R214. At the larger drop time after a trip the current is checked for a welded negative main. -/
  | postTripWeldCheck (string : Fin 4)
    /-- R193. A write of TripReset moves named TRIPPED or LOCKOUT strings to OPEN or WELDED if no cause remains. -/
  | tripReset (req : Req) (mask : Byte)
    /-- R215. A write of WeldClear sets named drivers' WeldState to unproven. -/
  | weldClear (req : Req) (mask : BitVec 16)
    /-- R185. CoilPullInTime ends and the driver regulates to hold current. -/
  | pullInEnd (driver : Fin 12)
    /-- R187. A coil diagnostic condition persists for its time, setting its flag and raising 0x94 + string; or such a condition
    ends, which the flag outlives until the driver is next energised without it. -/
  | coilFaultDetected (driver : Fin 12) (c : CoilEvent)
    /-- R195. StringCurrentSource has been none for 10 s, bringing in requested-open cause 1. -/
  | currentSourceNoneTimeout (string : Fin 4)
    /-- R197. A module's inputs have all been lost for 10 s or 300 s, bringing in derating cause 6 or open cause 2.
  -/
  | tempInputLossTimeout (ring : Fin 4) (pos : Fin 32)
    /-- R201. The current has exceeded the applied limit for OverLimitTime, bringing in requested-open cause 3. -/
  | overLimitTimeout (string : Fin 4)
    /-- R222, R224. A safety channel stands at a level at its ball. A level that has held for the filter time counts: the
    filtered level changes, stepping the pair's state machine and asserting or releasing safe-off. -/
  | safetyInputChange (pair : Fin 4) (chB level : Bool)
    /-- R224. The discrepancy time t_D expires, moving the pair to fault with 0xA4 + p. -/
  | safetyDiscrepancyTimeout (pair : Fin 4)
    /-- R226. The power die's priority-0 report of a safe-off assertion or release reaches the compute die and
  raises 0xA0 + p. -/
  | safeOffReport (pair : Fin 4) (asserted : Bool)
    /-- R228. The 100 ms receiver self-test forces each used receiver to its opposite level and checks it. -/
  | safetyInputSelfTest (follows : BitVec 8)
    /-- R229. Domains 7 and 9 check each other each 1 ms; a deviation asserts safe-off on every string. -/
  | oscillatorCrossCheck (count7 count9 : Nat)
    /-- R232. A driver's low-side or high-side off-pulse falls due at its offset in the interval. -/
  | offPulseStart (driver : Fin 12) (highSide : Bool)
    /-- R234. 50 µs into a pulse the switch current is judged; a failure raises 0xA8 + n and de-energises the
  string. -/
  | offPulseCheck (driver : Fin 12) (mA : Nat)
    /-- R232. The pulse width ends and the switch turns back on. -/
  | offPulseEnd (driver : Fin 12)
    /-- R233. At a de-energised driver's offset, both switch currents and the coil current are checked. -/
  | offStateCheck (driver : Fin 12) (hsMa lsMa coilMa : Nat)
    /-- R237. A driver's proof age reaches OpeningProofInterval and its due bit sets. -/
  | openingProofDue (driver : Fin 12)
    /-- R237. The grace elapses; 0xA8 + n with KIND 4 trips the string. -/
  | openingProofOverdue (driver : Fin 12)
    /-- R238. A write of ContactorOpenTestRequest is checked and queued for the string's turn. -/
  | contactorOpenTestRequest (req : Req) (value : BitVec 32)
    /-- R239. A test step's energise time ends; ΔV and current are checked and the driver is de-energised. -/
  | openTestStepCheck
    /-- R239. The drop wait after a step ends, proving drivers and starting the next step or completing the test. -/
  | openTestStepDropDone
    /-- R244. The 1 s readback of the power-die safety copies runs, raising 0xAD instance 1 on mismatch. `upset` is an element
    of those copies (its key) that has come to hold another value since the last readback. -/
  | safetyConfigReadback (upset : Option CopyUpset)
    /-- R251. LoadSwitchCommand 0 switches a channel off and cancels a pending retry. -/
  | loadSwitchCmdOff (req : Req) (ls : Fin 16)
    /-- R251. LoadSwitchCommand 1 switches a channel fully on. -/
  | loadSwitchCmdOn (req : Req) (ls : Fin 16)
    /-- R251. LoadSwitchCommand 2 runs a channel in PWM mode. -/
  | loadSwitchCmdPwm (req : Req) (ls : Fin 16)
    /-- R252. LIMITING lasts LsLimitTime; the channel trips on over-current. -/
  | lsOvercurrentTrip (ls : Fin 16)
    /-- R253. The local temperature reaches 165 °C, switching the channel off. -/
  | lsThermalLatchSet (ls : Fin 16)
    /-- R253. The local temperature falls to 140 °C and the latch clears. -/
  | lsThermalLatchClear (ls : Fin 16)
    /-- R254. LsRetryDelay elapses; the channel restarts if the latch is clear and the command is on. -/
  | lsRetryRestart (ls : Fin 16)
    /-- R254. 60 s of on-time without a trip returns the retry count to 0. -/
  | lsRetryCountReset (ls : Fin 16)
    /-- R255. A write of LsFaultClear resets retries and clears lock-off on named channels. -/
  | lsFaultClear (req : Req) (mask : BitVec 16)
    /-- R256. An on-channel's current stays below LsOpenLoadCurrent for 100 ms, or recovers for 100 ms. -/
  | lsOnOpenLoad (ls : Fin 16) (low : Bool)
    /-- R256. An off-channel's output condition holds 10 ms, setting or clearing the open-load or short flags. -/
  | lsOffStateDiag (ls : Fin 16) (c : OffStateLevel)
    /-- R259. The 1 ms estimate of package switch dissipation is formed. -/
  | dissipationEstimate (m : Dissipation)
    /-- R260. At a 100 ms boundary over budget, one channel is shed or 0xCF raised. -/
  | governorShed
    /-- R260. After 10 s at or below 80 % of budget, one shed channel is restored. -/
  | governorRestore
    /-- R266. A write of MotorSpeedCommand sets the target of the speed ramp. -/
  | motorSpeedCommand (req : Req) (md : Fin 4) (rpm : Nat)
    /-- R266. The 1 ms speed loop moves the reference and computes the duty. -/
  | motorSpeedLoop (md : Fin 4) (shuntMa : Int)
    /-- R267. A floating-phase zero crossing is detected, updating speed and scheduling commutation. -/
  | motorZeroCrossing (md : Fin 4) (x : Crossing)
    /-- R268. The commutation delay after a zero crossing ends and the next step is driven. -/
  | motorCommutation (md : Fin 4)
    /-- R269. No zero crossing arrives within 2 expected intervals. -/
  | motorCrossingTimeout (md : Fin 4)
    /-- R270. The coast wait ends; recovery goes to catch-spin or waits to stop. -/
  | motorCoastWaitEnd (md : Fin 4)
    /-- R270. The 500 ms catch-spin watch ends in synchronisation or failure. -/
  | motorCatchSpinEnd (md : Fin 4) (intervals : List Nat) (bemfMv : Nat)
    /-- R270. The modelled speed falls to MdStopSpeed and alignment starts. -/
  | motorStopped (md : Fin 4)
    /-- R270. MdAlignTime ends and the open-loop start begins. -/
  | motorAlignEnd (md : Fin 4)
    /-- R270. Six consistent crossings at hand-over speed put the channel in STATE 3. -/
  | motorStartHandover (md : Fin 4) (intervals : List Nat)
    /-- R270. The ramp end plus 500 ms passes without hand-over; the start fails. -/
  | motorStartTimeout (md : Fin 4)
    /-- R270. MdRetryDelay elapses and the next recovery attempt starts. -/
  | motorRetryDelay (md : Fin 4)
    /-- R271. The shunt current exceeds MdCurrentLimit, ending the on-time of the PWM period. -/
  | motorCurrentLimit (md : Fin 4) (hit : LimitHit)
    /-- R271. The limit has acted in every period for MdLimitTime; the channel trips. -/
  | motorLimitTimeTrip (md : Fin 4)
    /-- R271. An on switch exceeds MdVdsThreshold after blanking; the channel trips. -/
  | motorVdsTrip (md : Fin 4) (lowSide : Bool)
    /-- R271. The gate-driver latch sets or clears. -/
  | motorThermalLatch (md : Fin 4) (set : Bool)
    /-- R271. The gate supply falls below lockout and the channel coasts. -/
  | motorGateUv (md : Fin 4)
    /-- R262. Domain 10 is absent for 10 µs; every motor channel coasts. -/
  | motorClockLoss
    /-- R270. A write of MotorFaultClear resets retries and clears lock-off on named channels. -/
  | motorFaultClear (req : Req) (mask : Byte)
    /-- R273. The 10 µs VMOT sample is compared with every VMOT level, driving coast, ramp hold and brake. -/
  | vmotSample (mV : Nat)
    /-- R273. VMOT has recovered for 100 ms and channels resume. -/
  | vmotRecovery
    /-- R275. A brake chopper check after turn-on finds a fault and latches the chopper off. -/
  | brakeFaultCheck (inst : Fin 2) (vmotMv brkMa : Nat)
    /-- R275. A write of true to BrakeFaultClear clears FAULTY. -/
  | brakeFaultClear (req : Req) (value : Nat)
    /-- R289. A READ request returns COUNT elements with stamps, or a refusal. -/
  | qlpRead (f : QlpFrame)
    /-- R290. A WRITE request is checked for every element and stored all or none. -/
  | qlpWrite (f : QlpFrame)
    /-- R296. SESSION_OPEN returns a fresh NONCE_D or is refused. -/
  | sessionOpen (f : QlpFrame)
    /-- R296. SESSION_AUTH checks PROOF_C and opens the session with PROOF_D. -/
  | sessionAuth (f : QlpFrame)
    /-- R298. SESSION_CLOSE ends the session and wipes k_s. -/
  | sessionClose (f : QlpFrame)
    /-- R308. TIME_SET forms an offset against the timestamped frame and applies it. -/
  | timeSet (f : QlpFrame) (ageUs : Nat)
    /-- R293. A block segment of a segmented write arrives; an ACK follows each burst end. -/
  | blockSegment (f : QlpFrame)
    /-- R293. A block ACK from the peer releases the next burst or causes a resend from NEXT. -/
  | blockAck (f : QlpFrame)
    /-- R294. An abort from the peer ends the transfer without response or storage. -/
  | blockAbort (f : QlpFrame)
    /-- R294. No expected frame arrives within 100 ms; the last burst is resent, or the transfer aborts. -/
  | segmentTimeout (link : Fin 3) (src : Nat)
    /-- R298. 300 s without a tagged request ends the session. -/
  | sessionTimeout
    /-- R296. The 10 s for a node's SESSION_AUTH passes and its NONCE_D lapses. -/
  | nonceExpiry (link : Fin 3) (src : Nat)
    /-- R298. The 10 min authentication lockout ends. -/
  | authLockoutEnd
    /-- R280. A write of QlpNodeId takes effect after its response, ending transfers and the session. -/
  | qlpNodeIdWrite (req : Req) (value : Nat)
    /-- R299. A CAN frame finishes or loses arbitration and the controller offers the next frame. -/
  | canTxDone (ch : Fin 2) (won : Bool) (sofDelay : Nat) (tdcNs : Nat)
    /-- R300. A response waits 10 ms for a FIFO entry and is discarded. -/
  | responseQueueTimeout (link : Fin 3)
    /-- R282. A channel's error confinement changes state to passive or bus-off. -/
  | canBusOff (ch : Fin 2) (txErr rxErr : Nat) (busOff : Bool)
    /-- R282. After 128 occurrences of 11 recessive bits the channel leaves bus-off. -/
  | canBusOffRecovery (ch : Fin 2)
    /-- R283. An accepted bit timing takes effect 100 ms after its response. -/
  | canTimingApply (ch : Fin 2)
    /-- R309. A LighthousePeriod multiple of device time falls due and the lighthouse frame is loaded. -/
  | lighthouseDue (ch : Fin 2)
    /-- R307. A valid PTP sync exchange yields an offset that is applied under R305. -/
  | ptpSyncReceived (sync : PtpSync) (interval16 : Nat) (master : PtpAnnounce) (utcOffset : Int)
    /-- R307. No valid sync for 8 intervals or 10 s; time goes to holdover. -/
  | ptpHoldoverTimeout
    /-- R306. A pending forward step is applied at the next tally instant after its journal record. -/
  | timeStepApply
    /-- R303. The 60 s time mark is committed to the journal. -/
  | timeMarkCommit (worn : Bool)
    /-- R308. One hour after a TIME_SET, TimeSyncState moves from locked to holdover. -/
  | timeSetLockExpiry
    /-- R314. A write of EventAcknowledge clears the latch of a non-tripping source. -/
  | eventAcknowledge (req : Req) (value : BitVec 16)
    /-- R315. A stream's PERIOD multiple falls due and its snapshot is copied and sent. -/
  | streamSnapshotDue (stream : Fin 8)
    /-- R310. The PHY reports link-up and a gratuitous ARP is sent. -/
  | ethLinkUp (fast full : Bool)
    /-- R310. An ARP request for the device's address is answered. -/
  | arpRequest (targetIp : Nat) (sender : Nat)
    /-- R310. An ICMP echo request is answered within the rate limit. -/
  | icmpEchoRequest (len : Nat) (fragment : Bool) (sender : Nat)
    /-- R335. A manifest file is checked, committed as a save and takes effect with enumeration. -/
  | manifestFileWrite (req : Req) (file : List Byte)
    /-- R339. A write of ManifestAdoptUids copies found UIDs into records with UID 0 and commits. -/
  | manifestAdoptUids (req : Req) (mask : Byte)
    /-- R343. ConfigCommand 1 commits the running configuration as a new image. -/
  | configSave (req : Req)
    /-- R341. ConfigCommand 2 re-applies the newest valid saved image. -/
  | configDiscard (req : Req)
    /-- R341. ConfigCommand 3 sets every saved object except link settings to default. -/
  | configFactoryDefaults (req : Req)
    /-- R345. A write of ConfigImage is checked, applied and committed. -/
  | configImageImport (req : Req) (image : List Byte)
    /-- R352. Filtered BERTH_IN changes; an armed standby claims, or a conflict timer starts. -/
  | berthInChange (level : Bool)
    /-- R352. BERTH_IN has been low for the claim wait and the requested claim is asserted. -/
  | claimWaitExpiry
    /-- R352. BERTH_IN high for 10 µs or 100 µs makes the device withdraw its claim. -/
  | claimConflictWithdraw
    /-- R352. The compute die's last refresh is 10 ms old; the claim is withdrawn. -/
  | claimRefreshTimeout
    /-- R352. BERTH_IN has been high for 2 ms while holding; every output is released. -/
  | holdingRelease
    /-- R357. Holding reaches 20 ms with no taker; the fail-safe states are applied and 0xEC raised. -/
  | holdingTimeout
    /-- R370. A HANDOVER OFFER arrives; the incoming device checks the mirror and accepts or refuses. -/
  | handoverOffer (tally : BitVec 32) (tail : DupTail)
    /-- R370. A HANDOVER ACCEPT arrives; the outgoing device withdraws and enters holding. -/
  | handoverAccept (tally : BitVec 32) (tail : DupTail)
    /-- R370. A HANDOVER REFUSE arrives; the outgoing device keeps the berth. -/
  | handoverRefuse (tally : BitVec 32) (tail : DupTail)
    /-- R370. A HANDOVER TAKEN frame reports the claim taken by the partner. -/
  | handoverTaken (tally : BitVec 32) (tail : DupTail)
    /-- R367. A CHAIN_REQ from the holder makes the partner launch a train from its port. -/
  | chainReq (ring : Fin 4) (command : List Byte) (latest : Nat) (tail : DupTail)
    /-- R367. A forwarded chain frame is decoded by the holder as if received at its own port. -/
  | chainFwd (ring : Fin 4) (decodedAt : Nat) (frame : List Byte) (tail : DupTail)
    /-- R363. A TALLY frame gives the non-holder its tally index and period. -/
  | duplexTally (index : BitVec 32) (period time : Nat) (tail : DupTail)
    /-- R362. A MIRROR frame is adopted by the standby and loaded as shadow states. -/
  | mirror (m : Mirror) (tail : DupTail)
    /-- R364. A HELLO frame updates partner data and the configuration match. -/
  | hello (h : Hello) (tail : DupTail)
    /-- R366. A RING_DELAYS frame gives the partner's hop delays and round trip for one ring end. -/
  | ringDelays (payload : List Byte) (tail : DupTail)
    /-- R361. 1 ms without a valid duplex frame; the link is declared down. -/
  | duplexLinkDown
    /-- R361. 100 ms of valid frames; the link is declared up. -/
  | duplexLinkUp
    /-- R370. BerthCommand 1 at the holder starts a graceful hand-over. -/
  | berthHandOver (req : Req)
    /-- R370. BerthCommand 2 at an armed standby asks the holder to hand over. -/
  | berthTake (req : Req)
    /-- R374. A preferred standby armed for BerthRevertTime, or 10 s after a REFUSE, requests a hand-over. -/
  | berthRevert
    /-- R369. No holder trigger for 2 tallies; the standby sweeps rings from its own end. -/
  | standbyTakeoverSweep (ring : Fin 4)
    /-- R381. The open log record reaches 10 s and is sealed. -/
  | logRecordSealTimeout
    /-- R384. Staged records are programmed into the current page and read back. -/
  | logProgram (failing : List (Fin 256))
    /-- R382. Every 60 s with pending suppressed counts, 0xB209 is written. -/
  | logSuppressedReport
    /-- R390. A write of LogClear with the confirmation code starts a new generation with 0xB201. -/
  | logClear (req : Req) (code : BitVec 32)
    /-- R386. VAUX falls below 17.0 V and the log flushes its staged records. -/
  | logFlushLevel (vauxMv : Nat)
    /-- R386. VAUX has been 17.0 V or more for 100 ms after a flush; 0xB207 is written. -/
  | supplyRecovery (vauxMv : Nat)
    /-- R393. VAUX falls through 15.0 V; the early warning asserts, flash starts stop and loads are shed. -/
  | brownOutWarning (vauxMv : Nat)
    /-- R393. VAUX has been 16.0 V or more for 100 ms; the warning clears and shed channels return. -/
  | brownOutClear (vauxMv : Nat)
    /-- R393. VAUX falls below 11.0 V, or a regulator fault occurs; every output goes off and both dies reset. -/
  | powerDieReset (vauxMv : Nat)
    /-- R452. VDDC or VDDIO stays out of range for 10 µs, causing a power-die reset. -/
  | regulatorFault (vddcMv vddioMv : Nat)
    /-- R396. VAUX first reaches 16.0 V and the power-die oscillators start. -/
  | powerOn (vauxMv : Nat)
    /-- R396. 5 ms after the start level the power-die reset is released and the safety pairs start in demand. -/
  | powerDieResetRelease (berthPref : Bool)
    /-- R396. The PLL and supplies are ready; the compute-die reset is released, SRAM is zeroised and a boot slot
  chosen. -/
  | computeDieResetRelease
    /-- R396. Scans, configuration, tables and checks finish; STARTUP clears and 0xF5 is raised. -/
  | startupComplete (c : StartupChecks)
    /-- R398. 40 ms of IDLE end chain wake and enumeration begins. -/
  | chainWakeEnd (ring : Fin 4)
    /-- R399. Trust has been absent for 1,000 ms; the power die resets the compute die. -/
  | watchdogEscalation
    /-- R400. RESET_N low for 10 µs resets the compute die and holds it. -/
  | resetNAssert
    /-- R400. RESET_N returns high and the compute die starts. -/
  | resetNRelease
    /-- R401. DeviceResetCommand 1 resets the compute die after the response, unless a driver is energised. -/
  | deviceResetCommand (req : Req) (value : Nat)
    /-- R403. MooredCommand 1 starts entry into moored-watch. -/
  | mooredWatchCommand (req : Req)
    /-- R403. MooredCommand 2 starts entry into moored-dark. -/
  | mooredDarkCommand (req : Req)
    /-- R404. The mooring flush completes; the compute die is held in reset and, for dark, AUXEN falls. -/
  | mooredEntryComplete
    /-- R406. An enabled wake input meets its condition and the device starts. -/
  | mooredWake (w : WakeSource)
    /-- R408. Strings open and low cells have held for 60 s; moored-dark entry starts automatically. -/
  | mooredDarkAuto
    /-- R416. A wrapped site key is checked and programmed into the lowest empty slot. -/
  | siteKeyWrite (req : Req) (blob : List Byte)
    /-- R416. A wrapped module master key is programmed and the ring is re-authenticated. -/
  | moduleKeyWrite (req : Req) (ring : Fin 4) (blob : List Byte)
    /-- R417. LifeCycleCommand 1 takes BLANK to COMMISSIONING, erasing areas and programming the fuse. -/
  | lifecycleCommission (req : Req) (value : BitVec 32)
    /-- R417. LifeCycleCommand 2 enters IN SERVICE when LifeCycleBlock is 0. -/
  | lifecycleInService (req : Req) (value : BitVec 32)
    /-- R417. LifeCycleCommand 3 enters MAINTENANCE. -/
  | lifecycleMaintenance (req : Req) (value : BitVec 32)
    /-- R419. LifeCycleCommand 4 with confirmation retires the device, writing the tombstone and wiping keys and
  data. -/
  | lifecycleRetire (req : Req) (value : BitVec 32)
    /-- R422. A write of TamperAcknowledge clears named indicators. -/
  | tamperAcknowledge (req : Req) (mask : BitVec 32)
    /-- R424. FirmwareCommand 1 starts erasing the inactive slot. -/
  | firmwareBegin (req : Req)
    /-- R424. The slot erase completes and the slot goes to writing. -/
  | firmwareEraseDone
    /-- R424. A FirmwareChunk element is programmed and read back. -/
  | firmwareChunkWrite (req : Req) (chunk : Fin 64) (bytes : List Byte)
    /-- R424. FirmwareCommand 2 checks the image against Table 13-14. -/
  | firmwareVerify (req : Req)
    /-- R425. FirmwareCommand 3 marks a verified slot as trial and resets the compute die. -/
  | firmwareActivate (req : Req)
    /-- R424. FirmwareCommand 4 returns the slot to empty. -/
  | firmwareAbort (req : Req)
    /-- R426. FirmwareTrialTime passes after STARTUP cleared; the trial image becomes active. -/
  | firmwareTrialConfirm
    /-- R429. A die sensor conversion completes every 100 µs. -/
  | dieSensorConversion (readings : List Int)
    /-- R430. A sensor is out of range, deviant for 1 s or not converting; it reads 125 °C and raises 0xE2. -/
  | dieSensorBroken (sensor : Fin 12) (late : Bool)
    /-- R433. Three consecutive conversions at or above a threshold enter the stage. -/
  | throttleStageEnter (scope : Fin 4) (stage : Fin 5)
    /-- R433. The temperature has stayed 5 °C below the threshold for 100 ms and the stage is left. -/
  | throttleStageLeave (scope : Fin 4) (stage : Fin 5)
    /-- R431. No compute-die temperature frame for 10 ms; the power die uses 125 °C. -/
  | dieTempFrameTimeout
    /-- R434. At stage 3 entry and every 5 s without a 1 °C fall, one channel is shed. -/
  | thermalShed
    /-- R434. Every 10 s after stage 3 is left, one thermally shed channel is restored. -/
  | thermalRestore
    /-- R438. A scrub pass reads every SRAM word and corrects single-bit errors. -/
  | scrubPass (corrected : Nat)
    /-- R439. The 600 s reference conversion updates each converter's gain trim or raises 0xFD. -/
  | converterCalibration (conv : Fin 8) (ppm : Int)
    /-- R441. The 24 h checks of firmware, calibration, table copies and configuration run. -/
  | integrityCheck (c : Integrity)
    /-- R442. A write of DeviceSelfTestRequest queues the selected tests. -/
  | deviceSelfTestRequest (req : Req) (value : BitVec 32)
    /-- R442. The requested self-tests complete and the result is filled. -/
  | deviceSelfTestDone (found : TestFound)
    /-- R252. A load-switch output reaches or leaves its current limit, setting or clearing LIMITING and starting or
  stopping the LsLimitTime count. -/
  | lsLimiting (ls : Fin 16) (reached : Bool)
    /-- R271. The gate supply rises back above its undervoltage lockout, clearing GATE_UV and letting the coasting
  channel restart by catch-spin or start. -/
  | gateSupplyRecovered (md : Fin 4)
    /-- R270. A motor channel has run 60 s without a trip, so its MotorRetryCount returns to 0 under R254 as R270
  applies it. -/
  | motorRetryCountReset (md : Fin 4)
    /-- R318. The external PHY reports the Ethernet link down, raising source 0xD4. -/
  | ethLinkDown
    /-- R361. With nothing else to send for 100 µs, the device sends HELLO followed by one RING_DELAYS frame on the
  duplex link. -/
  | duplexHelloSend
    /-- R353. The standby's power die has had no refresh with arming for 10 ms, so it is no longer armed and will
  not claim when BERTH_IN falls. -/
  | armingRefreshTimeout
deriving DecidableEq, Repr

end Sys2Proof
end

