-- ==== Sys2Proof/Machine/State.lean ====
section
/-! DEFINITION. Sys2Proof/Machine/State.lean: everything the spec gives the device, as plain data.

The objects of the dictionary (R320 to R347 and the object tables of every chapter) have one home, `State.objs`, keyed
by index × 65,536 + subindex; an unlisted element reads as the default of its table. State that the manual names or
implies beside the objects stands in the records below, each field with the rule that names it. `mono` in a field's
text means local time in µs, counted since power was first applied (`Clock.mono`). -/

namespace Sys2Proof.Machine

/-- Sparse data by key in canonical form: keys strictly rising, no entry equal to what an unlisted key reads as. -/
abbrev SMap (α : Type) := List (Nat × α)

/-- R1, R4: the two variants of the part. -/
inductive Variant
  | qb2048 | qb1024
deriving DecidableEq, Repr

/-- R414, Table 13-8: the OTP key store. -/
structure Otp where
  /-- R414: site key K_site, slots 0 to 3, 32 bytes each (empty list: unwritten). -/
  siteKeys : SMap (List Byte) := []
  /-- R414: module master keys K_M, ring × 4 + generation, 16 bytes each. -/
  moduleKeys : SMap (List Byte) := []
  /-- R414: revoked bits, site slots 0 to 3 then module slots 4 to 19. -/
  revoked : List Nat := []
  /-- R414, R426: security floor, the number of thermometer bits set. -/
  floor : Nat := 0
  /-- R414, R419: the RETIRED fuse. -/
  retired : Bool := false
  /-- R413: the COMMISSIONED fuse. -/
  commissioned : Bool := false
  /-- R414: transport key K_T (factory). -/
  kT : List Byte := List.replicate 16 0
  /-- R74, R414: device-internal challenge key (factory). -/
  kChallenge : List Byte := List.replicate 16 0
  /-- R414: Snirriant firmware public key, P-256 x coordinate (factory). -/
  fwX : Nat := 0
  /-- R414: Snirriant firmware public key, P-256 y coordinate (factory). -/
  fwY : Nat := 0
deriving DecidableEq, Repr

/-- R29, R302 to R308: device time, local time and discipline. -/
structure Clock where
  /-- R306: local time in µs since power was first applied; every timer is measured in it. -/
  mono : Nat := 0
  /-- R29: device time, 64-bit count of µs. -/
  now : Nat := 0
  /-- R305: fraction of a µs that the rate change has accumulated, in 10⁻⁹ µs. -/
  frac : Int := 0
  /-- R305: the offset still to be slewed, in ns. -/
  slewNs : Int := 0
  /-- R307: the rate kept from the last synchronisation, in ppb. -/
  rateHold : Int := 0
  /-- R306: a forward step (ns) that waits for the next tally instant. -/
  stepNs : Option Nat := none
  /-- R305, R409 kind 2: EVER_SYNCED. -/
  everSynced : Bool := false
  /-- R305: a first offset has been measured. -/
  measured : Bool := false
  /-- R303: RESUMED. -/
  resumed : Bool := false
  /-- R305: AHEAD. -/
  ahead : Bool := false
  /-- R308: local time of the last accepted TIME_SET. -/
  timeSetAt : Option Nat := none
  /-- R307: local time of the last valid PTP sync. -/
  lastSync : Option Nat := none
  /-- R307: the master's sync interval in 1/16 s. -/
  syncInterval16 : Nat := 16
  /-- R307: consecutive syncs with |Δ| ≤ 10 µs. -/
  goodSyncs : Nat := 0
  /-- R303: domain 8 has run since device time was last kept (false after a loss of VAUX). -/
  rtcRunning : Bool := false
  /-- R28: the frequency monitor is on its domain-7 fallback. -/
  fallback8 : Bool := false
  /-- R28: local time since which both monitored domains have been within tolerance. -/
  clockGoodSince : Option Nat := none
  /-- R28: domain 1, domain 5 was faulty in the last gate. -/
  faulty1 : Bool := false
  faulty5 : Bool := false
  /-- R303: local time of the last committed time mark. -/
  markAt : Nat := 0
deriving DecidableEq, Repr

/-- R403 to R408: moored modes. -/
inductive Mooring
  | none | enterWatch | enterDark | watch | dark
deriving DecidableEq, Repr

/-- R395: the three conditions of `AUXEN`. -/
inductive Pin
  | undriven | low | high
deriving DecidableEq, Repr

/-- R393 to R402: supply levels and resets, kept by the power die. -/
structure Power where
  /-- R393: last VAUX reported by a level event, mV. -/
  vauxMv : Nat := 0
  /-- R396: VAUX has reached the start level and the power-die oscillators run. -/
  started : Bool := false
  /-- R396: local time of the start level. -/
  startAt : Nat := 0
  /-- R396: the power die is out of reset. -/
  pdUp : Bool := false
  /-- R396: the compute die is out of reset and its firmware runs. -/
  cdUp : Bool := false
  /-- R399, `Uptime`: local time of the last compute-die reset release. -/
  cdSince : Nat := 0
  /-- R26, R396: the main PLL runs, so that the domains it feeds can be judged (R28). -/
  pll : Bool := false
  /-- R28: the clock monitor holds the compute die in reset. -/
  holdClock : Bool := false
  /-- R400: `RESET_N` holds the compute die in reset. -/
  holdResetN : Bool := false
  /-- R403, R404: the moored mode. -/
  mooring : Mooring := .none
  /-- R404: local time of the moored-entry acceptance. -/
  mooringAt : Nat := 0
  /-- R404, Table 13-5: what is still to do of the entry: 0 the commits, 1 the flush, 2 neither. -/
  moorStep : Nat := 0
  /-- R393: the brown-out early warning is asserted. -/
  warning : Bool := false
  /-- R386: the log has flushed below 17.0 V and not yet recovered. -/
  flushed : Bool := false
  /-- R395: the level of `AUXEN`. -/
  auxen : Pin := .undriven
  /-- R402: the cause that the next compute-die start reports in `ResetCause`. -/
  cause : Nat := 0
  /-- R41: reasons (source, instance) of events the compute die could not see. -/
  reasons : List (Nat × Nat) := []
  /-- R41: the first activation's instance of each power-die source kept during a compute-die outage. -/
  kept : SMap Nat := []
  /-- R387: the highest log sequence the writer has assigned. -/
  logSeq : Nat := 0
  /-- R399: local time of the last watchdog-escalation reset. -/
  escalatedAt : Nat := 0
  /-- R232: local time of the start of the first off-pulse interval. -/
  pulseFrom : Nat := 0
  /-- R244: the power die's own copies of safety elements, by element key, listed where one differs from the element that the
  compute die stores. -/
  copies : SMap Nat := []
deriving DecidableEq, Repr

/-- R33 to R35: the serial watchdog. -/
structure Watchdog where
  /-- R24, R35: the power die trusts the compute die. -/
  trusted : Bool := false
  /-- R33: window length in force, ms. -/
  windowMs : Nat := 20
  /-- R34: local time of the window start. -/
  windowAt : Nat := 0
  /-- R34: the question Q. -/
  question : Byte := 0
  /-- R34: position in the power die's internal question sequence (MODEL: index of a free value). -/
  qIndex : Nat := 0
  /-- R34: correct answers accepted in this window, 0 to 4. -/
  answers : Nat := 0
  /-- R33: an answer of this window was wrong, out of order or early. -/
  bad : Bool := false
  /-- R35: consecutive windows with four correct answers. -/
  goodWindows : Nat := 0
  /-- R399: local time since which trust has been absent. -/
  absentSince : Nat := 0
  /-- R32: the compute die has stopped answering. -/
  stopped : Bool := false
  /-- R33, R194: the fail-safe states are applied. -/
  failSafe : Bool := false
  /-- R194: instance byte of the source that reports why the fail-safe states were applied. -/
  failInst : Nat := 0
deriving DecidableEq, Repr

/-- R31, Table 1-6: what waits to be sent on the inter-die link: its class, and what it says, numbered within the class
(MODEL: the numbering, log entry 6): class 0: the string of a hardware trip, 16 + pair × 2 + 1 where safe-off is asserted
(+ 0 where it is released), 32 + reason of a claim withdrawn, 64 + 1 or 0 for the safe-off of R229; class 1: 3 × number of a
watchdog question, + 1 its verdict, and 3 × answer + 2; class 2: 16 × output + command; class 3: a current channel,
8 + string of a fast-path verdict, 16 + 4 × pair + 2 × channel + level of a safety input; class 4: 4 × the number of refusals
so far, 1 for the power-die temperatures, 2 for the supply level, 3 + 4 × driver for the readback of an output; class 5:
65,536 + the compute die's temperature, or the index of an object written. -/
structure LinkMsg where
  cls : Nat
  content : Nat
deriving DecidableEq, Repr

/-- R31, R32: one side of the inter-die link. -/
structure LinkSide where
  /-- R31: messages waiting to be sent, in order of arrival. -/
  waiting : List LinkMsg := []
  /-- R32: the sequence number expected next. -/
  next : Byte := 0
  /-- R32: valid frames are discarded until the resend arrives. -/
  await : Bool := false
  /-- R32: consecutive bad frames. -/
  bad : Nat := 0
  /-- R32: local time of the last valid frame. -/
  lastValid : Nat := 0
  /-- R32: this side has declared the link lost. -/
  lost : Bool := false
  /-- R31: the sequence number of the next frame sent. -/
  txSeq : Byte := 0
  /-- R19, R31: frames that this direction has carried so far (MODEL: what tells consecutive frames apart). -/
  frames : Nat := 0
  /-- R32: the last 16 frames sent, oldest first. -/
  sent : List LinkFrame := []
  /-- R32: frames waiting to be sent again, ahead of any new frame. -/
  resend : List LinkFrame := []
  /-- R32: resend requests waiting to be sent (the sequence each names). -/
  requests : List Byte := []
  /-- R32: local time of the last frame sent. -/
  sentAt : Nat := 0
  /-- R31: frames received valid and in sequence, newest first, as delivered. -/
  delivered : Option LinkFrame := none
deriving DecidableEq, Repr

/-- R183 to R187, R232 to R237: one contactor driver. -/
structure Driver where
  /-- Table 6-4 bit 0. -/
  energised : Bool := false
  /-- Table 6-4 bit 1: economised hold. -/
  hold : Bool := false
  /-- R185: local time of energising. -/
  energisedAt : Nat := 0
  /-- R232: local time of hold entry. -/
  holdAt : Nat := 0
  /-- Table 6-3: OPEN_COIL. -/
  openCoil : Bool := false
  /-- Table 6-3: SHORT_HS. -/
  shortHs : Bool := false
  /-- Table 6-3: SHORT_LS. -/
  shortLs : Bool := false
  /-- Table 6-3: REGULATION. -/
  regulation : Bool := false
  /-- Table 6-3: OVERTEMP. -/
  overtemp : Bool := false
  /-- Table 6-4 bit 7: FAILSAFE_OPENED. -/
  failsafe : Bool := false
  /-- R234: the low-side switch passed its last test. -/
  lsOk : Bool := true
  /-- R234: the high-side switch passed its last test. -/
  hsOk : Bool := true
  /-- R232: 0 no pulse, 1 low-side pulse, 2 high-side pulse in progress. -/
  pulse : Nat := 0
  /-- R232: local time of the pulse start. -/
  pulseAt : Nat := 0
  /-- R234: the pulse in progress has been judged. -/
  pulseJudged : Bool := false
  /-- R246: the last off-state check failed. -/
  offFailed : Bool := false
  /-- R237: the driver is due at once (role assigned, or `WeldClear`). -/
  dueNow : Bool := false
  /-- R237: the driver is due (bit of `OpeningProofDue`). -/
  due : Bool := false
  /-- R237: elapsed time at which the driver became due. -/
  dueAt : Nat := 0
  /-- R237: the driver is overdue. -/
  overdue : Bool := false
  /-- R226: the safe-off path holds the low-side switch off. -/
  lowOff : Bool := false
  /-- R185, R186, R234: the high-side and the low-side switch are on (an off-pulse in progress apart). -/
  hs : Bool := false
  ls : Bool := false
  /-- R185, R235: the hold current in force, mA. -/
  holdMa : Nat := 0
  /-- R187: the conditions of Table 6-3 that are present, and the local time of their detection. -/
  conds : List (CoilFault × Nat) := []
  /-- R232, R233: local times of the last pulse or off-state check at the driver's two offsets. -/
  testedLow : Option Nat := none
  testedHigh : Option Nat := none
  /-- R19: the frame (see `LinkSide.frames`) and the local time of the last open request, and of the last close or
  sequence-step request, that the power die executed. -/
  openReqAt : Option (Nat × Nat) := none
  closeReqAt : Option (Nat × Nat) := none
deriving DecidableEq, Repr

/-- R250 to R261: one load switch, as the power die holds it. -/
structure LoadSw where
  /-- R251: the command the power die applies, 0 off, 1 on, 2 PWM. -/
  mode : Nat := 0
  /-- R251: applied duty, 0.1 %. -/
  duty : Nat := 500
  /-- R251: applied frequency, Hz. -/
  freq : Nat := 100
  /-- Table 8-2: ON. -/
  on : Bool := false
  /-- Table 8-2: LIMITING. -/
  limiting : Bool := false
  /-- R252: local time since which the channel limits. -/
  limitSince : Nat := 0
  /-- Table 8-2: OVERCURRENT. -/
  overcurrent : Bool := false
  /-- Table 8-2: LATCH. -/
  latch : Bool := false
  /-- Table 8-2: RETRY_PENDING. -/
  retryPending : Bool := false
  /-- Table 8-2: LOCKED_OFF. -/
  lockedOff : Bool := false
  /-- R260: shed by the governor. -/
  shedGov : Bool := false
  /-- R258: shed at the brown-out warning. -/
  shedBrown : Bool := false
  /-- Table 8-2: SHED_THERMAL. -/
  shedThermal : Bool := false
  /-- Table 8-2: FAILSAFE_APPLIED. -/
  failsafe : Bool := false
  /-- R255: turn on when the latch clears. -/
  clearPending : Bool := false
  /-- R254: `LoadSwitchRetryCount`, kept by the power die. -/
  retries : Nat := 0
  /-- R254: local time of the last trip. -/
  tripAt : Nat := 0
  /-- R254: on-time accumulated without a trip before `onSince`, ns. -/
  onTime : Nat := 0
  /-- R256: on-time since the channel last turned on, before `onSince`, ns. -/
  spell : Nat := 0
  /-- R254: local time since which the channel has been on as it is now commanded. -/
  onSince : Nat := 0
  /-- R256: local time at which the channel went off. -/
  offSince : Nat := 0
  /-- Table 8-2: ON_OPEN_LOAD. -/
  onOpen : Bool := false
  /-- Table 8-2: OFF_OPEN_LOAD. -/
  offOpen : Bool := false
  /-- Table 8-2: OFF_SHORT_SUPPLY. -/
  offShort : Bool := false
  /-- R260: last estimated contribution, µW. -/
  contrib : Nat := 0
deriving DecidableEq, Repr

/-- R262 to R272: one motor channel, as the power die holds it. -/
structure Motor where
  /-- Table 8-5: STATE 0 to 7. -/
  st : Nat := 0
  /-- R266: the speed command the power die applies, rpm. -/
  cmd : Nat := 0
  /-- R266: `MotorSpeedRef`, in 0.001 rpm. -/
  ref : Nat := 0
  /-- R266: integral of the speed loop, %. -/
  integ : Rat := 0
  /-- Table 8-5: FAILSAFE_APPLIED. -/
  failsafe : Bool := false
  /-- Table 8-5: SHED. -/
  shed : Bool := false
  /-- Table 8-5: SHED_THERMAL. -/
  shedThermal : Bool := false
  /-- Table 8-5: LOCKED_OFF. -/
  lockedOff : Bool := false
  /-- Table 8-5: RETRY_PENDING. -/
  retryPending : Bool := false
  /-- Table 8-5: LATCH. -/
  latch : Bool := false
  /-- Table 8-5: VDS_TRIP. -/
  vdsTrip : Bool := false
  /-- Table 8-5: CURRENT_LIMIT. -/
  currentLimit : Bool := false
  /-- Table 8-5: DECEL_HELD. -/
  decelHeld : Bool := false
  /-- Table 8-5: GATE_UV. -/
  gateUv : Bool := false
  /-- Table 8-5: VMOT_COAST. -/
  vmotCoast : Bool := false
  /-- R262: coasting because domain 10 is absent. -/
  clockLost : Bool := false
  /-- R264: the commutation step driven, 0 to 5. -/
  step : Nat := 0
  /-- R270: commutations forced in the present open-loop start. -/
  forced : Nat := 0
  /-- R276: the channel has fallen back to coasting from zero-vector braking, which has not ended. -/
  fellBack : Bool := false
  /-- R268: the last plausible zero-crossing interval, ns. -/
  interval : Nat := 0
  /-- R268, R269: local time of the last zero crossing. -/
  crossAt : Nat := 0
  /-- R268: local time at which the next commutation is due. -/
  commAt : Option Nat := none
  /-- R269: local time of entry into the present STATE. -/
  stAt : Nat := 0
  /-- R270: ω_loss, rpm. -/
  lossSpeed : Nat := 0
  /-- R270: local time of the loss. -/
  lossAt : Nat := 0
  /-- R270: step of Table 8-4 in progress, 2 to 6; 0 none. -/
  recStep : Nat := 0
  /-- R270: end (local time) of the wait of step 2. -/
  waitUntil : Nat := 0
  /-- R270: step of the attempt that follows `MdRetryDelay`, 3, 4 or 5; 0 none. -/
  nextStep : Nat := 0
  /-- R270: `MotorRetryCount`, kept by the power die. -/
  retries : Nat := 0
  /-- R270: local time of the last failed attempt or trip. -/
  tripAt : Nat := 0
  /-- R270: the attempt in progress consumes a retry. -/
  counts : Bool := false
  /-- R271: local time since which the limit has acted in every period, and how long into the last one it acted, ns. -/
  limitSince : Nat := 0
  limitNs : Nat := 0
  /-- R270 as R254: local time since which the channel has been in STATE 3, and the time it ran before, without a trip or
  a consumed retry, µs. -/
  runSince : Nat := 0
  runTime : Nat := 0
  /-- R397 item 4: LOCKED_OFF until the next compute-die reset. -/
  offsetFault : Bool := false
  /-- R260: last estimated contribution, µW. -/
  contrib : Nat := 0
deriving DecidableEq, Repr

/-- R273 to R277: VMOT and the brake chopper. -/
structure Vmot where
  /-- Table 8-6a: ON. -/
  brakeOn : Bool := false
  /-- Table 8-6a: FAULTY. -/
  faulty : Bool := false
  /-- Table 8-6a: ABS_LIMIT: VMOT above `VmotAbsLimit`. -/
  absLimit : Bool := false
  /-- R277: VMOT has exceeded `VmotAbsLimit` and the channels have not resumed since. -/
  absWait : Bool := false
  /-- Table 8-6a: HOLD. -/
  hold : Bool := false
  /-- R273: VMOT has fallen below `VmotUnderLevel` and not recovered. -/
  under : Bool := false
  /-- R275: local time of the chopper's turn-on. -/
  onAt : Nat := 0
  /-- R275: VMOT at that turn-on, mV. -/
  onMv : Nat := 0
  /-- R273, R277: local time since which VMOT has recovered. -/
  goodSince : Option Nat := none
deriving DecidableEq, Repr

/-- R259, R260: the dissipation governor. -/
structure Governor where
  /-- R259: the last 100 estimates (µW), newest first. -/
  window : List Nat := []
  /-- R260: 0xCF has been raised in this excursion. -/
  excursion : Bool := false
  /-- R260: local time since which the mean has been at or below 0.8 × budget. -/
  okSince : Option Nat := none
  /-- R260: local time of the last 100 ms boundary acted on. -/
  boundaryAt : Nat := 0
deriving DecidableEq, Repr

/-- R222 to R229: one safety input pair. -/
structure Pair where
  /-- Table 7-2 and Table 7-9 STATE: 0 run, 1 demand, 2 discrepancy pending, 3 fault. -/
  st : Nat := 1
  /-- Table 7-9 SIA: filtered level of channel A. -/
  a : Bool := true
  /-- Table 7-9 SIB: filtered level of channel B. -/
  b : Bool := false
  /-- Table 7-9 SAFE_OFF: the pair holds safe-off asserted. -/
  safeOff : Bool := true
  /-- Table 7-9 SELFTEST_FAIL. -/
  selfTestFail : Bool := false
  /-- R222: the filters have counted a level since the power-die reset (channel A, channel B). -/
  counted : Bool × Bool := (false, false)
  /-- R222: the levels at the balls, none before the first one seen, and the local times since which they have held. -/
  ballA : Option Bool := none
  ballB : Option Bool := none
  heldA : Nat := 0
  heldB : Nat := 0
  /-- R224: local time at which t_D, or the change in progress, started. -/
  since : Nat := 0
  /-- R224: in fault, the demand step of the release sequence is done. -/
  sawDemand : Bool := false
  /-- R224: in fault, how many channels stood at the run level when the change in progress started: 2 or 0; none where it
  began with the channels at different levels, or none is in progress. -/
  origin : Option Nat := none
  /-- R226: instance byte of an assertion whose report has not reached the compute die. -/
  report : Option Nat := none
  /-- R226: a release whose report has not reached the compute die. -/
  releasing : Bool := false
deriving DecidableEq, Repr

/-- R189 to R217: one string's contactor logic beside its objects. -/
structure Str where
  /-- R205: local time of entry into the state. -/
  since : Nat := 0
  /-- R205: local time of the action named in the row (positive or negative main or pre-charge de-energised). -/
  actAt : Nat := 0
  /-- R205: which drop time is awaited: in CLOSING 1 once pre-charge is de-energised; in OPENING 1 once the negative
  main is. -/
  phase : Nat := 0
  /-- R372: after a failure hand-over in OPENING, the local time at which the drop time of the drivers has elapsed. -/
  openAt : Option Nat := none
  /-- R207: |ΔV| at entry into PRECHARGE was at least `WeldCheckMinDelta` (checks apply). -/
  checks : Bool := false
  /-- R207: t0, local time. -/
  t0 : Option Nat := none
  /-- R207: tally index at t0. -/
  t0Tally : Nat := 0
  /-- R207: ΔV0, mV. -/
  dv0 : Int := 0
  /-- R208: current at t0, mA. -/
  i0 : Int := 0
  /-- R208: τ_meas, µs. -/
  tau : Option Nat := none
  /-- R209: local times of the pre-charge failures within 900 s. -/
  fails : List Nat := []
  /-- R209: local time at which the cooldown ends. -/
  cooldownEnd : Option Nat := none
  /-- R213: |current| in the tally before the positive main was de-energised, mA. -/
  openMa : Nat := 0
  /-- R213: the opening found a welded contactor, so the string ends in WELDED. -/
  endWelded : Bool := false
  /-- R214: |current| before the trip, mA, and its local time, until the check has run. -/
  trip : Option (Nat × Nat) := none
  /-- R192: the string's closes are blocked until the trip is acknowledged (R19). -/
  tripBlock : Bool := false
  /-- R195: requested-open causes 1 to 4 present. -/
  causes : List Nat := []
  /-- R195: local time until which cause 3 counts as present after the string has opened. -/
  cause3Until : Option Nat := none
  /-- R195: local time since which `StringCurrentSource` has been 3. -/
  noneSince : Option Nat := none
  /-- R201: the 1 s mean exceeds the applied 2 s limit of a direction (charge, discharge) by more than the margin, since this
  local time. -/
  overCharge : Option Nat := none
  overDischarge : Option Nat := none
  /-- R212, R372: local time at which `OpenRampTimeout` has elapsed. -/
  rampEnd : Nat := 0
  /-- R212: local time of the last 0x98 + n for a current above `ContactorBreakMax`. -/
  breakAt : Option Nat := none
  /-- R196: derating causes in force. -/
  derate : List Nat := []
  /-- R196: causes whose conditions have come in since the last contactor step, which lets them enter. -/
  derateIn : List Nat := []
  /-- R196: per cause code, local time since which its condition has been absent. -/
  derateOk : SMap Nat := []
  /-- R200, R201: (local time, `StringCurrent`, Σ `StringCurrent` of CLOSED strings) of the last 10 s, newest first. -/
  hist : List (Nat × Int × Int) := []
  /-- R146, R162, R201: (local time, `StringCurrent`) of the tallies published in the last second, newest first. -/
  current : List (Nat × Int) := []
  /-- R210: R_k, the sum of r_o × g_R over the string's estimated cells, µΩ. -/
  rUohm : Nat := 0
  /-- R204: a close (or opening test) waits for its turn. -/
  command : Nat := 0
deriving DecidableEq, Repr

/-- A train of commands in flight or queued on a ring (R59, R60, R82): the order of Table 3-2, the command frame from
CTRL to CRC, the hops that it asks to answer, and how often it has been repeated. -/
structure Train where
  order : Nat := 0
  frame : List Byte := []
  hops : List Nat := []
  tries : Nat := 0
  /-- R55, R58: the frame has been sent: its SEQ and START stand, and every repetition is byte for byte. -/
  sent : Bool := false
  /-- R76: the hops that a repetition still wants an answer of; none: every hop asked. -/
  wanted : Option (List Nat) := none
  /-- R60: local time of launch. -/
  at' : Nat := 0
  /-- R60: what the train was for has ended: its replies are taken no more, and its own end is still awaited. -/
  dead : Bool := false
deriving DecidableEq, Repr

/-- R65: the echo measurement of one hop from one end. -/
structure Echo where
  /-- R65: measurements taken, 0 to 16. -/
  n : Nat := 0
  /-- R65: sum of t1 − t0, in periods of domain 5. -/
  sum : Nat := 0
  /-- Table 2-10: smallest and largest measurement. -/
  lo : Nat := 0
  hi : Nat := 0
  /-- Table 2-10: the one repeat of 16 has been used. -/
  repeated : Bool := false
deriving DecidableEq, Repr

/-- R66, R475: what is measured on a ring outside enumeration: nothing; every hop anew, one ECHO per idle slot; or, after
the rejoin of a ring that was split when enumerated, what has not been measured yet. -/
inductive Remeasure
  | none | drift | rejoined
deriving DecidableEq, Repr

/-- R54: the two data bytes that follow TRG in a trigger. -/
structure Trigger where
  /-- SEQ, the low 8 bits of the tally index. -/
  seq : Byte
  /-- SEQ XOR 0xFF. -/
  check : Byte
deriving DecidableEq, Repr

/-- R48 to R76: one ring. -/
structure Ring where
  /-- R53, R69: the inbound lane of port CHAn, CHBn is lost. -/
  lostA : Bool := false
  lostB : Bool := false
  /-- R53: local time at which the lane of CHAn, CHBn was last lost. -/
  lostAtA : Nat := 0
  lostAtB : Nat := 0
  /-- R71, R476: links known to be broken, ascending; the ring is split at them. -/
  broken : List Nat := []
  /-- R71: links located in the present tally; the ring is split at them from the next one. -/
  located : List Nat := []
  /-- R72: broken links whose REJOINs are under way. -/
  asked : List Nat := []
  /-- R72: sides that have applied REJOIN, 2 × link + (1: the side towards the B-end). -/
  applied : List Nat := []
  /-- R54: the last trigger sent from the A-end, the B-end. -/
  trigA : Option Trigger := none
  trigB : Option Trigger := none
  /-- R398: local time at which chain wake began. -/
  wakeAt : Nat := 0
  /-- R64: the step of Table 2-9 in progress, 0 outside enumeration. -/
  enumStep : Nat := 0
  /-- R64: local time of entry into the step. -/
  enumAt : Nat := 0
  /-- R64: (position, UID) found by step 3 from the A-end, in order of arrival. -/
  foundA : List Nat := []
  /-- R64: UIDs found by step 4 from the B-end, in order of arrival. -/
  foundB : List Nat := []
  /-- R65: echo measurements, end × 32 + hop. -/
  echo : SMap Echo := []
  /-- R66: consecutive tallies with a trigger round trip more than 0.20 µs from R. -/
  drift : Nat := 0
  /-- R66, R475: the measurement under way outside enumeration, and whether this tally's ECHO has been sent. -/
  remeasure : Remeasure := .none
  echoed : Bool := false
  /-- R65, R66, R475: returns of a symbol still wanted for R; the sum and the number of those taken. -/
  wantR : Nat := 0
  sumR : Nat := 0
  cntR : Nat := 0
  /-- R60: the train in flight of the A-end and of the B-end. -/
  trainA : Option Train := none
  trainB : Option Train := none
  /-- R82: idle-slot work of the A-end and of the B-end, in arrival order. -/
  queueA : List Train := []
  queueB : List Train := []
  /-- R100: positions accounted for in this tally's sweep. -/
  accounted : List Nat := []
  /-- R50, R76: the valid SAMPLE accepted from each position in this tally (position, bytes). -/
  copies : SMap (List Byte) := []
  /-- R70, R76: positions declared missing in this tally. -/
  missing : List Nat := []
  /-- R70, R76: what has been declared missing in this tally: recovery × 64 + end × 32 + hop. -/
  declared : List Nat := []
  /-- R70: the sweeps of this tally that have left, newest first, each with its end. -/
  sweeps : List (Bool × Train) := []
  /-- R67: SEQ of this tally's sweep. -/
  sweepSeq : Byte := 0
  /-- R81: a sweep is in progress. -/
  sweeping : Bool := false
  /-- R76: local times of the errors of categories 0 to 5 within the last 1 s. -/
  errors : List Nat := []
  /-- R369: local time of the last trigger decoded from the holder's end (as a standby). -/
  holderTrigger : Nat := 0
  /-- R369: the standby sweeps this ring from its own end. -/
  takeover : Bool := false
  /-- R404: BALANCE with TIMER 0 and SLEEP are on their way. -/
  mooring : Bool := false
  /-- R404: SLEEP has been sent and the ports are silent. -/
  asleep : Bool := false
  /-- R59: replies of the train in flight decoded at port CHAn, CHBn (origin × 32 + hop), newest first. -/
  seenA : List Nat := []
  seenB : List Nat := []
  /-- R50, R76: the first copy of each reply of the train in flight, by origin × 32 + hop. -/
  replies : SMap (List Byte) := []
  /-- R64, R475: the ring was split when enumeration looked at it. -/
  split : Bool := false
  /-- R338: a UID that would fail R337 has been found since enumeration. -/
  mismatch : Bool := false
deriving DecidableEq, Repr

/-- R109, R110: an open-wire test on one monitor. -/
structure OwTest where
  /-- R109: the channel under test. -/
  channel : Nat := 0
  /-- R109: OPEN_WIRE has left the head; tally index n of the sending slot. -/
  sent : Bool := false
  tally : Nat := 0
  /-- R109: number of tallies the bleed lasts. -/
  last : Nat := 0
  /-- R109: baseline words, by channel. -/
  base : SMap Nat := []
  /-- R109: test words, by channel. -/
  word : SMap Nat := []
  /-- R110: STACK at baseline and at test. -/
  stack0 : Nat := 0
  stack1 : Nat := 0
  /-- R111: consecutive intact and inconclusive results. -/
  intact : Nat := 0
  inconclusive : Nat := 0
  /-- R62: the RESULT of the OPEN_WIRE command, none before it has arrived. -/
  result : Option Nat := none
  /-- R108, R112, R113: 0 targeted, 1 rotation, 2 requested. -/
  purpose : Nat := 0
  /-- R109: the test is running. -/
  active : Bool := false
  /-- R108, R113: channels that this test run has still to test. -/
  todo : List Nat := []
  /-- R113: NODES found open, and whether a result was inconclusive, in this run. -/
  nodes : Nat := 0
  unsure : Bool := false
deriving DecidableEq, Repr

/-- R62 to R75, R97 to R113: one monitor, as the QB2048 knows it. -/
structure Monitor where
  /-- R64, R62: UID, MODEL, REV and CHANNELS of the last IDENT; UID 0 before one. -/
  uid : Nat := 0
  model : Nat := 0
  rev : Nat := 0
  channels : Nat := 0
  /-- Table 2-6: the 16 payload bytes of the last CONFIGURE acknowledged. -/
  config : List Byte := []
  /-- Table 2-7 UNCONFIGURED: no CONFIG_ACK with RESULT 0 yet. -/
  configured : Bool := false
  /-- R74: the outstanding challenge (empty: none) and the local time it was sent. -/
  challenge : List Byte := []
  challengeAt : Nat := 0
  /-- R75: a wrong MAC has been seen in this run; its local time. -/
  wrongAt : Option Nat := none
  /-- R412: an authentication waits until a flash operation is permitted. -/
  authWaits : Bool := false
  /-- R75: AUTH_READs without an answer or with READY 0. -/
  noAnswer : Nat := 0
  /-- R75: local time of the last authentication. -/
  authAt : Nat := 0
  /-- R99: MONITOR_FAULT. -/
  fault : Bool := false
  /-- R99: an in-range reference check has been seen and every SAMPLE since has carried FAULT 0. -/
  faultOk : Bool := false
  /-- R79: the CONFIGURE that a new tally period needs has not been acknowledged. -/
  periodDue : Bool := false
  /-- R97: the slot last reported, and the readings of its dwell so far. -/
  slot : Option Nat := none
  dwelt : Nat := 0
  /-- R105: the bleed mask last sent. -/
  balMask : Nat := 0
  /-- R105: consecutive mask mismatches. -/
  balMismatch : Nat := 0
  /-- R105: removed from balancing. -/
  balRemoved : Bool := false
  /-- R76: reported unresponsive. -/
  unresponsive : Bool := false
  /-- R97: per slot, sum and count of the plausible readings of the dwell in progress. -/
  dwell : SMap (Int × Nat) := []
  /-- Table 2-8: STACK of this tally. -/
  stack : Nat := 0
  /-- R72, STATUS LINKS: the last LINKS byte. -/
  links : Nat := 0
  /-- R109: the open-wire test. -/
  ow : OwTest := {}
  /-- R111: local time of the last test of a confirmed break or standing suspicion. -/
  owAt : Nat := 0
  /-- R115: MONITOR byte of the capture record in this tally. -/
  capture : Nat := 0
  /-- R112: local time of the last rotation test of each channel. -/
  rotation : SMap Nat := []
deriving DecidableEq, Repr

/-- R93 to R114: acquisition state of one cell, beside `CellVoltage` and `CellFlags`, which hold the published set. -/
structure CellAcq where
  /-- R100: this tally's word, not yet published. -/
  word : Nat := 0
  /-- R101: a valid word of this tally has been delivered. -/
  fresh : Bool := false
  /-- Table 3-7: VIA_B, BLEED_DISTURBED, OV_HIT and UV_HIT of this tally. -/
  viaB : Bool := false
  bleed : Bool := false
  ovHit : Bool := false
  uvHit : Bool := false
  /-- R95: exceedance counts. -/
  ov : Nat := 0
  uv : Nat := 0
  /-- R95: the source has been raised since the count was last 0. -/
  ovRaised : Bool := false
  uvRaised : Bool := false
  /-- R94, R95: a delivered word has brought the count to `ComparatorCount`; the source is to be raised. -/
  ovDue : Bool := false
  uvDue : Bool := false
  /-- R193: the latest delivered word lay beyond a limit. -/
  beyond : Bool := false
  /-- R107: consecutive epochs in which the open-wire signature held at the node above this cell. -/
  signature : Nat := 0
  /-- R108, R111: an open sense wire is suspected, confirmed at the node above this cell. -/
  suspected : Bool := false
  confirmed : Bool := false
  /-- R111: consecutive intact results on that node. -/
  intact : Nat := 0
  /-- R103: the cell's bleed is planned on. -/
  bleedOn : Bool := false
  /-- R101: offset 0x7 has been raised for the present run of stale tallies. -/
  staleRaised : Bool := false
  /-- R168: charge the cell's bleed has removed since reset, A·h. -/
  bled : Rat := 0
  /-- R163: (local time, raw word where it was usable) of the tallies of the last 10 s, newest first. -/
  recent : List (Nat × Option Nat) := []
  /-- R168 criterion 3: local time at which the present run of stale words began, and the runs of more than 10 s so far. -/
  staleSince : Option Nat := none
  staleRuns : Nat := 0
deriving DecidableEq, Repr

/-- R95 to R98: acquisition state of one temperature input, beside `Temperature` and `TempFlags`. -/
structure TempAcq where
  ot : Nat := 0
  ut : Nat := 0
  otRaised : Bool := false
  utRaised : Bool := false
  /-- R95: the source is to be raised; R97: the last reading, 0.01 °C. -/
  otDue : Bool := false
  utDue : Bool := false
  reading : Int := 0
  /-- R193: the latest judged reading lay beyond a limit. -/
  beyond : Bool := false
  /-- Table 3-9: OT_HIT and UT_HIT of the dwell in progress. -/
  otHit : Bool := false
  utHit : Bool := false
  /-- Table 3-9: VIA_B of the last reading. -/
  viaB : Bool := false
  /-- R98: the last reading was implausible. -/
  implausible : Bool := false
  /-- R98: local time of the last plausible reading. -/
  plausibleAt : Option Nat := none
  /-- R197: local time since which the input has been lost. -/
  lostSince : Option Nat := none
deriving DecidableEq, Repr

/-- R86 to R92, R159: one current channel. -/
structure Chan where
  /-- R86: the last 58 modulator bits (newest bit 0), or unused for ISA. -/
  bits : BitVec 58 := 0
  /-- R90: length of the present run of identical bits, saturating at 128. -/
  run : Nat := 0
  /-- R90: the newest 20 modulator bits brought a run to 128 bits, or continued one, also where it then ended. -/
  stuck : Bool := false
  /-- R86: the last 4 conversions (ISA), newest first. -/
  codes : List Int := []
  /-- R86, R87, R92: (device time, value in mA, over-range sign) of the last 32 outputs, newest first. -/
  outs : List (Nat × Int × Int) := []
  /-- R88: sum and count of the outputs of the tally in progress, and of the tally just ended. -/
  sumCur : Int := 0
  cntCur : Nat := 0
  sumPrev : Int := 0
  cntPrev : Nat := 0
  /-- R88: sum and count of the outputs that represent instants after the tally in progress. -/
  sumNext : Int := 0
  cntNext : Nat := 0
  /-- R92: local time since which the mean has been beyond the charge, discharge threshold. -/
  chargeSince : Option Nat := none
  dischargeSince : Option Nat := none
  /-- R92: 0x50 + string has been raised since the mean was last within the charge, discharge threshold. -/
  chargeRaised : Bool := false
  dischargeRaised : Bool := false
  /-- Table 3-10 FAST: beyond a threshold in the tally just ended, and in the tally in progress. -/
  fast : Bool := false
  fastNow : Bool := false
  /-- R90: FAULT, and the local time its condition was last present. -/
  fault : Bool := false
  faultAt : Nat := 0
  /-- R397 item 3, R439: FAULT held until the next compute-die reset, or until a calibration passes. -/
  faultHeld : Bool := false
  calFault : Bool := false
  /-- R397 item 3: offset trim of the ISA converter, in codes. -/
  offset : Int := 0
  /-- R439: a reference conversion takes the place of the next output, which repeats the one before. -/
  repeats : Bool := false
  /-- R90: OVER_RANGE in the tally just ended, and in the tally in progress. -/
  overRange : Bool := false
  overNow : Bool := false
  /-- R90: a sample of this tally has been delivered. -/
  delivered : Bool := false
  /-- R90: STALE of the published set. -/
  stale : Bool := true
  /-- R91: DISAGREE. -/
  disagree : Bool := false
  /-- R87, R88: the sample and mean delivered, mA. -/
  sample : Int := 0
  mean : Int := 0
  /-- R159: sum and count of the means over the tallies of the window with the inferred current available. -/
  winSum : Int := 0
  winCnt : Nat := 0
  /-- R159: consecutive failed, and passed, windows. -/
  winFail : Nat := 0
  winPass : Nat := 0
  /-- R160: |difference| of the last counted window, mA, none since DISAGREE set. -/
  winDiff : Option Rat := none
  /-- R166: the tallies of the last 60 s with a sample and an available inferred current, newest first: local time, the
  channel's mean and the inferred current, mA. -/
  minute : List (Nat × Int × Int) := []
  /-- R159: judged implausible; a window has counted. -/
  implausible : Bool := false
  windowed : Bool := false
deriving DecidableEq, Repr

/-- R115: one capture record (Table 3-12). -/
structure CaptureRec where
  tally : Nat := 0
  time : Nat := 0
  status : Nat := 0
  ringState : List Int := []
  curFlags : List Int := []
  current : List Int := []
  monitor : SMap Nat := []
  cell : SMap Nat := []
deriving DecidableEq, Repr

/-- R115 to R117: the capture buffer beside its objects. -/
structure Capture where
  /-- R115: the records held, newest first, at most 978. -/
  recs : List CaptureRec := []
  /-- R116: records still to be written after the trigger record. -/
  left : Nat := 0
  /-- R116: a trigger falls in the tally in progress. -/
  triggered : Bool := false
deriving DecidableEq, Repr

/-- A notification or event activation waiting for the matrix (R40): source, instance, record payload, and the device time and
the local time of the activation. -/
structure Act where
  src : Nat
  inst : Nat
  payload : List Byte := []
  time : Nat := 0
  at' : Nat := 0
  /-- R391: for 0xF4, the CODE, severity and sequence of the internal record. -/
  note : Option (Nat × Nat × Nat) := none
deriving DecidableEq, Repr

/-- R40, Table 1-9 LATCH: a source that stays active until it is acknowledged: its first activation's instance, and the
routing word that routed it (a word written since applies to the next activation only). -/
structure Latch where
  src : Nat
  inst : Nat := 0
  word : Nat := 0
  /-- R362: the holder's MIRROR has named the source. -/
  mirrored : Bool := false
deriving DecidableEq, Repr

/-- R37 to R41, R312: the event matrix. -/
structure Events where
  /-- R40: activations raised since the last evaluation, in order of raising. -/
  pending : List Act := []
  /-- R41: activations that the evaluation after the next one takes up: a start's kept sources follow its kept reasons. -/
  later : List Act := []
  /-- R40, Table 1-9 LATCH: the latched activations, in ascending source number. -/
  latched : List Latch := []
  /-- R313: local times of the event notifications of the last 1 s, per link. -/
  eventTimes : SMap (List Nat) := []
  /-- R244, R246: the condition of 0xAD instance 0x01 persists. -/
  readbackBad : Bool := false
  /-- R229: the condition of 0xAC instance 0x80 persists, and the local time since which the ratio is within 5 %. -/
  oscBad : Bool := false
  oscGoodSince : Option Nat := none
  /-- R228: receivers of used pairs that failed their last self-test (pair × 2 + channel). -/
  receiverBad : List Nat := []
deriving DecidableEq, Repr

/-- R119 to R121: one estimator unit. -/
structure Eu where
  /-- R121: retired. -/
  retired : Bool := false
  /-- R119, R120: the work item held (string, global cell number). -/
  item : Option (Nat × Nat) := none
  /-- R432: what its region's fabric had run when it claimed the item. -/
  claimRan : Nat := 0
  /-- R138: local time of the last known-answer test. -/
  katAt : Option Nat := none
deriving DecidableEq, Repr

/-- R130, R131: how an epoch in flight ends without a swap, while items that estimator units hold still finish. -/
inductive Ending
  | none
  /-- R130: its deadline has passed. -/
  | abandoned
  /-- R131, R42: a table set that the string uses is being loaded. -/
  | paused
deriving DecidableEq, Repr

/-- R125 to R132: the epoch of one string. -/
structure Epoch where
  /-- R120: an epoch is in flight. -/
  inFlight : Bool := false
  /-- R125: its number, dispatch time (mono), device time of its tally, and divider. -/
  number : Nat := 0
  dispatchedAt : Nat := 0
  tallyTime : Nat := 0
  divider : Nat := 1
  /-- R128: cells whose updates have not completed. -/
  left : Nat := 0
  /-- R126: Σ `StringCurrentMean` × T (mA·µs) and the time spanned (µs) since the last published epoch. -/
  charge : Int := 0
  us : Nat := 0
  /-- R163: counted charge since reset, mA·µs. -/
  counted : Int := 0
  /-- R126: charge and time that the epoch in flight integrates. -/
  flightCharge : Int := 0
  flightUs : Nat := 0
  /-- R132: local time of the last publication; none since the last compute-die reset. -/
  publishedAt : Option Nat := none
  /-- R130, R131: the epoch in flight is ending without a swap, since this local time. -/
  ending : Ending := .none
  endAt : Nat := 0
  /-- R124: (local time, duration) of the epochs of the last 10 s, newest first. -/
  durations : List (Nat × Nat) := []
  /-- R155: the string enters mode 0, so filters are initialised at the next dispatch. -/
  init : Bool := true
  /-- R141: the mode in force. -/
  mode : Nat := 0
  /-- R165: how long the median has exceeded 5 in every counting epoch (µs of elapsed time, none while it does not), and its
  sign. -/
  medianUs : Option Nat := none
  medianPos : Bool := false
  /-- R167: how long the median has stayed within ±2 in every counting epoch, likewise. -/
  calmUs : Option Nat := none
  /-- R165: elapsed time of the last published epoch. -/
  judgedAt : Nat := 0
  /-- R165, R167: the string is in disagreement. -/
  disagreement : Bool := false
  /-- R167: re-anchored by a rest point since disagreement was entered. -/
  reanchored : Bool := false
  /-- R166: local time of the last channel audit, and that it had too little inferred current. -/
  auditAt : Nat := 0
  auditAgain : Bool := false
  /-- R157: the last tally whose mean was counted. -/
  countedTally : Option Nat := none
  /-- R126, R146: of the epoch in flight: usable words less trims (10 µV), mean current over the interval, `StringCurrent`
  of its tally and its mean over 1 s (A), interval (s), and `StringCurrentSource`. -/
  words : SMap Int := []
  /-- R107: of the epoch in flight: the words delivered in its tally, usable or not, 100 µV. -/
  fresh : SMap Nat := []
  current : Rat := 0
  sample : Rat := 0
  rate : Rat := 0
  dt : Rat := 0
  src : Nat := 3
  /-- R107: of the epoch in flight: positions whose stack agrees with their cell words, and in mode 1 each cell's residual
  in 100 µV. -/
  stackOk : List Nat := []
  resid : SMap Rat := []
  /-- R159: local time of the last 1 s window. -/
  windowAt : Nat := 0
  /-- R180: counted charge at the last re-anchoring, mA·µs, and its device time. -/
  anchor : Int := 0
  anchorTime : Nat := 0
deriving DecidableEq, Repr

/-- R122, R133: one region. -/
structure Region where
  /-- R133: the load step. -/
  load : Nat := 0
  /-- R134: the step in force (divider 1, 2, 4). -/
  step : Nat := 0
  /-- R133: local time since which the conditions for a faster step have held. -/
  okSince : Nat := 0
  /-- R432: how long the region's fabric has run since the compute die left reset, in hundredths of a µs: 100 in each µs at full
  duty. -/
  ran : Nat := 0
deriving DecidableEq, Repr

/-- R162 to R175: one rest point of a cell (z_ocv, slope in mV per %, Tc). -/
structure CellRest where
  z : Rat := 0
  slope : Rat := 0
  tc : Rat := 0
  valid : Bool := false
  /-- R168: bleed charge (A·h) since reset up to the point, and the runs of stale words of more than 10 s so far. -/
  bleed : Rat := 0
  stale : Nat := 0
deriving DecidableEq, Repr

/-- R163: one rest point of a string. -/
structure RestPoint where
  time : Nat := 0
  elapsed : Nat := 0
  charge : Int := 0
  /-- R168 criterion 2: tallies so far, and tallies with `StringCurrentSource` 0 or 1. -/
  tallies : Nat := 0
  sourced : Nat := 0
  /-- R168 criterion 3: a gap of more than 10 s in acquisition so far. -/
  gaps : Nat := 0
  cells : SMap CellRest := []
deriving DecidableEq, Repr

/-- R162: rest detection of one string. -/
structure Rest where
  /-- R162: local time since which the string has been at rest. -/
  since : Option Nat := none
  /-- R162: (local time, cell words) of the tallies of the last 10 min and of the one before, newest first. -/
  samples : List (Nat × SMap Nat) := []
  /-- R162: the rest has qualified since this local time. -/
  qualified : Option Nat := none
  /-- R162: the rest has already formed its point. -/
  formed : Bool := false
  /-- R163: the last 8 rest points, newest first. -/
  points : List RestPoint := []
  /-- R168: tallies and sourced tallies since reset; local time of the last acquisition; gaps of more than 10 s. -/
  tallies : Nat := 0
  sourced : Nat := 0
  acqAt : Nat := 0
  gaps : Nat := 0
deriving DecidableEq, Repr

/-- R143 to R180: the estimator state of one cell (256 B of SRAM, R42), working or published. -/
structure CellEst where
  /-- Table 5-1: the 12 states. -/
  x : List Rat := List.replicate 12 0
  /-- R153: the covariance, 12 rows of 12. -/
  p : List (List Rat) := List.replicate 12 (List.replicate 12 0)
  /-- R155: the cell has been initialised since the last compute-die reset, so it has results. -/
  live : Bool := false
  /-- R155: the filter is initialised at the cell's next usable word. -/
  due : Bool := true
  /-- R168: learned capacity C, A·h (0 before a table set gives C_NOM). -/
  cap : Rat := 0
  /-- R172: ln g_R and ln g_τ with their covariance, row by row; g_R and g_τ. -/
  lnR : Rat := 0
  lnT : Rat := 0
  pp : List Rat := [0, 0, 0, 0]
  gR : Rat := 1
  gT : Rat := 1
  /-- R169: a newly learned capacity that enters at the next dispatch. -/
  capNext : Option Rat := none
  /-- Table 5-7. -/
  anchorPending : Bool := false
  capDefault : Bool := true
  clamp : Bool := false
  inferred : Bool := false
  none' : Bool := false
  disagree : Bool := false
  short : Bool := false
  /-- Table 4-2. -/
  predictOnly : Bool := false
  reinit : Bool := false
  paramUpdated : Bool := false
  /-- R171, R172: tally of the current step that the parameter filter used in this epoch. -/
  stepUsed : Option Nat := none
  /-- R153, R165: the cell had a measurement update in this epoch. -/
  measured : Bool := false
  /-- R153: innovation ν (V) and normalised innovation. -/
  nu : Rat := 0
  ninn : Rat := 0
  /-- R145: predicted terminal voltage and its rest part, V. -/
  vhat : Rat := 0
  ocv : Rat := 0
  /-- R172: time since the parameter filter last ran, s. -/
  paramDt : Rat := 0
  /-- R172: Jacobian of the predicted voltage with respect to ln g_R and ln g_τ. -/
  jac : Rat × Rat := (0, 0)
  /-- R158: the cell's current reading (A) and r_o (Ω), when it has one. -/
  reading : Option (Rat × Rat) := none
  /-- R210: r_o × g_R, Ω. -/
  ro : Rat := 0
  /-- R165: local times since which |normalised innovation| has exceeded 5, and stayed below 2. -/
  highSince : Option Nat := none
  lowSince : Option Nat := none
  /-- R180: QB512-compatible charge, A·h. -/
  compat : Rat := 0
  /-- R144: Ts last used, °C. DESIGN CHOICE (log entry 154): 25 °C before any input of the module has been plausible. -/
  ts : Rat := 25
  /-- R177, R179: the cell's bounds, charge then discharge, horizons 2, 10 and 60 s, A. -/
  bounds : List Rat := List.replicate 6 0
  /-- R178: a and b of the terminal voltage at each horizon, charge then discharge. -/
  lin : List (Rat × Rat) := List.replicate 6 (0, 0)
  /-- R174, R175: accepted pairs (start, end of elapsed time in µs, excess leak in A), newest first; mean excess. -/
  leaks : List (Nat × Nat × Rat) := []
  leak : Rat := 0
  /-- R440: offset trim, 10 µV. -/
  trim : Int := 0
  /-- R440: (mono, residual in V) of the last 10 s, newest first. -/
  residuals : List (Nat × Rat) := []
deriving DecidableEq, Repr

/-- R119 to R140: the estimator fabric. -/
structure Fabric where
  eus : SMap Eu := []
  /-- R120: the dispatch queue of each cluster: (string, cell), head first. -/
  queues : SMap (List (Nat × Nat)) := []
  epochs : SMap Epoch := []
  regions : SMap Region := []
  /-- R128: the published and the working buffer, by global cell number. -/
  published : SMap CellEst := []
  working : SMap CellEst := []
  rest : SMap Rest := []
  /-- R122: the cluster (0 to 7) of each module, ring × 32 + position. -/
  cluster : SMap Nat := []
  /-- R151: the table sets loaded in SRAM, by set. -/
  tables : SMap (List Byte) := []
  /-- R42: table sets being reloaded. -/
  reloading : List Nat := []
  /-- R170: per string, accepted capacity pairs since reset, rejected ones (string × 8 + reason code), and the device time
  of the last acceptance. -/
  capAccepted : SMap Nat := []
  capRejected : SMap Nat := []
  capLast : SMap Nat := []
  /-- R159: the sum and count of the inferred current over the tallies of the window in which it was available, per string;
  R166: (local time, T in µs) of such tallies over the last 60 s, newest first. -/
  infSum : SMap (Int × Nat) := []
  infMinute : SMap (List (Nat × Nat)) := []
  /-- R91: consecutive tallies outside, and inside, the cross-check tolerance, per string. -/
  crossBad : SMap Nat := []
  crossGood : SMap Nat := []
  /-- R171: (tally, current, source) of each string's last tally without a stale word. -/
  prevCurrent : SMap (Nat × Int × Int) := []
  /-- R171: tally of a step, measured ohmic resistance and the table's r_o at that step (Ω), held for the cell's next
  parameter filter run. -/
  steps : SMap (Nat × Rat × Rat) := []
  /-- R42: cells whose next published result is flagged reinitialised. -/
  reinit : List Nat := []
  /-- R30: operations completed since reset by each region. -/
  ops : SMap Nat := []
  /-- R30: (local time, operations of region 0, of region 1) at the ends of the last 101 epochs, newest first. -/
  marks : List (Nat × Nat × Nat) := []
  /-- R21, R123: the table cache of each cluster: (set, table ID, bytes), most recently used first. -/
  cache : SMap (List (Nat × Nat × Nat)) := []
  /-- R107, R171: the words delivered in the previous tally per cell, and whether each was usable. -/
  prevWords : SMap (Nat × Bool) := []
deriving DecidableEq, Repr

/-- R135 to R137: the one-shot requests (0 open wire, 1 fabric self-test, 2 capacity report, 3 impedance snapshot,
4 contactor opening test, 5 device self-test). -/
structure OneShot where
  /-- R136: the pending request (sequence, target) and the local time of its acceptance. -/
  pending : Option (Nat × Nat) := none
  acceptedAt : Nat := 0
  /-- R136: the sequence of the last completed request. -/
  done : Nat := 0
deriving DecidableEq, Repr

/-- R238 to R240: the contactor opening test. -/
structure OpenTest where
  /-- R238: the test holds its turn and runs on this string. -/
  string : Option Nat := none
  /-- Table 7-4a: the step in progress, 1 to 4. -/
  step : Nat := 0
  /-- R239: the step's driver is de-energised and its drop time is awaited; whether the check passed. -/
  dropping : Bool := false
  passed : Bool := false
  /-- R239: local time of energising, then of de-energising. -/
  at' : Nat := 0
  /-- R240: last step that passed, ΔV at the start of step 1, welded drivers found. -/
  lastPassed : Nat := 0
  dv : Int := 0
  failed : Nat := 0
deriving DecidableEq, Repr

/-- R296 to R298: an authenticated session. -/
structure Session where
  link : Nat
  node : Nat
  key : List Byte
  /-- R297: the highest counter accepted. -/
  counter : Nat := 0
  opened : Nat := 0
  /-- R298: local time of the last tagged request. -/
  taggedAt : Nat := 0
  /-- R359: opened through the alias. -/
  berthId : Bool := false
deriving DecidableEq, Repr

/-- R296: an outstanding NONCE_D. -/
structure Nonce where
  link : Nat
  node : Nat
  value : List Byte
  at' : Nat
deriving DecidableEq, Repr

/-- A frame or datagram to be sent (R285, R311): class, destination, source, sequence, priority, payload. -/
structure Out where
  cls : Nat
  dest : Nat
  src : Nat
  seq : Nat
  prio : Nat
  payload : List Byte
  /-- R311, R312, R316: the UDP address on Ethernet, the IPv4 address in bits 31 to 0 and the port above them; 0 on CAN. -/
  addr : Nat := 0
deriving DecidableEq, Repr

/-- R282, R285: a frame as a channel sends it: the 29-bit identifier, the FD format and bit rate switching, the payload. -/
structure CanFrame where
  ident : Nat
  fd : Bool
  brs : Bool
  payload : List Byte
deriving DecidableEq, Repr

/-- R292: a response kept for retransmission. -/
structure KeptResp where
  link : Nat
  src : Nat
  dest : Nat
  seq : Nat
  request : List Byte
  response : List Byte
  at' : Nat
deriving DecidableEq, Repr

/-- R293, R294: an open segmented transfer; for a read the device sends `data`, for a write it collects it. -/
structure Transfer where
  link : Nat
  src : Nat
  dest : Nat
  seq : Nat
  prio : Nat
  read : Bool
  header : List Byte
  data : List Byte
  /-- R293: first segment the receiver does not yet hold. -/
  next : Nat := 1
  /-- R293: segments sent so far (read). -/
  sent : Nat := 0
  at' : Nat := 0
  /-- R294: the last burst has been resent once. -/
  retried : Bool := false
  /-- R298: OPENED of the session that was open when a tagged write began. -/
  session : Option Nat := none
  berthId : Bool := false
  addr : Nat := 0
deriving DecidableEq, Repr

/-- R288: the response to the request most recently executed. -/
structure Reply where
  link : Nat
  dest : Nat
  seq : Nat
  op : Nat
  status : Nat
  index : Nat
  sub : Nat
  stamps : List (Nat × Nat) := []
  data : List Byte := []
deriving DecidableEq, Repr

/-- R299, R309: one CAN channel's transmit side. -/
structure CanTx where
  /-- R299: the 32-entry FIFO, head first. -/
  fifo : List Out := []
  /-- R299: the safety slot. -/
  safetySlot : Option Out := none
  /-- R299: the safety notification queue (8 entries) that feeds the safety slot. -/
  safety : List Out := []
  /-- R282, R285: the frame that the channel sent last. -/
  sentFrame : Option CanFrame := none
  /-- R299: the lighthouse slot. -/
  lighthouse : Option Out := none
  /-- R299: the frame that the controller offers to the bus: 0 none, 1 lighthouse slot, 2 safety slot, 3 FIFO head. -/
  offered : Nat := 0
  /-- R300: responses waiting for a free entry (frame, local time). -/
  waiting : List (Out × Nat) := []
  /-- R309: SCHED of the lighthouse loaded last, and of the one before. -/
  sched : Nat := 0
  /-- R309: LAST_DELAY and DELAY_SAT of the next lighthouse. -/
  lastDelay : Nat := 0
  saturated : Bool := false
  /-- R309 Table 9-12: STEPPED since the previous lighthouse. -/
  stepped : Bool := false
  /-- R282: local time of the last bus-off. -/
  busOffAt : Nat := 0
  /-- R283: accepted timing records that wait, 0 nominal, 1 data, 2 delay compensation, each with the local time of its
  response. -/
  timing : SMap (List Int × Nat) := []
  /-- R283: the timing in force. -/
  nominal : List Int := [1, 127, 32, 32]
  data : List Int := [1, 29, 10, 10]
  tdc : List Int := [1, 0, 0]
deriving DecidableEq, Repr

/-- R280 to R319: links and the Quay Link Protocol. -/
structure Qlp where
  session : Option Session := none
  nonces : List Nonce := []
  /-- R298: local times of the authentication failures within 10 min; end of the lockout. -/
  authFails : List Nat := []
  lockoutAt : Option Nat := none
  kept : List KeptResp := []
  /-- R317: (link, source, local time) of the requests of the last 1 s. -/
  rates : List (Nat × Nat × Nat) := []
  transfers : List Transfer := []
  reply : Option Reply := none
  can : SMap CanTx := []
  /-- R301: the Ethernet FIFO (16 entries) and the safety slot. -/
  eth : List Out := []
  ethSafety : List Out := []
  /-- R311: the datagram that the port sent last: UDP address, payload with its header. -/
  datagram : Option (Nat × List Byte) := none
  /-- R300: frames for Ethernet that wait for a free entry (frame, local time). -/
  ethWaiting : List (Out × Nat) := []
  /-- R300, R317: per link, local time at which 0xDB, 0xD5 was last raised. -/
  dropAt : SMap Nat := []
  violAt : SMap Nat := []
  /-- R315: snapshots sent per stream (SSEQ); the last due instant of each stream, device time. -/
  sseq : SMap Nat := []
  streamAt : SMap Nat := []
  /-- R310: local times of the ICMP echo answers of the last 1 s. -/
  icmp : List Nat := []
  /-- R296 (MODEL): index of the next free random value. -/
  random : Nat := 0
deriving DecidableEq, Repr

/-- R378: one harbour log record. -/
structure LogRec where
  seq : Nat := 0
  time : Nat := 0
  code : Nat := 0
  source : Nat := 0
  sev : Nat := 0
  internal : Bool := false
  latch : Bool := false
  trip : Bool := false
  repeat' : Nat := 1
  last : Nat := 0
  payload : List Byte := []
  /-- R381: local time of the activation that opened it. -/
  opened : Nat := 0
deriving DecidableEq, Repr

/-- R383: one log page in flash. -/
structure LogPage where
  /-- R383: the header: generation and first sequence. -/
  gen : Nat := 0
  first : Nat := 0
  recs : List LogRec := []
  /-- R384, R387: a read-back failed, or a scan found a bad record: nothing more is programmed into it. -/
  closed : Bool := false
  /-- R387: the header is invalid. -/
  damaged : Bool := false
  /-- R387: where a scan found the page bad. -/
  badAt : Option Nat := none
deriving DecidableEq, Repr

/-- R378 to R392: the harbour log. -/
structure Log where
  open' : Option LogRec := none
  staging : List LogRec := []
  /-- R383: programmed pages (an unlisted page is erased). -/
  pages : SMap LogPage := []
  current : Option Nat := none
  gen : Nat := 0
  nextSeq : Nat := 1
  /-- R382: tokens of the info/notice and warning/critical buckets, and the local times they are counted from. -/
  info : Nat := 3000
  crit : Nat := 600
  infoAt : Nat := 0
  critAt : Nat := 0
  /-- R382: suppressed since the last 0xB209, by severity, with the first one's time and the report's local time. -/
  supp : List Nat := [0, 0, 0, 0]
  suppFirst : Nat := 0
  suppAt : Nat := 0
  /-- R384: pages in which what is programmed does not read back, until their sector is replaced (log entry 189). -/
  failing : List Nat := []
  /-- R385: drops since the last 0xB204 (count, first time) for reason 0 and 1. -/
  dropFull : Nat × Nat := (0, 0)
  dropStaging : Nat × Nat := (0, 0)
deriving DecidableEq, Repr

/-- R409: one journal record (the newest valid one of its kind and instance, or the one before). -/
structure JRec where
  seq : Nat := 0
  time : Nat := 0
  payload : List Byte := []
  /-- R409: where it starts, in bytes programmed into the rotating ring. -/
  start : Nat := 0
deriving DecidableEq, Repr

/-- R423 to R426: one firmware slot. -/
structure FwSlot where
  /-- R428: STATE 0 empty, 1 erasing, 2 writing, 3 verified, 4 invalid, 5 active, 6 trial. -/
  st : Nat := 0
  version : Nat := 0
  security : Nat := 0
  boots : Nat := 0
  /-- R424: chunks written, by number. -/
  chunks : SMap (List Byte) := []
  /-- R441: marked for the signature check of the next boot; the digest differs from the one verified at the last boot. -/
  suspect : Bool := false
  /-- R441: an image without chunks (programmed before delivery): bytes of it no longer read as the signature covers them. -/
  damaged : Bool := false
deriving DecidableEq, Repr

/-- R44 to R46, R151, R343, R409: flash contents. -/
structure Flash where
  /-- R343: configuration slots 0 and 1, the image bytes; unlisted: empty. -/
  config : SMap (List Byte) := []
  /-- R343: SEQUENCE of the newest image, and its slot (0 none, 1, 2). -/
  configSeq : Nat := 0
  configSlot : Nat := 0
  /-- R419: step 5 of the retirement is finished. -/
  wiped : Bool := false
  /-- R441: the newest configuration slot was found damaged, and no save has followed. -/
  configBad : Bool := false
  /-- R151: table copies, set × 2 + copy: (generation, file). -/
  tables : SMap (Nat × List Byte) := []
  /-- R409: newest and previous valid record of each kind × 8 + instance. -/
  journal : SMap (JRec × Option JRec) := []
  /-- R411: sequence of the newest record. -/
  jseq : Nat := 0
  /-- R426: firmware slots 0 (A) and 1 (B). -/
  slots : SMap FwSlot := []
  active : Nat := 0
  /-- R426: slot the running image was booted from; none: no firmware. -/
  booted : Option Nat := none
  /-- R419: the tombstone page; empty: none. -/
  tombstone : List Byte := []
  /-- R46: sectors of the wear reserve in use. -/
  reserveUsed : Nat := 0
  /-- R46: local time of the last hourly commit per string. -/
  learnedAt : SMap Nat := []
  /-- R46, R215: local time of the change of WeldState that forces a commit, per string. -/
  weldDirty : SMap Nat := []
  /-- R74, R412: challenge counter and its reservation. -/
  challenge : Nat := 0
  reserved : Nat := 0
  /-- R46: sector erases done so far, by unit: `FlashAllocation` element × 16, plus the table copy (set × 2 + copy) for
  element 6. -/
  erases : SMap Nat := []
  /-- R409: bytes programmed into the journal's rotating ring so far. -/
  jbytes : Nat := 0
deriving DecidableEq, Repr

/-- Table 11-1: states of the claim logic. -/
inductive Claim
  | released | held | holding | lockout
deriving DecidableEq, Repr

/-- A frame of the duplex link that waits to be sent (Table 11-2). -/
inductive DupFrame
  /-- R370: kind 0 OFFER, 1 ACCEPT, 2 REFUSE, 3 TAKEN, with the offering tally index. -/
  | handover (kind tally : Nat)
  /-- R367: a train for the partner's port, with its latest start time. -/
  | chainReq (ring : Nat) (frame : List Byte) (latest : Nat)
  /-- R367: a decoded chain frame with the device time of decoding. -/
  | chainFwd (ring time : Nat) (frame : List Byte)
  /-- R363: tally index, tally period and device time of the tally instant. -/
  | tally (index period time : Nat)
  | mirror (m : Mirror)
  | hello (h : Hello)
  /-- R361: 68 bytes. -/
  | ringDelays (payload : List Byte)
deriving DecidableEq, Repr

/-- R348 to R377: duplex operation. -/
structure Duplex where
  /-- R348: `DuplexMode` in force since the last compute-die reset. -/
  mode : Nat := 0
  /-- R349: `BERTH_PREF` sampled at the last power-die reset. -/
  pref : Bool := false
  /-- R349: filtered `BERTH_IN` and the local time of its last change. -/
  berthIn : Bool := false
  berthAt : Nat := 0
  claim : Claim := .released
  /-- R352: outputs are held after a withdrawal in lockout. -/
  lockHolding : Bool := false
  /-- R349: `BERTH_OUT` is high. -/
  out : Bool := false
  /-- R73: the device heads the rings, as settled at the last tally boundary. -/
  directing : Bool := false
  /-- R352: the compute die requests a claim. -/
  request : Bool := false
  /-- R352, R353: local times of the last claim refresh and the last refresh with arming. -/
  refreshAt : Nat := 0
  armAt : Nat := 0
  /-- R353: local time the shadow states were loaded. -/
  shadowAt : Nat := 0
  /-- R353, R364: the compute die has set arming. -/
  arming : Bool := false
  /-- R353: the power die is armed. -/
  armed : Bool := false
  /-- R374: local time since which it has been armed; earliest next request after a REFUSE. -/
  armedSince : Nat := 0
  notBefore : Nat := 0
  /-- R352: local time of the withdrawal; its reason (instance of 0xEB). -/
  holdAt : Nat := 0
  reason : Nat := 0
  /-- R352: local times of the withdrawals by conflict within 10 s. -/
  conflicts : List Nat := []
  /-- R357: holding ended with no taker; the fail-safe states are kept. -/
  noTaker : Bool := false
  /-- R361: local times of the last valid frame, and since which frames have been valid. -/
  validAt : Nat := 0
  validSince : Nat := 0
  up : Bool := false
  hello : Option Hello := none
  /-- R353, R362: the shadow states and the local time of the last valid MIRROR. -/
  shadow : Option Mirror := none
  mirrorAt : Nat := 0
  /-- R360: frames waiting to be sent, oldest first, and the local time of the last frame queued. -/
  sent : List DupFrame := []
  sentAt : Nat := 0
  /-- R361: the ring end (ring × 2 + end) of the next RING_DELAYS frame. -/
  nextEnd : Nat := 0
  /-- R370: hand-over in progress: 0 none, 1 offered, 2 accepted; the tally it was accepted in; R374 revert. -/
  handover : Nat := 0
  handoverTally : Nat := 0
  revert : Bool := false
  /-- R372: the first contactor step after taking the berth is due: 0 none, else the instance of 0xEA plus 1. -/
  taken : Nat := 0
  /-- R364: the match before the last judgement. -/
  matched : Bool := false
  /-- R362: the power die has accepted an output command since the last MIRROR. -/
  acted : Bool := false
  /-- R360: the frame that was sent last, from TYPE to CRC. -/
  lastFrame : List Byte := []
  /-- R355: local time of the last release, withdrawal or claim. -/
  quietAt : Nat := 0
deriving DecidableEq, Repr

/-- R429 to R435: one throttle scope. -/
structure Scope where
  /-- R433: consecutive conversions at or above each stage's threshold (keyed by stage). -/
  hits : SMap Nat := []
  /-- R433: local time since which the temperature is below the threshold less 5 °C (keyed by stage). -/
  below : SMap Nat := []
deriving DecidableEq, Repr

/-- R442: what the device self-test that is pending has gathered since its acceptance: the converters calibrated, those of them
beyond ±0.5 %, and the monitors (ring × 32 + position) that have answered READ_STATUS. -/
structure TestRun where
  cal : List Nat := []
  calBad : List Nat := []
  answered : List Nat := []
deriving DecidableEq, Repr

/-- R429 to R442: die temperature and background work. -/
structure Thermal where
  /-- R430: local time since which a sensor has deviated by more than 30 °C. -/
  deviant : SMap Nat := []
  scopes : SMap Scope := []
  /-- R431: local time of the last compute-die temperature frame; the power die uses 125 °C in its place. -/
  frameAt : Nat := 0
  frameLost : Bool := false
  /-- R431: the temperature that the last frame carried, 0.01 °C. -/
  frameTemp : Int := 0
  /-- R434: local time of the last shed or of the last judgement, and the package temperature at the last shed (both none since
  stage 3 was entered); local time of the last restore or of leaving. -/
  shedAt : Option Nat := none
  shedTemp : Option Int := none
  restoreAt : Nat := 0
  /-- R439: gain trims per converter, ppm, and the local times of their last calibrations. -/
  trims : SMap Int := []
  calAt : SMap Nat := []
  /-- R439: converters of which a reference conversion takes the place of the next output, which repeats the one before. -/
  repeats : List Nat := []
  /-- R442: the device self-test that is pending. -/
  test : TestRun := {}
  /-- R27, R432: domains 1 and 11 divide by 2. -/
  halved : Bool := false
  /-- R445, `ThrottleTime`: µs spent at each stage, by stage. -/
  stageUs : SMap Nat := []
deriving DecidableEq, Repr

/-- R329, R397, R413: firmware status. -/
structure Fw where
  /-- Table 10-4: STARTUP. -/
  startup : Bool := true
  /-- R396: the scans, the configuration and the checks of Table 13-2 have run in this start. -/
  scanned : Bool := false
  /-- R387: the start is from power-on. -/
  powerOn : Bool := false
  /-- Table 10-4: NO_MANIFEST. -/
  noManifest : Bool := true
  /-- Table 10-4: CONFIG_DEFAULTS. -/
  configDefaults : Bool := false
  /-- R244: local time of the last readback of the power die's safety copies; a write since calls for one at once. -/
  readbackAt : Nat := 0
  readbackDue : Bool := false
  /-- R438, R441: local times of the last scrub pass and of the last integrity checks in this start. -/
  scrubAt : Nat := 0
  integrityAt : Nat := 0
  /-- R80: the tally index; whether a tally has fallen since the last reset. -/
  tally : Nat := 0
  ticking : Bool := false
  /-- R80: local and device time of the last tally instant. -/
  tallyAt : Nat := 0
  tallyTime : Nat := 0
  /-- R80, R306: local time at which the last tally instant was handled. -/
  latchedAt : Nat := 0
  /-- R81: the tally whose trigger has been sent. -/
  triggered : Option Nat := none
  /-- R79: a new tally period that waits for the monitors' acknowledgements. -/
  newPeriod : Option Nat := none
  /-- R79: every monitor has acknowledged; the new period takes effect at the next tally instant. -/
  periodReady : Bool := false
  /-- R79: the tally period in force, µs. -/
  period : Nat := 1000
  /-- R126: length of the tally interval that ended at the last instant, µs. -/
  span : Nat := 0
  /-- R112, R122: local time at which the device became READY after this start. -/
  readyAt : Option Nat := none
  /-- R189: BUSDET code of the last latch. -/
  busCode : Nat := 0
  /-- R335, R330: the accepted manifest file. -/
  manifest : List Byte := []
  /-- R408: local time since which strings are open and cells low. -/
  lowSince : Option Nat := none
  /-- R426: local time at which STARTUP cleared. -/
  startedAt : Nat := 0
  /-- R421: the tamper status as kept in the journal. -/
  tamper : Nat := 0
  /-- R402: the reset cause of the most recent start. -/
  cause : Nat := 0
  /-- R105: local time of the last balancing plan. -/
  balanceAt : Nat := 0
  /-- R413: the life-cycle state kept in the journal, 1 to 3; none: no valid record. -/
  lifecycle : Option Nat := none
  /-- R375: the firmware activation that waits for the release after a hand-over, not yet answered. -/
  activating : Option (Req × List Byte) := none
deriving DecidableEq, Repr

/-- Why the block stops. No rule of the spec stops the device with a fault, so there is one constructor only, which no
meaning of this model raises (safe: nothing stops). -/
inductive Fault
  | none'
deriving DecidableEq, Repr

/-- Why the model gives a command no meaning. -/
inductive Refusal
  /-- Raised by `exec` for a command that has no meaning yet (safe: the model stops where the hardware goes on). -/
  | notModelled (mnemonic : String)
deriving DecidableEq, Repr

/-- The whole device and its queue of waiting commands. -/
structure State where
  /-- The commands that wait, first in, first out. -/
  pending : List Instr := []
  /-- R1: the variant. -/
  variant : Variant := .qb2048
  /-- R320: the object dictionary's stored values, by index × 65,536 + subindex; a REC lists its members. -/
  objs : SMap (List Int) := []
  otp : Otp := {}
  clk : Clock := {}
  pwr : Power := {}
  wd : Watchdog := {}
  /-- R32: the power die's and the compute die's side of the inter-die link. -/
  linkP : LinkSide := {}
  linkC : LinkSide := {}
  /-- R14: requests that the power die refused and reported, newest last. -/
  refused : List OutReq := []
  drivers : SMap Driver := []
  ls : SMap LoadSw := []
  motors : SMap Motor := []
  vmot : Vmot := {}
  gov : Governor := {}
  pairs : SMap Pair := []
  strs : SMap Str := []
  rings : SMap Ring := []
  monitors : SMap Monitor := []
  cells : SMap CellAcq := []
  temps : SMap TempAcq := []
  chans : SMap Chan := []
  capture : Capture := {}
  ev : Events := {}
  fab : Fabric := {}
  shots : SMap OneShot := []
  otest : OpenTest := {}
  qlp : Qlp := {}
  log : Log := {}
  flash : Flash := {}
  dup : Duplex := {}
  th : Thermal := {}
  fw : Fw := {}
deriving DecidableEq, Repr

/-- The device as shipped (R5: BLANK, factory firmware active in slot A, slot B empty, no customer keys), before
power: VAUX below the start level, both dies in reset (R396), every object at its default. The role defaults have made
every driver due for proof at once (R237). -/
def State.reset : State :=
  { flash := { slots := [(0, { st := 5 })] }
    drivers := (List.range 12).map fun d => (d, { dueNow := true, due := true }) }

end Sys2Proof.Machine
end

