-- ==== Sys2Proof/Machine/Objects.lean ====
section
/-! DEFINITION. Sys2Proof/Machine/Objects.lean: the object dictionary of the manual (R8, R320), one row per object with
its type, access class, default, range and element count, from the object tables that the rows of each list name, and
the codes of the two common tables (Table 0-4, Table 0-5). Element values are lists of integers: one for a scalar (an
F32 as its 32 bits), one per member for a REC, one per byte for a STR or BLOB. -/

namespace Sys2Proof.Machine

/-- Table 0-4: the scalar types. -/
inductive Scalar
  | bool | u8 | u16 | u32 | u64 | i16 | i32 | i64 | f32
deriving DecidableEq, Repr

/-- Table 0-4: the object types; a REC packs its members in order. -/
inductive Ty
  | sc (t : Scalar)
  | str
  | blob
  | record (members : List Scalar)
deriving DecidableEq, Repr

/-- Table 0-5: access classes. -/
inductive Acc
  | ro | rw | wo | rws | auth
deriving DecidableEq, Repr

/-- R3: which ring an element refers to: none, subindex div k, the port number (subindex mod 4), the event source, or
the key slot. -/
inductive Per
  | none' | div (k : Nat) | port | src | key
deriving DecidableEq, Repr

/-- R3: which published buffer an object belongs to (R288). -/
inductive Stamp
  | no | acq | est
deriving DecidableEq, Repr

/-- R8: one object. `lo` and `hi` bound a written scalar (for F32, as bits of non-negative numbers). -/
structure Obj where
  index : Nat
  count : Nat
  ty : Ty
  acc : Acc
  dflt : List Int
  range : Option (Int × Int) := none
  /-- R340. -/
  saved : Bool := false
  /-- Table 10-3 COMMAND. -/
  cmd : Bool := false
  stamp : Stamp := .no
  per : Per := .none'
  /-- R445, R472: every element exists on both variants. -/
  whole : Bool := false
deriving DecidableEq, Repr

/-! The index of every object, under its name. -/
namespace O

/-- R47: `WatchdogWindow`. -/
abbrev watchdogWindow : Nat := 0x2010
/-- R47: `EventRoute`. -/
abbrev eventRoute : Nat := 0x2400
/-- R47: `FabricThroughput`. -/
abbrev fabricThroughput : Nat := 0x5001
/-- R47: `SramAllocation`. -/
abbrev sramAllocation : Nat := 0xB010
/-- R47: `FlashAllocation`. -/
abbrev flashAllocation : Nat := 0xB011
/-- R47: `SramEccCount`. -/
abbrev sramEccCount : Nat := 0xB012
/-- R47: `InterDieLinkErrors`. -/
abbrev interDieLinkErrors : Nat := 0xB021
/-- R47: `WatchdogFailures`. -/
abbrev watchdogFailures : Nat := 0xB022
/-- R78: `ChainRingState`. -/
abbrev chainRingState : Nat := 0x4010
/-- R78: `ChainBreakLink`. -/
abbrev chainBreakLink : Nat := 0x4011
/-- R78: `HopDelay`. -/
abbrev hopDelay : Nat := 0x4012
/-- R78: `RingRoundTrip`. -/
abbrev ringRoundTrip : Nat := 0x4013
/-- R78: `ChainErrorCount`. -/
abbrev chainErrorCount : Nat := 0x4014
/-- R78: `ModuleUid`. -/
abbrev moduleUid : Nat := 0x4015
/-- R78: `ModuleAuthState`. -/
abbrev moduleAuthState : Nat := 0x4016
/-- R78: `ChainMonitorCount`. -/
abbrev chainMonitorCount : Nat := 0x4017
/-- R118: `TallyPeriod`. -/
abbrev tallyPeriod : Nat := 0x2100
/-- R118: `CurrentPrimary`. -/
abbrev currentPrimary : Nat := 0x2101
/-- R118: `CurrentChannelEnable`. -/
abbrev currentChannelEnable : Nat := 0x2102
/-- R118: `CurrentFullScale`. -/
abbrev currentFullScale : Nat := 0x2103
/-- R118: `CurrentOffset`. -/
abbrev currentOffset : Nat := 0x2104
/-- R118: `CurrentAlignOffset`. -/
abbrev currentAlignOffset : Nat := 0x2105
/-- R118: `FastPathDebounce`. -/
abbrev fastPathDebounce : Nat := 0x2106
/-- R118: `CurrentCrossTolerance`. -/
abbrev currentCrossTolerance : Nat := 0x2107
/-- R118: `ComparatorCount`. -/
abbrev comparatorCount : Nat := 0x2108
/-- R118: `BalanceMode`. -/
abbrev balanceMode : Nat := 0x2110
/-- R118: `BalanceThreshold`. -/
abbrev balanceThreshold : Nat := 0x2111
/-- R118: `BalanceChargeThreshold`. -/
abbrev balanceChargeThreshold : Nat := 0x2112
/-- R118: `BalanceMaxPerMonitor`. -/
abbrev balanceMaxPerMonitor : Nat := 0x2113
/-- R118: `BalanceTimer`. -/
abbrev balanceTimer : Nat := 0x2114
/-- R118: `BalanceMinVoltage`. -/
abbrev balanceMinVoltage : Nat := 0x2115
/-- R118: `BalanceMaxTemp`. -/
abbrev balanceMaxTemp : Nat := 0x2116
/-- R118: `OpenWirePeriod`. -/
abbrev openWirePeriod : Nat := 0x2120
/-- R118: `OpenWireSignatureLevel`. -/
abbrev openWireSignatureLevel : Nat := 0x2121
/-- R118: `OpenWireTestLevel`. -/
abbrev openWireTestLevel : Nat := 0x2122
/-- R118: `StackCheckTolerance`. -/
abbrev stackCheckTolerance : Nat := 0x2123
/-- R118: `CapturePreTrigger`. -/
abbrev capturePreTrigger : Nat := 0x2130
/-- R118: `CaptureArm`. -/
abbrev captureArm : Nat := 0x2131
/-- R118: `CaptureTrigger`. -/
abbrev captureTrigger : Nat := 0x2132
/-- R118: `AcqTallyIndex`. -/
abbrev acqTallyIndex : Nat := 0x4001
/-- R118: `CellVoltage`. -/
abbrev cellVoltage : Nat := 0x4100
/-- R118: `CellFlags`. -/
abbrev cellFlags : Nat := 0x4101
/-- R118: `ModuleStack`. -/
abbrev moduleStack : Nat := 0x4110
/-- R118: `ModuleDieTemp`. -/
abbrev moduleDieTemp : Nat := 0x4111
/-- R118: `ModuleRefCheck`. -/
abbrev moduleRefCheck : Nat := 0x4112
/-- R118: `StringCurrent`. -/
abbrev stringCurrent : Nat := 0x4200
/-- R118: `StringCurrentSource`. -/
abbrev stringCurrentSource : Nat := 0x4201
/-- R118: `CurrentChannel`. -/
abbrev currentChannel : Nat := 0x4202
/-- R118: `CurrentChannelMean`. -/
abbrev currentChannelMean : Nat := 0x4203
/-- R118: `CurrentFlags`. -/
abbrev currentFlags : Nat := 0x4204
/-- R118: `StringCurrentMean`. -/
abbrev stringCurrentMean : Nat := 0x4205
/-- R118: `Temperature`. -/
abbrev temperature : Nat := 0x4300
/-- R118: `TempFlags`. -/
abbrev tempFlags : Nat := 0x4301
/-- R118: `CaptureRecord`. -/
abbrev captureRecord : Nat := 0x4400
/-- R118: `CaptureState`. -/
abbrev captureState : Nat := 0x4401
/-- R118: `CaptureTriggerList`. -/
abbrev captureTriggerList : Nat := 0x4402
/-- R118: `CaptureTriggerCount`. -/
abbrev captureTriggerCount : Nat := 0x4403
/-- R118: `OpenWireRequest`. -/
abbrev openWireRequest : Nat := 0x4410
/-- R118: `OpenWireResult`. -/
abbrev openWireResult : Nat := 0x4411
/-- R140: `EstimatorRate`. -/
abbrev estimatorRate : Nat := 0x5000
/-- R140: `EstimatorRateLimit`. -/
abbrev estimatorRateLimit : Nat := 0x5002
/-- R140: `EpochNumber`. -/
abbrev epochNumber : Nat := 0x5003
/-- R140: `EstimatorStringState`. -/
abbrev estimatorStringState : Nat := 0x5004
/-- R140: `EpochDuration`. -/
abbrev epochDuration : Nat := 0x5005
/-- R140: `EpochDurationMax`. -/
abbrev epochDurationMax : Nat := 0x5006
/-- R140: `AbandonedEpochs`. -/
abbrev abandonedEpochs : Nat := 0x5007
/-- R140: `EstimatorMaxAge`. -/
abbrev estimatorMaxAge : Nat := 0x5008
/-- R140: `EpochTime`. -/
abbrev epochTime : Nat := 0x5009
/-- R140: `EuState`. -/
abbrev euState : Nat := 0x500A
/-- R140: `ClusterCellCount`. -/
abbrev clusterCellCount : Nat := 0x500B
/-- R140: `ClusterFirstModule`. -/
abbrev clusterFirstModule : Nat := 0x500C
/-- R140: `ClusterModuleCount`. -/
abbrev clusterModuleCount : Nat := 0x500D
/-- R140: `TableCacheMisses`. -/
abbrev tableCacheMisses : Nat := 0x500E
/-- R140: `CellEpochFlags`. -/
abbrev cellEpochFlags : Nat := 0x5010
/-- R140: `FabricSelfTestRequest`. -/
abbrev fabricSelfTestRequest : Nat := 0x5020
/-- R140: `FabricSelfTestResult`. -/
abbrev fabricSelfTestResult : Nat := 0x5021
/-- R182: `CellSoc`. -/
abbrev cellSoc : Nat := 0x5100
/-- R182: `CellSocSigma`. -/
abbrev cellSocSigma : Nat := 0x5101
/-- R182: `CellCoreTemp`. -/
abbrev cellCoreTemp : Nat := 0x5102
/-- R182: `CellOcv`. -/
abbrev cellOcv : Nat := 0x5103
/-- R182: `CellCapacity`. -/
abbrev cellCapacity : Nat := 0x5104
/-- R182: `CellSohCapacity`. -/
abbrev cellSohCapacity : Nat := 0x5105
/-- R182: `CellSohResistance`. -/
abbrev cellSohResistance : Nat := 0x5106
/-- R182: `CellResidual`. -/
abbrev cellResidual : Nat := 0x5107
/-- R182: `CellNormInnovation`. -/
abbrev cellNormInnovation : Nat := 0x5108
/-- R182: `CellLeakExcess`. -/
abbrev cellLeakExcess : Nat := 0x5109
/-- R182: `CellEstFlags`. -/
abbrev cellEstFlags : Nat := 0x510A
/-- R182: `CellModelState`. -/
abbrev cellModelState : Nat := 0x510B
/-- R182: `StringSocMean`. -/
abbrev stringSocMean : Nat := 0x5200
/-- R182: `StringSocMin`. -/
abbrev stringSocMin : Nat := 0x5201
/-- R182: `StringSocMax`. -/
abbrev stringSocMax : Nat := 0x5202
/-- R182: `StringSohCapacity`. -/
abbrev stringSohCapacity : Nat := 0x5203
/-- R182: `StringSohResistance`. -/
abbrev stringSohResistance : Nat := 0x5204
/-- R182: `InferredCurrent`. -/
abbrev inferredCurrent : Nat := 0x5210
/-- R182: `InferredCurrentValid`. -/
abbrev inferredCurrentValid : Nat := 0x5211
/-- R182: `CurrentPlausibility`. -/
abbrev currentPlausibility : Nat := 0x5212
/-- R182: `StringDisagreement`. -/
abbrev stringDisagreement : Nat := 0x5213
/-- R182: `StringAtRest`. -/
abbrev stringAtRest : Nat := 0x5214
/-- R182: `ChargeCurrentLimit`. -/
abbrev chargeCurrentLimit : Nat := 0x5230
/-- R182: `DischargeCurrentLimit`. -/
abbrev dischargeCurrentLimit : Nat := 0x5231
/-- R182: `ChargePowerLimit`. -/
abbrev chargePowerLimit : Nat := 0x5232
/-- R182: `DischargePowerLimit`. -/
abbrev dischargePowerLimit : Nat := 0x5233
/-- R182: `EstimationMode`. -/
abbrev estimationMode : Nat := 0x5300
/-- R182: `EkfProcessNoise`. -/
abbrev ekfProcessNoise : Nat := 0x5301
/-- R182: `EkfMeasurementNoise`. -/
abbrev ekfMeasurementNoise : Nat := 0x5302
/-- R182: `EkfInitialSigma`. -/
abbrev ekfInitialSigma : Nat := 0x5303
/-- R182: `ParamFilterNoise`. -/
abbrev paramFilterNoise : Nat := 0x5304
/-- R182: `CoulombicEfficiency`. -/
abbrev coulombicEfficiency : Nat := 0x5305
/-- R182: `RestCurrentLimit`. -/
abbrev restCurrentLimit : Nat := 0x5310
/-- R182: `RestMinDuration`. -/
abbrev restMinDuration : Nat := 0x5311
/-- R182: `RestDriftLimit`. -/
abbrev restDriftLimit : Nat := 0x5312
/-- R182: `CapLearnMinSpan`. -/
abbrev capLearnMinSpan : Nat := 0x5320
/-- R182: `CapLearnMinSlope`. -/
abbrev capLearnMinSlope : Nat := 0x5321
/-- R182: `CapLearnMaxAge`. -/
abbrev capLearnMaxAge : Nat := 0x5322
/-- R182: `BleedResistance`. -/
abbrev bleedResistance : Nat := 0x5323
/-- R182: `ImpedanceStepMin`. -/
abbrev impedanceStepMin : Nat := 0x5330
/-- R182: `ShortThreshold`. -/
abbrev shortThreshold : Nat := 0x5340
/-- R182: `PredictVmax`. -/
abbrev predictVmax : Nat := 0x5350
/-- R182: `PredictVmin`. -/
abbrev predictVmin : Nat := 0x5351
/-- R182: `PredictSocMax`. -/
abbrev predictSocMax : Nat := 0x5352
/-- R182: `PredictSocMin`. -/
abbrev predictSocMin : Nat := 0x5353
/-- R182: `PredictTmax`. -/
abbrev predictTmax : Nat := 0x5354
/-- R182: `StringCurrentCap`. -/
abbrev stringCurrentCap : Nat := 0x5355
/-- R182: `ModelTableFile`. -/
abbrev modelTableFile : Nat := 0x5400
/-- R182: `TableSetState`. -/
abbrev tableSetState : Nat := 0x5401
/-- R182: `TableSetLoadError`. -/
abbrev tableSetLoadError : Nat := 0x5402
/-- R182: `TableSetCrc`. -/
abbrev tableSetCrc : Nat := 0x5403
/-- R182: `TableSetName`. -/
abbrev tableSetName : Nat := 0x5404
/-- R182: `CapLearnReportRequest`. -/
abbrev capLearnReportRequest : Nat := 0x5500
/-- R182: `CapLearnReportResult`. -/
abbrev capLearnReportResult : Nat := 0x5501
/-- R182: `ImpedanceSnapshotRequest`. -/
abbrev impedanceSnapshotRequest : Nat := 0x5502
/-- R182: `ImpedanceSnapshotResult`. -/
abbrev impedanceSnapshotResult : Nat := 0x5503
/-- R182: `CompatSoc`. -/
abbrev compatSoc : Nat := 0x5F00
/-- R182: `CompatStringSocMin`. -/
abbrev compatStringSocMin : Nat := 0x5F01
/-- R182: `CompatStringSocMean`. -/
abbrev compatStringSocMean : Nat := 0x5F02
/-- R182: `CompatCountedCharge`. -/
abbrev compatCountedCharge : Nat := 0x5F03
/-- R182: `CompatAnchorTime`. -/
abbrev compatAnchorTime : Nat := 0x5F04
/-- R219: `CellOvTrip`. -/
abbrev cellOvTrip : Nat := 0x6000
/-- R219: `CellUvTrip`. -/
abbrev cellUvTrip : Nat := 0x6001
/-- R219: `CellWarnHigh`. -/
abbrev cellWarnHigh : Nat := 0x6002
/-- R219: `CellWarnLow`. -/
abbrev cellWarnLow : Nat := 0x6003
/-- R219: `CellOtTrip`. -/
abbrev cellOtTrip : Nat := 0x6004
/-- R219: `CellUtTrip`. -/
abbrev cellUtTrip : Nat := 0x6005
/-- R219: `TempWarnHigh`. -/
abbrev tempWarnHigh : Nat := 0x6006
/-- R219: `TempChargeMin`. -/
abbrev tempChargeMin : Nat := 0x6007
/-- R219: `FastChargeThreshold`. -/
abbrev fastChargeThreshold : Nat := 0x6008
/-- R219: `FastDischargeThreshold`. -/
abbrev fastDischargeThreshold : Nat := 0x6009
/-- R219: `OverLimitMargin`. -/
abbrev overLimitMargin : Nat := 0x600A
/-- R219: `OverLimitTime`. -/
abbrev overLimitTime : Nat := 0x600B
/-- R219: `ProtectionLevel`. -/
abbrev protectionLevel : Nat := 0x6010
/-- R219: `DerateCharge`. -/
abbrev derateCharge : Nat := 0x6011
/-- R219: `DerateDischarge`. -/
abbrev derateDischarge : Nat := 0x6012
/-- R219: `TripCause`. -/
abbrev tripCause : Nat := 0x6013
/-- R219: `TripReset`. -/
abbrev tripReset : Nat := 0x6014
/-- R219: `OpenPending`. -/
abbrev openPending : Nat := 0x6015
/-- R219: `OpenDeadline`. -/
abbrev openDeadline : Nat := 0x6016
/-- R219: `StringVoltage`. -/
abbrev stringVoltage : Nat := 0x6020
/-- R219: `BusVoltage`. -/
abbrev busVoltage : Nat := 0x6021
/-- R219: `BusDividerRatio`. -/
abbrev busDividerRatio : Nat := 0x6022
/-- R219: `JoinDelta`. -/
abbrev joinDelta : Nat := 0x6023
/-- R219: `StringCommand`. -/
abbrev stringCommand : Nat := 0x6030
/-- R219: `StringContactorState`. -/
abbrev stringContactorState : Nat := 0x6031
/-- R219: `CloseBlockReason`. -/
abbrev closeBlockReason : Nat := 0x6032
/-- R219: `ContactorRole`. -/
abbrev contactorRole : Nat := 0x6033
/-- R219: `CoilPullInCurrent`. -/
abbrev coilPullInCurrent : Nat := 0x6034
/-- R219: `CoilHoldCurrent`. -/
abbrev coilHoldCurrent : Nat := 0x6035
/-- R219: `CoilPullInTime`. -/
abbrev coilPullInTime : Nat := 0x6036
/-- R219: `ContactorCloseTime`. -/
abbrev contactorCloseTime : Nat := 0x6037
/-- R219: `ContactorDropTime`. -/
abbrev contactorDropTime : Nat := 0x6038
/-- R219: `ContactorStatus`. -/
abbrev contactorStatus : Nat := 0x6039
/-- R219: `CoilCurrent`. -/
abbrev coilCurrent : Nat := 0x603A
/-- R219: `PrechargeTau`. -/
abbrev prechargeTau : Nat := 0x6040
/-- R219: `PrechargeResistance`. -/
abbrev prechargeResistance : Nat := 0x6041
/-- R219: `PrechargeCooldown`. -/
abbrev prechargeCooldown : Nat := 0x6042
/-- R219: `PrechargeResult`. -/
abbrev prechargeResult : Nat := 0x6043
/-- R219: `JoinDeltaMax`. -/
abbrev joinDeltaMax : Nat := 0x6050
/-- R219: `JoinCurrentMax`. -/
abbrev joinCurrentMax : Nat := 0x6051
/-- R219: `JoinWaitTimeout`. -/
abbrev joinWaitTimeout : Nat := 0x6052
/-- R219: `BusDeadLevel`. -/
abbrev busDeadLevel : Nat := 0x6053
/-- R219: `WeldCurrentLimit`. -/
abbrev weldCurrentLimit : Nat := 0x6060
/-- R219: `WeldCheckTime`. -/
abbrev weldCheckTime : Nat := 0x6061
/-- R219: `WeldCheckMinDelta`. -/
abbrev weldCheckMinDelta : Nat := 0x6062
/-- R219: `WeldState`. -/
abbrev weldState : Nat := 0x6063
/-- R219: `WeldClear`. -/
abbrev weldClear : Nat := 0x6064
/-- R219: `OpenCurrentLimit`. -/
abbrev openCurrentLimit : Nat := 0x6070
/-- R219: `OpenRampTimeout`. -/
abbrev openRampTimeout : Nat := 0x6071
/-- R219: `ContactorBreakMax`. -/
abbrev contactorBreakMax : Nat := 0x6072
/-- R219: `LoadBreakCount`. -/
abbrev loadBreakCount : Nat := 0x6073
/-- R219: `LoadBreakPeak`. -/
abbrev loadBreakPeak : Nat := 0x6074
/-- R219: `AppliedChargeLimit`. -/
abbrev appliedChargeLimit : Nat := 0x6080
/-- R219: `AppliedDischargeLimit`. -/
abbrev appliedDischargeLimit : Nat := 0x6081
/-- R219: `BusChargeCurrentLimit`. -/
abbrev busChargeCurrentLimit : Nat := 0x6082
/-- R219: `BusDischargeCurrentLimit`. -/
abbrev busDischargeCurrentLimit : Nat := 0x6083
/-- R219: `BusChargePowerLimit`. -/
abbrev busChargePowerLimit : Nat := 0x6084
/-- R219: `BusDischargePowerLimit`. -/
abbrev busDischargePowerLimit : Nat := 0x6085
/-- R219: `StringCurrentShare`. -/
abbrev stringCurrentShare : Nat := 0x6086
/-- R219: `FallbackChargeCurrent`. -/
abbrev fallbackChargeCurrent : Nat := 0x6087
/-- R219: `FallbackDischargeCurrent`. -/
abbrev fallbackDischargeCurrent : Nat := 0x6088
/-- R249: `SafetyInputMap`. -/
abbrev safetyInputMap : Nat := 0x6100
/-- R249: `SafetyDiscrepancyTime`. -/
abbrev safetyDiscrepancyTime : Nat := 0x6101
/-- R249: `SafetyInputFilter`. -/
abbrev safetyInputFilter : Nat := 0x6102
/-- R249: `SafetyInputState`. -/
abbrev safetyInputState : Nat := 0x6103
/-- R249: `SafeOffState`. -/
abbrev safeOffState : Nat := 0x6104
/-- R249: `OffPulseWidth`. -/
abbrev offPulseWidth : Nat := 0x6110
/-- R249: `OffPulseInterval`. -/
abbrev offPulseInterval : Nat := 0x6111
/-- R249: `OffPulseFailures`. -/
abbrev offPulseFailures : Nat := 0x6112
/-- R249: `OpeningProofInterval`. -/
abbrev openingProofInterval : Nat := 0x6120
/-- R249: `OpeningProofGrace`. -/
abbrev openingProofGrace : Nat := 0x6121
/-- R249: `OpeningProofTime`. -/
abbrev openingProofTime : Nat := 0x6122
/-- R249: `OpeningProofDue`. -/
abbrev openingProofDue : Nat := 0x6123
/-- R249: `ContactorOpenTestRequest`. -/
abbrev contactorOpenTestRequest : Nat := 0x6124
/-- R249: `ContactorOpenTestResult`. -/
abbrev contactorOpenTestResult : Nat := 0x6125
/-- R249: `SafetyConfigCrc`. -/
abbrev safetyConfigCrc : Nat := 0x6130
/-- R279: `LoadSwitchCommand`. -/
abbrev loadSwitchCommand : Nat := 0x7000
/-- R279: `LoadSwitchPwmDuty`. -/
abbrev loadSwitchPwmDuty : Nat := 0x7001
/-- R279: `LoadSwitchPwmFrequency`. -/
abbrev loadSwitchPwmFrequency : Nat := 0x7002
/-- R279: `LoadSwitchFailSafe`. -/
abbrev loadSwitchFailSafe : Nat := 0x7003
/-- R279: `LoadSwitchPriority`. -/
abbrev loadSwitchPriority : Nat := 0x7004
/-- R279: `LsLimitTime`. -/
abbrev lsLimitTime : Nat := 0x7005
/-- R279: `LsRetryLimit`. -/
abbrev lsRetryLimit : Nat := 0x7006
/-- R279: `LsRetryDelay`. -/
abbrev lsRetryDelay : Nat := 0x7007
/-- R279: `LsOpenLoadCurrent`. -/
abbrev lsOpenLoadCurrent : Nat := 0x7008
/-- R279: `LsOffDiag`. -/
abbrev lsOffDiag : Nat := 0x7009
/-- R279: `LoadSwitchStatus`. -/
abbrev loadSwitchStatus : Nat := 0x7010
/-- R279: `LoadSwitchCurrent`. -/
abbrev loadSwitchCurrent : Nat := 0x7011
/-- R279: `LoadSwitchRetryCount`. -/
abbrev loadSwitchRetryCount : Nat := 0x7012
/-- R279: `LoadSwitchTemp`. -/
abbrev loadSwitchTemp : Nat := 0x7013
/-- R279: `LoadSwitchTrips`. -/
abbrev loadSwitchTrips : Nat := 0x7014
/-- R279: `LsFaultClear`. -/
abbrev lsFaultClear : Nat := 0x7015
/-- R279: `SwitchDissipationBudget`. -/
abbrev switchDissipationBudget : Nat := 0x7020
/-- R279: `SwitchDissipation`. -/
abbrev switchDissipation : Nat := 0x7021
/-- R279: `MotorSpeedCommand`. -/
abbrev motorSpeedCommand : Nat := 0x7800
/-- R279: `MotorDirection`. -/
abbrev motorDirection : Nat := 0x7801
/-- R279: `MotorPolePairs`. -/
abbrev motorPolePairs : Nat := 0x7802
/-- R279: `MdPwmFrequency`. -/
abbrev mdPwmFrequency : Nat := 0x7803
/-- R279: `MdDeadTime`. -/
abbrev mdDeadTime : Nat := 0x7804
/-- R279: `MdCurrentLimit`. -/
abbrev mdCurrentLimit : Nat := 0x7805
/-- R279: `MdShuntResistance`. -/
abbrev mdShuntResistance : Nat := 0x7806
/-- R279: `MdLimitTime`. -/
abbrev mdLimitTime : Nat := 0x7807
/-- R279: `MdVdsThreshold`. -/
abbrev mdVdsThreshold : Nat := 0x7808
/-- R279: `MdAccelLimit`. -/
abbrev mdAccelLimit : Nat := 0x7809
/-- R279: `MdDecelLimit`. -/
abbrev mdDecelLimit : Nat := 0x780A
/-- R279: `MdSpeedKp`. -/
abbrev mdSpeedKp : Nat := 0x780B
/-- R279: `MdSpeedKi`. -/
abbrev mdSpeedKi : Nat := 0x780C
/-- R279: `MdCommSoften`. -/
abbrev mdCommSoften : Nat := 0x780D
/-- R279: `MdCommAdvance`. -/
abbrev mdCommAdvance : Nat := 0x780E
/-- R279: `MdBlanking`. -/
abbrev mdBlanking : Nat := 0x780F
/-- R279: `MdAlignDuty`. -/
abbrev mdAlignDuty : Nat := 0x7810
/-- R279: `MdAlignTime`. -/
abbrev mdAlignTime : Nat := 0x7811
/-- R279: `MdHandoverSpeed`. -/
abbrev mdHandoverSpeed : Nat := 0x7812
/-- R279: `MdStartRampTime`. -/
abbrev mdStartRampTime : Nat := 0x7813
/-- R279: `MdCoastTau`. -/
abbrev mdCoastTau : Nat := 0x7814
/-- R279: `MdCatchMin`. -/
abbrev mdCatchMin : Nat := 0x7815
/-- R279: `MdStopSpeed`. -/
abbrev mdStopSpeed : Nat := 0x7816
/-- R279: `MdRetryLimit`. -/
abbrev mdRetryLimit : Nat := 0x7817
/-- R279: `MdRetryDelay`. -/
abbrev mdRetryDelay : Nat := 0x7818
/-- R279: `MotorFailSafe`. -/
abbrev motorFailSafe : Nat := 0x7819
/-- R279: `MdFailSafeSpeed`. -/
abbrev mdFailSafeSpeed : Nat := 0x781A
/-- R279: `MotorPriority`. -/
abbrev motorPriority : Nat := 0x781B
/-- R279: `MotorStatus`. -/
abbrev motorStatus : Nat := 0x7820
/-- R279: `MotorSpeed`. -/
abbrev motorSpeed : Nat := 0x7821
/-- R279: `MotorSpeedRef`. -/
abbrev motorSpeedRef : Nat := 0x7822
/-- R279: `MotorDuty`. -/
abbrev motorDuty : Nat := 0x7823
/-- R279: `MotorCurrent`. -/
abbrev motorCurrent : Nat := 0x7824
/-- R279: `MotorRetryCount`. -/
abbrev motorRetryCount : Nat := 0x7825
/-- R279: `MotorTemp`. -/
abbrev motorTemp : Nat := 0x7826
/-- R279: `MotorFaultClear`. -/
abbrev motorFaultClear : Nat := 0x7827
/-- R279: `VmotVoltage`. -/
abbrev vmotVoltage : Nat := 0x7830
/-- R279: `VmotUnderLevel`. -/
abbrev vmotUnderLevel : Nat := 0x7831
/-- R279: `VmotRampHoldLevel`. -/
abbrev vmotRampHoldLevel : Nat := 0x7832
/-- R279: `BrakeOffLevel`. -/
abbrev brakeOffLevel : Nat := 0x7833
/-- R279: `BrakeOnLevel`. -/
abbrev brakeOnLevel : Nat := 0x7834
/-- R279: `VmotAbsLimit`. -/
abbrev vmotAbsLimit : Nat := 0x7835
/-- R279: `BrakeResistorValue`. -/
abbrev brakeResistorValue : Nat := 0x7836
/-- R279: `BrakeShuntResistance`. -/
abbrev brakeShuntResistance : Nat := 0x7837
/-- R279: `BrakeStatus`. -/
abbrev brakeStatus : Nat := 0x7838
/-- R279: `BrakeFaultClear`. -/
abbrev brakeFaultClear : Nat := 0x7839
/-- R319: `QlpNodeId`. -/
abbrev qlpNodeId : Nat := 0x8000
/-- R319: `QlpRequestRate`. -/
abbrev qlpRequestRate : Nat := 0x8001
/-- R319: `CanEnable`. -/
abbrev canEnable : Nat := 0x8010
/-- R319: `CanNominalTiming`. -/
abbrev canNominalTiming : Nat := 0x8011
/-- R319: `CanDataTiming`. -/
abbrev canDataTiming : Nat := 0x8012
/-- R319: `CanTdc`. -/
abbrev canTdc : Nat := 0x8013
/-- R319: `CanBrs`. -/
abbrev canBrs : Nat := 0x8014
/-- R319: `CanTdcMeasured`. -/
abbrev canTdcMeasured : Nat := 0x8015
/-- R319: `CanErrorState`. -/
abbrev canErrorState : Nat := 0x8016
/-- R319: `CanErrorCounters`. -/
abbrev canErrorCounters : Nat := 0x8017
/-- R319: `CanStats`. -/
abbrev canStats : Nat := 0x8018
/-- R319: `CanTxDropped`. -/
abbrev canTxDropped : Nat := 0x8019
/-- R319: `EthEnable`. -/
abbrev ethEnable : Nat := 0x8020
/-- R319: `EthIpAddress`. -/
abbrev ethIpAddress : Nat := 0x8021
/-- R319: `EthNetmask`. -/
abbrev ethNetmask : Nat := 0x8022
/-- R319: `EthGateway`. -/
abbrev ethGateway : Nat := 0x8023
/-- R319: `EthMacAddress`. -/
abbrev ethMacAddress : Nat := 0x8024
/-- R319: `EthLinkState`. -/
abbrev ethLinkState : Nat := 0x8025
/-- R319: `EthStats`. -/
abbrev ethStats : Nat := 0x8026
/-- R319: `EthPhyAddress`. -/
abbrev ethPhyAddress : Nat := 0x8027
/-- R319: `DeviceTime`. -/
abbrev deviceTime : Nat := 0x8100
/-- R319: `TimeSyncState`. -/
abbrev timeSyncState : Nat := 0x8101
/-- R319: `TimeSource`. -/
abbrev timeSource : Nat := 0x8102
/-- R319: `TimeOffset`. -/
abbrev timeOffset : Nat := 0x8103
/-- R319: `TimeRateAdjust`. -/
abbrev timeRateAdjust : Nat := 0x8104
/-- R319: `TimeSlewLimit`. -/
abbrev timeSlewLimit : Nat := 0x8105
/-- R319: `TimeStepMax`. -/
abbrev timeStepMax : Nat := 0x8106
/-- R319: `TimeUtcOffset`. -/
abbrev timeUtcOffset : Nat := 0x8107
/-- R319: `TimeFlags`. -/
abbrev timeFlags : Nat := 0x8108
/-- R319: `ElapsedTime`. -/
abbrev elapsedTime : Nat := 0x8109
/-- R319: `TimeStepTotal`. -/
abbrev timeStepTotal : Nat := 0x810A
/-- R319: `PtpDomain`. -/
abbrev ptpDomain : Nat := 0x8110
/-- R319: `PtpIngressLatency`. -/
abbrev ptpIngressLatency : Nat := 0x8111
/-- R319: `PtpEgressLatency`. -/
abbrev ptpEgressLatency : Nat := 0x8112
/-- R319: `PtpMasterIdentity`. -/
abbrev ptpMasterIdentity : Nat := 0x8113
/-- R319: `LighthousePeriod`. -/
abbrev lighthousePeriod : Nat := 0x8120
/-- R319: `LighthouseEnable`. -/
abbrev lighthouseEnable : Nat := 0x8121
/-- R319: `NotifyCanChannels`. -/
abbrev notifyCanChannels : Nat := 0x8200
/-- R319: `NotifySubscriber`. -/
abbrev notifySubscriber : Nat := 0x8201
/-- R319: `NotificationSequence`. -/
abbrev notificationSequence : Nat := 0x8202
/-- R319: `NotificationBacklog`. -/
abbrev notificationBacklog : Nat := 0x8203
/-- R319: `EventAcknowledge`. -/
abbrev eventAcknowledge : Nat := 0x8204
/-- R319: `NotificationsDropped`. -/
abbrev notificationsDropped : Nat := 0x8205
/-- R319: `StreamConfig`. -/
abbrev streamConfig : Nat := 0x8300
/-- R319: `StreamEntry`. -/
abbrev streamEntry : Nat := 0x8301
/-- R319: `SessionState`. -/
abbrev sessionState : Nat := 0x8400
/-- R319: `AuthFailures`. -/
abbrev authFailures : Nat := 0x8401
/-- R319: `QlpViolations`. -/
abbrev qlpViolations : Nat := 0x8500
/-- R347: `DeviceName`. -/
abbrev deviceName : Nat := 0x1000
/-- R347: `DeviceVariant`. -/
abbrev deviceVariant : Nat := 0x1001
/-- R347: `SerialNumber`. -/
abbrev serialNumber : Nat := 0x1002
/-- R347: `HardwareRevision`. -/
abbrev hardwareRevision : Nat := 0x1003
/-- R347: `FirmwareVersion`. -/
abbrev firmwareVersion : Nat := 0x1004
/-- R347: `DictionaryVersion`. -/
abbrev dictionaryVersion : Nat := 0x1005
/-- R347: `DeviceStatus`. -/
abbrev deviceStatus : Nat := 0x1010
/-- R347: `Uptime`. -/
abbrev uptime : Nat := 0x1011
/-- R347: `ObjectCount`. -/
abbrev objectCount : Nat := 0x1F00
/-- R347: `ObjectDescriptor`. -/
abbrev objectDescriptor : Nat := 0x1F01
/-- R347: `ConfigCommand`. -/
abbrev configCommand : Nat := 0x2F00
/-- R347: `ConfigState`. -/
abbrev configState : Nat := 0x2F01
/-- R347: `ConfigImage`. -/
abbrev configImage : Nat := 0x2F02
/-- R347: `ConfigLoadError`. -/
abbrev configLoadError : Nat := 0x2F03
/-- R347: `ManifestFile`. -/
abbrev manifestFile : Nat := 0x3000
/-- R347: `ManifestState`. -/
abbrev manifestState : Nat := 0x3001
/-- R347: `ManifestLoadError`. -/
abbrev manifestLoadError : Nat := 0x3002
/-- R347: `ManifestCrc`. -/
abbrev manifestCrc : Nat := 0x3003
/-- R347: `ManifestRevision`. -/
abbrev manifestRevision : Nat := 0x3004
/-- R347: `ManifestName`. -/
abbrev manifestName : Nat := 0x3005
/-- R347: `ManifestUidComplete`. -/
abbrev manifestUidComplete : Nat := 0x3006
/-- R347: `ManifestAdoptUids`. -/
abbrev manifestAdoptUids : Nat := 0x3007
/-- R347: `ManifestMismatch`. -/
abbrev manifestMismatch : Nat := 0x3008
/-- R347: `ManifestModuleCount`. -/
abbrev manifestModuleCount : Nat := 0x3010
/-- R347: `ManifestCellCount`. -/
abbrev manifestCellCount : Nat := 0x3011
/-- R347: `ManifestTempCount`. -/
abbrev manifestTempCount : Nat := 0x3012
/-- R347: `ManifestModule`. -/
abbrev manifestModule : Nat := 0x3020
/-- R347: `CellTempInput`. -/
abbrev cellTempInput : Nat := 0x3030
/-- R377: `DuplexMode`. -/
abbrev duplexMode : Nat := 0x2200
/-- R377: `BerthRevertTime`. -/
abbrev berthRevertTime : Nat := 0x2201
/-- R377: `BerthState`. -/
abbrev berthState : Nat := 0x8600
/-- R377: `BerthStatus`. -/
abbrev berthStatus : Nat := 0x8601
/-- R377: `BerthCommand`. -/
abbrev berthCommand : Nat := 0x8602
/-- R377: `DuplexLinkState`. -/
abbrev duplexLinkState : Nat := 0x8603
/-- R377: `DuplexConfigCrc`. -/
abbrev duplexConfigCrc : Nat := 0x8604
/-- R377: `PartnerConfigCrc`. -/
abbrev partnerConfigCrc : Nat := 0x8605
/-- R377: `DuplexConfigMatch`. -/
abbrev duplexConfigMatch : Nat := 0x8606
/-- R377: `PartnerNodeId`. -/
abbrev partnerNodeId : Nat := 0x8607
/-- R377: `HandoverCount`. -/
abbrev handoverCount : Nat := 0x8608
/-- R377: `LastHandover`. -/
abbrev lastHandover : Nat := 0x8609
/-- R377: `DuplexLinkErrors`. -/
abbrev duplexLinkErrors : Nat := 0x860A
/-- R377: `BerthConflicts`. -/
abbrev berthConflicts : Nat := 0x860B
/-- R392: `LogOldestSequence`. -/
abbrev logOldestSequence : Nat := 0x9000
/-- R392: `LogNewestSequence`. -/
abbrev logNewestSequence : Nat := 0x9001
/-- R392: `LogRecordCount`. -/
abbrev logRecordCount : Nat := 0x9002
/-- R392: `LogFreeBytes`. -/
abbrev logFreeBytes : Nat := 0x9003
/-- R392: `LogGeneration`. -/
abbrev logGeneration : Nat := 0x9004
/-- R392: `LogDroppedCount`. -/
abbrev logDroppedCount : Nat := 0x9005
/-- R392: `LogSuppressedCount`. -/
abbrev logSuppressedCount : Nat := 0x9006
/-- R392: `LogReclaimedPages`. -/
abbrev logReclaimedPages : Nat := 0x9007
/-- R392: `LogPageState`. -/
abbrev logPageState : Nat := 0x9008
/-- R392: `LogCursor`. -/
abbrev logCursor : Nat := 0x9010
/-- R392: `LogRecords`. -/
abbrev logRecords : Nat := 0x9011
/-- R392: `LogClear`. -/
abbrev logClear : Nat := 0x9020
/-- R428: `LifeCycleCommand`. -/
abbrev lifeCycleCommand : Nat := 0xA000
/-- R428: `LifeCycleBlock`. -/
abbrev lifeCycleBlock : Nat := 0xA001
/-- R428: `Tombstone`. -/
abbrev tombstone : Nat := 0xA002
/-- R428: `SiteKeyWrite`. -/
abbrev siteKeyWrite : Nat := 0xA010
/-- R428: `ModuleKeyWrite`. -/
abbrev moduleKeyWrite : Nat := 0xA011
/-- R428: `KeySlotState`. -/
abbrev keySlotState : Nat := 0xA012
/-- R428: `TamperStatus`. -/
abbrev tamperStatus : Nat := 0xA020
/-- R428: `TamperAcknowledge`. -/
abbrev tamperAcknowledge : Nat := 0xA021
/-- R428: `ResetCause`. -/
abbrev resetCause : Nat := 0xA030
/-- R428: `DeviceResetCommand`. -/
abbrev deviceResetCommand : Nat := 0xA031
/-- R428: `StartupCheckResult`. -/
abbrev startupCheckResult : Nat := 0xA032
/-- R428: `MooredCommand`. -/
abbrev mooredCommand : Nat := 0xA040
/-- R428: `MooredWakeMask`. -/
abbrev mooredWakeMask : Nat := 0xA041
/-- R428: `BusWakeLevel`. -/
abbrev busWakeLevel : Nat := 0xA042
/-- R428: `MooredDarkAuto`. -/
abbrev mooredDarkAuto : Nat := 0xA043
/-- R428: `MooredDarkCellLevel`. -/
abbrev mooredDarkCellLevel : Nat := 0xA044
/-- R428: `FirmwareCommand`. -/
abbrev firmwareCommand : Nat := 0xA050
/-- R428: `FirmwareChunk`. -/
abbrev firmwareChunk : Nat := 0xA051
/-- R428: `FirmwareSlotState`. -/
abbrev firmwareSlotState : Nat := 0xA052
/-- R428: `FirmwareActiveSlot`. -/
abbrev firmwareActiveSlot : Nat := 0xA053
/-- R428: `FirmwareVerifyError`. -/
abbrev firmwareVerifyError : Nat := 0xA054
/-- R428: `FirmwareTrialTime`. -/
abbrev firmwareTrialTime : Nat := 0xA055
/-- R428: `SecurityFloor`. -/
abbrev securityFloor : Nat := 0xA056
/-- R428: `JournalSequence`. -/
abbrev journalSequence : Nat := 0xA060
/-- R428: `JournalTornCount`. -/
abbrev journalTornCount : Nat := 0xA061
/-- R445: `DieSensorTemp`. -/
abbrev dieSensorTemp : Nat := 0xB100
/-- R445: `DieSensorState`. -/
abbrev dieSensorState : Nat := 0xB101
/-- R445: `DieTemperature`. -/
abbrev dieTemperature : Nat := 0xB102
/-- R445: `RegionTemperature`. -/
abbrev regionTemperature : Nat := 0xB103
/-- R445: `PackageTemperature`. -/
abbrev packageTemperature : Nat := 0xB104
/-- R445: `ThrottleStage`. -/
abbrev throttleStage : Nat := 0xB105
/-- R445: `ThrottleTime`. -/
abbrev throttleTime : Nat := 0xB106
/-- R445: `DiePeakTemp`. -/
abbrev diePeakTemp : Nat := 0xB107
/-- R445: `ScrubPassCount`. -/
abbrev scrubPassCount : Nat := 0xB110
/-- R445: `BackgroundLastRun`. -/
abbrev backgroundLastRun : Nat := 0xB111
/-- R445: `CellTrim`. -/
abbrev cellTrim : Nat := 0xB112
/-- R445: `DeviceSelfTestRequest`. -/
abbrev deviceSelfTestRequest : Nat := 0xB120
/-- R445: `DeviceSelfTestResult`. -/
abbrev deviceSelfTestResult : Nat := 0xB121
/-- R472: `VauxVoltage`. -/
abbrev vauxVoltage : Nat := 0xB200
/-- R472: `VddcVoltage`. -/
abbrev vddcVoltage : Nat := 0xB201
/-- R472: `VddcCurrent`. -/
abbrev vddcCurrent : Nat := 0xB202
/-- R472: `VddioVoltage`. -/
abbrev vddioVoltage : Nat := 0xB203
/-- R472: `GateDriveVoltage`. -/
abbrev gateDriveVoltage : Nat := 0xB204
/-- R472: `BrownOutCount`. -/
abbrev brownOutCount : Nat := 0xB205
/-- R472: `PackageDissipation`. -/
abbrev packageDissipation : Nat := 0xB206
/-- R472: `PortDelay`. -/
abbrev portDelay : Nat := 0xB207
/-- R472: `FactoryCalVersion`. -/
abbrev factoryCalVersion : Nat := 0xB210
/-- R472: `FactoryCalCrc`. -/
abbrev factoryCalCrc : Nat := 0xB211
end O

/-- Objects 0x1000 to 0x10FF (R347). -/
def objs10 : List Obj := [
  { index := O.deviceName, count := 1, ty := .str, acc := .ro, dflt := [] },
  { index := O.deviceVariant, count := 1, ty := .sc .u16, acc := .ro, dflt := [0] },
  { index := O.serialNumber, count := 1, ty := .sc .u64, acc := .ro, dflt := [0] },
  { index := O.hardwareRevision, count := 1, ty := .sc .u16, acc := .ro, dflt := [0] },
  { index := O.firmwareVersion, count := 1, ty := .sc .u32, acc := .ro, dflt := [0] },
  { index := O.dictionaryVersion, count := 1, ty := .sc .u16, acc := .ro, dflt := [256] },
  { index := O.deviceStatus, count := 1, ty := .sc .u32, acc := .ro, dflt := [6] },
  { index := O.uptime, count := 1, ty := .sc .u64, acc := .ro, dflt := [0] }]

/-- Objects 0x1F00 to 0x1FFF (R347). -/
def objs1F : List Obj := [
  { index := O.objectCount, count := 1, ty := .sc .u16, acc := .ro, dflt := [0] },
  { index := O.objectDescriptor, count := 0, ty := .record [.u16, .u16, .u8, .u8, .u8, .u16], acc := .ro,
    dflt := [0, 0, 0, 0, 0, 0] }]

/-- Objects 0x2000 to 0x20FF (R47). -/
def objs20 : List Obj := [
  { index := O.watchdogWindow, count := 1, ty := .sc .u16, acc := .rws, dflt := [20], range := some (5, 200),
    saved := true }]

/-- Objects 0x2100 to 0x21FF (R118). -/
def objs21 : List Obj := [
  { index := O.tallyPeriod, count := 1, ty := .sc .u16, acc := .rws, dflt := [1000], range := some (500, 10000),
    saved := true },
  { index := O.currentPrimary, count := 4, ty := .sc .u8, acc := .rws, dflt := [0], range := some (0, 1),
    saved := true, per := .div 1 },
  { index := O.currentChannelEnable, count := 8, ty := .sc .bool, acc := .rws, dflt := [1], saved := true,
    per := .div 2 },
  { index := O.currentFullScale, count := 8, ty := .sc .i32, acc := .rws, dflt := [1000000], range := some (1000,
    10000000), saved := true, per := .div 2 },
  { index := O.currentOffset, count := 8, ty := .sc .i32, acc := .rws, dflt := [0], saved := true, per := .div 2 },
  { index := O.currentAlignOffset, count := 8, ty := .sc .i16, acc := .rws, dflt := [0], range := some (-5000,
    5000), saved := true, per := .div 2 },
  { index := O.fastPathDebounce, count := 1, ty := .sc .u8, acc := .rws, dflt := [50], range := some (0, 80),
    saved := true },
  { index := O.currentCrossTolerance, count := 4, ty := .sc .u32, acc := .rws, dflt := [2000], range := some (100,
    100000), saved := true, per := .div 1 },
  { index := O.comparatorCount, count := 4, ty := .sc .u8, acc := .rws, dflt := [2], range := some (1, 8),
    saved := true },
  { index := O.balanceMode, count := 1, ty := .sc .u8, acc := .rw, dflt := [2], range := some (0, 2), saved := true },
  { index := O.balanceThreshold, count := 1, ty := .sc .u16, acc := .rw, dflt := [10], range := some (2, 100),
    saved := true },
  { index := O.balanceChargeThreshold, count := 1, ty := .sc .u32, acc := .rw, dflt := [50], range := some (10,
    5000), saved := true },
  { index := O.balanceMaxPerMonitor, count := 1, ty := .sc .u8, acc := .rw, dflt := [9], range := some (1, 18),
    saved := true },
  { index := O.balanceTimer, count := 1, ty := .sc .u8, acc := .rw, dflt := [150], range := some (110, 250),
    saved := true },
  { index := O.balanceMinVoltage, count := 1, ty := .sc .u16, acc := .rw, dflt := [28000], saved := true },
  { index := O.balanceMaxTemp, count := 1, ty := .sc .i16, acc := .rw, dflt := [5000], saved := true },
  { index := O.openWirePeriod, count := 1, ty := .sc .u32, acc := .rw, dflt := [3600], range := some (60, 86400),
    saved := true },
  { index := O.openWireSignatureLevel, count := 1, ty := .sc .u16, acc := .rw, dflt := [50], range := some (10,
    500), saved := true },
  { index := O.openWireTestLevel, count := 1, ty := .sc .u16, acc := .rw, dflt := [100], range := some (20, 1000),
    saved := true },
  { index := O.stackCheckTolerance, count := 1, ty := .sc .u16, acc := .rw, dflt := [50], range := some (10, 500),
    saved := true },
  { index := O.capturePreTrigger, count := 1, ty := .sc .u16, acc := .rw, dflt := [489], range := some (0, 977),
    saved := true },
  { index := O.captureArm, count := 1, ty := .sc .bool, acc := .wo, dflt := [0], cmd := true },
  { index := O.captureTrigger, count := 1, ty := .sc .bool, acc := .wo, dflt := [0], cmd := true }]

/-- Objects 0x2200 to 0x22FF (R377). -/
def objs22 : List Obj := [
  { index := O.duplexMode, count := 1, ty := .sc .u8, acc := .auth, dflt := [0], range := some (0, 1), saved := true },
  { index := O.berthRevertTime, count := 1, ty := .sc .u16, acc := .rw, dflt := [60], range := some (10, 3600),
    saved := true }]

/-- Objects 0x2400 to 0x24FF (R47). -/
def objs24 : List Obj := [
  { index := O.eventRoute, count := 256, ty := .sc .u32, acc := .rws, dflt := [0], saved := true, per := .src }]

/-- Objects 0x2F00 to 0x2FFF (R347). -/
def objs2F : List Obj := [
  { index := O.configCommand, count := 1, ty := .sc .u8, acc := .auth, dflt := [0], range := some (1, 3),
    cmd := true },
  { index := O.configState, count := 1, ty := .record [.u32, .u64, .u8], acc := .ro, dflt := [0, 0, 0] },
  { index := O.configImage, count := 1, ty := .blob, acc := .auth, dflt := [] },
  { index := O.configLoadError, count := 1, ty := .record [.u8, .u16], acc := .ro, dflt := [0, 0] }]

/-- Objects 0x3000 to 0x30FF (R347). -/
def objs30 : List Obj := [
  { index := O.manifestFile, count := 1, ty := .blob, acc := .auth, dflt := [], saved := true },
  { index := O.manifestState, count := 1, ty := .sc .u8, acc := .ro, dflt := [0] },
  { index := O.manifestLoadError, count := 1, ty := .sc .u8, acc := .ro, dflt := [0] },
  { index := O.manifestCrc, count := 1, ty := .sc .u32, acc := .ro, dflt := [0] },
  { index := O.manifestRevision, count := 1, ty := .sc .u32, acc := .ro, dflt := [0] },
  { index := O.manifestName, count := 1, ty := .str, acc := .ro, dflt := [] },
  { index := O.manifestUidComplete, count := 1, ty := .sc .bool, acc := .ro, dflt := [0] },
  { index := O.manifestAdoptUids, count := 1, ty := .sc .u8, acc := .auth, dflt := [0], cmd := true },
  { index := O.manifestMismatch, count := 4, ty := .record [.u8, .u8], acc := .ro, dflt := [0, 0], per := .div 1 },
  { index := O.manifestModuleCount, count := 4, ty := .sc .u8, acc := .ro, dflt := [0], per := .div 1 },
  { index := O.manifestCellCount, count := 4, ty := .sc .u16, acc := .ro, dflt := [0], per := .div 1 },
  { index := O.manifestTempCount, count := 4, ty := .sc .u16, acc := .ro, dflt := [0], per := .div 1 },
  { index := O.manifestModule, count := 128, ty := .record [.u64, .u32, .u8, .u8, .u16], acc := .ro, dflt := [0, 0,
    0, 0, 0], per := .div 32 },
  { index := O.cellTempInput, count := 2048, ty := .sc .u16, acc := .ro, dflt := [0], per := .div 512 }]

/-- Objects 0x4000 to 0x40FF (R118, R78). -/
def objs40 : List Obj := [
  { index := O.acqTallyIndex, count := 4, ty := .sc .u32, acc := .ro, dflt := [0], stamp := .acq, per := .div 1 },
  { index := O.chainRingState, count := 4, ty := .sc .u8, acc := .ro, dflt := [0], per := .div 1 },
  { index := O.chainBreakLink, count := 4, ty := .sc .u8, acc := .ro, dflt := [0], per := .div 1 },
  { index := O.hopDelay, count := 256, ty := .sc .u16, acc := .ro, dflt := [0], per := .div 64 },
  { index := O.ringRoundTrip, count := 4, ty := .sc .u16, acc := .ro, dflt := [0], per := .div 1 },
  { index := O.chainErrorCount, count := 32, ty := .sc .u64, acc := .ro, dflt := [0], per := .div 8 },
  { index := O.moduleUid, count := 128, ty := .sc .u64, acc := .ro, dflt := [0], per := .div 32 },
  { index := O.moduleAuthState, count := 128, ty := .sc .u8, acc := .ro, dflt := [0], per := .div 32 },
  { index := O.chainMonitorCount, count := 4, ty := .sc .u8, acc := .ro, dflt := [0], per := .div 1 }]

/-- Objects 0x4100 to 0x41FF (R118). -/
def objs41 : List Obj := [
  { index := O.cellVoltage, count := 2048, ty := .sc .u16, acc := .ro, dflt := [0], stamp := .acq, per := .div 512 },
  { index := O.cellFlags, count := 2048, ty := .sc .u16, acc := .ro, dflt := [1], stamp := .acq, per := .div 512 },
  { index := O.moduleStack, count := 128, ty := .sc .u16, acc := .ro, dflt := [0], stamp := .acq, per := .div 32 },
  { index := O.moduleDieTemp, count := 128, ty := .sc .i16, acc := .ro, dflt := [0], stamp := .acq, per := .div 32 },
  { index := O.moduleRefCheck, count := 128, ty := .sc .u16, acc := .ro, dflt := [0], stamp := .acq, per := .div 32 }]

/-- Objects 0x4200 to 0x42FF (R118). -/
def objs42 : List Obj := [
  { index := O.stringCurrent, count := 4, ty := .sc .i32, acc := .ro, dflt := [0], stamp := .acq, per := .div 1 },
  { index := O.stringCurrentSource, count := 4, ty := .sc .u8, acc := .ro, dflt := [3], stamp := .acq, per := .div 1 },
  { index := O.currentChannel, count := 8, ty := .sc .i32, acc := .ro, dflt := [0], stamp := .acq, per := .div 2 },
  { index := O.currentChannelMean, count := 8, ty := .sc .i32, acc := .ro, dflt := [0], stamp := .acq, per := .div 2 },
  { index := O.currentFlags, count := 8, ty := .sc .u8, acc := .ro, dflt := [1], stamp := .acq, per := .div 2 },
  { index := O.stringCurrentMean, count := 4, ty := .sc .i32, acc := .ro, dflt := [0], stamp := .acq, per := .div 1 }]

/-- Objects 0x4300 to 0x43FF (R118). -/
def objs43 : List Obj := [
  { index := O.temperature, count := 1024, ty := .sc .i16, acc := .ro, dflt := [0], stamp := .acq, per := .div 256 },
  { index := O.tempFlags, count := 1024, ty := .sc .u8, acc := .ro, dflt := [1], stamp := .acq, per := .div 256 }]

/-- Objects 0x4400 to 0x44FF (R118). DESIGN CHOICE (log entry 152): an empty element of `CaptureTriggerList` reads SOURCE 0,
TIME 0. -/
def objs44 : List Obj := [
  { index := O.captureRecord, count := 978, ty := .blob, acc := .ro, dflt := [] },
  { index := O.captureState, count := 1, ty := .sc .u8, acc := .ro, dflt := [0] },
  { index := O.captureTriggerList, count := 8, ty := .record [.u8, .u64], acc := .ro, dflt := [0, 0] },
  { index := O.captureTriggerCount, count := 1, ty := .sc .u64, acc := .ro, dflt := [0] },
  { index := O.openWireRequest, count := 1, ty := .sc .u32, acc := .wo, dflt := [0], cmd := true },
  { index := O.openWireResult, count := 1, ty := .record [.u16, .u16, .u8, .u32], acc := .ro, dflt := [0, 0, 3, 0] }]

/-- Objects 0x5000 to 0x50FF (R140, R47). -/
def objs50 : List Obj := [
  { index := O.estimatorRate, count := 2, ty := .sc .u8, acc := .ro, dflt := [0] },
  { index := O.fabricThroughput, count := 3, ty := .sc .f32, acc := .ro, dflt := [0] },
  { index := O.estimatorRateLimit, count := 2, ty := .sc .u8, acc := .rw, dflt := [0], range := some (0, 2),
    saved := true },
  { index := O.epochNumber, count := 4, ty := .sc .u32, acc := .ro, dflt := [0], stamp := .est, per := .div 1 },
  { index := O.estimatorStringState, count := 4, ty := .sc .u8, acc := .ro, dflt := [0], per := .div 1 },
  { index := O.epochDuration, count := 4, ty := .sc .u32, acc := .ro, dflt := [0], per := .div 1 },
  { index := O.epochDurationMax, count := 4, ty := .sc .u32, acc := .ro, dflt := [0], per := .div 1 },
  { index := O.abandonedEpochs, count := 4, ty := .sc .u64, acc := .ro, dflt := [0], per := .div 1 },
  { index := O.estimatorMaxAge, count := 4, ty := .sc .u16, acc := .rw, dflt := [100], range := some (10, 1000),
    saved := true, per := .div 1 },
  { index := O.epochTime, count := 4, ty := .sc .u64, acc := .ro, dflt := [0], stamp := .est, per := .div 1 },
  { index := O.euState, count := 64, ty := .sc .u8, acc := .ro, dflt := [0] },
  { index := O.clusterCellCount, count := 8, ty := .sc .u16, acc := .ro, dflt := [0] },
  { index := O.clusterFirstModule, count := 8, ty := .sc .u8, acc := .ro, dflt := [255] },
  { index := O.clusterModuleCount, count := 8, ty := .sc .u8, acc := .ro, dflt := [0] },
  { index := O.tableCacheMisses, count := 8, ty := .sc .u64, acc := .ro, dflt := [0] },
  { index := O.cellEpochFlags, count := 2048, ty := .sc .u8, acc := .ro, dflt := [0], stamp := .est, per := .div 512 },
  { index := O.fabricSelfTestRequest, count := 1, ty := .sc .u32, acc := .wo, dflt := [0], cmd := true },
  { index := O.fabricSelfTestResult, count := 1, ty := .record [.u16, .u8, .u64, .u64], acc := .ro, dflt := [0, 2,
    0, 0] }]

/-- Objects 0x5100 to 0x51FF (R182). -/
def objs51 : List Obj := [
  { index := O.cellSoc, count := 2048, ty := .sc .i16, acc := .ro, dflt := [0], stamp := .est, per := .div 512 },
  { index := O.cellSocSigma, count := 2048, ty := .sc .u16, acc := .ro, dflt := [0], stamp := .est, per := .div 512 },
  { index := O.cellCoreTemp, count := 2048, ty := .sc .i16, acc := .ro, dflt := [0], stamp := .est, per := .div 512 },
  { index := O.cellOcv, count := 2048, ty := .sc .u16, acc := .ro, dflt := [0], stamp := .est, per := .div 512 },
  { index := O.cellCapacity, count := 2048, ty := .sc .u32, acc := .ro, dflt := [0], stamp := .est, per := .div 512 },
  { index := O.cellSohCapacity, count := 2048, ty := .sc .u16, acc := .ro, dflt := [0], stamp := .est,
    per := .div 512 },
  { index := O.cellSohResistance, count := 2048, ty := .sc .u16, acc := .ro, dflt := [0], stamp := .est,
    per := .div 512 },
  { index := O.cellResidual, count := 2048, ty := .sc .i16, acc := .ro, dflt := [0], stamp := .est, per := .div 512 },
  { index := O.cellNormInnovation, count := 2048, ty := .sc .i16, acc := .ro, dflt := [0], stamp := .est,
    per := .div 512 },
  { index := O.cellLeakExcess, count := 2048, ty := .sc .i32, acc := .ro, dflt := [0], stamp := .est,
    per := .div 512 },
  { index := O.cellEstFlags, count := 2048, ty := .sc .u16, acc := .ro, dflt := [1], stamp := .est, per := .div 512 },
  { index := O.cellModelState, count := 2048, ty := .record ([] ++ List.replicate 12 .f32), acc := .ro, dflt := [0,
    0, 0, 0, 0, 0, 0, 0, 0, 0, 0, 0], stamp := .est, per := .div 512 }]

/-- Objects 0x5200 to 0x52FF (R182). -/
def objs52 : List Obj := [
  { index := O.stringSocMean, count := 4, ty := .sc .i16, acc := .ro, dflt := [0], stamp := .est, per := .div 1 },
  { index := O.stringSocMin, count := 4, ty := .sc .i16, acc := .ro, dflt := [0], stamp := .est, per := .div 1 },
  { index := O.stringSocMax, count := 4, ty := .sc .i16, acc := .ro, dflt := [0], stamp := .est, per := .div 1 },
  { index := O.stringSohCapacity, count := 4, ty := .sc .u16, acc := .ro, dflt := [0], stamp := .est, per := .div 1 },
  { index := O.stringSohResistance, count := 4, ty := .sc .u16, acc := .ro, dflt := [0], stamp := .est,
    per := .div 1 },
  { index := O.inferredCurrent, count := 4, ty := .sc .i32, acc := .ro, dflt := [0], stamp := .est, per := .div 1 },
  { index := O.inferredCurrentValid, count := 4, ty := .sc .bool, acc := .ro, dflt := [0], stamp := .est,
    per := .div 1 },
  { index := O.currentPlausibility, count := 8, ty := .sc .u8, acc := .ro, dflt := [0], stamp := .est, per := .div 2 },
  { index := O.stringDisagreement, count := 4, ty := .sc .bool, acc := .ro, dflt := [0], stamp := .est,
    per := .div 1 },
  { index := O.stringAtRest, count := 4, ty := .sc .bool, acc := .ro, dflt := [0], stamp := .est, per := .div 1 },
  { index := O.chargeCurrentLimit, count := 12, ty := .sc .u32, acc := .ro, dflt := [0], stamp := .est,
    per := .div 3 },
  { index := O.dischargeCurrentLimit, count := 12, ty := .sc .u32, acc := .ro, dflt := [0], stamp := .est,
    per := .div 3 },
  { index := O.chargePowerLimit, count := 12, ty := .sc .u32, acc := .ro, dflt := [0], stamp := .est, per := .div 3 },
  { index := O.dischargePowerLimit, count := 12, ty := .sc .u32, acc := .ro, dflt := [0], stamp := .est,
    per := .div 3 }]

/-- Objects 0x5300 to 0x53FF (R182). DESIGN CHOICE (log entry 158): `EkfProcessNoise` has 60 elements, as Table 5-10 says;
R156 speaks of string × 16 + 12 to + 15, of which string 3 then has none. -/
def objs53 : List Obj := [
  { index := O.estimationMode, count := 4, ty := .sc .u8, acc := .rws, dflt := [0], range := some (0, 1),
    saved := true, per := .div 1 },
  { index := O.ekfProcessNoise, count := 60, ty := .sc .f32, acc := .rw, dflt := [0], saved := true, per := .div 16 },
  { index := O.ekfMeasurementNoise, count := 4, ty := .sc .f32, acc := .rw, dflt := [1056964608],
    range := some (1036831949, 1112014848), saved := true, per := .div 1 },
  { index := O.ekfInitialSigma, count := 12, ty := .sc .f32, acc := .rw, dflt := [0], saved := true },
  { index := O.paramFilterNoise, count := 2, ty := .sc .f32, acc := .rw, dflt := [925353388], range := some (0,
    1008981770), saved := true },
  { index := O.coulombicEfficiency, count := 4, ty := .sc .f32, acc := .rw, dflt := [1065353216],
    range := some (1065185444, 1065353216), saved := true, per := .div 1 },
  { index := O.restCurrentLimit, count := 1, ty := .sc .u16, acc := .rw, dflt := [10], range := some (2, 50),
    saved := true },
  { index := O.restMinDuration, count := 1, ty := .sc .u16, acc := .rw, dflt := [1800], range := some (300, 14400),
    saved := true },
  { index := O.restDriftLimit, count := 1, ty := .sc .u16, acc := .rw, dflt := [20], range := some (5, 500),
    saved := true },
  { index := O.capLearnMinSpan, count := 1, ty := .sc .u16, acc := .rw, dflt := [4000], range := some (2000, 8000),
    saved := true },
  { index := O.capLearnMinSlope, count := 1, ty := .sc .u16, acc := .rw, dflt := [50], range := some (10, 500),
    saved := true },
  { index := O.capLearnMaxAge, count := 1, ty := .sc .u16, acc := .rw, dflt := [720], range := some (24, 2160),
    saved := true },
  { index := O.bleedResistance, count := 4, ty := .sc .u16, acc := .rws, dflt := [330], range := some (10, 2000),
    saved := true, per := .div 1 },
  { index := O.impedanceStepMin, count := 1, ty := .sc .u16, acc := .rw, dflt := [200], range := some (50, 2000),
    saved := true },
  { index := O.shortThreshold, count := 1, ty := .sc .u16, acc := .rw, dflt := [5], range := some (2, 100),
    saved := true },
  { index := O.predictVmax, count := 4, ty := .sc .u16, acc := .rw, dflt := [36500], saved := true, per := .div 1 },
  { index := O.predictVmin, count := 4, ty := .sc .u16, acc := .rw, dflt := [28000], saved := true, per := .div 1 },
  { index := O.predictSocMax, count := 4, ty := .sc .u16, acc := .rw, dflt := [9800], range := some (5000, 10000),
    saved := true, per := .div 1 },
  { index := O.predictSocMin, count := 4, ty := .sc .u16, acc := .rw, dflt := [200], range := some (0, 5000),
    saved := true, per := .div 1 },
  { index := O.predictTmax, count := 4, ty := .sc .i16, acc := .rw, dflt := [5500], saved := true, per := .div 1 },
  { index := O.stringCurrentCap, count := 4, ty := .sc .u32, acc := .rw, dflt := [500000], range := some (1000,
    10000000), saved := true, per := .div 1 }]

/-- Objects 0x5400 to 0x54FF (R182). -/
def objs54 : List Obj := [
  { index := O.modelTableFile, count := 4, ty := .blob, acc := .auth, dflt := [] },
  { index := O.tableSetState, count := 4, ty := .sc .u8, acc := .ro, dflt := [0] },
  { index := O.tableSetLoadError, count := 4, ty := .sc .u8, acc := .ro, dflt := [0] },
  { index := O.tableSetCrc, count := 4, ty := .sc .u32, acc := .ro, dflt := [0] },
  { index := O.tableSetName, count := 4, ty := .str, acc := .ro, dflt := [] }]

/-- Objects 0x5500 to 0x55FF (R182). -/
def objs55 : List Obj := [
  { index := O.capLearnReportRequest, count := 1, ty := .sc .u32, acc := .wo, dflt := [0], cmd := true },
  { index := O.capLearnReportResult, count := 1, ty := .record [.u16, .u16, .u8, .u32, .u32, .u32, .u32, .u32,
    .u32, .u32, .u32, .u32, .u32, .u32, .u16, .u64], acc := .ro, dflt := [0, 0, 3, 0, 0, 0, 0, 0, 0, 0, 0, 0, 0, 0,
    0, 0] },
  { index := O.impedanceSnapshotRequest, count := 1, ty := .sc .u32, acc := .wo, dflt := [0], cmd := true },
  { index := O.impedanceSnapshotResult, count := 1, ty := .record ([.u16, .u16, .u8, .u32,
    .i32] ++ List.replicate 512 .u16), acc := .ro, dflt := [0, 0, 3, 0, 0] ++ List.replicate 512 0 }]

/-- Objects 0x5F00 to 0x5FFF (R182). -/
def objs5F : List Obj := [
  { index := O.compatSoc, count := 2048, ty := .sc .i16, acc := .ro, dflt := [0], stamp := .est, per := .div 512 },
  { index := O.compatStringSocMin, count := 4, ty := .sc .i16, acc := .ro, dflt := [0], stamp := .est, per := .div 1 },
  { index := O.compatStringSocMean, count := 4, ty := .sc .i16, acc := .ro, dflt := [0], stamp := .est,
    per := .div 1 },
  { index := O.compatCountedCharge, count := 4, ty := .sc .i64, acc := .ro, dflt := [0], stamp := .est,
    per := .div 1 },
  { index := O.compatAnchorTime, count := 4, ty := .sc .u64, acc := .ro, dflt := [0], stamp := .est, per := .div 1 }]

/-- Objects 0x6000 to 0x60FF (R219). -/
def objs60 : List Obj := [
  { index := O.cellOvTrip, count := 4, ty := .sc .u16, acc := .rws, dflt := [37500], range := some (20000, 50000),
    saved := true, per := .div 1 },
  { index := O.cellUvTrip, count := 4, ty := .sc .u16, acc := .rws, dflt := [25000], range := some (10000, 35000),
    saved := true, per := .div 1 },
  { index := O.cellWarnHigh, count := 4, ty := .sc .u16, acc := .rws, dflt := [36600], range := some (20000,
    50000), saved := true, per := .div 1 },
  { index := O.cellWarnLow, count := 4, ty := .sc .u16, acc := .rws, dflt := [27800], range := some (10000, 40000),
    saved := true, per := .div 1 },
  { index := O.cellOtTrip, count := 4, ty := .sc .i16, acc := .rws, dflt := [6000], range := some (3000, 9000),
    saved := true, per := .div 1 },
  { index := O.cellUtTrip, count := 4, ty := .sc .i16, acc := .rws, dflt := [-3000], range := some (-5500, 0),
    saved := true, per := .div 1 },
  { index := O.tempWarnHigh, count := 4, ty := .sc .i16, acc := .rws, dflt := [5000], range := some (2000, 8500),
    saved := true, per := .div 1 },
  { index := O.tempChargeMin, count := 4, ty := .sc .i16, acc := .rws, dflt := [0], range := some (-3000, 2000),
    saved := true, per := .div 1 },
  { index := O.fastChargeThreshold, count := 4, ty := .sc .u32, acc := .rws, dflt := [600000],
    range := some (10000, 5000000), saved := true, per := .div 1 },
  { index := O.fastDischargeThreshold, count := 4, ty := .sc .u32, acc := .rws, dflt := [1000000],
    range := some (10000, 5000000), saved := true, per := .div 1 },
  { index := O.overLimitMargin, count := 4, ty := .sc .u32, acc := .rw, dflt := [5000], range := some (0, 100000),
    saved := true, per := .div 1 },
  { index := O.overLimitTime, count := 4, ty := .sc .u8, acc := .rw, dflt := [5], range := some (1, 60),
    saved := true, per := .div 1 },
  { index := O.protectionLevel, count := 4, ty := .sc .u8, acc := .ro, dflt := [0], per := .div 1 },
  { index := O.derateCharge, count := 4, ty := .sc .u16, acc := .ro, dflt := [10000], per := .div 1 },
  { index := O.derateDischarge, count := 4, ty := .sc .u16, acc := .ro, dflt := [10000], per := .div 1 },
  { index := O.tripCause, count := 4, ty := .record [.bool, .bool, .u8, .u8, .u64], acc := .ro, dflt := [0, 0, 0,
    0, 0], per := .div 1 },
  { index := O.tripReset, count := 1, ty := .sc .u8, acc := .wo, dflt := [0], cmd := true },
  { index := O.openPending, count := 4, ty := .sc .bool, acc := .ro, dflt := [0], per := .div 1 },
  { index := O.openDeadline, count := 4, ty := .sc .u64, acc := .ro, dflt := [0], per := .div 1 },
  { index := O.stringVoltage, count := 4, ty := .sc .u32, acc := .ro, dflt := [0], stamp := .acq, per := .div 1 },
  { index := O.busVoltage, count := 1, ty := .sc .u32, acc := .ro, dflt := [0] },
  { index := O.busDividerRatio, count := 1, ty := .sc .f32, acc := .rws, dflt := [1148846080],
    range := some (1120403456, 1167867904), saved := true },
  { index := O.joinDelta, count := 4, ty := .sc .i32, acc := .ro, dflt := [0], per := .div 1 },
  { index := O.stringCommand, count := 4, ty := .sc .u8, acc := .wo, dflt := [0], range := some (1, 2),
    cmd := true, per := .div 1 },
  { index := O.stringContactorState, count := 4, ty := .sc .u8, acc := .ro, dflt := [0], per := .div 1 },
  { index := O.closeBlockReason, count := 4, ty := .sc .u32, acc := .ro, dflt := [1], per := .div 1 },
  { index := O.contactorRole, count := 12, ty := .sc .u8, acc := .rws, dflt := [0], saved := true },
  { index := O.coilPullInCurrent, count := 12, ty := .sc .u16, acc := .rws, dflt := [2000], range := some (200,
    2000), saved := true },
  { index := O.coilHoldCurrent, count := 12, ty := .sc .u16, acc := .rws, dflt := [500], range := some (100, 1500),
    saved := true },
  { index := O.coilPullInTime, count := 12, ty := .sc .u16, acc := .rws, dflt := [100], range := some (20, 1000),
    saved := true },
  { index := O.contactorCloseTime, count := 12, ty := .sc .u16, acc := .rws, dflt := [60], range := some (10, 500),
    saved := true },
  { index := O.contactorDropTime, count := 12, ty := .sc .u16, acc := .rws, dflt := [40], range := some (10, 500),
    saved := true },
  { index := O.contactorStatus, count := 12, ty := .sc .u8, acc := .ro, dflt := [0] },
  { index := O.coilCurrent, count := 12, ty := .sc .u16, acc := .ro, dflt := [0] },
  { index := O.prechargeTau, count := 4, ty := .sc .u16, acc := .rws, dflt := [200], range := some (10, 5000),
    saved := true, per := .div 1 },
  { index := O.prechargeResistance, count := 4, ty := .sc .u16, acc := .rws, dflt := [50], range := some (1, 5000),
    saved := true, per := .div 1 },
  { index := O.prechargeCooldown, count := 4, ty := .sc .u16, acc := .rw, dflt := [60], range := some (10, 3600),
    saved := true, per := .div 1 },
  { index := O.prechargeResult, count := 4, ty := .record [.u8, .i32, .i32, .u32, .u64], acc := .ro, dflt := [0, 0,
    0, 0, 0], per := .div 1 },
  { index := O.joinDeltaMax, count := 1, ty := .sc .u32, acc := .rws, dflt := [10000], range := some (1000,
    100000), saved := true },
  { index := O.joinCurrentMax, count := 1, ty := .sc .u32, acc := .rws, dflt := [100000], range := some (1000,
    2000000), saved := true },
  { index := O.joinWaitTimeout, count := 1, ty := .sc .u16, acc := .rw, dflt := [600], range := some (0, 3600),
    saved := true },
  { index := O.busDeadLevel, count := 1, ty := .sc .u32, acc := .rws, dflt := [50000], range := some (10000,
    200000), saved := true },
  { index := O.weldCurrentLimit, count := 1, ty := .sc .u16, acc := .rws, dflt := [500], range := some (100,
    10000), saved := true },
  { index := O.weldCheckTime, count := 1, ty := .sc .u16, acc := .rws, dflt := [50], range := some (20, 1000),
    saved := true },
  { index := O.weldCheckMinDelta, count := 1, ty := .sc .u32, acc := .rws, dflt := [50000], range := some (10000,
    500000), saved := true },
  { index := O.weldState, count := 12, ty := .sc .u8, acc := .ro, dflt := [0] },
  { index := O.weldClear, count := 1, ty := .sc .u16, acc := .auth, dflt := [0], cmd := true },
  { index := O.openCurrentLimit, count := 1, ty := .sc .u32, acc := .rw, dflt := [5000], range := some (500,
    100000), saved := true },
  { index := O.openRampTimeout, count := 1, ty := .sc .u16, acc := .rw, dflt := [2000], range := some (100, 30000),
    saved := true },
  { index := O.contactorBreakMax, count := 12, ty := .sc .u32, acc := .rws, dflt := [2000000],
    range := some (10000, 10000000), saved := true },
  { index := O.loadBreakCount, count := 12, ty := .sc .u64, acc := .ro, dflt := [0] },
  { index := O.loadBreakPeak, count := 12, ty := .sc .u32, acc := .ro, dflt := [0] },
  { index := O.appliedChargeLimit, count := 12, ty := .sc .u32, acc := .ro, dflt := [0], per := .div 3 },
  { index := O.appliedDischargeLimit, count := 12, ty := .sc .u32, acc := .ro, dflt := [0], per := .div 3 },
  { index := O.busChargeCurrentLimit, count := 3, ty := .sc .u32, acc := .ro, dflt := [0] },
  { index := O.busDischargeCurrentLimit, count := 3, ty := .sc .u32, acc := .ro, dflt := [0] },
  { index := O.busChargePowerLimit, count := 3, ty := .sc .u32, acc := .ro, dflt := [0] },
  { index := O.busDischargePowerLimit, count := 3, ty := .sc .u32, acc := .ro, dflt := [0] },
  { index := O.stringCurrentShare, count := 4, ty := .sc .u16, acc := .ro, dflt := [0], per := .div 1 },
  { index := O.fallbackChargeCurrent, count := 4, ty := .sc .u32, acc := .rw, dflt := [50000], range := some (0,
    1000000), saved := true, per := .div 1 },
  { index := O.fallbackDischargeCurrent, count := 4, ty := .sc .u32, acc := .rw, dflt := [100000],
    range := some (0, 1000000), saved := true, per := .div 1 }]

/-- Objects 0x6100 to 0x61FF (R249). -/
def objs61 : List Obj := [
  { index := O.safetyInputMap, count := 4, ty := .sc .u8, acc := .auth, dflt := [15], saved := true },
  { index := O.safetyDiscrepancyTime, count := 4, ty := .sc .u16, acc := .auth, dflt := [100], range := some (10,
    500), saved := true },
  { index := O.safetyInputFilter, count := 4, ty := .sc .u16, acc := .auth, dflt := [1000], range := some (500,
    4000), saved := true },
  { index := O.safetyInputState, count := 4, ty := .sc .u8, acc := .ro, dflt := [21] },
  { index := O.safeOffState, count := 1, ty := .sc .u8, acc := .ro, dflt := [15] },
  { index := O.offPulseWidth, count := 1, ty := .sc .u16, acc := .auth, dflt := [300], range := some (100, 500),
    saved := true },
  { index := O.offPulseInterval, count := 1, ty := .sc .u16, acc := .auth, dflt := [1000], range := some (200,
    10000), saved := true },
  { index := O.offPulseFailures, count := 12, ty := .sc .u64, acc := .ro, dflt := [0], per := .div 3 },
  { index := O.openingProofInterval, count := 1, ty := .sc .u16, acc := .auth, dflt := [2160], range := some (168,
    8760), saved := true },
  { index := O.openingProofGrace, count := 1, ty := .sc .u16, acc := .auth, dflt := [168], range := some (0, 720),
    saved := true },
  { index := O.openingProofTime, count := 12, ty := .sc .u64, acc := .ro, dflt := [0], per := .div 3 },
  { index := O.openingProofDue, count := 1, ty := .sc .u16, acc := .ro, dflt := [0] },
  { index := O.contactorOpenTestRequest, count := 1, ty := .sc .u32, acc := .wo, dflt := [0], cmd := true },
  { index := O.contactorOpenTestResult, count := 1, ty := .record [.u16, .u16, .u8, .u8, .i32, .u16], acc := .ro,
    dflt := [0, 0, 3, 0, 0, 0] },
  { index := O.safetyConfigCrc, count := 1, ty := .sc .u32, acc := .ro, dflt := [0] }]

/-- Objects 0x7000 to 0x70FF (R279). -/
def objs70 : List Obj := [
  { index := O.loadSwitchCommand, count := 16, ty := .sc .u8, acc := .rw, dflt := [0], range := some (0, 2),
    cmd := true },
  { index := O.loadSwitchPwmDuty, count := 16, ty := .sc .u16, acc := .rw, dflt := [500], range := some (0, 1000),
    cmd := true },
  { index := O.loadSwitchPwmFrequency, count := 16, ty := .sc .u16, acc := .rw, dflt := [100], range := some (50,
    500), saved := true },
  { index := O.loadSwitchFailSafe, count := 16, ty := .sc .u8, acc := .rw, dflt := [0], range := some (0, 2),
    saved := true },
  { index := O.loadSwitchPriority, count := 16, ty := .sc .u8, acc := .rw, dflt := [4], range := some (0, 7),
    saved := true },
  { index := O.lsLimitTime, count := 16, ty := .sc .u32, acc := .rw, dflt := [10000], range := some (100, 100000),
    saved := true },
  { index := O.lsRetryLimit, count := 16, ty := .sc .u8, acc := .rw, dflt := [3], range := some (0, 15),
    saved := true },
  { index := O.lsRetryDelay, count := 16, ty := .sc .u16, acc := .rw, dflt := [1000], range := some (100, 60000),
    saved := true },
  { index := O.lsOpenLoadCurrent, count := 16, ty := .sc .u16, acc := .rw, dflt := [30], range := some (10, 1000),
    saved := true },
  { index := O.lsOffDiag, count := 16, ty := .sc .bool, acc := .rw, dflt := [1], saved := true },
  { index := O.loadSwitchStatus, count := 16, ty := .sc .u16, acc := .ro, dflt := [0] },
  { index := O.loadSwitchCurrent, count := 16, ty := .sc .u16, acc := .ro, dflt := [0] },
  { index := O.loadSwitchRetryCount, count := 16, ty := .sc .u8, acc := .ro, dflt := [0] },
  { index := O.loadSwitchTemp, count := 16, ty := .sc .i16, acc := .ro, dflt := [0] },
  { index := O.loadSwitchTrips, count := 16, ty := .sc .u64, acc := .ro, dflt := [0] },
  { index := O.lsFaultClear, count := 1, ty := .sc .u16, acc := .wo, dflt := [0], cmd := true },
  { index := O.switchDissipationBudget, count := 1, ty := .sc .u16, acc := .rw, dflt := [3500],
    range := some (1000, 4000), saved := true },
  { index := O.switchDissipation, count := 1, ty := .sc .u16, acc := .ro, dflt := [0] }]

/-- Objects 0x7800 to 0x78FF (R279). -/
def objs78 : List Obj := [
  { index := O.motorSpeedCommand, count := 4, ty := .sc .u16, acc := .rw, dflt := [0], range := some (0, 30000),
    cmd := true, per := .div 1 },
  { index := O.motorDirection, count := 4, ty := .sc .u8, acc := .rw, dflt := [0], range := some (0, 1),
    saved := true, per := .div 1 },
  { index := O.motorPolePairs, count := 4, ty := .sc .u8, acc := .rw, dflt := [4], range := some (1, 32),
    saved := true, per := .div 1 },
  { index := O.mdPwmFrequency, count := 4, ty := .sc .u16, acc := .rw, dflt := [20000], range := some (8000,
    40000), saved := true, per := .div 1 },
  { index := O.mdDeadTime, count := 4, ty := .sc .u16, acc := .rw, dflt := [500], range := some (100, 2000),
    saved := true, per := .div 1 },
  { index := O.mdCurrentLimit, count := 4, ty := .sc .u32, acc := .rw, dflt := [20000], range := some (500,
    100000), saved := true, per := .div 1 },
  { index := O.mdShuntResistance, count := 4, ty := .sc .u16, acc := .rw, dflt := [5000], range := some (500,
    50000), saved := true, per := .div 1 },
  { index := O.mdLimitTime, count := 4, ty := .sc .u16, acc := .rw, dflt := [500], range := some (10, 2000),
    saved := true, per := .div 1 },
  { index := O.mdVdsThreshold, count := 4, ty := .sc .u16, acc := .rw, dflt := [800], range := some (100, 2000),
    saved := true, per := .div 1 },
  { index := O.mdAccelLimit, count := 4, ty := .sc .u16, acc := .rw, dflt := [500], range := some (10, 20000),
    saved := true, per := .div 1 },
  { index := O.mdDecelLimit, count := 4, ty := .sc .u16, acc := .rw, dflt := [500], range := some (10, 20000),
    saved := true, per := .div 1 },
  { index := O.mdSpeedKp, count := 4, ty := .sc .f32, acc := .rw, dflt := [1008981770], range := some (0,
    1065353216), saved := true, per := .div 1 },
  { index := O.mdSpeedKi, count := 4, ty := .sc .f32, acc := .rw, dflt := [1028443341], range := some (0,
    1092616192), saved := true, per := .div 1 },
  { index := O.mdCommSoften, count := 4, ty := .sc .u8, acc := .rw, dflt := [10], range := some (0, 20),
    saved := true, per := .div 1 },
  { index := O.mdCommAdvance, count := 4, ty := .sc .u8, acc := .rw, dflt := [0], range := some (0, 15),
    saved := true, per := .div 1 },
  { index := O.mdBlanking, count := 4, ty := .sc .u16, acc := .rw, dflt := [2000], range := some (500, 5000),
    saved := true, per := .div 1 },
  { index := O.mdAlignDuty, count := 4, ty := .sc .u16, acc := .rw, dflt := [100], range := some (0, 300),
    saved := true, per := .div 1 },
  { index := O.mdAlignTime, count := 4, ty := .sc .u16, acc := .rw, dflt := [300], range := some (50, 5000),
    saved := true, per := .div 1 },
  { index := O.mdHandoverSpeed, count := 4, ty := .sc .u16, acc := .rw, dflt := [300], range := some (50, 5000),
    saved := true, per := .div 1 },
  { index := O.mdStartRampTime, count := 4, ty := .sc .u16, acc := .rw, dflt := [1000], range := some (100, 10000),
    saved := true, per := .div 1 },
  { index := O.mdCoastTau, count := 4, ty := .sc .u16, acc := .rw, dflt := [5000], range := some (100, 60000),
    saved := true, per := .div 1 },
  { index := O.mdCatchMin, count := 4, ty := .sc .u16, acc := .rw, dflt := [200], range := some (50, 10000),
    saved := true, per := .div 1 },
  { index := O.mdStopSpeed, count := 4, ty := .sc .u16, acc := .rw, dflt := [100], range := some (10, 2000),
    saved := true, per := .div 1 },
  { index := O.mdRetryLimit, count := 4, ty := .sc .u8, acc := .rw, dflt := [3], range := some (0, 15),
    saved := true, per := .div 1 },
  { index := O.mdRetryDelay, count := 4, ty := .sc .u16, acc := .rw, dflt := [2000], range := some (100, 60000),
    saved := true, per := .div 1 },
  { index := O.motorFailSafe, count := 4, ty := .sc .u8, acc := .rw, dflt := [0], range := some (0, 2),
    saved := true, per := .div 1 },
  { index := O.mdFailSafeSpeed, count := 4, ty := .sc .u16, acc := .rw, dflt := [0], range := some (0, 30000),
    saved := true, per := .div 1 },
  { index := O.motorPriority, count := 4, ty := .sc .u8, acc := .rw, dflt := [4], range := some (0, 7),
    saved := true, per := .div 1 },
  { index := O.motorStatus, count := 4, ty := .sc .u16, acc := .ro, dflt := [0], per := .div 1 },
  { index := O.motorSpeed, count := 4, ty := .sc .u16, acc := .ro, dflt := [0], per := .div 1 },
  { index := O.motorSpeedRef, count := 4, ty := .sc .u16, acc := .ro, dflt := [0], per := .div 1 },
  { index := O.motorDuty, count := 4, ty := .sc .u16, acc := .ro, dflt := [0], per := .div 1 },
  { index := O.motorCurrent, count := 4, ty := .sc .i32, acc := .ro, dflt := [0], per := .div 1 },
  { index := O.motorRetryCount, count := 4, ty := .sc .u8, acc := .ro, dflt := [0], per := .div 1 },
  { index := O.motorTemp, count := 4, ty := .sc .i16, acc := .ro, dflt := [0], per := .div 1 },
  { index := O.motorFaultClear, count := 1, ty := .sc .u8, acc := .wo, dflt := [0], cmd := true },
  { index := O.vmotVoltage, count := 1, ty := .sc .u32, acc := .ro, dflt := [0] },
  { index := O.vmotUnderLevel, count := 1, ty := .sc .u32, acc := .rw, dflt := [36000], range := some (10000,
    62000), saved := true },
  { index := O.vmotRampHoldLevel, count := 1, ty := .sc .u32, acc := .rw, dflt := [52000], range := some (10000,
    62000), saved := true },
  { index := O.brakeOffLevel, count := 1, ty := .sc .u32, acc := .rw, dflt := [53000], range := some (10000,
    62000), saved := true },
  { index := O.brakeOnLevel, count := 1, ty := .sc .u32, acc := .rw, dflt := [54000], range := some (10000, 62000),
    saved := true },
  { index := O.vmotAbsLimit, count := 1, ty := .sc .u32, acc := .rw, dflt := [58000], range := some (10000, 62000),
    saved := true },
  { index := O.brakeResistorValue, count := 1, ty := .sc .u32, acc := .rw, dflt := [5000], range := some (100,
    100000), saved := true },
  { index := O.brakeShuntResistance, count := 1, ty := .sc .u16, acc := .rw, dflt := [10000], range := some (500,
    50000), saved := true },
  { index := O.brakeStatus, count := 1, ty := .sc .u8, acc := .ro, dflt := [0] },
  { index := O.brakeFaultClear, count := 1, ty := .sc .bool, acc := .wo, dflt := [0], cmd := true }]

/-- Objects 0x8000 to 0x80FF (R319). -/
def objs80 : List Obj := [
  { index := O.qlpNodeId, count := 1, ty := .sc .u8, acc := .rw, dflt := [0], range := some (1, 126), saved := true },
  { index := O.qlpRequestRate, count := 1, ty := .sc .u16, acc := .rw, dflt := [200], range := some (10, 1000),
    saved := true },
  { index := O.canEnable, count := 2, ty := .sc .bool, acc := .rw, dflt := [1], saved := true },
  { index := O.canNominalTiming, count := 2, ty := .record [.u8, .u16, .u8, .u8], acc := .rw, dflt := [1, 127, 32,
    32], saved := true },
  { index := O.canDataTiming, count := 2, ty := .record [.u8, .u8, .u8, .u8], acc := .rw, dflt := [1, 29, 10, 10],
    saved := true },
  { index := O.canTdc, count := 2, ty := .record [.u8, .u8, .u8], acc := .rw, dflt := [1, 0, 0], saved := true },
  { index := O.canBrs, count := 2, ty := .sc .bool, acc := .rw, dflt := [1], saved := true },
  { index := O.canTdcMeasured, count := 2, ty := .sc .u16, acc := .ro, dflt := [0] },
  { index := O.canErrorState, count := 2, ty := .sc .u8, acc := .ro, dflt := [0] },
  { index := O.canErrorCounters, count := 2, ty := .record [.u8, .u8], acc := .ro, dflt := [0, 0] },
  { index := O.canStats, count := 12, ty := .sc .u64, acc := .ro, dflt := [0] },
  { index := O.canTxDropped, count := 3, ty := .sc .u64, acc := .ro, dflt := [0] },
  { index := O.ethEnable, count := 1, ty := .sc .bool, acc := .rw, dflt := [1], saved := true },
  { index := O.ethIpAddress, count := 1, ty := .sc .u32, acc := .rw, dflt := [3232238090], saved := true },
  { index := O.ethNetmask, count := 1, ty := .sc .u32, acc := .rw, dflt := [4294967040], saved := true },
  { index := O.ethGateway, count := 1, ty := .sc .u32, acc := .rw, dflt := [0], saved := true },
  { index := O.ethMacAddress, count := 1, ty := .sc .u64, acc := .ro, dflt := [0] },
  { index := O.ethLinkState, count := 1, ty := .sc .u8, acc := .ro, dflt := [0] },
  { index := O.ethStats, count := 10, ty := .sc .u64, acc := .ro, dflt := [0] },
  { index := O.ethPhyAddress, count := 1, ty := .sc .u8, acc := .rw, dflt := [0], range := some (0, 31),
    saved := true }]

/-- Objects 0x8100 to 0x81FF (R319). -/
def objs81 : List Obj := [
  { index := O.deviceTime, count := 1, ty := .sc .u64, acc := .ro, dflt := [0] },
  { index := O.timeSyncState, count := 1, ty := .sc .u8, acc := .ro, dflt := [0] },
  { index := O.timeSource, count := 1, ty := .sc .u8, acc := .auth, dflt := [0], range := some (0, 2), saved := true },
  { index := O.timeOffset, count := 1, ty := .sc .i64, acc := .ro, dflt := [0] },
  { index := O.timeRateAdjust, count := 1, ty := .sc .i32, acc := .ro, dflt := [0] },
  { index := O.timeSlewLimit, count := 1, ty := .sc .u16, acc := .auth, dflt := [100], range := some (1, 1000),
    saved := true },
  { index := O.timeStepMax, count := 1, ty := .sc .u32, acc := .auth, dflt := [86400], range := some (1, 31536000),
    saved := true },
  { index := O.timeUtcOffset, count := 1, ty := .sc .i16, acc := .ro, dflt := [0] },
  { index := O.timeFlags, count := 1, ty := .sc .u8, acc := .ro, dflt := [0] },
  { index := O.elapsedTime, count := 1, ty := .sc .u64, acc := .ro, dflt := [0] },
  { index := O.timeStepTotal, count := 1, ty := .sc .u64, acc := .ro, dflt := [0] },
  { index := O.ptpDomain, count := 1, ty := .sc .u8, acc := .auth, dflt := [0], range := some (0, 127),
    saved := true },
  { index := O.ptpIngressLatency, count := 1, ty := .sc .u16, acc := .rw, dflt := [0], range := some (0, 10000),
    saved := true },
  { index := O.ptpEgressLatency, count := 1, ty := .sc .u16, acc := .rw, dflt := [0], range := some (0, 10000),
    saved := true },
  { index := O.ptpMasterIdentity, count := 1, ty := .sc .u64, acc := .ro, dflt := [0] },
  { index := O.lighthousePeriod, count := 1, ty := .sc .u8, acc := .rw, dflt := [10], range := some (1, 100),
    saved := true },
  { index := O.lighthouseEnable, count := 2, ty := .sc .bool, acc := .rw, dflt := [1], saved := true }]

/-- Objects 0x8200 to 0x82FF (R319). -/
def objs82 : List Obj := [
  { index := O.notifyCanChannels, count := 1, ty := .sc .u8, acc := .rw, dflt := [3], saved := true },
  { index := O.notifySubscriber, count := 4, ty := .record [.u32, .u8], acc := .rw, dflt := [0, 0], saved := true },
  { index := O.notificationSequence, count := 1, ty := .sc .u32, acc := .ro, dflt := [0] },
  { index := O.notificationBacklog, count := 32, ty := .record ([.u32, .u64, .u16, .u16, .u8, .u8,
    .u32] ++ List.replicate 42 .u8), acc := .ro, dflt := [0, 0, 0, 0, 0] ++ List.replicate 44 0 },
  { index := O.eventAcknowledge, count := 1, ty := .sc .u16, acc := .wo, dflt := [0], cmd := true },
  { index := O.notificationsDropped, count := 1, ty := .sc .u64, acc := .ro, dflt := [0] }]

/-- Objects 0x8300 to 0x83FF (R319). -/
def objs83 : List Obj := [
  { index := O.streamConfig, count := 8, ty := .record [.bool, .u8, .u8, .u8, .u16, .u8], acc := .rw, dflt := [0,
    0, 0, 0, 0, 0], saved := true },
  { index := O.streamEntry, count := 128, ty := .record [.u16, .u16, .u16], acc := .rw, dflt := [0, 0, 0],
    saved := true }]

/-- Objects 0x8400 to 0x84FF (R319). -/
def objs84 : List Obj := [
  { index := O.sessionState, count := 1, ty := .record [.bool, .u8, .u8, .u64], acc := .ro, dflt := [0, 0, 0, 0] },
  { index := O.authFailures, count := 1, ty := .sc .u64, acc := .ro, dflt := [0] }]

/-- Objects 0x8500 to 0x85FF (R319). -/
def objs85 : List Obj := [
  { index := O.qlpViolations, count := 24, ty := .sc .u64, acc := .ro, dflt := [0] }]

/-- Objects 0x8600 to 0x86FF (R377). -/
def objs86 : List Obj := [
  { index := O.berthState, count := 1, ty := .sc .u8, acc := .ro, dflt := [0] },
  { index := O.berthStatus, count := 1, ty := .sc .u8, acc := .ro, dflt := [0] },
  { index := O.berthCommand, count := 1, ty := .sc .u8, acc := .auth, dflt := [0], range := some (1, 2), cmd := true },
  { index := O.duplexLinkState, count := 1, ty := .sc .u8, acc := .ro, dflt := [0] },
  { index := O.duplexConfigCrc, count := 1, ty := .sc .u32, acc := .ro, dflt := [0] },
  { index := O.partnerConfigCrc, count := 1, ty := .sc .u32, acc := .ro, dflt := [0] },
  { index := O.duplexConfigMatch, count := 1, ty := .sc .bool, acc := .ro, dflt := [0] },
  { index := O.partnerNodeId, count := 1, ty := .sc .u8, acc := .ro, dflt := [0] },
  { index := O.handoverCount, count := 1, ty := .sc .u64, acc := .ro, dflt := [0] },
  { index := O.lastHandover, count := 1, ty := .record [.u8, .u64, .u32], acc := .ro, dflt := [0, 0, 0] },
  { index := O.duplexLinkErrors, count := 1, ty := .sc .u64, acc := .ro, dflt := [0] },
  { index := O.berthConflicts, count := 1, ty := .sc .u64, acc := .ro, dflt := [0] }]

/-- Objects 0x9000 to 0x90FF (R392). -/
def objs90 : List Obj := [
  { index := O.logOldestSequence, count := 1, ty := .sc .u32, acc := .ro, dflt := [0] },
  { index := O.logNewestSequence, count := 1, ty := .sc .u32, acc := .ro, dflt := [0] },
  { index := O.logRecordCount, count := 1, ty := .sc .u32, acc := .ro, dflt := [0] },
  { index := O.logFreeBytes, count := 1, ty := .sc .u32, acc := .ro, dflt := [1044480] },
  { index := O.logGeneration, count := 1, ty := .sc .u32, acc := .ro, dflt := [0] },
  { index := O.logDroppedCount, count := 2, ty := .sc .u64, acc := .ro, dflt := [0] },
  { index := O.logSuppressedCount, count := 4, ty := .sc .u64, acc := .ro, dflt := [0] },
  { index := O.logReclaimedPages, count := 1, ty := .sc .u64, acc := .ro, dflt := [0] },
  { index := O.logPageState, count := 256, ty := .sc .u8, acc := .ro, dflt := [4] },
  { index := O.logCursor, count := 384, ty := .sc .u32, acc := .wo, dflt := [0] },
  { index := O.logRecords, count := 1, ty := .blob, acc := .ro, dflt := [] },
  { index := O.logClear, count := 1, ty := .sc .u32, acc := .wo, dflt := [0], cmd := true }]

/-- Objects 0xA000 to 0xA0FF (R428). -/
def objsA0 : List Obj := [
  { index := O.lifeCycleCommand, count := 1, ty := .sc .u32, acc := .auth, dflt := [0], cmd := true },
  { index := O.lifeCycleBlock, count := 1, ty := .sc .u8, acc := .ro, dflt := [1] },
  { index := O.tombstone, count := 1, ty := .blob, acc := .ro, dflt := [] },
  { index := O.siteKeyWrite, count := 1, ty := .blob, acc := .wo, dflt := [] },
  { index := O.moduleKeyWrite, count := 4, ty := .blob, acc := .wo, dflt := [], per := .div 1 },
  { index := O.keySlotState, count := 20, ty := .sc .u8, acc := .ro, dflt := [0], per := .key },
  { index := O.tamperStatus, count := 1, ty := .sc .u32, acc := .ro, dflt := [0] },
  { index := O.tamperAcknowledge, count := 1, ty := .sc .u32, acc := .auth, dflt := [0], cmd := true },
  { index := O.resetCause, count := 1, ty := .sc .u8, acc := .ro, dflt := [0] },
  { index := O.deviceResetCommand, count := 1, ty := .sc .u8, acc := .auth, dflt := [0], cmd := true },
  { index := O.startupCheckResult, count := 1, ty := .sc .u8, acc := .ro, dflt := [0] },
  { index := O.mooredCommand, count := 1, ty := .sc .u8, acc := .auth, dflt := [0], range := some (1, 2),
    cmd := true },
  { index := O.mooredWakeMask, count := 1, ty := .sc .u8, acc := .rw, dflt := [7], range := some (1, 7),
    saved := true },
  { index := O.busWakeLevel, count := 1, ty := .sc .u32, acc := .rw, dflt := [100000], range := some (10000,
    1500000), saved := true },
  { index := O.mooredDarkAuto, count := 1, ty := .sc .bool, acc := .rw, dflt := [1], saved := true },
  { index := O.mooredDarkCellLevel, count := 1, ty := .sc .u16, acc := .rw, dflt := [27000], range := some (20000,
    35000), saved := true },
  { index := O.firmwareCommand, count := 1, ty := .sc .u8, acc := .auth, dflt := [0], range := some (1, 4),
    cmd := true },
  { index := O.firmwareChunk, count := 64, ty := .blob, acc := .auth, dflt := [] },
  { index := O.firmwareSlotState, count := 2, ty := .record [.u8, .u32, .u16, .u8], acc := .ro, dflt := [0, 0, 0, 0] },
  { index := O.firmwareActiveSlot, count := 1, ty := .sc .u8, acc := .ro, dflt := [0] },
  { index := O.firmwareVerifyError, count := 1, ty := .sc .u8, acc := .ro, dflt := [0] },
  { index := O.firmwareTrialTime, count := 1, ty := .sc .u16, acc := .rw, dflt := [600], range := some (60, 3600),
    saved := true },
  { index := O.securityFloor, count := 1, ty := .sc .u8, acc := .ro, dflt := [0] },
  { index := O.journalSequence, count := 1, ty := .sc .u32, acc := .ro, dflt := [0] },
  { index := O.journalTornCount, count := 1, ty := .sc .u64, acc := .ro, dflt := [0] }]

/-- Objects 0xB000 to 0xB0FF (R47). -/
def objsB0 : List Obj := [
  { index := O.sramAllocation, count := 7, ty := .sc .u32, acc := .ro, dflt := [0] },
  { index := O.flashAllocation, count := 8, ty := .sc .u32, acc := .ro, dflt := [0] },
  { index := O.sramEccCount, count := 2, ty := .sc .u64, acc := .ro, dflt := [0] },
  { index := O.interDieLinkErrors, count := 1, ty := .sc .u64, acc := .ro, dflt := [0] },
  { index := O.watchdogFailures, count := 1, ty := .sc .u64, acc := .ro, dflt := [0] }]

/-- Objects 0xB100 to 0xB1FF (R445). -/
def objsB1 : List Obj := [
  { index := O.dieSensorTemp, count := 12, ty := .sc .i16, acc := .ro, dflt := [0] },
  { index := O.dieSensorState, count := 12, ty := .sc .u8, acc := .ro, dflt := [0] },
  { index := O.dieTemperature, count := 2, ty := .sc .i16, acc := .ro, dflt := [0] },
  { index := O.regionTemperature, count := 2, ty := .sc .i16, acc := .ro, dflt := [0] },
  { index := O.packageTemperature, count := 1, ty := .sc .i16, acc := .ro, dflt := [0] },
  { index := O.throttleStage, count := 4, ty := .sc .u8, acc := .ro, dflt := [0] },
  { index := O.throttleTime, count := 4, ty := .sc .u64, acc := .ro, dflt := [0] },
  { index := O.diePeakTemp, count := 2, ty := .sc .i16, acc := .ro, dflt := [0] },
  { index := O.scrubPassCount, count := 1, ty := .sc .u64, acc := .ro, dflt := [0] },
  { index := O.backgroundLastRun, count := 10, ty := .sc .u64, acc := .ro, dflt := [0] },
  { index := O.cellTrim, count := 2048, ty := .sc .i16, acc := .ro, dflt := [0], stamp := .est, per := .div 512, whole := true },
  { index := O.deviceSelfTestRequest, count := 1, ty := .sc .u32, acc := .wo, dflt := [0], cmd := true },
  { index := O.deviceSelfTestResult, count := 1, ty := .record [.u16, .u16, .u8, .u16, .u32], acc := .ro,
    dflt := [0, 0, 3, 0, 0] }]

/-- Objects 0xB200 to 0xB2FF (R472). -/
def objsB2 : List Obj := [
  { index := O.vauxVoltage, count := 1, ty := .sc .u32, acc := .ro, dflt := [0] },
  { index := O.vddcVoltage, count := 1, ty := .sc .u16, acc := .ro, dflt := [0] },
  { index := O.vddcCurrent, count := 1, ty := .sc .u16, acc := .ro, dflt := [0] },
  { index := O.vddioVoltage, count := 1, ty := .sc .u16, acc := .ro, dflt := [0] },
  { index := O.gateDriveVoltage, count := 1, ty := .sc .u16, acc := .ro, dflt := [0] },
  { index := O.brownOutCount, count := 1, ty := .sc .u64, acc := .ro, dflt := [0] },
  { index := O.packageDissipation, count := 1, ty := .sc .u16, acc := .ro, dflt := [0] },
  { index := O.portDelay, count := 8, ty := .record [.u16, .u16], acc := .ro, dflt := [0, 0], per := .port, whole := true },
  { index := O.factoryCalVersion, count := 1, ty := .sc .u16, acc := .ro, dflt := [0] },
  { index := O.factoryCalCrc, count := 1, ty := .sc .u32, acc := .ro, dflt := [0] }]

/-- The rows of the 256-index page that holds an index. -/
def objPage (page : Nat) : List Obj :=
  if page = 0x10 then objs10
  else if page = 0x1F then objs1F
  else if page = 0x20 then objs20
  else if page = 0x21 then objs21
  else if page = 0x22 then objs22
  else if page = 0x24 then objs24
  else if page = 0x2F then objs2F
  else if page = 0x30 then objs30
  else if page = 0x40 then objs40
  else if page = 0x41 then objs41
  else if page = 0x42 then objs42
  else if page = 0x43 then objs43
  else if page = 0x44 then objs44
  else if page = 0x50 then objs50
  else if page = 0x51 then objs51
  else if page = 0x52 then objs52
  else if page = 0x53 then objs53
  else if page = 0x54 then objs54
  else if page = 0x55 then objs55
  else if page = 0x5F then objs5F
  else if page = 0x60 then objs60
  else if page = 0x61 then objs61
  else if page = 0x70 then objs70
  else if page = 0x78 then objs78
  else if page = 0x80 then objs80
  else if page = 0x81 then objs81
  else if page = 0x82 then objs82
  else if page = 0x83 then objs83
  else if page = 0x84 then objs84
  else if page = 0x85 then objs85
  else if page = 0x86 then objs86
  else if page = 0x90 then objs90
  else if page = 0xA0 then objsA0
  else if page = 0xB0 then objsB0
  else if page = 0xB1 then objsB1
  else if page = 0xB2 then objsB2
  else []

/-- R320: the object at an index. -/
def objRow (index : Nat) : Option Obj := (objPage (index / 256)).find? (fun o => o.index == index)

/-- Every object, by ascending index (R327). -/
def allObjs : List Obj :=
  objs10 ++ objs1F ++ objs20 ++ objs21 ++ objs22 ++ objs24 ++ objs2F ++ objs30 ++ objs40 ++ objs41 ++ objs42 ++ objs43 ++ objs44 ++
  objs50 ++ objs51 ++ objs52 ++ objs53 ++ objs54 ++ objs55 ++ objs5F ++ objs60 ++ objs61 ++
  objs70 ++ objs78 ++ objs80 ++ objs81 ++ objs82 ++ objs83 ++ objs84 ++ objs85 ++ objs86 ++
  objs90 ++ objsA0 ++ objsB0 ++ objsB1 ++ objsB2

end Sys2Proof.Machine
end

