-- ==== Sys2Proof/Config.lean ====
section
/-! DEFINITION. Sys2Proof/Config.lean: what the manual leaves open. Each constant has no body, so nothing can be
proved about its value and a statement that mentions it holds for every value (notes/assumptions/5.md). -/

namespace Sys2Proof.Config

/-- R34: how far, less one, the next watchdog question lies above the last one (so it never equals it); by position in
the power die's internal sequence. DESIGN CHOICE: free, log entry 5. -/
opaque questionStep : Nat → Fin 255

/-- R34: the answer to a question: by question and answer number (the self-test signature is part of it). DESIGN
CHOICE: free, log entry 5. -/
opaque watchdogAnswer : Byte → Fin 4 → Byte

/-- R31: start value of the inter-die link's CRC-16; the manual gives only the polynomial. Free, log entry 6. -/
opaque linkCrcInit : BitVec 16

/-- R31: final XOR of the inter-die link's CRC-16. Free, log entry 6. -/
opaque linkCrcXor : BitVec 16

/-- R31, R32: the type code of a resend request. Free, log entry 6. -/
opaque linkTypeResend : Byte

/-- R31, R32: the type code of an idle frame. Free, log entry 6. -/
opaque linkTypeIdle : Byte

/-- R31, Table 1-6: the type code of a frame of a class. Free, log entry 6. -/
opaque linkType : Nat → Byte

/-- R31, Table 1-6: the payload of a frame, by its class and by what it says (`Machine.LinkMsg`). Free, log entry 6. -/
opaque linkPayload : Nat → Nat → BitVec 48

/-- R31: the sender's status, the payload of an idle frame. Free, log entry 6. -/
opaque linkStatus : BitVec 48

/-- R360, Table 11-2: the payload bytes of a MIRROR frame, by the items of Table 11-3; the manual gives no layout. Free, log
entry 168. -/
opaque mirrorPayload : List Int → List Byte

/-- R46: how many sectors fail in an erase, by the erase unit (`Machine.Flash.erases`) and the sector erases done in it before.
Free, log entry 144. -/
opaque eraseFailures : Nat → Nat → Nat

/-- R296: the random bytes a device draws, by position. Free, log entry 5. -/
opaque randomByte : Nat → Byte

/-- R172, R270: what takes the place of a natural logarithm of a number that is not positive, which the spec does not state.
Free, log entry 7. -/
opaque lnOpen : Rat → Rat

/-- R270: how far the duty (%) of an open-loop start has risen above `MdAlignDuty`: by `MdSpeedKp`, `MdSpeedKi`,
`MdHandoverSpeed` (rpm), `MdStartRampTime` (ms) and the time since the start (µs). The spec leaves "the rate the loop gains
give" open: a free value (log entry 134). -/
opaque startRise : Rat → Rat → Nat → Nat → Nat → Rat

end Sys2Proof.Config
end

