-- ==== Sys2Proof/Machine/Operands.lean ====
section
/-! DEFINITION. Sys2Proof/Machine/Operands.lean: the forms in which operands arrive: bytes and bits of frames, files and
records (R7, least significant byte first), two's complement, binary32, and the checks over them (CRC-32 of R56, the
inter-die CRC-16 of R31). -/

namespace Sys2Proof.Machine

/-- R7: `n` bytes of a number, least significant first. -/
def le : Nat → Nat → List Byte
  | 0, _ => []
  | n + 1, v => BitVec.ofNat 8 v :: le n (v / 256)

/-- R7: the number that bytes carry, least significant first. -/
def ofLe : List Byte → Nat
  | [] => 0
  | b :: bs => b.toNat + 256 * ofLe bs

/-- R7: `n` bytes of a file from an offset, as a number. -/
def leAt (bs : List Byte) (off n : Nat) : Nat := ofLe ((bs.drop off).take n)

/-- The byte at an offset, 0 beyond the end. -/
def byteAt (bs : List Byte) (i : Nat) : Byte := bs.getD i 0

/-- The bit `i` of a number. -/
def bit (v i : Nat) : Bool := v.testBit i

/-- Bits `hi` to `lo` of a number. -/
def bits (v hi lo : Nat) : Nat := v / 2 ^ lo % 2 ^ (hi - lo + 1)

/-- A Bool as 0 or 1. -/
def b2n (b : Bool) : Nat := if b then 1 else 0

/-- Table 0-4: two's complement of `w` bits. -/
def signed (w v : Nat) : Int := if v % 2 ^ w < 2 ^ (w - 1) then (v % 2 ^ w : Nat) else (v % 2 ^ w : Nat) - 2 ^ w

/-- Table 0-4: an integer as `w` bits. -/
def unsigned (w : Nat) (v : Int) : Nat := (v % 2 ^ w).toNat

/-- R7: `n` bytes of an integer in two's complement. -/
def leI (n : Nat) (v : Int) : List Byte := le n (unsigned (8 * n) v)

/-- One step of the reflected CRC-32 of R56 over the least significant bit. -/
def crc32Bit (c : Nat) : Nat := if c % 2 = 1 then (c / 2).xor 0xEDB88320 else c / 2

/-- R56: the reflected CRC-32 register after one byte. -/
def crc32Byte (c : Nat) (b : Byte) : Nat :=
  crc32Bit (crc32Bit (crc32Bit (crc32Bit (crc32Bit (crc32Bit (crc32Bit (crc32Bit (c.xor b.toNat))))))))

/-- R56: CRC-32, polynomial 0x04C11DB7, reflected, initial value and final XOR 0xFFFFFFFF. -/
def crc32 (bs : List Byte) : Nat := (bs.foldl crc32Byte 0xFFFFFFFF).xor 0xFFFFFFFF

/-- R31: one bit of the CRC-16 with polynomial 0x1021, most significant bit first. -/
def crc16Bit (c : BitVec 16) : BitVec 16 := if c.getLsbD 15 then (c <<< 1) ^^^ 0x1021#16 else c <<< 1

/-- R31: the CRC-16 register after one byte. -/
def crc16Byte (c : BitVec 16) (b : Byte) : BitVec 16 :=
  let d := c ^^^ ((b.zeroExtend 16) <<< 8)
  crc16Bit (crc16Bit (crc16Bit (crc16Bit (crc16Bit (crc16Bit (crc16Bit (crc16Bit d)))))))

/-- R31: CRC-16 over type, sequence and payload; start value and final XOR are free (log entry 6). -/
def linkCrc (type seq : Byte) (payload : BitVec 48) : BitVec 16 :=
  ((type :: seq :: le 6 payload.toNat).foldl crc16Byte Config.linkCrcInit) ^^^ Config.linkCrcXor

/-- Table 0-4, R9: bits of an F32 that are a number (not NaN, not infinite). -/
def f32Finite (v : Nat) : Bool := bits v 30 23 ≠ 255

/-- Table 5-5: the bits of an F32 greater than 0, infinity included. -/
def f32Positive (v : Nat) : Bool := decide (0 < v) && decide (v ≤ 0x7F800000)

/-- Table 0-4: the rational that the bits of a finite F32 encode (IEEE 754 binary32). -/
def f32 (v : Nat) : Rat :=
  let e := bits v 30 23
  let m := bits v 22 0
  let a : Rat := if e = 0 then (m : Rat) / 2 ^ 149
    else if e < 150 then ((m + 2 ^ 23 : Nat) : Rat) / 2 ^ (150 - e) else ((m + 2 ^ 23 : Nat) : Rat) * 2 ^ (e - 150)
  if bit v 31 then -a else a

/-- Nearest integer of a rational, ties away from zero. PRESUMED where the manual says no rounding (log entry 8). -/
def roundQ (q : Rat) : Int := if q < 0 then -((-q + 1 / 2).floor) else (q + 1 / 2).floor

/-- A value held within two bounds. -/
def clampI (lo hi v : Int) : Int := if v < lo then lo else if hi < v then hi else v

/-- A rational held within two bounds. -/
def clampQ (lo hi v : Rat) : Rat := if v < lo then lo else if hi < v then hi else v

/-- |q|. -/
def absQ (q : Rat) : Rat := if q < 0 then -q else q

/-- The exponent of the binary32 nearest below a positive rational, floor of log2, between −150 and 128. -/
def log2Q (q : Rat) : Int :=
  let g : Int := (Nat.log2 q.num.natAbs : Int) - (Nat.log2 q.den : Int)
  let p : Rat := if 0 ≤ g then (2 : Rat) ^ g.toNat else 1 / (2 : Rat) ^ (-g).toNat
  if q < p then g - 1 else g

/-- Table 0-4: the bits of the binary32 nearest to a rational (log entry 8); beyond the largest finite number it stays
at that number (R10). -/
def toF32 (q : Rat) : Nat :=
  let s := if q < 0 then 2 ^ 31 else 0
  let a := absQ q
  if a = 0 then 0 else
  let e := log2Q a
  let e := if e < -126 then -126 else e
  let ulp : Rat := if 23 ≤ e then (2 : Rat) ^ (e - 23).toNat else 1 / (2 : Rat) ^ (23 - e).toNat
  let m := (roundQ (a / ulp)).toNat
  let r := if m < 2 ^ 23 then m else (e + 126).toNat * 2 ^ 23 + m
  s + (if 0x7F7FFFFF < r then 0x7F7FFFFF else r)

/-- A square root to 10⁻¹², rounded down. DESIGN CHOICE of the precision (log entry 8). -/
def sqrtQ (q : Rat) : Rat :=
  if q ≤ 0 then 0 else (Nat.sqrt (q.num.natAbs * 10 ^ 24 / q.den) : Rat) / 10 ^ 12

/-- 2⁹⁶ × e^q of a rational from 0 to 64, to about 90 binary places: e^(q / 2^k) by its series, then squared k times. -/
def expFix (q : Rat) : Nat :=
  let s : Nat := 2 ^ 96
  let k := Nat.log2 (q.floor.toNat + 1) + 1
  let x := (q * (s : Rat) / (2 : Rat) ^ k).floor.toNat
  let e := (List.range 24).foldl (fun a j => s + x * a / (s * (24 - j))) s
  (List.range k).foldl (fun a _ => a * a / s) e

/-- R144: e^q, to some 25 decimal places; 0 below −64, and not beyond e⁶⁴. DESIGN CHOICE of the precision (log entry 7). -/
def expQ (q : Rat) : Rat :=
  let s : Nat := 2 ^ 96
  if q ≤ -64 then 0
  else if q < 0 then ((s * s / expFix (-q) : Nat) : Rat) / (s : Rat)
  else ((expFix (if 64 < q then 64 else q) : Nat) : Rat) / (s : Rat)

/-- 2⁹⁶ × ln((1 + y) / (1 − y)) of `y` / 2⁹⁶ between −1/3 and 1/3, by the series of the area tangent. -/
def lnFix (y : Int) : Int :=
  let s : Int := 2 ^ 96
  let w := y * y / s
  2 * y * (List.range 40).foldl (fun a j => s / (2 * (40 - j) - 1 : Nat) + w * a / s) 0 / s

/-- R172: ln q, to some 25 decimal places (log entry 7); of a number that is not positive it is a free value, which the spec
does not state. -/
def lnQ (q : Rat) : Rat :=
  if q ≤ 0 then Config.lnOpen q else
  let s : Int := 2 ^ 96
  let k : Int := (Nat.log2 q.num.natAbs : Int) - (Nat.log2 q.den : Int)
  let m : Rat := if 0 ≤ k then q / (2 : Rat) ^ k.toNat else q * (2 : Rat) ^ (-k).toNat
  ((lnFix ((m - 1) / (m + 1) * (s : Rat)).floor + k * lnFix (s / 3) : Int) : Rat) / (s : Rat)

/-- R75, R112: the turn of item `k` of `n`, spread evenly over a period that began at `start`, falls due: its latest
instant up to `now` lies after the last time it ran. -/
def turnDue (start period k n last now : Nat) : Bool :=
  let first := start + period * k / n
  decide (first ≤ now) && decide (last < first + (now - first) / period * period || last = 0)

/-- The bytes of a number's list as integers (element values of a BLOB). -/
def blobOf (bs : List Byte) : List Int := bs.map fun b => (b.toNat : Int)

/-- The bytes of a BLOB element. -/
def bytesOf (l : List Int) : List Byte := l.map fun v => BitVec.ofInt 8 v

end Sys2Proof.Machine

namespace Sys2Proof

/-! ### The header of a QLP frame as it arrives (R285, R311) -/

/-- R285, R311: a field of a frame's header: from a bit of the identifier on CAN, in a byte of the datagram header on Ethernet,
`2 ^ width` values of it. -/
def QlpFrame.field (f : QlpFrame) (low byte width : Nat) : Nat :=
  (if f.link.val < 2 then f.ident / 2 ^ low else (Machine.byteAt f.head byte).toNat) % 2 ^ width

/-- Table 9-2, Table 9-13: PRIORITY. -/
def QlpFrame.prio (f : QlpFrame) : Nat := f.field 26 1 3
/-- Table 9-2, Table 9-13: CLASS. -/
def QlpFrame.cls (f : QlpFrame) : Nat := f.field 20 2 6
/-- Table 9-2, Table 9-13: DEST. -/
def QlpFrame.dest (f : QlpFrame) : Nat := f.field 13 3 7
/-- Table 9-2, Table 9-13: SOURCE. -/
def QlpFrame.src (f : QlpFrame) : Nat := f.field 6 4 7
/-- Table 9-2, Table 9-13: SEQ. -/
def QlpFrame.seq (f : QlpFrame) : Nat := f.field 0 5 6

end Sys2Proof

namespace Sys2Proof.Machine

/-- Table 9-2: the 29-bit identifier of a frame. -/
def canId (prio cls dest src seq : Nat) : Nat :=
  prio % 8 * 2 ^ 26 + cls % 64 * 2 ^ 20 + dest % 128 * 2 ^ 13 + src % 128 * 2 ^ 6 + seq % 64

/-- Table 9-13: the header of a datagram with a message of `len` bytes. -/
def datagramHead (prio cls dest src seq len : Nat) : List Byte :=
  [1] ++ le 1 prio ++ le 1 cls ++ le 1 dest ++ le 1 src ++ le 1 seq ++ le 2 len

/-- R317 category 1: a reserved bit of a datagram's header is set. -/
def reservedSet (f : QlpFrame) : Bool :=
  2 ≤ f.link.val && ([(1, 3), (2, 6), (3, 7), (4, 7), (5, 6)].any fun p => decide (2 ^ p.2 ≤ (byteAt f.head p.1).toNat))

/-- R311: a datagram that is dropped: VERSION is not 0x01, or LENGTH is not the UDP payload less 8. -/
def badDatagram (f : QlpFrame) : Bool :=
  2 ≤ f.link.val && (byteAt f.head 0 != 1 || f.head.length != 8 || leAt f.head 6 2 != f.msg.length)

end Sys2Proof.Machine
end

