-- ==== Sys2Proof/Machine/Ops.lean ====
section
/-! DEFINITION. Sys2Proof/Machine/Ops.lean: the named operations over State that the commands share: sparse maps in
canonical form, the records by number, the elements of the object dictionary with their defaults, time, raising an
event (R37, R41), the flash permission (R45), the journal (R409). -/

namespace Sys2Proof.Machine

/-! ### Sparse maps -/

/-- What a key reads as; `d` where it is not listed. -/
def mget {α : Type} (d : α) : SMap α → Nat → α
  | [], _ => d
  | (a, v) :: m, k => if a = k then v else mget d m k

/-- The map without a key. -/
def mdel {α : Type} : SMap α → Nat → SMap α
  | [], _ => []
  | (a, v) :: m, k => if a = k then m else (a, v) :: mdel m k

/-- The map with a key listed with a value, keys kept rising. -/
def mins {α : Type} : SMap α → Nat → α → SMap α
  | [], k, v => [(k, v)]
  | (a, w) :: m, k, v =>
    if k < a then (k, v) :: (a, w) :: m else if k = a then (k, v) :: m else (a, w) :: mins m k v

/-- Writing a value: a value that an unlisted key reads as removes the entry. -/
def mset {α : Type} [DecidableEq α] (d : α) (m : SMap α) (k : Nat) (v : α) : SMap α :=
  if v = d then mdel m k else mins m k v

/-- A key is listed. -/
def mhas {α : Type} (m : SMap α) (k : Nat) : Bool := m.any fun p => p.1 == k

/-- Canonical form above a key: keys strictly rising and no value equal to the default `d` of its key. -/
def mwfFrom {α : Type} [DecidableEq α] (d : Nat → α) : Option Nat → SMap α → Bool
  | _, [] => true
  | lo, (a, v) :: m => (match lo with | none => true | some l => decide (l < a)) && decide (v ≠ d a) && mwfFrom d (some a) m

/-! ### Outcomes -/

/-- A command that completes with a state. -/
def done (s : State) : Host.Outcome State Fault Refusal := .next s

/-- A command that acts only when its moment has come; otherwise nothing changes (log entry 4). -/
def doneIf (c : Bool) (t s : State) : Host.Outcome State Fault Refusal := .next (if c then t else s)

/-- The same change for each of a list of things, in order. -/
def forEach {α : Type} (l : List α) (s : State) (f : State → α → State) : State := l.foldl f s

/-! ### Records by number -/

/-- R183: contactor driver `k`. -/
def State.drv (s : State) (k : Nat) : Driver := mget {} s.drivers k

/-- R183: contactor driver `k`, changed by `f`. -/
def State.drvUpd (s : State) (k : Nat) (f : Driver → Driver) : State :=
  { s with drivers := mset {} s.drivers k (f (s.drv k)) }

/-- R250: load switch `k`. -/
def State.lsw (s : State) (k : Nat) : LoadSw := mget {} s.ls k

/-- R250: load switch `k`, changed by `f`. -/
def State.lswUpd (s : State) (k : Nat) (f : LoadSw → LoadSw) : State :=
  { s with ls := mset {} s.ls k (f (s.lsw k)) }

/-- R262: motor channel `k`. -/
def State.mot (s : State) (k : Nat) : Motor := mget {} s.motors k

/-- R262: motor channel `k`, changed by `f`. -/
def State.motUpd (s : State) (k : Nat) (f : Motor → Motor) : State :=
  { s with motors := mset {} s.motors k (f (s.mot k)) }

/-- R222: safety input pair `k`. -/
def State.pair (s : State) (k : Nat) : Pair := mget {} s.pairs k

/-- R222: safety input pair `k`, changed by `f`. -/
def State.pairUpd (s : State) (k : Nat) (f : Pair → Pair) : State :=
  { s with pairs := mset {} s.pairs k (f (s.pair k)) }

/-- R203: string `k`. -/
def State.str (s : State) (k : Nat) : Str := mget {} s.strs k

/-- R203: string `k`, changed by `f`. -/
def State.strUpd (s : State) (k : Nat) (f : Str → Str) : State :=
  { s with strs := mset {} s.strs k (f (s.str k)) }

/-- R48: ring `k`. -/
def State.ring (s : State) (k : Nat) : Ring := mget {} s.rings k

/-- R48: ring `k`, changed by `f`. -/
def State.ringUpd (s : State) (k : Nat) (f : Ring → Ring) : State :=
  { s with rings := mset {} s.rings k (f (s.ring k)) }

/-- R64: monitor ring × 32 + position `k`. -/
def State.mon (s : State) (k : Nat) : Monitor := mget {} s.monitors k

/-- R64: monitor ring × 32 + position `k`, changed by `f`. -/
def State.monUpd (s : State) (k : Nat) (f : Monitor → Monitor) : State :=
  { s with monitors := mset {} s.monitors k (f (s.mon k)) }

/-- R12: acquisition of a global cell `k`. -/
def State.cell (s : State) (k : Nat) : CellAcq := mget {} s.cells k

/-- R12: acquisition of a global cell `k`, changed by `f`. -/
def State.cellUpd (s : State) (k : Nat) (f : CellAcq → CellAcq) : State :=
  { s with cells := mset {} s.cells k (f (s.cell k)) }

/-- R97: acquisition of a temperature `k`. -/
def State.temp (s : State) (k : Nat) : TempAcq := mget {} s.temps k

/-- R97: acquisition of a temperature `k`, changed by `f`. -/
def State.tempUpd (s : State) (k : Nat) (f : TempAcq → TempAcq) : State :=
  { s with temps := mset {} s.temps k (f (s.temp k)) }

/-- R86: current channel string × 2 + channel `k`. -/
def State.chan (s : State) (k : Nat) : Chan := mget {} s.chans k

/-- R86: current channel string × 2 + channel `k`, changed by `f`. -/
def State.chanUpd (s : State) (k : Nat) (f : Chan → Chan) : State :=
  { s with chans := mset {} s.chans k (f (s.chan k)) }

/-- R135: one-shot request `k`. -/
def State.shot (s : State) (k : Nat) : OneShot := mget {} s.shots k

/-- R135: one-shot request `k`, changed by `f`. -/
def State.shotUpd (s : State) (k : Nat) (f : OneShot → OneShot) : State :=
  { s with shots := mset {} s.shots k (f (s.shot k)) }

/-- R119: estimator unit `k`. -/
def State.eu (s : State) (k : Nat) : Eu := mget {} s.fab.eus k

/-- R119: estimator unit `k`, changed by `f`. -/
def State.euUpd (s : State) (k : Nat) (f : Eu → Eu) : State :=
  { s with fab := { s.fab with eus := mset {} s.fab.eus k (f (s.eu k)) } }

/-- R125: epoch of a string `k`. -/
def State.epoch (s : State) (k : Nat) : Epoch := mget {} s.fab.epochs k

/-- R125: epoch of a string `k`, changed by `f`. -/
def State.epochUpd (s : State) (k : Nat) (f : Epoch → Epoch) : State :=
  { s with fab := { s.fab with epochs := mset {} s.fab.epochs k (f (s.epoch k)) } }

/-- R133: region `k`. -/
def State.region (s : State) (k : Nat) : Region := mget {} s.fab.regions k

/-- R133: region `k`, changed by `f`. -/
def State.regionUpd (s : State) (k : Nat) (f : Region → Region) : State :=
  { s with fab := { s.fab with regions := mset {} s.fab.regions k (f (s.region k)) } }

/-- R439: a converter's output from what it converts without its gain trim (DESIGN CHOICE, log entry 137). -/
def State.trimmed (s : State) (k v : Nat) : Nat :=
  let g := (1000000 + (mget 0 s.th.trims k : Int)).toNat
  (v * 1000000 + g / 2) / g

/-- R439: an output of converter `k`: the one before, where a reference conversion has taken its place. -/
def State.converted (s : State) (k v last : Nat) : Nat := if s.th.repeats.contains k then last else s.trimmed k v

/-- R439: the next output of a converter is a conversion again. -/
def State.resumes (s : State) (k : Nat) : State :=
  { s with th := { s.th with repeats := s.th.repeats.filter fun x => x != k } }

/-- R128: published estimator state of a cell `k`. -/
def State.pub (s : State) (k : Nat) : CellEst := mget {} s.fab.published k

/-- R128: published estimator state of a cell `k`, changed by `f`. -/
def State.pubUpd (s : State) (k : Nat) (f : CellEst → CellEst) : State :=
  { s with fab := { s.fab with published := mset {} s.fab.published k (f (s.pub k)) } }

/-- R128: working estimator state of a cell `k`. -/
def State.est (s : State) (k : Nat) : CellEst := mget {} s.fab.working k

/-- R128: working estimator state of a cell `k`, changed by `f`. -/
def State.estUpd (s : State) (k : Nat) (f : CellEst → CellEst) : State :=
  { s with fab := { s.fab with working := mset {} s.fab.working k (f (s.est k)) } }

/-- R162: rest detection of a string `k`. -/
def State.rest (s : State) (k : Nat) : Rest := mget {} s.fab.rest k

/-- R162: rest detection of a string `k`, changed by `f`. -/
def State.restUpd (s : State) (k : Nat) (f : Rest → Rest) : State :=
  { s with fab := { s.fab with rest := mset {} s.fab.rest k (f (s.rest k)) } }

/-- R299: CAN transmit side `k`. -/
def State.can (s : State) (k : Nat) : CanTx := mget {} s.qlp.can k

/-- R299: CAN transmit side `k`, changed by `f`. -/
def State.canUpd (s : State) (k : Nat) (f : CanTx → CanTx) : State :=
  { s with qlp := { s.qlp with can := mset {} s.qlp.can k (f (s.can k)) } }

/-- R426: firmware slot `k`. -/
def State.slot (s : State) (k : Nat) : FwSlot := mget {} s.flash.slots k

/-- R426: firmware slot `k`, changed by `f`. -/
def State.slotUpd (s : State) (k : Nat) (f : FwSlot → FwSlot) : State :=
  { s with flash := { s.flash with slots := mset {} s.flash.slots k (f (s.slot k)) } }

/-- R432: throttle scope `k`. -/
def State.scope (s : State) (k : Nat) : Scope := mget {} s.th.scopes k

/-- R432: throttle scope `k`, changed by `f`. -/
def State.scopeUpd (s : State) (k : Nat) (f : Scope → Scope) : State :=
  { s with th := { s.th with scopes := mset {} s.th.scopes k (f (s.scope k)) } }


/-! ### Variant (R1 to R4) -/

/-- R3: number of strings, rings and motor channels. -/
def State.nStrings (s : State) : Nat := match s.variant with | .qb2048 => 4 | .qb1024 => 2

/-- R3: the string, ring or motor channel exists on the variant. -/
def State.has (s : State) (n : Nat) : Bool := n < s.nStrings

/-- R3: the strings of the variant. -/
def State.strings (s : State) : List Nat := List.range s.nStrings

/-! ### Elements of the dictionary -/

/-- Table 1-8, R37: what kind of thing a source belongs to: none, the ring or string n, or a motor channel n. -/
def sourceRing (src : Nat) : Option Nat :=
  if src < 0x40 then some (src / 16)
  else if src < 0x50 then some ((src - 0x40) / 4)
  else if src < 0x60 then some (src % 4)
  else if src < 0x64 then some (src % 4)
  else if src < 0x68 then none
  else if src < 0xA0 then some (src % 4)
  else if src < 0xA8 then none
  else if src < 0xAC then some (src % 4)
  else if 0xC0 ≤ src ∧ src < 0xC8 then some ((src - 0xC0) / 2)
  else none

/-- R37 and the source tables: sources that never fire on any variant. -/
def sourceUnused (src : Nat) : Bool :=
  [0xAE, 0xAF, 0xCD, 0xCE, 0xDE, 0xDF, 0xE5, 0xE6, 0xE7, 0xFE, 0xFF].contains src || decide (256 ≤ src)

/-- R37: a source exists on the variant. -/
def State.hasSource (s : State) (src : Nat) : Bool :=
  match sourceRing src with | some n => s.has n | none => true

/-- R39: the sources whose routing words are locked. -/
def sourceLocked (src : Nat) : Bool :=
  (0x40 ≤ src && src ≤ 0x53) || (src < 0x40 && src % 16 == 7) || (0x94 ≤ src && src ≤ 0x97) ||
  (0xA0 ≤ src && src ≤ 0xAF) || src == 0xE3 || src == 0xE8 || src == 0xF1

/-- Default SEVERITY of a source: Tables 1-13, 2-12, 3-15, 3-16, 4-3, 5-9, 6-12, 7-6, 8-7, 9-16, 11-8, 12 (R391), 13-15,
14-5 and R346; 0 info, 1 notice, 2 warning, 3 critical. -/
def sourceSeverity (src : Nat) : Nat :=
  if src < 0x40 then
    [2, 1, 0, 1, 2, 0, 1, 3, 3, 2, 3, 2, 2, 2, 1, 2].getD (src % 16) 0
  else if src < 0x54 then 3
  else if src < 0x60 then 2
  else if src < 0x64 then 1
  else if src < 0x66 then 1
  else if src < 0x74 then 2
  else if src < 0x78 then 3
  else if src < 0x7C then 2
  else if src < 0x84 then 3
  else if src < 0x88 then 2
  else if src < 0x8C then 1
  else if src < 0x90 then 2
  else if src < 0x98 then 3
  else if src < 0x9C then 2
  else if src < 0xA0 then 1
  else if src < 0xB0 then 3
  else if src < 0xC0 then 2
  else if src < 0xC8 then (if src % 2 = 0 then 2 else 1)
  else [1, 0, 3, 3, 2, 0, 0, 2,
        2, 2, 1, 1, 1, 0, 2, 1, 1, 1, 0, 1, 2, 2, 0, 0,
        2, 2, 2, 3, 2, 0, 0, 0, 3, 3, 2, 2, 3, 2, 3, 2,
        3, 3, 2, 1, 0, 1, 3, 2, 3, 2, 1, 3, 3, 3, 0, 0].getD (src - 0xC8) 0

/-- Default notification and capture bits of a source, from the same tables: CAPTURE 8, SAFETY_NOTE 4, ALARM_NOTE 2,
EVENT_NOTE 1. -/
def sourceNotes (src : Nat) : Nat :=
  if src < 0x40 then
    [2, 0, 0, 0, 0, 0, 0, 10, 2, 0, 2, 2, 0, 0, 0, 0].getD (src % 16) 0
  else if src < 0x54 then 10
  else if src < 0x60 then 2
  else if src < 0x64 then 0
  else if src < 0x66 then 1
  else if src < 0x88 then 2
  else if src < 0x8C then 1
  else if src < 0x98 then 2
  else if src < 0x9C then 0
  else if src < 0xA0 then 1
  else if src < 0xB0 then 4
  else if src < 0xC0 then 2
  else if src < 0xC8 then (if src % 2 = 0 then 2 else 1)
  else [0, 0, 2, 2, 2, 0, 0, 2,
        2, 2, 0, 0, 0, 0, 2, 0, 1, 0, 0, 0, 2, 2, 0, 0,
        0, 2, 2, 2, 2, 0, 0, 0, 2, 2, 2, 2, 2, 2, 2, 2,
        2, 2, 2, 1, 2, 1, 2, 2, 2, 0, 1, 2, 2, 2, 0, 0].getD (src - 0xC8) 0

/-- Default TRIP field of a source (Tables 2-12, 3-16, 6-12, 7-6); for 0xA0 to 0xA7 it is the pair's `SafetyInputMap`,
which `State.route` supplies. "Every string" is every string of the variant (R245). -/
def sourceTrip (v : Variant) (src : Nat) : Nat :=
  if src < 0x40 then (if src % 16 = 7 then 2 ^ (src / 16) else 0)
  else if src < 0x50 then 2 ^ ((src - 0x40) / 4)
  else if src < 0x54 then 2 ^ (src % 4)
  else if 0x94 ≤ src ∧ src < 0x98 then 2 ^ (src % 4)
  else if 0xA8 ≤ src ∧ src < 0xAC then 2 ^ (src % 4)
  else if src = 0xAC ∨ src = 0xAD then (match v with | .qb2048 => 15 | .qb1024 => 3)
  else 0

/-- R38, R39, R391: the default routing word of a source. -/
def routeDefault (v : Variant) (src : Nat) : Nat :=
  let lk := sourceLocked src
  sourceTrip v src * 65536 + sourceNotes src * 4096 + (if src = 0xF4 then 0 else 2048) + sourceSeverity src * 512 +
    (if lk then 256 else 0) + b2n lk

/-- Table 5-6: default of `EkfProcessNoise` for a state; states 12 to 15 have no row (log entry 10). -/
def ekfNoiseDefault (k : Nat) : Int :=
  [0x38D1B717, 0x38D1B717, 0x38D1B717, 0x38D1B717, 0x3A83126F, 0x38D1B717, 0x38D1B717, 0x38D1B717, 0x38D1B717,
   0x3A03126F, 0x3C23D70A, 0x3A83126F].getD k 0

/-- Table 5-6: default of `EkfInitialSigma` for a state. -/
def ekfSigmaDefault (k : Nat) : Int :=
  [0x3C23D70A, 0x3C23D70A, 0x3C23D70A, 0x3C23D70A, 0x3D4CCCCD, 0x3BA3D70A, 0x3BA3D70A, 0x3C23D70A, 0x3C23D70A,
   0x3CA3D70A, 0x40000000, 0x40A00000].getD k 0

/-- Table 1-10: `SramAllocation`, bytes. -/
def sramBytes (k : Nat) : Int := [1048576, 1048576, 4194304, 2097152, 3145728, 262144, 786432].getD k 0

/-- Table 1-11: `FlashAllocation`, bytes. -/
def flashBytes (k : Nat) : Int := [2097152, 2097152, 262144, 262144, 1048576, 1048576, 524288, 65536].getD k 0

/-- R324: the default of an element. -/
def objDefault (v : Variant) (i sub : Nat) : List Int :=
  if i = O.eventRoute then [(routeDefault v sub : Nat)]
  else if i = O.ekfProcessNoise then [ekfNoiseDefault (sub % 16)]
  else if i = O.ekfInitialSigma then [ekfSigmaDefault sub]
  else if i = O.sramAllocation then [sramBytes sub]
  else if i = O.flashAllocation then [flashBytes sub]
  else if i = O.contactorRole then
    [match v with | .qb1024 => (if 6 ≤ sub then 3 else (sub / 3 * 16 + sub % 3 : Nat)) | .qb2048 => (sub / 3 * 16 + sub % 3 : Nat)]
  else if i = O.safetyInputMap ∨ i = O.safeOffState then [match v with | .qb2048 => 15 | .qb1024 => 3]
  else if i = O.deviceVariant then [match v with | .qb2048 => 0x2048 | .qb1024 => 0x1024]
  else match objRow i with | some o => o.dflt | none => []

/-- R320: the key of an element in `State.objs`. -/
def okey (i sub : Nat) : Nat := i * 65536 + sub

/-- R320, R324: the default of the element with a key, which an unlisted key reads as. -/
def keyDefault (v : Variant) (k : Nat) : List Int := objDefault v (k / 65536) (k % 65536)

/-- The stored value of an element, all its members or bytes. -/
def State.el (s : State) (i sub : Nat) : List Int := mget (keyDefault s.variant (okey i sub)) s.objs (okey i sub)

/-- The stored value of a scalar element. -/
def State.gi (s : State) (i sub : Nat) : Int := (s.el i sub).headD 0

/-- The stored value of an unsigned scalar element. -/
def State.gn (s : State) (i sub : Nat) : Nat := (s.gi i sub).toNat

/-- R244: a safety element as the power die's own copy holds it. -/
def State.pn (s : State) (i sub : Nat) : Nat := mget (s.gn i sub) s.pwr.copies (i * 65536 + sub)

/-- A stored BOOL is true. -/
def State.gb (s : State) (i sub : Nat) : Bool := s.gi i sub != 0

/-- Member `k` of a stored REC element. -/
def State.gm (s : State) (i sub k : Nat) : Int := (s.el i sub).getD k 0

/-- Storing a whole element. -/
def State.putL (s : State) (i sub : Nat) (v : List Int) : State :=
  { s with objs := mset (keyDefault s.variant (okey i sub)) s.objs (okey i sub) v }

/-- Storing a scalar element. -/
def State.put (s : State) (i sub : Nat) (v : Int) : State := s.putL i sub [v]

/-- Storing one member of a REC element. -/
def State.putM (s : State) (i sub k : Nat) (v : Int) : State := s.putL i sub ((s.el i sub).set k v)

/-- Counting one in a counter element. -/
def State.bump (s : State) (i sub : Nat) : State := s.put i sub (s.gi i sub + 1)

/-- R324: an element back at its default. -/
def State.undo (s : State) (i sub : Nat) : State := { s with objs := mdel s.objs (okey i sub) }

/-! ### Time -/

/-- R306: local time, µs since power was first applied. -/
def State.mono (s : State) : Nat := s.clk.mono

/-- R29: device time, µs. -/
def State.now (s : State) : Nat := s.clk.now

/-- R306: elapsed time, device time less `TimeStepTotal`. -/
def State.elapsed (s : State) : Nat := s.now - s.gn O.timeStepTotal 0

/-- At least `d` µs of local time have passed since `t`. -/
def State.past (s : State) (t d : Nat) : Bool := decide (t + d ≤ s.clk.mono)

/-- A local time has come. -/
def State.reached (s : State) (t : Nat) : Bool := decide (t ≤ s.clk.mono)

/-- R437, Table 14-3: an activity of background work has completed. -/
def State.ranWork (s : State) (k : Nat) : State := s.put O.backgroundLastRun k (s.now : Nat)

/-! ### Which die runs -/

/-- R396, R404: the compute die is out of reset and its firmware runs. -/
def State.cd (s : State) : Bool := s.pwr.cdUp

/-- R405: in moored-watch and moored-dark the power die runs only its wake logic and the VAUX levels. -/
def State.moored (s : State) : Bool := s.pwr.mooring == .watch || s.pwr.mooring == .dark

/-- R396, R405: the power die is out of reset, and is not moored. -/
def State.pd (s : State) : Bool := s.pwr.pdUp && !s.moored

/-- R396: the compute die runs and its start-up sequence has ended. -/
def State.running (s : State) : Bool := s.pwr.cdUp && s.fw.scanned

/-! ### Events (R37 to R41) -/

/-- R41: the power die's own sources that it keeps while the compute die cannot see them. -/
def sourceKept (src : Nat) : Bool :=
  (0xA0 ≤ src && src ≤ 0xAC) || (0x50 ≤ src && src ≤ 0x5B) || (0x94 ≤ src && src ≤ 0x97) || (0xB0 ≤ src && src ≤ 0xBF) ||
  (0xC0 ≤ src && src ≤ 0xCF) || src == 0xE0

/-- R37, R41: an event becomes active. While the compute die is in reset or the link is lost, the power die keeps the
first activation of each of its kept sources; of other sources nothing remains (their reasons are kept by
`State.keepReason`). -/
def State.raise (s : State) (src inst : Nat) (payload : List Byte := []) : State :=
  if sourceUnused src || !s.hasSource src then s
  else if s.cd && !(sourceKept src && (s.linkC.lost || s.linkP.lost)) then
    { s with ev := { s.ev with
      pending := s.ev.pending ++ [{ src := src, inst := inst, payload := payload, time := s.now, at' := s.mono }] } }
  else if sourceKept src && s.pwr.pdUp && !mhas s.pwr.kept src then
    { s with pwr := { s.pwr with kept := mins s.pwr.kept src inst } }
  else s

/-- R443: how far a wrapping tally index `b` lies after `a`. -/
def tallyDiff (a b : Nat) : Nat := (b + 2 ^ 32 - a) % 2 ^ 32

/-- R443: `b` is at least `n` tallies after `a`, and not older. -/
def tallyLater (n a b : Nat) : Bool := decide (n ≤ tallyDiff a b) && decide (tallyDiff a b < 2 ^ 31)

/-- R41: an activation that is evaluated after those of the next evaluation. -/
def State.raiseLater (s : State) (src inst : Nat) : State :=
  if sourceUnused src || !s.hasSource src then s
  else { s with ev := { s.ev with later := s.ev.later ++ [{ src := src, inst := inst, time := s.now, at' := s.mono }] } }

/-- R41: the reason for an event that the compute die could not see, kept by the power die. -/
def State.keepReason (s : State) (src inst : Nat) : State :=
  { s with pwr := { s.pwr with reasons := s.pwr.reasons ++ [(src, inst)] } }

/-- R38, R39, R223: the routing word in force of a source; 0xA0 to 0xA7 trip the strings of the pair's map. -/
def State.route (s : State) (src : Nat) : Nat :=
  let w := s.gn O.eventRoute src
  if 0xA0 ≤ src ∧ src < 0xA8 then w % 65536 + (s.gn O.safetyInputMap (src % 4)) % 16 * 65536 else w

/-! ### Latched activations (R40, Table 1-9) -/

/-- R40: a source becomes active until acknowledged; an active one keeps its first activation. -/
def State.latch (s : State) (l : Latch) : State :=
  if s.ev.latched.any fun x => x.src == l.src then s
  else { s with ev := { s.ev with latched := (l :: s.ev.latched).mergeSort fun a b => decide (a.src ≤ b.src) } }

/-- R40: the TRIP field with which a latched activation was routed. -/
def Latch.trip (l : Latch) : Nat := bits l.word 19 16

/-- R193, R314: the latched activations that `p` names are acknowledged. -/
def State.unlatch (s : State) (p : Latch → Bool) : State :=
  { s with ev := { s.ev with latched := s.ev.latched.filter fun l => !p l } }

/-! ### The inter-die link's messages (R31, Table 1-6) -/

/-- R31: the power die has a message to send. -/
def State.sayP (s : State) (cls content : Nat) : State :=
  { s with linkP := { s.linkP with waiting := s.linkP.waiting ++ [{ cls := cls, content := content }] } }

/-- R31: the compute die has a message to send. -/
def State.sayC (s : State) (cls content : Nat) : State :=
  { s with linkC := { s.linkC with waiting := s.linkC.waiting ++ [{ cls := cls, content := content }] } }

/-- R14: a request discarded, and reported to the compute die as refused. -/
def State.refuseOut (s : State) (r : OutReq) : State :=
  State.sayP { s with refused := s.refused ++ [r] } 4 (4 * (s.refused.length + 1))

/-- R19, R31, Table 1-6: the number of the frame that carries the output command queued last: the frames sent so far, and
every one that goes ahead of it or is it. -/
def State.commandFrame (s : State) : Nat :=
  let l := s.linkC
  l.frames + l.requests.length + l.resend.length + (l.waiting.filter fun m => decide (m.cls ≤ 2)).length

/-- R19: an earlier request was carried by the frame of the command queued last or by a consecutive one; consecutive frames
start at most 10 µs apart (R32). -/
def State.nearFrame (s : State) (o : Option (Nat × Nat)) : Bool :=
  match o with
  | some (j, t) => decide (j ≤ s.commandFrame + 1) && decide (s.commandFrame ≤ j + 1) && decide (s.mono ≤ t + 10)
  | none => false

/-! ### Flash and journal -/

/-- R45: the flash controller may start a program or an erase. -/
def State.flashOk (s : State) : Bool := decide (16000 ≤ s.pwr.vauxMv) && !s.pwr.warning

/-- R46: sectors of an area of `FlashAllocation` are replaced from the wear reserve of 240 sectors, each with its 0xF2. -/
def State.replaceSectors (s : State) (area n : Nat) : State :=
  forEach (List.range n) s fun s _ =>
    State.raise { s with flash := { s.flash with reserveUsed := min 240 (s.flash.reserveUsed + 1) } } 0xF2 area

/-- Table 1-11: sectors of 4 KiB in an erase unit (see `Flash.erases`). -/
def eraseSectors (unit : Nat) : Nat :=
  if unit < 32 then 512 else if unit < 64 then 64 else if unit < 96 then 256 else 16

/-- R46: the sectors of a unit of `n` sectors that have reached 100,000 erases (a replaced one starts anew) once `t` sector
erases have been done in rotation. -/
def wornOut (n t : Nat) : Nat :=
  let u := t + n
  let round := 100000 * n
  if u < round then 0 else n * (u / round - 1) + min (u % round) n

/-- R46: `n` sector erases in a unit; its sectors are erased in rotation, so that they wear evenly (DEDUCED, log entry
104). A sector that reaches 100,000 erases is replaced and raises 0xF2, and so is one that fails to erase: how many of them
do is a free value (log entry 144). -/
def State.erase (s : State) (unit n : Nat) : State :=
  if n = 0 then s else
  let t := mget 0 s.flash.erases unit
  let k := eraseSectors unit
  State.replaceSectors { s with flash := { s.flash with erases := mset 0 s.flash.erases unit (t + n) } } (unit / 16)
    (wornOut k (t + n) - wornOut k t + min n (Config.eraseFailures unit t))

/-- R46: a whole unit erased. -/
def State.eraseAll (s : State) (unit : Nat) : State := s.erase unit (eraseSectors unit)

/-- Table 13-10a, R419: the configuration slots, the journal's ring, the log pages and the model tables erased. -/
def State.eraseAreas (s : State) : State := forEach ([32, 48, 64, 80] ++ (List.range 8).map fun k => 96 + k) s State.eraseAll

/-- R409: the bytes that a record takes in the ring, from one 16-byte boundary to the next. -/
def journalBytes (payload : List Byte) : Nat := (payload.length + 28 + 15) / 16 * 16

/-- R409, Table 13-6: the bytes of a record of a kind and instance, 0xFF up to the next 16-byte boundary. -/
def JRec.bytes (r : JRec) (kind inst : Nat) : List Byte :=
  let body := le 4 0x314A4251 ++ le 1 kind ++ le 1 inst ++ le 2 0 ++ le 4 (r.payload.length + 28) ++ le 4 r.seq ++ le 8 r.time ++ r.payload
  body ++ le 4 (crc32 body) ++ List.replicate (journalBytes r.payload - r.payload.length - 28) 0xFF#8

/-- R410: a record appended, with the next sequence; each sector that it enters is erased first (R46). -/
def State.journalPut (s : State) (key : Nat) (payload : List Byte) : State :=
  let old := mget ({}, none) s.flash.journal key
  let new : JRec := { seq := s.flash.jseq + 1, time := s.now, payload := payload, start := s.flash.jbytes }
  let b := s.flash.jbytes + journalBytes payload
  let sectors := (b + 4095) / 4096 - (s.flash.jbytes + 4095) / 4096
  State.erase { s with flash := { s.flash with
    jseq := s.flash.jseq + 1,
    journal := mins s.flash.journal key (new, if old.1.seq = 0 then none else some old.1),
    jbytes := b } } 64 sectors

/-- R410: a kind and instance whose newest record, or the one before it, lies in a sector of the ring's 256 that the next `n`
bytes take. -/
def State.journalDoomed (s : State) (n : Nat) : Option Nat :=
  let gone (r : JRec) : Bool := decide (r.start / 4096 + 256 ≤ (s.flash.jbytes + n - 1) / 4096)
  (s.flash.journal.find? fun e => gone e.2.1 || (match e.2.2 with | some r => gone r | none => false)).map fun e => e.1

/-- R410: the two newest records of a kind and instance copied to the end of the journal, in their order (log entry 169). -/
def State.journalMove (s : State) (key : Nat) : State :=
  let e := mget ({}, none) s.flash.journal key
  let t := match e.2 with | some r => s.journalPut key r.payload | none => s
  let t := t.journalPut key e.1.payload
  if e.2.isSome then t else { t with flash := { t.flash with journal := mins t.flash.journal key ((mget ({}, none) t.flash.journal key).1, none) } }

/-- R410: what the next `n` bytes would erase is relocated first. -/
def State.journalRoom (s : State) (n : Nat) : Nat → State
  | 0 => s
  | k + 1 => match s.journalDoomed n with
    | none => s
    | some key => (s.journalMove key).journalRoom n k

/-- R409, R410: a record of a kind and instance committed to the journal. `worn` says that its sector failed to erase and was
replaced from the wear reserve, which raises 0xF2 with element 4. -/
def State.journal (s : State) (kind inst : Nat) (payload : List Byte) (worn : Bool := false) : State :=
  (State.journalPut (s.journalRoom (journalBytes payload) 32) (kind * 8 + inst) payload).replaceSectors 4 (b2n worn)

/-- R409: the newest valid record of a kind and instance. -/
def State.journalRec (s : State) (kind inst : Nat) : Option JRec :=
  match s.flash.journal.find? (fun p => p.1 == kind * 8 + inst) with | some p => some p.2.1 | none => none

/-! ### Cells, strings and rings -/

/-- R12: the ring of a global cell number. -/
def cellRing (c : Nat) : Nat := c / 512

/-- R97: key of a monitor. -/
def monKey (r p : Nat) : Nat := r * 32 + p

/-- R48: N, monitors on a ring. -/
def State.nMon (s : State) (r : Nat) : Nat := s.gn O.manifestModuleCount r

/-- Manifest: channels of a module, ascending. -/
def State.channels (s : State) (r p : Nat) : List Nat :=
  (List.range 18).filter fun c => bit (s.gm O.manifestModule (monKey r p) 1).toNat c

/-- R332: global cell of a channel of a module. -/
def State.cellOf (s : State) (r p c : Nat) : Nat := (s.gm O.manifestModule (monKey r p) 4).toNat + c

/-- R183, Table 6-1: the drivers that serve a string in a role: 0 positive main, 1 negative main, 2 pre-charge. -/
def State.driversOf (s : State) (n role : Nat) : List Nat :=
  (List.range 12).filter fun d =>
    bits (s.gn O.contactorRole d) 5 4 == n && bits (s.gn O.contactorRole d) 1 0 == role

/-- R183: the drivers that serve a string in any role. -/
def State.stringDrivers (s : State) (n : Nat) : List Nat :=
  (List.range 12).filter fun d =>
    bits (s.gn O.contactorRole d) 5 4 == n && bits (s.gn O.contactorRole d) 1 0 != 3

/-- R183, R244: the string a driver serves, by the power die's copy of its role. -/
def State.stringOf (s : State) (d : Nat) : Nat := bits (s.pn O.contactorRole d) 5 4

/-- R192, R220: the drivers whose STRING is `n`, whatever their ROLE, by the power die's copies. -/
def State.driversIn (s : State) (n : Nat) : List Nat := (List.range 12).filter fun d => s.stringOf d == n

/-- R322: every string is open. -/
def State.allOpen (s : State) : Bool :=
  (List.range 4).all fun n => [0, 9, 10, 11].contains (s.gn O.stringContactorState n)

/-- R14, R32, R33: the power die trusts the compute die and the link is up. -/
def State.trusts (s : State) : Bool := s.wd.trusted && !s.linkP.lost

/-- R32: frames pass between the dies. -/
def State.dieLink (s : State) : Bool := !s.linkC.lost && !s.linkP.lost

/-- R352: the claim once nothing is held: released, or lockout, which lasts until the next power-die reset. -/
def Duplex.atRest (d : Duplex) : Claim := if d.claim = .lockout then .lockout else .released

/-- R352: the outputs are held after a withdrawal. -/
def State.holds (s : State) : Bool := s.dup.claim == .holding || s.dup.lockHolding

/-- R357: TRIP fields of the routing words act: at a single device, at the holder of the berth, and while the outputs are held
(R355). -/
def State.tripsCount (s : State) : Bool := decide (s.dup.mode = 0) || s.dup.out || s.holds

/-- R362: the power die has accepted an output command. -/
def State.outputDone (s : State) : State := { s with dup := { s.dup with acted := true } }

/-- R14, R348: in a duplex system its own claim is asserted and the partner's is not; in a single-device system always. -/
def State.berthOk (s : State) : Bool :=
  if s.dup.mode = 0 then true else s.dup.out && !s.dup.berthIn

/-- R355, R357: the outputs are the device's own: in a single-device system, with its claim asserted, while it holds what it had,
and with its fail-safe states applied. -/
def State.ownsOutputs (s : State) : Bool :=
  s.dup.mode == 0 || s.dup.out || s.dup.claim == .holding || s.dup.lockHolding || s.wd.failSafe

/-- R355: off-pulses and off-state checks may run: not while holding, nor until 10 ms after the release that follows a
withdrawal or a claim. -/
def State.pulsesOk (s : State) : Bool :=
  s.dup.mode == 0 || (!s.holds && s.past s.dup.quietAt 10000)

/-- R376: a source that the power die's own action calls for: raised, or its reason kept for the next start. -/
def State.tell (s : State) (src inst : Nat) : State := if s.cd then s.raise src inst else s.keepReason src inst

/-- R452, R472: VAUX is measured; the compute die publishes what it reads in this run. -/
def State.readVaux (s : State) (mv : Nat) : State :=
  let s : State := { s with pwr := { s.pwr with vauxMv := mv } }
  if s.cd then s.put O.vauxVoltage 0 (mv : Nat) else s

end Sys2Proof.Machine
end

