-- ==== Sys2Proof/Machine/Flags.lean ====
section
/-! DEFINITION. Sys2Proof/Machine/Flags.lean: the status words the manual computes from the state: driver, load-switch,
motor, brake and safety words, life-cycle, device status, close blocks, protection levels, berth state. -/

namespace Sys2Proof.Machine

/-- A word from its bits, least significant first. -/
def word : List Bool → Nat
  | [] => 0
  | b :: bs => b2n b + 2 * word bs

/-- Table 15-7: the level of `ETH_PHY_RST_N`: low while the compute die is in reset and for 10 ms after its release. -/
def State.ethPhyRstN (s : State) : Bool := s.cd && s.past s.pwr.cdSince 10000

/-- R187: a coil flag of Table 6-3 is set. -/
def Driver.coilFlag (d : Driver) : Bool := d.openCoil || d.shortHs || d.shortLs || d.regulation || d.overtemp

/-- Table 6-4: `ContactorStatus`. -/
def Driver.status (d : Driver) : Nat :=
  word [d.energised, d.hold, d.openCoil, d.shortHs, d.shortLs, d.regulation, d.overtemp, d.failsafe]

/-- `ContactorStatus` of a driver: a standby reads ENERGISED and HOLD as the holder's MIRROR gave them (R362). -/
def State.driverStatus (s : State) (d : Nat) : Nat :=
  let own := (s.drv d).status
  match s.dup.shadow with
  | some m =>
    if s.dup.mode = 0 || s.dup.claim != .released then own
    else
      let v := m.drivers.getD d {}
      own / 4 * 4 + word [v.energised, v.hold]
  | none => own

/-- Table 8-2: `LoadSwitchStatus`. -/
def LoadSw.status (l : LoadSw) : Nat :=
  word [l.on, l.mode != 0, l.onOpen, l.offOpen, l.offShort, l.limiting, l.overcurrent, l.latch, l.retryPending,
        l.lockedOff, l.shedGov || l.shedBrown, l.shedThermal, l.failsafe]

/-- Table 8-5: `MotorStatus`. -/
def Motor.status (m : Motor) : Nat :=
  word [false, false, m.vmotCoast, m.gateUv, m.decelHeld, m.currentLimit, m.vdsTrip, m.latch, m.retryPending,
        m.lockedOff, m.shed, m.shedThermal, m.failsafe] + m.st * 8192

/-- Table 8-6a: `BrakeStatus`; HOLD is VMOT above `VmotRampHoldLevel`, without the 1 V of R274. -/
def State.brakeStatus (s : State) : Nat :=
  word [decide (s.gn O.vmotRampHoldLevel 0 < s.gn O.vmotVoltage 0), s.vmot.brakeOn, s.vmot.faulty, s.vmot.absLimit]

/-- Table 7-9, R223: `SafetyInputState`: SIA and SIB, STATE in bits 3 to 2, SAFE_OFF and SELFTEST_FAIL; an unused pair
reads run, SAFE_OFF 0 and SELFTEST_FAIL 0. -/
def State.pairStatus (s : State) (p : Nat) : Nat :=
  let q := s.pair p
  if s.pn O.safetyInputMap p = 0 then word [q.a, q.b]
  else word [q.a, q.b] + 4 * q.st + 16 * word [q.safeOff, q.selfTestFail]

/-- R224, R226, R229: safe-off is asserted for string `n`. -/
def State.safeOff (s : State) (n : Nat) : Bool :=
  s.ev.oscBad || (List.range 4).any fun p => (s.pair p).safeOff && bit (s.pn O.safetyInputMap p) n

/-- R223: the pair is used: its map names a string. -/
def State.pairUsed (s : State) (p : Nat) : Bool := s.pn O.safetyInputMap p != 0

/-- R246: a pair whose map names the string is in a state other than run. -/
def State.demand (s : State) (n : Nat) : Bool :=
  (List.range 4).any fun p => (s.pair p).st != 0 && bit (s.pn O.safetyInputMap p) n

/-- `SafeOffState`. -/
def State.safeOffWord (s : State) : Nat := word ((List.range s.nStrings).map fun n => s.safeOff n)

/-- R413: 0 BLANK, 1 COMMISSIONING, 2 IN SERVICE, 3 MAINTENANCE, 4 RETIRED. -/
def State.lifecycle (s : State) : Nat :=
  if s.otp.retired then 4 else if !s.otp.commissioned then 0 else s.fw.lifecycle.getD 2

/-- R329: some manifest ring is waking or enumerating. -/
def State.enumerating (s : State) : Bool :=
  s.strings.any fun n => s.gn O.manifestModuleCount n != 0 && [1, 2].contains (s.gn O.chainRingState n)

/-- Table 10-4: the device is entering a moored mode. -/
def State.mooring (s : State) : Bool := s.pwr.mooring == .enterWatch || s.pwr.mooring == .enterDark

/-- R404, R420: every output is off, whatever its command and its fail-safe state: during moored entry and in RETIRED. -/
def State.quiet (s : State) : Bool := s.mooring || s.otp.retired

/-- R329: READY. -/
def State.ready (s : State) : Bool :=
  s.cd && !s.fw.startup && !s.fw.noManifest && !s.enumerating && !s.mooring && s.lifecycle != 4

/-- R358: 0 single device, 1 starting, 2 holder, 3 standby armed, 4 standby not armed, 5 lockout. -/
def State.berthState (s : State) : Nat :=
  if s.dup.mode = 0 then 0 else if !s.running || s.fw.startup then 1
  else match s.dup.claim with
    | .lockout => 5
    | .held => 2
    | _ => if s.dup.armed then 3 else 4

/-- Table 10-4 AUTHORITY: single device once READY; in a pair, the berth is held. -/
def State.authority (s : State) : Bool := if s.dup.mode = 0 then s.ready else s.berthState == 2

/-- The string is in the manifest. -/
def State.inManifest (s : State) (n : Nat) : Bool := s.has n && s.gn O.manifestModuleCount n != 0

/-- R205: state of the contactor sequence. -/
def State.seqState (s : State) (n : Nat) : Nat := s.gn O.stringContactorState n

/-- R195: a requested-open cause other than 0 is present. -/
def State.causePresent (s : State) (n : Nat) : Bool :=
  !(s.str n).causes.isEmpty || (match (s.str n).cause3Until with | some t => decide (s.mono < t) | none => false)

/-- R183: the string has exactly one driver in each role. -/
def State.rolesOk (s : State) (n : Nat) : Bool := [0, 1, 2].all fun r => (s.driversOf n r).length == 1

/-- Table 6-9: `CloseBlockReason`. -/
def State.closeBlock (s : State) (n : Nat) : Nat :=
  let st := s.seqState n
  word [!s.ready, !([1, 2, 3].contains s.lifecycle), st == 9, st == 10, st == 11,
    (List.range (s.gn O.manifestModuleCount n)).any fun p => s.gn O.moduleAuthState (monKey n p) != 1,
    s.safeOff n || s.demand n,
    !([3, 4].contains (s.gn O.chainRingState n)),
    !([1, 2].contains (s.gn O.estimatorStringState n)),
    (s.driversIn n).any fun d => (s.drv d).coilFlag,
    s.dup.mode != 0 && s.berthState != 2,
    !s.rolesOk n,
    (s.str n).cooldownEnd.isSome,
    s.causePresent n]

/-- R190, Table 6-5: `ProtectionLevel`. -/
def State.level (s : State) (n : Nat) : Nat :=
  let st := s.seqState n
  if [9, 10, 11].contains st then 4
  else if [7, 8].contains st || s.causePresent n then 3
  else if !(s.str n).derate.isEmpty then 2
  else if (s.str n).overCharge.isSome || (s.str n).overDischarge.isSome then 1 else 0

/-- Table 10-4 ANY_TRIPPED. -/
def State.anyTripped (s : State) : Bool := s.strings.any fun n => [9, 10, 11].contains (s.seqState n)

/-- Table 9-12, R303, R305: `TimeFlags`. -/
def State.timeFlags (s : State) : Nat := word [s.clk.everSynced, s.clk.resumed, s.clk.ahead]

end Sys2Proof.Machine
end

