-- ==== Sys2Proof/Machine/Log.lean ====
section
/-! DEFINITION. Sys2Proof/Machine/Log.lean: the harbour log (chapter 12): the open record, the token buckets, staging,
pages and reclaim, internal records, flush and scan, and the meanings of the log's own commands. -/

namespace Sys2Proof.Machine

/-- Table 1-8: the high byte of the event code of a source. -/
def codeHigh (src : Nat) : Nat :=
  if src < 0x40 then 0x40 else if src < 0x50 then 0x41 else if src < 0x60 then 0x42 else if src < 0x80 then 0x50
  else if src < 0xA0 then 0x60 else if src < 0xB0 then 0x61 else if src < 0xC0 then 0x70 else if src < 0xD0 then 0x78
  else if src < 0xE0 then 0x80 else if src < 0xF0 then 0xB0 else 0xB1

/-- R379: the event code of a source. -/
def eventCode (src : Nat) : Nat := codeHigh src * 256 + src

/-- Table 12-1: LEN of a record, in units of 4 bytes. -/
def LogRec.units (r : LogRec) : Nat := (28 + r.payload.length + 3) / 4

/-- Table 12-2: the FLAGS byte. -/
def LogRec.flags (r : LogRec) : Nat := b2n r.internal * 16 + b2n r.latch * 8 + b2n r.trip * 4 + r.sev % 4

/-- R378, Table 12-1: the bytes of a record. -/
def LogRec.bytes (r : LogRec) : List Byte :=
  let body := [0xA5#8] ++ le 1 r.units ++ le 1 r.flags ++ le 1 r.payload.length ++ le 4 r.seq ++ le 8 r.time ++
    le 2 r.code ++ le 2 r.source ++ le 2 r.repeat' ++ le 2 r.last ++ r.payload ++
    List.replicate (4 * r.units - 28 - r.payload.length) 0
  body ++ le 4 (crc32 body)

/-- R384: bytes that staging holds. -/
def Log.staged (l : Log) : Nat := l.staging.foldl (fun n r => n + 4 * r.units) 0

/-- R384: a sealed record enters staging (256 KiB, Table 1-10); one that finds it full is dropped and counted. -/
def State.logStage (s : State) (r : LogRec) : State :=
  if s.log.staged + 4 * r.units ≤ 262144 then
    { s with log := { s.log with staging := s.log.staging ++ [r] } }
  else
    let d := s.log.dropStaging
    let s := { s with log := { s.log with dropStaging := (d.1 + 1, if d.1 = 0 then r.time else d.2) } }
    s.bump O.logDroppedCount 1

/-- R381: the open record is sealed. -/
def State.logSeal (s : State) : State :=
  match s.log.open' with
  | none => s
  | some r => State.logStage { s with log := { s.log with open' := none } } r

/-- R381, R387: the next sequence, passed to the power die. -/
def State.logSeq (s : State) : State × Nat :=
  let q := s.log.nextSeq
  ({ s with log := { s.log with nextSeq := q + 1 }, pwr := { s.pwr with logSeq := q } }, q)

/-- R380, R391: an internal record, which seals the open record and raises 0xF4. -/
def State.logInternal (s : State) (code sev : Nat) (payload : List Byte) : State :=
  let s := s.logSeal
  let (s, q) := s.logSeq
  let w := s.route 0xF4
  let s := s.logStage {
    seq := q, time := s.now, code := code, source := 0xF4 + code % 256 * 256, sev := sev, latch := bit w 8,
    trip := decide (bits w 19 16 ≠ 0), internal := true, payload := payload, opened := s.mono }
  { s with ev := { s.ev with pending := s.ev.pending ++
      [{ src := 0xF4, inst := code % 256, payload := payload, time := s.now, at' := s.mono, note := some (code, sev, q) }] } }

/-- R382: tokens gained since they were last counted. -/
def refill (cap period tokens at' now : Nat) : Nat × Nat :=
  let n := (now - at') / period
  (if cap < tokens + n then cap else tokens + n, at' + n * period)

/-- R382: both buckets brought to now. -/
def State.logRefill (s : State) : State :=
  let i := refill 3000 250000 s.log.info s.log.infoAt s.mono
  let c := refill 600 1000000 s.log.crit s.log.critAt s.mono
  { s with log := { s.log with info := i.1, infoAt := i.2, crit := c.1, critAt := c.2 } }

/-- R382: a token for a severity is taken; none where the bucket is empty. -/
def State.logToken (s : State) (sev : Nat) : Option State :=
  let s := s.logRefill
  if sev < 2 then
    if s.log.info = 0 then none else some { s with log := { s.log with info := s.log.info - 1 } }
  else
    if s.log.crit = 0 then none else some { s with log := { s.log with crit := s.log.crit - 1 } }

/-- R382: an activation that found its bucket empty is counted. -/
def State.logSuppress (s : State) (sev : Nat) : State :=
  let s := s.logRefill
  let fresh := s.log.supp.all (· == 0)
  let late := s.log.suppAt = 0 || s.past s.log.suppAt 60000000
  let s := { s with log := { s.log with
    supp := s.log.supp.set sev (s.log.supp.getD sev 0 + 1),
    suppFirst := if fresh then s.now else s.log.suppFirst,
    suppAt := if fresh && late then s.mono else s.log.suppAt } }
  s.bump O.logSuppressedCount sev

/-- R381: an activation at a local time is identical to the open record. -/
def State.logSame (s : State) (code source at' : Nat) : Option LogRec :=
  match s.log.open' with
  | none => none
  | some r => if r.code = code ∧ r.source = source ∧ at' < r.opened + 10000000 then some r else none

/-- R381, R382, R387: a logged activation; TIME and LAST are those of the activation, whenever it is evaluated. The answer carries
the sequence of the record that counts it, 0 where it was suppressed. -/
def State.logActivation (s : State) (a : Act) (word : Nat) : State × Nat :=
  let code := eventCode a.src
  let source := a.src + a.inst % 256 * 256
  match s.logSame code source a.at' with
  | some r =>
    let r' := { r with repeat' := r.repeat' + 1, last := (a.at' - r.opened) / 1000 }
    let s := { s with log := { s.log with open' := some r' } }
    (if r'.repeat' = 65535 then s.logSeal else s, r.seq)
  | none =>
    let s := s.logSeal
    let sev := bits word 10 9
    match s.logToken sev with
    | none => (s.logSuppress sev, 0)
    | some s =>
      let (s, q) := s.logSeq
      let r : LogRec := {
        seq := q, time := a.time, code := code, source := source, sev := sev, latch := bit word 8,
        trip := decide (bits word 19 16 ≠ 0), payload := a.payload.take 228, opened := a.at' }
      ({ s with log := { s.log with open' := some r } }, q)

/-! ### Pages -/

/-- R383: bytes of records in a page. -/
def LogPage.used (p : LogPage) : Nat := p.recs.foldl (fun n r => n + 4 * r.units) 0

/-- R383, Table 12-4: the bytes of a page: the header with its CRC, the records back to back, 0xFF where nothing is written. -/
def LogPage.bytes (p : LogPage) : List Byte :=
  let head := le 4 0x31484251 ++ le 4 p.gen ++ le 4 p.first
  head ++ le 4 (crc32 head) ++ p.recs.flatMap LogRec.bytes ++ List.replicate (4080 - p.used) 0xFF#8

/-- R385: highest severity of a page's records. -/
def LogPage.severity (p : LogPage) : Nat := p.recs.foldl (fun n r => max n r.sev) 0

/-- R387, R390: a page that is superseded or damaged. -/
def State.logStale (s : State) (p : LogPage) : Bool := p.damaged || decide (p.gen < s.log.gen)

/-- R384, R385: the page that a record of a severity opens: an erased page, then a superseded page, then the page to be
reclaimed. Among several erased or superseded pages the lowest number: DESIGN CHOICE, log entry 11. -/
def State.logNewPage (s : State) (sev : Nat) : Option (Nat × Option LogPage) :=
  match (List.range 256).find? (fun k => !mhas s.log.pages k) with
  | some k => some (k, none)
  | none =>
    match s.log.pages.find? (fun p => s.logStale p.2 && s.log.current != some p.1) with
    | some p => some (p.1, none)
    | none =>
      let c := s.log.pages.filter fun p => s.log.current != some p.1 && decide (p.2.severity ≤ sev)
      match c with
      | [] => none
      | p :: ps =>
        let b := ps.foldl (fun b q => if q.2.first < b.2.first then q else b) p
        some (b.1, some b.2)

/-- R385: the record that waits is dropped. -/
def State.logDrop (s : State) (r : LogRec) : State :=
  let d := s.log.dropFull
  let s := { s with log := { s.log with dropFull := (d.1 + 1, if d.1 = 0 then r.time else d.2) } }
  s.bump O.logDroppedCount 0

/-- R385: 0xB203 after a reclaimed page that held warning or critical records; every reclaimed page is counted. -/
def State.logReclaimed (s : State) (p : LogPage) : State :=
  let s := s.bump O.logReclaimedPages 0
  if p.severity < 2 then s
  else s.logInternal 0xB203 p.severity (le 4 p.first ++ le 4 ((p.recs.getLastD {}).seq) ++ le 2 p.recs.length)

/-- R385: 0xB204 for the drops of each reason since the last one. -/
def State.logDropReport (s : State) : State :=
  let a := s.log.dropFull
  let s := if a.1 = 0 then s else
    State.logInternal { s with log := { s.log with dropFull := (0, 0) } } 0xB204 2 (le 1 0 ++ le 4 a.1 ++ le 8 a.2)
  let b := s.log.dropStaging
  if b.1 = 0 then s else
    State.logInternal { s with log := { s.log with dropStaging := (0, 0) } } 0xB204 2 (le 1 1 ++ le 4 b.1 ++ le 8 b.2)

/-- R384, R385: a record programmed into a new page. -/
def State.logOpenPage (s : State) (r : LogRec) : State :=
  match s.logNewPage r.sev with
  | none => s.logDrop r
  | some (k, old) =>
    let s := if mhas s.log.pages k then s.erase 80 1 else s
    let s := { s with log := { s.log with
      current := some k,
      pages := mins s.log.pages k { gen := s.log.gen, first := r.seq, recs := [r] } } }
    let s := match old with | none => s | some p => s.logReclaimed p
    s.logDropReport

/-- R384: the read-back of a page's newest record fails: the page is closed and its sector replaced (R46, element 5). -/
def State.logBadPage (s : State) (k : Nat) : State :=
  let p := mget {} s.log.pages k
  State.replaceSectors { s with log := { s.log with
    failing := s.log.failing.erase k, pages := mins s.log.pages k { p with recs := p.recs.dropLast, closed := true } } } 5 1

/-- R384: the newest record of the current page is that record, and the page does not read back. -/
def State.logUnread (s : State) (r : LogRec) : Option Nat :=
  s.log.current.filter fun k => s.log.failing.contains k && ((mget {} s.log.pages k).recs.getLastD {}).seq == r.seq

/-- R384: a record is read back; as long as that fails, it is programmed again in a new page. -/
def State.logReadBack : Nat → State → LogRec → State
  | 0, s, _ => s
  | f + 1, s, r => match s.logUnread r with
    | none => s
    | some k => State.logReadBack f ((s.logBadPage k).logOpenPage r) r

/-- R384: see `State.logReadBack`; every page fails at most once. -/
def State.logVerify (s : State) (r : LogRec) : State := State.logReadBack s.log.failing.length s r

/-- R384: a record programmed into the current page, or a new one, with its read-back. -/
def State.logProgramRec (s : State) (r : LogRec) : State :=
  match s.log.current with
  | none => (s.logOpenPage r).logVerify r
  | some k =>
    let p := mget {} s.log.pages k
    if p.closed || decide (4080 < p.used + 4 * r.units) then (s.logOpenPage r).logVerify r
    else
      (State.logDropReport { s with log := { s.log with
        pages := mins s.log.pages k { p with recs := p.recs ++ [r] } } }).logVerify r

/-- R384: staged records programmed in ascending sequence, at most `fuel` of them. -/
def State.logProgramN (fuel : Nat) (s : State) : State :=
  match fuel, s.log.staging with
  | 0, _ => s
  | _, [] => s
  | f + 1, r :: rs => State.logProgramN f (State.logProgramRec { s with log := { s.log with staging := rs } } r)

/-- R384: every staged record programmed, those that programming itself adds included. -/
def State.logProgramAll (s : State) : State := State.logProgramN (2 * s.log.staging.length + 8) s

/-- R384, R45: `State.logProgramAll` where a flash operation may start. -/
def State.logProgramNow (s : State) : State := if s.flashOk then s.logProgramAll else s

/-- R386: seal, program every staged record while R45 permits, then 0xB206 with its reason. -/
def State.logFlush (s : State) (reason : Nat) : State :=
  let s := s.logSeal.logProgramNow
  (s.logInternal 0xB206 1 (le 1 reason ++ le 2 s.pwr.vauxMv)).logProgramNow

/-- R392, R387: the records present, flash and staging, in ascending sequence (pages of the log's generation only). -/
def State.logRecords (s : State) : List LogRec :=
  let ps := (s.log.pages.filter fun p => !s.logStale p.2).map (·.2)
  (ps.mergeSort (fun a b => decide (a.first ≤ b.first))).flatMap (·.recs) ++ s.log.staging

/-- `LogOldestSequence`. -/
def State.logOldest (s : State) : Nat := match s.logRecords with | [] => 0 | r :: _ => r.seq

/-- `LogNewestSequence`: newest sealed. -/
def State.logNewest (s : State) : Nat := (s.logRecords.getLastD {}).seq

/-- R390: the confirmation code. -/
def State.logClearCode (s : State) : Nat := crc32 (le 4 s.log.gen ++ le 4 s.logOldest)

/-- R390: the accepted clear: seal, new generation, 0xB201 as the first record of a new page, the rest superseded. -/
def State.logClearRun (s : State) (node link : Nat) : State :=
  let s := s.logSeal
  let oldest := s.logOldest
  let newest := s.logNewest
  let count := s.logRecords.length
  let pick : Nat := match (List.range 256).find? (fun k => !mhas s.log.pages k) with
    | some k => k
    | none => match s.log.pages with
      | [] => 0
      | p :: ps => (ps.foldl (fun b q => if q.2.first < b.2.first then q else b) p).1
  let s := { s with log := { s.log with gen := s.log.gen + 1, staging := [], current := none } }
  let s := s.logInternal 0xB201 3 (le 4 oldest ++ le 4 newest ++ le 4 count ++ le 1 node ++ le 1 link)
  let s := if mhas s.log.pages pick then s.erase 80 1 else s
  match s.log.staging with
  | r :: rs => (State.logDropReport { s with log := { s.log with
      staging := rs, current := some pick,
      pages := mins s.log.pages pick { gen := s.log.gen, first := r.seq, recs := [r] } } }).logVerify r
  | [] => s

/-- R387: the records of a page that end at or before an offset. -/
def recsBefore (off : Nat) : Nat → List LogRec → List LogRec
  | _, [] => []
  | at', r :: rs => if at' + 4 * r.units ≤ off then r :: recsBefore off (at' + 4 * r.units) rs else []

/-- R387: a page as the scan reads it where it is bad at an offset: at 0 its header, else the record that ends the page. -/
def LogPage.cut (p : LogPage) (off : Nat) : LogPage :=
  if off = 0 then { p with recs := [], damaged := true, badAt := some 0 }
  else { p with recs := recsBefore off 16 p.recs, closed := true, badAt := some off }

/-- R387: the page that the writer goes on with: the newest live one, unless it is closed (DEDUCED, log entry 138). -/
def State.scannedPage (s : State) : Option Nat :=
  match s.log.pages.filter fun p => !s.logStale p.2 with
  | [] => none
  | p :: ps =>
    let b := ps.foldl (fun b q => if b.2.first < q.2.first then q else b) p
    if b.2.closed then none else some b.1

/-- R387: the scan at a compute-die start. `powerOn` says that the power die was in reset too; `torn` gives the pages that have
become bad, each with the offset; a page is reported at every scan until it is erased. -/
def State.logScan (s : State) (powerOn : Bool) (torn : List (Nat × Nat)) : State :=
  let bad := torn.filter fun e => mhas s.log.pages e.1
  let s := forEach bad s fun s e =>
    { s with log := { s.log with pages := mins s.log.pages e.1 ((mget {} s.log.pages e.1).cut e.2) } }
  let g := s.log.pages.foldl (fun n p => if p.2.damaged then n else max n p.2.gen) 0
  let s := { s with log := { s.log with gen := g } }
  let live := s.log.pages.filter fun p => !s.logStale p.2
  let newest := live.foldl (fun (b : LogRec) p => p.2.recs.foldl (fun b r => if b.seq < r.seq then r else b) b) {}
  let kept := s.pwr.logSeq
  let s := { s with log := { s.log with nextSeq := max kept newest.seq + 1, current := s.scannedPage } }
  let s := forEach (s.log.pages.filter fun p => p.2.badAt.isSome) s fun s p =>
    s.logInternal 0xB205 2 (le 1 p.1 ++ le 2 (p.2.badAt.getD 0))
  let s := if newest.seq < kept && !powerOn then
      s.logInternal 0xB202 2 (le 4 (kept - newest.seq) ++ le 4 (newest.seq + 1) ++ le 1 1) else s
  if powerOn && !(newest.code == 0xB206 && byteAt newest.payload 0 == 1) then
    s.logInternal 0xB208 2 (le 4 newest.seq ++ le 8 newest.time ++
      le 1 (b2n (newest.code == 0xB206 && byteAt newest.payload 0 == 0)))
  else s

/-! ### The log's own commands -/

/-- LOG_RECORD_SEAL_TIMEOUT (R381): 10 s of local time after the activation that opened it. -/
def execLogRecordSealTimeout (s : State) : Host.Outcome State Fault Refusal :=
  match s.log.open' with
  | none => done s
  | some r => doneIf (s.cd && s.past r.opened 10000000) s.logSeal s

/-- LOG_PROGRAM (R384, R385): while R45 permits; `failing` names pages whose read-back fails from now on. -/
def execLogProgram (failing : List (Fin 256)) (s : State) : Host.Outcome State Fault Refusal :=
  let t : State := { s with log := { s.log with failing := s.log.failing ++ failing.map Fin.val } }
  doneIf (s.running && s.flashOk && !s.otp.retired) t.logProgramAll s

/-- LOG_SUPPRESSED_REPORT (R382): once every 60 s while counts are pending. -/
def execLogSuppressedReport (s : State) : Host.Outcome State Fault Refusal :=
  let c := s.log.supp
  doneIf (s.cd && !c.all (· == 0) && s.past s.log.suppAt 60000000)
    (State.logInternal { s with log := { s.log with supp := [0, 0, 0, 0], suppAt := s.log.suppAt + 60000000 } } 0xB209 1
      (le 4 (c.getD 0 0) ++ le 4 (c.getD 1 0) ++ le 4 (c.getD 2 0) ++ le 4 (c.getD 3 0) ++ le 8 s.log.suppFirst)) s

/-- LOG_FLUSH_LEVEL (R386, R393): VAUX below 17.0 V. -/
def execLogFlushLevel (vauxMv : Nat) (s : State) : Host.Outcome State Fault Refusal :=
  let t := s.readVaux vauxMv
  doneIf (s.running && !s.pwr.flushed && decide (vauxMv < 17000))
    (State.logFlush { t with pwr := { t.pwr with flushed := true } } 0) (if s.pwr.started then t else s)

end Sys2Proof.Machine
end

