-- ==== Sys2Proof/Machine/Notify.lean ====
section
/-! DEFINITION. Sys2Proof/Machine/Notify.lean: what leaves on the field links: the transmit queues (R299 to R301), the
notifications with their backlog (R312, R313) and their limits. -/

namespace Sys2Proof.Machine

/-- R280: the device's node ID. -/
def State.nodeId (s : State) : Nat := s.gn O.qlpNodeId 0

/-- R310: the Ethernet port is enabled and its link is up. -/
def State.ethUp (s : State) : Bool := s.gb O.ethEnable 0 && s.gn O.ethLinkState 0 != 0

/-- R300: a frame dropped on a link, counted; 0xDB at most once per 10 s per link. -/
def State.txDrop (s : State) (link : Nat) : State :=
  let s := s.bump O.canTxDropped link
  let late := match s.qlp.dropAt.find? (fun p => p.1 == link) with
    | none => true | some p => s.past p.2 10000000
  if late then
    State.raise { s with qlp := { s.qlp with dropAt := mins s.qlp.dropAt link s.mono } } 0xDB link
  else s

/-- `CanStats` queue high water (channel × 6 + 5). -/
def State.highWater (s : State) (ch : Nat) : State :=
  let n := (s.can ch).fifo.length
  if s.gn O.canStats (ch * 6 + 5) < n then s.put O.canStats (ch * 6 + 5) n else s

/-- R299, R301: room for one more frame in the FIFO of a link. -/
def State.txRoom (s : State) (link : Nat) : Bool :=
  if link < 2 then decide ((s.can link).fifo.length < 32) else decide (s.qlp.eth.length < 16)

/-- R286: the valid FD payload lengths above 8 bytes. -/
def fdLength (n : Nat) : Nat :=
  if n ≤ 8 then n else if n ≤ 12 then 12 else if n ≤ 16 then 16 else if n ≤ 20 then 20 else if n ≤ 24 then 24
  else if n ≤ 32 then 32 else if n ≤ 48 then 48 else 64

/-- R286: a message padded with 0x00 to the next valid FD data length. -/
def Out.padded (o : Out) : Out := { o with payload := o.payload ++ List.replicate (fdLength o.payload.length - o.payload.length) 0 }

/-- R299: what the controller offers next. -/
def CanTx.choose (c : CanTx) : Nat :=
  if c.lighthouse.isSome then 1 else if c.safetySlot.isSome then 2 else if !c.fifo.isEmpty then 3 else 0

/-- R299: an idle controller offers a frame at once; the frame on the bus stays offered until it has been sent or has lost
arbitration. -/
def CanTx.load (c : CanTx) : CanTx := if c.offered = 0 then { c with offered := c.choose } else c

/-- R299, R301: a frame at the tail of a link's FIFO. -/
def State.txPush (s : State) (link : Nat) (o : Out) : State :=
  if link < 2 then (s.canUpd link fun c => CanTx.load { c with fifo := c.fifo ++ [o.padded] }).highWater link
  else { s with qlp := { s.qlp with eth := s.qlp.eth ++ [o] } }

/-- R300: a notification, an alarm or a fragment of a stream; the answer says whether it was queued. -/
def State.txOrDrop (s : State) (link : Nat) (o : Out) : State × Bool :=
  if s.txRoom link then (s.txPush link o, true) else (s.txDrop link, false)

/-- R300: a response or a block frame that finds the FIFO full waits for a free entry, in order. -/
def State.txResponse (s : State) (link : Nat) (o : Out) : State :=
  if s.txRoom link then s.txPush link o
  else if link < 2 then s.canUpd link fun c => { c with waiting := c.waiting ++ [(o, s.mono)] }
  else { s with qlp := { s.qlp with ethWaiting := s.qlp.ethWaiting ++ [(o, s.mono)] } }

/-- R299: a free safety slot takes the head of the queue that feeds it. -/
def CanTx.feed (c : CanTx) : CanTx :=
  match c.safetySlot, c.safety with
  | none, o :: l => { c with safetySlot := some o, safety := l }
  | _, _ => c

/-- R299, R300, R301: a safety notification takes the queue (8 entries) that feeds the bypass slot. The slot of the Ethernet
port holds one notification, with its datagram to each subscriber (DESIGN CHOICE, log entry 166). -/
def State.txSafety (s : State) (link : Nat) (o : Out) : State × Bool :=
  if link < 2 then
    if (s.can link).safety.length < 8 then
      (s.canUpd link fun c => CanTx.load (CanTx.feed { c with safety := c.safety ++ [o.padded] }), true)
    else (s.txDrop link, false)
  else if s.qlp.ethSafety.all fun x => x.payload == o.payload then
    ({ s with qlp := { s.qlp with ethSafety := s.qlp.ethSafety ++ [o] } }, true)
  else (s.txDrop link, false)

/-- R313: one more event notification on a link, unless 50 fell within the last second. -/
def State.eventRoom (s : State) (link : Nat) : State × Bool :=
  let l := (mget [] s.ev.eventTimes link).filter fun t => decide (s.mono < t + 1000000)
  if l.length < 50 then
    ({ s with ev := { s.ev with eventTimes := mset [] s.ev.eventTimes link (l ++ [s.mono]) } }, true)
  else (s, false)

/-- Table 9-14: the notification payload; `code`, `sev` and `seq` as R379, R391 give them. -/
def notePayload (nseq time code source sev flags seq : Nat) (data : List Byte) : List Byte :=
  le 4 nseq ++ le 8 time ++ le 2 code ++ le 2 source ++ le 1 sev ++ le 1 flags ++ le 4 seq ++ data.take 42

/-- R313: the members of a backlog element. -/
def noteRecord (nseq time code source sev flags seq : Nat) (data : List Byte) : List Int :=
  let d := data.take 42
  [(nseq : Int), time, code, source, sev, flags, seq] ++ blobOf d ++ List.replicate (42 - d.length) 0

/-- R313: the newest notification at subindex 0 and the others one further. -/
def State.backlog (s : State) (r : List Int) : State :=
  let old := (List.range 31).map fun k => s.el O.notificationBacklog k
  forEach (old.zip (List.range 31)) (s.putL O.notificationBacklog 0 r) fun s p =>
    s.putL O.notificationBacklog (p.2 + 1) p.1

/-- R312, Table 9-3: one frame or datagram of a notification of a class; a drop is counted. -/
def State.noteOut (s : State) (link cls : Nat) (o : Out) : State :=
  let r := if cls = 1 then s.txSafety link o else s.txOrDrop link o
  if r.2 then r.1 else r.1.bump O.notificationsDropped 0

/-- R312, R313, Table 9-3: one notification of a class sent on one link, to each of its addresses there (0 on CAN): the limit of
event notifications counts it once. A drop is counted. -/
def State.noteOn (s : State) (link cls : Nat) (addrs : List Nat) (o : Out) : State :=
  if addrs.isEmpty then s else
  let r : State × Bool := if cls = 1 ∨ cls = 2 then (s, true) else s.eventRoom link
  if r.2 then forEach addrs r.1 fun s a => s.noteOut link cls { o with addr := a } else r.1.bump O.notificationsDropped 0

/-- R312, R316: the UDP address of a subscriber: its IPv4 address, port 47741. -/
def State.subscriber (s : State) (k : Nat) : Nat := (s.gm O.notifySubscriber k 0).toNat + 47741 * 2 ^ 32

/-- R312: the class bit of `NotifySubscriber` CLASSES for a service class. -/
def classBit (cls : Nat) : Nat := if cls = 1 then 0 else if cls = 2 then 1 else 2

/-- NOTIFICATION_EMIT (R312, R313, R280): one numbered notification of a class (0x01, 0x02, 0x10) with the device time of the
activation, into the backlog, to
the named CAN channels and to the subscribers; none is sent while the node ID is 0. -/
def State.notify (s : State) (cls time code source sev flags seq : Nat) (data : List Byte) : State :=
  let n : Nat := (s.gn O.notificationSequence 0 + 1) % 2 ^ 32
  let s := s.put O.notificationSequence 0 n
  let s := s.backlog (noteRecord n time code source sev flags seq data)
  if s.nodeId = 0 then s else
  let o : Out := {
    cls := cls, dest := 127, src := s.nodeId, seq := n % 64, prio := if cls = 1 then 0 else if cls = 2 then 1 else 4,
    payload := notePayload n time code source sev flags seq data }
  let s := forEach [0, 1] s fun s ch =>
    if bit (s.gn O.notifyCanChannels 0) ch && s.gb O.canEnable ch then s.noteOn ch cls [0] o else s
  let subs := [0, 1, 2, 3].filter fun k => bit (s.gm O.notifySubscriber k 1).toNat (classBit cls) && s.ethUp
  s.noteOn 2 cls (subs.map s.subscriber) o

end Sys2Proof.Machine
end

