-- ==== Sys2Proof/Machine/Requests.lean ====
section
/-! DEFINITION. Sys2Proof/Machine/Requests.lean: the checks that every request for an object passes before its own (R320,
R323, Table 0-5, R358, R420) and the response (R288, R291, R324). -/

namespace Sys2Proof.Machine

/-- R3, R445, R472: an element refers to a ring, string or motor channel that the variant lacks, and its rule does not say that
every element exists. -/
def State.absent (s : State) (o : Obj) (sub : Nat) : Bool :=
  match s.variant with
  | .qb2048 => false
  | .qb1024 => !o.whole && match o.per with
    | .none' => false
    | .div k => decide (2 ≤ sub / k)
    | .port => decide (2 ≤ sub % 4)
    | .src => !s.hasSource sub
    | .key => decide (4 ≤ sub) && decide (2 ≤ (sub - 4) / 4)

/-- R358: writes that a standby or a device in lockout refuses. -/
def berthWrites : List Nat :=
  [O.stringCommand, O.tripReset, O.weldClear, O.contactorOpenTestRequest, O.loadSwitchCommand, O.loadSwitchPwmDuty,
   O.loadSwitchPwmFrequency, O.lsFaultClear, O.motorSpeedCommand, O.motorFaultClear, O.brakeFaultClear]

/-- R420: what a RETIRED device still answers. -/
def retiredMay (i : Nat) : Bool := (0x1000 ≤ i && i ≤ 0x10FF) || i == O.tombstone

/-- R320: number of elements; `ObjectDescriptor` has one for each object. -/
def Obj.elements (o : Obj) : Nat := if o.index = O.objectDescriptor then allObjs.length else o.count

/-- R320, R325, R420: existence of the first element; 0 where it exists. -/
def State.existCheck (s : State) (i sub : Nat) : Nat :=
  if 0xF000 ≤ i then 0x0101 else
  match objRow i with
  | none => 0x0101
  | some o => if o.elements ≤ sub || s.absent o sub then 0x0102 else 0

/-- R370: while a hand-over is in progress the device refuses the writes of R358 as a standby does. -/
def State.berthRefuses (s : State) : Bool := [3, 4, 5].contains s.berthState || (s.dup.mode != 0 && s.dup.handover != 0)

/-- R323 steps 1 and 2 for a write: existence, then access class. `auth` says TAGGED in the open session (R297). -/
def State.writeGate (s : State) (i sub : Nat) (auth : Bool) : Nat :=
  if s.lifecycle = 4 then 0x0405 else
  let e := s.existCheck i sub
  if e ≠ 0 then e else
  match objRow i with
  | none => 0x0101
  | some o =>
    if o.acc = .ro then 0x0201
    else if (o.acc = .auth || i = O.logClear) && !auth then 0x0204
    else if berthWrites.contains i && s.berthRefuses then 0x0205
    else 0

/-- R322: an RWS object while a string is not open; the safety objects of chapter 7 likewise (R244). -/
def State.openGate (s : State) (o : Obj) : Nat :=
  if (o.acc = .rws || (0x6100 ≤ o.index && o.index ≤ 0x6130 && o.acc = .auth)) && !s.allOpen then 0x0401 else 0

/-- Table 9-5: the bytes of a response. -/
def Reply.bytes (r : Reply) : List Byte :=
  le 1 r.op ++ le 1 r.stamps.length ++ le 2 r.status ++ le 2 r.index ++ le 2 r.sub ++ le 4 r.data.length ++
    (r.stamps.flatMap fun p => le 1 p.1 ++ le 4 p.2) ++ r.data

/-- R281, R285: who answers: the address the request named (own node ID, alias or the unassigned ID). -/
def State.respond (s : State) (req : Req) (r : Reply) : State :=
  let s := { s with qlp := { s.qlp with reply := some r } }
  s.txResponse req.link.val { cls := 9, dest := req.src, src := req.dest, seq := req.seq, prio := req.prio,
                              payload := r.bytes, addr := req.addr }

/-- The response to a write: Table 9-9 status, the element of a refusal. -/
def State.answerW (s : State) (req : Req) (i sub status : Nat) : State :=
  s.respond req { link := req.link.val, dest := req.src, seq := req.seq, op := 2, status := status, index := i, sub := sub }

/-- R292: a response that has been sent is kept, the last 8 of each link. -/
def State.keep (s : State) (k : KeptResp) : State :=
  let mine := s.qlp.kept.filter fun x => x.link == k.link
  { s with qlp := { s.qlp with kept := (s.qlp.kept.filter fun x => x.link != k.link) ++ mine.drop (mine.length - 7) ++ [k] } }

/-- R292: the late response to a write whose frame's message was `msg`, sent and kept. -/
def State.answerLate (s : State) (req : Req) (msg : List Byte) (i status : Nat) : State :=
  let r : Reply := { link := req.link.val, dest := req.src, seq := req.seq, op := 2, status := status, index := i, sub := 0 }
  let s := s.respond req r
  if msg.isEmpty then s
  else s.keep { link := req.link.val, src := req.src, dest := req.dest, seq := req.seq, request := msg, response := r.bytes, at' := s.mono }

/-- R280, R281: the device accepts a request addressed to a node: its own ID (0 while unassigned), or the alias 0x01
while its claim is asserted in a pair (R359). -/
def State.addressed (s : State) (dest : Nat) : Bool :=
  (dest == s.nodeId && dest != 127) || (s.nodeId != 0 && s.dup.mode != 0 && s.dup.out && dest == 1)

/-- R297: the request is tagged, and its node has the open session. -/
def State.authOk (s : State) (req : Req) : Bool :=
  req.auth && match s.qlp.session with | some x => x.link == req.link.val && x.node == req.src | none => false

/-- R298: a tagged request starts the 300 s anew. -/
def State.tagSeen (s : State) (req : Req) : State :=
  match s.qlp.session with
  | some x => if s.authOk req then { s with qlp := { s.qlp with session := some { x with taggedAt := s.mono } } } else s
  | none => s

/-- A write request that has a row of its own: the checks of R323 steps 1 and 2, then `op`, which makes its own checks
and answers the state and the status; the response follows. -/
def State.request (s : State) (req : Req) (i sub : Nat) (op : State → State × Nat) : Host.Outcome State Fault Refusal :=
  if !s.running || !s.addressed req.dest then .next s else
  let g := s.writeGate i sub (s.authOk req)
  if g ≠ 0 then .next ((s.tagSeen req).answerW req i sub g)
  else
    let r := op (s.tagSeen req)
    .next (r.1.answerW req i sub r.2)

/-! ### Ends of transfers and sessions (R280, R294, R298, R359) -/

/-- R293: a block frame of a transfer. -/
def State.block (s : State) (t : Transfer) (kind number : Nat) (data : List Byte) : State :=
  s.txResponse t.link { cls := 10, dest := t.src, src := t.dest, seq := t.seq, prio := t.prio,
                        payload := le 1 kind ++ le 2 number ++ data, addr := t.addr }

/-- R294: the transfers that a condition names end with an abort. -/
def State.abortTransfers (s : State) (status : Nat) (p : Transfer → Bool) : State :=
  let gone := s.qlp.transfers.filter p
  let s : State := { s with qlp := { s.qlp with transfers := s.qlp.transfers.filter fun t => !p t } }
  forEach gone s fun s t => s.block t 3 status []

/-- R298: the session ends and k_s is wiped; 0xD7 with instance 1. -/
def State.sessionEnd (s : State) : State :=
  match s.qlp.session with
  | none => s
  | some _ => State.raise { s with qlp := { s.qlp with session := none } } 0xD7 1

/-- R359: the claim has been withdrawn: transfers addressed to the alias end with 0x0605, and so does a session opened
through it. -/
def State.aliasEnd (s : State) : State :=
  let s := s.abortTransfers 0x0605 fun t => t.berthId
  match s.qlp.session with
  | some x => if x.berthId then s.sessionEnd else s
  | none => s

/-- A refusal with a status, nothing changed. -/
def refuse (s : State) (status : Nat) : State × Nat := (s, status)

/-- An accepted write. -/
def accept (s : State) : State × Nat := (s, 0)

end Sys2Proof.Machine
end

