-- ==== Sys2Proof/Machine/LoadSwitches.lean ====
section
/-! DEFINITION. Sys2Proof/Machine/LoadSwitches.lean: the load switches of chapter 8 (R250 to R258): what the power die
does to a channel, and the meanings of their commands. -/

namespace Sys2Proof.Machine

/-- R37: the source of a load switch. -/
def lsSource (n : Nat) : Nat := 0xB0 + n

/-- R251: the share of the time for which a channel that is on conducts, in thousandths: in PWM mode its duty, or all of it
where the off-time would be below 50 µs and is omitted. -/
def LoadSw.share (l : LoadSw) : Nat :=
  if l.mode = 2 && decide (50 * l.freq ≤ (1000 - l.duty) * 1000) then l.duty else 1000

/-- R251, R254: on-time since `onSince`, ns. -/
def LoadSw.segment (l : LoadSw) (mono : Nat) : Nat := if l.on then (mono - l.onSince) * l.share else 0

/-- R254, R256: the on-time so far is counted, before the channel changes. -/
def LoadSw.mark (l : LoadSw) (mono : Nat) : LoadSw :=
  { l with onTime := l.onTime + l.segment mono, spell := l.spell + l.segment mono, onSince := mono }

/-- R251: a channel turns on. -/
def State.lsOn (s : State) (n : Nat) : State :=
  s.lswUpd n fun l => if l.on then l else { l with on := true, onSince := s.mono, spell := 0, limiting := false }

/-- R251, R254: a channel turns off; its on-time counts so far. -/
def State.lsOff (s : State) (n : Nat) : State :=
  s.lswUpd n fun l => if l.on then { l.mark s.mono with on := false, limiting := false, offSince := s.mono } else l

/-- R251, R253, R254, R258, R260: nothing keeps a channel off that is commanded on; in PWM mode an on-time below 50 µs
is omitted. -/
def LoadSw.free (l : LoadSw) : Bool :=
  l.mode != 0 && (l.mode != 2 || decide (50 * l.freq ≤ l.duty * 1000)) && !l.latch && !l.lockedOff && !l.retryPending && !l.shedGov && !l.shedBrown && !l.shedThermal

/-- The channel follows its command: on where nothing keeps it off, else off. -/
def State.lsFollow (s : State) (n : Nat) : State := if (s.lsw n).free then s.lsOn n else s.lsOff n

/-- R252, R253, R254: a trip, kind 0 over-current or 1 thermal latch: off, one retry consumed or LOCKED_OFF. -/
def State.lsTrip (s : State) (n kind : Nat) : State :=
  let s := s.lsOff n
  let s := s.lswUpd n fun l => { l with overcurrent := kind == 0, onTime := 0, tripAt := s.mono }
  let s := (s.bump O.loadSwitchTrips n).raise (lsSource n) kind
  if s.gn O.lsRetryLimit n ≤ (s.lsw n).retries then
    (s.lswUpd n fun l => { l with lockedOff := true }).raise (lsSource n) 2
  else s.lswUpd n fun l => { l with retries := l.retries + 1, retryPending := true }

/-- R251, R254, R257, R261: the power die applies an accepted command: mode, duty (0.1 %) and frequency (Hz). A command
of 0 cancels RETRY_PENDING and clears the sheds. -/
def State.lsApply (s : State) (n mode duty freq : Nat) : State :=
  let s := s.lswUpd n fun l => { l.mark s.mono with mode := mode, duty := duty, freq := freq, failsafe := false }
  let s := if mode = 0 then
      s.lswUpd n fun l => { l with retryPending := false, clearPending := false, shedGov := false, shedBrown := false,
                                   shedThermal := false }
    else s
  s.lsFollow n

/-- R257: the stored fail-safe state of a channel when trust ends. -/
def State.lsFailSafe (s : State) (n : Nat) : State :=
  let f := if s.quiet then 0 else s.gn O.loadSwitchFailSafe n
  let s := if f = 0 then s.lsApply n 0 (s.lsw n).duty (s.lsw n).freq
    else if f = 1 then s.lsApply n 1 (s.lsw n).duty (s.lsw n).freq else s
  s.lswUpd n fun l => { l with failsafe := true }

/-- R14, R251: a command reaches the power die, which executes it or refuses and reports it. DESIGN CHOICE (log entry 163): in
moored entry and in RETIRED, where every output is off whatever its command, it changes nothing there. -/
def State.lsRequest (s : State) (n mode duty freq : Nat) : State :=
  if s.quiet then s
  else if s.trusts && s.berthOk then (s.lsApply n mode duty freq).outputDone
  else s.refuseOut (.loadSwitch (Fin.ofNat 16 n) mode duty freq)

/-- R251: the duty and the frequency of a load switch whose command is PWM reach the power die. -/
def State.pwmSend (s : State) (n : Nat) : State :=
  if s.gn O.loadSwitchCommand n = 2 then s.lsRequest n 2 (s.gn O.loadSwitchPwmDuty n) (s.gn O.loadSwitchPwmFrequency n) else s

/-- R251, R357: a frequency that has changed with the configuration reaches the power die that drives the load. -/
def State.pwmFollow (s : State) (n : Nat) : State := if s.berthOk then s.pwmSend n else s

/-- LOAD_SWITCH_CMD (R251): accepted, stored and sent to the power die in the same step (DEDUCED, log entry 13). -/
def State.lsCommand (s : State) (n mode : Nat) : State × Nat :=
  let s := (s.put O.loadSwitchCommand n mode).sayC 2 (16 * (12 + n) + mode)
  accept (s.lsRequest n mode (s.gn O.loadSwitchPwmDuty n) (s.gn O.loadSwitchPwmFrequency n))

/-- LOAD_SWITCH_CMD_OFF (R251, R254, R261). -/
def execLoadSwitchCmdOff (req : Req) (ls : Fin 16) (s : State) : Host.Outcome State Fault Refusal :=
  s.request req O.loadSwitchCommand ls.val fun s => s.lsCommand ls.val 0

/-- LOAD_SWITCH_CMD_ON (R251). -/
def execLoadSwitchCmdOn (req : Req) (ls : Fin 16) (s : State) : Host.Outcome State Fault Refusal :=
  s.request req O.loadSwitchCommand ls.val fun s => s.lsCommand ls.val 1

/-- LOAD_SWITCH_CMD_PWM (R251). -/
def execLoadSwitchCmdPwm (req : Req) (ls : Fin 16) (s : State) : Host.Outcome State Fault Refusal :=
  s.request req O.loadSwitchCommand ls.val fun s => s.lsCommand ls.val 2

/-- LS_LIMITING (R252): the output reaches, or leaves, its current limit. -/
def execLsLimiting (ls : Fin 16) (reached : Bool) (s : State) : Host.Outcome State Fault Refusal :=
  let l := s.lsw ls.val
  doneIf (s.pd && l.on && l.limiting != reached)
    (s.lswUpd ls.val fun l => { l with limiting := reached, limitSince := s.mono }) s

/-- LS_OVERCURRENT_TRIP (R252): LIMITING for `LsLimitTime` without a break. -/
def execLsOvercurrentTrip (ls : Fin 16) (s : State) : Host.Outcome State Fault Refusal :=
  let l := s.lsw ls.val
  doneIf (s.pd && l.on && l.limiting && s.past l.limitSince (s.gn O.lsLimitTime ls.val)) (s.lsTrip ls.val 0) s

/-- LS_THERMAL_LATCH_SET (R253): at 165 °C the channel switches off at once; the trip counts where it was on (DEDUCED,
log entry 13). -/
def execLsThermalLatchSet (ls : Fin 16) (s : State) : Host.Outcome State Fault Refusal :=
  let n := ls.val
  let was := (s.lsw n).on
  let t := s.lswUpd n fun l => { l with latch := true }
  doneIf (s.pd && !(s.lsw n).latch) (if was then t.lsTrip n 1 else t.raise (lsSource n) 1) s

/-- R254 item 2, R255: the restart of a channel whose retry delay has elapsed, whose latch is clear and whose command is
1 or 2, or that a host clear left waiting for its latch. -/
def State.lsRestart (s : State) (n : Nat) : State :=
  let l := s.lsw n
  let due := l.retryPending && s.past l.tripAt (s.gn O.lsRetryDelay n * 1000) && l.mode != 0 && !l.latch
  let s := if due then s.lswUpd n fun l => { l with retryPending := false } else s
  let s := if l.clearPending && !l.latch then s.lswUpd n fun l => { l with clearPending := false } else s
  if due || (l.clearPending && !l.latch) then s.lsFollow n else s

/-- LS_THERMAL_LATCH_CLEAR (R251, R253, R254): at 140 °C; a channel commanded on that nothing else keeps off turns on. -/
def execLsThermalLatchClear (ls : Fin 16) (s : State) : Host.Outcome State Fault Refusal :=
  doneIf (s.pd && (s.lsw ls.val).latch)
    (((s.lswUpd ls.val fun l => { l with latch := false }).lsRestart ls.val).lsFollow ls.val) s

/-- LS_RETRY_RESTART (R254). -/
def execLsRetryRestart (ls : Fin 16) (s : State) : Host.Outcome State Fault Refusal :=
  doneIf s.pd (s.lsRestart ls.val) s

/-- LS_RETRY_COUNT_RESET (R254 item 4): 60 s of on-time without a trip. -/
def execLsRetryCountReset (ls : Fin 16) (s : State) : Host.Outcome State Fault Refusal :=
  let l := s.lsw ls.val
  doneIf (s.pd && decide (60000000000 ≤ l.onTime + l.segment s.mono)) (s.lswUpd ls.val fun l => { l with retries := 0 }) s

/-- R255: a host clear of one channel. -/
def State.lsClear (s : State) (n : Nat) : State :=
  let s := s.lswUpd n fun l =>
    { l with retries := 0, lockedOff := false, retryPending := false, overcurrent := false,
             clearPending := l.latch && l.mode != 0 }
  (s.raise (lsSource n) 10).lsFollow n

/-- R14, R255: a host clear reaches the power die, which executes it or refuses and reports it. -/
def State.lsClearRequest (s : State) (n : Nat) : State :=
  if s.trusts && s.berthOk then (s.lsClear n).outputDone else s.refuseOut (.lsClear (Fin.ofNat 16 n))

/-- LS_FAULT_CLEAR (R255); like every output command it takes effect under R14. -/
def State.lsFaultClear (s : State) (mask : Nat) : State × Nat :=
  accept (forEach ((List.range 16).filter fun n => bit mask n) s fun s n => (s.sayC 2 (16 * (12 + n) + 8)).lsClearRequest n)

/-- LS_FAULT_CLEAR (R255). -/
def execLsFaultClear (req : Req) (mask : BitVec 16) (s : State) : Host.Outcome State Fault Refusal :=
  s.request req O.lsFaultClear 0 fun s => s.lsFaultClear mask.toNat

/-- LS_ON_OPEN_LOAD (R256): for 100 ms of on-time below (`low`), or at or above, `LsOpenLoadCurrent`. -/
def execLsOnOpenLoad (ls : Fin 16) (low : Bool) (s : State) : Host.Outcome State Fault Refusal :=
  let l := s.lsw ls.val
  let t := s.lswUpd ls.val fun l => { l with onOpen := low }
  doneIf (s.pd && l.on && decide (100000000 ≤ l.spell + l.segment s.mono) && l.onOpen != low)
    (if low then t.raise (lsSource ls.val) 3 else t) s

/-- LS_OFF_STATE_DIAG (R256): off for 10 ms, and the output at a level for 10 ms; not without the berth (R357). -/
def execLsOffStateDiag (ls : Fin 16) (c : OffStateLevel) (s : State) : Host.Outcome State Fault Refusal :=
  let n := ls.val
  let l := s.lsw n
  let t := match c with
    | .low => s.lswUpd n fun l => { l with offOpen := false, offShort := false }
    | .open3V => if l.offOpen then s else (s.lswUpd n fun l => { l with offOpen := true }).raise (lsSource n) 4
    | .nearVaux => if l.offShort then s else
        (s.lswUpd n fun l => { l with offShort := true }).raise (lsSource n) 5
  doneIf (s.pd && s.gb O.lsOffDiag n && !l.on && s.past l.offSince 20000 && (s.dup.mode == 0 || s.dup.out)) t s

/-- R258: every load switch of priority 1 to 7 is shed at the brown-out warning; kind 8. -/
def State.lsBrownOut (s : State) : State :=
  forEach ((List.range 16).filter fun n => s.gn O.loadSwitchPriority n != 0) s fun s n =>
    ((s.lswUpd n fun l => { l with shedBrown := true }).lsOff n).raise (lsSource n) 8

/-- R258: the channels shed at the warning return to their commanded states. -/
def State.lsBrownOutEnd (s : State) : State :=
  forEach ((List.range 16).filter fun n => (s.lsw n).shedBrown) s fun s n =>
    (s.lswUpd n fun l => { l with shedBrown := false }).lsFollow n

end Sys2Proof.Machine
end

