-- ==== Sys2Proof/Machine/Motors.lean ====
section
/-! DEFINITION. Sys2Proof/Machine/Motors.lean: the motor channels, VMOT, the brake chopper and the dissipation governor
of chapter 8 (R259 to R277): what the motor control block does, and the meanings of its commands. -/

namespace Sys2Proof.Machine

/-- R37: the fault source of a motor channel. -/
def mdSource (n : Nat) : Nat := 0xC0 + 2 * n

/-- R37: the synchronism source of a motor channel. -/
def mdSync (n : Nat) : Nat := 0xC1 + 2 * n

/-- R254, R261: the time that a channel has run so far, µs. -/
def Motor.ran (m : Motor) (mono : Nat) : Nat := m.runTime + if m.st = 3 then mono - m.runSince else 0

/-- Table 8-5: a channel enters a STATE; the time it ran so far stands (R254). -/
def State.mdEnter (s : State) (n st : Nat) : State :=
  s.motUpd n fun m => { m with st := st, stAt := s.mono, runTime := m.ran s.mono, runSince := s.mono }

/-- R254 as R270 applies it: a retry is consumed, and the 60 s of run time start again (DEDUCED, log entry 133). -/
def State.mdConsume (s : State) (n : Nat) : State :=
  s.motUpd n fun m => { m with retries := m.retries + 1, runTime := 0, runSince := s.mono }

/-- R263: gates off, STATE 4 (or 0, 7): duty and published speed fall away with the drive. -/
def State.mdCoast (s : State) (n st : Nat) : State :=
  ((s.mdEnter n st).motUpd n fun m => { m with commAt := none, integ := 0, currentLimit := false }).put O.motorDuty n 0

/-- R262: the gates of a channel are driven. -/
def Motor.driven (m : Motor) : Bool := [1, 2, 3, 6].contains m.st

/-- R262, R271, R273, R277: something forbids driving a channel's gates now. -/
def Motor.barred (m : Motor) : Bool :=
  m.latch || m.lockedOff || m.shed || m.shedThermal || m.gateUv || m.vmotCoast || m.clockLost || m.offsetFault

/-- R270: the modelled speed, ω_loss × exp(−t / `MdCoastTau`), rpm. -/
def State.mdModel (s : State) (n : Nat) : Rat :=
  let m := s.mot n
  (m.lossSpeed : Rat) * expQ (-((s.mono - m.lossAt : Nat) : Rat) / ((s.gn O.mdCoastTau n : Rat) * 1000))

/-- R270: catch-spin applies: the modelled speed is at least `MdCatchMin`. -/
def State.mdCatch (s : State) (n : Nat) : Bool := decide ((s.gn O.mdCatchMin n : Rat) ≤ s.mdModel n)

/-- R266: the largest speed command, 10 × f_PWM / (6 × `MotorPolePairs`) rpm. -/
def State.mdMax (s : State) (n : Nat) : Nat := 10 * s.gn O.mdPwmFrequency n / (6 * s.gn O.motorPolePairs n)

/-- Table 8-4 step 3: catch-spin; step 5: aligning. -/
def State.mdStep (s : State) (n step : Nat) : State :=
  let s := s.motUpd n fun m => { m with recStep := step, retryPending := false }
  if step = 3 then s.mdEnter n 5
  else if step = 5 then
    ((s.mdEnter n 1).motUpd n fun m => { m with step := 0 }).put O.motorDuty n (s.gi O.mdAlignDuty n)
  else s.mdEnter n 4

/-- R270: no retries left: LOCKED_OFF, kind 3, STATE 7. -/
def State.mdLock (s : State) (n : Nat) : State :=
  ((s.mdCoast n 7).motUpd n fun m => { m with lockedOff := true, retryPending := false, recStep := 0 }).raise (mdSource n) 3

/-- R270: an attempt at step 3 or 5, which consumes one retry; step 4 only waits. -/
def State.mdAttempt (s : State) (n step : Nat) : State :=
  if step = 4 then s.mdStep n 4
  else if s.gn O.mdRetryLimit n ≤ (s.mot n).retries then s.mdLock n
  else (s.mdConsume n).mdStep n step

/-- R270: the next attempt follows `MdRetryDelay`. -/
def State.mdRetryLater (s : State) (n step : Nat) : State :=
  (s.mdCoast n 4).motUpd n fun m => { m with retryPending := true, tripAt := s.mono, nextStep := step, recStep := 0 }

/-- R270: a start after shedding, undervoltage, zero-vector braking or a host clear: step 3, or step 5 when step 3 does
not apply; no retry consumed. A wait of step 2 or 4 in progress goes on. -/
def State.mdResume (s : State) (n : Nat) : State :=
  let m := s.mot n
  if m.st = 7 then s
  else if m.cmd = 0 then (s.mdCoast n 0).motUpd n fun m => { m with recStep := 0 }
  else if m.barred || m.retryPending || (m.st == 4 && [2, 4].contains m.recStep) then s
  else s.mdStep n (if s.mdCatch n then 3 else 5)

/-- The speed at which a running channel is left to coast, kept as ω_loss (R270). -/
def State.mdLoss (s : State) (n : Nat) : State :=
  s.motUpd n fun m => if [3, 6].contains m.st then { m with lossSpeed := s.gn O.motorSpeed n, lossAt := s.mono } else m

/-- R266, R270, R261, R254: the power die applies a speed command. -/
def State.mdApply (s : State) (n rpm : Nat) : State :=
  let c := if s.mdMax n < rpm then s.mdMax n else rpm
  let s := s.motUpd n fun m => { m with cmd := c, failsafe := false }
  if c = 0 then
    let s := s.motUpd n fun m => { m with retryPending := false, shed := false, shedThermal := false }
    if [3, 6, 7].contains (s.mot n).st then s
    else (s.mdCoast n 0).motUpd n fun m => { m with recStep := 0 }
  else if (s.mot n).st = 0 && !(s.mot n).barred then s.mdStep n 5
  else s

/-- R14: a speed command reaches the power die, which executes it or refuses and reports it. In moored entry and in RETIRED it
changes nothing there (log entry 163). -/
def State.mdRequest (s : State) (n rpm : Nat) : State :=
  if s.quiet then s
  else if s.trusts && s.berthOk then (s.mdApply n rpm).outputDone
  else s.refuseOut (.motor (Fin.ofNat 4 n) rpm)

/-- R272: the stored fail-safe state of a channel when trust ends. Zero-vector braking ends with VMOT below `BrakeOffLevel`
only (R276). -/
def State.mdFailSafe (s : State) (n : Nat) : State :=
  let f := if s.quiet then 0 else s.gn O.motorFailSafe n
  let s := if f = 0 then
      let s := if (s.mot n).st = 6 && !s.quiet then s
        else (s.mdLoss n).mdCoast n (if (s.mot n).st = 7 then 7 else 0)
      s.motUpd n fun m => { m with cmd := 0, retryPending := false, recStep := 0 }
    else if f = 1 then
      let s := s.motUpd n fun m => { m with cmd := min (s.gn O.mdFailSafeSpeed n) (s.mdMax n) }
      if (s.mot n).st = 0 && !(s.mot n).barred && (s.mot n).cmd != 0 then s.mdStep n 5 else s
    else s
  s.motUpd n fun m => { m with failsafe := true }

/-- R271, R254: a trip of kind 0, 1 or 2: gates off, one retry consumed or LOCKED_OFF; the restart starts at step 2. -/
def State.mdTrip (s : State) (n kind : Nat) : State :=
  let s := (s.mdLoss n).raise (mdSource n) kind
  let s := s.motUpd n fun m => { m with vdsTrip := kind == 0 }
  if s.gn O.mdRetryLimit n ≤ (s.mot n).retries then
    (s.mdLock n).motUpd n fun m => { m with runTime := 0, runSince := s.mono }
  else ((s.mdRetryLater n 2).mdConsume n)

/-- Table 8-4 steps 1 and 2: gates off and the wait t_w. -/
def State.mdWait (s : State) (n : Nat) : State :=
  let m := s.mot n
  let t : Rat := (s.gn O.mdCoastTau n : Rat) * 1000 * lnQ ((m.lossSpeed : Rat) * 1000 / (m.ref : Rat))
  let w : Nat := (roundQ t).toNat
  (s.mdCoast n 4).motUpd n fun m => { m with recStep := 2, retryPending := false, waitUntil := s.mono + max 50000 w }

/-- MOTOR_SYNC_LOST (R269, R270): the kind is raised and recovery begins. -/
def State.mdSyncLost (s : State) (n kind : Nat) : State := ((s.mdLoss n).raise (mdSync n) kind).mdWait n

/-- R270: intervals of consecutive crossings within ±25 % of each other. -/
def steady (l : List Nat) : Bool := l.all fun a => l.all fun b => decide (a * 4 ≤ b * 5)

/-- R268: speed in rpm from a crossing interval in ns. -/
def State.mdRpm (s : State) (n intervalNs : Nat) : Nat := 10 ^ 10 / (intervalNs * s.gn O.motorPolePairs n)

/-- MOTOR_SPEED_COMMAND (R266): accepted, stored and sent to the power die in the same step (DEDUCED, log entry 13). -/
def State.mdCommand (s : State) (n rpm : Nat) : State × Nat :=
  if 30000 < rpm then refuse s 0x0301
  else accept (((s.put O.motorSpeedCommand n rpm).sayC 2 (16 * (28 + n) + 1)).mdRequest n rpm)

/-- MOTOR_SPEED_COMMAND (R266). -/
def execMotorSpeedCommand (req : Req) (md : Fin 4) (rpm : Nat) (s : State) : Host.Outcome State Fault Refusal :=
  s.request req O.motorSpeedCommand md.val fun s => s.mdCommand md.val rpm

/-- R266: the target of the ramp, in 0.001 rpm: a command of 0 lowers the reference to `MdStopSpeed`. -/
def State.mdTarget (s : State) (n : Nat) : Nat :=
  if (s.mot n).cmd = 0 then s.gn O.mdStopSpeed n * 1000 else (s.mot n).cmd * 1000

/-- R266, R271, R274: one millisecond of the ramp. -/
def State.mdRamp (s : State) (n : Nat) : Nat :=
  let m := s.mot n
  let t := s.mdTarget n
  if m.currentLimit then m.ref
  else if m.ref < t then min t (m.ref + s.gn O.mdAccelLimit n)
  else if m.decelHeld then m.ref
  else max t (m.ref - s.gn O.mdDecelLimit n)

/-- R266: the speed loop on a reference: duty in % and the integral, frozen while the output is at either bound. -/
def State.mdLoop (s : State) (n ref : Nat) : Rat × Rat :=
  let m := s.mot n
  let err : Rat := (ref : Rat) / 1000 - (s.gn O.motorSpeed n : Rat)
  let p := f32 (s.gn O.mdSpeedKp n) * err
  let out := p + m.integ
  let integ := if out ≤ 0 ∨ 100 ≤ out then m.integ else m.integ + f32 (s.gn O.mdSpeedKi n) * err / 1000
  (clampQ 0 100 (p + integ), integ)

/-- R270 step 6: the duty of an open-loop start, which rises from `MdAlignDuty`. -/
def State.mdStartDuty (s : State) (n : Nat) : State :=
  let rise := Config.startRise (f32 (s.gn O.mdSpeedKp n)) (f32 (s.gn O.mdSpeedKi n)) (s.gn O.mdHandoverSpeed n)
    (s.gn O.mdStartRampTime n) (s.mono - (s.mot n).stAt)
  s.put O.motorDuty n (roundQ (clampQ 0 100 ((s.gn O.mdAlignDuty n : Rat) / 10 + rise) * 10))

/-- MOTOR_SPEED_LOOP (R266, R269 kind 1): every 1 ms, timed by domain 10, so a channel that coasted for its loss resumes
(R262; DEDUCED, log entry 14); `shuntMa` is the shunt mean over the millisecond. -/
def State.mdSpeedLoop (s : State) (n : Nat) (shuntMa : Int) : State :=
  let s := s.put O.motorCurrent n shuntMa
  let s := if (s.mot n).clockLost then (s.motUpd n fun m => { m with clockLost := false }).mdResume n else s
  let m := s.mot n
  if m.st = 2 then s.mdStartDuty n
  else if m.st ≠ 3 then s else
  let ref := s.mdRamp n
  let s := s.motUpd n fun m => { m with ref := ref }
  if m.cmd = 0 && decide (ref ≤ s.gn O.mdStopSpeed n * 1000) then (s.mdLoss n).mdCoast n 0
  else
    let d := s.mdLoop n ref
    let s := (s.motUpd n fun m => { m with integ := d.2 }).put O.motorDuty n (roundQ (d.1 * 10))
    let dev : Int := (s.gn O.motorSpeed n : Int) * 1000 - ref
    if s.past m.stAt 500000 && decide ((ref : Int) * 3 < dev.natAbs * 10) then s.mdSyncLost n 1 else s

/-- MOTOR_SPEED_LOOP: when it is due. -/
def execMotorSpeedLoop (md : Fin 4) (shuntMa : Int) (s : State) : Host.Outcome State Fault Refusal :=
  doneIf (s.pd && s.has md.val) (s.mdSpeedLoop md.val shuntMa) s

/-- R267: the crossing instant, interpolated linearly between the two samples: the interval from the previous crossing, ns. -/
def crossingNs (x : Crossing) : Nat :=
  let b := x.beforeMv.natAbs
  let d := b + x.afterMv.natAbs
  x.beforeNs + if d = 0 then 0 else (x.afterNs - x.beforeNs) * b / d

/-- R267: the two samples differ in sign. -/
def crossingSigns (x : Crossing) : Bool :=
  (decide (x.beforeMv < 0) && decide (0 ≤ x.afterMv)) || (decide (0 < x.beforeMv) && decide (x.afterMv ≤ 0))

/-- R267: samples count again after a commutation: three in a row inside both rails, and 10 electrical degrees gone by. -/
def Motor.sampled (m : Motor) (x : Crossing) : Bool := decide (3 ≤ x.inside) && decide (m.interval * 10 ≤ x.commNs * 60)

/-- R268, R269 kind 0: a crossing `ns` after the last one, and `ago` ns before the sample that shows it: implausible, or the
observer's speed and the next commutation, which follows the crossing. -/
def State.mdCrossed (s : State) (n ns ago : Nat) : State :=
  let m := s.mot n
  let at' := s.mono * 1000 - ago
  if m.interval != 0 && (decide (m.interval * 5 < ns * 4) || decide (ns * 4 < m.interval * 3)) then s.mdSyncLost n 0
  else
    (s.put O.motorSpeed n (s.mdRpm n ns)).motUpd n fun m => { m with
      interval := ns, crossAt := at' / 1000, commAt := some ((at' + ns * (30 - s.gn O.mdCommAdvance n) / 60) / 1000) }

/-- MOTOR_ZERO_CROSSING (R267, R268, R269). -/
def execMotorZeroCrossing (md : Fin 4) (x : Crossing) (s : State) : Host.Outcome State Fault Refusal :=
  let m := s.mot md.val
  doneIf (s.pd && s.has md.val && m.st == 3 && crossingSigns x && m.sampled x && decide (0 < crossingNs x))
    (s.mdCrossed md.val (crossingNs x) (x.afterNs - crossingNs x)) s

/-- R270 step 6: the commutations that an open-loop start has forced by now, the speed rising linearly to `MdHandoverSpeed` over
`MdStartRampTime` and staying there: six electrical steps for each pole pair and turn. -/
def State.forcedSteps (s : State) (n : Nat) : Nat :=
  let t := s.mono - (s.mot n).stAt
  let ramp := s.gn O.mdStartRampTime n * 1000
  let k := 6 * s.gn O.motorPolePairs n * s.gn O.mdHandoverSpeed n
  if t ≤ ramp then k * t * t / (2 * ramp * 60000000) else k * (2 * t - ramp) / (2 * 60000000)

/-- MOTOR_COMMUTATION (R264, R268, R270): the next of the six steps, in the order `MotorDirection` sets: after a crossing, or
forced in an open-loop start. -/
def execMotorCommutation (md : Fin 4) (s : State) : Host.Outcome State Fault Refusal :=
  let n := md.val
  let m := s.mot n
  let due := match m.commAt with | some t => s.reached t | none => false
  doneIf (s.pd && s.has n && ((m.st == 3 && due) || (m.st == 2 && decide (m.forced < s.forcedSteps n))))
    (s.motUpd n fun m => { m with
      step := (m.step + (if s.gn O.motorDirection n = 0 then 1 else 5)) % 6, commAt := none
      forced := if m.st = 2 then m.forced + 1 else m.forced }) s

/-! ### What the bridge of a channel is driven with (R264, R265, R267) -/

/-- R264: how a phase of a bridge is driven. -/
inductive Leg
  | high | low | float
deriving DecidableEq, Repr

/-- R264: the phases (0 U, 1 V, 2 W) of the six steps. The spec gives their order, not which phases step 0 drives: U high and V
low (PRESUMED, log entry 135). -/
def legOf (step phase : Nat) : Leg :=
  if phase = step / 2 % 3 then .high else if phase = ((step + 1) / 2 + 1) % 3 then .low else .float

/-- R264: how a phase of a channel is driven: all low in zero-vector braking (R276), off while the channel does not run (R263). -/
def State.leg (s : State) (n phase : Nat) : Leg :=
  let m := s.mot n
  if m.st = 6 then .low else if m.driven then legOf m.step phase else .float

/-- R270 step 6: the time after its start at which an open-loop start forces its commutation `c`, µs: when `State.forcedSteps`
reaches it. -/
def State.forcedTime (s : State) (n c : Nat) : Nat :=
  let ramp := s.gn O.mdStartRampTime n * 1000
  let k := 6 * s.gn O.motorPolePairs n * s.gn O.mdHandoverSpeed n
  let up (a b : Nat) : Nat := (a + b - 1) / b
  let sq := up (c * 2 * ramp * 60000000) k
  let t := if Nat.sqrt sq * Nat.sqrt sq = sq then Nat.sqrt sq else Nat.sqrt sq + 1
  if t ≤ ramp then t else up (up (c * 2 * 60000000) k + ramp) 2

/-- R268, R270: when the next commutation of a channel is due: after a crossing, or forced in an open-loop start. -/
def State.nextComm (s : State) (n : Nat) : Option Nat :=
  let m := s.mot n
  if m.st = 2 then some (m.stAt + s.forcedTime n (m.forced + 1)) else m.commAt

/-- R265: how much of the soft span before the next commutation, forced ones included, has passed, 0 to 1. DESIGN CHOICE (log
entry 161): with no plausible zero-crossing interval yet the span is 0. -/
def State.softened (s : State) (n : Nat) : Rat :=
  let m := s.mot n
  let span : Rat := ((s.gn O.mdCommSoften n * m.interval : Nat) : Rat) / 60000
  match s.nextComm n with
  | some t => if span = 0 then 0 else clampQ 0 1 (1 - ((t - s.mono : Nat) : Rat) / span)
  | none => 0

/-- R265: the part of its duty that a phase has: falling before it floats, rising before it is driven. -/
def State.legShare (s : State) (n phase : Nat) : Rat :=
  let next := ((s.mot n).step + (if s.gn O.motorDirection n = 0 then 1 else 5)) % 6
  match s.leg n phase, legOf next phase with
  | .float, .float => 0
  | .float, _ => s.softened n
  | _, .float => 1 - s.softened n
  | _, _ => 1

/-- R266, R267, R271: the on-time of the phase driven high in a PWM period, ns: the loop duty, and at least `MdBlanking` + 250 ns;
it ends where the cycle-by-cycle limit acts. -/
def State.onTimeNs (s : State) (n : Nat) : Rat :=
  let period : Rat := 1000000000 / (s.gn O.mdPwmFrequency n : Rat)
  let t := max (period * (s.gn O.motorDuty n : Rat) / 1000) ((s.gn O.mdBlanking n + 250 : Nat) : Rat)
  if (s.mot n).currentLimit then min t ((s.mot n).limitNs : Rat) else t

/-- R264: what is left of the period for the low-side switch of the phase driven high, `MdDeadTime` away at either end, ns. -/
def State.complementNs (s : State) (n : Nat) : Rat :=
  max 0 (1000000000 / (s.gn O.mdPwmFrequency n : Rat) - s.onTimeNs n - 2 * (s.gn O.mdDeadTime n : Rat))

/-- MOTOR_CROSSING_TIMEOUT (R269 kind 2): no crossing within 2 expected intervals. -/
def execMotorCrossingTimeout (md : Fin 4) (s : State) : Host.Outcome State Fault Refusal :=
  let n := md.val
  let m := s.mot n
  doneIf (s.pd && s.has n && m.st == 3 && decide (m.crossAt * 1000 + 2 * m.interval ≤ s.mono * 1000)) (s.mdSyncLost n 2) s

/-- MOTOR_COAST_WAIT_END (R270 step 2). -/
def execMotorCoastWaitEnd (md : Fin 4) (s : State) : Host.Outcome State Fault Refusal :=
  let n := md.val
  let m := s.mot n
  doneIf (s.pd && s.has n && m.st == 4 && m.recStep == 2 && s.reached m.waitUntil && !m.barred)
    (s.mdAttempt n (if s.mdCatch n then 3 else 4)) s

/-- MOTOR_CATCH_SPIN_END (R270 step 3): the crossing intervals (ns) seen within 500 ms and the back-EMF (mV). -/
def execMotorCatchSpinEnd (md : Fin 4) (intervals : List Nat) (bemfMv : Nat) (s : State) :
    Host.Outcome State Fault Refusal :=
  let n := md.val
  let m := s.mot n
  let l := intervals.take 3
  let rpm := s.mdRpm n (l.getLastD 0)
  let near := decide (absQ ((rpm : Rat) - s.mdModel n) * 10 ≤ s.mdModel n * 3)
  let sync := l.length == 3 && l.all (decide <| 0 < ·) && steady l && near
  let duty : Rat := if s.gn O.vmotVoltage 0 = 0 then 0 else (bemfMv : Rat) * 100 / (s.gn O.vmotVoltage 0 : Rat)
  let t := if sync then
      let s := (s.put O.motorSpeed n rpm).put O.motorDuty n (roundQ (clampQ 0 100 duty * 10))
      let s := s.motUpd n fun m => { m with ref := rpm * 1000, integ := clampQ 0 100 duty, interval := l.getLastD 0,
                                            crossAt := s.mono, recStep := 0 }
      (s.mdEnter n 3).raise (mdSync n) 3
    else (s.raise (mdSync n) 4).mdRetryLater n (if s.mdCatch n then 3 else 4)
  doneIf (s.pd && s.has n && m.st == 5 && m.recStep == 3 && (sync || s.past m.stAt 500000)) t s

/-- MOTOR_STOPPED (R270 step 4): the modelled speed is at most `MdStopSpeed`. -/
def execMotorStopped (md : Fin 4) (s : State) : Host.Outcome State Fault Refusal :=
  let n := md.val
  let m := s.mot n
  doneIf (s.pd && s.has n && m.st == 4 && m.recStep == 4 && !m.barred && decide (s.mdModel n ≤ (s.gn O.mdStopSpeed n : Rat)))
    (s.mdAttempt n 5) s

/-- MOTOR_ALIGN_END (R270 step 5). -/
def execMotorAlignEnd (md : Fin 4) (s : State) : Host.Outcome State Fault Refusal :=
  let n := md.val
  let m := s.mot n
  doneIf (s.pd && s.has n && m.st == 1 && s.past m.stAt (s.gn O.mdAlignTime n * 1000))
    ((s.motUpd n fun m => { m with recStep := 6, step := 0, forced := 0 }).mdEnter n 2) s

/-- MOTOR_START_HANDOVER (R270 step 6): six consecutive crossings within ±25 % at or above `MdHandoverSpeed`. -/
def execMotorStartHandover (md : Fin 4) (intervals : List Nat) (s : State) : Host.Outcome State Fault Refusal :=
  let n := md.val
  let m := s.mot n
  let last := intervals.getLastD 0
  let good := intervals.length == 6 && intervals.all (decide <| 0 < ·) && steady intervals &&
    intervals.all fun i => decide (s.gn O.mdHandoverSpeed n ≤ s.mdRpm n i)
  let rpm := s.mdRpm n last
  let t := s.put O.motorSpeed n rpm
  let t := t.motUpd n fun m => { m with ref := rpm * 1000, interval := last, crossAt := s.mono, recStep := 0,
                                        integ := (s.gn O.motorDuty n : Rat) / 10 }
  doneIf (s.pd && s.has n && m.st == 2 && good) ((t.mdEnter n 3).raise (mdSync n) 5) s

/-- MOTOR_START_TIMEOUT (R270 step 6): none by the ramp end plus 500 ms. -/
def execMotorStartTimeout (md : Fin 4) (s : State) : Host.Outcome State Fault Refusal :=
  let n := md.val
  let m := s.mot n
  doneIf (s.pd && s.has n && m.st == 2 && s.past m.stAt (s.gn O.mdStartRampTime n * 1000 + 500000))
    ((s.raise (mdSync n) 6).mdRetryLater n 5) s

/-- R254, R270: the attempt that follows `MdRetryDelay`, while the latch is clear and the command is not 0. -/
def State.mdRetry (s : State) (n : Nat) : State :=
  let m := s.mot n
  if m.retryPending && m.st != 6 && s.past m.tripAt (s.gn O.mdRetryDelay n * 1000) && !m.barred && m.cmd != 0 then
    let s := s.motUpd n fun m => { m with retryPending := false }
    if m.nextStep = 2 then s.mdWait n else s.mdAttempt n m.nextStep
  else s

/-- MOTOR_RETRY_DELAY (R270). -/
def execMotorRetryDelay (md : Fin 4) (s : State) : Host.Outcome State Fault Refusal :=
  doneIf (s.pd && s.has md.val) (s.mdRetry md.val) s

/-- MOTOR_CURRENT_LIMIT (R271): whether the cycle-by-cycle limit acted in the PWM period, and when; its on-time ends there. -/
def execMotorCurrentLimit (md : Fin 4) (hit : LimitHit) (s : State) : Host.Outcome State Fault Refusal :=
  let n := md.val
  doneIf (s.pd && s.has n && (s.mot n).driven)
    (s.motUpd n fun m => { m with
      currentLimit := hit.acted, limitNs := hit.atNs, limitSince := if m.currentLimit then m.limitSince else s.mono }) s

/-- MOTOR_LIMIT_TIME_TRIP (R271): the limit has acted in every PWM period for `MdLimitTime`. -/
def execMotorLimitTimeTrip (md : Fin 4) (s : State) : Host.Outcome State Fault Refusal :=
  let n := md.val
  let m := s.mot n
  doneIf (s.pd && s.has n && m.driven && m.currentLimit && s.past m.limitSince (s.gn O.mdLimitTime n * 1000)) (s.mdTrip n 1) s

/-- MOTOR_VDS_TRIP (R271, R276): a switch that is on above `MdVdsThreshold`; while zero-vector braking, a low-side
switch makes the channel fall back to coasting. -/
def execMotorVdsTrip (md : Fin 4) (lowSide : Bool) (s : State) : Host.Outcome State Fault Refusal :=
  let n := md.val
  let m := s.mot n
  doneIf (s.pd && s.has n && m.driven)
    (if m.st = 6 ∧ lowSide then ((s.mdCoast n 4).motUpd n fun m => { m with fellBack := true }).raise (mdSync n) 8
     else s.mdTrip n 0) s

/-- MOTOR_THERMAL_LATCH (R271, R253): 165 °C sets it, 140 °C clears it; a trip where the channel ran. -/
def execMotorThermalLatch (md : Fin 4) (set : Bool) (s : State) : Host.Outcome State Fault Refusal :=
  let n := md.val
  let m := s.mot n
  let t := s.motUpd n fun m => { m with latch := set }
  let t := if !set then (if m.retryPending then t.mdRetry n else if [0, 4].contains m.st then t.mdResume n else t)
    else if m.driven || m.st == 5 then t.mdTrip n 2 else t.raise (mdSource n) 2
  doneIf (s.pd && s.has n && m.latch != set) t s

/-- MOTOR_GATE_UV (R271): below the lockout the channel coasts, kind 4; no retry. -/
def execMotorGateUv (md : Fin 4) (s : State) : Host.Outcome State Fault Refusal :=
  let n := md.val
  let m := s.mot n
  let t := (s.mdLoss n).motUpd n fun m => { m with gateUv := true }
  let t := if m.driven || m.st == 5 then (t.mdCoast n 4).raise (mdSource n) 4 else t
  doneIf (s.pd && s.has n && !m.gateUv) t s

/-- GATE_SUPPLY_RECOVERED (R271, R270). -/
def execGateSupplyRecovered (md : Fin 4) (s : State) : Host.Outcome State Fault Refusal :=
  let n := md.val
  doneIf (s.pd && s.has n && (s.mot n).gateUv)
    ((s.motUpd n fun m => { m with gateUv := false }).mdResume n) s

/-- MOTOR_CLOCK_LOSS (R262): domain 10 absent for 10 µs: every channel coasts. -/
def execMotorClockLoss (s : State) : Host.Outcome State Fault Refusal :=
  doneIf s.pd (forEach s.strings s fun s n =>
    let s := (s.mdLoss n).motUpd n fun m => { m with clockLost := true }
    if (s.mot n).driven || (s.mot n).st == 5 then s.mdCoast n 4 else s) s

/-- R255, R270: a channel after its faults are cleared: no retry is counted, and it starts again where it has a speed
command. -/
def State.mdClear (s : State) (n : Nat) : State :=
  let held := (s.mot n).offsetFault
  let locked := (s.mot n).st == 7 && !held
  let s := s.motUpd n fun m => { m with retries := 0, lockedOff := held, retryPending := false, vdsTrip := false }
  let s := s.raise (mdSource n) 8
  let s := if locked then s.mdCoast n 0 else s
  if [0, 4].contains (s.mot n).st then s.mdResume n else s

/-- R14, R270: a host clear of a motor channel reaches the power die, which executes it or refuses and reports it. -/
def State.mdClearRequest (s : State) (n : Nat) : State :=
  if s.trusts && s.berthOk then (s.mdClear n).outputDone else s.refuseOut (.motorClear (Fin.ofNat 4 n))

/-- MOTOR_FAULT_CLEAR (R255 for motors, R474): like every output command it takes effect under R14. -/
def State.mdFaultClear (s : State) (mask : Nat) : State × Nat :=
  if 16 ≤ mask then refuse s 0x0305
  else if (List.range 4).any (fun n => bit mask n && !s.has n) then refuse s 0x0301
  else accept (forEach ((List.range 4).filter fun n => bit mask n) s fun s n => (s.sayC 2 (16 * (28 + n) + 8)).mdClearRequest n)

/-- MOTOR_FAULT_CLEAR (R255). -/
def execMotorFaultClear (req : Req) (mask : Byte) (s : State) : Host.Outcome State Fault Refusal :=
  s.request req O.motorFaultClear 0 fun s => s.mdFaultClear mask.toNat

/-- MOTOR_RETRY_COUNT_RESET (R270 as R254 item 4): 60 s of running without a trip; time off neither counts nor breaks it. -/
def execMotorRetryCountReset (md : Fin 4) (s : State) : Host.Outcome State Fault Refusal :=
  let n := md.val
  let m := s.mot n
  doneIf (s.pd && s.has n && decide (60000000 ≤ m.ran s.mono)) (s.motUpd n fun m => { m with retries := 0 }) s

/-! ### VMOT and the brake chopper -/

/-- R273, R277: every running channel coasts and sets VMOT_COAST; above `VmotAbsLimit` (`all`) every channel sets it. -/
def State.vmotCoastAll (s : State) (all : Bool) : State :=
  forEach s.strings s fun s n =>
    let run := (s.mot n).driven || (s.mot n).st == 5 || (s.mot n).st == 4
    let s := s.mdLoss n
    let s := if run then s.mdCoast n 4 else s
    if run || all then s.motUpd n fun m => { m with vmotCoast := true } else s

/-- R273: VMOT below `VmotUnderLevel`. -/
def State.vmotUnder (s : State) (mV : Nat) : State :=
  if decide (mV < s.gn O.vmotUnderLevel 0) && !s.vmot.under then
    (State.vmotCoastAll { s with vmot := { s.vmot with under := true, goodSince := none } } false).raise 0xCC 0
  else s

/-- R274: above `VmotRampHoldLevel`, and 1 V below it again. -/
def State.vmotHold (s : State) (mV : Nat) : State :=
  let all (s : State) (b : Bool) : State := forEach s.strings s fun s n => s.motUpd n fun m => { m with decelHeld := b }
  if decide (s.gn O.vmotRampHoldLevel 0 < mV) && !s.vmot.hold then
    (all { s with vmot := { s.vmot with hold := true } } true).raise 0xC8 0
  else if decide (mV + 1000 < s.gn O.vmotRampHoldLevel 0) && s.vmot.hold then
    all { s with vmot := { s.vmot with hold := false } } false
  else s

/-- R275: `BRK_G` on above `BrakeOnLevel`, off below `BrakeOffLevel`, while not faulty; R404, R420: off in moored entry and in
RETIRED. -/
def State.vmotBrake (s : State) (mV : Nat) : State :=
  if s.vmot.faulty || s.quiet then s
  else if decide (s.gn O.brakeOnLevel 0 < mV) && !s.vmot.brakeOn then
    State.raise { s with vmot := { s.vmot with brakeOn := true, onAt := s.mono, onMv := mV } } 0xC9 0
  else if decide (mV < s.gn O.brakeOffLevel 0) && s.vmot.brakeOn then
    { s with vmot := { s.vmot with brakeOn := false } }
  else s

/-- R276: a channel can brake: its bridge is not held off by a lost clock (R262), a low gate supply or a set latch (R271), by VMOT
above its limit (R277), or for good (R397); it is not braking, nor has it fallen back (DEDUCED, log entry 162). -/
def Motor.brakes (m : Motor) : Bool :=
  m.st != 6 && !m.fellBack && !m.vmotCoast && !m.clockLost && !m.gateUv && !m.latch && !m.offsetFault

/-- R276: zero-vector braking of a channel begins: what Table 8-4 had under way with it ends. -/
def State.mdBrake (s : State) (n : Nat) : State :=
  (((s.mdLoss n).mdEnter n 6).motUpd n fun m => { m with recStep := 0, commAt := none, currentLimit := false }).raise (mdSync n) 7

/-- R276, R270: zero-vector braking of a channel has ended; a locked-off channel coasts with STATE 7. -/
def State.mdBrakeEnd (s : State) (n : Nat) : State :=
  let s := s.motUpd n fun m => { m with fellBack := false }
  if (s.mot n).st = 6 || (s.mot n).st = 4 then
    if (s.mot n).lockedOff then s.mdCoast n 7 else (s.mdCoast n 4).mdResume n
  else s

/-- R276: zero-vector braking while the chopper is faulty and VMOT above `BrakeOnLevel`, until it is below `BrakeOffLevel`. -/
def State.vmotZero (s : State) (mV : Nat) : State :=
  let s := if s.vmot.faulty && s.ownsOutputs && !s.quiet && decide (s.gn O.brakeOnLevel 0 < mV) then
      forEach (s.strings.filter fun n => (s.mot n).brakes && decide ((s.mot n).ref * 102 < s.gn O.motorSpeed n * 100000)) s
        State.mdBrake
    else s
  if decide (mV < s.gn O.brakeOffLevel 0) then
    forEach (s.strings.filter fun n => (s.mot n).st == 6 || (s.mot n).fellBack) s fun s n => (s.mdLoss n).mdBrakeEnd n
  else s

/-- R277: VMOT against `VmotAbsLimit`: each time it comes to exceed it, 0xCB. -/
def State.vmotAbs (s : State) (mV : Nat) : State :=
  if decide (s.gn O.vmotAbsLimit 0 < mV) then
    let s := s.vmotCoastAll true
    let t : State := { s with vmot := { s.vmot with absLimit := true, absWait := true, goodSince := none } }
    if s.vmot.absLimit then t else t.raise 0xCB 0
  else { s with vmot := { s.vmot with absLimit := false } }

/-- R273, R277: since when VMOT has been good again. -/
def State.vmotGood (s : State) (mV : Nat) : State :=
  let good := (!s.vmot.absWait || decide (mV < s.gn O.brakeOffLevel 0)) &&
    (!s.vmot.under || decide (s.gn O.vmotUnderLevel 0 + 2000 ≤ mV))
  { s with vmot := { s.vmot with goodSince := if good then some (s.vmot.goodSince.getD s.mono) else none } }

/-- R273 to R277, R439: one output of the `VMOT_S` converter. -/
def State.vmotTake (s : State) (mV : Nat) : State :=
  let v := s.converted 7 mV (s.gn O.vmotVoltage 0)
  let t := (s.resumes 7).put O.vmotVoltage 0 v
  ((((t.vmotUnder v).vmotHold v).vmotBrake v).vmotAbs v).vmotZero v |>.vmotGood v

/-- VMOT_SAMPLE (R273 to R277): one conversion of `VMOT_S`, every 10 µs. -/
def execVmotSample (mV : Nat) (s : State) : Host.Outcome State Fault Refusal := doneIf s.pd (s.vmotTake mV) s

/-- VMOT_RECOVERY (R273, R277): good for 100 ms; the channels resume under R270. -/
def execVmotRecovery (s : State) : Host.Outcome State Fault Refusal :=
  let due := (s.vmot.under || s.vmot.absWait) && (match s.vmot.goodSince with | some t => s.past t 100000 | none => false)
  let t := { s with vmot := { s.vmot with under := false, absWait := false } }
  doneIf (s.pd && due) (forEach (s.strings.filter fun n => (s.mot n).vmotCoast) t fun s n =>
    (s.motUpd n fun m => { m with vmotCoast := false }).mdResume n) s

/-- BRAKE_FAULT_CHECK (R275): instance 0, 500 µs after turn-on; instance 1, from 20 µs after turn-on for 50 µs. -/
def execBrakeFaultCheck (inst : Fin 2) (vmotMv brkMa : Nat) (s : State) : Host.Outcome State Fault Refusal :=
  let v := s.vmot
  let bad := if inst.val = 0 then s.past v.onAt 500 && decide (v.onMv < vmotMv)
    else s.past v.onAt 70 && decide (brkMa * s.gn O.brakeResistorValue 0 * 10 < vmotMv * 1000)
  doneIf (s.pd && v.brakeOn && !v.faulty && bad)
    (State.raise { s with vmot := { v with brakeOn := false, faulty := true } } 0xCA inst.val) s

/-- R14, R275: a host clear of the chopper reaches the power die, which executes it or refuses and reports it. -/
def State.brakeClearRequest (s : State) : State :=
  if s.trusts && s.berthOk then State.outputDone { s with vmot := { s.vmot with faulty := false } } else s.refuseOut .brakeClear

/-- BRAKE_FAULT_CLEAR (R275): a write of true. -/
def State.brakeClear (s : State) (value : Nat) : State × Nat :=
  if 1 < value then refuse s 0x0303
  else accept (if value = 1 then (s.sayC 2 (16 * 32 + 8)).brakeClearRequest else s)

/-- BRAKE_FAULT_CLEAR (R275). -/
def execBrakeFaultClear (req : Req) (value : Nat) (s : State) : Host.Outcome State Fault Refusal :=
  s.request req O.brakeFaultClear 0 fun s => s.brakeClear value

/-! ### The dissipation governor -/

/-- R439: `LoadSwitchCurrent` of this millisecond. -/
def State.loadMa (s : State) (m : Dissipation) (n : Nat) : Nat :=
  s.converted 6 (m.lsMa.getD n 0) (s.gn O.loadSwitchCurrent n)

/-- R259, R251: contribution of a load switch, µW; 0 in LIMITING or within 1 ms of a trip. A channel that conducts without a
break has no edges. -/
def State.lsPower (s : State) (m : Dissipation) (n : Nat) : Nat :=
  let l := s.lsw n
  let i := s.loadMa m n
  if !l.on || l.limiting || (l.tripAt != 0 && decide (s.mono < l.tripAt + 1000)) then 0
  else
    let c := i * i * m.lsMohm.getD n 0 / 1000
    if l.share = 1000 || m.slewMvPerUs = 0 then c * l.share / 1000
    else c * l.share / 1000 + m.vauxMv * i * m.vauxMv * l.freq / (m.slewMvPerUs * 1000000)

/-- R259: contribution of a motor channel, µW. -/
def State.mdPower (s : State) (m : Dissipation) (n : Nat) : Nat :=
  let d := s.mot n
  if !d.driven || (d.tripAt != 0 && decide (s.mono < d.tripAt + 1000)) then 0
  else m.gateMa.getD n 0 * m.gateMv.getD n 0

/-- R185: the coil current that is set, mA: 0, the hold current in force, or `CoilPullInCurrent`. -/
def State.coilSetMa (s : State) (d : Nat) : Nat :=
  let v := s.drv d
  if !v.energised then 0 else if v.hold then v.holdMa else s.gn O.coilPullInCurrent d

/-- R185, R439: the coil current, mA: an energised driver without a flag of Table 6-3 reaches the lower of its setting and VAUX
divided by the coil resistance; any other reads what is measured; an output that a calibration replaces repeats the one before. -/
def State.coilMa (s : State) (m : Dissipation) (d : Nat) : Nat :=
  let v := s.drv d
  let r := m.coilLoad.getD d 0
  if s.th.repeats.contains 5 then s.gn O.coilCurrent d
  else if !v.energised || v.coilFlag || r = 0 then s.trimmed 5 (m.coilMa.getD d 0) else min (s.coilSetMa d) (m.vauxMv * 1000 / r)

/-- R259: contribution of a contactor driver, µW. -/
def State.cdPower (s : State) (m : Dissipation) (d : Nat) : Nat :=
  if (s.drv d).energised then s.coilMa m d * s.coilMa m d * m.coilMohm.getD d 0 / 1000 else 0

/-- R259: the mean of the last 100 estimates, µW. -/
def State.dissipation (s : State) : Nat := s.gov.window.sum / 100

/-- R452, R450: the supply readings of this millisecond, and the package's dissipation with the mean switch dissipation `sw`
(mW). -/
def State.readSupplies (s : State) (vauxMv sw : Nat) (x : Supplies) : State :=
  let s := (s.readVaux vauxMv).put O.vddcVoltage 0 (x.vddcMv : Nat)
  let s := s.put O.vddcCurrent 0 (x.vddcMa : Nat)
  let s := s.put O.vddioVoltage 0 (x.vddioMv : Nat)
  let s := s.put O.gateDriveVoltage 0 (x.gateMv : Nat)
  s.put O.packageDissipation 0 (min 65535 (x.vddcMv * x.vddcMa / 1000 + sw + x.restMw : Nat))

/-- DISSIPATION_ESTIMATE (R259): every 1 ms; `SwitchDissipation` is the mean over the last 100 ms. -/
def State.dissipate (s : State) (m : Dissipation) : State :=
  let t := forEach (List.range 16) s fun s n => (s.lswUpd n fun l => { l with contrib := if l.on then s.lsPower m n else l.contrib }).put
    O.loadSwitchCurrent n (s.loadMa m n)
  let t := forEach (List.range 16) t fun t n => t.put O.loadSwitchTemp n (clampI (-32768) 32767 (m.lsTemp.getD n 0))
  let t := forEach s.strings t fun t n => t.put O.motorTemp n (clampI (-32768) 32767 (m.mdTemp.getD n 0))
  let t := forEach s.strings t fun t n => t.motUpd n fun d => { d with contrib := if d.driven then s.mdPower m n else d.contrib }
  let t := forEach (List.range 12) t fun t d => t.put O.coilCurrent d (s.coilMa m d)
  let t := (t.resumes 5).resumes 6
  let sum := ((List.range 16).map (s.lsPower m)).sum + (s.strings.map (s.mdPower m)).sum +
    ((List.range 12).map (s.cdPower m)).sum
  let t := { t with gov := { t.gov with window := (sum :: t.gov.window).take 100 } }
  let mean : Nat := t.dissipation
  let budget : Nat := t.gn O.switchDissipationBudget 0 * 1000
  let t := { t with gov := { t.gov with
    excursion := t.gov.excursion && decide (budget < mean),
    okSince := if mean * 10 ≤ budget * 8 then some (t.gov.okSince.getD t.mono) else none } }
  let sw : Nat := (roundQ ((mean : Rat) / 1000)).toNat
  (t.put O.switchDissipation 0 (sw : Nat)).readSupplies m.vauxMv sw m.supply

/-- DISSIPATION_ESTIMATE: when it is due. -/
def execDissipationEstimate (m : Dissipation) (s : State) : Host.Outcome State Fault Refusal := doneIf s.pd (s.dissipate m) s

/-- R260: the order of shedding: priority number, then motors before load switches, then the higher number. A channel is
`(priority, isMotor, number)`. -/
def shedBefore (a b : Nat × Bool × Nat) : Bool :=
  decide (b.1 < a.1) || (a.1 == b.1 && ((a.2.1 && !b.2.1) || (a.2.1 == b.2.1 && decide (b.2.2 < a.2.2))))

/-- R260: the candidates for shedding: on, priority 1 to 7, not already shed. -/
def State.shedCandidates (s : State) : List (Nat × Bool × Nat) :=
  ((List.range 16).filterMap fun n =>
    let l := s.lsw n
    let p := s.gn O.loadSwitchPriority n
    if l.on && p != 0 && !l.shedGov && !l.shedBrown && !l.shedThermal then some (p, false, n) else none) ++
  (s.strings.filterMap fun n =>
    let m := s.mot n
    let p := s.gn O.motorPriority n
    if (m.driven || m.st == 5) && p != 0 && !m.shed && !m.shedThermal then some (p, true, n) else none)

/-- R260: the channel to shed first. -/
def State.shedPick (s : State) : Option (Nat × Bool × Nat) :=
  match s.shedCandidates with
  | [] => none
  | c :: cs => some (cs.foldl (fun b x => if shedBefore x b then x else b) c)

/-- R260, R261, R434: one channel shed, by the governor or by die temperature. -/
def State.shedOne (s : State) (c : Nat × Bool × Nat) (thermal : Bool) : State :=
  let n := c.2.2
  if c.2.1 then
    let s := (s.mdLoss n).motUpd n fun m => { m with shed := m.shed || !thermal, shedThermal := m.shedThermal || thermal }
    (s.mdCoast n 4).raise (mdSource n) (if thermal then 6 else 5)
  else
    let s := s.lswUpd n fun l => { l with shedGov := l.shedGov || !thermal, shedThermal := l.shedThermal || thermal }
    (s.lsOff n).raise (lsSource n) (if thermal then 7 else 6)

/-- R260, R261, R434: one channel restored; the notice follows where nothing else keeps it shed. -/
def State.restoreOne (s : State) (c : Nat × Bool × Nat) (thermal : Bool) : State :=
  let n := c.2.2
  if c.2.1 then
    let s := s.motUpd n fun m => { m with shed := m.shed && thermal, shedThermal := m.shedThermal && !thermal }
    if (s.mot n).shed || (s.mot n).shedThermal then s else (s.mdResume n).raise (mdSource n) 7
  else
    let s := s.lswUpd n fun l => { l with shedGov := l.shedGov && thermal, shedThermal := l.shedThermal && !thermal }
    if (s.lsw n).shedGov || (s.lsw n).shedThermal || (s.lsw n).shedBrown then s else (s.lsFollow n).raise (lsSource n) 9

/-- R260: the order of restoring: lowest priority number, load switches first, lower number. -/
def restoreBefore (a b : Nat × Bool × Nat) : Bool :=
  decide (a.1 < b.1) || (a.1 == b.1 && ((!a.2.1 && b.2.1) || (a.2.1 == b.2.1 && decide (a.2.2 < b.2.2))))

/-- R260, R434: the channels shed by the governor, or by die temperature. -/
def State.shedChannels (s : State) (thermal : Bool) : List (Nat × Bool × Nat) :=
  ((List.range 16).filterMap fun n =>
    let l := s.lsw n
    if (if thermal then l.shedThermal else l.shedGov) then some (s.gn O.loadSwitchPriority n, false, n) else none) ++
  (s.strings.filterMap fun n =>
    let m := s.mot n
    if (if thermal then m.shedThermal else m.shed) then some (s.gn O.motorPriority n, true, n) else none)

/-- R260: the channel to restore first. -/
def State.restorePick (s : State) (thermal : Bool) : Option (Nat × Bool × Nat) :=
  match s.shedChannels thermal with
  | [] => none
  | c :: cs => some (cs.foldl (fun b x => if restoreBefore x b then x else b) c)

/-- GOVERNOR_SHED (R260): at a 100 ms boundary at which the mean exceeds the budget. -/
def State.governorShed (s : State) : State :=
  let t := { s with gov := { s.gov with boundaryAt := s.mono } }
  match t.shedPick with
  | some c => t.shedOne c false
  | none => if t.gov.excursion then t else State.raise { t with gov := { t.gov with excursion := true } } 0xCF 0

/-- GOVERNOR_SHED: when it is due. -/
def execGovernorShed (s : State) : Host.Outcome State Fault Refusal :=
  let above := decide (s.gn O.switchDissipationBudget 0 * 1000 < s.dissipation)
  doneIf (s.pd && above && s.past s.gov.boundaryAt 100000) s.governorShed s

/-- R260: last estimated contribution of a channel, µW. -/
def State.contribution (s : State) (c : Nat × Bool × Nat) : Nat :=
  if c.2.1 then (s.mot c.2.2).contrib else (s.lsw c.2.2).contrib

/-- GOVERNOR_RESTORE (R260): 10 s at or below 0.8 × the budget; one channel that keeps the estimate at or below 0.9 ×
the budget; a further one after each further 10 s. -/
def State.governorRestore (s : State) : State :=
  let budget := s.gn O.switchDissipationBudget 0 * 1000
  let t := match s.restorePick false with
    | some c =>
      if (s.dissipation + s.contribution c) * 10 ≤ budget * 9 then s.restoreOne c false else s
    | none => s
  { t with gov := { t.gov with okSince := some s.mono } }

/-- GOVERNOR_RESTORE: when it is due. -/
def execGovernorRestore (s : State) : Host.Outcome State Fault Refusal :=
  let due := match s.gov.okSince with | some t => s.past t 10000000 | none => false
  doneIf (s.pd && due) s.governorRestore s

end Sys2Proof.Machine
end

