-- ==== Sys2Proof/Machine/Drivers.lean ====
section
/-! DEFINITION. Sys2Proof/Machine/Drivers.lean: the contactor drivers of chapter 6 as the power die holds them (R183 to
R187, R216, R235), the one-shot requests (R135 to R137), and the end of trust (R33). -/

namespace Sys2Proof.Machine

/-- R183: the string a driver serves. -/
def State.driverString (s : State) (d : Nat) : Nat := bits (s.gn O.contactorRole d) 5 4

/-- R183: the role of a driver: 0 positive main, 1 negative main, 2 pre-charge, 3 unused. -/
def State.driverRole (s : State) (d : Nat) : Nat := bits (s.gn O.contactorRole d) 1 0

/-- R14, R226, R404, R420: the power die accepts a request to energise a driver. -/
def State.mayEnergise (s : State) (d : Nat) : Bool :=
  s.pd && s.trusts && s.berthOk && !s.safeOff (s.stringOf d) && !s.quiet

/-- R187: a condition of Table 6-3 is present. -/
def Driver.has (v : Driver) (c : CoilFault) : Bool := v.conds.any fun e => e.1 == c

/-- R187: the flags whose conditions are absent clear. -/
def Driver.clearFlags (v : Driver) : Driver :=
  { v with
    openCoil := v.openCoil && v.has .openCoil, shortHs := v.shortHs && v.has .shortHs, shortLs := v.shortLs && v.has .shortLs,
    regulation := v.regulation && v.has .regulation, overtemp := v.overtemp && v.has .overtemp }

/-- R185, R187: a driver energised: both switches on, and the flags whose conditions are absent cleared. -/
def State.drvOn (s : State) (d : Nat) : State :=
  s.drvUpd d fun v => if v.energised then v else
    { v.clearFlags with energised := true, hs := true, ls := true, hold := false, energisedAt := s.mono, failsafe := false,
                        lowOff := false, pulse := 0 }

/-- R185, R354: a driver in economised hold, at the hold current set. -/
def State.drvHold (s : State) (d : Nat) : State :=
  s.drvUpd d fun v => { v with hold := true, holdAt := s.mono, holdMa := s.gn O.coilHoldCurrent d }

/-- R235: `CoilHoldCurrent` has been written: the driver in hold follows at once, or at the end of its off-pulse. -/
def State.holdSet (s : State) (d : Nat) : State :=
  s.drvUpd d fun v => if v.hold && v.pulse == 0 then { v with holdMa := s.gn O.coilHoldCurrent d } else v

/-- R216: a main that breaks a current above `OpenCurrentLimit` is counted. -/
def State.countBreak (s : State) (d : Nat) : State :=
  let i := (s.gi O.stringCurrent (s.driverString d)).natAbs
  if s.driverRole d < 2 && decide (s.gn O.openCurrentLimit 0 < i) then
    let s := s.bump O.loadBreakCount d
    if s.gn O.loadBreakPeak d < i then s.put O.loadBreakPeak d i else s
  else s

/-- R186, R235: the switches that are still on conduct, or the driver is de-energised; a pulse in progress ends unjudged. -/
def State.drvSwitch (s : State) (d : Nat) (hs ls : Bool) : State :=
  if hs && ls then s
  else if (s.drv d).energised then
    (s.countBreak d).drvUpd d fun v => { v with energised := false, hold := false, pulse := 0, hs := hs, ls := ls }
  else s.drvUpd d fun v => { v with pulse := 0, hs := hs, ls := ls }

/-- R186: a driver de-energised: both of its switches turn off. -/
def State.drvOff (s : State) (d : Nat) : State := s.drvSwitch d false false

/-- R234: a driver de-energised through whichever of its switches passed their last test; the other one is left as it is. -/
def State.drvCut (s : State) (d : Nat) : State :=
  s.drvSwitch d ((s.drv d).hs && !(s.drv d).hsOk) ((s.drv d).ls && !(s.drv d).lsOk)

/-- R220, R234: the power die itself de-energises every driver whose STRING is `n`, through the switches that passed. -/
def State.stringOff (s : State) (n : Nat) : State := forEach (s.driversIn n) s State.drvCut

/-- R19: a close or sequence-step request for a driver yields to an open request in the same inter-die frame or a
consecutive one, and to a hardware trip of its string that firmware has not acknowledged; the opening test, which R238
admits in TRIPPED, closes nothing (log entry 103). -/
def State.yields (s : State) (d : Nat) : Bool :=
  s.nearFrame (s.drv d).openReqAt || ((s.str (s.stringOf d)).tripBlock && s.otest.string != some (s.stringOf d))

/-- R14, R19: a request to energise a driver: executed, or refused and reported. -/
def State.requestOn (s : State) (d : Nat) : State :=
  if s.mayEnergise d && !s.yields d then
    ((s.drvOn d).drvUpd d fun v => { v with closeReqAt := some (s.commandFrame, s.mono) }).outputDone
  else s.refuseOut (.energise (Fin.ofNat 12 d))

/-- R14: a request to de-energise a driver: executed, or refused and reported; a close request in the same frame or the
one before is refused for it (R19). -/
def State.requestOff (s : State) (d : Nat) : State :=
  if s.trusts && s.berthOk && !s.safeOff (s.stringOf d) then
    let s := if s.nearFrame (s.drv d).closeReqAt then s.refuseOut (.energise (Fin.ofNat 12 d)) else s
    ((s.drvOff d).drvUpd d fun v => { v with openReqAt := some (s.commandFrame, s.mono) }).outputDone
  else s.refuseOut (.deenergise (Fin.ofNat 12 d))

/-- R355: a hardware trip switches a driver off; while the outputs are held too, when requests of the compute die are refused. -/
def State.tripOff (s : State) (d : Nat) : State :=
  if s.holds && s.dieLink then (s.drvOff d).drvUpd d fun v => { v with openReqAt := some (s.commandFrame, s.mono) }
  else s.requestOff d

/-- R192: the request to de-energise every driver whose STRING is `n`. -/
def State.askOff (s : State) (n : Nat) : State := forEach (s.driversIn n) s State.requestOff

/-- R192, R355: a trip switches every driver of a string off. -/
def State.tripStringOff (s : State) (n : Nat) : State := forEach (s.driversIn n) s State.tripOff

/-- Class 2 of Table 1-6: the request of the compute die to energise a driver is sent and, in the same step, acted on. -/
def State.commandOn (s : State) (d : Nat) : State := ((s.sayC 2 (16 * d + 1)).requestOn d).sayP 4 (4 * d + 3)

/-- Class 2 of Table 1-6: the request to de-energise a driver is sent and acted on. -/
def State.commandOff (s : State) (d : Nat) : State := ((s.sayC 2 (16 * d)).requestOff d).sayP 4 (4 * d + 3)

/-- A request to energise, or to de-energise, the drivers of a string in a role. -/
def State.roleOn (s : State) (n role : Nat) : State := forEach (s.driversOf n role) s State.commandOn

/-- See `State.roleOn`. -/
def State.roleOff (s : State) (n role : Nat) : State := forEach (s.driversOf n role) s State.commandOff

/-- The driver of a string in a role (0 where it has none). -/
def State.roleDriver (s : State) (n role : Nat) : Nat := (s.driversOf n role).headD 0

/-- The drivers of a string in a role are energised. -/
def State.roleEnergised (s : State) (n role : Nat) : Bool :=
  !(s.driversOf n role).isEmpty && (s.driversOf n role).all fun d => (s.drv d).energised

/-! ### One-shot requests (R135 to R137) -/

/-- R135, R136: what every one-shot request checks first: sequence 0, a retransmission, another one pending. `some`
answers at once with a status. -/
def State.shotGate (s : State) (k value : Nat) (bad : Bool) : Option Nat :=
  let q := value / 65536
  let mine := match (s.shot k).pending with | some p => p.1 == q | none => false
  if q ≠ 0 && ((s.shot k).done == q || mine) then some 0
  else if bad then some 0x0305
  else if (s.shot k).pending.isSome then some 0x0402
  else none

/-- R136: a request accepted while none of its kind is pending; 0x0402 otherwise. -/
def State.shotStart (s : State) (k seq target : Nat) : State :=
  s.shotUpd k fun o => { o with pending := some (seq, target), acceptedAt := s.mono }

/-- R136, R137: the pending request completes with the result's members. -/
def State.shotDone (s : State) (k result : Nat) (members : List Int) : State :=
  match (s.shot k).pending with
  | none => s
  | some (q, _) => (s.shotUpd k fun o => { o with pending := none, done := q }).putL result 0 members

/-- R136, R170, R173: the pending request of kind `k` completes with STATUS 3 (not run) and the members left at 0. -/
def State.shotNotRun (s : State) (k result zeros : Nat) : State :=
  match (s.shot k).pending with
  | none => s
  | some (q, t) => s.shotDone k result ((q : Int) :: (t : Int) :: 3 :: List.replicate zeros 0)

/-- R136, R240: the pending opening test completes with STATUS 3 (not run). -/
def State.testNotRun (s : State) : State := s.shotNotRun 4 O.contactorOpenTestResult 3

/-- R240: the opening test in progress ends with a status. -/
def State.testEnd (s : State) (status : Nat) : State :=
  let (q, t) := (s.shot 4).pending.getD (0, 0)
  let r : List Int := [q, t, status, s.otest.lastPassed, s.otest.dv, s.otest.failed]
  State.shotDone { s with otest := {} } 4 O.contactorOpenTestResult r

/-- R240: the opening test in progress ends with its driver de-energised at once, STATUS 2. -/
def State.testCut (s : State) : State :=
  match s.otest.string with
  | none => s
  | some n => (forEach (s.driversIn n) s State.drvOff).testEnd 2

/-! ### Fail-safe states and the end of trust -/

/-- R33, R32: a driver de-energised as a fail-safe action. -/
def State.drvFailSafe (s : State) (d : Nat) : State :=
  if (s.drv d).energised then (s.drvOff d).drvUpd d fun v => { v with failsafe := true } else s

/-- R33, R257, R272: every output's stored fail-safe state; contactors open. -/
def State.applyFailSafe (s : State) (inst : Nat) : State :=
  let s := forEach (List.range 12) s State.drvFailSafe
  let s := forEach (List.range 16) s State.lsFailSafe
  let s := forEach s.strings s State.mdFailSafe
  { s with wd := { s.wd with failSafe := true, failInst := inst } }

/-- R357: a device that does not hold the berth: drivers de-energised, load switches off, motors coasting. -/
def State.outputsOff (s : State) : State :=
  let s := forEach (List.range 12) s State.drvOff
  let s := forEach (List.range 16) s fun s n => (s.lswUpd n fun l => { l with mode := 0, retryPending := false }).lsOff n
  forEach s.strings s fun s n =>
    ((s.mdLoss n).mdCoast n (if (s.mot n).st = 7 then 7 else 0)).motUpd n fun m =>
      { m with cmd := 0, retryPending := false, recStep := 0 }

/-- R352, R359, R240: the claim withdrawn, with the reason that 0xEB carries; the outputs are held, what the alias served ends,
and an opening test with it. -/
def State.withdraw (s : State) (reason : Nat) (lock : Bool) : State :=
  let s := if s.running then s.aliasEnd.testCut else s.testCut
  let s := forEach s.strings s fun s r => s.ringUpd r fun x => { x with holderTrigger := s.mono, takeover := false }
  let s : State := { s with
    dup := { s.dup with
      out := false, request := false, claim := if lock then .lockout else .holding, lockHolding := lock,
      holdAt := s.mono, reason := reason, quietAt := s.mono, armed := false, arming := false } }
  (s.sayP 0 (32 + reason)).tell 0xEB reason

/-- TRUST_END (R33, R356): single device: fail-safe states at once; duplex: the claim is withdrawn. While the compute
die is in reset, or cannot be reached, the reason is kept for its next start (R41). -/
def State.trustEnd (s : State) (inst : Nat) : State :=
  if !s.wd.trusted then s else
  let s := { s with wd := { s.wd with trusted := false, goodWindows := 0, absentSince := s.mono } }
  let s := if s.cd && s.dieLink then s.raise 0xE3 inst else s.keepReason 0xE3 inst
  if s.dup.mode = 0 then s.applyFailSafe inst
  else if s.dup.out then s.withdraw 2 false else s

/-! ### Commands -/

/-- OUTPUT_REQUEST (R14, R185, R186, R251, R266): an output command of the compute die reaches the power die. -/
def execOutputRequest (r : OutReq) (s : State) : Host.Outcome State Fault Refusal :=
  doneIf s.pd (match r with
    | .energise d => s.requestOn d.val
    | .deenergise d => s.requestOff d.val
    | .loadSwitch n mode duty freq => s.lsRequest n.val mode duty freq
    | .motor n rpm => if s.has n.val then s.mdRequest n.val rpm else s
    | .lsClear n => s.lsClearRequest n.val
    | .motorClear n => if s.has n.val then s.mdClearRequest n.val else s
    | .brakeClear => s.brakeClearRequest) s

/-- PULL_IN_END (R185): after `CoilPullInTime` the driver is in economised hold. -/
def execPullInEnd (driver : Fin 12) (s : State) : Host.Outcome State Fault Refusal :=
  let d := driver.val
  let v := s.drv d
  doneIf (s.pd && v.energised && !v.hold && s.past v.energisedAt (s.gn O.coilPullInTime d * 1000)) (s.drvHold d) s

/-- R187: the flag of a condition of Table 6-3. -/
def Driver.fault (v : Driver) (c : CoilFault) : Driver :=
  match c with
  | .openCoil => { v with openCoil := true }
  | .shortHs => { v with shortHs := true }
  | .shortLs => { v with shortLs := true }
  | .regulation => { v with regulation := true }
  | .overtemp => { v with overtemp := true }

/-- R187, Table 6-3: when a condition can be detected; R354: REGULATION from 50 ms after a release. -/
def State.coilJudged (s : State) (d : Nat) (c : CoilFault) : Bool :=
  let v := s.drv d
  match c with
  | .openCoil => v.energised && s.past v.energisedAt 20000
  | .shortHs => v.energised
  | .shortLs => !v.energised || v.pulse == 2
  | .regulation => v.energised && v.hold && s.past v.holdAt 70000 && (s.dup.mode == 0 || s.past s.dup.quietAt 50000)
  | .overtemp => true

/-- R187: a condition is detected: its flag, 0x94 + string with the driver; SHORT_HS and OVERTEMP switch the driver off. -/
def State.coilFault (s : State) (d : Nat) (c : CoilFault) : State :=
  let s := s.drvUpd d fun v => { v.fault c with conds := (c, s.mono) :: v.conds.filter fun e => e.1 != c }
  let s := if c = .shortHs ∨ c = .overtemp then s.drvOff d else s
  s.raise (0x94 + s.stringOf d) d

/-- R187: a condition has ended: its flag stands until the driver is next energised without it, or clears now where the
driver has been energised anew since the condition was detected. -/
def State.coilCleared (s : State) (d : Nat) (c : CoilFault) : State :=
  s.drvUpd d fun v =>
    let again := v.energised && v.conds.any fun e => e.1 == c && decide (e.2 < v.energisedAt)
    let w := { v with conds := v.conds.filter fun e => e.1 != c }
    if again then w.clearFlags else w

/-- COIL_FAULT_DETECTED (R187): a condition of Table 6-3 is detected, or has ended. -/
def execCoilFaultDetected (driver : Fin 12) (c : CoilEvent) (s : State) : Host.Outcome State Fault Refusal :=
  let d := driver.val
  if c.present then doneIf (s.pd && s.coilJudged d c.cond) (s.coilFault d c.cond) s
  else doneIf s.pd (s.coilCleared d c.cond) s

end Sys2Proof.Machine
end

