-- ==== Sys2Proof/Machine/Contactors.lean ====
section
/-! DEFINITION. Sys2Proof/Machine/Contactors.lean: the contactor sequence, trips, derating and limits of chapter 6
(R188 to R217), the opening test of chapter 7 (R236 to R240), and the meanings of their commands. -/

namespace Sys2Proof.Machine

/-- Chapter 6: a time in ms rounded up to whole tallies, µs. -/
def State.tallies (s : State) (ms : Nat) : Nat := (ms * 1000 + s.fw.period - 1) / s.fw.period * s.fw.period

/-- |`StringCurrent`|, mA. -/
def State.amps (s : State) (n : Nat) : Nat := (s.gi O.stringCurrent n).natAbs

/-! ### Limits (R198 to R200) -/

/-- R198: fallback limits of a string, mA (charge, discharge). -/
def State.fallback (s : State) (n : Nat) : Int × Int :=
  let cap := s.gi O.stringCurrentCap n
  let f (v d : Int) : Int := min cap (v * d / 10000)
  (f (s.gi O.fallbackChargeCurrent n) (s.gi O.derateCharge n), f (s.gi O.fallbackDischargeCurrent n) (s.gi O.derateDischarge n))

/-- R199: applied limits of a string at a horizon: charge and discharge mA, charge and discharge W. -/
def State.applied (s : State) (n h : Nat) : Int × Int × Int × Int :=
  if s.seqState n ≠ 6 then (0, 0, 0, 0)
  else if [1, 2].contains (s.gn O.estimatorStringState n) then
    (s.gi O.chargeCurrentLimit (n * 3 + h), s.gi O.dischargeCurrentLimit (n * 3 + h),
     s.gi O.chargePowerLimit (n * 3 + h), s.gi O.dischargePowerLimit (n * 3 + h))
  else
    let f := s.fallback n
    (f.1, f.2, f.1 * s.gi O.stringVoltage n / 1000000, f.2 * s.gi O.stringVoltage n / 1000000)

/-- R199: `AppliedChargeLimit` and `AppliedDischargeLimit` of a string. -/
def State.setAppliedOf (s : State) (n : Nat) : State :=
  forEach [0, 1, 2] s fun s h =>
    let a := s.applied n h
    (s.put O.appliedChargeLimit (n * 3 + h) a.1).put O.appliedDischargeLimit (n * 3 + h) a.2.1

/-- R199: the applied limits of every string. -/
def State.setApplied (s : State) : State := forEach s.strings s State.setAppliedOf

/-- The CLOSED strings. -/
def State.closed (s : State) : List Nat := s.strings.filter fun n => s.seqState n == 6

/-- Median of a list; the mean of the two middle values of an even count. -/
def medianQ (l : List Rat) : Rat :=
  let m := l.mergeSort (fun a b => decide (a ≤ b))
  let k := m.length
  if k = 0 then 0 else if k % 2 = 1 then m.getD (k / 2) 0 else (m.getD (k / 2 - 1) 0 + m.getD (k / 2) 0) / 2

/-- The manifest cells of a string, by global cell number. -/
def State.stringCells (s : State) (n : Nat) : List Nat := (List.range (s.gn O.manifestCellCount n)).map fun p => n * 512 + p

/-- R332: position of the monitor that carries a manifest cell. -/
def State.monitorOf (s : State) (c : Nat) : Nat :=
  let r := cellRing c
  ((List.range (s.nMon r)).find? fun p =>
    decide (s.cellOf r p 0 ≤ c) && decide (c < s.cellOf r p 0 + (s.channels r p).length)).getD 0

/-- R146, R332: the table set of a cell's module. -/
def State.setOf (s : State) (c : Nat) : Nat := (s.gm O.manifestModule (monKey (cellRing c) (s.monitorOf c)) 3).toNat

/-- R146: the table file of a cell's set; empty where the set is not loaded. -/
def State.tableOf (s : State) (c : Nat) : List Byte := mget [] s.fab.tables (s.setOf c)

/-- R147: C_NOM, A·h. -/
def cNom (f : List Byte) : Rat := (leAt f 36 4 : Rat) / 1000

/-- Table 5-7 CAP_DEFAULT: a capacity has been learned. -/
def CellEst.learned (e : CellEst) : Bool := !e.capDefault && e.cap != 0

/-- R168, Table 5-7: C of a cell, A·h: as its estimate has it, as learned before, or C_NOM. -/
def State.cellCap (s : State) (c : Nat) : Rat :=
  let e := s.pub c
  if e.live || e.learned then e.cap else cNom (s.tableOf c)

/-- The median C of given cells, mA·h. DESIGN CHOICE (log entry 177): a threshold in C of a whole string takes the median of its
cells. -/
def State.medianCap (s : State) (cells : List Nat) : Rat := medianQ (cells.map fun c => s.cellCap c * 1000)

/-- R200: the share of a CLOSED string. -/
def State.share (s : State) (k : Nat) : Rat :=
  let n := s.closed.length
  let c := s.medianCap (s.closed.flatMap s.stringCells)
  let q := ((s.str k).hist.filter fun e => decide (s.mono < e.1 + 10000000) &&
    decide ((5 : Rat) * (n : Rat) * c ≤ (e.2.2.natAbs : Rat) * 100) && e.2.2 != 0)
  if q.length * s.fw.period < 1000000 then 1 / (n : Rat)
  else clampQ (1 / (2 * (n : Rat))) 1 ((q.map fun e => (e.2.1 : Rat) / (e.2.2 : Rat)).sum / (q.length : Rat))

/-- R200: the smallest of (limit / share), rounded toward zero; 0 for an empty list. -/
def minShare (l : List (Int × Rat)) : Int :=
  match l.map fun p => (p.1 : Rat) / p.2 with
  | [] => 0
  | q :: qs => (qs.foldl (fun a b => if b < a then b else a) q).floor

/-- BUS_LIMITS_UPDATE (R200): shares, bus current and power limits. -/
def State.busLimits (s : State) : State :=
  let cl := s.closed
  let opening := s.strings.any fun n => [7, 8].contains (s.seqState n)
  let sh := cl.map fun n => (n, s.share n)
  let s := forEach s.strings s fun s n => s.put O.stringCurrentShare n
    (match sh.find? (fun p => p.1 == n) with | some p => roundQ (p.2 * 10000) | none => 0)
  forEach [0, 1, 2] s fun s h =>
    let lim (f : Int × Int × Int × Int → Int) : Int :=
      if opening then 0 else minShare (sh.map fun p => (f (s.applied p.1 h), p.2))
    (((s.put O.busChargeCurrentLimit h (lim fun a => a.1)).put O.busDischargeCurrentLimit h (lim fun a => a.2.1)).put
      O.busChargePowerLimit h (lim fun a => a.2.2.1)).put O.busDischargePowerLimit h (lim fun a => a.2.2.2)

/-- R199, R200: applied limits of the strings, shares and bus limits, as the strings' states make them now. -/
def State.setLimits (s : State) : State := s.setApplied.busLimits

/-- R205, R202, R199, R200: a string enters a state of Table 6-10; where it comes to or leaves CLOSED, OPEN_REQ or OPENING,
the limits follow at once. -/
def State.enterSeq (s : State) (n st : Nat) : State :=
  let old := s.seqState n
  let s := (s.put O.stringContactorState n st).strUpd n fun x => { x with
    since := s.mono, phase := 0, openAt := none, endWelded := false, breakAt := none
    rampEnd := s.mono + s.tallies (s.gn O.openRampTimeout 0) }
  let s := if st = 7 then (s.put O.openPending n 1).put O.openDeadline n (s.now + s.gn O.openRampTimeout 0 * 1000 : Nat)
    else if st = 8 then s
    else s.put O.openPending n 0
  if [6, 7, 8].contains old || [6, 7, 8].contains st then s.setLimits else s

/-- R195: cause 3 counts as present for 60 s after the string has opened. -/
def State.enterOpen (s : State) (n st : Nat) : State :=
  let s := s.enterSeq n st
  if (s.str n).causes.contains 3 then
    s.strUpd n fun x => { x with causes := x.causes.erase 3, cause3Until := some (s.mono + 60000000) } else s

/-- R215, R236, R237: `WeldState` of a driver; a change commits the string's learned data within 1 s; proven open dates
the proof and ends due and overdue; welded raises 0x90 + n. -/
def State.setWeld (s : State) (d w : Nat) : State :=
  let n := s.driverString d
  let changed := s.gn O.weldState d != w
  let s := s.put O.weldState d w
  let s := if changed && !mhas s.flash.weldDirty n then
      { s with flash := { s.flash with weldDirty := mins s.flash.weldDirty n s.mono } } else s
  if w = 1 then
    (s.put O.openingProofTime d s.elapsed).drvUpd d fun v => { v with due := false, overdue := false, dueNow := false }
  else if w = 2 then s.raise (0x90 + n) d
  else s

/-- R194, R213: a driver of the string is welded. -/
def State.anyWelded (s : State) (n : Nat) : Bool := (s.stringDrivers n).any fun d => s.gn O.weldState d == 2

/-! ### Voltages (R188, R189) -/

/-- R189: the other strings that are CLOSED. -/
def State.closedOthers (s : State) (k : Nat) : List Nat := s.strings.filter fun n => n != k && s.seqState n == 6

/-- R189: V_bus for a string, mV. -/
def State.vBus (s : State) (k : Nat) : Int :=
  let l := s.closedOthers k
  if l.isEmpty then s.gi O.busVoltage 0
  else roundQ (((l.map fun n => s.gi O.stringVoltage n).sum : Int) / (l.length : Rat))

/-- R189: ΔV of a string, mV. -/
def State.deltaV (s : State) (k : Nat) : Int := s.gi O.stringVoltage k - s.vBus k

/-- R189: `JoinDelta` of every string, in every tally. -/
def State.setDeltas (s : State) : State := forEach s.strings s fun s n => s.put O.joinDelta n (s.deltaV n)

/-- R189: the bus is dead for a string. -/
def State.busDead (s : State) (k : Nat) : Bool :=
  (s.closedOthers k).isEmpty && decide (s.gi O.busVoltage 0 < s.gi O.busDeadLevel 0)

/-- R210: R_k + R_bus, µΩ; R_bus is the parallel combination of the CLOSED strings. -/
def State.joinOhms (s : State) (k : Nat) : Rat :=
  let g : Rat := ((s.closedOthers k).map fun n => if (s.str n).rUohm = 0 then (0 : Rat) else 1 / ((s.str n).rUohm : Rat)).sum
  ((s.str k).rUohm : Rat) + (if g = 0 then 0 else 1 / g)

/-- R210: the join conditions of a string. -/
def State.joinOk (s : State) (k : Nat) : Bool :=
  let dv := (s.deltaV k).natAbs
  [1, 2].contains (s.gn O.estimatorStringState k) && decide (dv ≤ s.gn O.joinDeltaMax 0) &&
    decide ((dv : Rat) * 1000000 ≤ (s.gn O.joinCurrentMax 0 : Rat) * s.joinOhms k)

/-- R206: a weld check of the string is conclusive. -/
def State.conclusive (s : State) (n : Nat) : Bool := decide (s.gn O.weldCheckMinDelta 0 ≤ (s.deltaV n).natAbs)

/-- R206: current that only a welded contactor lets flow. -/
def State.weldCurrent (s : State) (n : Nat) : Bool := decide (s.gn O.weldCurrentLimit 0 ≤ s.amps n)

/-! ### The opening test (R238 to R240) -/

/-- Table 7-4a: the role energised alone in a step. -/
def testRole (step : Nat) : Nat := if step = 1 then 0 else if step = 3 then 2 else 1

/-- Table 7-4a: the roles a step that passes proves open. -/
def testProves (step : Nat) : List Nat := if step = 1 ∨ step = 3 then [1] else [0, 2]

/-- R240: an interruption de-energises the driver at once, STATUS 2. -/
def State.testAbort (s : State) (n : Nat) : State :=
  if s.otest.string = some n then (if s.berthOk then (s.askOff n).testEnd 2 else s.testCut) else s

/-- R215: `WeldState` of the drivers of a string in a role. -/
def State.weldRole (s : State) (n role w : Nat) : State := forEach (s.driversOf n role) s fun s d => s.setWeld d w

/-- R240: a welded driver found: 0x90 + n, 0xA8 + n with KIND 3, the string in WELDED (unless a trip set it), STATUS 1. -/
def State.testWelded (s : State) (n role : Nat) (tripped : Bool) : State :=
  let d := s.roleDriver n role
  let s := (s.askOff n).weldRole n role 2
  let s := s.raise (0xA8 + n) (3 * 16 + d)
  let s := if tripped || !s.inManifest n then s else s.enterSeq n 11
  State.testEnd { s with otest := { s.otest with failed := 2 ^ d } } 1

/-- R239: a step energises its driver. DESIGN CHOICE (log entry 160): where the string has no driver in that role, or the power
die refuses the request, the step cannot be made and the test ends aborted, STATUS 2. -/
def State.testStep (s : State) (n step : Nat) : State :=
  let s := { s with otest := { s.otest with step := step, dropping := false, at' := s.mono } }
  let s := s.roleOn n (testRole step)
  if s.roleEnergised n (testRole step) then s else s.testAbort n

/-! ### Trips (R192, R209, R240) -/

/-- R240: the activation is that of 0xA8 + n with KIND 3 for a string in WELDED, which stays in WELDED (DESIGN CHOICE, log
entry 130: R192 would have its TRIP field take the string to TRIPPED). -/
def State.staysWelded (s : State) (n src inst : Nat) : Bool := s.seqState n == 11 && src == 0xA8 + n && inst / 16 == 3

/-- STRING_TRIP (R192, R205): every driver de-energised; a manifest string goes to TRIPPED with its `TripCause`, the
first that tripped it, and 0x80 + n. A fast-path trip among those evaluated together (`fast`), in PRECHARGE or in steps 2 or 4
of the opening test, also finds the positive main welded (R209, R240). -/
def State.tripString (s : State) (n src inst : Nat) (fast : Bool := src == 0x50 + n) : State :=
  let st := s.seqState n
  let i := s.amps n
  let s := (s.sayC 0 n).tripStringOff n
  if !s.inManifest n || s.staysWelded n src inst then s else
  let s := s.strUpd n fun x => { x with trip := if x.trip.isNone then some (i, s.mono) else x.trip, tripBlock := true }
  let s := if fast && st == 3 then
      let x := s.str n
      (s.putL O.prechargeResult n [3, x.dv0, x.i0, (x.tau.getD 0 / 1000 : Nat), s.now]).weldRole n 0 2
    else s
  let s := if s.otest.string = some n then
      if fast && [2, 4].contains s.otest.step then s.testWelded n 0 true else s.testAbort n
    else s
  let s := if st = 9 then s else
    (s.enterOpen n 9).putL O.tripCause n [1, 0, src, inst, s.now]
  s.raise (0x80 + n) src

/-- R194, R41, R240: a string whose drivers the power die opened as a fail-safe action; an opening test on it has ended. A
string that is TRIPPED already stays as it is (R192). -/
def State.failSafeTrip (s : State) (n src inst : Nat) : State :=
  let s := if s.otest.string = some n then s.testEnd 2 else s
  if s.seqState n = 9 then s else
  let s := (s.enterOpen n 9).putL O.tripCause n [1, 1, src, inst, s.now]
  s.raise (0x80 + n) src

/-- R41: after an end of trust with the compute die running, every string with a driver that reads FAILSAFE_OPENED. -/
def State.failSafeStrings (s : State) (src : Nat) : State :=
  forEach (s.strings.filter fun n => s.inManifest n &&
    (s.driversIn n).any fun d => (s.drv d).failsafe) s fun s n => s.failSafeTrip n src s.wd.failInst

/-- TRIP_OPEN_REQUEST (R14, R19, R192): the request of a hardware trip reaches the power die, which opens the string's
drivers or refuses it; closes stay blocked until the trip is acknowledged. Where the string is not yet TRIPPED, the lowest
latched source that trips it is the cause. -/
def execTripOpenRequest (string : Fin 4) (s : State) : Host.Outcome State Fault Refusal :=
  let n := string.val
  let t := (s.tripStringOff n).strUpd n fun x => { x with tripBlock := true }
  let cause := s.ev.latched.find? fun l => bit l.word (16 + n)
  doneIf (s.pd && s.has n && s.tripsCount) (match cause with
    | some l => if s.seqState n = 9 || !s.cd then t else t.tripString n l.src l.inst
    | none => t) s

/-! ### Causes and derating (R195, R196) -/

/-- R217: a close aborted: positive main, negative main, pre-charge off, the string to OPEN. -/
def State.abortClose (s : State) (n : Nat) : State := (((s.roleOff n 0).roleOff n 1).roleOff n 2).enterOpen n 0

/-- R205, R353, R362, R372: the device moves the strings through Table 6-10: a single device, or the holder of a pair once its
first step after a hand-over has run; a standby's strings follow MIRROR. -/
def State.sequences (s : State) : Bool := s.running && (s.dup.mode == 0 || s.dup.out && s.dup.taken == 0)

/-- REQUESTED_OPEN (R195, R217): a cause of Table 6-7 comes in: CLOSED goes to OPEN_REQ and raises 0x84 + n; a close in
progress is aborted. At a standby the cause waits for the first step after it has taken the berth. -/
def State.openCause (s : State) (n code : Nat) : State :=
  let s := s.strUpd n fun x => if x.causes.contains code then x else
    { x with causes := (code :: x.causes).mergeSort (fun a b => decide (a ≤ b)) }
  let st := s.seqState n
  if !s.sequences then s
  else if st = 6 then (s.enterSeq n 7).raise (0x84 + n) code
  else if 1 ≤ st ∧ st ≤ 5 then s.abortClose n
  else s

/-- R195: a cause whose condition has ended. -/
def State.dropCause (s : State) (n code : Nat) : State := s.strUpd n fun x => { x with causes := x.causes.erase code }

/-- Table 6-8: charge factor of a cause, %. -/
def chargeFactor (c : Nat) : Nat := if c = 1 ∨ c = 3 then 0 else if c = 2 then 100 else 50

/-- Table 6-8: discharge factor of a cause, %. -/
def dischargeFactor (c : Nat) : Nat := if c = 2 then 0 else if c = 1 ∨ c = 3 ∨ c = 8 then 100 else 50

/-- R196: the product of the factors in force, 0.01 %. -/
def derateProduct (f : Nat → Nat) (l : List Nat) : Int := roundQ (l.foldl (fun (q : Rat) c => q * (f c : Rat) / 100) 10000)

/-- R196: the causes in force become `l`; when a product changes, 0x88 + n for the cause, bit 7 set on clearing. -/
def State.setDerate (s : State) (n : Nat) (l : List Nat) (code : Nat) (cleared : Bool) : State :=
  let c := derateProduct chargeFactor l
  let d := derateProduct dischargeFactor l
  let changed := s.gi O.derateCharge n != c || s.gi O.derateDischarge n != d
  let s := ((s.strUpd n fun x => { x with derate := l }).put O.derateCharge n c).put O.derateDischarge n d
  if changed then s.raise (0x88 + n) (code + if cleared then 128 else 0) else s

/-- R196: a cause's condition is present now; the cause enters in the tally's contactor step. -/
def State.derateEnter (s : State) (n code : Nat) : State :=
  s.strUpd n fun x =>
    let x := { x with derateOk := mdel x.derateOk code }
    if x.derate.contains code || x.derateIn.contains code then x else { x with derateIn := code :: x.derateIn }

/-- DERATING_CHANGE (R196): the causes that have come in since the last contactor step enter, in ascending code: the clearings
of a tally follow its contactor step (DESIGN CHOICE, log entry 131). -/
def State.derateTally (s : State) : State :=
  forEach s.strings s fun s n =>
    let l := (s.str n).derateIn.mergeSort (fun a b => decide (a ≤ b))
    let s := s.strUpd n fun x => { x with derateIn := [] }
    forEach l s fun s c => s.setDerate n ((c :: (s.str n).derate).mergeSort (fun a b => decide (a ≤ b))) c false

/-- R196: a cause's condition is absent now; it clears by DERATING_CLEAR after 1 s. -/
def State.derateAbsent (s : State) (n code : Nat) : State :=
  s.strUpd n fun x => if (x.derate.contains code || x.derateIn.contains code) && !mhas x.derateOk code then
    { x with derateOk := mins x.derateOk code s.mono } else x

/-- R196: a cause clears. -/
def State.derateLeave (s : State) (n code : Nat) : State :=
  if (s.str n).derate.contains code then
    (s.setDerate n ((s.str n).derate.erase code) code true).strUpd n fun x => { x with derateOk := mdel x.derateOk code }
  else s

/-- The contactor step of this tally has not run yet. -/
def State.stepDue (s : State) : Bool :=
  s.fw.ticking && match (s.str 0).hist.head? with | some e => decide (e.1 < s.fw.tallyAt) | none => true

/-- R196: the causes of a string whose clearing time has passed, ascending: causes 1 to 4, 6 and 7 after 1 s; causes 5 and 8
with their flags. -/
def State.derateOver (s : State) (n : Nat) : List Nat :=
  ((s.str n).derateOk.filter fun p => s.past p.2 (if p.1 = 5 ∨ p.1 = 8 then 0 else 1000000)).map fun p => p.1

/-- DERATING_CLEAR (R196): after the tally's contactor step, in ascending code. -/
def execDeratingClear (string : Fin 4) (code : Fin 9) (s : State) : Host.Outcome State Fault Refusal :=
  let n := string.val
  doneIf (s.running && !s.stepDue && (s.derateOver n).head? == some code.val) (s.derateLeave n code.val) s

/-- R200: one tally enters the history of every string. -/
def State.logCurrents (s : State) : State :=
  let bus : Int := (s.closed.map fun n => s.gi O.stringCurrent n).sum
  forEach s.strings s fun s n => s.strUpd n fun x =>
    { x with hist := ((s.mono, s.gi O.stringCurrent n, bus) :: x.hist).filter fun e => decide (s.mono < e.1 + 10000000) }

/-- `StringCurrent` of the tallies published in the last second, mA. -/
def State.lastSecond (s : State) (n : Nat) : List Int :=
  ((s.str n).current.filter fun e => decide (s.mono < e.1 + 1000000)).map fun e => e.2

/-- R146, R201: mean of `StringCurrent` over the last second, mA. -/
def State.meanSecond (s : State) (n : Nat) : Rat :=
  let l := s.lastSecond n
  if l.isEmpty then 0 else (l.sum : Rat) / (l.length : Rat)

/-- R201: the mean exceeds the applied 2 s limit of a direction by more than the margin. -/
def State.overLimit (s : State) (n : Nat) (discharge : Bool) : Bool :=
  let m := if discharge then -s.meanSecond n else s.meanSecond n
  let a := s.gi (if discharge then O.appliedDischargeLimit else O.appliedChargeLimit) (n * 3)
  decide ((a : Rat) + (s.gn O.overLimitMargin n : Rat) < m)

/-- R201: since when the condition of a direction has held without a break. -/
def overNext (was : Option Nat) (isOver : Bool) (mono : Nat) : Option Nat := if isOver then some (was.getD mono) else none

/-- R201, R195: in each direction 0x98 + n when the condition begins. Cause 3 ends with the conditions, but once it opens the
string it stays until 60 s after that. -/
def State.judgeOver (s : State) (n : Nat) : State :=
  let x := s.str n
  let c := overNext x.overCharge (s.overLimit n false) s.mono
  let d := overNext x.overDischarge (s.overLimit n true) s.mono
  let s := s.strUpd n fun x => { x with overCharge := c, overDischarge := d }
  let s := if c.isSome && x.overCharge.isNone then s.raise (0x98 + n) 0 else s
  let s := if d.isSome && x.overDischarge.isNone then s.raise (0x98 + n) 0 else s
  if c.isNone && d.isNone && !([6, 7, 8].contains (s.seqState n)) then s.dropCause n 3 else s

/-! ### The sequence, tally by tally -/

/-- R209, Table 6-11: a pre-charge that fails with a code. -/
def State.prechargeFail (s : State) (n code : Nat) : State :=
  let x := s.str n
  let s := (((s.roleOff n 0).roleOff n 1).roleOff n 2)
  let s := s.putL O.prechargeResult n [(code : Nat), x.dv0, x.i0, (x.tau.getD 0 / 1000 : Nat), s.now]
  if code = 3 then (s.weldRole n 0 2).enterOpen n 11
  else
    let f := (s.mono :: x.fails).filter fun t => decide (s.mono < t + 900000000)
    let s := s.strUpd n fun y =>
      { y with fails := f, cooldownEnd := some (s.mono + s.gn O.prechargeCooldown n * 1000000) }
    (s.enterOpen n (if 3 ≤ f.length then 10 else 0)).raise (0x8C + n) code

/-- R208: the pre-charge is done: the positive main is energised. -/
def State.prechargeDone (s : State) (n : Nat) : State :=
  let x := s.str n
  let t := s.roleOn n 0
  if t.roleEnergised n 0 then
    (t.putL O.prechargeResult n [0, x.dv0, x.i0, (x.tau.getD 0 / 1000 : Nat), s.now]).enterSeq n 4
  else s

/-- R207, R208, Table 6-11: one tally of PRECHARGE with the checks; the current is judged in units of I_exp: I × R
against ΔV0. -/
def State.prechargeChecked (s : State) (n : Nat) : State :=
  let i := s.amps n
  let s := if (s.str n).t0.isNone && s.weldCurrent n then
      s.strUpd n fun x => { x with t0 := some s.mono, t0Tally := s.fw.tally, dv0 := s.deltaV n, i0 := s.gi O.stringCurrent n }
    else s
  let x := s.str n
  match x.t0 with
  | none => if s.past x.since (s.tallies (s.gn O.contactorCloseTime (s.roleDriver n 1))) then s.prechargeFail n 1 else s
  | some t0 =>
    let dv0 := x.dv0.natAbs
    let ir := i * s.gn O.prechargeResistance n
    let dv := (s.deltaV n).natAbs
    let tau := s.gn O.prechargeTau n * 1000
    if tallyDiff x.t0Tally s.fw.tally ≤ 1 && decide (3 * dv0 < ir) then s.prechargeFail n 3
    else if s.fw.tally = x.t0Tally && (decide (ir * 10 < 7 * dv0) || decide (13 * dv0 < ir * 10)) then s.prechargeFail n 2
    else
      let s := if x.tau.isNone && decide (dv * 1000 ≤ 368 * dv0) then
          s.strUpd n fun x => { x with tau := some (s.mono - t0) } else s
      let m := (s.str n).tau
      if (match m with | some m => decide (m * 10 < 7 * tau) | none => false) then s.prechargeFail n 4
      else if m.isNone && s.past t0 (tau * 13 / 10) then s.prechargeFail n 5
      else if decide (dv * 100 ≤ 5 * dv0) then s.prechargeDone n
      else if s.past t0 (5 * tau) then s.prechargeFail n 6
      else s

/-- R207, R208: one tally of PRECHARGE without the checks. -/
def State.prechargeUnchecked (s : State) (n : Nat) : State :=
  let close := s.tallies (s.gn O.contactorCloseTime (s.roleDriver n 1))
  let x := s.str n
  if !s.past x.since close then s
  else
    let s := if x.t0.isNone then s.strUpd n fun x => { x with t0 := some (x.since + close), t0Tally := s.fw.tally } else s
    if (s.deltaV n).natAbs ≤ s.gn O.joinDeltaMax 0 then s.prechargeDone n
    else if s.past (x.since + close) close then s.prechargeFail n 7 else s

/-- PRECHARGE_CHECK (R208). -/
def State.prechargeCheck (s : State) (n : Nat) : State :=
  if (s.str n).checks then s.prechargeChecked n else s.prechargeUnchecked n

/-- R212, R213: the positive main opens: OPENING. -/
def State.release (s : State) (n : Nat) : State :=
  let i := s.amps n
  (((s.roleOff n 0).enterSeq n 8)).strUpd n fun x => { x with openMa := i, actAt := s.mono }

/-- R212: `ContactorBreakMax` of the positive main. -/
def State.breakMax (s : State) (n : Nat) : Nat := s.gn O.contactorBreakMax (s.roleDriver n 0)

/-- R212: a string in OPEN_REQ is released to OPENING: the current is small, or the ramp time is over and the positive main may
break it. -/
def State.releaseOk (s : State) (n : Nat) : Bool :=
  decide (s.amps n ≤ s.gn O.openCurrentLimit 0) || s.reached (s.str n).rampEnd && decide (s.amps n ≤ s.breakMax n)

/-- R205 to R217: one tally of one string. -/
def State.stepString (s : State) (n : Nat) : State :=
  let s := s.judgeOver n
  let s := if s.gn O.stringCurrentSource n = 3 then s else s.dropCause n 1
  let st := s.seqState n
  if 1 ≤ st ∧ st ≤ 5 ∧ s.closeBlock n ≠ 0 then s.abortClose n
  else if st = 3 then s.prechargeCheck n
  else if st = 6 && s.causePresent n then (s.enterSeq n 7).raise (0x84 + n) ((s.str n).causes.headD 3)
  else if st = 7 && s.releaseOk n then s.release n
  else s

/-- R240: what interrupts the opening test, tally by tally. -/
def State.testWatch (s : State) : State :=
  match s.otest.string with
  | none => s
  | some n => if s.safeOff n || !s.berthOk || s.closeBlock n % 4 ≠ 0 then s.testAbort n else s

/-- STRING_CLOSE (R203). -/
def State.closeCommand (s : State) (n : Nat) : State × Nat :=
  let st := s.seqState n
  if 1 ≤ st ∧ st ≤ 6 then accept s
  else if st = 7 ∨ st = 8 then refuse s 0x0411
  else if 9 ≤ st then refuse s 0x0410
  else
    let b := s.closeBlock n
    if b ≠ 0 then
      refuse (s.raise (0x9C + n) ((List.range 32).find? (fun k => bit b k) |>.getD 0)) 0x0410
    else accept (s.enterSeq n 1)

/-- STRING_OPEN (R203, R217, R195: a host open raises no source). -/
def State.openCommand (s : State) (n : Nat) : State × Nat :=
  let st := s.seqState n
  if st = 6 then accept (s.enterSeq n 7)
  else if 1 ≤ st ∧ st ≤ 5 then accept (s.abortClose n)
  else accept s

/-- STRING_CLOSE (R203). -/
def execStringClose (req : Req) (string : Fin 4) (s : State) : Host.Outcome State Fault Refusal :=
  s.request req O.stringCommand string.val fun s => s.closeCommand string.val

/-- STRING_OPEN (R203). -/
def execStringOpen (req : Req) (string : Fin 4) (s : State) : Host.Outcome State Fault Refusal :=
  s.request req O.stringCommand string.val fun s => s.openCommand string.val

/-- R204: no string is in WELD_CHECK, PRECHARGE or CLOSING and no opening test runs. -/
def State.turnFree (s : State) : Bool :=
  s.otest.string.isNone && s.strings.all fun n => !([2, 3, 4].contains (s.seqState n))

/-- R238: the string that a pending opening test names. -/
def State.testWaits (s : State) : Option Nat :=
  match (s.shot 4).pending with | some (_, t) => if s.otest.string.isNone then some (t % 4) else none | none => none

/-- R136, R238, R322: the work of an opening test can run: the device is READY, and the string is of the manifest, its ring not
failed and its state one that permits the test. DESIGN CHOICE (log entry 184): a test that cannot run at its turn completes as
not run, and so does one of a string outside the manifest. -/
def State.testRuns (s : State) (n : Nat) : Bool :=
  s.ready && s.inManifest n && s.gn O.chainRingState n != 5 && [0, 9, 10].contains (s.seqState n)

/-- R204, R238: the string waits for its turn. -/
def State.waitsTurn (s : State) (n : Nat) : Bool :=
  s.seqState n == 1 || (s.seqState n == 5 && s.joinOk n) || s.testWaits == some n

/-- CLOSE_TURN_GRANTED (R204, R205, R238): the lowest waiting string starts: its pre-charge driver, or its test. -/
def State.grantTurn (s : State) (n : Nat) : State :=
  if s.testWaits == some n && !(s.seqState n == 1 || s.seqState n == 5) then
    if s.testRuns n then State.testStep { s with otest := { string := some n, dv := s.deltaV n } } n 1 else s.testNotRun
  else
    let t := s.roleOn n 2
    if t.roleEnergised n 2 then
      (t.enterSeq n 2).strUpd n fun x => { x with t0 := none, tau := none, dv0 := 0, i0 := 0 }
    else t

/-- CLOSE_TURN_GRANTED: when it is due. -/
def execCloseTurnGranted (string : Fin 4) (s : State) : Host.Outcome State Fault Refusal :=
  let n := string.val
  let first := s.strings.find? fun k => s.waitsTurn k
  doneIf (s.sequences && s.turnFree && first == some n) (s.grantTurn n) s

/-- WELD_CHECK_ELAPSED (R205, R206, R210): the weld check of a close. -/
def State.weldCheck (s : State) (n : Nat) : State :=
  let neg := s.roleDriver n 1
  if s.conclusive n && s.weldCurrent n then ((s.askOff n).setWeld neg 2).enterOpen n 11
  else
    let s := if s.conclusive n then s.setWeld neg 1 else s
    if s.busDead n || s.joinOk n then
      let t := s.roleOn n 1
      if t.roleEnergised n 1 then (t.enterSeq n 3).strUpd n fun x => { x with checks := s.conclusive n } else s
    else
      let s := s.roleOff n 2
      if s.gn O.joinWaitTimeout 0 = 0 then (s.enterOpen n 0).raise (0x9C + n) 0x20 else s.enterSeq n 5

/-- WELD_CHECK_ELAPSED: when it is due. -/
def execWeldCheckElapsed (string : Fin 4) (s : State) : Host.Outcome State Fault Refusal :=
  let n := string.val
  let wait := s.tallies (s.gn O.contactorCloseTime (s.roleDriver n 2) + s.gn O.weldCheckTime 0)
  doneIf (s.sequences && s.seqState n == 2 && s.past (s.str n).since wait) (s.weldCheck n) s

/-- PRECHARGE_DEADLINE (R207, R208): a deadline of Table 6-11 has come. -/
def execPrechargeDeadline (string : Fin 4) (s : State) : Host.Outcome State Fault Refusal :=
  doneIf (s.sequences && s.seqState string.val == 3) (s.prechargeCheck string.val) s

/-- PRECHARGE_COOLDOWN_END (R209). -/
def execPrechargeCooldownEnd (string : Fin 4) (s : State) : Host.Outcome State Fault Refusal :=
  let n := string.val
  doneIf (s.running && (match (s.str n).cooldownEnd with | some t => s.reached t | none => false))
    (s.strUpd n fun x => { x with cooldownEnd := none }) s

/-- CLOSING_CLOSE_TIME_ELAPSED (R205): the pre-charge contactor opens. -/
def execClosingCloseTimeElapsed (string : Fin 4) (s : State) : Host.Outcome State Fault Refusal :=
  let n := string.val
  doneIf (s.sequences && s.seqState n == 4 && (s.str n).phase == 0 &&
      s.past (s.str n).since (s.tallies (s.gn O.contactorCloseTime (s.roleDriver n 0))))
    ((s.roleOff n 2).strUpd n fun x => { x with phase := 1, actAt := s.mono }) s

/-- CLOSING_DROP_TIME_ELAPSED (R205): CLOSED. -/
def execClosingDropTimeElapsed (string : Fin 4) (s : State) : Host.Outcome State Fault Refusal :=
  let n := string.val
  doneIf (s.sequences && s.seqState n == 4 && (s.str n).phase == 1 &&
      s.past (s.str n).actAt (s.tallies (s.gn O.contactorDropTime (s.roleDriver n 2)))) (s.enterSeq n 6) s

/-- JOIN_WAIT_TIMEOUT (R211, R205). -/
def execJoinWaitTimeout (string : Fin 4) (s : State) : Host.Outcome State Fault Refusal :=
  let n := string.val
  doneIf (s.sequences && s.seqState n == 5 && s.past (s.str n).since (s.gn O.joinWaitTimeout 0 * 1000000))
    ((s.enterOpen n 0).raise (0x9C + n) 0x20) s

/-- OPEN_RAMP_TIMEOUT (R212): released unless the current exceeds `ContactorBreakMax`, which raises 0x98 + n. -/
def execOpenRampTimeout (string : Fin 4) (s : State) : Host.Outcome State Fault Refusal :=
  let n := string.val
  doneIf (s.sequences && s.seqState n == 7 && s.reached (s.str n).rampEnd)
    (if s.releaseOk n then s.release n
     else if (s.str n).breakAt.isSome then s
     else (s.strUpd n fun x => { x with breakAt := some s.mono }).raise (0x98 + n) 0) s

/-- BREAK_MAX_REPEAT (R212): every 1 s while the current stays above `ContactorBreakMax`. -/
def execBreakMaxRepeat (string : Fin 4) (s : State) : Host.Outcome State Fault Refusal :=
  let n := string.val
  doneIf (s.sequences && s.seqState n == 7 && decide (s.breakMax n < s.amps n) &&
      (match (s.str n).breakAt with | some t => s.past t 1000000 | none => false))
    ((s.strUpd n fun x => { x with breakAt := some s.mono }).raise (0x98 + n) 0) s

/-- OPENING_WELD_TEST (R213, R216): the test of the positive main, then the negative main opens. -/
def execOpeningWeldTest (string : Fin 4) (s : State) : Host.Outcome State Fault Refusal :=
  let n := string.val
  let pos := s.roleDriver n 0
  let x := s.str n
  let t := if 2 * s.gn O.weldCurrentLimit 0 ≤ x.openMa then
      if s.weldCurrent n then (s.weldRole n 0 2).strUpd n fun x => { x with endWelded := true } else s.weldRole n 0 1
    else s
  doneIf (s.sequences && s.seqState n == 8 && x.phase == 0 && x.openAt.isNone &&
      s.past x.actAt (s.tallies (s.gn O.contactorDropTime pos)))
    ((t.roleOff n 1).strUpd n fun x => { x with phase := 1, actAt := s.mono }) s

/-- OPENING_DROP_ELAPSED (R205, R213): OPEN, or WELDED; after a failure hand-over, R372. -/
def execOpeningDropElapsed (string : Fin 4) (s : State) : Host.Outcome State Fault Refusal :=
  let n := string.val
  let x := s.str n
  doneIf (s.sequences && s.seqState n == 8 && (match x.openAt with
      | some t => s.reached t
      | none => x.phase == 1 && s.past x.actAt (s.tallies (s.gn O.contactorDropTime (s.roleDriver n 1)))))
    (s.enterOpen n (if x.endWelded then 11 else 0)) s

/-- POST_TRIP_WELD_CHECK (R214). -/
def execPostTripWeldCheck (string : Fin 4) (s : State) : Host.Outcome State Fault Refusal :=
  let n := string.val
  let w := s.gn O.weldCurrentLimit 0
  match (s.str n).trip with
  | none => done s
  | some (i, at') =>
    let wait := max (s.gn O.contactorDropTime (s.roleDriver n 0)) (s.gn O.contactorDropTime (s.roleDriver n 1))
    let t := s.strUpd n fun x => { x with trip := none }
    doneIf (s.running && s.past at' (s.tallies wait))
      (if s.weldCurrent n && decide (2 * w ≤ i) then t.weldRole n 1 2 else t) s

/-- R193, R246: a cause still present for a string; of the receivers, those of used pairs (R223). -/
def State.tripCausePresent (s : State) (n : Nat) : Bool :=
  ((s.stringCells n).any fun c => (s.cell c).beyond || bit (s.gn O.cellFlags c) 0) ||
  ((List.range 256).any fun t => (s.temp (n * 256 + t)).beyond) ||
  ([0, 1].any fun c => (s.chan (n * 2 + c)).chargeSince.isSome || (s.chan (n * 2 + c)).dischargeSince.isSome) ||
  ((s.driversIn n).any fun d => (s.drv d).coilFlag || (s.drv d).offFailed || (s.driverRole d != 3 && (s.drv d).overdue)) ||
  s.demand n || s.safeOff n || s.ev.oscBad || s.ev.receiverBad.any (fun k => s.pairUsed (k / 2)) || s.ev.readbackBad

/-- R223, R246: what a receiver of a pair that is released has failed counts no longer. -/
def State.pairReleased (s : State) (p : Nat) : State :=
  { s with ev := { s.ev with receiverBad := s.ev.receiverBad.filter fun k => k / 2 != p } }

/-- R193: one named string after an accepted reset. -/
def State.resetString (s : State) (n : Nat) : State :=
  if [9, 10].contains (s.seqState n) then
    let s := (s.putM O.tripCause n 0 0).strUpd n fun x => { x with tripBlock := false }
    s.enterOpen n (if s.anyWelded n then 11 else 0)
  else s

/-- TRIP_RESET (R193, R246, R474). -/
def State.tripReset (s : State) (mask : Nat) : State × Nat :=
  let named := (List.range 4).filter fun n => bit mask n
  if 16 ≤ mask then refuse s 0x0305
  else if named.any fun n => s.has n && s.tripCausePresent n then refuse s 0x0412
  else if named.any fun n => !s.has n then refuse s 0x0301
  else
    let acts := (List.range 4).any fun n => bit mask n && [9, 10].contains (s.seqState n)
    let s := s.unlatch fun l => acts && l.trip != 0 && (List.range 4).all fun n => !bit l.trip n || bit mask n
    accept (forEach named s State.resetString)

/-- TRIP_RESET (R193). -/
def execTripReset (req : Req) (mask : Byte) (s : State) : Host.Outcome State Fault Refusal :=
  s.request req O.tripReset 0 fun s => s.tripReset mask.toNat

/-- R237: a driver is due at once (role assigned, or named by `WeldClear`). -/
def State.makeDue (s : State) (d : Nat) : State :=
  s.drvUpd d fun v => { v with dueNow := true, due := true, dueAt := s.elapsed, overdue := false }

/-- R215, R237, R474: each driver that `mask` names is unproven and due at once; a string in WELDED with no welded
driver left goes to OPEN. -/
def State.weldsCleared (s : State) (mask : Nat) : State :=
  let named := (List.range 12).filter fun d => bit mask d
  let s := forEach named s fun s d => (s.setWeld d 0).makeDue d
  forEach (s.strings.filter fun n => s.seqState n == 11 && !s.anyWelded n) s fun s n =>
    (s.strUpd n fun x => { x with tripBlock := false }).enterOpen n 0

/-- WELD_CLEAR (R215): the answer to the request. -/
def State.weldClear (s : State) (mask : Nat) : State × Nat :=
  if 4096 ≤ mask then refuse s 0x0305 else accept (s.weldsCleared mask)

/-- WELD_CLEAR (R215). -/
def execWeldClear (req : Req) (mask : BitVec 16) (s : State) : Host.Outcome State Fault Refusal :=
  s.request req O.weldClear 0 fun s => s.weldClear mask.toNat

/-- CURRENT_SOURCE_NONE_TIMEOUT (R195 cause 1). -/
def execCurrentSourceNoneTimeout (string : Fin 4) (s : State) : Host.Outcome State Fault Refusal :=
  let n := string.val
  doneIf (s.running && s.has n && (match (s.str n).noneSince with | some t => s.past t 10000000 | none => false))
    (s.openCause n 1) s

/-- R97, R332: the inputs that the manifest gives a module. -/
def State.moduleInputs (s : State) (r p : Nat) : List Nat :=
  (List.range 8).filter fun j => bit (s.gm O.manifestModule (monKey r p) 2).toNat j

/-- R197: the assigned inputs of a module: those that its manifest cells take. -/
def State.assignedInputs (s : State) (r p : Nat) : List Nat :=
  let l := (s.channels r p).map fun c => s.gn O.cellTempInput (s.cellOf r p c)
  (s.moduleInputs r p).filter fun j => l.contains (r * 256 + p * 8 + j)

/-- R197: local time since which every assigned input of a module has been lost. -/
def State.moduleLost (s : State) (r p : Nat) : Option Nat :=
  let l := (s.assignedInputs r p).map fun j => (s.temp (r * 256 + p * 8 + j)).lostSince
  if l.isEmpty || l.any Option.isNone then none else some ((l.map fun o => o.getD 0).foldl max 0)

/-- TEMP_INPUT_LOSS_TIMEOUT (R197): lost for 10 s, derating cause 6; for 300 s, requested-open cause 2. -/
def execTempInputLossTimeout (ring : Fin 4) (pos : Fin 32) (s : State) : Host.Outcome State Fault Refusal :=
  let n := ring.val
  match s.moduleLost n pos.val with
  | none => done s
  | some t0 =>
    let t := if s.past t0 10000000 then s.derateEnter n 6 else s
    doneIf (s.running && decide (pos.val < s.gn O.manifestModuleCount n))
      (if s.past t0 300000000 then t.openCause n 2 else t) s

/-- OVER_LIMIT_TIMEOUT (R201): the condition has held for `OverLimitTime`, requested-open cause 3. -/
def execOverLimitTimeout (string : Fin 4) (s : State) : Host.Outcome State Fault Refusal :=
  let n := string.val
  let held (o : Option Nat) : Bool := match o with | some t => s.past t (s.gn O.overLimitTime n * 1000000) | none => false
  doneIf (s.running && s.has n && (held (s.str n).overCharge || held (s.str n).overDischarge)) (s.openCause n 3) s

/-! ### The opening test's commands -/

/-- CONTACTOR_OPEN_TEST_REQUEST (R238, R135, R136). -/
def State.openTestRequest (s : State) (value : Nat) : State × Nat :=
  let n := value % 4
  match s.shotGate 4 value (bits value 15 2 != 0) with
  | some st => refuse s st
  | none =>
  if !s.ready || (s.dup.mode != 0 && s.berthState != 2) then refuse s 0x0413
  else if !s.has n then refuse s 0x0301
  else if !([0, 9, 10].contains (s.seqState n)) || s.safeOff n then refuse s 0x0413
  else if !s.conclusive n then refuse s 0x0414
  else if value / 65536 = 0 then refuse s 0x0301
  else
    let t := s.shotStart 4 (value / 65536) (value % 65536)
    accept (if s.testRuns n then t else t.testNotRun)

/-- CONTACTOR_OPEN_TEST_REQUEST (R238). -/
def execContactorOpenTestRequest (req : Req) (value : BitVec 32) (s : State) : Host.Outcome State Fault Refusal :=
  s.request req O.contactorOpenTestRequest 0 fun s => s.openTestRequest value.toNat

/-- R239: how long a step energises its driver. -/
def State.testTime (s : State) (n : Nat) : Nat :=
  s.tallies (s.gn O.contactorCloseTime (s.roleDriver n (testRole s.otest.step)) + s.gn O.weldCheckTime 0)

/-- OPEN_TEST_STEP_CHECK (R239, R240): the check in the last tally of the step, then its driver is de-energised. -/
def State.testCheck (s : State) (n : Nat) : State :=
  let st := s.otest.step
  if !s.conclusive n then (s.askOff n).testEnd 4
  else if s.weldCurrent n then
    let pre := decide (s.amps n * s.gn O.prechargeResistance n * 10 ≤ 15 * (s.deltaV n).natAbs)
    s.testWelded n (if st = 1 ∨ st = 3 then 1 else if pre then 2 else 0) false
  else
    let s := s.roleOff n (testRole st)
    { s with otest := { s.otest with dropping := true, passed := true, at' := s.mono } }

/-- OPEN_TEST_STEP_CHECK: when it is due. -/
def execOpenTestStepCheck (s : State) : Host.Outcome State Fault Refusal :=
  match s.otest.string with
  | none => done s
  | some n => doneIf (s.running && !s.otest.dropping && s.past s.otest.at' (s.testTime n)) (s.testCheck n) s

/-- OPEN_TEST_STEP_DROP_DONE (R239, R236): the drop wait ends; the step proves its drivers and the next begins, or the
test completes. -/
def State.testDropped (s : State) (n : Nat) : State :=
  let st := s.otest.step
  let t := forEach (testProves st) s fun s r => s.weldRole n r 1
  let t := { t with otest := { t.otest with lastPassed := st } }
  if st = 4 then t.testEnd 0 else t.testStep n (st + 1)

/-- OPEN_TEST_STEP_DROP_DONE: when it is due. -/
def execOpenTestStepDropDone (s : State) : Host.Outcome State Fault Refusal :=
  match s.otest.string with
  | none => done s
  | some n =>
    doneIf (s.running && s.otest.dropping &&
        s.past s.otest.at' (s.tallies (s.gn O.contactorDropTime (s.roleDriver n (testRole s.otest.step))))) (s.testDropped n) s

end Sys2Proof.Machine
end

