-- ==== Sys2Proof/Machine/SafetyFns.lean ====
section
/-! DEFINITION. Sys2Proof/Machine/SafetyFns.lean: the safety functions of chapter 7 (R222 to R246): the safety input
pairs, the safe-off path, the off-pulse tests and off-state checks, proof of opening, and the meanings of their
commands. -/

namespace Sys2Proof.Machine

/-- R222: channels of a pair that stand at the run level; a level counts once its filter has counted it. -/
def Pair.atRun (q : Pair) : Nat := b2n (q.counted.1 && q.a) + b2n (q.counted.2 && !q.b)

/-- R224: the instance byte of 0xA0 + p: which channels have left the run level. -/
def Pair.left (q : Pair) : Nat := word [!(q.counted.1 && q.a), !(q.counted.2 && !q.b)]

/-- R220, R226: the safe-off path applied to every driver: those whose STRING has safe-off asserted are switched off. -/
def State.safeOffApply (s : State) : State :=
  forEach (List.range 12) s fun s d =>
    if s.safeOff (s.stringOf d) then (s.drvOff d).drvUpd d fun v => { v with lowOff := true }
    else s.drvUpd d fun v => { v with lowOff := false }

/-- R226, Table 1-6: the frame of priority 0 for a pair's assertion or release. -/
def State.pairSay (s : State) (p : Nat) (asserted : Bool) : State := s.sayP 0 (16 + 2 * p + b2n asserted)

/-- R224, R226: safe-off asserted by a pair; the report of the assertion waits for SAFE_OFF_REPORT, or the power die
keeps it while the compute die cannot see it (R41). -/
def State.pairAssert (s : State) (p st : Nat) : State :=
  let inst := (s.pair p).left
  let s := (s.pairUpd p fun q => { q with st := st, since := s.mono, safeOff := true }).safeOffApply.pairSay p true
  if s.cd && s.dieLink then s.pairUpd p fun q => { q with report := some inst }
  else s.raise (0xA0 + p) inst

/-- R224, R226: safe-off released by a pair that goes to run, and the release reported; SELFTEST_FAIL ends with a release from
fault (Table 7-9). -/
def State.pairRelease (s : State) (p : Nat) : State :=
  (s.pairUpd p fun q => { q with st := 0, safeOff := false, selfTestFail := false, sawDemand := false, origin := none,
                                 releasing := s.cd && s.dieLink }).safeOffApply.pairSay p false

/-- R224: the pair goes to fault on a discrepancy. -/
def State.pairFault (s : State) (p : Nat) : State :=
  (s.pairUpd p fun q => { q with st := 3, safeOff := true, sawDemand := false, origin := none }).raise (0xA4 + p) 0

/-- R224: the pair's discrepancy time, µs. -/
def State.pairTd (s : State) (p : Nat) : Nat := s.pn O.safetyDiscrepancyTime p * 1000

/-- R224: t_D, counted from `since`, has expired. -/
def State.pairLate (s : State) (p : Nat) : Bool := decide ((s.pair p).since + s.pairTd p < s.mono)

/-- R224: a wait of at most t_D is running: discrepancy pending, or demand with exactly one channel at the run level. -/
def Pair.waits (q : Pair) : Bool := q.st == 2 || (q.st == 1 && q.atRun == 1)

/-- R224, fault row: one change of the pair in the fault state; `before` channels stood at run. A change into demand is
timed where both channels stood at run when it started, the change from both at demand to both at run always; a pair that
stands at demand again without having come from run starts the release sequence again. -/
def State.pairInFault (s : State) (p before : Nat) : State :=
  let q := s.pair p
  match q.atRun, before with
  | 1, 1 => s
  | 1, b => s.pairUpd p fun q => { q with since := s.mono, origin := some b }
  | 0, _ => s.pairUpd p fun q => { q with sawDemand := q.origin != some 2 || !s.pairLate p, origin := none }
  | _, _ => if q.sawDemand && q.origin == some 0 && !s.pairLate p then s.pairRelease p
            else s.pairUpd p fun q => { q with sawDemand := false, origin := none }

/-- Table 7-2: the state machine of a used pair after a change; `before` channels stood at the run level before it. -/
def State.pairStep (s : State) (p before : Nat) : State :=
  let q := s.pair p
  let n := q.atRun
  match q.st with
  | 0 => if n = 2 then s else s.pairAssert p (if n = 0 then 1 else 2)
  | 1 => if n = 2 then s.pairRelease p
         else if n = 1 && before != 1 then s.pairUpd p fun q => { q with since := s.mono } else s
  | 2 => if n = 0 then s.pairUpd p fun q => { q with st := 1 } else if n = 2 then s.pairRelease p else s
  | _ => s.pairInFault p before

/-- R225: a pair starts in demand with safe-off asserted, in silence: at a power-die reset, or when it becomes used. -/
def State.pairStart (s : State) (p : Nat) : State :=
  let s := s.pairUpd p fun q => { q with st := 1, safeOff := true, since := s.mono, selfTestFail := false,
                                         sawDemand := false, origin := none, report := none, releasing := false }
  (s.pairStep p 2).safeOffApply

/-- R406, R225: a pair at a wake: its input stage has just been switched on, so that each filter counts anew. -/
def State.pairWake (s : State) (p : Nat) : State :=
  State.pairStart (s.pairUpd p fun q => { q with counted := (false, false), heldA := s.mono, heldB := s.mono }) p

/-- R222: a level comes to a channel's ball: its filter starts anew. -/
def Pair.toBall (q : Pair) (chB level : Bool) (mono : Nat) : Pair :=
  if chB then { q with ballB := some level, heldB := mono } else { q with ballA := some level, heldA := mono }

/-- R222: a channel's filter counts a level. -/
def Pair.count (q : Pair) (chB level : Bool) : Pair :=
  if chB then { q with b := level, counted := (q.counted.1, true) } else { q with a := level, counted := (true, q.counted.2) }

/-- R222: a level stands at a channel's ball. -/
def Pair.atBall (q : Pair) (chB level : Bool) : Bool := (if chB then q.ballB else q.ballA) == some level

/-- R222: a level that the filter has not counted has held at a channel's ball for the filter time. -/
def State.levelCounts (s : State) (p : Nat) (chB level : Bool) : Bool :=
  let q := s.pair p
  let new := if chB then !q.counted.2 || q.b != level else !q.counted.1 || q.a != level
  new && s.past (if chB then q.heldB else q.heldA) (s.pn O.safetyInputFilter p)

/-- R223, R224: a channel's filter counts a level, and a used pair follows Table 7-2. A discrepancy time that ended before
has already put the pair in fault. -/
def State.countLevel (s : State) (p : Nat) (chB level : Bool) : State :=
  let s := if s.pairUsed p && (s.pair p).waits && s.pairLate p then s.pairFault p else s
  let before := (s.pair p).atRun
  let s := (s.sayP 3 (16 + 4 * p + 2 * b2n chB + b2n level)).pairUpd p fun q => q.count chB level
  if s.pairUsed p then s.pairStep p before else s

/-- SAFETY_INPUT_CHANGE (R222 to R224): a level at a channel's ball. One that is new there starts the filter; one that has held
for the filter time without a break counts; a shorter pulse is ignored (DEDUCED, log entry 128). While the device is moored
the input stage is off and counts nothing (R404). -/
def execSafetyInputChange (pair : Fin 4) (chB level : Bool) (s : State) : Host.Outcome State Fault Refusal :=
  let p := pair.val
  doneIf s.pwr.pdUp
    (if !(s.pair p).atBall chB level then s.pairUpd p fun q => q.toBall chB level s.mono
     else if !s.moored && s.levelCounts p chB level then s.countLevel p chB level else s) s

/-- SAFETY_DISCREPANCY_TIMEOUT (R224, R225): t_D expires. -/
def execSafetyDiscrepancyTimeout (pair : Fin 4) (s : State) : Host.Outcome State Fault Refusal :=
  let p := pair.val
  doneIf (s.pd && s.pairUsed p && (s.pair p).waits && s.pairLate p) (s.pairFault p) s

/-- SAFE_OFF_REPORT (R226): the report of an assertion reaches the compute die as 0xA0 + p with the channels that left
run; a release is reported and raises nothing. -/
def execSafeOffReport (pair : Fin 4) (asserted : Bool) (s : State) : Host.Outcome State Fault Refusal :=
  let p := pair.val
  if asserted then
    match (s.pair p).report with
    | none => done s
    | some inst => doneIf (s.pd && s.cd) ((s.pairUpd p fun q => { q with report := none }).raise (0xA0 + p) inst) s
  else doneIf (s.pd && s.cd && (s.pair p).releasing) (s.pairUpd p fun q => { q with releasing := false }) s

/-- R228: the receiver of a used pair follows, or not. A receiver that does not puts its pair in fault with safe-off
asserted and, when it begins to fail, raises 0xAC. -/
def State.receiverTest (s : State) (k : Nat) (follows : Bool) : State :=
  let p := k / 2
  if !s.pairUsed p then s
  else if follows then { s with ev := { s.ev with receiverBad := s.ev.receiverBad.erase k } }
  else
    let fresh := !s.ev.receiverBad.contains k
    let s := if (s.pair p).safeOff then s else s.pairSay p true
    let s := (s.pairUpd p fun q => { q with st := 3, safeOff := true, selfTestFail := true,
                                            sawDemand := if q.st = 3 then q.sawDemand else q.atRun == 0
                                            origin := if q.st = 3 then q.origin else none }).safeOffApply
    if fresh then
      State.raise { s with ev := { s.ev with receiverBad := s.ev.receiverBad ++ [k] } } 0xAC (p + k % 2 * 4)
    else s

/-- SAFETY_INPUT_SELF_TEST (R228): bit pair × 2 + channel of `follows` for each receiver. -/
def execSafetyInputSelfTest (follows : BitVec 8) (s : State) : Host.Outcome State Fault Refusal :=
  doneIf s.pd (forEach (List.range 8) s fun s k => s.receiverTest k (follows.getLsbD k)) s

/-- R229: a count within `pct` percent of its nominal value. -/
def countWithin (count nominal pct : Nat) : Bool :=
  decide (nominal * (100 - pct) ≤ count * 100) && decide (count * 100 ≤ nominal * (100 + pct))

/-- OSCILLATOR_CROSS_CHECK (R229): `count7` periods of domain 7 in 1,000 of domain 9, `count9` of domain 9 in 32,000 of
domain 7 (Table 1-4). Beyond 10 %, safe-off of every string and 0xAC instance 0x80, until within 5 % for 100 ms. -/
def execOscillatorCrossCheck (count7 count9 : Nat) (s : State) : Host.Outcome State Fault Refusal :=
  let near (pct : Nat) := countWithin count7 32000 pct && countWithin count9 1000 pct
  let t :=
    if !near 10 then
      let s1 : State := { s with ev := { s.ev with oscBad := true, oscGoodSince := none } }
      if s.ev.oscBad then s1 else (s1.safeOffApply.sayP 0 65).raise 0xAC 0x80
    else if !s.ev.oscBad then s
    else if !near 5 then { s with ev := { s.ev with oscGoodSince := none } }
    else match s.ev.oscGoodSince with
      | none => { s with ev := { s.ev with oscGoodSince := some s.mono } }
      | some t0 => if s.past t0 100000 then
          State.sayP (State.safeOffApply { s with ev := { s.ev with oscBad := false, oscGoodSince := none } }) 0 64 else s
  doneIf s.pd t s

/-! ### Off-pulse tests (R232 to R235) -/

/-- R234: a failed pulse or off-state check: counted, 0xA8 + n with its kind, the string de-energised. -/
def State.pulseFail (s : State) (d kind : Nat) : State :=
  let n := s.stringOf d
  ((s.bump O.offPulseFailures d).stringOff n).raise (0xA8 + n) (kind * 16 + d)

/-- R232: `OffPulseInterval`, µs. -/
def State.pulseInterval (s : State) : Nat := s.pn O.offPulseInterval 0 * 1000

/-- R232: how far the present off-pulse interval has run, µs. -/
def State.pulsePhase (s : State) : Nat := (s.mono - s.pwr.pulseFrom) % s.pulseInterval

/-- R232: the offset of a driver's low-side or high-side pulse from the interval start, in twenty-fourths of it: d / 12 or
(d + 0.5) / 12. -/
def pulseSlot (d : Nat) (highSide : Bool) : Nat := 2 * d + b2n highSide

/-- R232: local time of an offset of the present interval. -/
def State.slotAt (s : State) (slot : Nat) : Nat := s.mono - s.pulsePhase + (slot * s.pulseInterval + 23) / 24

/-- R232, R233: a driver's offset has come, the next offset has not, and nothing has been done at it. -/
def State.slotDue (s : State) (d : Nat) (highSide : Bool) : Bool :=
  let k := pulseSlot d highSide
  s.pulsePhase * 24 / s.pulseInterval == k && s.reached (s.slotAt k) &&
    match (if highSide then (s.drv d).testedHigh else (s.drv d).testedLow) with
    | some t => decide (t < s.slotAt k)
    | none => true

/-- R232, R233: a pulse or an off-state check has come at an offset. -/
def Driver.tested (v : Driver) (highSide : Bool) (mono : Nat) : Driver :=
  if highSide then { v with testedHigh := some mono } else { v with testedLow := some mono }

/-- OFF_PULSE_START (R232): at its offset, for a driver in economised hold, and beyond its first 10 ms at its first offset of
the interval; no two drivers are pulsed at once (DEDUCED, log entry 129). -/
def execOffPulseStart (driver : Fin 12) (highSide : Bool) (s : State) : Host.Outcome State Fault Refusal :=
  let d := driver.val
  let v := s.drv d
  let idle := (List.range 12).all fun k => (s.drv k).pulse == 0
  doneIf (s.pd && s.pulsesOk && v.energised && v.hold && decide (v.holdAt + 10000 ≤ s.slotAt (pulseSlot d false)) && idle &&
      s.slotDue d highSide)
    (s.drvUpd d fun v =>
      { v.tested highSide s.mono with pulse := if highSide then 2 else 1, pulseAt := s.mono, pulseJudged := false }) s

/-- OFF_PULSE_CHECK (R232, R234): 50 µs into a pulse the switch current must read below 20 mA. -/
def execOffPulseCheck (driver : Fin 12) (mA : Nat) (s : State) : Host.Outcome State Fault Refusal :=
  let d := driver.val
  let v := s.drv d
  let ok := decide (mA < 20)
  let t := s.drvUpd d fun v => if v.pulse = 1 then { v with pulseJudged := true, lsOk := ok }
    else { v with pulseJudged := true, hsOk := ok }
  doneIf (s.pd && v.pulse != 0 && !v.pulseJudged && s.past v.pulseAt 50) (if ok then t else t.pulseFail d (v.pulse - 1)) s

/-- OFF_PULSE_END (R232, R235): after `OffPulseWidth` the switch turns back on, and a hold current set meanwhile takes effect. -/
def execOffPulseEnd (driver : Fin 12) (s : State) : Host.Outcome State Fault Refusal :=
  let d := driver.val
  let v := s.drv d
  doneIf (s.pd && v.pulse != 0 && s.past v.pulseAt (s.pn O.offPulseWidth 0))
    ((s.drvUpd d fun v => { v with pulse := 0 }).holdSet d) s

/-- OFF_STATE_CHECK (R233, R234): a de-energised driver, at its two offsets; without the berth only the switch currents count
(R355). -/
def execOffStateCheck (driver : Fin 12) (hsMa lsMa coilMa : Nat) (s : State) : Host.Outcome State Fault Refusal :=
  let d := driver.val
  let ok := decide (hsMa < 20) && decide (lsMa < 20) && (decide (coilMa < 50) || (s.dup.mode != 0 && !s.dup.out))
  let high := s.slotDue d true
  let t := s.drvUpd d fun v =>
    { v.tested high s.mono with hsOk := decide (hsMa < 20), lsOk := decide (lsMa < 20), offFailed := !ok }
  doneIf (s.pd && s.pulsesOk && !(s.drv d).energised && (high || s.slotDue d false)) (if ok then t else t.pulseFail d 2) s

/-! ### Proof of opening (R236, R237) -/

/-- Microseconds in an hour. -/
def hourUs : Nat := 3600000000

/-- OPENING_PROOF_DUE (R237): the proof age reaches `OpeningProofInterval`. -/
def execOpeningProofDue (driver : Fin 12) (s : State) : Host.Outcome State Fault Refusal :=
  let d := driver.val
  let at' := s.gn O.openingProofTime d + s.gn O.openingProofInterval 0 * hourUs
  doneIf (s.running && s.driverRole d != 3 && !(s.drv d).due && decide (at' ≤ s.elapsed))
    (s.drvUpd d fun v => { v with due := true, dueAt := at' }) s

/-- OPENING_PROOF_OVERDUE (R237): `OpeningProofGrace` later, 0xA8 + n with KIND 4. -/
def execOpeningProofOverdue (driver : Fin 12) (s : State) : Host.Outcome State Fault Refusal :=
  let d := driver.val
  let v := s.drv d
  doneIf (s.running && s.driverRole d != 3 && v.due && !v.overdue &&
      decide (v.dueAt + s.gn O.openingProofGrace 0 * hourUs ≤ s.elapsed))
    ((s.drvUpd d fun v => { v with overdue := true }).raise (0xA8 + s.driverString d) (4 * 16 + d)) s

/-- R244: the objects of which the power die holds its own copies. -/
def copyObjs : List Nat :=
  [O.safetyInputMap, O.safetyInputFilter, O.safetyDiscrepancyTime, O.offPulseWidth, O.offPulseInterval, O.contactorRole]

/-- R244: one of the power die's copies has come to hold another value (nothing where the key names none). -/
def State.upsetCopy (s : State) (key v : Nat) : State :=
  if !(copyObjs.contains (key / 65536)) then s
  else if s.gn (key / 65536) (key % 65536) = v then { s with pwr := { s.pwr with copies := mdel s.pwr.copies key } }
  else { s with pwr := { s.pwr with copies := mins s.pwr.copies key v } }

/-- R244: the elements of an object are written: the power die's copies follow, and a readback is due. -/
def State.copySafety (s : State) (i : Nat) (subs : List Nat) : State :=
  if !(copyObjs.contains i) || subs.isEmpty then s
  else { s with
    pwr := { s.pwr with copies := subs.foldl (fun m k => mdel m (i * 65536 + k)) s.pwr.copies }
    fw := { s.fw with readbackDue := true } }

/-- R244: a readback compared: a mismatch raises 0xAD instance 1 and stays present until a readback agrees. -/
def State.readback (s : State) : State :=
  let bad := !s.pwr.copies.isEmpty
  let t : State := { s with
    ev := { s.ev with readbackBad := bad }, fw := { s.fw with readbackAt := s.mono, readbackDue := false } }
  if bad && !s.ev.readbackBad then t.raise 0xAD 1 else t

/-- SAFETY_CONFIG_READBACK (R244): every 1 s, and after each write. An upset of a copy comes with the readback that may find it
(DESIGN CHOICE, log entry 132). -/
def execSafetyConfigReadback (upset : Option CopyUpset) (s : State) : Host.Outcome State Fault Refusal :=
  let t := match upset with | some u => s.upsetCopy u.key u.value | none => s
  doneIf (s.running && (s.fw.readbackDue || s.past s.fw.readbackAt 1000000)) t.readback s

end Sys2Proof.Machine
end

