-- ==== Sys2Proof/Machine/Resets.lean ====
section
/-! DEFINITION. Sys2Proof/Machine/Resets.lean: what a compute-die reset and a power-die reset do (R15, R43, R396, R402):
which state ends and which the power die, the flash and the OTP store keep. -/

namespace Sys2Proof.Machine

/-- R262, R259, R185: what the power die measures of its outputs and publishes. -/
def outputElements : List Nat :=
  [O.coilCurrent, O.loadSwitchCurrent, O.switchDissipation, O.motorSpeed, O.motorDuty, O.motorCurrent, O.vmotVoltage]

/-- R429 to R432, R262: elements that show the power die's own sensors, the package stage it executes and what it measures of
its outputs. -/
def powerElement (i sub : Nat) : Bool :=
  outputElements.contains i ||
  ((i == O.dieSensorTemp || i == O.dieSensorState) && decide (6 ≤ sub)) || (i == O.dieTemperature && sub == 1) ||
    i == O.packageTemperature || (i == O.throttleStage && sub == 3)

/-- R340, R324: elements that a compute-die reset keeps: those of the saved configuration, which the power die's copies
and the configuration image hold (log entry 15), and those of the power die; every other element returns to its default. -/
def keptElement (key : Nat) : Bool :=
  powerElement (key / 65536) (key % 65536) || match objRow (key / 65536) with | some o => o.saved | none => false

/-- R16, R86, R90, R92, R439: what the power die keeps of a current channel while the compute die is in reset: its filter,
its fast path and its converter's faults. -/
def Chan.keep (c : Chan) : Chan :=
  { bits := c.bits, run := c.run, stuck := c.stuck, codes := c.codes, outs := c.outs, chargeSince := c.chargeSince,
    dischargeSince := c.dischargeSince, chargeRaised := c.chargeRaised, dischargeRaised := c.dischargeRaised, fault := c.fault,
    faultAt := c.faultAt, calFault := c.calFault, offset := c.offset, repeats := c.repeats }

/-- R31, R32: one side of the link as the link starts again, with the compute die; the frames it carried are counted on, so
that no frame after a start is consecutive with one before it. -/
def LinkSide.start (l : LinkSide) (mono : Nat) : LinkSide := { frames := l.frames + 2, lastValid := mono, sentAt := mono }

/-- R15, R43, R402: the compute die enters reset for a cause of Table 13-4. Its SRAM is zeroised: sessions, transfers,
queues, one-shot requests, rest points, counters and the log's open and staged records end (R384, R402). The power die,
flash and the OTP store keep theirs; device time goes on (R29). -/
def State.cdReset (s : State) (cause : Nat) : State :=
  { s with
    objs := s.objs.filter fun p => keptElement p.1
    pwr := { s.pwr with cdUp := false, cause := cause, flushed := false }
    wd := { s.wd with stopped := false }
    linkC := { frames := s.linkC.frames }, linkP := { s.linkP with delivered := none }
    refused := []
    strs := [], rings := (s.rings.filter fun e => e.2.asleep).map fun e => (e.1, { asleep := true })
    monitors := [], cells := [], temps := [], capture := {}
    chans := (s.chans.map fun e => (e.1, e.2.keep)).filter fun e => e.2 != {}
    ev := { s.ev with pending := [], later := [], latched := [], eventTimes := [] }
    fab := {}, shots := [], otest := {}, qlp := {}
    log := { pages := s.log.pages, current := s.log.current, gen := s.log.gen, failing := s.log.failing }
    dup := { s.dup with
      request := false, arming := false, hello := none, shadow := s.dup.shadow, sent := [], handover := 0, revert := false,
      matched := false, up := false }
    th := { s.th with
      deviant := s.th.deviant.filter fun e => decide (6 ≤ e.1), scopes := s.th.scopes.filter fun e => e.1 == 3, halved := false
      stageUs := [] }
    fw := {} }

/-- R15, R28, R41: a compute-die reset whose reason the power die keeps as a source for the next start. -/
def State.cdResetFor (s : State) (cause src inst : Nat) : State := (s.cdReset cause).keepReason src inst

/-- R426: the slot that the running image was not booted from. -/
def State.otherSlot (s : State) : Nat := 1 - s.flash.booted.getD s.flash.active

/-- R425: the verified slot goes to trial and the compute die resets; 0xF7 with instance 2 is raised at the next start. -/
def State.activateNow (s : State) : State :=
  (s.slotUpd s.otherSlot fun x => { x with st := 6, boots := 0 }).cdResetFor 10 0xF7 2

/-- R237: what made a driver due at once, its role assignment or a `WeldClear`, stands until its proof (DEDUCED, log
entry 28). -/
def State.keepDue (s t : State) : State :=
  forEach ((List.range 12).filter fun d => (s.drv d).dueNow) t fun t d =>
    t.drvUpd d fun v => { v with dueNow := true, due := true, dueAt := (s.drv d).dueAt }

/-- R393, R402: a power-die reset: every output off, both dies in reset, `AUXEN` undriven, the claim not asserted; flash,
the OTP store and the strap input survive. `mono` and device time stop with the supply (R303). -/
def State.pdReset (s : State) : State :=
  let t := s.cdReset 0
  s.keepDue { t with
    objs := []
    pwr := { vauxMv := s.pwr.vauxMv }
    clk := { mono := s.clk.mono, now := s.clk.now }
    wd := {}, linkP := {}, linkC := {}
    chans := [], drivers := [], ls := [], motors := [], vmot := {}, gov := {}, pairs := []
    ev := {}
    dup := { berthIn := s.dup.berthIn }
    th := {} }

end Sys2Proof.Machine
end

