-- ==== Sys2Proof/Machine/Architecture.lean ====
section
/-! DEFINITION. Sys2Proof/Machine/Architecture.lean: the two dies of chapter 1: lockstep (R15), the frequency monitor
(R28), the inter-die link (R31, R32), the serial watchdog (R33 to R35) and its escalation (R399), and the meanings of
their commands. -/

namespace Sys2Proof.Machine

/-- LOCKSTEP_MISMATCH (R15, R41): the compute die enters reset; 0xF1 is raised at its next start from the kept reason. -/
def execLockstepMismatch (s : State) : Host.Outcome State Fault Refusal :=
  doneIf s.cd (s.cdResetFor 4 0xF1 0) s

/-! ### Frequency monitor (R28) -/

/-- R28: a count departs from its expected value by more than 1 %, or 5 % in the fallback; `e8` is eight times the
expected count. -/
def clockFaulty (count e8 : Nat) (fallback : Bool) : Bool :=
  let pct := if fallback then 5 else 1
  decide (100 * 8 * count < (100 - pct) * e8) || decide ((100 + pct) * e8 < 100 * 8 * count)

/-- R28, Table 1-4: eight times the count of domain 1 in a gate: 200 MHz, halved while the first throttle stage is in
force; 244.14 µs of domain 8, or 244 µs of domain 7. -/
def State.expect1 (s : State) (byDomain8 : Bool) : Nat :=
  (if byDomain8 then 390625 else 390400) / (if s.th.halved then 2 else 1)

/-- R28: the same for domain 5, 240 MHz. -/
def expect5 (byDomain8 : Bool) : Nat := if byDomain8 then 468750 else 468480

/-- R28: the monitor gates with domain 8, or with domain 7; 0xE4 once for each loss of domain 8. -/
def State.gateBy (s : State) (byDomain8 : Bool) : State :=
  let t : State := { s with clk := { s.clk with fallback8 := !byDomain8 } }
  if !byDomain8 && !s.clk.fallback8 then t.raise 0xE4 0 else t

/-- R28: the domains that a gate finds faulty: 0 domain 1, 1 domain 5. -/
def State.gateFaults (s : State) (count1 count5 : Nat) (byDomain8 : Bool) : List Nat :=
  (if clockFaulty count1 (s.expect1 byDomain8) (!byDomain8) then [0] else []) ++
    (if clockFaulty count5 (expect5 byDomain8) (!byDomain8) then [1] else [])

/-- R28: a domain was faulty in the gate before. -/
def Clock.wasFaulty (c : Clock) (domain : Nat) : Bool := if domain = 0 then c.faulty1 else c.faulty5

/-- R28: the compute die held in reset by the monitor; one that a reset holds already is held on, without a second reset. -/
def State.holdForClock (s : State) : State :=
  let t := if s.cd then s.cdReset 5 else s
  { t with pwr := { t.pwr with holdClock := true, cause := 5 } }

/-- R28: a gate judged: each domain that becomes faulty is reported at the compute die's next start (R41), instance 0
first; the compute die is held until both have been good for 10 ms. -/
def State.judgeGate (s : State) (bad : List Nat) : State :=
  let fresh := bad.filter fun d => !s.clk.wasFaulty d
  let good := if !bad.isEmpty then none else if s.clk.clockGoodSince.isNone then some s.mono else s.clk.clockGoodSince
  let s : State := { s with clk := { s.clk with faulty1 := bad.contains 0, faulty5 := bad.contains 1, clockGoodSince := good } }
  let s := if bad.isEmpty || s.pwr.holdClock then s else s.holdForClock
  forEach fresh s fun s d => s.keepReason 0xE8 d

/-- CLOCK_MONITOR_GATE (R28): every gate while the main PLL runs. -/
def execClockMonitorGate (count1 count5 : Nat) (byDomain8 : Bool) (s : State) : Host.Outcome State Fault Refusal :=
  doneIf (s.pd && s.pwr.pll) ((s.gateBy byDomain8).judgeGate (s.gateFaults count1 count5 byDomain8)) s

/-- DOMAIN8_LOSS (R28): the fallback, and 0xE4 once for each loss. -/
def execDomain8Loss (s : State) : Host.Outcome State Fault Refusal := doneIf (s.pd && !s.clk.fallback8) (s.gateBy false) s

/-! ### Inter-die link (R31, R32) -/

/-- R31, R32: a frame is intact, judged by its CRC. -/
def frameIntact (f : LinkFrame) : Bool := f.crc == linkCrc f.type f.seq f.payload

/-- R32: the sender's frames from the one a resend request names, ahead of any new frame; none where it is no longer
kept. The request's payload carries the number in its first byte (DEDUCED, log entry 16). -/
def LinkSide.resendFrom (l : LinkSide) (q : Byte) : Option LinkSide :=
  match l.sent.findIdx? (fun f => f.seq == q) with
  | some k => some { l with resend := l.sent.drop k }
  | none => none

/-- R32: a bad frame: discarded, the resend requested. -/
def LinkSide.badFrame (l : LinkSide) : LinkSide :=
  { l with bad := l.bad + 1, await := true, requests := l.requests ++ [l.next] }

/-- R32: a frame with the expected number. A request for a frame no longer kept counts as a bad frame; any other is valid
and ends a run of bad frames. -/
def LinkSide.take (l : LinkSide) (f : LinkFrame) (mono : Nat) : LinkSide :=
  let t := { l with next := l.next + 1, await := false, delivered := some f }
  let valid := { t with bad := 0, lastValid := mono }
  if f.type = Config.linkTypeResend then
    (valid.resendFrom (f.payload.setWidth 8)).getD { t with bad := l.bad + 1 }
  else valid

/-- R32: a frame at a receiver: the side after it, and whether it counts in `InterDieLinkErrors`. A valid frame that is
discarded while a resend is awaited leaves the count of consecutive bad frames as it is, and is a valid frame for the 50 µs
(DESIGN CHOICE, log entry 145). -/
def LinkSide.receive (l : LinkSide) (f : LinkFrame) (mono : Nat) : LinkSide × Bool :=
  if !frameIntact f then (l.badFrame, true)
  else if f.seq = l.next then (l.take f mono, false)
  else if l.await then ({ l with lastValid := mono }, false)
  else (l.badFrame, true)

/-- R32: the power die declares the link lost. -/
def State.powerLinkLost (s : State) : State := { s with linkP := { s.linkP with lost := true } }

/-- R32: the compute die declares the link lost, raises 0xE9 and stops answering the watchdog. -/
def State.computeLinkLost (s : State) (inst : Nat) : State :=
  if s.linkC.lost then s else
  State.raise { s with linkC := { s.linkC with lost := true }, wd := { s.wd with stopped := true } } 0xE9 inst

/-- INTERDIE_FRAME_RECEIVED (R31, R32): at the power die, or at the compute die. -/
def execInterdieFrameReceived (atPower : Bool) (f : LinkFrame) (s : State) : Host.Outcome State Fault Refusal :=
  if atPower then
    let r := s.linkP.receive f s.mono
    let t : State := { s with linkP := r.1 }
    doneIf s.pd (if 8 ≤ r.1.bad then t.powerLinkLost else t) s
  else
    let r := s.linkC.receive f s.mono
    let t : State := { s with linkC := r.1 }
    let t := if r.2 then t.bump O.interDieLinkErrors 0 else t
    doneIf s.cd (if 8 ≤ r.1.bad then t.computeLinkLost 0 else t) s

/-- INTERDIE_LINK_TIMEOUT (R32): 50 µs without a valid frame. -/
def execInterdieLinkTimeout (atPower : Bool) (s : State) : Host.Outcome State Fault Refusal :=
  if atPower then doneIf (s.pd && s.past s.linkP.lastValid 50) s.powerLinkLost s
  else doneIf (s.cd && s.past s.linkC.lastValid 50) (s.computeLinkLost 1) s

/-- R31: a new frame of a type, numbered; the sender keeps its last 16 (R32). -/
def LinkSide.sendNew (l : LinkSide) (type : Byte) (payload : BitVec 48) (mono : Nat) : LinkSide :=
  let f : LinkFrame := { type := type, seq := l.txSeq, payload := payload, crc := linkCrc type l.txSeq payload }
  { l with txSeq := l.txSeq + 1, frames := l.frames + 1, sent := (l.sent ++ [f]).drop (l.sent.length - 15), sentAt := mono }

/-- Table 1-6: the message that goes next: the first to have arrived of the highest-priority class that waits. -/
def LinkSide.first (l : LinkSide) : Option LinkMsg :=
  [0, 1, 2, 3, 4, 5].findSome? fun c => l.waiting.find? fun m => m.cls == c

/-- R31, R32: something waits to be sent. -/
def LinkSide.busy (l : LinkSide) : Bool := !l.requests.isEmpty || !l.resend.isEmpty || l.first.isSome

/-- R31, R32, Table 1-6: the frame a side sends next: a resend request first (class 0, which waits for no other traffic),
then frames to be sent again, ahead of any new one, then the classes in their order, else an idle frame. -/
def LinkSide.sendNext (l : LinkSide) (mono : Nat) : LinkSide :=
  match l.requests, l.resend, l.first with
  | q :: qs, _, _ => { l with requests := qs }.sendNew Config.linkTypeResend (q.setWidth 48) mono
  | [], _ :: fs, _ => { l with resend := fs, frames := l.frames + 1, sentAt := mono }
  | [], [], some m =>
    { l with waiting := l.waiting.erase m }.sendNew (Config.linkType m.cls) (Config.linkPayload m.cls m.content) mono
  | [], [], none => l.sendNew Config.linkTypeIdle Config.linkStatus mono

/-- R31: one microsecond of a side with something to send: five frames of 200 ns. -/
def LinkSide.sendUs (l : LinkSide) (mono : Nat) : LinkSide :=
  (List.range 5).foldl (fun l _ => if l.busy then l.sendNext mono else l) l

/-- R31: one microsecond of both directions, of the dies that are out of reset. -/
def State.linkUs (s : State) : State :=
  { s with
    linkP := if s.pd then s.linkP.sendUs s.mono else s.linkP
    linkC := if s.cd then s.linkC.sendUs s.mono else s.linkC }

/-- INTERDIE_IDLE_SEND (R32): 10 µs after the last frame. -/
def execInterdieIdleSend (fromPower : Bool) (s : State) : Host.Outcome State Fault Refusal :=
  if fromPower then
    doneIf (s.pd && s.past s.linkP.sentAt 10) { s with linkP := s.linkP.sendNext s.mono } s
  else doneIf (s.cd && s.past s.linkC.sentAt 10) { s with linkC := s.linkC.sendNext s.mono } s

/-! ### Serial watchdog (R33 to R35) -/

/-- R33, R41, R194: trust ends; with the compute die running in a single device, strings whose drivers the power die
opened go to TRIPPED. `WatchdogFailures` counts the ends of trust (DEDUCED, log entry 17). -/
def State.trustLost (s : State) (inst : Nat) : State :=
  if !s.wd.trusted then s else
  let t := s.trustEnd inst
  if s.cd && s.dieLink then
    let t := t.bump O.watchdogFailures 0
    if s.running && s.dup.mode = 0 then t.failSafeStrings 0xE3 else t
  else t

/-- WATCHDOG_ANSWER (R33, R34): answer `k` arrives `at9` µs of domain 9 after the window start. A wrong, out-of-order or
early answer ends trust at once; a late one does not count. -/
def execWatchdogAnswer (k : Fin 4) (value : Byte) (at9 : Nat) (s : State) : Host.Outcome State Fault Refusal :=
  let w := s.wd
  let part := decide (w.windowMs * 750 ≤ at9)
  let failed : State := { s with wd := { w with bad := true } }
  let t :=
    if w.bad then s
    else if k.val ≠ w.answers || (k.val = 3 && !part) then failed.trustLost 2
    else if value ≠ Config.watchdogAnswer w.question k then failed.trustLost 1
    else if k.val < 3 && part then s
    else { s with wd := { w with answers := w.answers + 1 } }
  doneIf (s.pd && s.cd && !s.wd.stopped && !s.linkP.lost) (t.sayC 1 (3 * k.val + 2)) s

/-- R34, R33: the next window: the verdict on the last one, a new question, never equal to the last, and the window length in
force. -/
def State.newWindow (s : State) : State :=
  let w := s.wd
  State.sayP (State.sayP { s with wd := { w with
    windowAt := s.mono, windowMs := s.gn O.watchdogWindow 0, answers := 0, bad := false,
    qIndex := w.qIndex + 1,
    question := w.question + BitVec.ofNat 8 ((Config.questionStep w.qIndex).val + 1) } } 1 (3 * w.qIndex + 1)) 1
    (3 * (w.qIndex + 1))

/-- R35: trust is restored after two consecutive good windows; the fail-safe states stay as outputs until commanded. -/
def State.goodWindow (s : State) : State :=
  let g := s.wd.goodWindows + 1
  { s with wd := { s.wd with goodWindows := g, trusted := s.wd.trusted || decide (2 ≤ g) } }

/-- WATCHDOG_WINDOW_END (R33 to R35); a window of W lasts at least 0.95 W (Table 1-4: domain 9 is within 5 %). -/
def execWatchdogWindowEnd (s : State) : Host.Outcome State Fault Refusal :=
  let w := s.wd
  let t := if w.answers = 4 && !w.bad then s.goodWindow
    else (State.trustLost { s with wd := { w with goodWindows := 0 } } (if s.linkP.lost then 3 else 0))
  doneIf (s.pd && s.past w.windowAt (w.windowMs * 950)) t.newWindow s

/-- WATCHDOG_ESCALATION (R399): 1,000 ms without trust, from the later of its end, the release of the compute-die reset
and the last escalation. -/
def execWatchdogEscalation (s : State) : Host.Outcome State Fault Refusal :=
  let from' := max (max s.wd.absentSince s.pwr.cdSince) s.pwr.escalatedAt
  let t := s.cdReset 7
  doneIf (s.pd && s.cd && !s.wd.trusted && s.past from' 1000000)
    { t with pwr := { t.pwr with escalatedAt := s.mono } } s

end Sys2Proof.Machine
end

