-- ==== Sys2Proof/Machine/Events.lean ====
section
/-! DEFINITION. Sys2Proof/Machine/Events.lean: the event matrix (R37 to R41): what one evaluation does with the
activations of a microsecond, capture triggers (R116), `EventRoute` (R38, R39) and `EventAcknowledge` (R314). -/

namespace Sys2Proof.Machine

/-- R116: a trigger: the first makes the tally in progress the trigger tally; later ones, until the buffer is re-armed,
are listed (8 entries) and counted. -/
def State.captureTrigger (s : State) (src time : Nat) : State :=
  let st := s.gn O.captureState 0
  if st = 0 then s
  else if st = 1 && !s.capture.triggered then { s with capture := { s.capture with triggered := true } }
  else
    let k := s.gn O.captureTriggerCount 0
    let s := if k < 8 then s.putL O.captureTriggerList k [(src : Nat), (time : Nat)] else s
    s.bump O.captureTriggerCount 0

/-- R40, R192: the activations of the evaluation that trip a string, in ascending source number. -/
def State.tripsOf (s : State) (acts : List Act) (n : Nat) : List Act := acts.filter fun a => bit (s.route a.src) (16 + n)

/-- R40, R192, R209: the trips of an evaluation, their masks combined: the first source is the cause, and a fast-path trip
counts as one also behind a lower source. -/
def State.matrixTrips (s : State) (acts : List Act) : State :=
  if s.tripsCount then
    forEach s.strings s fun t n =>
      match (s.tripsOf acts n).filter fun a => !t.staysWelded n a.src a.inst with
      | a :: as => t.tripString n a.src a.inst ((a :: as).any fun b => b.src == 0x50 + n)
      | [] => if (s.tripsOf acts n).isEmpty then t else (t.sayC 0 n).tripStringOff n
  else s

/-- R38, R312, R379, R391: the record, the notifications, the latch and the capture trigger of one activation. -/
def State.matrixRoute (s : State) (a : Act) : State :=
  let w := s.route a.src
  let s := if bit w 8 then s.latch { src := a.src, inst := a.inst, word := w } else s
  let s := if bit w 15 then s.captureTrigger a.src a.time else s
  let r : State × Nat := match a.note with
    | some n => (s, n.2.2)
    | none => if bit w 11 then s.logActivation a w else (s, 0)
  let s := r.1
  let code := match a.note with | some n => n.1 | none => eventCode a.src
  let sev := match a.note with | some n => n.2.1 | none => bits w 10 9
  let flags := word [bit w 8, r.2 != 0, decide (bits w 19 16 ≠ 0)]
  let send (s : State) (b cls : Nat) : State :=
    if bit w b then s.notify cls a.time code (a.src + a.inst % 256 * 256) sev flags r.2 a.payload else s
  send (send (send s 14 1) 13 2) 12 16

/-- EVENT_MATRIX_EVALUATE (R40): every activation raised since the last evaluation: trips at once, the rest in ascending
source number. What the trips raise is evaluated in the next microsecond, and so is what R41 puts after them. -/
def State.matrixEvaluate (s : State) : State :=
  let acts := s.ev.pending.mergeSort (fun a b => decide (a.src ≤ b.src))
  let s : State := { s with ev := { s.ev with pending := s.ev.later, later := [] } }
  forEach acts (s.matrixTrips acts) State.matrixRoute

/-- EVENT_MATRIX_EVALUATE (R40). -/
def execEventMatrixEvaluate (s : State) : Host.Outcome State Fault Refusal := doneIf s.running s.matrixEvaluate s

/-- EVENT_ROUTE_WRITE (R38, R39, R322): locked words answer 0x0203, reserved bits 0x0305, a TRIP bit the variant lacks
0x0301; bit 0 is ignored. -/
def State.routeWrite (s : State) (source v : Nat) : State × Nat :=
  if sourceLocked source then refuse s 0x0203
  else if bits v 31 20 ≠ 0 ∨ bits v 7 1 ≠ 0 then refuse s 0x0305
  else if !s.allOpen then refuse s 0x0401
  else if s.variant == .qb1024 && decide (bits v 19 18 ≠ 0) then refuse s 0x0301
  else accept (s.put O.eventRoute source (v / 2 * 2 : Nat))

/-- EVENT_ROUTE_WRITE (R38). -/
def execEventRouteWrite (req : Req) (source : Byte) (value : BitVec 32) (s : State) : Host.Outcome State Fault Refusal :=
  s.request req O.eventRoute source.toNat fun s => s.routeWrite source.toNat value.toNat

/-- R40, R314: the TRIP field that counts for a source: that of its latched activation, else that of its routing word. -/
def State.tripField (s : State) (src : Nat) : Nat :=
  match s.ev.latched.find? fun l => l.src == src with
  | some l => l.trip
  | none => bits (s.route src) 19 16

/-- EVENT_ACKNOWLEDGE (R314): 0x0305 for reserved bits, 0x0409 for a source with a TRIP field. -/
def State.acknowledge (s : State) (v : Nat) : State × Nat :=
  if 256 ≤ v then refuse s 0x0305
  else if s.tripField v ≠ 0 then refuse s 0x0409
  else accept (s.unlatch fun l => l.src == v)

/-- EVENT_ACKNOWLEDGE (R314). -/
def execEventAcknowledge (req : Req) (value : BitVec 16) (s : State) : Host.Outcome State Fault Refusal :=
  s.request req O.eventAcknowledge 0 fun s => s.acknowledge value.toNat

end Sys2Proof.Machine
end

