-- ==== Sys2Proof/Machine/Clusters.lean ====
section
/-! DEFINITION. Sys2Proof/Machine/Clusters.lean: what the manifest and the state of the rings settle for other units: the
geometry of a ring (R48, R332), the clusters of the estimator fabric (R122), a string's estimation state (R132), READY. -/

namespace Sys2Proof.Machine

/-! ### Geometry -/

/-- R48: position of a hop counted from an end (`b`: the B-end). -/
def State.posOf (s : State) (r : Nat) (b : Bool) (hop : Nat) : Nat := if b then s.nMon r - 1 - hop else hop

/-- R12: position of a global cell on its ring. -/
def cellPos (c : Nat) : Nat := c % 512

/-! ### Clusters (R122) -/

/-- R122: the modules of a region in list order, with their weights. -/
def State.regionModules (s : State) (g : Nat) : List (Nat × Nat) :=
  ([2 * g, 2 * g + 1].filter s.has).flatMap fun r =>
    (List.range (s.nMon r)).map fun p => (monKey r p, (s.channels r p).length)

/-- The longest run from the head whose weight stays within a bound, and the rest. -/
def takeWeight (w : Nat) : List (Nat × Nat) → List (Nat × Nat) × List (Nat × Nat)
  | [] => ([], [])
  | m :: ms => if m.2 ≤ w then let r := takeWeight (w - m.2) ms; (m :: r.1, r.2) else ([], m :: ms)

/-- Groups filled one after another up to a bound; the last list is what is left over. -/
def splitWeight (w : Nat) : Nat → List (Nat × Nat) → List (List (Nat × Nat)) × List (Nat × Nat)
  | 0, l => ([], l)
  | k + 1, l => let a := takeWeight w l; let b := splitWeight w k a.2; (a.1 :: b.1, b.2)

/-- R122: four contiguous groups with the smallest largest weight, lexicographically greatest among those. -/
def fourGroups (l : List (Nat × Nat)) : List (List (Nat × Nat)) :=
  let w := ((List.range 1153).find? fun w => (splitWeight w 4 l).2.isEmpty).getD 1152
  (splitWeight w 4 l).1

/-- CLUSTER_ASSIGN (R122): at each transition to READY and whenever a manifest is accepted. -/
def State.assignClusters (s : State) : State :=
  let groups := (fourGroups (s.regionModules 0) ++ fourGroups (s.regionModules 1)).zipIdx
  let map := groups.foldl (fun m g => g.1.foldl (fun m e => mins m e.1 g.2) m) ([] : SMap Nat)
  let s : State := { s with fab := { s.fab with cluster := map } }
  forEach groups s fun s g =>
    ((s.put O.clusterFirstModule g.2 ((g.1.head?.map fun e => (e.1 : Int)).getD 0xFF)).put O.clusterModuleCount g.2 (g.1.length : Nat)).put
      O.clusterCellCount g.2 (((g.1.map fun e => e.2).sum : Nat) : Int)

/-- R122: the cluster that owns a cell. -/
def State.clusterOf (s : State) (c : Nat) : Nat := mget 0 s.fab.cluster (monKey (cellRing c) (s.monitorOf c))

/-- R127: the number of a cell within its cluster, in ascending global cell number. -/
def State.clusterIndex (s : State) (c : Nat) : Nat :=
  let k := s.clusterOf c
  ((s.strings.flatMap s.stringCells).filter fun d => decide (d < c) && s.clusterOf d == k).length

/-- R125, R133: region of a string and the divider in force. -/
def State.divider (s : State) (n : Nat) : Nat := 2 ^ (s.region (n / 2)).step

/-! ### The state of a string's estimation (R131, R132, R152) -/

/-- R131, R152: the string has cells whose table set is being reloaded, is damaged or is empty. -/
def State.setMissing (s : State) (n : Nat) : Bool :=
  (List.range (s.nMon n)).any fun p =>
    let t := (s.gm O.manifestModule (monKey n p) 3).toNat
    s.fab.reloading.contains t || s.gn O.tableSetState t != 1

/-- R132: stopped, paused, or as its publications leave it. -/
def State.refreshEst (s : State) (n : Nat) : State :=
  let st := s.gn O.estimatorStringState n
  let v : Nat := if !s.inManifest n || s.gn O.chainRingState n = 5 then 4
    else if s.setMissing n then 2
    else if st = 2 ∨ st = 4 then (if (s.epoch n).publishedAt.isSome then 1 else 0)
    else st
  if v = st then s else s.put O.estimatorStringState n v

/-- R122, R112: the device becomes READY: modules are assigned to clusters, and the open-wire rotation starts. -/
def State.readyNow (s : State) : State :=
  if s.ready then State.assignClusters { s with fw := { s.fw with readyAt := some s.mono } } else s

end Sys2Proof.Machine
end

