-- ==== Sys2Proof/Machine/Crypto.lean ====
section
/-! DEFINITION. Sys2Proof/Machine/Crypto.lean: the algorithms the manual names: AES-128 and AES-CMAC (R74, R415), SHA-256
and HMAC-SHA-256 (R296, R419), ECDSA over P-256 (R423). They are the published standards the rules name (FIPS 197, SP
800-38B, FIPS 180-4, RFC 2104, FIPS 186-4). -/

namespace Sys2Proof.Machine

/-! ### AES-128 -/

/-- Doubling in the field of AES. -/
def xtime (a : Byte) : Byte := if a.getLsbD 7 then (a <<< 1) ^^^ 0x1B#8 else a <<< 1

/-- The S-box of FIPS 197 by rows, the first column most significant. -/
def sboxRows : List Nat :=
  [0x637C777BF26B6FC53001672BFED7AB76, 0xCA82C97DFA5947F0ADD4A2AF9CA472C0, 0xB7FD9326363FF7CC34A5E5F171D83115,
   0x04C723C31896059A071280E2EB27B275, 0x09832C1A1B6E5AA0523BD6B329E32F84, 0x53D100ED20FCB15B6ACBBE394A4C58CF,
   0xD0EFAAFB434D338545F9027F503C9FA8, 0x51A3408F929D38F5BCB6DA2110FFF3D2, 0xCD0C13EC5F974417C4A77E3D645D1973,
   0x60814FDC222A908846EEB814DE5E0BDB, 0xE0323A0A4906245CC2D3AC629195E479, 0xE7C8376D8DD54EA96C56F4EA657AAE08,
   0xBA78252E1CA6B4C6E8DD741F4BBD8B8A, 0x703EB5664803F60E613557B986C11D9E, 0xE1F8981169D98E949B1E87E9CE5528DF,
   0x8CA1890DBFE6426841992D0FB054BB16]

/-- The S-box: the high half of the byte names the row, the low half the column. -/
def sbox (a : Byte) : Byte := BitVec.ofNat 8 (sboxRows.getD (a.toNat / 16) 0 >>> (8 * (15 - a.toNat % 16)))

/-- Bytewise exclusive or. -/
def xorB (a b : List Byte) : List Byte := List.zipWith (fun x y => x ^^^ y) a b

/-- The key words of AES-128, newest first, from `n` more rounds. -/
def aesExpand : Nat → Byte → List (List Byte) → List (List Byte)
  | 0, _, w => w
  | n + 1, rc, w =>
    let t := w.headD []
    let t' := match (t.rotateLeft 1).map sbox with | [] => [] | b :: bs => (b ^^^ rc) :: bs
    let w0 := xorB (w.getD 3 []) t'
    let w1 := xorB (w.getD 2 []) w0
    let w2 := xorB (w.getD 1 []) w1
    let w3 := xorB (w.getD 0 []) w2
    aesExpand n (xtime rc) (w3 :: w2 :: w1 :: w0 :: w)

/-- The 11 round keys, first to last. -/
def aesKeys (key : List Byte) : List (List Byte) :=
  let w := (aesExpand 10 1 [key.drop 12, (key.drop 8).take 4, (key.drop 4).take 4, key.take 4]).reverse
  (List.range 11).map fun k => ((w.drop (4 * k)).take 4).flatten

/-- ShiftRows on the 16 bytes, column by column. -/
def shiftRows (s : List Byte) : List Byte := (List.range 16).map fun i => byteAt s ((i + 4 * (i % 4)) % 16)

/-- MixColumns. -/
def mixColumns (s : List Byte) : List Byte :=
  (List.range 16).map fun i =>
    let at' (k : Nat) := byteAt s (i / 4 * 4 + (i + k) % 4)
    xtime (at' 0) ^^^ (xtime (at' 1) ^^^ at' 1) ^^^ at' 2 ^^^ at' 3

/-- AES-128 encryption of one 16-byte block. -/
def aes (key block : List Byte) : List Byte :=
  match aesKeys key with
  | [] => []
  | k :: ks =>
    let mid := (ks.take 9).foldl (fun s k => xorB (mixColumns (shiftRows (s.map sbox))) k) (xorB block k)
    xorB (shiftRows (mid.map sbox)) (ks.getLastD [])

/-- Doubling of a CMAC subkey (bytes most significant first). -/
def cmacDouble (l : List Byte) : List Byte :=
  let n := l.foldl (fun n b => n * 256 + b.toNat) 0
  let d := if n < 2 ^ 127 then 2 * n else ((2 * n) % 2 ^ 128).xor 0x87
  (le 16 d).reverse

/-- AES-CMAC: the blocks before the last. -/
def cmacChain (key : List Byte) : Nat → List Byte → List Byte → List Byte × List Byte
  | 0, c, m => (c, m)
  | n + 1, c, m => if m.length ≤ 16 then (c, m) else cmacChain key n (aes key (xorB c (m.take 16))) (m.drop 16)

/-- AES-CMAC (NIST SP 800-38B) under a key. -/
def cmac (key msg : List Byte) : List Byte :=
  let k1 := cmacDouble (aes key (List.replicate 16 0))
  let r := cmacChain key (msg.length / 16 + 1) (List.replicate 16 0) msg
  let last := if r.2.length = 16 then xorB r.2 k1
    else xorB (r.2 ++ [0x80#8] ++ List.replicate (15 - r.2.length) 0) (cmacDouble k1)
  aes key (xorB r.1 last)

/-! ### SHA-256 and HMAC -/

/-- The 64 round constants of SHA-256, eight to a row, the first of a row most significant. -/
def shaRows : List Nat :=
  [0x428A2F9871374491B5C0FBCFE9B5DBA53956C25B59F111F1923F82A4AB1C5ED5,
   0xD807AA9812835B01243185BE550C7DC372BE5D7480DEB1FE9BDC06A7C19BF174,
   0xE49B69C1EFBE47860FC19DC6240CA1CC2DE92C6F4A7484AA5CB0A9DC76F988DA,
   0x983E5152A831C66DB00327C8BF597FC7C6E00BF3D5A7914706CA635114292967,
   0x27B70A852E1B21384D2C6DFC53380D13650A7354766A0ABB81C2C92E92722C85,
   0xA2BFE8A1A81A664BC24B8B70C76C51A3D192E819D6990624F40E3585106AA070,
   0x19A4C1161E376C082748774C34B0BCB5391C0CB34ED8AA4A5B9CCA4F682E6FF3,
   0x748F82EE78A5636F84C878148CC7020890BEFFFAA4506CEBBEF9A3F7C67178F2]

/-- Word `k` of eight that a number holds, the first most significant. -/
def word8 (v k : Nat) : BitVec 32 := BitVec.ofNat 32 (v >>> (32 * (7 - k)))

/-- The round constant of round `k`. -/
def shaConst (k : Nat) : BitVec 32 := word8 (shaRows.getD (k / 8) 0) (k % 8)

/-- The initial hash value, eight words as one number. -/
def shaStart : Nat := 0x6A09E667BB67AE853C6EF372A54FF53A510E527F9B05688C1F83D9AB5BE0CD19

/-- The exclusive or of three rotations to the right. -/
def turn3 (x : BitVec 32) (i j k : Nat) : BitVec 32 := x.rotateRight i ^^^ x.rotateRight j ^^^ x.rotateRight k

/-- The exclusive or of two rotations and a shift to the right. -/
def turn2 (x : BitVec 32) (i j k : Nat) : BitVec 32 := x.rotateRight i ^^^ x.rotateRight j ^^^ (x >>> k)

/-- The word that follows a window of 16 words of the message schedule, oldest first. -/
def shaNext (w : List (BitVec 32)) : BitVec 32 :=
  turn2 (w.getD 14 0) 17 19 10 + w.getD 9 0 + turn2 (w.getD 1 0) 7 18 3 + w.getD 0 0

/-- `n` rounds up to round 63: the working words `v`, and the window of the schedule, which moves on by one word. -/
def shaRounds : Nat → List (BitVec 32) → List (BitVec 32) → List (BitVec 32)
  | 0, v, _ => v
  | n + 1, v, w =>
    let at' (k : Nat) := v.getD k 0
    let choose := at' 6 ^^^ (at' 4 &&& (at' 5 ^^^ at' 6))
    let most := (at' 0 &&& (at' 1 ||| at' 2)) ||| (at' 1 &&& at' 2)
    let add := at' 7 + turn3 (at' 4) 6 11 25 + choose + shaConst (63 - n) + w.getD 0 0
    shaRounds n ((add + turn3 (at' 0) 2 13 22 + most) :: v.take 3 ++ (at' 3 + add) :: (v.drop 4).take 3)
      (w.drop 1 ++ [shaNext w])

/-- The four bytes of a word from byte `k` of a block, most significant first. -/
def beWord (block : List Byte) (k : Nat) : BitVec 32 :=
  byteAt block k ++ byteAt block (k + 1) ++ byteAt block (k + 2) ++ byteAt block (k + 3)

/-- One 64-byte block enters the hash value. -/
def shaAbsorb (h : List (BitVec 32)) (block : List Byte) : List (BitVec 32) :=
  List.zipWith (fun x y => x + y) h (shaRounds 64 h ((List.range 16).map fun k => beWord block (4 * k)))

/-- SHA-256 (FIPS 180-4): the padded message block by block. -/
def sha256 (msg : List Byte) : List Byte :=
  let full := msg ++ 0x80#8 :: List.replicate ((119 - msg.length % 64) % 64) 0#8 ++ (le 8 (8 * msg.length)).reverse
  let start := (List.range 8).map (word8 shaStart)
  let last := (List.range (full.length / 64)).foldl (fun h k => shaAbsorb h ((full.drop (64 * k)).take 64)) start
  last.flatMap fun w => (le 4 w.toNat).reverse

/-- HMAC-SHA-256 under a key of at most 64 bytes. -/
def hmac (key msg : List Byte) : List Byte :=
  let k := key ++ List.replicate (64 - key.length) 0
  sha256 (k.map (· ^^^ 0x5C#8) ++ sha256 (k.map (· ^^^ 0x36#8) ++ msg))

/-! ### ECDSA over P-256 -/

/-- The prime of P-256. -/
def p256 : Nat := 2 ^ 256 - 2 ^ 224 + 2 ^ 192 + 2 ^ 96 - 1
/-- The order of its base point. -/
def n256 : Nat := 0xFFFFFFFF00000000FFFFFFFFFFFFFFFFBCE6FAADA7179E84F3B9CAC2FC632551
/-- The base point. -/
def g256 : Nat × Nat :=
  (0x6B17D1F2E12C4247F8BCE6E563A440F277037D812DEB33A0F4A13945D898C296,
   0x4FE342E2FE1A7F9B8EE7EB4A7C0F9E162BCE33576B315ECECBB6406837BF51F5)

/-- A power modulo `m`, over the low `n` bits of the exponent. -/
def powMod (m : Nat) : Nat → Nat → Nat → Nat
  | 0, _, _ => 1 % m
  | n + 1, b, e => (if e % 2 = 1 then b else 1) * powMod m n (b * b % m) (e / 2) % m

/-- An inverse modulo a prime. -/
def invMod (m a : Nat) : Nat := powMod m 256 (a % m) (m - 2)

/-- Sum of two points of the curve (none: the point at infinity). -/
def ecAdd (a b : Option (Nat × Nat)) : Option (Nat × Nat) :=
  match a, b with
  | none, q => q
  | q, none => q
  | some (x1, y1), some (x2, y2) =>
    let line (l : Nat) : Option (Nat × Nat) :=
      let x := (l * l + 2 * p256 - x1 - x2) % p256
      some (x, (l * (x1 + p256 - x) + p256 - y1) % p256)
    if x1 = x2 then
      if (y1 + y2) % p256 = 0 then none
      else line ((3 * x1 * x1 + p256 - 3) * invMod p256 (2 * y1) % p256)
    else line ((y2 + p256 - y1) * invMod p256 (x2 + p256 - x1) % p256)

/-- A multiple of a point, over the low `n` bits of the factor. -/
def ecMul : Nat → Nat → Option (Nat × Nat) → Option (Nat × Nat)
  | 0, _, _ => none
  | n + 1, k, q => ecAdd (if k % 2 = 1 then q else none) (ecMul n (k / 2) (ecAdd q q))

/-- R423: the signature `r`, `s` over a message verifies under the public key (x, y). -/
def ecdsaOk (x y : Nat) (msg : List Byte) (r s : Nat) : Bool :=
  if r = 0 ∨ n256 ≤ r ∨ s = 0 ∨ n256 ≤ s then false else
  let e := (sha256 msg).foldl (fun n b => n * 256 + b.toNat) 0
  let w := invMod n256 s
  match ecAdd (ecMul 256 (e * w % n256) (some g256)) (ecMul 256 (r * w % n256) (some (x, y))) with
  | none => false
  | some q => q.1 % n256 == r

end Sys2Proof.Machine
end

