-- ==== Sys2Proof/Machine/Chain.lean ====
section
/-! DEFINITION. Sys2Proof/Machine/Chain.lean: the quay chain of chapter 2 (R48 to R78, R475, R476): trains and their
replies, breaks, enumeration, hop delays, module authentication, and the meanings of their commands but SAMPLE. -/

namespace Sys2Proof.Machine

/-! ### Ends and heads (R49, R350) -/

/-- R49: the head of a whole ring is the B-end: the holder of a pair is the non-preferred device (R350). -/
def State.headB (s : State) : Bool := s.dup.mode != 0 && !s.dup.pref

/-- R350: the device has the port of an end. -/
def State.ownsEnd (s : State) (b : Bool) : Bool := s.dup.mode == 0 || b == s.headB

/-- R360: a frame for the duplex link. -/
def State.dupSend (s : State) (f : DupFrame) : State :=
  { s with dup := { s.dup with sent := s.dup.sent ++ [f], sentAt := s.mono } }

/-- R49, R73, R365: the device directs the ring: a single device, or the holder of a pair as of the last tally boundary. -/
def State.directs (s : State) : Bool := s.dup.mode == 0 || (if s.fw.ticking then s.dup.directing else s.dup.out)

/-- R365, R367: the device can launch from an end: its own port, or the partner's through the duplex link. -/
def State.reaches (s : State) (b : Bool) : Bool := s.ownsEnd b || s.dup.up

/-- R49: the end whose port heads a whole ring: the directing device's. -/
def State.headEnd (s : State) : Bool := if s.directs then s.headB else !s.headB

/-- R105: the bleed mask of a monitor. -/
def State.bleedMask (s : State) (r p : Nat) : Nat :=
  (s.channels r p).foldl (fun m c => if (s.cell (s.cellOf r p c)).bleedOn then m + 2 ^ c else m) 0

/-! ### Frames and trains (R55 to R62) -/

/-- Table 2-3: the bytes of a frame, CTRL to CRC. -/
def frameBytes (ctrl type seq : Nat) (payload : List Byte) : List Byte :=
  let b := le 1 ctrl ++ le 1 type ++ le 1 seq ++ le 1 payload.length ++ payload
  b ++ le 4 (crc32 b)

/-- Table 2-4: CTRL of a command. -/
def cmdCtrl (b : Bool) (hop : Nat) : Nat := b2n b * 128 + hop

/-- R55: SEQ of a command sent now. -/
def State.seqNow (s : State) : Nat := s.fw.tally % 256

/-- Table 2-5: reply TYPE of a command. -/
def replyType (cmd : Nat) : Nat := if cmd = 5 then 0x81 else cmd + 0x80

/-- Table 2-5: LEN of a reply. -/
def State.replyLen (s : State) (r p cmd : Nat) : Nat :=
  match cmd with
  | 0x01 => 13
  | 0x02 => 4
  | 0x03 => 5
  | 0x04 => 9
  | 0x05 => 13
  | 0x10 => 6 + 2 * (s.channels r p).length
  | 0x20 => 4
  | 0x31 => 9
  | _ => 1

/-- The payload of a frame. -/
def framePayload (f : List Byte) : List Byte := (f.drop 4).take (byteAt f 3).toNat

/-- Table 2-5: TYPE of a train's command. -/
def Train.cmd (t : Train) : Nat := (byteAt t.frame 1).toNat

/-- R67: the train is a SWEEP. -/
def Train.isSweep (t : Train) : Bool := t.cmd == 0x10

/-- R61: the train is an ECHO. -/
def Train.isEcho (t : Train) : Bool := t.cmd == 0x02

/-- R71: the monitors that an end reaches: all of a whole ring, else those before the broken link nearest to it. -/
def State.segmentLen (s : State) (r : Nat) (b : Bool) : Nat :=
  match (s.ring r).broken with
  | [] => s.nMon r
  | l :: ls => if b then s.nMon r - ls.getLastD l else l

/-- R60: delay of a hop from an end, ns: as measured, else the largest that Table 2-10 allows (DESIGN CHOICE, log entry
105). -/
def State.legNs (s : State) (r : Nat) (b : Bool) (hop : Nat) : Nat :=
  let d := s.gn O.hopDelay (r * 64 + b2n b * 32 + hop)
  if d = 0 then 1000 + 800 * hop else d

/-- R60: how long a symbol takes from a head back to it, ns: through the tail of a whole ring, or turned back at the last
monitor of its segment. -/
def State.loopNs (s : State) (r : Nat) (b : Bool) : Nat :=
  let m := s.segmentLen r b
  let rt := s.gn O.ringRoundTrip r
  if m = 0 then 0
  else if !(s.ring r).broken.isEmpty then 2 * s.legNs r b (m - 1) + 600
  else if rt = 0 then 2 * s.legNs r b (m - 1) + 2 * s.legNs r (!b) 0 + 1800
  else rt

/-- R55: symbols of 0.41667 µs, in ns. -/
def symbolNs (n : Nat) : Nat := n * 5000 / 12

/-- R60, R67, R61: from the launch of a train to the arrival of its first reply at the head, ns. A sweep launched with the
trigger waits until 12 µs after the hold instant; a recovery finds its samples held. -/
def State.firstReplyNs (s : State) (r : Nat) (b : Bool) (t : Train) : Nat :=
  let hop := t.hops.headD 0
  if t.isSweep && t.order == 0 then 42000 + s.loopNs r b - s.legNs r b hop
  else symbolNs (t.frame.length + 2) + (if t.isEcho then 4000 + 2 * s.legNs r b hop else s.loopNs r b)

/-- R55: the replies that a train asks of hops below `hop`, ns. -/
def State.repliesNs (s : State) (r : Nat) (b : Bool) (t : Train) (hop : Nat) : Nat :=
  symbolNs ((t.hops.filter (· < hop)).map fun h => s.replyLen r (s.posOf r b h) t.cmd + 10).sum

/-- R60: from the launch of a train to the expected arrival of its EOT, µs rounded up. -/
def State.trainTime (s : State) (r : Nat) (b : Bool) (t : Train) : Nat :=
  (s.firstReplyNs r b t + s.repliesNs r b t 64 + symbolNs 1 + 999) / 1000

/-- R70: from the launch of a sweep to the expected arrival of a hop's SAMPLE, µs rounded up. -/
def State.sampleTime (s : State) (r : Nat) (b : Bool) (t : Train) (hop : Nat) : Nat :=
  (s.firstReplyNs r b t + s.repliesNs r b t hop + 999) / 1000

/-- The train in flight of an end. -/
def Ring.train (x : Ring) (b : Bool) : Option Train := if b then x.trainB else x.trainA

/-- The idle-slot work of an end. -/
def Ring.queue (x : Ring) (b : Bool) : List Train := if b then x.queueB else x.queueA

/-- A train set in flight on an end, or ended. -/
def State.setTrain (s : State) (r : Nat) (b : Bool) (t : Option Train) : State :=
  s.ringUpd r fun x => if b then { x with trainB := t } else { x with trainA := t }

/-- Work of an end replaced. -/
def State.setQueue (s : State) (r : Nat) (b : Bool) (q : List Train) : State :=
  s.ringUpd r fun x => if b then { x with queueB := q } else { x with queueA := q }

/-- R82: a train enters the idle-slot work of an end. -/
def State.queueTrain (s : State) (r : Nat) (b : Bool) (t : Train) : State := s.setQueue r b ((s.ring r).queue b ++ [t])

/-- R71, R476: links of a ring known to be broken; from which end a monitor is reached: the A-end up to the lowest
broken link, the B-end beyond the highest. -/
def State.endOf (s : State) (r p : Nat) : Option Bool :=
  let x := s.ring r
  match x.broken with
  | [] => some s.headB
  | l :: ls => if p < l then some false else if (ls.getLastD l) ≤ p then some true else none

/-- R82: a command to one monitor, queued at the end that reaches it. -/
def State.queueTo (s : State) (r p order type : Nat) (payload : List Byte) : State :=
  match s.endOf r p with
  | none => s
  | some b =>
    let hop := if b then s.nMon r - 1 - p else p
    s.queueTrain r b { order := order, frame := frameBytes (cmdCtrl b hop) type s.seqNow payload, hops := [hop] }

/-- R76: IDENTIFY to every monitor in the next idle slots. -/
def State.identifyAll (s : State) (r : Nat) : State :=
  forEach (List.range (s.nMon r)) s fun s p => s.queueTo r p 4 0x05 []

/-! ### Errors (R76, R77) -/

/-- Table 2-12: a source of a ring. -/
def ringSource (r off : Nat) : Nat := 16 * r + off

/-- R76: an error of categories 0 to 5 within the last second; the sixteenth raises offset 0xF. -/
def State.errorRate (s : State) (r p : Nat) : State :=
  let l := ((s.ring r).errors.filter fun t => decide (s.mono < t + 1000000)) ++ [s.mono]
  let s := s.ringUpd r fun x => { x with errors := l }
  if l.length = 16 then s.raise (ringSource r 0xF) p else s

/-- R76: a fault of a category is counted and raises its event offset (none: no event). -/
def State.chainError (s : State) (r cat : Nat) (off : Option Nat) (p : Nat) : State :=
  let s := s.bump O.chainErrorCount (r * 8 + cat)
  let s := match off with | some o => s.raise (ringSource r o) p | none => s
  if cat ≤ 5 then s.errorRate r p else s

/-- R71, R77: a broken link is located: offset 0x0; the ring is split at it from the next tally. -/
def State.linkBroken (s : State) (r l : Nat) : State :=
  if (s.ring r).broken.contains l || (s.ring r).located.contains l then s
  else (s.ringUpd r fun x => { x with located := l :: x.located }).raise (ringSource r 0) l

/-- R49, R70, R71: an end still reaches the monitors of a train that waits at it. -/
def State.serves (s : State) (r : Nat) (b : Bool) (t : Train) : Bool :=
  t.isSweep || match t.hops with
    | [h] => s.endOf r (s.posOf r b h) != some (!b)
    | hs => hs.all fun h => s.endOf r (s.posOf r b h) == some b

/-- R76, R111: the open-wire test of a position counts as inconclusive. -/
def State.owInconclusive (s : State) (r p : Nat) : State :=
  s.monUpd (monKey r p) fun m => { m with ow := { m.ow with result := some 255 } }

/-- R49, R58, R82: a command to one monitor that its end no longer reaches moves to the end that does, as a new command. One
that the monitor may have executed before is not sent anew where that would run it twice: an open-wire test is inconclusive,
and the next plan takes the place of a BALANCE, as it does of one to several monitors (DESIGN CHOICE, log entry 148). -/
def State.rehomed (s : State) (r : Nat) (b : Bool) (t : Train) : State :=
  match t.hops with
  | [h] =>
    let p := s.posOf r b h
    if t.sent && t.cmd = 0x20 then s
    else if t.sent && t.cmd = 0x21 then s.owInconclusive r p
    else s.queueTo r p t.order t.cmd (framePayload t.frame)
  | _ => s

/-- R49, R82: waiting commands of an end that no longer reaches their monitor leave it. -/
def State.rehome (s : State) (r : Nat) : State :=
  forEach [false, true] s fun s b =>
    let q := (s.ring r).queue b
    forEach (q.filter fun t => !s.serves r b t) (s.setQueue r b (q.filter (s.serves r b))) fun s t => s.rehomed r b t

/-- R76, R75: a train waits to be repeated, at its end where that still reaches its monitors. -/
def State.requeue (s : State) (r : Nat) (b : Bool) (t : Train) : State :=
  if s.serves r b t then s.queueTrain r b t else s.rehomed r b t

/-- R71, R476: the ring is split at links; both ends are heads, and what LINKS said before no longer counts. -/
def State.splitAt (s : State) (r : Nat) (ls : List Nat) : State :=
  if ls.isEmpty then s else
  let s := s.ringUpd r fun x => { x with broken := (ls ++ x.broken).eraseDups.mergeSort (fun a b => decide (a ≤ b)) }
  let s := forEach ls s fun s l => forEach [l - 1, l] s fun s p => s.monUpd (monKey r p) fun m => { m with links := 0 }
  (s.put O.chainBreakLink r ((s.ring r).broken.headD 0 : Nat)).rehome r

/-! ### Replies (R50, R57, R59, R76) -/

/-- What a decoded reply turns out to be. -/
inductive Heard
  /-- The first valid copy of a reply: hop from the train's origin, position, origin. -/
  | good (hop pos : Nat) (b : Bool)
  /-- R50: the other end's copy of the same reply. -/
  | copy (key : Nat)
  /-- R76: a second reply from the hop, equal or differing. -/
  | twice (pos : Nat) (differs : Bool)
  /-- R76: a fault of a category with its event offset, at a position where the frame names one; whether every monitor is
  to be identified. -/
  | fault (cat off : Nat) (pos : Option Nat) (identify : Bool)
deriving DecidableEq, Repr

/-- R6, R62, Table 2-11: the reserved bits of a reply's payload are 0: FAULTS and LINKS of STATUS, the mask of BAL_ACK, STATUS
of SAMPLE; a SAMPLE with NOSAMPLE 0 has a SLOT below 10. -/
def replyReserved (cmd : Nat) (d : List Byte) : Bool :=
  if cmd = 0x04 then decide (leAt d 0 4 < 32) && decide ((byteAt d 8).toNat < 16)
  else if cmd = 0x20 then decide (leAt d 0 3 < 2 ^ 18)
  else if cmd = 0x10 then leAt d 0 2 % 64 == 0 && (bit (leAt d 0 2) 11 || decide (leAt d 0 2 / 4096 < 10))
  else true

/-- R76: the judgement of a reply decoded at a port (`port`: CHBn); `sample` says that SEQ is judged by R67 instead. DESIGN
CHOICE (log entry 106): a reply that comes after its train has ended has no train in flight (category 2), even where its hop
was declared missing. DEDUCED (log entry 146): EOF is one of the 250 symbols that follow SOF, so that a frame has at most 249
bytes. -/
def State.judgeReply (s : State) (r : Nat) (port : Bool) (f : List Byte) (sample : Bool) : Heard :=
  let x := s.ring r
  let n := f.length
  if 250 ≤ n then .fault 2 3 none false
  else if n < 8 ∨ crc32 (f.take (n - 4)) ≠ leAt f (n - 4) 4 then .fault 0 2 none false
  else
    let ctrl := (byteAt f 0).toNat
    let b := bit ctrl 7
    let hop := ctrl % 64
    if !bit ctrl 6 || decide (32 ≤ hop) || decide ((byteAt f 3).toNat + 8 ≠ n) then .fault 2 3 none false
    else match x.train b with
      | none => .fault 2 3 (some (s.posOf r b hop)) false
      | some t =>
        let cmd := (byteAt t.frame 1).toNat
        let pos := s.posOf r b hop
        let key := b2n b * 32 + hop
        let seen := if port then x.seenB else x.seenA
        if t.dead then .copy key
        else if (byteAt f 1).toNat ≠ replyType cmd then .fault 2 3 (some pos) false
        else if !t.hops.contains hop || (cmd != 1 && decide (s.nMon r ≤ hop)) then .fault 2 3 (some pos) true
        else if (byteAt f 3).toNat ≠ s.replyLen r pos cmd || !replyReserved cmd (framePayload f) then .fault 2 3 (some pos) false
        else if !sample && byteAt f 2 != byteAt t.frame 2 then .fault 4 5 (some pos) false
        else if mhas x.replies key then
          let same := mget [] x.replies key == f
          if seen.contains key then .twice pos (!same) else if same then .copy key else .twice pos true
        else if seen.any fun k => decide (key ≤ k) && decide (k / 32 = key / 32) then .fault 2 3 (some pos) true
        else .good hop pos b

/-- R50: a reply seen at a port, and kept where it is the first copy. -/
def State.noteReply (s : State) (r : Nat) (port : Bool) (key : Nat) (f : List Byte) : State :=
  s.ringUpd r fun x =>
    let x := if mhas x.replies key then x else { x with replies := mins x.replies key f }
    if port then { x with seenB := key :: x.seenB } else { x with seenA := key :: x.seenA }

/-- R76: the position that a fault concerns: the lowest hop of the train in flight that has not answered (DEDUCED, log
entry 18). -/
def State.faultPos (s : State) (r : Nat) : Nat :=
  let x := s.ring r
  let b := x.trainA.isNone && x.trainB.isSome
  match x.train b with
  | none => 0
  | some t => ((t.hops.find? fun h => !mhas x.replies (b2n b * 32 + h)).map (s.posOf r b)).getD 0

/-- R50, R76: a decoded reply other than a SAMPLE; `act` is what the first valid copy does, given its position. -/
def State.reply (s : State) (r : Nat) (port : Bool) (f : List Byte) (act : State → Nat → Bool → State) : State :=
  match s.judgeReply r port f false with
  | .good hop pos b => act (s.noteReply r port (b2n b * 32 + hop) f) pos b
  | .copy key => s.noteReply r port key f
  | .twice pos differs => s.chainError r 3 (if differs then some 4 else none) pos
  | .fault cat off pos identify =>
    let s := s.chainError r cat (some off) (pos.getD (s.faultPos r))
    if identify then s.identifyAll r else s

/-- R367: at a device of a pair that does not direct the ring, every frame decoded at its own port while a train of its own
end is in flight goes to the holder. -/
def State.forward (s : State) (r : Nat) (port : Bool) (f : List Byte) : State :=
  if !s.directs && s.dup.up && port == s.headB && ((s.ring r).train s.headB).isSome then s.dupSend (.chainFwd r s.now f) else s

/-- A reply handled while the chain controllers run and the ring is not off, on the port of an end (R367: a partner's
port through CHAIN_FWD calls the same); a device that does not direct the ring only forwards it. -/
def State.onReply (s : State) (r : Nat) (port : Bool) (f : List Byte) (act : State → Nat → Bool → State) :
    Host.Outcome State Fault Refusal :=
  doneIf (s.running && s.has r && s.gn O.chainRingState r != 0)
    (if s.directs then s.reply r port f act else s.forward r port f) s

/-! ### CONFIGURE (R83, R97, R475) -/

/-- R65, R475: delay of a hop from an end, ns: as measured, or estimated from the farthest hop that the end measured.
DESIGN CHOICE (log entry 107): an end that has measured one hop only gives an increment of 0, and one that has measured none
a delay of 0. -/
def State.hopNs (s : State) (r : Nat) (b : Bool) (hop : Nat) : Rat :=
  let d (k : Nat) : Nat := s.gn O.hopDelay (r * 64 + b2n b * 32 + k)
  if d hop ≠ 0 then (d hop : Rat) else
  let m := (List.range 32).filter fun k => d k != 0
  match m.getLast? with
  | none => 0
  | some k =>
    let inc : Rat := if k = 0 then 0 else ((d k : Rat) - (d 0 : Rat)) / (k : Rat)
    (d k : Rat) + inc * ((hop : Rat) - (k : Rat))

/-- R83: hold delay in bit times, 48 to 1,440. -/
def State.holdDelay (s : State) (r : Nat) (b : Bool) (hop : Nat) : Nat :=
  (clampI 48 1440 (roundQ ((30000 - s.hopNs r b hop) * 24 / 1000))).toNat

/-- R97: SLOT_MASK of a monitor. -/
def State.slotMask (s : State) (r p : Nat) : Nat := (s.gm O.manifestModule (monKey r p) 2).toNat % 256 + 0x300

/-- R97: SLOT_DWELL for a tally period. -/
def State.slotDwell (s : State) (r p period : Nat) : Nat :=
  let n := ((List.range 10).filter fun k => bit (s.slotMask r p) k).length
  max 1 (min 100 (100000 / (n * period)))

/-- Table 2-6: the CONFIGURE payload of a monitor at a tally period. -/
def State.configPayload (s : State) (r p period : Nat) : List Byte :=
  let n := s.nMon r
  le 2 (s.holdDelay r false p) ++ le 2 (s.holdDelay r true (n - 1 - p)) ++
    le 4 (s.gm O.manifestModule (monKey r p) 1).toNat ++ le 2 (s.slotMask r p) ++ le 1 (s.slotDwell r p period) ++
    le 1 n ++ le 1 p ++ le 1 0 ++ le 2 0

/-- R79: the tally period that CONFIGURE prepares. -/
def State.nextPeriod (s : State) : Nat := s.fw.newPeriod.getD s.fw.period

/-- CONFIGURE queued for a monitor. -/
def State.queueConfigure (s : State) (r p : Nat) : State :=
  s.queueTo r p 4 0x03 (s.configPayload r p s.nextPeriod)

/-- R83: CONFIGURE for every monitor whose values differ from those it acknowledged. -/
def State.reconfigure (s : State) (r : Nat) : State :=
  forEach ((List.range (s.nMon r)).filter fun p => (s.mon (monKey r p)).config != s.configPayload r p s.nextPeriod) s
    fun s p => s.queueConfigure r p

/-! ### Module authentication (R74, R75, R412) -/

/-- R414: the current module master key of a ring: the newest slot written and not revoked. -/
def State.moduleKey (s : State) (r : Nat) : Option (List Byte) :=
  match ([3, 2, 1, 0].map fun g => r * 4 + g).find? fun k => mhas s.otp.moduleKeys k && !s.otp.revoked.contains (4 + k) with
  | some k => some (mget [] s.otp.moduleKeys k)
  | none => none

/-- R74: K_mod of a monitor. -/
def moduleMac (km : List Byte) (uid : Nat) (challenge : List Byte) : List Byte :=
  let u := le 8 uid
  (cmac (aes km (u ++ u.map (fun b => ~~~b))) challenge).take 8

/-- R74, R412: a fresh challenge; a new reservation is committed before the counter passes the last one, and no
challenge is made while no flash operation is permitted (R45). -/
def State.newChallenge (s : State) : Option (State × List Byte) :=
  let c := s.flash.challenge
  let s' : Option State := if c < s.flash.reserved then some s
    else if s.flashOk then
      some (State.journal { s with flash := { s.flash with reserved := c + 4096 } } 5 0 (le 8 (c + 4096)))
    else none
  s'.map fun s => ({ s with flash := { s.flash with challenge := c + 1 } }, aes s.otp.kChallenge (le 8 c ++ le 8 s.now))

/-- R75, R412: authentication of a monitor begins: AUTH_CHALLENGE in an idle slot; it waits while it needs a flash operation
that is not permitted. Without a current K_M, or to a monitor that no end reaches, nothing is sent. -/
def State.authStart (s : State) (r p : Nat) : State :=
  match s.endOf r p, s.moduleKey r, s.newChallenge with
  | some _, some _, some (s, c) =>
    (s.monUpd (monKey r p) fun m =>
      { m with challenge := c, challengeAt := 0, noAnswer := 0, authWaits := false }).queueTo r p 7 0x30 c
  | some _, some _, none => s.monUpd (monKey r p) fun m => { m with authWaits := true }
  | _, _, _ => s.monUpd (monKey r p) fun m => { m with authWaits := false }

/-- R412: the authentications that waited for a flash operation begin once one is permitted. -/
def State.authResume (s : State) : State :=
  if !s.flashOk then s else
  forEach ((s.monitors.filter fun e => e.2.authWaits).map fun e => e.1) s fun s k => s.authStart (k / 32) (k % 32)

/-- R421, R410: a tamper indicator sets: 0xF8 with the bit, and the journal record where flash permits. -/
def State.tamper (s : State) (b : Nat) : State :=
  if bit s.fw.tamper b then s else
  let s : State := { s with fw := { s.fw with tamper := s.fw.tamper + 2 ^ b } }
  let s := s.raise 0xF8 b
  if s.flashOk then s.journal 4 0 (le 4 s.fw.tamper) else s

/-- R75: a change of `ModuleAuthState`; all but the first pass raise offset 0xA with the old and the new state. -/
def State.setAuth (s : State) (r p v : Nat) : State :=
  let k := monKey r p
  let old := s.gn O.moduleAuthState k
  let s := ((s.put O.moduleAuthState k v).ranWork 6).monUpd k fun m =>
    { m with challenge := [], wrongAt := none, noAnswer := 0, authAt := s.mono }
  let s := if 2 ≤ v then s.tamper 0 else s
  if old = v ∨ (old = 0 ∧ v = 1) then s else s.raise (ringSource r 0xA) p (le 1 old ++ le 1 v)

/-- R75, R58: AUTH_READ without an answer or with READY 0: repeated byte for byte up to 3 times, then no answer. -/
def State.authNone (s : State) (r p : Nat) (b : Bool) (t : Train) : State :=
  let k := monKey r p
  if 3 ≤ (s.mon k).noAnswer then s.setAuth r p 3
  else (s.monUpd k fun m => { m with noAnswer := m.noAnswer + 1 }).requeue r b t

/-! ### Enumeration (R64) -/

/-- R136, R113: a requested open-wire test that can no longer run completes with STATUS 3. -/
def State.owNotRun (s : State) : State :=
  match (s.shot 0).pending with
  | none => s
  | some (q, t) => s.shotDone 0 O.openWireResult [(q : Nat), (t : Nat), 3, 0]

/-- R113: the ring of the requested open-wire test that is pending. -/
def State.owRing (s : State) : Option Nat := (s.shot 0).pending.map fun e => bits e.2 6 5

/-- R442, R136: the device self-test of a target can run: the device is READY; bit 1 not while a reset of the compute die waits
(R138); bit 4 only where this device directs rings of which none has failed. -/
def State.deviceTestRuns (s : State) (t : Nat) : Bool :=
  s.ready && (!bit t 1 || s.fw.activating.isNone) &&
    (!bit t 4 || s.directs && (s.strings.filter s.inManifest).all fun r => s.gn O.chainRingState r != 5)

/-- R442, R136: a pending device self-test that can no longer run completes with STATUS 3. -/
def State.dropDeviceTest (s : State) : State :=
  match (s.shot 5).pending with
  | none => s
  | some (_, t) => if s.deviceTestRuns t then s else s.shotNotRun 5 O.deviceSelfTestResult 2

/-- R136: the pending requests for a string whose ring can no longer serve them complete as not run. -/
def State.dropShots (s : State) (r : Nat) : State :=
  let here (k : Nat) : Bool := match (s.shot k).pending with | some p => p.2 % 4 == r | none => false
  let s' := (if s.owRing = some r then s.owNotRun else s).dropDeviceTest
  let s' := if here 2 then s'.shotNotRun 2 O.capLearnReportResult 13 else s'
  let s' := if here 4 && s.otest.string.isNone then s'.testNotRun else s'
  if here 3 then s'.shotNotRun 3 O.impedanceSnapshotResult 514 else s'

/-- R60: a train in flight whose purpose has ended: only its own end is still awaited. -/
def Train.end' (t : Train) : Train := { t with dead := true }

/-- What was under way with the monitors of a ring ends: waiting commands, authentication, open-wire tests, one-shot
requests, and the acknowledgement of a new period. A train in flight still keeps the ring until its EOT or its timeout (R60). -/
def State.dropWork (s : State) (r : Nat) : State :=
  let s := s.dropShots r
  let s := s.ringUpd r fun x =>
    { x with trainA := x.trainA.map Train.end', trainB := x.trainB.map Train.end', queueA := [], queueB := [], asked := [],
             applied := [], remeasure := .none, sweeping := false }
  forEach (List.range 32) s fun s p => s.monUpd (monKey r p) fun m =>
    { m with challenge := [], wrongAt := none, authWaits := false, periodDue := false,
             ow := { m.ow with active := false, sent := false, todo := [] } }

/-- R64: a ring fails enumeration: state 5 and offset 0x8 with a position (DESIGN CHOICE, log entry 108: 0 where UIDs
disagree and no single position is concerned). -/
def State.enumFail (s : State) (r p : Nat) : State :=
  let s := ((s.put O.chainRingState r 5).dropWork r).ringUpd r fun x => { x with enumStep := 0 }
  ((s.refreshEst r).readyNow).raise (ringSource r 8) p

/-- R64: a step of Table 2-9 begins. -/
def State.enumEnter (s : State) (r step : Nat) : State := s.ringUpd r fun x => { x with enumStep := step, enumAt := s.mono }

/-- R64 step 1: IDLE on both ends; what an earlier enumeration found ends. A moored entry enumerates nothing (R404). -/
def State.enumStart (s : State) (r : Nat) : State :=
  if s.mooring then s else
  let s := ((s.put O.chainRingState r 2).dropWork r).ringUpd r fun x => {
    lostA := x.lostA, lostB := x.lostB, lostAtA := x.lostAtA, lostAtB := x.lostAtB, errors := x.errors, enumStep := 2,
    enumAt := s.mono, wantR := 1, holderTrigger := x.holderTrigger, trainA := x.trainA, trainB := x.trainB }
  let s := forEach (List.range 32) s fun s p => s.monUpd (monKey r p) fun m =>
    { m with configured := false, config := [], unresponsive := false, links := 0 }
  let s := forEach (List.range 64) s fun s k => s.put O.hopDelay (r * 64 + k) 0
  ((s.put O.ringRoundTrip r 0).putL O.manifestMismatch r [0, 0]).refreshEst r

/-- R64 steps 3 and 4: ENUMERATE from an end. -/
def State.enumerateFrom (s : State) (r : Nat) (b : Bool) : State :=
  s.queueTrain r b { order := 4, frame := frameBytes (cmdCtrl b 0x3F) 0x01 s.seqNow [], hops := List.range 32 }

/-- R337: the mismatch of an enumerated ring with its module records: code and position; `uids` by position. -/
def State.mismatchOf (s : State) (r : Nat) (uids : List Nat) : Option (Nat × Nat) :=
  let n := s.nMon r
  let want (k : Nat) : Nat := (s.gm O.manifestModule k 0).toNat
  if uids.length ≠ n then some (1, uids.length)
  else
    let wrong := (List.range n).filter fun p => want (monKey r p) != 0 && want (monKey r p) != uids.getD p 0
    let listed (p : Nat) : Bool := (List.range 128).any fun k =>
      k != monKey r p && uids.getD p 0 != 0 && want k == uids.getD p 0
    match wrong.find? listed, wrong with
    | some p, _ => some (3, p)
    | none, p :: _ => some (2, p)
    | none, [] => none

/-- R337, R421: a mismatch is recorded; the tamper indicator of a moved module sets. -/
def State.noteMismatch (s : State) (r code p : Nat) : State := (s.putL O.manifestMismatch r [(code : Nat), (p : Nat)]).tamper 1

/-- R64 steps 3 to 5: both trains have ended: the UIDs must agree from both ends, and with the manifest. -/
def State.enumCheck (s : State) (r : Nat) : State :=
  let x := s.ring r
  let uids := if x.split then x.foundA ++ x.foundB.reverse else x.foundA
  let agree := decide uids.Nodup && (x.split || x.foundB.reverse == x.foundA)
  let s := s.put O.chainMonitorCount r (uids.length : Nat)
  if !agree then s.enumFail r 0
  else
    let s := forEach (List.range 32) s fun s p =>
      (s.put O.moduleUid (monKey r p) (uids.getD p 0 : Nat)).monUpd (monKey r p) fun m => { m with uid := uids.getD p 0 }
    match s.mismatchOf r uids with
    | some (c, p) => (s.noteMismatch r c p).enumFail r p
    | none =>
      let l := x.foundA.length
      (if x.split then (s.raise (ringSource r 0) l).splitAt r [l] else s).enumEnter r 6

/-- R65: the hop to measure next from an end in step 6, R66 or R475: the lowest with fewer than 16 measurements. -/
def State.nextEcho (s : State) (r : Nat) (b : Bool) : Option Nat :=
  let x := s.ring r
  let reach (h : Nat) : Bool := x.broken.isEmpty || s.endOf r (s.posOf r b h) == some b
  (List.range (s.nMon r)).find? fun h => reach h && decide ((mget {} x.echo (b2n b * 32 + h)).n < 16)

/-- R461: transmit and receive delay of the port at an end of a ring, ns. -/
def State.portNs (s : State) (r : Nat) (b : Bool) : Nat :=
  (s.gm O.portDelay (r + 4 * b2n b) 0).toNat + (s.gm O.portDelay (r + 4 * b2n b) 1).toNat

/-- R65, R461: delay of a hop from 16 measurements, ns: half of the mean less 4.000 µs, in periods of domain 5, and less the
port's own delays. -/
def Echo.delayNs (e : Echo) (port : Nat) : Nat := (roundQ (((e.sum : Rat) / 16 * 25 / 6 - 4000 - (port : Rat)) / 2)).toNat

/-- Table 2-10: spread of the 16 measurements within 0.10 µs. DESIGN CHOICE (log entry 109): the spread is that of
t1 − t0, not of the halved one-way delay. -/
def Echo.steady (e : Echo) : Bool := decide ((e.hi - e.lo) * 25 ≤ 600)

/-- R65: one measurement of a hop; a spread beyond Table 2-10 repeats the 16 once. -/
def State.echoTaken (s : State) (r key dt : Nat) : State :=
  let e := mget {} (s.ring r).echo key
  if 16 ≤ e.n then s else
  let e' : Echo := { e with n := e.n + 1, sum := e.sum + dt, lo := if e.n = 0 then dt else min e.lo dt, hi := max e.hi dt }
  let e'' : Echo := if e'.n = 16 && !e'.steady && !e.repeated then { repeated := true } else e'
  let s := s.ringUpd r fun x => { x with echo := mset {} x.echo key e'' }
  if e''.n = 16 then s.put O.hopDelay (r * 64 + key) (e''.delayNs (s.portNs r (key / 32 == 1)) : Nat) else s

/-- R365: an ECHO_BACK that the partner forwarded; the delay itself comes with RING_DELAYS. -/
def State.echoForwarded (s : State) (r key : Nat) : State :=
  let e := mget {} (s.ring r).echo key
  if 16 ≤ e.n then s else s.ringUpd r fun x => { x with echo := mset {} x.echo key { e with n := e.n + 1 } }

/-- R65: a hop has been measured from an end: by 16 ECHOs at the device's own port, or as the partner's RING_DELAYS say. -/
def State.measured (s : State) (r : Nat) (b : Bool) (k : Nat) : Bool :=
  if s.ownsEnd b then decide (16 ≤ (mget {} (s.ring r).echo (b2n b * 32 + k)).n)
  else s.gn O.hopDelay (r * 64 + b2n b * 32 + k) != 0

/-- Table 2-10: hops from an end that were measured and lie out of limits. -/
def State.badHops (s : State) (r : Nat) (b : Bool) : List Nat :=
  let d (k : Nat) : Nat := s.gn O.hopDelay (r * 64 + b2n b * 32 + k)
  (List.range (s.nMon r)).filter fun k =>
    s.measured r b k && (!(mget {} (s.ring r).echo (b2n b * 32 + k)).steady ||
      (if k = 0 then decide (d 0 < 200) || decide (1000 < d 0)
       else decide (d k < d (k - 1) + 300) || decide (d (k - 1) + 800 < d k)))

/-- Table 2-10, last row: R − 2 × (d_k + d_(N−1−k)) − L_t at a position, ns. -/
def State.ringRest (s : State) (r k : Nat) : Int :=
  s.gi O.ringRoundTrip r - 2 * (s.gi O.hopDelay (r * 64 + k) + s.gi O.hopDelay (r * 64 + 32 + (s.nMon r - 1 - k))) - 600

/-- Table 2-10: positions that break the last row. -/
def State.badRest (s : State) (r : Nat) : List Nat :=
  let ks := List.range (s.nMon r)
  ks.filter fun k => decide (s.ringRest r k < 400) || decide (1200 < s.ringRest r k) ||
    ks.any fun j => decide (200 < (s.ringRest r k - s.ringRest r j).natAbs)

/-- Table 2-10: the lowest position out of limits. -/
def State.delayFault (s : State) (r : Nat) : Option Nat :=
  let l := s.badHops r false ++ (s.badHops r true).map (s.posOf r true) ++
    (if s.gn O.ringRoundTrip r = 0 then [] else s.badRest r)
  match l with | [] => none | p :: ps => some (ps.foldl min p)

/-- R64 step 6 ends: every reachable hop measured 16 times and, on a whole ring, R measured; the partner's end is known by
its RING_DELAYS (R365). -/
def State.echoesDone (s : State) (r : Nat) : Bool :=
  let x := s.ring r
  let known (b : Bool) : Bool := (List.range (s.nMon r)).all fun h =>
    s.measured r b h || (!x.broken.isEmpty && s.endOf r (s.posOf r b h) != some b)
  (s.nextEcho r false).isNone && (s.nextEcho r true).isNone && known false && known true && (x.split || x.wantR == 0)

/-- R64 steps 6 and 7. -/
def State.enumDelays (s : State) (r : Nat) : State :=
  if (s.ring r).enumStep = 6 && s.echoesDone r then
    match s.delayFault r with
    | some p => (s.raise (ringSource r 9) p).enumFail r p
    | none => forEach (List.range (s.nMon r)) (s.enumEnter r 7) fun s p => s.queueConfigure r p
  else s

/-- R64 step 8: authentication of every monitor. -/
def State.enumAuth (s : State) (r : Nat) : State :=
  forEach (List.range (s.nMon r)) (s.enumEnter r 8) fun s p => s.authStart r p

/-- R64 steps 7 to 9: step 7 ends when every monitor is configured; step 8 when none has an outcome outstanding. -/
def State.enumAdvance (s : State) (r : Nat) : State :=
  let all (f : Monitor → Bool) : Bool := (List.range (s.nMon r)).all fun p => f (s.mon (monKey r p))
  let idle (m : Monitor) : Bool := m.challenge.isEmpty && !m.authWaits
  let x := s.ring r
  if x.enumStep = 7 && all Monitor.configured then
    let s := s.enumAuth r
    if (List.range (s.nMon r)).all fun p => idle (s.mon (monKey r p)) then s.enumEnter r 9 else s
  else if x.enumStep = 8 && all idle then s.enumEnter r 9
  else s

/-- ENUMERATION_START (R64 step 1, R398): after chain wake, or as R335, R338 ask. -/
def execEnumerationStart (ring : Fin 4) (s : State) : Host.Outcome State Fault Refusal :=
  let r := ring.val
  doneIf (s.running && s.has r && s.directs && s.nMon r != 0 && s.lifecycle != 4 && !(s.ring r).asleep && !s.mooring &&
    (s.gn O.chainRingState r == 0 || s.gn O.chainRingState r == 1 && s.past (s.ring r).wakeAt 40000))
    (s.enumStart r) s

/-- ENUMERATION_WAIT_DONE (R64 step 2): after 15 ms the ring is whole where both ports receive IDLE, else split. -/
def execEnumerationWaitDone (ring : Fin 4) (aIdle bIdle : Bool) (s : State) : Host.Outcome State Fault Refusal :=
  let r := ring.val
  let t := (s.enumEnter r 3).ringUpd r fun x => { x with
    split := !(aIdle && bIdle), foundA := [], foundB := [], lostA := x.lostA && !aIdle, lostB := x.lostB && !bIdle
    trainA := none, trainB := none }
  doneIf (s.running && (s.ring r).enumStep == 2 && s.past (s.ring r).enumAt 15000) (t.enumerateFrom r false) s

/-- MANIFEST_MISMATCH_REENUMERATE (R338). -/
def execManifestMismatchReenumerate (ring : Fin 4) (s : State) : Host.Outcome State Fault Refusal :=
  let r := ring.val
  doneIf (s.running && (s.ring r).mismatch && [0, 9, 10].contains (s.seqState r)) (s.enumStart r) s

/-! ### Breaks (R53, R68 to R72) -/

/-- R53: what makes a receiver declare its lane lost. -/
def laneGone : LaneSeen → Bool
  | .silent ns => decide (1000 ≤ ns)
  | .violations n => decide (4 ≤ n)
  | .dark n => decide (8 ≤ n)

/-- R69, R71: the ring is broken at a port's own link. In a tally it is split from the next one; in steps 6 to 8 of an
enumeration at once; in steps 3 and 4 those steps are run again, from each head for its segment (DESIGN CHOICE, log entry
110). -/
def State.portBroken (s : State) (r l : Nat) : State :=
  let e := (s.ring r).enumStep
  if [3, 4].contains (s.gn O.chainRingState r) || e = 9 then s.linkBroken r l
  else if e = 3 || e = 4 then
    let s := (s.dropWork r).ringUpd r fun x => { x with split := true, foundA := [], foundB := [] }
    (s.enumEnter r 3).enumerateFrom r false
  else if 6 ≤ e then
    let s := s.ringUpd r fun x => { x with split := x.split || x.wantR != 0 }
    if (s.ring r).broken.contains l then s else ((s.raise (ringSource r 0) l).splitAt r [l]).enumDelays r
  else s

/-- LANE_LOST (R53, R69, R71): the port transmits DARK and names its own link. -/
def execLaneLost (ring : Fin 4) (loss : LaneLoss) (s : State) : Host.Outcome State Fault Refusal :=
  let r := ring.val
  let bEnd := loss.bEnd
  let lost := if bEnd then (s.ring r).lostB else (s.ring r).lostA
  let t := s.ringUpd r fun x =>
    if bEnd then { x with lostB := true, lostAtB := s.mono } else { x with lostA := true, lostAtA := s.mono }
  let t := t.bump O.chainErrorCount (r * 8 + 7)
  doneIf (s.cd && s.has r && s.nMon r != 0 && s.ownsEnd bEnd && !lost && laneGone loss.seen)
    (t.portBroken r (if bEnd then s.nMon r else 0)) s

/-- R72: both sides of a broken link show it restored: LINKS bit 3 of the monitors next to it, or the port's lane. -/
def State.linkReady (s : State) (r l : Nat) : Bool :=
  let x := s.ring r
  let side (p : Nat) : Bool := bit (s.mon (monKey r p)).links 3
  (if l = 0 then !x.lostA else side (l - 1)) && (if l = s.nMon r then !x.lostB else side l)

/-- R72: REJOIN to both monitors next to a broken link that is ready, each from its own end, once until both have
answered. -/
def State.rejoin (s : State) (r : Nat) : State :=
  match (s.ring r).broken.find? fun l => s.linkReady r l && !(s.ring r).asked.contains l with
  | none => s
  | some l =>
    let s := s.ringUpd r fun x => { x with asked := l :: x.asked, applied := x.applied.filter fun k => k / 2 != l }
    let s := if l = 0 then s else s.queueTo r (l - 1) 4 0x41 [2]
    if l = s.nMon r then s else s.queueTo r l 4 0x41 [1]

/-- R72: the link that a REJOIN names: the one towards the B-end of its monitor (2), or towards the A-end (1). -/
def State.rejoinLink (s : State) (r : Nat) (b : Bool) (t : Train) : Nat :=
  let p := s.posOf r b (t.hops.headD 0)
  if byteAt t.frame 4 == 2 then p + 1 else p

/-- R72: REJOIN of a link has failed: what waits of it is dropped, and it waits for the link to show restored again. -/
def State.rejoinEnds (s : State) (r l : Nat) : State :=
  let other (b : Bool) (t : Train) : Bool := !(t.cmd == 0x41 && s.rejoinLink r b t == l)
  s.ringUpd r fun x => { x with
    asked := x.asked.erase l, applied := x.applied.filter fun k => k / 2 != l, queueA := x.queueA.filter (other false),
    queueB := x.queueB.filter (other true) }

/-- R72, R76: a command of a TYPE to a monitor is waiting or on its way. -/
def State.cmdAsked (s : State) (r p cmd : Nat) : Bool :=
  [false, true].any fun b => ((s.ring r).queue b ++ ((s.ring r).train b).toList).any fun t =>
    t.cmd == cmd && t.hops.any fun h => s.posOf r b h == p

/-- R72, R76: a READ_STATUS to a monitor is waiting or on its way. -/
def State.statusAsked (s : State) (r p : Nat) : Bool := s.cmdAsked r p 0x04

/-- R72: READ_STATUS to the monitors next to a broken link that do not show it restored yet, in the idle slots of every
tally (DESIGN CHOICE, log entry 111: how often). -/
def State.pollBreaks (s : State) (r : Nat) : State :=
  let next := ((s.ring r).broken.flatMap fun l => (if l = 0 then [] else [l - 1]) ++ (if l = s.nMon r then [] else [l])).eraseDups
  forEach (next.filter fun p => !bit (s.mon (monKey r p)).links 3) s fun s p =>
    if s.statusAsked r p then s else s.queueTo r p 4 0x04 []

/-- LANE_RESTORED (R53, R72): 10 ms of valid symbols with no violation and no DARK; a port's own broken link may now be
rejoined. -/
def execLaneRestored (ring : Fin 4) (valid : LaneValid) (s : State) : Host.Outcome State Fault Refusal :=
  let r := ring.val
  let bEnd := valid.bEnd
  let x := s.ring r
  let lost := if bEnd then x.lostB else x.lostA
  let t := s.ringUpd r fun x => if bEnd then { x with lostB := false } else { x with lostA := false }
  doneIf (s.cd && lost && decide (10000 ≤ valid.validUs) && s.past (if bEnd then x.lostAtB else x.lostAtA) 10000)
    (if s.running && s.directs then t.rejoin r else t) s

/-- R72, R476: a link rejoined; IDENTIFY to every monitor; offset 0xE. A ring that was split when enumerated is then
measured where it has not been, R over 16 returns (R475). -/
def State.rejoined (s : State) (r l : Nat) : State :=
  let s := (s.rejoinEnds r l).ringUpd r fun x => { x with broken := x.broken.erase l, drift := 0 }
  let b := (s.ring r).broken
  let s := s.put O.chainBreakLink r (b.headD 0 : Nat)
  let s := if b.isEmpty && s.gn O.chainRingState r = 4 then s.put O.chainRingState r 3 else s
  let s := if b.isEmpty && (s.ring r).split then
      s.ringUpd r fun x => { x with split := false, remeasure := .rejoined, wantR := 16, sumR := 0, cntR := 0 }
    else s
  ((s.rehome r).identifyAll r).raise (ringSource r 0xE) l

/-! ### Trains in time (R60, R66, R76, R82) -/

/-- R71: no link of the ring is broken and it was whole when enumerated. -/
def Ring.whole (x : Ring) : Bool := x.broken.isEmpty && !x.split

/-- R60, R61: an end may launch a train: none is in flight on the ring; on a split ring, none of its own segment, except that
an ECHO shares the ring with nothing. -/
def Ring.free (x : Ring) (b : Bool) (t : Train) : Bool :=
  (x.train b).isNone && ((x.train (!b)).isNone ||
    (!x.whole && !t.isEcho && !(match x.train (!b) with | some u => u.isEcho | none => false)))

/-- R82, Table 3-2: the next train of an end: the lowest order, the oldest within it. -/
def nextTrain (q : List Train) : Option Train :=
  match q with
  | [] => none
  | t :: ts => some (ts.foldl (fun a b => if b.order < a.order then b else a) t)

/-- R360: the longest that a duplex frame of priority 1 takes with `n` bytes of a chain frame: 14 µs of wait, and 50 ns for each
byte, SOF to EOF, ring and time included; µs rounded up. -/
def duplexUs (n : Nat) : Nat := (14000 + 50 * (n + 18) + 999) / 1000

/-- R368: link time back from the partner for the longest reply of a train, µs; 0 at the device's own port. -/
def State.backUs (s : State) (r : Nat) (b : Bool) (t : Train) : Nat :=
  if s.ownsEnd b then 0 else duplexUs ((t.hops.map fun h => s.replyLen r (s.posOf r b h) t.cmd + 8).foldl max 0)

/-- R368: link time to the partner for a train, µs; 0 at the device's own port. -/
def State.outUs (s : State) (b : Bool) (t : Train) : Nat := if s.ownsEnd b then 0 else duplexUs t.frame.length

/-- R60, R70, R368: local time by which a train must have left its port: it ends, link time included, 40 µs before the next
trigger, and a recovery of the sweep by T − 100 µs. -/
def State.latest (s : State) (r : Nat) (b : Bool) (t : Train) : Int :=
  (s.fw.tallyAt : Int) + s.fw.period - (if t.isSweep then 100 else 70) - (s.trainTime r b t : Nat) - (s.backUs r b t : Nat)

/-- R60: a train launched now leaves its port in time. A ring in enumeration has no trigger before step 9. -/
def State.fits (s : State) (r : Nat) (b : Bool) (t : Train) : Bool :=
  !s.fw.ticking || !([3, 4].contains (s.gn O.chainRingState r) || (s.ring r).enumStep == 9) ||
    decide ((s.mono : Int) + (s.outUs b t : Nat) ≤ s.latest r b t)

/-- R55, R58, R109: a train as its head first sends it: SEQ of this tally, START two tallies ahead, the values of CONFIGURE
and the masks of BALANCE as they are now; a repetition is byte for byte. -/
def State.stamp (s : State) (r : Nat) (b : Bool) (t : Train) : Train :=
  if t.sent then t else
  let p := s.posOf r b (t.hops.headD 0)
  let d := framePayload t.frame
  let d' := match t.cmd with
    | 0x03 => s.configPayload r p s.nextPeriod
    | 0x20 => le 1 (t.hops.headD 0) ++ le 1 (t.hops.getLastD 0) ++ (d.drop 2).take 1 ++
        t.hops.flatMap fun h => le 3 (s.bleedMask r (s.posOf r b h))
    | 0x21 => d.take 2 ++ le 1 ((s.fw.tally + 2) % 256)
    | _ => d
  { t with frame := frameBytes (byteAt t.frame 0).toNat t.cmd s.seqNow d', sent := true }

/-- R105, R109: what the head notes of a command as it first leaves: the masks, and the tallies of an open-wire test. -/
def State.noteSent (s : State) (r : Nat) (b : Bool) (t : Train) : State :=
  forEach t.hops s fun s h =>
    let p := s.posOf r b h
    let d := framePayload t.frame
    if t.cmd = 0x20 then s.monUpd (monKey r p) fun m => { m with balMask := s.bleedMask r p }
    else if t.cmd = 0x21 then s.monUpd (monKey r p) fun m => { m with ow := { m.ow with
      sent := true, tally := s.fw.tally, last := ((byteAt d 1).toNat * 100 + 20) / s.fw.period } }
    else s

/-- R404: SLEEP has left an end: the ring is off and its ports silent once no other is to follow. -/
def State.slept (s : State) (r : Nat) : State :=
  let x := s.ring r
  if (x.queueA ++ x.queueB).any fun t => t.cmd == 0x40 then s
  else
    ((s.put O.chainRingState r 0).ringUpd r fun x => {
      lostA := x.lostA, lostB := x.lostB, lostAtA := x.lostAtA, lostAtB := x.lostAtB, asleep := true, trainA := x.trainA,
      trainB := x.trainB, errors := x.errors }).refreshEst r

/-- R60: a train leaves an end; the partner launches it from its port at a CHAIN_REQ (R365, R367, R368). -/
def State.launch (s : State) (r : Nat) (b : Bool) (t : Train) : State :=
  let t' := s.stamp r b t
  let s := if t.sent then s else s.noteSent r b t'
  let wait := if s.fw.ticking then (s.latest r b t - (s.mono : Int)).toNat else s.fw.period
  let s := if s.ownsEnd b then s else s.dupSend (.chainReq r t'.frame (s.now + wait))
  let s := (s.setTrain r b (some { t' with at' := s.mono })).ringUpd r fun x =>
    let gone := if t.isSweep then x.missing.filter (fun p => !(t.hops.map (s.posOf r b)).contains p) else x.missing
    { x with seenA := if b && !x.broken.isEmpty then x.seenA else [], seenB := if !b && !x.broken.isEmpty then x.seenB else [],
             replies := x.replies.filter (fun p => !x.broken.isEmpty && p.1 / 32 != b2n b), missing := gone,
             echoed := x.echoed || t.isEcho, sweeps := if t.isSweep then (b, { t' with at' := s.mono }) :: x.sweeps else x.sweeps }
  if t.cmd = 0x40 then s.slept r else s

/-- R64, R65, R66, R475: the ECHO that is due from an end: step 6 of enumeration, the A-end's hops before the B-end's, or a
re-measurement: of a drifting ring one in the idle slots of each tally. -/
def State.echoDue (s : State) (r : Nat) (b : Bool) : Option Train :=
  let x := s.ring r
  let turn := x.enumStep != 6 || !b || (s.nextEcho r false).isNone
  if turn && (x.enumStep == 6 || x.remeasure == .rejoined || (x.remeasure == .drift && !x.echoed)) then
    match s.nextEcho r b with
    | some h => some { order := 8, frame := frameBytes (cmdCtrl b h) 0x02 s.seqNow (le 4 (b2n b * 32 + h)), hops := [h] }
    | none => none
  else none

/-- R82: the train that an end would launch next, and whether it comes from the queue: a sweep in progress lets only its own
recovery pass, and the ECHOs of R475 have order 4. -/
def State.nextLaunch (s : State) (r : Nat) (b : Bool) : Option (Train × Bool) :=
  let x := s.ring r
  let echo := if x.sweeping then none else (s.echoDue r b).map fun t => (t, false)
  match nextTrain (if x.sweeping then (x.queue b).filter Train.isSweep else x.queue b) with
  | some t => if x.remeasure == .rejoined && decide (4 < t.order) && echo.isSome then echo else some (t, true)
  | none => echo

/-- R49, R60, R73: an end may launch a train now. On a whole ring only the head launches, but for a far-side re-read and the
ENUMERATE and ECHOs of the other end. -/
def State.mayLaunch (s : State) (r : Nat) (b : Bool) (t : Train) : Bool :=
  let x := s.ring r
  let st := s.gn O.chainRingState r
  s.directs && s.reaches b && ([2, 3, 4].contains st || x.mooring && st != 0) && x.free b t && s.fits r b t &&
    (!x.whole || b == s.headB || t.isSweep || t.isEcho || t.cmd == 0x01)

/-- R82: a waiting train of an end leaves. -/
def State.launchQueued (s : State) (r : Nat) (b : Bool) (t : Train) : State :=
  (s.setQueue r b (((s.ring r).queue b).erase t)).launch r b t

/-- R72: the REJOIN that leaves the other end in the same idle slot as a first REJOIN of a link. -/
def State.rejoinMate (s : State) (r : Nat) (b : Bool) (t : Train) : Option Train :=
  if t.cmd ≠ 0x41 then none
  else ((s.ring r).queue (!b)).find? fun u => u.cmd == 0x41 && s.rejoinLink r (!b) u == s.rejoinLink r b t

/-- R72, R82: a train leaves an end, and with it the other end's REJOIN of the same link. -/
def State.launchSlot (s : State) (r : Nat) (b : Bool) (t : Train) (queued : Bool) : State :=
  let u := s.rejoinMate r b t
  let s := if queued then s.launchQueued r b t else s.launch r b t
  match u with | some u => s.launchQueued r (!b) u | none => s

/-- IDLE_SLOT_LAUNCH (R82, R60): the next train of the end, in the order of Table 3-2. -/
def execIdleSlotLaunch (ring : Fin 4) (bEnd : Bool) (s : State) : Host.Outcome State Fault Refusal :=
  let r := ring.val
  match s.nextLaunch r bEnd with
  | none => done s
  | some (t, queued) =>
    let mate := match s.rejoinMate r bEnd t with | some u => s.mayLaunch r (!bEnd) u | none => true
    doneIf (s.running && s.has r && s.mayLaunch r bEnd t && mate) (s.launchSlot r bEnd t queued) s

/-- R76, R64, R72, R75: three attempts of a command have had no answer from a position: it is unresponsive; a step of
enumeration fails (step 6 with 0x9 first), an authentication has no answer, a rejoin waits. -/
def State.unanswered (s : State) (r p : Nat) (t : Train) : State :=
  let s := s.monUpd (monKey r p) fun m => { m with unresponsive := true, periodDue := m.periodDue && t.cmd != 0x03 }
  let e := (s.ring r).enumStep
  if t.cmd = 0x30 then s.setAuth r p 3
  else if t.cmd = 0x41 then s.rejoinEnds r (if byteAt t.frame 4 = 2 then p + 1 else p)
  else if e = 6 then (s.raise (ringSource r 9) p).enumFail r p
  else if e = 7 then s.enumFail r p
  else s

/-- R76: the hold instant of an OPEN_WIRE's START has passed. -/
def State.startGone (s : State) (t : Train) : Bool := decide ((s.seqNow + 256 - (byteAt t.frame 6).toNat) % 256 < 128)

/-- R76: OPEN_WIRE repetitions that wait while the hold instant of their START passes are not sent any more. -/
def State.dropLateTests (s : State) (r : Nat) : State :=
  forEach [false, true] s fun s b =>
    let late (t : Train) : Bool := t.cmd == 0x21 && t.sent && s.startGone t
    let q := (s.ring r).queue b
    forEach (q.filter late) (s.setQueue r b (q.filter fun t => !late t)) fun s t =>
      s.owInconclusive r (s.posOf r b (t.hops.headD 0))

/-- R76: replies to a command other than SWEEP are missing: each is counted, and the command repeated byte for byte up to
twice, before other work. AUTH_READ follows R75; an OPEN_WIRE whose START has passed is not repeated and its test is
inconclusive. -/
def State.repliesMissing (s : State) (r : Nat) (b : Bool) (t : Train) (silent : List Nat) : State :=
  let s := forEach silent s fun s h => s.chainError r 5 (some 1) (s.posOf r b h)
  match silent with
  | [] => s
  | h :: _ =>
    let p := s.posOf r b h
    let again : Train := { t with order := 1, tries := t.tries + 1, wanted := some silent }
    if t.cmd = 0x31 then s.authNone r p b again
    else if t.cmd = 0x21 && s.startGone t then s.owInconclusive r p
    else if t.tries < 2 then s.requeue r b again
    else forEach silent s fun s h => s.unanswered r (s.posOf r b h) t

/-- R66, R475: a re-measurement is complete: the hold delays of changed hops are sent, then the measurements are checked; a
ring out of limits raises offset 0x9, and one just rejoined is measured again. -/
def State.remeasured (s : State) (r : Nat) : State :=
  let x := s.ring r
  if x.enumStep = 0 && x.remeasure != .none && s.echoesDone r then
    let s := ((s.ringUpd r fun x => { x with remeasure := .none }).ranWork 7).reconfigure r
    match s.delayFault r with
    | some p =>
      let s := s.raise (ringSource r 9) p
      if x.remeasure == .rejoined then s.ringUpd r fun x => { x with remeasure := .drift, echo := [], wantR := 1, sumR := 0, cntR := 0 }
      else s
    | none => s
  else s

/-- The end of a train (R60): the hops that have not answered are missing, but for SWEEP, whose hops R70 judges, and
ENUMERATE, whose end completes its step; at the partner it is the holder that judges them (R367). -/
def State.trainDone (s : State) (r : Nat) (b : Bool) (t : Train) : State :=
  let x := s.ring r
  let silent := (t.wanted.getD t.hops).filter fun h => !mhas x.replies (b2n b * 32 + h)
  let s := s.setTrain r b none
  if t.isSweep || t.dead || !s.directs then s
  else if t.cmd = 0x01 then
    if x.enumStep = 3 && !b then (s.enumEnter r 4).enumerateFrom r true
    else if x.enumStep = 4 && b then s.enumCheck r else s
  else (((s.repliesMissing r b t silent).enumDelays r).enumAdvance r).remeasured r

/-- TRAIN_EOT_RETURNED (R60). -/
def execTrainEotReturned (ring : Fin 4) (bEnd : Bool) (s : State) : Host.Outcome State Fault Refusal :=
  match (s.ring ring.val).train bEnd with
  | none => done s
  | some t => doneIf s.running (s.trainDone ring.val bEnd t) s

/-- TRAIN_TIMEOUT (R60, R76): 50 µs after the expected arrival of the EOT. -/
def execTrainTimeout (ring : Fin 4) (bEnd : Bool) (s : State) : Host.Outcome State Fault Refusal :=
  let r := ring.val
  match (s.ring r).train bEnd with
  | none => done s
  | some t =>
    doneIf (s.running && s.past t.at' (s.trainTime r bEnd t + 50))
      ((if s.directs then s.chainError r 5 (some 1) (s.faultPos r) else s).trainDone r bEnd t) s

/-- R65, R475: one return of a symbol towards R: once as many as are wanted have come, `RingRoundTrip` is their mean. -/
def State.measureR (s : State) (r ns : Nat) : State :=
  let s := s.ringUpd r fun x => { x with wantR := x.wantR - 1, sumR := x.sumR + ns, cntR := x.cntR + 1 }
  let x := s.ring r
  if x.wantR ≠ 0 then s
  else
    let s := s.put O.ringRoundTrip r (min 65535 (roundQ ((x.sumR : Rat) / (x.cntR : Rat))).toNat : Nat)
    ((s.ringUpd r fun x => { x with sumR := 0, cntR := 0 }).enumDelays r).remeasured r

/-- R66, R461: the round trip of a returned trigger, less the port's own delays: it measures R where that is wanted; more than 0.20 µs from R in 10 consecutive
tallies raises offset 0x9 (DESIGN CHOICE, log entry 108: instance 0, no single position is concerned) and re-measures the
ring, during which nothing is counted. -/
def State.triggerBack (s : State) (r ns : Nat) : State :=
  let x := s.ring r
  let rt := s.gn O.ringRoundTrip r
  let ns := ns - s.portNs r s.headB
  if x.wantR ≠ 0 then s.measureR r ns
  else if x.remeasure != .none then s
  else if (ns : Int) ≤ rt + 200 ∧ (rt : Int) ≤ ns + 200 then s.ringUpd r fun x => { x with drift := 0 }
  else if x.drift + 1 < 10 then s.ringUpd r fun x => { x with drift := x.drift + 1 }
  else
    (s.ringUpd r fun x => { x with drift := 0, remeasure := .drift, echo := [], wantR := 1, sumR := 0, cntR := 0 }).raise
      (ringSource r 9) 0

/-- R66, R76: what returned to a head differs from what it sent: the last trigger, the command of the train in flight; on a
split ring each end has its own. -/
def State.returnDiffers (s : State) (r : Nat) (rp : ReturnPath) : Bool :=
  let x := s.ring r
  match rp with
  | .trigger b _ seq check => match (if b then x.trigB else x.trigA) with
    | some g => g.seq != seq || g.check != check
    | none => false
  | .command b f => match x.train b with
    | some t => t.frame != f
    | none => false
  | .holder => false

/-- R367, R369: the holder's trigger has come through to the far end, so the ring is whole, and the partner is its tail again
(DESIGN CHOICE, log entry 188: how a partner learns of a rejoin). -/
def State.wholeAgain (s : State) (r : Nat) : State :=
  if (s.ring r).broken.isEmpty then s else
  let s := (s.ringUpd r fun x => { x with broken := [], located := [], split := false }).put O.chainBreakLink r 0
  if s.gn O.chainRingState r = 4 then s.put O.chainRingState r 3 else s

/-- R363, R367, R369: a trigger of the holder decoded at the own port of a device that does not direct the ring: on a whole ring
it places the coming tally instant, 30 µs after the trigger left the holder. -/
def State.holderHeard (s : State) (r : Nat) : State :=
  let s := (s.ringUpd r fun x => { x with holderTrigger := s.mono, takeover := false }).wholeAgain r
  let rt := s.gn O.ringRoundTrip r
  let back := 30 - ((rt : Int) - 600) / 2000 - (s.fw.period : Int)
  if s.fw.ticking && s.gn O.chainRingState r = 3 && rt ≠ 0 then
    { s with fw := { s.fw with tallyTime := ((s.now : Int) + back).toNat, tallyAt := ((s.mono : Int) + back).toNat } }
  else s

/-- R66, R76: what returned to a head is compared with what it sent. -/
def State.returnCompare (s : State) (r : Nat) (rp : ReturnPath) : State :=
  if s.returnDiffers r rp then s.chainError r 1 (some 0xD) (s.faultPos r) else s

/-- R66, R65, R72: the return path at the device that directs the ring. -/
def State.returned (s : State) (r : Nat) (rp : ReturnPath) : State :=
  let whole := (s.ring r).broken.isEmpty && [2, 3].contains (s.gn O.chainRingState r)
  match rp with
  | .trigger b ns _ _ => if whole && b == s.headB then (s.returnCompare r rp).triggerBack r ns else s.returnCompare r rp
  | .command _ _ => s.returnCompare r rp
  | .holder => s

/-- R367, R369, R363: the return path at the partner: its own trigger is compared with what it sent, a command frame goes to the
holder, which compares it, and the holder's trigger ends what the partner does as head. -/
def State.returnedFar (s : State) (r : Nat) (rp : ReturnPath) : State :=
  match rp with
  | .trigger _ _ _ _ => s.returnCompare r rp
  | .command b f => s.forward r b f
  | .holder => s.holderHeard r

/-- RETURN_PATH_CHECK (R66, R65, R72, R76, R367): a returned trigger or command that differs raises 0xD and is otherwise taken as
usual. -/
def execReturnPathCheck (ring : Fin 4) (rp : ReturnPath) (s : State) : Host.Outcome State Fault Refusal :=
  let r := ring.val
  if s.directs then doneIf (s.running && s.has r && [2, 3, 4].contains (s.gn O.chainRingState r)) (s.returned r rp) s
  else doneIf (s.running && s.has r) (s.returnedFar r rp) s

/-! ### The replies -/

/-- R76, R338, R75: an IDENT of IDENTIFY: a UID that has moved or changed raises 0xB and authenticates the position; one
that would fail R337 sets the mismatch and raises 0x8. -/
def State.identified (s : State) (r p uid : Nat) : State :=
  let k := monKey r p
  let old := (s.mon k).uid
  if old = uid then s else
  let s := (s.monUpd k fun m => { m with uid := uid }).put O.moduleUid k (uid : Nat)
  let s := (s.raise (ringSource r 0xB) p).authStart r p
  let uids := (List.range (s.nMon r)).map fun q => (s.mon (monKey r q)).uid
  match s.mismatchOf r uids with
  | some (c, q) => ((s.noteMismatch r c q).ringUpd r fun x => { x with mismatch := true }).raise (ringSource r 8) q
  | none => s

/-- IDENT (R62, R64, R76): of ENUMERATE, each POSITION equals the number of IDENTs before it; of IDENTIFY, the monitor's
identity. -/
def State.takeIdent (s : State) (r p : Nat) (b : Bool) (frame : List Byte) : State :=
  let d := framePayload frame
  let uid := leAt d 0 8
  let cmd := match (s.ring r).train b with | some t => (byteAt t.frame 1).toNat | none => 0
  if cmd = 1 then
    let found := if b then (s.ring r).foundB else (s.ring r).foundA
    if (byteAt d 12).toNat ≠ found.length then s.enumFail r (min 31 (byteAt d 12).toNat)
    else s.ringUpd r fun x => if b then { x with foundB := x.foundB ++ [uid] } else { x with foundA := x.foundA ++ [uid] }
  else
    let s := s.monUpd (monKey r p) fun m =>
      { m with model := leAt d 8 2, rev := (byteAt d 10).toNat, channels := (byteAt d 11).toNat }
    s.identified r p uid

/-- IDENT: what `State.takeIdent` does with the first valid copy. -/
def execIdent (ring : Fin 4) (bEnd : Bool) (frame : List Byte) (s : State) : Host.Outcome State Fault Refusal :=
  s.onReply ring.val bEnd frame fun s p b => s.takeIdent ring.val p b frame

/-- ECHO_BACK (R61, R65, R365): the tag comes back; t0 and t1 are counts of domain 5. The device that owns the port
measures. The train still ends with its EOT or its timeout (R60). -/
def State.takeEcho (s : State) (r p : Nat) (b : Bool) (frame : List Byte) (t0 t1 : Nat) : State :=
  let hop := if b then s.nMon r - 1 - p else p
  let tag := leAt (framePayload frame) 0 4
  if tag ≠ b2n b * 32 + hop then s.chainError r 2 (some 3) p
  else if !s.ownsEnd b then s.echoForwarded r tag
  else ((s.echoTaken r tag (t1 - t0)).enumDelays r).remeasured r

/-- ECHO_BACK: what `State.takeEcho` does with the first valid copy; a device that does not direct the ring also forwards
it. -/
def execEchoBack (ring : Fin 4) (bEnd : Bool) (frame : List Byte) (t0 t1 : Nat) (s : State) :
    Host.Outcome State Fault Refusal :=
  let r := ring.val
  let take (s : State) (p : Nat) (b : Bool) : State := s.takeEcho r p b frame t0 t1
  if s.directs then s.onReply r bEnd frame take
  else doneIf (s.running && s.has r) ((s.forward r bEnd frame).reply r bEnd frame take) s

/-- CONFIG_ACK (R62, R64 step 7, R83): RESULT 0 and the CRC of the payload sent; otherwise the ring fails its
enumeration, or CONFIGURE is sent again. -/
def State.takeConfigAck (s : State) (r p : Nat) (b : Bool) (frame : List Byte) : State :=
  let d := framePayload frame
  let sent := match (s.ring r).train b with | some t => framePayload t.frame | none => []
  if byteAt d 0 = 0 && leAt d 1 4 == crc32 sent then
    s.monUpd (monKey r p) fun m => { m with
      config := sent, configured := true, periodDue := m.periodDue && sent != s.configPayload r p s.nextPeriod }
  else if (s.ring r).enumStep = 7 then s.enumFail r p
  else s.queueConfigure r p

/-- CONFIG_ACK: what `State.takeConfigAck` does with the first valid copy. -/
def execConfigAck (ring : Fin 4) (bEnd : Bool) (frame : List Byte) (s : State) : Host.Outcome State Fault Refusal :=
  s.onReply ring.val bEnd frame fun s p b => s.takeConfigAck ring.val p b frame

/-- STATUS (R62, R72, R99, R105, R442): MONITOR_FAULT clears on FAULTS 0; LINKS shows restored sides; no bleed fault returns the
monitor to balancing; the monitor has answered a device self-test. -/
def State.takeStatus (s : State) (r p : Nat) (frame : List Byte) : State :=
  let d := framePayload frame
  let faults := leAt d 0 4
  let s : State := { s with th := { s.th with test := { s.th.test with answered := s.th.test.answered.insert (monKey r p) } } }
  let s := s.monUpd (monKey r p) fun m =>
    { m with links := (byteAt d 8).toNat, fault := m.fault && !(m.faultOk && faults == 0),
             balRemoved := m.balRemoved && bit faults 3
             balMismatch := if m.balRemoved && !bit faults 3 then 0 else m.balMismatch }
  s.rejoin r

/-- STATUS: what `State.takeStatus` does with the first valid copy. -/
def execStatus (ring : Fin 4) (bEnd : Bool) (frame : List Byte) (s : State) : Host.Outcome State Fault Refusal :=
  s.onReply ring.val bEnd frame fun s p _ => s.takeStatus ring.val p frame

/-- AUTH_CHALLENGE's RESULT (R74): the wait for AUTH_READ starts. DESIGN CHOICE (log entry 112): a RESULT other than 0x00 is
no answer at once, without a repetition. -/
def State.takeAuthResult (s : State) (r p : Nat) (frame : List Byte) : State :=
  if byteAt (framePayload frame) 0 = 0 then s.monUpd (monKey r p) fun m => { m with challengeAt := s.mono }
  else (s.setAuth r p 3).enumAdvance r

/-- AUTH_RESULT: what `State.takeAuthResult` does with the first valid copy. -/
def execAuthResult (ring : Fin 4) (bEnd : Bool) (frame : List Byte) (s : State) : Host.Outcome State Fault Refusal :=
  s.onReply ring.val bEnd frame fun s p _ => s.takeAuthResult ring.val p frame

/-- AUTH_READ_DUE (R74): at least 1 ms after AUTH_CHALLENGE. -/
def execAuthReadDue (ring : Fin 4) (pos : Fin 32) (s : State) : Host.Outcome State Fault Refusal :=
  let m := s.mon (monKey ring.val pos.val)
  doneIf (s.running && !m.challenge.isEmpty && m.challengeAt != 0 && s.past m.challengeAt 1000)
    (let t := s.monUpd (monKey ring.val pos.val) fun m => { m with challengeAt := 0 }
     if (t.endOf ring.val pos.val).isNone then t.setAuth ring.val pos.val 3 else t.queueTo ring.val pos.val 7 0x31 []) s

/-- AUTH_MAC (R74, R75): READY 0 is no answer; a right MAC passes; the first wrong MAC waits 1 s for a fresh challenge,
the second fails. -/
def State.takeAuthMac (s : State) (r p : Nat) (b : Bool) (frame : List Byte) : State :=
  let d := framePayload frame
  let k := monKey r p
  let m := s.mon k
  let s := if byteAt d 0 ≠ 1 then
      match (s.ring r).train b with
      | some t => s.authNone r p b { t with order := 7, tries := t.tries + 1 }
      | none => s
    else match s.moduleKey r with
      | none => s
      | some km =>
        if (d.drop 1) == moduleMac km m.uid m.challenge then s.setAuth r p 1
        else if m.wrongAt.isSome then s.setAuth r p 2
        else s.monUpd k fun m => { m with wrongAt := some s.mono, challenge := [] }
  s.enumAdvance r

/-- AUTH_MAC: what `State.takeAuthMac` does with the first valid copy. -/
def execAuthMac (ring : Fin 4) (bEnd : Bool) (frame : List Byte) (s : State) : Host.Outcome State Fault Refusal :=
  s.onReply ring.val bEnd frame fun s p b => s.takeAuthMac ring.val p b frame

/-- AUTH_RETRY (R75): 1 s after a wrong MAC. -/
def execAuthRetry (ring : Fin 4) (pos : Fin 32) (s : State) : Host.Outcome State Fault Refusal :=
  let m := s.mon (monKey ring.val pos.val)
  doneIf (s.running && [2, 3, 4].contains (s.gn O.chainRingState ring.val) && m.challenge.isEmpty &&
      (match m.wrongAt with | some t => s.past t 1000000 | none => false))
    (s.authStart ring.val pos.val) s

/-- R75: the place of a monitor in the 24 h spread over all monitors, and their number. -/
def State.monitorTurn (s : State) (r p : Nat) : Nat × Nat :=
  (((List.range r).map s.nMon).sum + p, (s.strings.map s.nMon).sum)

/-- MODULE_AUTH_DUE (R75): the monitor's turn in the 24 h spread. -/
def execModuleAuthDue (ring : Fin 4) (pos : Fin 32) (s : State) : Host.Outcome State Fault Refusal :=
  let r := ring.val
  let m := s.mon (monKey r pos.val)
  let k := s.monitorTurn r pos.val
  doneIf (s.running && [3, 4].contains (s.gn O.chainRingState r) && decide (pos.val < s.nMon r) && m.challenge.isEmpty &&
    turnDue s.fw.startedAt 86400000000 k.1 k.2 m.authAt s.mono) (s.authStart r pos.val) s

/-- REJOIN's RESULT (R72): once every monitor next to a link has applied it, the link is rejoined; 0x04 leaves it broken
until LINKS shows it restored again. -/
def State.takeRejoinResult (s : State) (r p : Nat) (b : Bool) (frame : List Byte) : State :=
  let sideB := match (s.ring r).train b with | some t => byteAt t.frame 4 == 2 | none => false
  let l := if sideB then p + 1 else p
  let s := s.monUpd (monKey r p) fun m => { m with links := 0 }
  if !(s.ring r).broken.contains l || !(s.ring r).asked.contains l then s
  else if byteAt (framePayload frame) 0 ≠ 0 then s.rejoinEnds r l
  else
    let s := s.ringUpd r fun x => { x with applied := (2 * l + b2n (!sideB)) :: x.applied }
    let has (k : Nat) : Bool := (s.ring r).applied.contains k
    if (l = 0 || has (2 * l)) && (l = s.nMon r || has (2 * l + 1)) then s.rejoined r l else s

/-- REJOIN_RESULT: what `State.takeRejoinResult` does with the first valid copy. -/
def execRejoinResult (ring : Fin 4) (bEnd : Bool) (frame : List Byte) (s : State) : Host.Outcome State Fault Refusal :=
  s.onReply ring.val bEnd frame fun s p b => s.takeRejoinResult ring.val p b frame

/-- CHAIN_WAKE_END (R398): 40 ms of IDLE; step 1 of R64 follows. -/
def execChainWakeEnd (ring : Fin 4) (s : State) : Host.Outcome State Fault Refusal :=
  let r := ring.val
  doneIf (s.running && s.directs && !s.mooring && s.gn O.chainRingState r == 1 && s.past (s.ring r).wakeAt 40000) (s.enumStart r) s

end Sys2Proof.Machine
end

