-- ==== Sys2Proof/Machine/Currents.lean ====
section
/-! DEFINITION. Sys2Proof/Machine/Currents.lean: the current channels of chapter 3 (R86 to R92, R160, R161): conversion,
fast path, supervision, cross-check and selection. Channel key: string × 2 + channel (0 DSI, 1 ISA). -/

namespace Sys2Proof.Machine

/-- Table 3-4: weight of the modulator bit of age `k` in the sinc3 filter of decimation 20 (58 taps, sum 8,000). -/
def sincTap (k : Nat) : Nat :=
  (k + 2) * (k + 1) / 2 + 3 * ((k - 38) * (k - 39) / 2) - 3 * ((k - 18) * (k - 19) / 2)

/-- Table 3-4: the filter's sum over the last 58 modulator bits, bit 0 the newest. -/
def sincSum (b : BitVec 58) : Nat := ((List.range 58).map fun k => if b.getLsbD k then sincTap k else 0).sum

/-- R86: x of a DSI output: 2ρ − 1. -/
def dsiX (b : BitVec 58) : Rat := (2 * (sincSum b : Rat) - 8000) / 8000

/-- Table 3-4: sign of an over-range DSI output, 0 inside. -/
def dsiOver (x : Rat) : Int := if 4 / 5 < x then 1 else if x < -(4 / 5) then -1 else 0

/-- Table 3-4: sign of an over-range ISA output. DESIGN CHOICE (log entry 113): one end code among the four conversions
averaged is enough, and the positive one counts where both occur. -/
def isaOver (l : List Int) : Int := if l.contains 32767 then 1 else if l.contains (-32768) then -1 else 0

/-- R86: I = x × `CurrentFullScale` + `CurrentOffset`, rounded to 1 mA. -/
def State.scaled (s : State) (k : Nat) (x : Rat) : Int :=
  roundQ (x * (s.gi O.currentFullScale k : Rat) + (s.gi O.currentOffset k : Rat))

/-- Table 3-4: group delay G of a channel, ns. -/
def groupDelay (ch : Nat) : Int := if ch = 0 then 1425 else 2300

/-- R87: `CurrentAlignOffset` rounded to 25 ns. -/
def State.align (s : State) (k : Nat) : Int := 25 * roundQ ((s.gi O.currentAlignOffset k : Rat) / 25)

/-- R87, R88: how long after an instant its output appears, ns. -/
def State.lag (s : State) (k : Nat) : Int := groupDelay (k % 2) + s.align k

/-- R90: the channel is enabled. -/
def State.chanOn (s : State) (k : Nat) : Bool := s.gb O.currentChannelEnable k

/-- R90, R397, R439: FAULT of a channel. -/
def Chan.faulty (c : Chan) : Bool := c.fault || c.faultHeld || c.calFault

/-- R88: an output added to the sums of the tally that it represents. -/
def State.addOutput (s : State) (k : Nat) (v sign : Int) : State :=
  let rep := (s.now : Int) * 1000 - s.lag k
  let t := (s.fw.tallyTime : Int) * 1000
  let p := (s.fw.period : Int) * 1000
  s.chanUpd k fun c =>
    let c := { c with outs := (((s.now, v, sign) :: c.outs).take 32), overNow := c.overNow || sign != 0 }
    if !s.fw.ticking then c
    else if rep < t then { c with sumPrev := c.sumPrev + v, cntPrev := c.cntPrev + 1 }
    else if rep < t + p then { c with sumCur := c.sumCur + v, cntCur := c.cntCur + 1 }
    else { c with sumNext := c.sumNext + v, cntNext := c.cntNext + 1 }

/-- R92: the last 10 outputs lie beyond the charge, the discharge threshold. -/
def State.fastBeyond (s : State) (k : Nat) : Bool × Bool :=
  let w := (s.chan k).outs.take 10
  let up := w.any fun o => decide (0 < o.2.2)
  let down := w.any fun o => decide (o.2.2 < 0)
  let m : Rat := (w.map fun o => (o.2.1 : Rat)).sum / (w.length : Rat)
  if w.length < 10 then (up, down)
  else if up || down then (up, down)
  else (decide ((s.gn O.fastChargeThreshold (k / 2) : Rat) < m), decide (m < -(s.gn O.fastDischargeThreshold (k / 2) : Rat)))

/-- R92: the fast path of one channel in one microsecond. -/
def State.fastPath (s : State) (k : Nat) : State :=
  let b := if s.chanOn k && !(s.chan k).faulty then s.fastBeyond k else (false, false)
  s.chanUpd k fun c => { c with
    chargeSince := if b.1 then some (c.chargeSince.getD s.mono) else none
    dischargeSince := if b.2 then some (c.dischargeSince.getD s.mono) else none
    chargeRaised := c.chargeRaised && b.1
    dischargeRaised := c.dischargeRaised && b.2
    fastNow := c.fastNow || b.1 || b.2 }

/-- R90: the run of identical modulator bits after one more bit. -/
def runOf (c : Chan) (old new : Bool) : Nat := if old = new then min 128 (c.run + 1) else 1

/-- R86, R90: 20 modulator bits, the oldest in bit 19, enter the DSI channel. -/
def Chan.shift (c : Chan) (b : BitVec 20) : Chan :=
  (List.range 20).foldl (fun c i =>
    let n := b.getLsbD (19 - i)
    let run := runOf c (c.bits.getLsbD 0) n
    { c with run := run, stuck := c.stuck || run == 128, bits := (c.bits <<< 1) ||| (if n then 1 else 0) }) c

/-- R86, R397, R439: x of an ISA output of a string: the mean of its conversions, less the offset trim, over the gain that
calibration found (DESIGN CHOICE, log entry 137). -/
def State.isaX (s : State) (n : Nat) : Rat :=
  let c := s.chan (n * 2 + 1)
  let mean : Rat := (c.codes.map fun v => (v : Rat)).sum / (c.codes.length : Rat)
  (mean - (c.offset : Rat)) / 32768 / (1 + ((mget 0 s.th.trims (n + 1) : Int) : Rat) / 1000000)

/-- CURRENT_OUTPUT (R86, R88, R90, R92, R439): one output of both filtered streams of a string, at a whole microsecond. -/
def State.takeCurrent (s : State) (n : Nat) (dsiBits : BitVec 20) (isaCode : BitVec 16) : State :=
  let d := n * 2
  let a := n * 2 + 1
  let s' := s.chanUpd d fun c =>
    let c' := Chan.shift { c with stuck := false } dsiBits
    { c' with faultAt := if c'.stuck then s.mono else c.faultAt }
  let s' := s'.chanUpd a fun c =>
    { c with codes := ((if c.repeats then c.codes.headD isaCode.toInt else isaCode.toInt) :: c.codes).take 4, repeats := false }
  let x := dsiX (s'.chan d).bits
  let s' := (s'.addOutput d (s'.scaled d x) (dsiOver x)).addOutput a (s'.scaled a (s'.isaX n)) (isaOver (s'.chan a).codes)
  (s'.fastPath d).fastPath a

/-- CURRENT_OUTPUT: when it is due. -/
def execCurrentOutput (string : Fin 4) (dsiBits : BitVec 20) (isaCode : BitVec 16) (s : State) :
    Host.Outcome State Fault Refusal :=
  doneIf (s.pd && s.has string.val) (s.takeCurrent string.val dsiBits isaCode) s

/-- R92: when a channel's mean went beyond a threshold, the earlier of its two directions. -/
def Chan.beyondSince (c : Chan) : Option Nat :=
  match c.chargeSince, c.dischargeSince with
  | some a, some b => some (min a b)
  | some a, none => some a
  | none, o => o

/-- FAST_PATH_DEBOUNCE_EXPIRY (R92): a mean beyond one threshold without interruption for `FastPathDebounce`; 0x50 + n
with the channel whose mean went beyond first. -/
def execFastPathDebounceExpiry (string : Fin 4) (s : State) : Host.Outcome State Fault Refusal :=
  let n := string.val
  let due (o : Option Nat) : Bool := match o with | some t => s.past t (s.gn O.fastPathDebounce 0) | none => false
  let charge (k : Nat) : Bool := !(s.chan k).chargeRaised && due (s.chan k).chargeSince
  let discharge (k : Nat) : Bool := !(s.chan k).dischargeRaised && due (s.chan k).dischargeSince
  let hit (k : Nat) : Bool := charge k || discharge k
  let first : Nat := match (s.chan (n * 2)).beyondSince, (s.chan (n * 2 + 1)).beyondSince with
    | some a, some b => if b < a then 1 else 0
    | none, some _ => 1
    | _, none => 0
  let mark (t : State) (k : Nat) : State := t.chanUpd k fun c =>
    { c with chargeRaised := c.chargeRaised || charge k, dischargeRaised := c.dischargeRaised || discharge k }
  doneIf (s.pd && s.has n && (hit (n * 2) || hit (n * 2 + 1)))
    (((mark (mark s (n * 2)) (n * 2 + 1)).sayP 3 (8 + n)).raise (0x50 + n) first) s

/-- R87: the stream's value at an instant of device time (ns), by linear interpolation in fortieths of a microsecond. -/
def Chan.valueAt (c : Chan) (ns : Int) : Option Int :=
  let t0 := (ns / 1000).toNat
  let w : Rat := ((ns % 1000) / 25 : Int)
  let at' (t : Nat) : Option Int := (c.outs.find? fun o => o.1 == t).map fun o => o.2.1
  match at' t0, at' (t0 + 1) with
  | some a, some b => some (roundQ ((a : Rat) + ((b : Rat) - (a : Rat)) * w / 40))
  | some a, none => if w = 0 then some a else none
  | none, _ => none

/-- CURRENT_SAMPLE_DELIVERED (R87, R88): the sample of tally n and its mean reach the compute die over the link. DESIGN
CHOICE (log entry 114): where no output represents the interval before the tally, the mean is the sample. -/
def execCurrentSampleDelivered (string : Fin 4) (ch : Fin 2) (s : State) : Host.Outcome State Fault Refusal :=
  let k := string.val * 2 + ch.val
  let c := s.chan k
  match c.valueAt ((s.fw.tallyTime : Int) * 1000 + s.lag k) with
  | none => done s
  | some v =>
    let m : Int := if c.cntPrev = 0 then v else roundQ ((c.sumPrev : Rat) / (c.cntPrev : Rat))
    doneIf (s.running && s.pd && s.has string.val && s.fw.ticking && !s.linkC.lost)
      ((s.sayP 3 k).chanUpd k fun c => { c with sample := v, mean := m, delivered := true }) s

/-- R90: FAULT of a channel sets; its source is raised when it does. -/
def State.chanFault (s : State) (k src : Nat) : State :=
  let was := (s.chan k).fault
  let s := s.chanUpd k fun c => { c with fault := true, faultAt := s.mono }
  if was then s else s.raise src 0

/-- DSI_STUCK_FAULT (R90): 128 identical bits. -/
def execDsiStuckFault (string : Fin 4) (s : State) : Host.Outcome State Fault Refusal :=
  let n := string.val
  let c := s.chan (n * 2)
  let at' := if c.run = 128 then s.mono else c.faultAt
  doneIf (s.pd && s.has n && s.chanOn (n * 2) && (c.stuck || c.run == 128))
    (((s.chanFault (n * 2) (0x54 + n))).chanUpd (n * 2) fun c => { c with stuck := false, faultAt := at' }) s

/-- ISA_RANGE_FAULT (R90): an input outside 0.5 V to 4.5 V for 10 µs. -/
def execIsaRangeFault (string : Fin 4) (s : State) : Host.Outcome State Fault Refusal :=
  let n := string.val
  doneIf (s.pd && s.has n && s.chanOn (n * 2 + 1)) (s.chanFault (n * 2 + 1) (0x58 + n)) s

/-- CURRENT_FAULT_CLEAR (R90): 100 ms without the condition. -/
def execCurrentFaultClear (string : Fin 4) (ch : Fin 2) (s : State) : Host.Outcome State Fault Refusal :=
  let k := string.val * 2 + ch.val
  doneIf (s.pd && (s.chan k).fault && s.past (s.chan k).faultAt 100000) (s.chanUpd k fun c => { c with fault := false }) s

/-! ### Selection (R89, R160, R161) -/

/-- R89, R160: a channel qualifies for selection. -/
def State.qualifies (s : State) (k : Nat) : Bool :=
  let c := s.chan k
  s.chanOn k && !c.faulty && c.delivered && !c.implausible

/-- R89, R160: the selected channel of a string. -/
def State.selected (s : State) (n : Nat) : Option Nat :=
  let p := s.gn O.currentPrimary n
  let q := 1 - p
  if s.qualifies (n * 2 + p) && s.qualifies (n * 2 + q) then
    let a := s.chan (n * 2)
    let b := s.chan (n * 2 + 1)
    match a.winDiff, b.winDiff with
    | some x, some y => if a.disagree && b.disagree && x != y then some (if x < y then 0 else 1) else some p
    | _, _ => some p
  else if s.qualifies (n * 2 + p) then some p
  else if s.qualifies (n * 2 + q) then some q
  else none

/-- R91: the comparison of one tally enters the counts. -/
def State.crossCount (s : State) (n : Nat) : State :=
  let a := s.chan (n * 2)
  let b := s.chan (n * 2 + 1)
  let put (s : State) (bad good : Nat) : State :=
    { s with fab := { s.fab with crossBad := mset 0 s.fab.crossBad n bad, crossGood := mset 0 s.fab.crossGood n good } }
  if s.qualifies (n * 2) && s.qualifies (n * 2 + 1) then
    let out := decide (50 * s.gn O.currentCrossTolerance n + max a.sample.natAbs b.sample.natAbs <
      50 * (a.sample - b.sample).natAbs)
    if out then put s (min 100 (mget 0 s.fab.crossBad n + 1)) 0 else put s 0 (min 100 (mget 0 s.fab.crossGood n + 1))
  else put s 0 0

/-- CROSS_CHECK_DISAGREE (R91): 100 consecutive tallies outside the tolerance set DISAGREE and raise 0x5C + n; 100 within
it clear DISAGREE. -/
def execCrossCheckDisagree (string : Fin 4) (s : State) : Host.Outcome State Fault Refusal :=
  let n := string.val
  let set' (s : State) (v : Bool) (k : Nat) : State :=
    s.chanUpd k fun c => { c with disagree := v, winDiff := if v then none else c.winDiff }
  let is := (s.chan (n * 2)).disagree
  let t :=
    if mget 0 s.fab.crossBad n = 100 && !is then (set' (set' s true (n * 2)) true (n * 2 + 1)).raise (0x5C + n) 0
    else if mget 0 s.fab.crossGood n = 100 && is then set' (set' s false (n * 2)) false (n * 2 + 1)
    else s
  doneIf (s.running && s.has n) t s

/-- Table 3-10: `CurrentFlags` of a channel. -/
def State.currentFlagsOf (s : State) (k : Nat) : Nat :=
  let c := s.chan k
  word [c.stale, c.overRange, c.faulty, c.fast, c.disagree, s.selected (k / 2) == some (k % 2)]

/-- R100: one channel's values are published; a channel without a sample keeps its value, STALE. -/
def State.publishChannel (s : State) (k : Nat) : State :=
  let c := s.chan k
  let s := if c.delivered then (s.put O.currentChannel k c.sample).put O.currentChannelMean k c.mean else s
  let s := s.chanUpd k fun c => { c with stale := !c.delivered }
  s.put O.currentFlags k (s.currentFlagsOf k)

/-- R89, R161: the current of a string in this tally, its mean and their source; in mode 1 there is no inferred current. -/
def State.currentOf (s : State) (n : Nat) : Int × Int × Nat :=
  match s.selected n with
  | some ch => ((s.chan (n * 2 + ch)).sample, (s.chan (n * 2 + ch)).mean, ch)
  | none =>
    if s.gb O.inferredCurrentValid n && (s.epoch n).mode == 0 then (s.gi O.inferredCurrent n, s.gi O.inferredCurrent n, 2)
    else (0, 0, 3)

/-- R126, R157: the mean of the tally is counted, once, over the interval that the tally ended. -/
def State.countTally (s : State) (n : Nat) : State :=
  let q := (s.currentOf n).2.1 * (s.fw.span : Int)
  if (s.epoch n).countedTally == some s.fw.tally then s
  else s.epochUpd n fun e => { e with
    charge := e.charge + q, counted := e.counted + q, us := e.us + s.fw.span, countedTally := some s.fw.tally }

/-- R89, R126, R161, R195: the string's current, its mean and their source are published, and the tally is counted. -/
def State.publishCurrent (s : State) (n : Nat) : State :=
  let s := (s.publishChannel (n * 2)).publishChannel (n * 2 + 1)
  let (i, m, src) := s.currentOf n
  let s := (((s.put O.stringCurrent n i).put O.stringCurrentMean n m).put O.stringCurrentSource n src).countTally n
  let s := s.strUpd n fun x => { x with
    noneSince := if src = 3 then some (x.noneSince.getD s.mono) else none
    current := ((s.mono, i) :: x.current).filter fun e => decide (s.mono < e.1 + 1000000) }
  let s := if src = 3 then s else s.dropCause n 1
  let s := if src = 2 then s.derateEnter n 7 else s.derateAbsent n 7
  s.crossCount n

end Sys2Proof.Machine
end

