-- ==== Sys2Proof/Machine/Tally.lean ====
section
/-! DEFINITION. Sys2Proof/Machine/Tally.lean: acquisition (chapter 3): SAMPLE and its comparators (R67, R93 to R99), missing
hops (R70, R76, R476), temperatures, the capture buffer (R115 to R117) and the tally instant (R80). -/

namespace Sys2Proof.Machine

/-! ### Nodes, pairs and triples (R96, R107, R108)

A node is named by the cell below it: ring × 512 + position of the cell; the node below a ring's cell 0 is 2,048 + ring. -/

/-- R108, R113: the node below channel `j` of a monitor (`j` may be one above its last channel). -/
def State.nodeOf (s : State) (r p j : Nat) : Nat :=
  let c := s.cellOf r p j
  if c = r * 512 then 2048 + r else c - 1

/-- R114: the cells joined at a node, within the manifest. -/
def State.nodeCells (s : State) (node : Nat) : List Nat :=
  let r := if 2048 ≤ node then node - 2048 else cellRing node
  let l := if 2048 ≤ node then [r * 512] else [node, node + 1]
  l.filter fun c => cellRing c == r && decide (cellPos c < s.gn O.manifestCellCount r)

/-- R108, R111: an open sense wire is suspected or confirmed at a node. -/
def State.nodeBad (s : State) (node : Nat) : Bool := (s.cell node).suspected || (s.cell node).confirmed

/-- The nodes of a ring, lowest first. -/
def State.ringNodes (s : State) (r : Nat) : List Nat := (2048 + r) :: s.stringCells r

/-- R108: the node below a cell. -/
def nodeBelow (c : Nat) : Nat := if c % 512 = 0 then 2048 + cellRing c else c - 1

/-- R108: a cell has an open sense wire suspected or confirmed at one of its nodes: UNVERIFIED, PAIR_MODE. -/
def State.unverified (s : State) (c : Nat) : Bool := s.nodeBad c || s.nodeBad (nodeBelow c)

/-- R111: OPEN_WIRE. -/
def State.openWire (s : State) (c : Nat) : Bool := (s.cell c).confirmed || (s.cell (nodeBelow c)).confirmed

/-- R109: a tally lies in the window of a running test: from the tally after START up to and including the first whose
hold instant follows the bleed's end. `now` is the low 32 bits of the tally index. -/
def OwTest.window (w : OwTest) (now : Nat) : Bool :=
  let d := tallyDiff w.tally now
  w.active && w.sent && decide (3 ≤ d) && decide (d ≤ w.last + 3)

/-- R96, R109: the cells k − 1, k and k + 1 of a monitor's test. DESIGN CHOICE (log entry 115): at the end of a ring, where
only two of them exist, those two are judged against twice the limits. -/
def State.testTriple (s : State) (r p : Nat) : List Nat :=
  let k := s.cellOf r p (s.mon (monKey r p)).ow.channel
  ([k - 1, k, k + 1].filter fun c => cellRing c == r && decide (cellPos c < s.gn O.manifestCellCount r)).eraseDups

/-- R109: the triples of the tests whose window holds the tally in progress, on one ring. -/
def State.triples (s : State) (r : Nat) : List (List Nat) :=
  ((List.range (s.nMon r)).filter fun p => (s.mon (monKey r p)).ow.window s.fw.tally).map fun p => s.testTriple r p

/-- Table 3-7 OW_TEST. -/
def State.owTest (s : State) (c : Nat) : Bool := (s.triples (cellRing c)).any fun t => t.contains c

/-- R96: what is judged when the words of `cells` of a ring arrive: triples, then pairs, then the single cells. DESIGN CHOICE
(log entry 151): a cell whose only open node lies at a ring's end has no partner there: its word is judged alone, though the
cell shows PAIR_MODE. -/
def State.judgeGroups (s : State) (r : Nat) (cells : List Nat) : List (List Nat) :=
  let tri := s.triples r
  let inTri (c : Nat) : Bool := tri.any fun t => t.contains c
  let pairs := ((s.ringNodes r).filter fun n => s.nodeBad n && (s.nodeCells n).length == 2 &&
    !(s.nodeCells n).all inTri).map s.nodeCells
  let alone := cells.filter fun c => !inTri c && !pairs.any fun p => p.contains c
  (tri ++ pairs).filter (fun g => g.any cells.contains) ++ alone.map fun c => [c]

/-- R95: an exceedance count after one more judgement: beyond its limit, else 0. -/
def countNext (n : Nat) (beyond : Bool) : Nat := if beyond then n + 1 else 0

/-- R93, R95, R96: a group is judged once every word of it has arrived; its counts stand with its lowest cell. -/
def State.judgeGroup (s : State) (g : List Nat) : State :=
  if g.isEmpty || !(g.all fun c => (s.cell c).fresh) then s else
  let k := g.headD 0
  let n := cellRing k
  let sum := (g.map fun c => (s.cell c).word).sum
  let ov := decide (g.length * s.gn O.cellOvTrip n ≤ sum)
  let uv := decide (sum ≤ g.length * s.gn O.cellUvTrip n)
  s.cellUpd k fun x =>
    let o := countNext x.ov ov
    let u := countNext x.uv uv
    { x with ov := o, uv := u, ovRaised := x.ovRaised && ov, uvRaised := x.uvRaised && uv, beyond := ov || uv,
             ovDue := (x.ovDue || decide (s.gn O.comparatorCount 0 ≤ o) && !x.ovRaised) && ov,
             uvDue := (x.uvDue || decide (s.gn O.comparatorCount 1 ≤ u) && !x.uvRaised) && uv }

/-- COMPARATOR_SOURCE_RAISE (R95): a count has reached `ComparatorCount`; the ring's source of the kind (0 over-voltage,
1 under-voltage, 2 over-temperature, 3 under-temperature), with the monitor position, the number and the word. -/
def execComparatorSourceRaise (ring : Fin 4) (kind : Fin 4) (number : Nat) (s : State) : Host.Outcome State Fault Refusal :=
  let r := ring.val
  let src := 0x40 + 4 * r + kind.val
  let c := s.cell number
  let x := s.temp number
  let cellEv (t : State) : State :=
    t.raise src (s.monitorOf number) (le 2 number ++ le 2 c.word)
  let tempEv (t : State) : State :=
    t.raise src (number % 256 / 8) (le 2 number ++ leI 2 x.reading)
  let t : State := match kind.val with
    | 0 => if c.ovDue then cellEv (s.cellUpd number fun c => { c with ovDue := false, ovRaised := true }) else s
    | 1 => if c.uvDue then cellEv (s.cellUpd number fun c => { c with uvDue := false, uvRaised := true }) else s
    | 2 => if x.otDue then tempEv (s.tempUpd number fun x => { x with otDue := false, otRaised := true }) else s
    | _ => if x.utDue then tempEv (s.tempUpd number fun x => { x with utDue := false, utRaised := true }) else s
  doneIf (s.running && s.has r && decide ((if kind.val < 2 then cellRing number else number / 256) = r)) t s

/-! ### Temperatures (R97, R98) -/

/-- R97: temperature number of an input. -/
def tempKey (r p j : Nat) : Nat := r * 256 + p * 8 + j

/-- Setting or clearing one bit of `TempFlags`. -/
def State.tempFlag (s : State) (k i : Nat) (v : Bool) : State :=
  let w := s.gn O.tempFlags k
  if bit w i = v then s else s.put O.tempFlags k (if v then w + 2 ^ i else w - 2 ^ i : Nat)

/-- R93, R95, R98: a reading of an input. -/
def State.tempReading (s : State) (k : Nat) (v : Int) (viaB : Bool) : State :=
  let n := k / 256
  let s := s.tempFlag k 1 viaB
  if v < -5500 ∨ 15000 < v then
    (s.tempUpd k fun x => { x with viaB := viaB, implausible := true, lostSince := some (x.lostSince.getD s.mono) }).tempFlag k 5 true
  else
    let ot := decide (s.gi O.cellOtTrip n ≤ v)
    let ut := decide (v ≤ s.gi O.cellUtTrip n)
    let s := (s.tempFlag k 5 false).tempFlag k 0 false
    s.tempUpd k fun x =>
      let o := countNext x.ot ot
      let u := countNext x.ut ut
      { x with
        ot := o, ut := u, otRaised := x.otRaised && ot, utRaised := x.utRaised && ut, beyond := ot || ut,
        otDue := (x.otDue || decide (s.gn O.comparatorCount 2 ≤ o) && !x.otRaised) && ot,
        utDue := (x.utDue || decide (s.gn O.comparatorCount 3 ≤ u) && !x.utRaised) && ut,
        reading := v, otHit := x.otHit || ot, utHit := x.utHit || ut, viaB := viaB, implausible := false,
        plausibleAt := some s.mono, lostSince := none }

/-- R97: a reading enters its dwell, which begins when the monitor comes to the slot; one outside the plausible range (slots
0 to 8) does not enter the mean. -/
def Monitor.addDwell (m : Monitor) (slot : Nat) (v : Int) : Monitor :=
  let new := m.slot != some slot
  let d := if new then (0, 0) else mget (0, 0) m.dwell slot
  let d := if slot < 9 && (decide (v < -5500) || decide (15000 < v)) then d else (d.1 + v, d.2 + 1)
  { m with dwell := mins m.dwell slot d, slot := some slot, dwelt := if new then 1 else m.dwelt + 1 }

/-- R97: the dwell of a slot has ended: as many readings as SLOT_DWELL, or the monitor has gone on to another slot. -/
def Monitor.dwellOver (m : Monitor) (slot dwell : Nat) : Bool :=
  mhas m.dwell slot && (m.slot != some slot || decide (dwell ≤ m.dwelt))

/-- R99: what a SAMPLE says of the monitor's health: FAULT, or a reference check outside 2.4950 V to 2.5050 V, sets
MONITOR_FAULT (0xC when it sets); an in-range check asks for READ_STATUS. -/
def State.monitorHealth (s : State) (r p : Nat) (fault : Bool) (ref : Option Nat) : State :=
  let k := monKey r p
  let off := match ref with | some v => decide (v < 24950) || decide (25050 < v) | none => false
  let was := (s.mon k).fault
  let s := if fault || off then
      let s := s.monUpd k fun m => { m with fault := true, faultOk := false }
      if was then s else s.raise (ringSource r 0xC) p
    else if was && ref.isSome then s.monUpd k fun m => { m with faultOk := true }
    else s
  if (fault || was && ref.isSome && !off) && !s.statusAsked r p then s.queueTo r p 4 0x04 [] else s

/-- TEMP_DWELL_END (R97): the mean of the dwell's plausible readings is published. -/
def execTempDwellEnd (ring : Fin 4) (pos : Fin 32) (slot : Fin 10) (s : State) : Host.Outcome State Fault Refusal :=
  let r := ring.val
  let p := pos.val
  let k := monKey r p
  let (sum, cnt) := mget (0, 0) (s.mon k).dwell slot.val
  let mean := roundQ ((sum : Rat) / (cnt : Rat))
  let t := s.monUpd k fun m => { m with dwell := mdel m.dwell slot.val }
  let t := if cnt = 0 then t
    else if slot.val = 9 then t.put O.moduleRefCheck k mean
    else if slot.val = 8 then t.put O.moduleDieTemp k mean
    else t.put O.temperature (tempKey r p slot.val) mean
  let t := if slot.val < 8 then
      let j := tempKey r p slot.val
      let x := s.temp j
      ((t.tempFlag j 2 x.otHit).tempFlag j 3 x.utHit).tempUpd j fun x => { x with otHit := false, utHit := false }
    else t
  doneIf (s.running && s.has r && decide (p < s.nMon r) && bit (s.slotMask r p) slot.val &&
    (s.mon k).dwellOver slot.val (s.slotDwell r p s.fw.period)) t s

/-- TEMP_STALE_TIMEOUT (R98): 300 ms without a plausible reading; the input is lost (R197). -/
def execTempStaleTimeout (ring : Fin 4) (pos : Fin 32) (input : Fin 8) (s : State) : Host.Outcome State Fault Refusal :=
  let r := ring.val
  let k := tempKey r pos.val input.val
  let late := match (s.temp k).plausibleAt with | some t => s.past t 300000 | none => true
  doneIf (s.running && s.has r && decide (pos.val < s.nMon r) && (s.moduleInputs r pos.val).contains input.val && late &&
      s.fw.ticking)
    ((s.tempFlag k 0 true).tempUpd k fun x => { x with lostSince := some (x.lostSince.getD s.mono) }) s

/-! ### SAMPLE -/

/-- R93, R100: one cell word of an accepted SAMPLE. -/
def State.takeWord (s : State) (c w : Nat) (viaB bleed : Bool) : State :=
  let n := cellRing c
  s.cellUpd c fun x => { x with
    word := w, fresh := true, viaB := viaB, bleed := bleed, ovHit := decide (s.gn O.cellOvTrip n ≤ w),
    uvHit := decide (w ≤ s.gn O.cellUvTrip n), beyond := false }

/-- Table 3-8: the cells of a monitor are delivered stale in this tally. -/
def State.dropWords (s : State) (r p : Nat) : State :=
  forEach ((s.channels r p).map (s.cellOf r p)) s fun s c => s.cellUpd c fun x => { x with fresh := false }

/-- R100: the SAMPLE of a position has been accepted in this tally. -/
def State.accept' (s : State) (r p : Nat) (f : List Byte) : State :=
  s.ringUpd r fun x => { x with copies := mins x.copies p f }

/-- Table 2-11: SAMPLE with UNCONFIGURED 1: IDENTIFY, then CONFIGURE, then authentication, unless a CONFIGURE for the monitor
is waiting or on its way already. -/
def State.unconfigured (s : State) (r p : Nat) : State :=
  if s.cmdAsked r p 0x03 then s
  else
    (((s.monUpd (monKey r p) fun m => { m with configured := false }).queueTo r p 4 0x05 []).queueConfigure r p).authStart r p

/-- R67, R93, R97, R99, R101, Table 2-11: the first valid SAMPLE of a position in this tally. DESIGN CHOICE (log entry 116):
of a SAMPLE with NOSAMPLE 1, TURNED acts and UNCONFIGURED and FAULT do not. VIA_B is that of a train of origin B (log entry
49). -/
def State.takeSample (s : State) (r : Nat) (port b : Bool) (hop p : Nat) (f : List Byte) : State :=
  let d := framePayload f
  let st := leAt d 0 2
  let slot := st / 4096
  let none' := bit st 11
  let k := monKey r p
  let x := s.ring r
  let retry := match x.train b with | some t => t.order == 1 | none => false
  if x.missing.contains p && !retry then s.chainError r 4 (some 5) p
  else
    let s := (s.noteReply r port (b2n b * 32 + hop) f).accept' r p f
    let s := if bit st 8 then s.linkBroken r (if port then p else p + 1) else s
    if none' then s
    else if byteAt f 2 != x.sweepSeq then s.chainError r 2 (some 3) p
    else if bit st 7 then
      ((s.unconfigured r p).monUpd k fun m => { m with faultOk := m.faultOk && !bit st 9 }).monitorHealth r p (bit st 9) none
    else
      let viaB := b
      let cells := (s.channels r p).map (s.cellOf r p)
      let raw := leAt d 2 2
      let v : Int := if slot = 9 then (raw : Int) else signed 16 raw
      let s := forEach cells.zipIdx s fun s e => s.takeWord e.1 (leAt d (6 + 2 * e.2) 2) viaB (bit st 10)
      let s := forEach (s.judgeGroups r cells) s State.judgeGroup
      let s := if slot < 8 && (s.moduleInputs r p).contains slot then s.tempReading (tempKey r p slot) v viaB else s
      let s := s.monUpd k fun m =>
        let m := if bit (s.slotMask r p) slot then m.addDwell slot v else m
        { m with stack := leAt d 4 2, faultOk := m.faultOk && !bit st 9, capture := word [true, viaB, bit st 10, false] }
      s.monitorHealth r p (bit st 9) (if slot = 9 then some raw else none)

/-- SAMPLE (R50, R67, R76, R93 to R101): a reply to SWEEP decoded at a port; a tail of a pair decodes what passes (R73). -/
def execSample (ring : Fin 4) (bEnd : Bool) (frame : List Byte) (s : State) : Host.Outcome State Fault Refusal :=
  let r := ring.val
  let t : State := match s.judgeReply r bEnd frame true with
    | .good hop pos b => s.takeSample r bEnd b hop pos frame
    | .copy key => s.noteReply r bEnd key frame
    | .twice pos differs =>
      let s := s.chainError r 3 (if differs then some 4 else none) pos
      if differs then s.dropWords r pos else s
    | .fault cat off pos identify =>
      let s := s.chainError r cat (some off) (pos.getD (s.faultPos r))
      if identify then s.identifyAll r else s
  let listens := s.directs || ((s.ring r).train (bit (byteAt frame 0).toNat 7)).isSome
  doneIf (s.running && s.has r && s.gn O.chainRingState r != 0) (if listens then t.forward r bEnd frame else s) s

/-! ### Missing hops (R70, R76, R476) -/

/-- A SWEEP train from an end over a range of hops; its SEQ is that of the trigger (R67). -/
def State.sweepTrain (s : State) (r : Nat) (b : Bool) (order first last : Nat) : Train :=
  { order := order, frame := frameBytes (cmdCtrl b 63) 0x10 (s.ring r).sweepSeq.toNat (le 1 first ++ le 1 last),
    hops := (List.range (last + 1)).filter fun h => decide (first ≤ h), sent := true }

/-- R70: the last sweep that left an end and asked a hop: the one whose SAMPLE of that hop is awaited from it. -/
def Ring.asking (x : Ring) (b : Bool) (hop : Nat) : Option Train :=
  (x.sweeps.find? fun e => e.1 == b && e.2.hops.contains hop).map fun e => e.2

/-- R70, R76: a hop of a sweep as it is declared missing: recovery × 64 + end × 32 + hop. -/
def Ring.declareKey (x : Ring) (b : Bool) (hop : Nat) : Nat :=
  b2n ((x.asking b hop).any fun t => t.order == 1) * 64 + b2n b * 32 + hop

/-- HOP_MISSING (R70, R76, R476): a hop of a sweep is 50 µs late. On a whole ring a later hop's arrival leads to a
retry of the hop, none to one far-side re-read from the first hop after the last one received; on a split ring its own head
retries. A hop that a recovery does not bring has no further recovery; one whose recovery has left already waits for it. -/
def State.hopMissing (s : State) (r : Nat) (b : Bool) (hop : Nat) : State :=
  let x := s.ring r
  let p := s.posOf r b hop
  let came (h : Nat) : Bool := mhas x.copies (s.posOf r b h)
  let later := (List.range (s.nMon r)).any fun h => decide (hop < h) && came h
  let recovery := (x.asking b hop).any fun t => t.order == 1
  let tried := x.sweeps.any fun e => e.2.order == 1 && (e.2.hops.map (s.posOf r e.1)).contains p
  let mark (s : State) (l : List Nat) : State :=
    s.ringUpd r fun x => { x with accounted := (x.accounted ++ l.filter fun q => !x.accounted.contains q) }
  let s := s.ringUpd r fun x => { x with
    declared := x.declareKey b hop :: x.declared
    missing := if x.missing.contains p || tried && !recovery then x.missing else p :: x.missing }
  if recovery then s.chainError r 5 (some 1) p
  else if x.accounted.contains p then s.chainError r 5 (some 6) p
  else if x.whole && !x.takeover && !later then
    let first := s.posOf r b (((List.range (hop + 1)).reverse.takeWhile fun h => !came h).getLastD hop)
    let o := !b
    let last := if o then s.nMon r - 1 - first else first
    let s := mark s (if o then (List.range (s.nMon r)).filter (fun q => decide (first ≤ q)) else List.range (first + 1))
    (s.chainError r 5 (some 6) p).queueTrain r o (s.sweepTrain r o 1 0 last)
  else ((mark s [p]).chainError r 5 (some 1) p).queueTrain r b (s.sweepTrain r b 1 hop hop)

/-- R70: a hop's SAMPLE is 50 µs past its expected arrival in the last sweep that left an end and asked it. -/
def State.hopLate (s : State) (r : Nat) (b : Bool) (hop : Nat) : Bool :=
  let x := s.ring r
  let p := s.posOf r b hop
  (s.endOf r p == some b || x.takeover || x.accounted.contains p) &&
    match x.asking b hop with
    | some t => s.past t.at' (s.sampleTime r b t hop + 50)
    | none => false

/-- HOP_MISSING (R70): when it is due. -/
def execHopMissing (ring : Fin 4) (bEnd : Bool) (hop : Fin 32) (s : State) : Host.Outcome State Fault Refusal :=
  let r := ring.val
  let x := s.ring r
  let p := s.posOf r bEnd hop.val
  doneIf (s.running && s.has r && x.sweeping && (s.directs || x.takeover) && decide (hop.val < s.nMon r) && !mhas x.copies p &&
    !x.declared.contains (x.declareKey bEnd hop.val) && s.hopLate r bEnd hop.val) (s.hopMissing r bEnd hop.val) s

/-! ### The capture buffer (R115 to R117) -/

/-- CAPTURE_RECORD_WRITE (R115): the record of the tally that ends, from the values published. -/
def State.captureRecord (s : State) : CaptureRec :=
  let mons := s.strings.flatMap fun r => (List.range (s.nMon r)).map fun p => monKey r p
  let cells := s.strings.flatMap s.stringCells
  { tally := s.fw.tally, time := s.fw.tallyTime, status := b2n s.capture.triggered * 2,
    ringState := (List.range 4).map fun r => if s.has r then s.gi O.chainRingState r else 0,
    curFlags := (List.range 8).map fun k => if s.has (k / 2) then s.gi O.currentFlags k else 0,
    current := (List.range 8).map fun k => if s.has (k / 2) then s.gi O.currentChannel k else 0,
    monitor := mons.foldl (fun m k => mset 0 m k ((s.mon k).capture % 8 + b2n (s.mon k).fault * 8)) [],
    cell := cells.foldl (fun m c => mset 0 m c (s.gn O.cellVoltage c)) [] }

/-- R116: one record enters an armed buffer; the trigger record keeps `CapturePreTrigger` records before it. -/
def State.captureWrite (s : State) : State :=
  let st := s.gn O.captureState 0
  let rec' := s.captureRecord
  let pre := s.gn O.capturePreTrigger 0
  if st = 1 then
    if s.capture.triggered then
      State.put { s with capture := {
        recs := rec' :: s.capture.recs.take pre, left := 977 - pre, triggered := false } } O.captureState 0 2
    else { s with capture := { s.capture with recs := (rec' :: s.capture.recs).take 978 } }
  else if st = 2 && s.capture.left != 0 then
    { s with capture := { s.capture with recs := rec' :: s.capture.recs, left := s.capture.left - 1 } }
  else s

/-- CAPTURE_FREEZE (R116): the remaining records have been written. -/
def execCaptureFreeze (s : State) : Host.Outcome State Fault Refusal :=
  doneIf (s.running && s.gn O.captureState 0 == 2 && s.capture.left == 0) (s.put O.captureState 0 3) s

/-- CAPTURE_ARM (R116): list and buffer are emptied and the buffer is armed. -/
def State.captureArm (s : State) (value : Nat) : State × Nat :=
  if 1 < value then refuse s 0x0303
  else if value = 0 then accept s
  else
    let s := forEach (List.range 8) s fun s k => s.undo O.captureTriggerList k
    let s := (s.undo O.captureTriggerCount 0).put O.captureState 0 1
    accept { s with capture := {} }

/-- CAPTURE_ARM (R116). -/
def execCaptureArm (req : Req) (value : Nat) (s : State) : Host.Outcome State Fault Refusal :=
  s.request req O.captureArm 0 fun s => s.captureArm value

/-- CAPTURE_TRIGGER (R116): a write of true; the source entered in the list is 0. -/
def State.captureForce (s : State) (value : Nat) : State × Nat :=
  if 1 < value then refuse s 0x0303 else accept (if value = 1 then s.captureTrigger 0 s.now else s)

/-- CAPTURE_TRIGGER (R116). -/
def execCaptureTrigger (req : Req) (value : Nat) (s : State) : Host.Outcome State Fault Refusal :=
  s.request req O.captureTrigger 0 fun s => s.captureForce value

/-! ### The tally instant (R80, R188, R134) -/

/-- R188: the BUSDET code of an input in µV. -/
def busCode (uv : Nat) : Nat := min 4095 (uv * 4096 / 3000000)

/-- R188: `BusVoltage` of a code, mV. -/
def State.busMv (s : State) (code : Nat) : Int :=
  roundQ ((code : Rat) * 3000 / 4096 * f32 (s.gn O.busDividerRatio 0))

/-- R88, R90, R92: a channel at the tally instant: the sums move on, the flags of the tally ended are kept. -/
def Chan.nextTally (c : Chan) : Chan :=
  { c with
    sumPrev := c.sumCur, cntPrev := c.cntCur, sumCur := c.sumNext, cntCur := c.cntNext, sumNext := 0, cntNext := 0,
    overRange := c.overNow, overNow := false, fast := c.fastNow, fastNow := false, delivered := false }

/-- R133: the thermal step of a region: half at or above the 118 °C stage. -/
def State.thermalStep (s : State) (g : Nat) : Nat := if 2 ≤ s.gn O.throttleStage g then 1 else 0

/-- R133, R134: the step of a region takes effect at a tally boundary; on the QB1024 region 1 stays full. -/
def State.regionStep (s : State) (g : Nat) : State :=
  if g = 1 ∧ s.variant = .qb1024 then s else
  let load := (s.region g).load
  let other := max (s.thermalStep g) (s.gn O.estimatorRateLimit g)
  let step := max load other
  let s := s.regionUpd g fun x => { x with
    okSince := if decide (load = 0) || decide (load ≤ other) then s.mono else x.okSince }
  if step = s.gn O.estimatorRate g then s
  else ((s.regionUpd g fun x => { x with step := step }).put O.estimatorRate g step).raise (0x64 + g) step

/-- R80: the device time of the instant that TALLY_INSTANT handles: exactly T after the last one; the first is now. -/
def State.instantTime (s : State) : Nat := if s.fw.ticking then s.fw.tallyTime + s.fw.period else s.now

/-- TALLY_INSTANT (R79, R80, R88, R115, R126, R134, R188): the tally that ends is counted where no sweep of it was published,
the index advances, a new tally period takes effect, the current inputs latch, BUSDET is sampled. -/
def State.tallyInstant (s : State) (uv : Nat) : State :=
  let s := if s.fw.ticking then forEach (s.strings.filter s.inManifest) s.captureWrite State.countTally else s
  let n := if s.fw.ticking then (s.fw.tally + 1) % 2 ^ 32 else 0
  let code := if s.th.repeats.contains 0 then s.fw.busCode else busCode (s.trimmed 0 uv)
  let s := s.resumes 0
  let t := s.instantTime
  let change := s.fw.periodReady && s.fw.newPeriod.isSome
  let s : State := { s with fw := { s.fw with
    tally := n, ticking := true, tallyAt := s.mono - (s.now - t), tallyTime := t, latchedAt := s.mono, busCode := code,
    span := s.fw.period,
    period := if change then s.fw.newPeriod.getD s.fw.period else s.fw.period,
    newPeriod := if change then none else s.fw.newPeriod, periodReady := s.fw.periodReady && !change } }
  let s := forEach s.strings s State.dropLateTests
  let s := forEach (s.strings.flatMap fun n => [n * 2, n * 2 + 1]) s fun s k => s.chanUpd k Chan.nextTally
  let s := forEach (s.strings.flatMap fun r => (List.range (s.nMon r)).map (monKey r)) s fun s k =>
    s.monUpd k fun m => { m with capture := 0 }
  let s := s.put O.busVoltage 0 (s.busMv code)
  (s.regionStep 0).regionStep 1

/-- TALLY_INSTANT (R80): exactly T after the last one in device time; the first follows the start. -/
def execTallyInstant (busdetUv : Nat) (s : State) : Host.Outcome State Fault Refusal :=
  doneIf (s.running && decide (s.instantTime ≤ s.now)) (s.tallyInstant busdetUv) s

end Sys2Proof.Machine
end

