-- ==== Sys2Proof/Machine/OpenWire.lean ====
section
/-! DEFINITION. Sys2Proof/Machine/OpenWire.lean: open sense wires (R107 to R114). -/

namespace Sys2Proof.Machine

/-! ### Suspicion and its consequences -/

/-- R114: position of the monitor below a node, its node number, and the event payload. -/
def State.nodeEvent (s : State) (node : Nat) : Nat × List Byte :=
  let l := s.nodeCells node
  let c := l.headD 0
  let p := s.monitorOf c
  let j := c + (if 2048 ≤ node then 0 else 1) - s.cellOf (cellRing c) p 0
  (p, le 2 (l.headD 0) ++ le 2 (l.getLastD 0) ++ le 1 j)

/-- R114: position of the monitor of the cell below a node. -/
def State.nodePos (s : State) (node : Nat) : Nat := (s.nodeEvent node).1

/-- R196: cause 5 holds while a node of the ring is suspected or confirmed. -/
def State.judgeWire (s : State) (r : Nat) : State :=
  if (s.ringNodes r).any s.nodeBad then s.derateEnter r 5 else s.derateAbsent r 5

/-- R108: the order of a targeted test: channel k, then the other enabled channels ascending. -/
def targeted (k : Nat) (l : List Nat) : List Nat := k :: l.filter (· != k)

/-- R108, R111: a targeted test of a monitor is queued, from a channel on. -/
def State.queueTest (s : State) (r p purpose : Nat) (todo : List Nat) : State :=
  s.monUpd (monKey r p) fun m => { m with ow := { m.ow with
    todo := todo, purpose := purpose, intact := 0, inconclusive := 0, nodes := 0, unsure := false } }

/-- OPEN_WIRE_SUSPECT (R107, R108): the signature at the node above `cell` has held in 3 consecutive epochs. -/
def State.suspectWire (s : State) (r cell : Nat) : State :=
  let c := r * 512 + cell
  let p := s.monitorOf c
  let t := (s.cellUpd c fun x => { x with suspected := true, intact := 0 }).judgeWire r
  let e := t.nodeEvent c
  (t.raise (0x70 + r) e.1 e.2).queueTest r p 0 (targeted (c - s.cellOf r p 0) (s.channels r p))

/-- OPEN_WIRE_SUSPECT: when it is due. -/
def execOpenWireSuspect (ring : Fin 4) (cell : Fin 512) (s : State) : Host.Outcome State Fault Refusal :=
  let c := ring.val * 512 + cell.val
  doneIf (s.running && decide (3 ≤ (s.cell c).signature) && !s.nodeBad c && (s.nodeCells c).length == 2)
    (s.suspectWire ring.val cell.val) s

/-! ### One test -/

/-- R109: DURATION in 0.1 ms: the larger of 2 ms and T. -/
def State.owDuration (s : State) : Nat := max 20 (s.fw.period / 100)

/-- OPEN_WIRE_TEST_START (R109, R82): OPEN_WIRE of the next channel waits for an idle slot: order 3 for a targeted test, else
6. START and the tallies of the test follow when it leaves. -/
def execOpenWireTestStart (ring : Fin 4) (pos : Fin 32) (channel : Fin 18) (s : State) : Host.Outcome State Fault Refusal :=
  let r := ring.val
  let p := pos.val
  let k := monKey r p
  let w := (s.mon k).ow
  let d := s.owDuration
  let t := s.monUpd k fun m => { m with ow := { m.ow with
    active := true, sent := false, channel := channel.val, base := [], word := [], result := none, todo := m.ow.todo.drop 1 } }
  doneIf (s.running && s.directs && [3, 4].contains (s.gn O.chainRingState r) && !w.active && w.todo.head? == some channel.val &&
      decide (p < s.nMon r) && (s.endOf r p).isSome)
    (t.queueTo r p (if w.purpose = 0 then 3 else 6) 0x21 (le 1 channel.val ++ le 1 d ++ le 1 ((s.fw.tally + 2) % 256))) s

/-- OPEN_WIRE_RESULT (R62, R113): RESULT of OPEN_WIRE. -/
def State.takeOwResult (s : State) (r p : Nat) (frame : List Byte) : State :=
  s.monUpd (monKey r p) fun m => { m with ow := { m.ow with result := some (byteAt (framePayload frame) 0).toNat } }

/-- OPEN_WIRE_RESULT: what `State.takeOwResult` does with the first valid copy. -/
def execOpenWireResult (ring : Fin 4) (bEnd : Bool) (frame : List Byte) (s : State) : Host.Outcome State Fault Refusal :=
  s.onReply ring.val bEnd frame fun s p _ => s.takeOwResult ring.val p frame

/-- R109: the words of a published tally that a running test keeps: the baseline of tally n + 2 and the test word of the
last hold instant inside the bleed. -/
def State.owCollect (s : State) (r p : Nat) : State :=
  let k := monKey r p
  let w := (s.mon k).ow
  let d := tallyDiff w.tally s.fw.tally
  let words : SMap Nat := ((s.channels r p).filter fun c => (s.cell (s.cellOf r p c)).fresh).map fun c =>
    (c, (s.cell (s.cellOf r p c)).word)
  let st := (s.mon k).stack
  if !(w.active && w.sent) then s
  else if d = 2 then s.monUpd k fun m => { m with ow := { m.ow with base := words, stack0 := st } }
  else if d = 2 + w.last then s.monUpd k fun m => { m with ow := { m.ow with word := words, stack1 := st } }
  else s

/-- Table 3-11: result of a test. -/
inductive OwResult
  | above | below | intact | inconclusive
deriving DecidableEq, Repr

/-- R109: ΔV′ of a channel in 100 µV: its change less the median change of the module's other enabled cells. DESIGN CHOICE
(log entry 150): that median is 0 where the module has no enabled cell besides k − 1, k and k + 1. -/
def OwTest.delta (w : OwTest) (chans : List Nat) (c : Nat) : Option Rat :=
  let d (c : Nat) : Option Rat := match w.base.find? (fun e => e.1 == c), w.word.find? (fun e => e.1 == c) with
    | some a, some b => some ((b.2 : Rat) - (a.2 : Rat))
    | _, _ => none
  let k := w.channel
  let others := (chans.filter fun c => c != k && c + 1 != k && c != k + 1).filterMap d
  if !chans.contains c then none else (d c).map fun v => v - medianQ others

/-- Table 3-11, R110: the classification; at the edge of a module the missing partner is replaced by the stack having
changed by less than L_T / 2. DESIGN CHOICE (log entry 119): where both of the first two rows hold, as they can at the
highest enabled channel with the node below it open and the stack calm, the first one decides. DESIGN CHOICE (log entry
120): a test whose RESULT is missing or not 0x00 is inconclusive, whatever the words say. -/
def State.owClassify (s : State) (r p : Nat) : OwResult :=
  let w := (s.mon (monKey r p)).ow
  let ch := s.channels r p
  let k := w.channel
  let l : Rat := (s.gn O.openWireTestLevel 0 : Rat) * 10
  let calm := decide (4 * ((w.stack1 : Int) - (w.stack0 : Int)).natAbs < s.gn O.openWireTestLevel 0)
  let opp (dk : Rat) (c : Nat) (exists' : Bool) : Bool :=
    if exists' then match w.delta ch c with
      | some v => decide (l ≤ v) && decide (absQ (dk + v) ≤ 300)
      | none => false
    else calm
  let small (c : Nat) (exists' : Bool) : Bool :=
    if exists' then match w.delta ch c with | some v => decide (absQ v < l) | none => false else calm
  let up := ch.contains (k + 1)
  let down := decide (0 < k) && ch.contains (k - 1)
  if w.result ≠ some 0 then .inconclusive else
  match w.delta ch k with
  | none => .inconclusive
  | some dk =>
    if dk ≤ -l then
      if opp dk (k + 1) up then .above else if opp dk (k - 1) down then .below else .inconclusive
    else if small (k - 1) down && small (k + 1) up then .intact
    else .inconclusive

/-- R111, R114: an open node found: confirmed, 50 % derating kept, 0x74 + ring when it confirms, with the position and the
node number of the monitor tested. DESIGN CHOICE (log entry 149): at a ring's end, where a node joins one cell only, both
cell numbers of the record are that cell's. -/
def State.owOpen (s : State) (r p j : Nat) : State :=
  let node := s.nodeOf r p j
  let l := s.nodeCells node
  let new := !(s.cell node).confirmed
  let s := s.cellUpd node fun x => { x with confirmed := true, suspected := false, intact := 0 }
  let s := (s.judgeWire r).monUpd (monKey r p) fun m => { m with
    owAt := s.mono, ow := { m.ow with nodes := m.ow.nodes ||| 2 ^ j, intact := 0, inconclusive := 0 } }
  if new then s.raise (0x74 + r) p (le 2 (l.headD 0) ++ le 2 (l.getLastD 0) ++ le 1 j) else s

/-- R111: an intact result on a node: two consecutive ones clear a suspicion, three a confirmed break. -/
def State.owIntact (s : State) (node : Nat) : State :=
  if !s.nodeBad node then s else
  let x := s.cell node
  let n := x.intact + 1
  s.cellUpd node fun x =>
    if (x.suspected && decide (2 ≤ n)) || decide (3 ≤ n) then
      { x with suspected := false, confirmed := false, signature := 0, intact := 0 }
    else { x with intact := n }

/-- OPEN_WIRE_TEST_EVALUATE (R110, R111): the result of the test and what follows; an intact result on a suspicion is
repeated once, an inconclusive one up to twice. -/
def State.owEvaluate (s : State) (r p : Nat) : State :=
  let k := monKey r p
  let w := (s.mon k).ow
  let c := w.channel
  let res := s.owClassify r p
  let s := s.monUpd k fun m => { m with ow := { m.ow with active := false } }
  let s := if w.purpose = 1 then s.ranWork 5 else s
  let again (s : State) : State := s.monUpd k fun m => { m with ow := { m.ow with todo := c :: m.ow.todo } }
  match res with
  | .above => s.owOpen r p (c + 1)
  | .below => s.owOpen r p c
  | .intact =>
    let a := s.nodeOf r p c
    let b := s.nodeOf r p (c + 1)
    let s := ((s.owIntact a).owIntact b).judgeWire r
    let s := s.monUpd k fun m => { m with owAt := s.mono, ow := { m.ow with inconclusive := 0 } }
    if ((s.cell a).suspected || (s.cell b).suspected) && w.intact = 0 then
      again (s.monUpd k fun m => { m with ow := { m.ow with intact := 1 } })
    else s.monUpd k fun m => { m with ow := { m.ow with intact := 0 } }
  | .inconclusive =>
    let s := forEach [s.nodeOf r p c, s.nodeOf r p (c + 1)] s fun s n => s.cellUpd n fun x => { x with intact := 0 }
    if w.inconclusive < 2 then
      again (s.monUpd k fun m => { m with ow := { m.ow with intact := 0, inconclusive := m.ow.inconclusive + 1 } })
    else s.monUpd k fun m => { m with owAt := s.mono, ow := { m.ow with intact := 0, inconclusive := 0, unsure := true } }

/-- OPEN_WIRE_TEST_EVALUATE: once the first tally after the bleed's end has been published, so that the window of R109 is
over, or the command has failed. -/
def execOpenWireTestEvaluate (ring : Fin 4) (pos : Fin 32) (s : State) : Host.Outcome State Fault Refusal :=
  let r := ring.val
  let w := (s.mon (monKey r pos.val)).ow
  let d := tallyDiff w.tally (s.gn O.acqTallyIndex r)
  doneIf (s.running && w.active && w.sent && ((decide (3 + w.last ≤ d) && decide (d < 2 ^ 31)) || (match w.result with
      | some v => v != 0 | none => false))) (s.owEvaluate r pos.val) s

/-- R111: the channels whose tests reach every suspected or confirmed node of a monitor: for each, the lowest that touches
it. -/
def State.retestChannels (s : State) (r p : Nat) : List Nat :=
  let ch := s.channels r p
  (((List.range 19).filter fun j => s.nodeBad (s.nodeOf r p j)).filterMap fun j =>
    ch.find? fun c => c == j || c + 1 == j).eraseDups

/-- OPEN_WIRE_RETEST (R111): 60 s after the last test of a confirmed break or standing suspicion. -/
def execOpenWireRetest (ring : Fin 4) (pos : Fin 32) (s : State) : Host.Outcome State Fault Refusal :=
  let r := ring.val
  let p := pos.val
  let m := s.mon (monKey r p)
  match s.retestChannels r p with
  | [] => done s
  | l =>
    doneIf (s.running && !m.ow.active && m.ow.todo.isEmpty && m.owAt != 0 && s.past m.owAt 60000000)
      ((s.queueTest r p 0 l).monUpd (monKey r p) fun m => { m with owAt := s.mono }) s

/-- R112: the place of a channel in the rotation over every enabled channel of every ring, and their number. -/
def State.channelTurn (s : State) (r p c : Nat) : Nat × Nat :=
  let all := s.strings.flatMap fun q => (List.range (s.nMon q)).flatMap fun j => (s.channels q j).map fun i => (q * 32 + j) * 32 + i
  (all.idxOf ((r * 32 + p) * 32 + c), all.length)

/-- OPEN_WIRE_ROTATION (R112): the channel's turn in `OpenWirePeriod`, from READY on. -/
def execOpenWireRotation (ring : Fin 4) (pos : Fin 32) (channel : Fin 18) (s : State) : Host.Outcome State Fault Refusal :=
  let r := ring.val
  let k := monKey r pos.val
  let m := s.mon k
  let c := s.channelTurn r pos.val channel.val
  let t := s.monUpd k fun m => { m with rotation := mins m.rotation channel.val s.mono }
  let due := match s.fw.readyAt with
    | some t0 => turnDue t0 (s.gn O.openWirePeriod 0 * 1000000) c.1 c.2 (mget 0 m.rotation channel.val) s.mono
    | none => false
  doneIf (s.ready && decide (pos.val < s.nMon r) && (s.channels r pos.val).contains channel.val && !m.ow.active &&
      m.ow.todo.isEmpty && due)
    (t.queueTest r pos.val 1 [channel.val]) s

/-! ### The requested test (R113, R135, R136) -/

/-- OPEN_WIRE_REQUEST (R113, R135, R136): a target beyond the manifest completes at once with STATUS 3, as does one whose
ring has failed or a device that is not READY. -/
def State.openWireRequest (s : State) (value : Nat) : State × Nat :=
  let t := value % 65536
  match s.shotGate 0 value (bits t 15 7 != 0) with
  | some st => refuse s st
  | none =>
    let r := bits t 6 5
    let p := bits t 4 0
    if value / 65536 = 0 then refuse s 0x0301
    else
      let s := s.shotStart 0 (value / 65536) t
      if !s.has r || decide (s.nMon r ≤ p) || s.gn O.chainRingState r = 5 || !s.ready then
        accept (s.shotDone 0 O.openWireResult [(value / 65536 : Nat), (t : Nat), 3, 0])
      else accept s

/-- OPEN_WIRE_REQUEST. -/
def execOpenWireRequest (req : Req) (value : BitVec 32) (s : State) : Host.Outcome State Fault Refusal :=
  s.request req O.openWireRequest 0 fun s => s.openWireRequest value.toNat

/-- R113: the pending request starts its run as soon as the monitor is free of other tests. -/
def State.owRequestStart (s : State) : State :=
  match (s.shot 0).pending with
  | none => s
  | some (_, t) =>
    let r := bits t 6 5
    let p := bits t 4 0
    let w := (s.mon (monKey r p)).ow
    if w.active || !w.todo.isEmpty || w.purpose = 2 then s else s.queueTest r p 2 (s.channels r p)

/-- OPEN_WIRE_REQUEST_DONE (R113): every channel of the module has been tested. -/
def execOpenWireRequestDone (s : State) : Host.Outcome State Fault Refusal :=
  match (s.shot 0).pending with
  | none => done s
  | some (q, t) =>
    let k := monKey (bits t 6 5) (bits t 4 0)
    let w := (s.mon k).ow
    let st := if w.nodes ≠ 0 then 1 else if w.unsure then 2 else 0
    doneIf (s.running && w.purpose == 2 && !w.active && w.todo.isEmpty)
      ((s.shotDone 0 O.openWireResult [(q : Nat), (t : Nat), (st : Nat), (w.nodes : Nat)]).monUpd k fun m =>
        { m with ow := { m.ow with purpose := 0 } }) s

end Sys2Proof.Machine
end

