-- ==== Sys2Proof/Machine/Tables.lean ====
section
/-! DEFINITION. Sys2Proof/Machine/Tables.lean: model table sets (R146 to R150): the layout of a table file, its checks in the
order of Table 5-5, and look-up with interpolation. -/

namespace Sys2Proof.Machine

/-- R147: fields of a table file. -/
structure TableHead where
  nz : Nat
  nt : Nat
  nr : Nat
  ns : Nat
  ntab : Nat
deriving DecidableEq, Repr

/-- Table 5-3: the counts of a file. -/
def tableHead (f : List Byte) : TableHead :=
  { nz := leAt f 14 1, nt := leAt f 15 1, nr := leAt f 16 1, ns := leAt f 17 1, ntab := leAt f 18 1 }

/-- Table 5-3: a header scalar that is an F32. -/
def headF (f : List Byte) (off : Nat) : Rat := f32 (leAt f off 4)

/-- Table 5-3: start of the directory. -/
def dirStart (f : List Byte) : Nat :=
  let h := tableHead f
  (96 + 2 * (h.nz + h.nt + h.nr) + 3) / 4 * 4

/-- Table 5-3: end of the axes. -/
def axesEnd (f : List Byte) : Nat := let h := tableHead f; 96 + 2 * (h.nz + h.nt + h.nr)

/-- Table 5-4: a directory entry: ID, DIMS, reserved, OFFSET, SCALE and BIAS bits. -/
structure DirEntry where
  id : Nat
  dims : Nat
  res : Nat
  off : Nat
  scale : Nat
  bias : Nat
deriving DecidableEq, Repr

/-- Table 5-4: entry `k` of the directory. -/
def dirEntry (f : List Byte) (k : Nat) : DirEntry :=
  let o := dirStart f + 16 * k
  { id := leAt f o 2, dims := leAt f (o + 2) 1, res := leAt f (o + 3) 1, off := leAt f (o + 4) 4, scale := leAt f (o + 8) 4,
    bias := leAt f (o + 12) 4 }

/-- The directory. -/
def directory (f : List Byte) : List DirEntry := (List.range (tableHead f).ntab).map (dirEntry f)

/-- Table 5-3: the axes: z in 0.01 %, temperature in 0.01 °C, rate in 0.001 C. -/
def zAxis (f : List Byte) : List Int := (List.range (tableHead f).nz).map fun k => (leAt f (96 + 2 * k) 2 : Int)

/-- Table 5-3: T_AXIS. -/
def tAxis (f : List Byte) : List Int :=
  let h := tableHead f
  (List.range h.nt).map fun k => signed 16 (leAt f (96 + 2 * (h.nz + k)) 2)

/-- Table 5-3: R_AXIS. -/
def rAxis (f : List Byte) : List Int :=
  let h := tableHead f
  (List.range h.nr).map fun k => signed 16 (leAt f (96 + 2 * (h.nz + h.nt + k)) 2)

/-- Table 5-2: a table identifier: DIMS, required, decoded range. -/
def tableKind (id : Nat) : Option (Nat × Bool × Rat × Rat) :=
  let res : Option (Nat × Bool × Rat × Rat) := some (3, true, 0, 1 / 10)
  let tau : Option (Nat × Bool × Rat × Rat) := some (3, true, 1 / 1000, 100000)
  if id = 1 ∨ id = 2 then some (1, true, 0, 65535 / 10000)
  else if id = 3 ∨ id = 4 then some (1, false, -(1 / 500), 1 / 500)
  else if id = 5 then some (2, true, 0, 65535 / 10000)
  else if [0x10, 0x11, 0x13, 0x15, 0x17].contains id then res
  else if [0x12, 0x14, 0x16, 0x18].contains id then tau
  else if id = 0x20 ∨ id = 0x21 then some (2, true, 1 / 1000, 100000)
  else if id = 0x22 then some (2, true, 0, 1 / 5)
  else if id = 0x23 then some (2, true, 0, 1000)
  else none

/-- R148: elements of an array of a dimension. -/
def arrayLen (h : TableHead) (dims : Nat) : Nat :=
  if dims = 1 then h.ns else if dims = 2 then h.nz * h.nt else h.nz * h.nt * h.nr

/-- R148: the decoded elements of an entry. -/
def decoded (f : List Byte) (e : DirEntry) : List Rat :=
  (List.range (arrayLen (tableHead f) e.dims)).map fun k => f32 e.bias + f32 e.scale * (leAt f (e.off + 2 * k) 2 : Rat)

/-- A list strictly ascending. -/
def ascending (l : List Int) : Bool := (l.zip (l.drop 1)).all fun p => decide (p.1 < p.2)

/-- R147, Table 5-5 code 5. DESIGN CHOICE (log entry 175): a value of T_AXIS or R_AXIS outside the range of Table 5-3, which
Table 5-5 does not name, has this code too. -/
def axesOk (f : List Byte) : Bool :=
  let z := zAxis f
  let t := tAxis f
  let r := rAxis f
  ascending z && z.head? == some 0 && z.getLast? == some 10000 && ascending t && t.all (fun v => decide (-5500 ≤ v) && decide (v ≤ 15000))
    && ascending r && r.all (fun v => decide (-10000 ≤ v) && decide (v ≤ 10000))

/-- Table 5-5 code 6: IDs, DIMS, OFFSETs, overlap, SCALE. -/
def dirOk (f : List Byte) (len : Nat) : Bool :=
  let h := tableHead f
  let d := directory f
  let fin (e : DirEntry) : Nat := e.off + 2 * arrayLen h e.dims
  (d.all fun e => match tableKind e.id with
    | none => false
    | some k => k.1 == e.dims && e.off % 2 == 0 && decide (dirStart f + 16 * h.ntab ≤ e.off) && decide (fin e ≤ len - 4) &&
        f32Positive e.scale) &&
  (d.map DirEntry.id).eraseDups.length == d.length &&
  (d.zipIdx.all fun a => d.zipIdx.all fun b => decide (b.2 ≤ a.2) || decide (fin a.1 ≤ b.1.off) || decide (fin b.1 ≤ a.1.off))

/-- Table 5-5 code 7. -/
def requiredOk (f : List Byte) : Bool :=
  [1, 2, 5, 0x10, 0x11, 0x12, 0x13, 0x14, 0x15, 0x16, 0x17, 0x18, 0x20, 0x21, 0x22, 0x23].all fun k =>
    (directory f).any fun e => e.id == k

/-- Table 5-5 code 8: decoded ranges; a resistance is greater than 0; OCV strictly increasing in z. -/
def valuesOk (f : List Byte) : Bool :=
  let h := tableHead f
  (directory f).all fun e => match tableKind e.id with
    | none => false
    | some k => f32Finite e.scale && f32Finite e.bias &&
        (decoded f e).all (fun v => decide (k.2.2.1 ≤ v) && decide (v ≤ k.2.2.2) &&
          !([0x10, 0x11, 0x13, 0x15, 0x17].contains e.id && v == 0)) &&
        (e.id != 5 || (List.range h.nt).all fun t =>
          let row := (List.range h.nz).map fun z => (decoded f e).getD (z + h.nz * t) 0
          (row.zip (row.drop 1)).all fun p => decide (p.1 < p.2))

/-- A finite F32 field within bounds. -/
def fieldIn (f : List Byte) (off : Nat) (lo hi : Rat) : Bool :=
  f32Finite (leAt f off 4) && decide (lo ≤ headF f off) && decide (headF f off ≤ hi)

/-- Table 5-5 code 9. -/
def scalarsOk (f : List Byte) : Bool :=
  let c := leAt f 36 4
  decide (1000 ≤ c) && decide (c ≤ 2000000) && decide (leAt f 40 2 < leAt f 42 2) &&
  fieldIn f 44 0 1 && fieldIn f 48 0 1 && decide (headF f 44 < headF f 48) &&
  fieldIn f 52 0 1 && fieldIn f 56 0 1 && decide (headF f 56 < headF f 52) &&
  fieldIn f 60 1 100000 && fieldIn f 64 (1 / 100) 100 && fieldIn f 68 0 2 && fieldIn f 72 1 10000

/-- Table 5-5 code 10. -/
def reservedOk (f : List Byte) : Bool :=
  leAt f 19 1 == 0 && ((f.drop 76).take 20).all (· == 0) &&
    ((f.drop (axesEnd f)).take (dirStart f - axesEnd f)).all (· == 0) && (directory f).all fun e => e.res == 0

/-- R150, Table 5-5: the first check that a table file fails, 0 where it fails none. -/
def tableCheck (f : List Byte) : Nat :=
  let h := tableHead f
  let n := f.length
  if n < 8 ∨ leAt f 0 4 ≠ 0x31544251 ∨ leAt f 4 2 ≠ 1 ∨ leAt f 6 2 ≠ 96 then 1
  else if leAt f 8 4 ≠ n ∨ n < 112 ∨ 65535 < n then 2
  else if crc32 (f.take (n - 4)) ≠ leAt f (n - 4) 4 then 3
  else if h.nz < 2 ∨ 21 < h.nz ∨ h.nt < 2 ∨ 12 < h.nt ∨ h.nr < 1 ∨ 8 < h.nr ∨ h.ns < 11 ∨ 101 < h.ns ∨ h.ntab < 16 ∨ 18 < h.ntab
  then 4
  else if !axesOk f then 5
  else if !dirOk f n then 6
  else if !requiredOk f then 7
  else if !valuesOk f then 8
  else if !scalarsOk f then 9
  else if !reservedOk f then 10
  else 0

/-! ### Look-up (R149) -/

/-- R149: a coordinate on an axis: the lower point's index, the weight of the upper point, and whether it was clamped. -/
def axisAt (ax : List Int) (x : Rat) : Nat × Rat × Bool :=
  let lo : Rat := (ax.headD 0 : Int)
  let hi : Rat := (ax.getLastD 0 : Int)
  let c := clampQ lo hi x
  let k := ((ax.drop 1).filter fun a => decide ((a : Rat) ≤ c)).length
  let k := min k (ax.length - 2)
  let a : Rat := (ax.getD k 0 : Int)
  let b : Rat := (ax.getD (k + 1) 0 : Int)
  (k, if a = b then 0 else (c - a) / (b - a), c != x)

/-- Linear interpolation. -/
def mix (a b w : Rat) : Rat := a + w * (b - a)

/-- The entry of an identifier; none where it is absent. -/
def entryOf (f : List Byte) (id : Nat) : Option DirEntry := (directory f).find? fun e => e.id == id

/-- One raw element, decoded. -/
def elementAt (f : List Byte) (e : DirEntry) (k : Nat) : Rat := f32 e.bias + f32 e.scale * (leAt f (e.off + 2 * k) 2 : Rat)

/-- R149: a z-T or z-T-r table between the axis points from `iz`, `it` and `ir` on, with the weights of the upper points. -/
def tableAt (f : List Byte) (e : DirEntry) (iz it ir : Nat) (wz wt wr : Rat) : Rat :=
  let h := tableHead f
  let el (i j k : Nat) : Rat := elementAt f e (i + h.nz * (j + h.nt * k))
  let plane (k : Nat) : Rat := mix (mix (el iz it k) (el (iz + 1) it k) wz) (mix (el iz (it + 1) k) (el (iz + 1) (it + 1) k) wz) wt
  if e.dims = 2 ∨ h.nr = 1 then plane 0 else mix (plane ir) (plane (ir + 1)) wr

/-- R149: the value of a z-T or z-T-r table at z (0.01 %), T (0.01 °C) and rate (0.001 C). -/
def lookup (f : List Byte) (id : Nat) (z t r : Rat) : Rat :=
  match entryOf f id with
  | none => 0
  | some e =>
    let (iz, wz, _) := axisAt (zAxis f) z
    let (it, wt, _) := axisAt (tAxis f) t
    let (ir, wr, _) := axisAt (rAxis f) r
    tableAt f e iz it ir wz wt wr

/-- R149, R153: the slopes of a table in z (per 0.01 %) and in T (per 0.01 °C) there; 0 along a clamped coordinate. -/
def slopes (f : List Byte) (id : Nat) (z t r : Rat) : Rat × Rat :=
  match entryOf f id with
  | none => (0, 0)
  | some e =>
    let (iz, wz, cz) := axisAt (zAxis f) z
    let (it, wt, ct) := axisAt (tAxis f) t
    let (ir, wr, _) := axisAt (rAxis f) r
    let gap (ax : List Int) (k : Nat) : Rat := (ax.getD (k + 1) 0 - ax.getD k 0 : Int)
    (if cz then 0 else (tableAt f e iz it ir 1 wt wr - tableAt f e iz it ir 0 wt wr) / gap (zAxis f) iz,
     if ct then 0 else (tableAt f e iz it ir wz 1 wr - tableAt f e iz it ir wz 0 wr) / gap (tAxis f) it)

/-- R149: a clamp of z, T or the rate index in a look-up. -/
def clamped (f : List Byte) (z t r : Rat) : Bool :=
  (axisAt (zAxis f) z).2.2 || (axisAt (tAxis f) t).2.2 || ((tableHead f).nr != 1 && (axisAt (rAxis f) r).2.2)

/-- R148, R149: an electrode curve at a stoichiometry, and its slope there; 0 where the stoichiometry is clamped. -/
def curve (f : List Byte) (id : Nat) (theta : Rat) : Rat × Rat :=
  match entryOf f id with
  | none => (0, 0)
  | some e =>
    let n := (tableHead f).ns - 1
    let x := clampQ 0 1 theta * (n : Rat)
    let k := min x.floor.toNat (n - 1)
    let a := elementAt f e k
    let b := elementAt f e (k + 1)
    (mix a b (x - (k : Rat)), if theta < 0 ∨ 1 < theta then 0 else (b - a) * (n : Rat))

/-- R155, R163: the OCV table inverted at a voltage and T: z in 0.01 %, and the OCV slope there in V per 0.01 %. -/
def ocvPoint (f : List Byte) (v t : Rat) : Rat × Rat :=
  let ax := zAxis f
  let row := ax.map fun z => lookup f 5 (z : Rat) t 0
  let k := min ((row.drop 1).filter fun a => decide (a ≤ v)).length (ax.length - 2)
  let a := row.getD k 0
  let b := row.getD (k + 1) 0
  let za : Rat := (ax.getD k 0 : Int)
  let zb : Rat := (ax.getD (k + 1) 0 : Int)
  let sl := (b - a) / (zb - za)
  (if sl = 0 then za else za + (v - a) / sl, sl)

/-- R155, R163: the same with z clamped to 0 to 10,000. -/
def ocvInvert (f : List Byte) (v t : Rat) : Rat × Rat :=
  let p := ocvPoint f v t
  (clampQ 0 10000 p.1, p.2)

/-- R149, R155: z or T was clamped in an inversion. -/
def ocvClamped (f : List Byte) (v t : Rat) : Bool :=
  (ocvInvert f v t).1 != (ocvPoint f v t).1 || (axisAt (tAxis f) t).2.2

/-! ### The table cache of a cluster (R21, R123) -/

/-- R123: what a cache holds, trimmed to 128 KiB from the most recently used entry on. -/
def cacheTrim (room : Nat) : List (Nat × Nat × Nat) → List (Nat × Nat × Nat)
  | [] => []
  | e :: l => if e.2.2 ≤ room then e :: cacheTrim (room - e.2.2) l else []

/-- R123: an entry is used: it comes to the front, fetched from SRAM if the cache lacks it; the misses counted. DESIGN CHOICE
(log entry 122): an entry is one array of a table file, and the least recently used ones make room. -/
def cacheUse (c : List (Nat × Nat × Nat) × Nat) (e : Nat × Nat × Nat) : List (Nat × Nat × Nat) × Nat :=
  if c.1.contains e then (e :: c.1.erase e, c.2) else (cacheTrim 131072 (e :: c.1), c.2 + 1)

/-- R123: the entries of a set's file that the tables named come from. -/
def cacheEntries (f : List Byte) (set : Nat) (ids : List Nat) : List (Nat × Nat × Nat) :=
  ids.filterMap fun id => (entryOf f id).map fun e => (set, id, 2 * arrayLen (tableHead f) e.dims)

end Sys2Proof.Machine
end

