-- ==== Sys2Proof/Machine/Model.lean ====
section
/-! DEFINITION. Sys2Proof/Machine/Model.lean: the cell model and its filters (R143 to R145, R153 to R158, R171 to R173, R177 to
R179) over rational numbers; the exponential and the logarithm are those of Operands (log entry 7). Units: A, A·h, V, Ω, s, °C. -/

namespace Sys2Proof.Machine

/-- R146, Table 5-2: the parameters of a cell in an epoch, scales applied. -/
structure Params where
  ro : Rat
  /-- The table's r_o, without g_R. -/
  ro0 : Rat
  /-- r and τ of the relaxation branches a1, a2, b1, b2. -/
  rc : List (Rat × Rat)
  tn : Rat
  tp : Rat
  hmax : Rat
  gamma : Rat
  /-- Slopes in z (per 1) and in Tc (per °C), scales applied: of r_o, of r and τ of each branch, of τn, τp, hmax and γ. -/
  roD : Rat × Rat
  rcD : List ((Rat × Rat) × (Rat × Rat))
  tnD : Rat × Rat
  tpD : Rat × Rat
  hmaxD : Rat × Rat
  gammaD : Rat × Rat
  clamp : Bool
deriving DecidableEq, Repr

/-- R146, R149: parameters at z (1), Tc (°C) and the rate index (C). -/
def paramsAt (f : List Byte) (z t rate gR gT : Rat) : Params :=
  let z' := clampQ 0 1 z * 10000
  let t' := t * 100
  let r' := rate * 1000
  let v (id : Nat) : Rat := lookup f id z' t' r'
  let d (id : Nat) (g : Rat) : Rat × Rat := let sl := slopes f id (z * 10000) t' r'; (sl.1 * 10000 * g, sl.2 * 100 * g)
  { ro := v 0x10 * gR, ro0 := v 0x10,
    rc := [(v 0x11 * gR, v 0x12 * gT), (v 0x13 * gR, v 0x14 * gT), (v 0x15 * gR, v 0x16 * gT), (v 0x17 * gR, v 0x18 * gT)],
    tn := v 0x20, tp := v 0x21, hmax := v 0x22, gamma := v 0x23, roD := d 0x10 gR,
    rcD := [(d 0x11 gR, d 0x12 gT), (d 0x13 gR, d 0x14 gT), (d 0x15 gR, d 0x16 gT), (d 0x17 gR, d 0x18 gT)],
    tnD := d 0x20 1, tpD := d 0x21 1, hmaxD := d 0x22 1, gammaD := d 0x23 1, clamp := clamped f (z * 10000) t' r' }

/-- R144: decay of a linear state over an interval: exp(−Δt / τ). -/
def decay (dt tau : Rat) : Rat := expQ (-(dt / tau))

/-- R144: a linear state x' = −x / τ + b advanced exactly. -/
def advance (x d tau b : Rat) : Rat := x * d + b * tau * (1 - d)

/-- Sign of a current. -/
def signQ (q : Rat) : Rat := if q < 0 then -1 else if q = 0 then 0 else 1

/-- R144: steps of at most 10 ms in an interval. -/
def tempSteps (dt : Rat) : Nat := max 1 (-(-(dt * 100)).floor).toNat

/-- R144: what is left of Tc − Ts after an interval, and the warming that 1 Ω of r_o gives at a held current, K. -/
def coreHeat (f : List Byte) (i dt : Rat) : Rat × Rat :=
  let n := tempSteps dt
  let td := (1 - dt / (n : Rat) / (headF f 64 * headF f 60)) ^ n
  (td, i * i * headF f 64 * (1 - td))

/-- R144: the partial derivatives of `advance` in the state and in τ. -/
def advanceD (x d tau b dt : Rat) : Rat × Rat :=
  (d, x * d * dt / (tau * tau) + b * (1 - d) - b * d * dt / tau)

/-- R153: a row of the transition: the partial derivatives of state `k` in itself, in Tc and in q. -/
def transitionRow (k : Nat) (own dT dq : Rat) : List Rat :=
  (List.range 12).map fun j =>
    (if j = k then own else 0) + (if j = 10 then dT else 0) + (if j = 11 then dq else 0)

/-- R144, R153: the states and the transition matrix over `dt` seconds at a held current; the parameters are those at the
interval's start and are held over it, and the matrix holds their dependence on z and Tc (log entry 20). -/
def timeUpdate (f : List Byte) (x : List Rat) (pr : Params) (i dt ts cap eff : Rat) : List Rat × List (List Rat) :=
  let g (k : Nat) : Rat := x.getD k 0
  let b := i / (3600 * cap)
  let n0 := headF f 44
  let n1 := headF f 48
  let p0 := headF f 52
  let p1 := headF f 56
  let dif (k : Nat) (tau w span : Rat) (tauD : Rat × Rat) : Rat × List Rat :=
    let d := decay dt tau
    let v := w * span * b
    let p := advanceD (g k) d tau v dt
    (advance (g k) d tau v, transitionRow k p.1 (p.2 * tauD.2) (p.2 * tauD.1 / cap))
  let tenth (p : Rat × Rat) : Rat × Rat := (p.1 / 10, p.2 / 10)
  let a := dif 0 (pr.tn / 10) (3 / 5) (n1 - n0) (tenth pr.tnD)
  let c := dif 1 pr.tn (2 / 5) (n1 - n0) pr.tnD
  let d := dif 2 (pr.tp / 10) (3 / 5) (p1 - p0) (tenth pr.tpD)
  let e := dif 3 pr.tp (2 / 5) (p1 - p0) pr.tpD
  let el := dif 4 (headF f 72) 1 1 (0, 0)
  let u := (pr.rc.zip pr.rcD).zipIdx.map fun r =>
    let k := 5 + r.2
    let d := decay dt r.1.1.2
    let dr := i * (1 - d)
    let dt' := (g k - r.1.1.1 * i) * d * dt / (r.1.1.2 * r.1.1.2)
    (g k * d + r.1.1.1 * i * (1 - d),
      transitionRow k d (dr * r.1.2.1.2 + dt' * r.1.2.2.2) ((dr * r.1.2.1.1 + dt' * r.1.2.2.1) / cap))
  let w := absQ i / (3600 * cap) * dt
  let hd := expQ (-(pr.gamma * w))
  let hs := pr.hmax * signQ i
  let hm := signQ i * (1 - hd)
  let hg := -((g 9 - hs) * hd * w)
  let h : Rat × List Rat := (hs + (g 9 - hs) * hd,
    transitionRow 9 hd (hm * pr.hmaxD.2 + hg * pr.gammaD.2) ((hm * pr.hmaxD.1 + hg * pr.gammaD.1) / cap))
  let n := tempSteps dt
  let step := dt / (n : Rat)
  let tc := (List.range n).foldl (fun t _ => t + ((ts - t) / headF f 64 + i * i * pr.ro) / headF f 60 * step) (g 10)
  let ch := coreHeat f i dt
  let l : List (Rat × List Rat) := [a, c, d, e, el] ++ u ++
    [h, (tc, transitionRow 10 0 (ch.1 + ch.2 * pr.roD.2) (ch.2 * pr.roD.1 / cap)),
      (g 11 + eff * i * dt / 3600, transitionRow 11 1 0 0)]
  (l.map fun p => p.1, l.map fun p => p.2)

/-- R145, R153: v̂, its rest part, and its Jacobian with respect to the 12 states, r_o's dependence on z and Tc included
(log entry 20). -/
def predict (f : List Byte) (x : List Rat) (pr : Params) (i cap : Rat) : Rat × Rat × List Rat :=
  let g (k : Nat) : Rat := x.getD k 0
  let z := g 11 / cap
  let n0 := headF f 44
  let n1 := headF f 48
  let p0 := headF f 52
  let p1 := headF f 56
  let na := n0 + (n1 - n0) * z
  let pa := p0 + (p1 - p0) * z
  let dT := g 10 - 25
  let ocv (tn tp : Rat) : Rat := (curve f 1 tp).1 - (curve f 2 tn).1 + ((curve f 3 tp).1 - (curve f 4 tn).1) * dT
  let sn := na + g 0 + g 1
  let sp := pa + g 2 + g 3
  let v := ocv sn sp + headF f 68 * g 4 + g 5 + g 6 + g 7 + g 8 + g 9 + pr.ro * i
  let jn := -((curve f 2 sn).2 + (curve f 4 sn).2 * dT)
  let jp := (curve f 1 sp).2 + (curve f 3 sp).2 * dT
  let jt := (curve f 3 sp).1 - (curve f 4 sn).1
  (v, ocv na pa, [jn, jn, jp, jp, headF f 68, 1, 1, 1, 1, 1, jt + pr.roD.2 * i,
    (jp * (p1 - p0) + jn * (n1 - n0) + pr.roD.1 * i) / cap])

/-- Dot product. -/
def dot (a b : List Rat) : Rat := ((a.zip b).map fun p => p.1 * p.2).sum

/-- R153: the covariance F P Fᵀ after a transition F, with the added variances `q`. -/
def covUpdate (p tr : List (List Rat)) (q : List Rat) : List (List Rat) :=
  let fp := tr.map fun row => (List.range 12).map fun j => dot row (p.map fun l => l.getD j 0)
  (List.range 12).map fun i => (List.range 12).map fun j =>
    dot (fp.getD i []) (tr.getD j []) + (if i = j then q.getD i 0 else 0)

/-- R153: the scalar measurement update: states, covariance, innovation, normalised innovation; beyond 8 the measurement
variance is enlarged until it is 8. -/
def measure (x : List Rat) (p : List (List Rat)) (jac : List Rat) (v vhat sigma : Rat) :
    List Rat × List (List Rat) × Rat × Rat :=
  let ph := p.map fun row => dot row jac
  let nu := v - vhat
  let s0 := dot jac ph + sigma * sigma
  let s := if 64 * s0 < nu * nu then nu * nu / 64 else s0
  let rt := sqrtQ s
  let x' := (x.zip ph).map fun e => e.1 + e.2 / s * nu
  let p' := (List.range 12).map fun i => (List.range 12).map fun j =>
    (p.getD i []).getD j 0 - ph.getD i 0 * ph.getD j 0 / s
  (x', p', nu, if rt = 0 then 0 else nu / rt)

/-! ### A cell's context -/

/-- R144: Ts: the assigned input; while it is lost, the median of the plausible inputs of its module; with none, the last
value. -/
def State.surface (s : State) (c : Nat) (last : Rat) : Rat :=
  let k := s.gn O.cellTempInput c
  let good (j : Nat) : Bool := s.gn O.tempFlags j % 2 == 0 && !bit (s.gn O.tempFlags j) 5
  let t (j : Nat) : Rat := (s.gi O.temperature j : Rat) / 100
  if good k then t k
  else
    let p := s.monitorOf c
    let l := ((s.moduleInputs (cellRing c) p).map fun j => tempKey (cellRing c) p j).filter good
    if l.isEmpty then last else medianQ (l.map t)

/-- R156: variance that a state receives over an interval. -/
def State.noise (s : State) (n k : Nat) (dt cap : Rat) (src : Nat) : Rat :=
  let w := f32 (s.gn O.ekfProcessNoise (n * 16 + k))
  if k = 11 then
    let a := w / 100 * cap
    let b := (1 / 20 : Rat) * dt / 3600 * cap
    a * a * dt + (if src = 3 then b * b else 0)
  else w * w * dt

/-- R156: initial variance of a state. -/
def State.initVar (s : State) (k : Nat) (cap : Rat) : Rat :=
  let w := f32 (s.gn O.ekfInitialSigma k)
  let w := if k = 11 then w / 100 * cap else w
  w * w

/-- R153: σv, V. -/
def State.sigmaV (s : State) (n : Nat) : Rat := f32 (s.gn O.ekfMeasurementNoise n) / 1000

/-- R155, R158: a cell's filter initialised at a word; no measurement update follows in that epoch. C is C_NOM while no
capacity has been learned. DESIGN CHOICE (log entry 155): a cell initialised for the first time takes the same charge into the
QB512-compatible estimate, which is otherwise kept. -/
def State.initCell (s : State) (f : List Byte) (e : CellEst) (v ts rate i : Rat) : CellEst :=
  let cap := if e.learned then e.cap else cNom f
  let z := (ocvInvert f v (ts * 100)).1 / 10000
  let x : List Rat := List.replicate 10 0 ++ [ts, z * cap]
  let pr := paramsAt f z ts (rate / cap) e.gR e.gT
  let m := predict f x pr i cap
  { e with
    x := x, live := true, due := false, cap := cap, anchorPending := true, compat := if e.live then e.compat else z * cap, ts := ts
    vhat := m.1, ocv := m.2.1, ro := pr.ro, jac := (pr.ro * i, 0), nu := 0, ninn := 0, highSince := none, lowSince := none
    reading := some ((v - (m.1 - pr.ro * i)) / pr.ro, pr.ro), clamp := e.clamp || pr.clamp || ocvClamped f v (ts * 100)
    p := (List.range 12).map fun i => (List.range 12).map fun j => if i = j then s.initVar i cap else 0 }

/-- R196: cause 8 holds while a cell of the string carries SHORT_SUSPECT. -/
def State.judgeSuspects (s : State) (n : Nat) : State :=
  if (s.stringCells n).any fun c => (s.pub c).short then s.derateEnter n 8 else s.derateAbsent n 8

/-! ### Parameter filter (R127, R171, R172) -/

/-- R172: g held between 0.5 and 4; its logarithm follows. -/
def clampScale (l : Rat) : Rat × Rat :=
  let g := expQ l
  if g < 1 / 2 then (lnQ (1 / 2), 1 / 2) else if 4 < g then (lnQ 4, 4) else (l, g)

/-- R172: a measurement of the two logarithms: innovation, Jacobian, variance. -/
def lnMeasure (a b : Rat) (p : List Rat) (nu ja jb r : Rat) : Rat × Rat × List Rat :=
  let paa := p.getD 0 0
  let pab := p.getD 1 0
  let pbb := p.getD 3 0
  let ha := paa * ja + pab * jb
  let hb := pab * ja + pbb * jb
  let s := ja * ha + jb * hb + r
  (a + ha / s * nu, b + hb / s * nu, [paa - ha * ha / s, pab - ha * hb / s, pab - ha * hb / s, pbb - hb * hb / s])

/-- R172: Jacobian of v̂ with respect to ln g_R and ln g_τ (log entry 20): `x` are the states after the time update with the
parameters `pr` at the held current `i`, `v` is r_o × the current of v̂, and `vT` is the slope of v̂ in Tc, which the heat of
r_o moves. -/
def lnJacobian (f : List Byte) (x : List Rat) (pr : Params) (i v vT dt : Rat) : Rat × Rat :=
  let br := pr.rc.zipIdx.map fun r =>
    let d := decay dt r.1.2
    (r.1.1 * i * (1 - d), (x.getD (5 + r.2) 0 - r.1.1 * i) * dt / r.1.2)
  (v + (br.map fun b => b.1).sum + (coreHeat f i dt).2 * pr.ro * vT, (br.map fun b => b.2).sum)

/-- R172: one run of the parameter filter with the step held (its tally, the measured and the table's resistance); its process
noise is that of the time since the last run whose epoch was published. -/
def State.paramRun (s : State) (e : CellEst) (step : Option (Nat × Rat × Rat)) (word : Option Rat) (sigma : Rat)
    (mode : Nat) : CellEst :=
  let q (k : Nat) : Rat := let w := f32 (s.gn O.paramFilterNoise k); w * w * e.paramDt
  let e := { e with stepUsed := step.map (fun r => r.1), paramDt := 0 }
  let step : Option (Rat × Rat) := step.map fun r => r.2
  if mode = 1 then
    match step with
    | none => e
    | some r =>
      let g := clampQ (1 / 2) 4 (e.gR + 1 / 20 * (r.1 / r.2 - e.gR))
      { e with gR := g, lnR := lnQ g }
  else
    let p := [e.pp.getD 0 0 + q 0, e.pp.getD 1 0, e.pp.getD 2 0, e.pp.getD 3 0 + q 1]
    let m := match word with
      | none => (e.lnR, e.lnT, p)
      | some v => lnMeasure e.lnR e.lnT p (v - e.vhat) e.jac.1 e.jac.2 (sigma * sigma)
    let m := match step with
      | none => m
      | some r => lnMeasure m.1 m.2.1 m.2.2 (lnQ (r.1 / r.2) - m.1) 1 0 (1 / 2500)
    let a := clampScale m.1
    let b := clampScale m.2.1
    { e with lnR := a.1, gR := a.2, lnT := b.1, gT := b.2, pp := m.2.2, paramUpdated := true }

/-! ### Limit prediction (R177 to R179) -/

/-- R177, R146: terminal voltage of a cell after H seconds at a constant current, and its slope b, with the OCV slope at the z
that it is advanced from; the parameters are those of the epoch, whose rate index is that of the last second's current
`rate`. -/
def CellEst.ahead (e : CellEst) (f : List Byte) (z i h eff rate : Rat) : Rat × Rat × Params :=
  let cap := e.cap
  let x := e.x.set 11 (z * cap)
  let pr := paramsAt f z (x.getD 10 0) (rate / cap) e.gR e.gT
  let x' := (timeUpdate f x pr i h e.ts cap (if 0 < i then eff else 1)).1
  let v := (predict f x' pr i cap).1
  let sl := (slopes f 5 (z * 10000) (x.getD 10 0 * 100) 0).1 * 10000
  (v, pr.ro + (pr.rc.map fun r => r.1 * (1 - decay h r.2)).sum + sl * h / (3600 * cap), pr)

/-- R178: the same in mode 1: OCV(z) with every relaxation branch fully developed. -/
def CellEst.aheadCompat (e : CellEst) (f : List Byte) (z i h rate : Rat) : Rat × Rat × Params :=
  let t := e.x.getD 10 0
  let pr := paramsAt f z t (rate / e.cap) e.gR e.gT
  let a := lookup f 5 (clampQ 0 1 z * 10000) (t * 100) 0
  let sl := (slopes f 5 (z * 10000) (t * 100) 0).1 * 10000
  let b := pr.ro + (pr.rc.map fun r => r.1).sum + sl * h / (3600 * e.cap)
  (a + b * i, b, pr)

/-- R177: a bound on the side of its direction, 0 on the other. -/
def oneSided (charge : Bool) (r : Rat) : Rat := if charge then (if r < 0 then 0 else r) else (if 0 < r then 0 else r)

/-- R177: a linear bound (limit − a) / b; 0 with the wrong sign for its direction. -/
def boundOf (charge : Bool) (limit v b i : Rat) : Rat :=
  oneSided charge (if b = 0 then 0 else (limit - (v - b * i)) / b)

/-- R177: Tc after H seconds at a constant current. -/
def tempAhead (f : List Byte) (tc ts ro i h : Rat) : Rat :=
  let d := decay h (headF f 64 * headF f 60)
  ts + i * i * ro * headF f 64 + (tc - ts - i * i * ro * headF f 64) * d

/-- R177: the temperature bound at a linearisation point; where the slope is 0 there: 0 if Tc lies above the limit, else
none. -/
def tempBound (charge : Bool) (f : List Byte) (tmax tc ts ro i h : Rat) : Option Rat :=
  let d := decay h (headF f 64 * headF f 60)
  let t := tempAhead f tc ts ro i h
  let b := 2 * i * ro * headF f 64 * (1 - d)
  if b = 0 then (if tmax < t then some 0 else none) else some (oneSided charge (i + (tmax - t) / b))

/-- R177, R178: a cell's bound in one direction and horizon (signed current), a and b of the second linearisation, and whether a
look-up was clamped. The heat of a current does not depend on its sign, so the temperature bound starts from the present
current's magnitude in its own direction, and from the voltage bound where that is 0 (DESIGN CHOICE, log entry 123). -/
def State.cellBound (s : State) (n : Nat) (f : List Byte) (e : CellEst) (charge : Bool) (z h i rate : Rat) (mode : Nat) :
    Rat × Rat × Rat × Bool :=
  let eff := f32 (s.gn O.coulombicEfficiency n)
  let ahead (i : Rat) : Rat × Rat × Params := if mode = 1 then e.aheadCompat f z i h rate else e.ahead f z i h eff rate
  let vl : Rat := (if charge then (s.gn O.predictVmax n : Rat) else (s.gn O.predictVmin n : Rat)) / 10000
  let zl : Rat := (if charge then (s.gn O.predictSocMax n : Rat) else (s.gn O.predictSocMin n : Rat)) / 10000
  let tl : Rat := (s.gi O.predictTmax n : Rat) / 100
  let one (i : Rat) : Rat := let a := ahead i; boundOf charge vl a.1 a.2.1 i
  let zb := oneSided charge ((zl - z) * e.cap * 3600 / h / (if charge then eff else 1))
  let i2 := one i
  let vb := one i2
  let tOne (i : Rat) : Option Rat := tempBound charge f tl (e.x.getD 10 0) e.ts (ahead i).2.2.ro i h
  let tb := match tOne (if charge then absQ i else -(absQ i)) with
    | some r => if r = 0 then some 0 else tOne r
    | none => tOne vb
  let near (a b : Rat) : Rat := if absQ a < absQ b then a else b
  let r := near vb zb
  let r := match tb with | some t => near r t | none => r
  let a := ahead i2
  (r, a.1 - a.2.1 * i2, a.2.1, a.2.2.clamp)

end Sys2Proof.Machine
end

