-- ==== Sys2Proof/Machine/Balance.lean ====
section
/-! DEFINITION. Sys2Proof/Machine/Balance.lean: balancing (R103 to R105). -/

namespace Sys2Proof.Machine

/-- R104: no bleed for a cell now. DESIGN CHOICE (log entry 172): a trip of the string is active in TRIPPED and LOCKOUT. -/
def State.inhibited (s : State) (c : Nat) : Bool :=
  let r := cellRing c
  let p := s.monitorOf c
  let hot := (s.moduleInputs r p).any (fun j => decide (s.gi O.balanceMaxTemp 0 < s.gi O.temperature (tempKey r p j))) ||
    decide (s.gi O.balanceMaxTemp 0 < s.gi O.moduleDieTemp (monKey r p))
  bit (s.gn O.cellFlags c) 0 || s.unverified c || decide (s.gn O.cellVoltage c < s.gn O.balanceMinVoltage 0) ||
    (s.mon (monKey r p)).fault || hot || [9, 10].contains (s.seqState r) || !s.ready || s.mooring || (s.mon (monKey r p)).balRemoved

/-- R103: C as a rate, mA·h: the rated capacity C_NOM of the string's cells, their median where they differ (DESIGN CHOICE,
log entry 117). -/
def State.ratedCap (s : State) (n : Nat) : Rat := medianQ ((s.stringCells n).map fun c => cNom (s.tableOf c) * 1000)

/-- The median C of a string's cells, mA·h. -/
def State.stringCap (s : State) (n : Nat) : Rat := s.medianCap (s.stringCells n)

/-- R103, R141: what a cell is ranked by: its voltage (100 µV) in mode 1, its stored charge (mA·h) in mode 2, from the
QB512-compatible estimate where the string's epochs run in that mode. DESIGN CHOICE (log entry 173): the voltage is the newest
that acquisition has published. -/
def State.balanceValue (s : State) (c : Nat) : Rat :=
  let e := s.pub c
  if s.gn O.balanceMode 0 = 1 then (s.gn O.cellVoltage c : Rat)
  else if (s.epoch (cellRing c)).mode = 1 then e.compat * 1000 else e.x.getD 11 0 * 1000

/-- R103: the excess of a cell over the lowest of its string, where it is a candidate. -/
def State.balanceExcess (s : State) (n : Nat) : List (Nat × Rat) :=
  let cells := (s.stringCells n).filter fun c => s.gn O.balanceMode 0 = 1 || (s.pub c).live
  let v := cells.map s.balanceValue
  let lo := v.foldl (fun a b => if b < a then b else a) (v.headD 0)
  let limit : Rat := if s.gn O.balanceMode 0 = 1 then (s.gn O.balanceThreshold 0 : Rat) * 10
    else (s.gn O.balanceChargeThreshold 0 : Rat)
  let ok := match s.gn O.balanceMode 0 with
    | 0 => false
    | 1 => decide ((s.amps n : Rat) * 20 ≤ s.ratedCap n)
    | _ => true
  if !ok then [] else
  ((cells.zip v).filter fun e => decide (limit < e.2 - lo) && !s.inhibited e.1).map fun e => (e.1, e.2 - lo)

/-- R103: the cells of a monitor that bleed: at most `BalanceMaxPerMonitor`, the largest excesses first, ties to the lower
channel. -/
def State.balancePick (s : State) (r p : Nat) (ex : List (Nat × Rat)) : List Nat :=
  let mine := ex.filter fun e => s.monitorOf e.1 == p && cellRing e.1 == r
  let sorted := mine.mergeSort fun a b => decide (b.2 < a.2) || (a.2 == b.2 && decide (a.1 ≤ b.1))
  (sorted.take (s.gn O.balanceMaxPerMonitor 0)).map fun e => e.1

/-- R105: BALANCE from an end over hops FIRST to LAST with a TIMER; its masks are those of the moment it leaves. -/
def State.sendBalance (s : State) (r : Nat) (b : Bool) (order first last timer : Nat) : State :=
  let hops := (List.range (last + 1)).filter fun h => decide (first ≤ h)
  s.queueTrain r b {
    order := order, hops := hops,
    frame := frameBytes (cmdCtrl b 63) 0x20 s.seqNow
      (le 1 first ++ le 1 last ++ le 1 timer ++ hops.flatMap fun h => le 3 (s.bleedMask r (s.posOf r b h))) }

/-- R71: the ends that head a ring now: one of a whole ring, both of a split one where they reach a monitor. -/
def State.heads (s : State) (r : Nat) : List Bool :=
  if (s.ring r).broken.isEmpty then [s.headB] else [false, true].filter fun b => s.segmentLen r b != 0

/-- R105: the plan of a ring: one BALANCE, or one per segment of a split ring. A plan that has not left yet is replaced. -/
def State.balanceRing (s : State) (r timer : Nat) : State :=
  forEach (s.heads r) s fun s b =>
    let s := s.setQueue r b (((s.ring r).queue b).filter fun t => !(t.cmd == 0x20 && t.order == 5 && !t.sent))
    s.sendBalance r b 5 0 (s.segmentLen r b - 1) timer

/-- R105: BALANCE to one monitor. -/
def State.balanceOne (s : State) (r p order : Nat) : State :=
  match s.endOf r p with
  | none => s
  | some b =>
    let h := if b then s.nMon r - 1 - p else p
    s.sendBalance r b order h h (s.gn O.balanceTimer 0)

/-- R105: READ_STATUS to the monitors removed from balancing (DESIGN CHOICE, log entry 118: at the removal and with every
plan). -/
def State.pollRemoved (s : State) (r : Nat) : State :=
  forEach ((List.range (s.nMon r)).filter fun p => (s.mon (monKey r p)).balRemoved && !s.statusAsked r p) s fun s p =>
    s.queueTo r p 4 0x04 []

/-- BALANCE_PLAN (R103, R105): once per second. -/
def State.planBalance (s : State) : State :=
  let t := forEach s.strings s fun s n =>
    if s.nMon n = 0 || !([3, 4].contains (s.gn O.chainRingState n)) || (s.ring n).mooring then s else
    let ex := s.balanceExcess n
    let on := (List.range (s.nMon n)).flatMap fun p => s.balancePick n p ex
    let s := forEach (s.stringCells n) s fun s c =>
      s.cellUpd c fun x => { x with bleedOn := on.contains c }
    (s.balanceRing n (s.gn O.balanceTimer 0)).pollRemoved n
  { t with fw := { t.fw with balanceAt := s.mono } }

/-- BALANCE_PLAN: when it is due. -/
def execBalancePlan (s : State) : Host.Outcome State Fault Refusal :=
  doneIf (s.running && s.directs && (s.fw.balanceAt == 0 || s.past s.fw.balanceAt 1000000)) s.planBalance s

/-- R104: a cell that enters a condition is switched off by a BALANCE in the next idle slot. -/
def State.balanceInhibit (s : State) (r : Nat) : State :=
  let off := (s.stringCells r).filter fun c => (s.cell c).bleedOn && s.inhibited c
  let s := forEach off s fun s c => s.cellUpd c fun x => { x with bleedOn := false }
  forEach ((off.map s.monitorOf).eraseDups) s fun s p => s.balanceOne r p 2

/-- R105: the mask that a BALANCE carried for a hop. -/
def Train.maskOf (t : Train) (hop : Nat) : Nat :=
  let d := framePayload t.frame
  leAt d (3 + 3 * (hop - (byteAt d 0).toNat)) 3

/-- BAL_ACK (R105): the applied mask beside the one that the train in flight carried; a mismatch sends again, the third in a
row raises 0xC and removes the monitor. -/
def State.takeBalAck (s : State) (r p : Nat) (b : Bool) (frame : List Byte) : State :=
  let k := monKey r p
  let sent := match (s.ring r).train b with | some t => t.maskOf (if b then s.nMon r - 1 - p else p) | none => 0
  if leAt (framePayload frame) 0 3 = sent then s.monUpd k fun m => { m with balMismatch := 0 }
  else
    let n := (s.mon k).balMismatch + 1
    let s := s.monUpd k fun m => { m with balMismatch := n }
    if n < 3 then s.balanceOne r p 5
    else if n = 3 then
      ((s.monUpd k fun m => { m with balRemoved := true }).raise (ringSource r 0xC) p).pollRemoved r
    else s

/-- BAL_ACK: what `State.takeBalAck` does with the first valid copy. -/
def execBalAck (ring : Fin 4) (bEnd : Bool) (frame : List Byte) (s : State) : Host.Outcome State Fault Refusal :=
  s.onReply ring.val bEnd frame fun s p b => s.takeBalAck ring.val p b frame

end Sys2Proof.Machine
end

