-- ==== Sys2Proof/Machine/Session.lean ====
section
/-! DEFINITION. Sys2Proof/Machine/Session.lean: device time and its discipline (R302 to R308), authenticated sessions and
their failures (R296 to R298), and the ends of transfers and sessions that other rules ask for. -/

namespace Sys2Proof.Machine

/-! ### Device time (R302 to R308) -/

/-- R305: `TimeSlewLimit` in ns. -/
def State.slewLimit (s : State) : Int := s.gi O.timeSlewLimit 0 * 1000000

/-- R305, `TimeRateAdjust`: the rate change in force, ppb: ±500 ppm while an offset is slewed, else the rate kept. -/
def State.rateNow (s : State) : Int :=
  if 0 < s.clk.slewNs then 500000 else if s.clk.slewNs < 0 then -500000 else s.clk.rateHold

/-- R305: one microsecond of local time passes: device time advances at the rate in force and never steps back; 0.5 ns of a
slewed offset is used up, in whole ns. AHEAD ends once the offset is within `TimeSlewLimit`. -/
def State.passUs (s : State) : State :=
  let c := s.clk
  let f := c.frac + s.rateNow
  let slew : Int := if c.mono % 2 = 1 then (if 0 < c.slewNs then c.slewNs - 1 else if c.slewNs < 0 then c.slewNs + 1 else 0)
    else c.slewNs
  let near := c.ahead && decide (slew.natAbs ≤ s.slewLimit)
  { s with clk := { c with
    mono := c.mono + 1
    now := c.now + (if 1000000000 ≤ f then 2 else if f < 0 then 0 else 1)
    frac := if 1000000000 ≤ f then f - 1000000000 else if f < 0 then f + 1000000000 else f
    slewNs := slew, ahead := c.ahead && !near, everSynced := c.everSynced || near } }

/-- R305: an offset (reference minus device time, ns) is applied: slewed, stepped at the next tally instant, or, beyond
`TimeStepMax`, only reported with 0xDD and the tamper indicator of a time jump (R421). It takes the place of an offset whose
step is still to be applied; a positive first offset is stepped whatever its size, and so is one that takes its place. -/
def State.applyOffset (s : State) (d : Int) : State :=
  let s := s.put O.timeOffset 0 d
  let l := s.slewLimit
  let first := !s.clk.everSynced && (!s.clk.measured || s.clk.stepNs.isSome)
  let s : State := { s with clk := { s.clk with measured := true, stepNs := none } }
  if (first && decide (0 < d)) || (decide (l < d) && decide (d ≤ s.gi O.timeStepMax 0 * 1000000000)) then
    { s with clk := { s.clk with stepNs := some d.toNat, ahead := false, resumed := false, rateHold := 0 } }
  else if l < d then (s.raise 0xDD 0).tamper 7
  else if d < -l then
    { s with clk := { s.clk with slewNs := d, ahead := true, resumed := false, rateHold := 0 } }
  else { s with clk := { s.clk with slewNs := d, ahead := false, resumed := false, everSynced := true, rateHold := 0 } }

/-- R304: the source that disciplined device time no longer does: what it had still to slew or to step ends with it. -/
def State.freeRun (s : State) : State :=
  { s with clk := { s.clk with slewNs := 0, stepNs := none, rateHold := 0, ahead := false, lastSync := none, goodSyncs := 0 } }

/-- R307, R308: `TimeSyncState` becomes locked; 0xDA when it was not. -/
def State.syncLocked (s : State) : State :=
  if s.gn O.timeSyncState 0 = 2 then s else (s.put O.timeSyncState 0 2).raise 0xDA (s.gn O.timeSource 0)

/-- R304, R363: the source disciplines device time: a device of a pair that does not hold the berth ignores its own. -/
def State.follows (s : State) (src : Nat) : Bool :=
  s.running && s.gn O.timeSource 0 == src && (s.dup.mode == 0 || s.dup.out)

/-- R307: 8 sync intervals or 10 s, whichever is longer, µs. -/
def State.syncTimeout (s : State) : Nat := max 10000000 (s.clk.syncInterval16 * 62500 * 8)

/-- R307: the order of the default best master clock algorithm (PRESUMED, IEEE 1588-2019, log entry 165): of two clocks of
one grandmaster the fewer steps, of two grandmasters the lower priority 1, class, accuracy, variance, priority 2 and
identity, in that order; a tie goes to the lower port identity. -/
def announceRank (a : PtpAnnounce) (same : Bool) : List Nat :=
  (if same then [a.steps] else [a.priority1, a.clockClass, a.accuracy, a.variance, a.priority2, a.identity]) ++ [a.sender]

/-- R307: `a` is a better master than `b`. -/
def betterMaster (a b : PtpAnnounce) : Bool :=
  decide (announceRank a (a.identity == b.identity) < announceRank b (a.identity == b.identity))

/-- R307: the time at which the master sent the sync, ns: the follow-up's for a two-step master, with the corrections. -/
def syncSentAt (x : PtpSync) : Option Int :=
  if x.twoStep then x.followUp.map fun p => p.1 + x.correction + p.2 else some (x.origin + x.correction)

/-- R307: a timestamp of the port, to 20 ns. -/
def portStamp (t : Int) : Int := t / 20 * 20

/-- R307: the measured offset, master minus device, by the delay request-response mechanism: the port's timestamps lie at the
medium, corrected by `PtpIngressLatency` and `PtpEgressLatency`. -/
def State.ptpOffset (s : State) (x : PtpSync) (sent : Int) : Int :=
  let t2 := portStamp x.received - s.gi O.ptpIngressLatency 0
  let t3 := portStamp x.requested + s.gi O.ptpEgressLatency 0
  ((sent - t2) + (x.answered - x.answerCorrection - t3)) / 2

/-- R307: an exchange of the domain `PtpDomain` with the best of the clocks that the port hears; a two-step sync counts once
its follow-up has come. -/
def State.ptpValid (s : State) (x : PtpSync) (master : PtpAnnounce) : Bool :=
  x.domain == s.gn O.ptpDomain 0 && (syncSentAt x).isSome && x.heard.all fun a => !betterMaster a master

/-- PTP_SYNC_RECEIVED (R307, R305): a valid exchange with its offset. -/
def State.ptpSync (s : State) (offsetNs : Int) (interval16 master : Nat) (utcOffset : Int) : State :=
  let st := s.gn O.timeSyncState 0
  let good := if offsetNs.natAbs ≤ 10000 then s.clk.goodSyncs + 1 else 0
  let t : State := { s with clk := { s.clk with lastSync := some s.mono, syncInterval16 := interval16, goodSyncs := good } }
  let t := (t.put O.ptpMasterIdentity 0 (master % 2 ^ 64 : Nat)).put O.timeUtcOffset 0 utcOffset
  let t := if st = 0 ∨ st = 3 then t.put O.timeSyncState 0 1 else t
  let t := t.applyOffset offsetNs
  if 8 ≤ good then t.syncLocked else t

/-- `EthStats` octets in and frames in. -/
def State.ethIn (s : State) (octets : Nat) : State := (s.put O.ethStats 0 (s.gi O.ethStats 0 + octets)).bump O.ethStats 2

/-- R310: octets on the wire of a PTP message of `n` bytes (PRESUMED, log entries 25 and 187). -/
def ptpOctets (n : Nat) : Nat := max 64 (n + 46)

/-- R307, R319: the messages of an exchange that come in (PRESUMED, log entry 187, IEEE 1588-2019): Sync, Follow_Up of a
two-step master and Delay_Resp, and one Announce of the master and of each other clock that the port hears. -/
def ptpIncoming (x : PtpSync) : List Nat :=
  (if x.twoStep && x.followUp.isSome then [44, 44, 54] else [44, 54]) ++ (64 :: x.heard.map fun _ => 64)

/-- R307, R319: the frames of an exchange in `EthStats`: those that come in, and the Delay_Req that goes out. A port that follows
no PTP drops what comes (R310) and sends nothing. -/
def State.ptpFrames (s : State) (x : PtpSync) : State :=
  let t := forEach (ptpIncoming x) s fun s n =>
    let s := s.ethIn (ptpOctets n)
    if s.follows 1 then s else s.bump O.ethStats 5
  if s.follows 1 then (t.put O.ethStats 1 (t.gi O.ethStats 1 + ptpOctets 44)).bump O.ethStats 3 else t

/-- PTP_SYNC_RECEIVED (R307, R319): the frames are counted; a valid exchange with a sync interval of 1/16 s to 2 s is followed. -/
def execPtpSyncReceived (sync : PtpSync) (interval16 : Nat) (master : PtpAnnounce) (utcOffset : Int) (s : State) :
    Host.Outcome State Fault Refusal :=
  let t := s.ptpFrames sync
  doneIf (s.running && s.ethUp)
    (if s.follows 1 && decide (1 ≤ interval16) && decide (interval16 ≤ 32) && s.ptpValid sync master then
      t.ptpSync (s.ptpOffset sync ((syncSentAt sync).getD 0)) interval16 master.identity utcOffset
    else t) s

/-- PTP_HOLDOVER_TIMEOUT (R307): holdover keeps the last rate; 0xD9. -/
def execPtpHoldoverTimeout (s : State) : Host.Outcome State Fault Refusal :=
  let late := match s.clk.lastSync with | some t => s.past t s.syncTimeout | none => false
  let t : State := { s with clk := { s.clk with rateHold := s.rateNow, slewNs := 0, goodSyncs := 0 } }
  doneIf (s.follows 1 && [1, 2].contains (s.gn O.timeSyncState 0) && late)
    ((t.put O.timeSyncState 0 3).raise 0xD9 0) s

/-- TIME_STEP_APPLY (R306): at a tally instant, once its journal record is committed: whole tally periods are stepped, the
rest is slewed. -/
def State.stepApply (s : State) (ns : Nat) : State :=
  let k := ns / (s.fw.period * 1000)
  let us := k * s.fw.period
  let rest : Int := (ns : Int) - (us : Int) * 1000
  let total := s.gn O.timeStepTotal 0 + us
  let s := (s.journal 6 0 (le 8 total)).put O.timeStepTotal 0 total
  let s : State := { s with
    clk := { s.clk with now := s.clk.now + us, stepNs := none, slewNs := rest, everSynced := true }
    fw := { s.fw with tallyTime := s.fw.tallyTime + us } }
  (forEach [0, 1] s fun s ch => s.canUpd ch fun c => { c with stepped := true }).raise 0xD8 0

/-- TIME_STEP_APPLY (R306). -/
def execTimeStepApply (s : State) : Host.Outcome State Fault Refusal :=
  match s.clk.stepNs with
  | none => done s
  | some ns => doneIf (s.running && s.fw.ticking && s.mono == s.fw.latchedAt && s.flashOk) (s.stepApply ns) s

/-- R303, Table 13-7 kind 2: a time mark. -/
def State.timeMark (s : State) (worn : Bool) : State :=
  let s := s.journal 2 0 (le 1 (b2n s.clk.everSynced) ++ [0, 0, 0]) worn
  State.ranWork { s with clk := { s.clk with markAt := s.mono } } 8

/-- TIME_MARK_COMMIT (R303): every 60 s while flash operations may start. -/
def execTimeMarkCommit (worn : Bool) (s : State) : Host.Outcome State Fault Refusal :=
  doneIf (s.running && s.flashOk && s.past s.clk.markAt 60000000) (s.timeMark worn) s

/-- TIME_SET_LOCK_EXPIRY (R308): 1 h after a TIME_SET. -/
def execTimeSetLockExpiry (s : State) : Host.Outcome State Fault Refusal :=
  let due := match s.clk.timeSetAt with | some t => s.past t 3600000000 | none => false
  doneIf (s.follows 2 && s.gn O.timeSyncState 0 == 2 && due)
    ((State.put { s with clk := { s.clk with timeSetAt := none } } O.timeSyncState 0 3).raise 0xD9 0) s

/-! ### Sessions (R296 to R298) -/

/-- R414: the current site key: the newest slot written and not revoked. -/
def State.siteKey (s : State) : Option (List Byte) :=
  match [3, 2, 1, 0].find? fun k => mhas s.otp.siteKeys k && !s.otp.revoked.contains k with
  | some k => some (mget [] s.otp.siteKeys k)
  | none => none

/-- R298: one authentication failure: counted, 0xD6; the fifth within 10 min locks authentication for 10 min and sets its
tamper indicator (R421). -/
def State.authFailure (s : State) (link : Nat) : State :=
  let l := (s.qlp.authFails.filter fun t => decide (s.mono < t + 600000000)) ++ [s.mono]
  let s : State := { s with qlp := { s.qlp with authFails := l } }
  let s := (s.bump O.authFailures 0).raise 0xD6 link
  if 5 ≤ l.length && s.qlp.lockoutAt.isNone then
    State.tamper { s with qlp := { s.qlp with authFails := [], lockoutAt := some (s.mono + 600000000) } } 2
  else s

/-- AUTH_LOCKOUT_END (R298). -/
def execAuthLockoutEnd (s : State) : Host.Outcome State Fault Refusal :=
  match s.qlp.lockoutAt with
  | none => done s
  | some t => doneIf (s.running && s.reached t) { s with qlp := { s.qlp with lockoutAt := none } } s

/-- SESSION_TIMEOUT (R298): 300 s without a tagged request. -/
def execSessionTimeout (s : State) : Host.Outcome State Fault Refusal :=
  match s.qlp.session with
  | none => done s
  | some x => doneIf (s.running && s.past x.taggedAt 300000000) s.sessionEnd s

/-- NONCE_EXPIRY (R296): 10 s for the SESSION_AUTH. -/
def execNonceExpiry (link : Fin 3) (src : Nat) (s : State) : Host.Outcome State Fault Refusal :=
  let late (n : Nonce) : Bool := n.link == link.val && n.node == src && s.past n.at' 10000000
  doneIf s.running { s with qlp := { s.qlp with nonces := s.qlp.nonces.filter fun n => !late n } } s

/-! ### Ends of transfers (R280, R294, R359) -/

/-- R280: the node ID changes: every transfer ends with 0x0605 and the session closes. -/
def State.nodeChange (s : State) : State := (s.abortTransfers 0x0605 fun _ => true).sessionEnd

/-- QLP_NODE_ID_WRITE (R280): takes effect once the response has been sent. -/
def execQlpNodeIdWrite (req : Req) (value : Nat) (s : State) : Host.Outcome State Fault Refusal :=
  if !s.running || !s.addressed req.dest then done s else
  let g := s.writeGate O.qlpNodeId 0 (s.authOk req)
  let s := s.tagSeen req
  let st := if g ≠ 0 then g else if value = 0 ∨ 126 < value ∨ (s.dup.mode ≠ 0 ∧ value = 1) then 0x0301 else 0
  let t := s.answerW req O.qlpNodeId 0 st
  .next (if st = 0 && value != s.nodeId then (t.put O.qlpNodeId 0 value).nodeChange else t)

end Sys2Proof.Machine
end

