-- ==== Sys2Proof/Machine/Fabric.lean ====
section
/-! DEFINITION. Sys2Proof/Machine/Fabric.lean: the estimator fabric (R119 to R139): clusters, queues, epochs, the cell update,
publication, rate steps and self-test. -/

namespace Sys2Proof.Machine

/-! ### Dispatch (R120, R125 to R127, R146, R154) -/

/-- R154: a published cell word is usable by the estimator: STALE, BLEED_DISTURBED, OW_TEST, UNVERIFIED and
MONITOR_FAULT all 0. -/
def State.usable (s : State) (c : Nat) : Bool :=
  let f := s.gn O.cellFlags c
  !(bit f 0 || bit f 2 || bit f 3 || bit f 8 || bit f 11) && !bit f 10

/-- R107: |2 mV × STACK − Σ cell words| within the tolerance. -/
def State.stackAgrees (s : State) (r p : Nat) : Bool :=
  let sum := ((s.channels r p).map fun ch => s.gn O.cellVoltage (s.cellOf r p ch)).sum
  decide (((20 * s.gn O.moduleStack (monKey r p) : Nat) - (sum : Nat) : Int).natAbs ≤ 10 * s.gn O.stackCheckTolerance 0)

/-- R100: a cell's word was delivered in the tally published last. -/
def State.freshWord (s : State) (c : Nat) : Bool := !bit (s.gn O.cellFlags c) 0

/-- R107: in mode 1 the residual of a cell: its change since the last tally less the median change of its module, over the
words delivered, whatever their flags. -/
def State.compatResid (s : State) (n p : Nat) : SMap Rat :=
  let ch (c : Nat) : Option Rat := match s.fab.prevWords.find? (fun e => e.1 == c) with
    | some e => if s.freshWord c then some ((s.gn O.cellVoltage c : Rat) - (e.2.1 : Rat)) else none
    | none => none
  let l := ((s.channels n p).map (s.cellOf n p)).filterMap fun c => (ch c).map fun d => (c, d)
  let m := medianQ (l.map fun e => e.2)
  l.map fun e => (e.1, e.2 - m)

/-- R170, R169: a newly learned capacity enters; q is scaled so that z is unchanged. DESIGN CHOICE (log entry 156): the
QB512-compatible charge is scaled with it. -/
def CellEst.enterCapacity (e : CellEst) : CellEst :=
  match e.capNext with
  | none => e
  | some c =>
    let k := if e.cap = 0 then 1 else c / e.cap
    { e with cap := c, capNext := none, capDefault := false, x := e.x.set 11 (e.x.getD 11 0 * k), compat := e.compat * k }

/-- The same change in the working and the published buffer of a cell (R128). -/
def State.estBoth (s : State) (c : Nat) (f : CellEst → CellEst) : State := (s.estUpd c f).pubUpd c f

/-- R146: mean of `StringCurrent` over the last second, A. -/
def State.meanAmps (s : State) (n : Nat) : Rat := s.meanSecond n / 1000

/-- EPOCH_DISPATCH (R120, R125, R126, R131): an epoch of a string whose tally is a multiple of the divider. -/
def State.dispatch (s : State) (n : Nat) : State :=
  let s := s.refreshEst n
  let t := s.gn O.acqTallyIndex n
  let ep := s.epoch n
  let d := s.divider n
  if ep.inFlight || t % d != 0 || [2, 4].contains (s.gn O.estimatorStringState n) || (s.fab.cluster).isEmpty then s else
  let cells := s.stringCells n
  let mode := s.gn O.estimationMode n
  let enter := mode = 0 ∧ (ep.init ∨ ep.mode = 1)
  let s := forEach cells s fun s c => s.estBoth c fun e =>
    let e := e.enterCapacity
    if enter then { e with due := true } else e
  let words : SMap Int := (cells.filter s.usable).map fun c => (c, (s.gi O.cellVoltage c) * 10 - (s.pub c).trim)
  let fresh : SMap Nat := (cells.filter s.freshWord).map fun c => (c, s.gn O.cellVoltage c)
  let us := ep.us
  let s := s.epochUpd n fun ep => { ep with
    inFlight := true, number := t, dispatchedAt := s.mono, tallyTime := s.fw.tallyTime, divider := d, left := cells.length,
    flightCharge := ep.charge, flightUs := ep.us, mode := mode, init := false, words := words, fresh := fresh,
    current := if us = 0 then 0 else (ep.charge : Rat) / (us : Rat) / 1000, sample := (s.gi O.stringCurrent n : Rat) / 1000,
    rate := s.meanAmps n, dt := (us : Rat) / 1000000, src := s.gn O.stringCurrentSource n,
    stackOk := (List.range (s.nMon n)).filter (s.stackAgrees n),
    resid := if mode = 1 then (List.range (s.nMon n)).flatMap (s.compatResid n) else [] }
  forEach cells s fun s c =>
    let k := s.clusterOf c
    { s with fab := { s.fab with queues := mset [] s.fab.queues k (mget [] s.fab.queues k ++ [(n, c)]) } }

/-- R130: sweep n + D of the string has completed (its index has been published), so the epoch's deadline has passed. -/
def State.deadlinePassed (s : State) (n : Nat) : Bool :=
  let ep := s.epoch n
  let d := tallyDiff ep.number (s.gn O.acqTallyIndex n)
  ep.inFlight && decide (ep.divider ≤ d) && decide (d < 2 ^ 31)

/-! ### The cell update (R119, R126, R127, R153 to R158, R172, R179) -/

/-- R127, R179: how many epochs make up a time, rounded up. -/
def epochsIn (us divider period : Nat) : Nat := (us + divider * period - 1) / (divider * period)

/-- R165: how long a normalised innovation has exceeded 5, and stayed below 2. DESIGN CHOICE (log entry 179): an epoch in which
the cell had no measurement update neither breaks nor stops these times. -/
def CellEst.judge (e : CellEst) (mono : Nat) : CellEst :=
  let hi := decide (5 < absQ e.ninn)
  let lo := decide (absQ e.ninn < 2)
  let e := { e with
    highSince := if hi then some (e.highSince.getD mono) else none
    lowSince := if lo then some (e.lowSince.getD mono) else none }
  let longer (o : Option Nat) : Bool := match o with | some t => decide (t + 60000000 ≤ mono) | none => false
  if !e.disagree && longer e.highSince then { e with disagree := true, anchorPending := true }
  else if e.disagree && longer e.lowSince then { e with disagree := false } else e

/-- R157, R180: the QB512-compatible charge of an initialised cell after an epoch's counted charge. -/
def CellEst.count (e : CellEst) (ep : Epoch) : CellEst :=
  if e.live then { e with compat := e.compat + ep.current * ep.dt / 3600 } else e

/-- R153, R155, R158, R180: the filter step of a mode-0 cell; the QB512-compatible charge is counted alongside, also while the
cell waits for the word that initialises its filter. -/
def State.filterStep (s : State) (n : Nat) (f : List Byte) (e : CellEst) (word : Option Rat) (ts : Rat) : CellEst :=
  let ep := s.epoch n
  let e := e.count ep
  if e.due then match word with
    | none => { e with reading := none, ts := ts }
    | some v => s.initCell f e v ts ep.rate ep.sample
  else
    let z := e.x.getD 11 0 / e.cap
    let pr := paramsAt f z (e.x.getD 10 0) (ep.rate / e.cap) e.gR e.gT
    let eff := f32 (s.gn O.coulombicEfficiency n)
    let tu := timeUpdate f e.x pr ep.current ep.dt ts e.cap (if 0 < ep.current then eff else 1)
    let p := covUpdate e.p tu.2 ((List.range 12).map fun k => s.noise n k ep.dt e.cap ep.src)
    let z' := tu.1.getD 11 0 / e.cap
    let pr' := paramsAt f z' (tu.1.getD 10 0) (ep.rate / e.cap) e.gR e.gT
    let m := predict f tu.1 pr' ep.sample e.cap
    let e := { e with x := tu.1, p := p, vhat := m.1, ocv := m.2.1, clamp := e.clamp || pr.clamp || pr'.clamp, ro := pr'.ro, ts := ts,
                      jac := lnJacobian f tu.1 pr ep.current (pr'.ro * ep.sample) (m.2.2.getD 10 0) ep.dt }
    match word with
    | none => { e with reading := none }
    | some v =>
      let u := measure e.x e.p m.2.2 v m.1 (s.sigmaV n)
      ({ e with x := u.1, p := u.2.1, nu := u.2.2.1, ninn := u.2.2.2, measured := true,
                reading := some ((v - (m.1 - pr'.ro * ep.sample)) / pr'.ro, pr'.ro) }).judge s.mono

/-- R141, R180: the step of a mode-1 cell: charge counting, OCV and core temperature. DESIGN CHOICE (log entry 153): without
the filter Tc is Ts. DEDUCED (log entry 159): CELL_DISAGREE, which the filter's innovations decide (R142), is clear. -/
def State.compatStep (s : State) (n : Nat) (f : List Byte) (e : CellEst) (word : Option Rat) (ts : Rat) : CellEst :=
  let ep := s.epoch n
  let ocvAt (e : CellEst) : Rat := lookup f 5 (clampQ 0 1 (e.compat / e.cap) * 10000) (ts * 100) 0
  if !e.live then match word with
    | none => { e with ts := ts }
    | some v => let e := s.initCell f e v ts ep.rate ep.sample; { e with ocv := ocvAt e, reading := none }
  else
    let e := e.count ep
    let z := e.compat / e.cap
    let pr := paramsAt f z ts (ep.rate / e.cap) e.gR e.gT
    let e := { e with x := (e.x.set 10 ts).set 11 e.compat, ts := ts, clamp := e.clamp || pr.clamp, ro := pr.ro,
                      reading := none, nu := 0, ninn := 0, highSince := none, lowSince := none, disagree := false }
    { e with ocv := ocvAt e }

/-- R177, R167: a cell's bounds in both directions and the three horizons. -/
def State.allBounds (s : State) (n : Nat) (f : List Byte) (e : CellEst) : CellEst :=
  let ep := s.epoch n
  let zf := if ep.mode = 1 then e.compat / e.cap else e.x.getD 11 0 / e.cap
  let zc := e.compat / e.cap
  let dis := ep.disagreement
  let zHi := if dis && decide (zf < zc) then zc else zf
  let zLo := if dis && decide (zc < zf) then zc else zf
  let l := [(true, 2), (true, 10), (true, 60), (false, 2), (false, 10), (false, 60)].map fun (d : Bool × Rat) =>
    s.cellBound n f e d.1 (if d.1 then zHi else zLo) d.2 ep.sample ep.rate ep.mode
  { e with bounds := l.map fun b => b.1, lin := l.map fun b => (b.2.1, b.2.2.1), clamp := e.clamp || l.any fun b => b.2.2.2 }

/-- R127: a cell's parameter filter runs in the epoch in flight; R179: its bounds are computed in it. -/
def State.cellTurn (s : State) (n c us : Nat) : Bool :=
  let ep := s.epoch n
  let m := epochsIn us ep.divider s.fw.period
  ep.number / ep.divider % m == s.clusterIndex c % m

/-- EU_UPDATE (R119): one complete update of a cell. -/
def State.cellUpdate (s : State) (n c : Nat) : CellEst :=
  let ep := s.epoch n
  let f := s.tableOf c
  let e := s.est c
  let word : Option Rat := (ep.words.find? fun w => w.1 == c).map fun w => (w.2 : Rat) / 100000
  let ts := s.surface c e.ts
  let e := { e with paramUpdated := false, stepUsed := none, measured := false, clamp := false, predictOnly := word.isNone,
                    inferred := ep.src == 2, none' := ep.src == 3, paramDt := if e.live then e.paramDt + ep.dt else 0 }
  let e := if ep.mode = 1 then s.compatStep n f e word ts else s.filterStep n f e word ts
  if !e.live then e else
  let e := if s.cellTurn n c 10000 then
      s.paramRun e ((s.fab.steps.find? fun x => x.1 == c).map fun x => x.2) word (s.sigmaV n) ep.mode
    else e
  if s.cellTurn n c 100000 then s.allBounds n f e else e

/-- R123, R146: the tables that the update of a cell looks up: its parameters, the electrode curves in mode 0, and the OCV
table where it is initialised, in mode 1 and where its bounds are computed. -/
def State.tablesUsed (s : State) (n c : Nat) : List Nat :=
  let ep := s.epoch n
  let live := (s.est c).live
  let new := !live || (ep.mode != 1 && (s.est c).due)
  let turn := s.cellTurn n c 100000
  if new && !(ep.words.any fun w => w.1 == c) && !(live && turn) then [] else
  [0x10, 0x11, 0x12, 0x13, 0x14, 0x15, 0x16, 0x17, 0x18, 0x20, 0x21, 0x22, 0x23] ++
    (if ep.mode = 1 then [] else [0x01, 0x02, 0x03, 0x04]) ++
    (if ep.mode = 1 || new || turn then [0x05] else [])

/-- R21, R123: the update of a cell passes through its cluster's table cache, and its misses are counted. -/
def State.cellTables (s : State) (n c : Nat) : State :=
  let k := s.clusterOf c
  let r := (cacheEntries (s.tableOf c) (s.setOf c) (s.tablesUsed n c)).foldl cacheUse (mget [] s.fab.cache k, 0)
  let s : State := { s with fab := { s.fab with cache := mset [] s.fab.cache k r.1 } }
  if r.2 = 0 then s else s.put O.tableCacheMisses k (s.gi O.tableCacheMisses k + r.2)

/-! ### Publication (R128, R158, R165, R176 to R180) -/

/-- R10: a rounded value held within a scalar's range. -/
def satQ (lo hi : Int) (q : Rat) : Int := clampI lo hi (roundQ q)

/-- Table 5-7: `CellEstFlags` of an estimated cell. -/
def CellEst.flags (e : CellEst) (mode : Nat) : Nat :=
  word [false, mode == 1, e.none', e.inferred, e.anchorPending, e.clamp, e.capDefault, e.disagree, e.short]

/-- R176, R182: the published results of one cell. -/
def State.publishCell (s : State) (n c : Nat) : State :=
  let e := s.pub c
  let ep := s.epoch n
  if !e.live then
    (s.put O.cellEpochFlags c (word [e.predictOnly, e.reinit, e.paramUpdated] : Nat)).put O.cellEstFlags c (e.flags ep.mode : Nat)
  else
  let z := (if ep.mode = 1 then e.compat else e.x.getD 11 0) / e.cap
  let sg := sqrtQ ((e.p.getD 11 []).getD 11 0) / e.cap
  let f := s.tableOf c
  let u16 : Rat → Int := satQ 0 65535
  let i16 : Rat → Int := satQ (-32768) 32767
  let u32 : Rat → Int := satQ 0 4294967295
  let l : List (Nat × Int) := [
    (O.cellSoc, i16 (z * 10000)), (O.cellSocSigma, u16 (sg * 10000)), (O.cellCoreTemp, i16 (e.x.getD 10 0 * 100)),
    (O.cellOcv, u16 (e.ocv * 10000)), (O.cellCapacity, u32 (e.cap * 1000)), (O.cellSohCapacity, u16 (e.cap / cNom f * 10000)),
    (O.cellSohResistance, u16 (e.gR * 10000)), (O.cellResidual, i16 (e.nu * 10000)), (O.cellNormInnovation, i16 (e.ninn * 100)),
    (O.cellLeakExcess, satQ (-2147483648) 2147483647 (e.leak * 1000000)), (O.cellEstFlags, (e.flags ep.mode : Nat)),
    (O.compatSoc, i16 (e.compat / e.cap * 10000)), (O.cellTrim, e.trim),
    (O.cellEpochFlags, (word [e.predictOnly, e.reinit, e.paramUpdated] : Nat))]
  (forEach l s fun s v => s.put v.1 c v.2).putL O.cellModelState c (e.x.map fun q => (toF32 q : Int))

/-- The estimated cells (R142) of a string that have been initialised (R155): those with results. -/
def State.liveCells (s : State) (n : Nat) : List Nat := (s.stringCells n).filter fun c => (s.pub c).live

/-- Smallest and largest of a list. -/
def minQ (l : List Rat) : Rat := l.foldl (fun a b => if b < a then b else a) (l.headD 0)

/-- Largest of a list. -/
def maxQ (l : List Rat) : Rat := l.foldl (fun a b => if a < b then b else a) (l.headD 0)

/-- R176, R180: the string's state-of-charge and state-of-health results. -/
def State.publishSoc (s : State) (n : Nat) : State :=
  let cs := (s.liveCells n).map s.pub
  if cs.isEmpty then s else
  let ep := s.epoch n
  let q (e : CellEst) : Rat := if ep.mode = 1 then e.compat else e.x.getD 11 0
  let caps := (cs.map fun e => e.cap).sum
  let z := cs.map fun e => q e / e.cap
  let zc := cs.map fun e => e.compat / e.cap
  let nom := (s.liveCells n).map fun c => (s.pub c).cap / cNom (s.tableOf c)
  let i16 : Rat → Int := satQ (-32768) 32767
  let l : List (Nat × Int) := [
    (O.stringSocMean, i16 ((cs.map q).sum / caps * 10000)), (O.stringSocMin, i16 (minQ z * 10000)),
    (O.stringSocMax, i16 (maxQ z * 10000)), (O.stringSohCapacity, satQ 0 65535 (minQ nom * 10000)),
    (O.stringSohResistance, satQ 0 65535 (maxQ (cs.map fun e => e.gR) * 10000)),
    (O.compatStringSocMin, i16 (minQ zc * 10000)),
    (O.compatStringSocMean, i16 ((cs.map fun e => e.compat).sum / caps * 10000)),
    (O.compatCountedCharge, (ep.counted - ep.anchor) / 1000000), (O.compatAnchorTime, (ep.anchorTime : Nat))]
  (forEach l s fun s v => s.put v.1 n v.2).strUpd n fun x => { x with
    rUohm := (roundQ ((cs.map fun e => e.ro).sum * 1000000)).toNat }

/-- R158: the weighted mean after discarding the tenth of the readings furthest from their median. -/
def inferredOf (l : List (Rat × Rat)) : List (Rat × Rat) × Rat :=
  let m := medianQ (l.map fun e => e.1)
  let far := l.mergeSort fun a b => decide (absQ (a.1 - m) ≤ absQ (b.1 - m))
  let keep := far.take (l.length - l.length / 10)
  let w := (keep.map fun e => e.2 * e.2).sum
  (keep, if w = 0 then 0 else (keep.map fun e => e.1 * (e.2 * e.2)).sum / w)

/-- R158, R142: `InferredCurrent` and its validity. -/
def State.publishInferred (s : State) (n : Nat) : State :=
  let l := (s.liveCells n).filterMap fun c => if (s.pub c).predictOnly then none else (s.pub c).reading
  let r := inferredOf l
  let ok := (s.epoch n).mode == 0 && decide (16 ≤ r.1.length) && decide ((s.stringCells n).length ≤ 2 * r.1.length) &&
    decide (s.stringCap n < 20000 * absQ r.2)
  if ok then (s.put O.inferredCurrent n (satQ (-2147483648) 2147483647 (r.2 * 1000))).put O.inferredCurrentValid n 1
  else s.put O.inferredCurrentValid n 0

/-- R178: the published limits of one direction and horizon. DESIGN CHOICE (log entry 183): the current limit is rounded down to
whole mA, as the rule rounds the power limit. -/
def State.publishLimit (s : State) (n : Nat) (charge : Bool) (h : Nat) : State :=
  let cs := (s.liveCells n).map s.pub
  let k := (if charge then 0 else 3) + h
  let b := cs.map fun e => absQ (e.bounds.getD k 0)
  let cap : Rat := (s.gn O.stringCurrentCap n : Rat) / 1000
  let lo := if cs.isEmpty then 0 else minQ b
  let d : Rat := (s.gn (if charge then O.derateCharge else O.derateDischarge) n : Rat) / 10000
  let i := ((if cap < lo then cap else lo) * d * 1000).floor
  let sg : Rat := (if charge then (i : Rat) else -(i : Rat)) / 1000
  let v := (cs.map fun e => let a := e.lin.getD k (0, 0); a.1 + a.2 * sg).sum
  let w := (v * ((i : Rat) / 1000)).floor
  (s.put (if charge then O.chargeCurrentLimit else O.dischargeCurrentLimit) (n * 3 + h) i).put
    (if charge then O.chargePowerLimit else O.dischargePowerLimit) (n * 3 + h) (clampI 0 4294967295 w)

/-- R165: a counted epoch `us` after the epoch before it: the time for which a condition has held in every one of them. -/
def heldFor (since : Option Nat) (holds : Bool) (us : Nat) : Option Nat :=
  if holds then some (match since with | some t => t + us | none => 0) else none

/-- R165, R167, R142: the median innovation of an epoch that counts; the time of one that does not is left out. A string
leaves disagreement once re-anchored and calm for 60 s, and in mode 1. -/
def State.judgeMedian (s : State) (n : Nat) : State :=
  let l := ((s.liveCells n).filter fun c => (s.pub c).measured).map fun c => (s.pub c).ninn
  let now := s.elapsed
  s.epochUpd n fun ep =>
    if ep.mode = 1 then { ep with medianUs := none, calmUs := none, disagreement := false, auditAgain := false, judgedAt := now }
    else if 2 * l.length < (s.stringCells n).length || l.isEmpty then { ep with judgedAt := now }
    else
      let m := medianQ l
      let pos := decide (0 < m)
      let us := now - ep.judgedAt
      let calm := heldFor ep.calmUs (decide (absQ m ≤ 2)) us
      { ep with
        medianUs := heldFor (if ep.medianPos == pos then ep.medianUs else none) (decide (5 < absQ m)) us
        medianPos := pos, calmUs := calm, judgedAt := now
        disagreement := ep.disagreement && !(ep.reanchored && (match calm with | some t => decide (60000000 ≤ t) | none => false)) }

/-- R129, R182: the results of a string that the estimator keeps between swaps are published with the epoch. -/
def State.publishJudged (s : State) (n : Nat) : State :=
  let seen (k : Nat) : Nat := if (s.chan k).implausible then 2 else b2n (s.chan k).windowed
  (((s.put O.stringDisagreement n (b2n (s.epoch n).disagreement : Nat)).put O.stringAtRest n (b2n (s.rest n).since.isSome : Nat)).put
    O.currentPlausibility (n * 2) (seen (n * 2))).put O.currentPlausibility (n * 2 + 1) (seen (n * 2 + 1))

/-- R107: the open-wire signature of an epoch at every node of the string, over every word delivered in its tally. -/
def State.signatures (s : State) (n : Nat) : State :=
  let ep := s.epoch n
  let l : Rat := (s.gn O.openWireSignatureLevel 0 : Rat) * 10
  let e (c : Nat) : Option Rat :=
    if ep.mode = 1 then (ep.resid.find? fun x => x.1 == c).map fun x => x.2
    else match ep.fresh.find? fun w => w.1 == c with
      | some w => if (s.pub c).due then none else some ((w.2 : Rat) - (s.pub c).vhat * 10000)
      | none => none
  forEach (s.stringCells n) s fun s c =>
    let hit := match e c, e (c + 1) with
      | some a, some b =>
        ((decide (a ≤ -l) && decide (l ≤ b)) || (decide (l ≤ a) && decide (b ≤ -l))) && decide (absQ (a + b) ≤ l / 5) &&
          ep.stackOk.contains (s.monitorOf c) && ep.stackOk.contains (s.monitorOf (c + 1)) &&
          decide ((s.nodeCells c).length = 2)
      | _, _ => false
    s.cellUpd c fun x => { x with signature := if hit then x.signature + 1 else 0 }

/-- R30: operations that a region has completed. -/
def State.addOps (s : State) (g n : Nat) : State :=
  { s with fab := { s.fab with ops := mset 0 s.fab.ops g (mget 0 s.fab.ops g + n) } }

/-- R119, R127: FLOP of one cell update, and of one run of the parameter filter (the worked example's costs). -/
def updateOps (param : Bool) : Nat := if param then 34450 else 12450

/-- R30: an epoch has ended: the operations of each region and of the die, GFLOP/s, over the time that the last 100 epochs
span. DESIGN CHOICE (log entry 124): every operation of that time counts, whatever it was for, and so do abandoned epochs. -/
def State.throughput (s : State) : State :=
  let l := ((s.mono, mget 0 s.fab.ops 0, mget 0 s.fab.ops 1) :: s.fab.marks).take 101
  let s : State := { s with fab := { s.fab with marks := l } }
  let a := l.getLastD (0, 0, 0)
  let us := s.mono - a.1
  let rate (n : Nat) : Int := (toF32 (if us = 0 then 0 else (n : Rat) / (us : Rat) / 1000) : Nat)
  let r0 := mget 0 s.fab.ops 0 - a.2.1
  let r1 := mget 0 s.fab.ops 1 - a.2.2
  ((s.put O.fabricThroughput 0 (rate (r0 + r1))).put O.fabricThroughput 1 (rate r0)).put O.fabricThroughput 2 (rate r1)

/-- R440: residuals of the last 10 s. -/
def CellEst.addResidual (e : CellEst) (mono : Nat) : CellEst :=
  if !e.measured then e
  else { e with residuals := ((mono, e.nu) :: e.residuals).filter fun r => decide (mono < r.1 + 10000000) }

/-- EPOCH_PUBLISH (R128, R132, R199): the last cell update of the epoch has completed in time: the buffers swap. The string runs
again, unless it is paused or stopped; its published limits become its applied ones. -/
def State.publishEpoch (s : State) (n : Nat) : State :=
  let ep := s.epoch n
  let cells := s.stringCells n
  let dur := s.mono - ep.dispatchedAt
  let s := forEach cells s fun s c =>
    let e := (s.est c).addResidual s.mono
    let s := s.pubUpd c fun _ => { e with reinit := s.fab.reinit.contains c }
    s.estUpd c fun _ => e
  let s : State := { s with fab := { s.fab with
    reinit := s.fab.reinit.filter fun c => !cells.contains c,
    steps := s.fab.steps.filter fun x => cellRing x.1 != n || (s.pub x.1).stepUsed != some x.2.1 } }
  let durs := ((s.mono, dur) :: ep.durations).filter fun e => decide (s.mono < e.1 + 10000000)
  let s := s.epochUpd n fun e => { e with
    inFlight := false, charge := e.charge - e.flightCharge, us := e.us - e.flightUs,
    publishedAt := some s.mono, durations := durs }
  let slow := decide (3 * ep.divider * s.fw.period < 10 * dur)
  let s := s.regionUpd (n / 2) fun x => { x with okSince := if slow then s.mono else x.okSince }
  let l : List (Nat × Int) := [
    (O.epochNumber, (ep.number : Nat)), (O.epochTime, (ep.tallyTime : Nat)), (O.epochDuration, (dur : Nat)),
    (O.epochDurationMax, ((durs.map fun e => e.2).foldl max 0 : Nat))]
  let s := forEach l s fun s v => s.put v.1 n v.2
  let s := if [2, 4].contains (s.gn O.estimatorStringState n) then s else s.put O.estimatorStringState n 1
  let s := forEach cells s fun s c => s.publishCell n c
  let s := (((s.publishSoc n).publishInferred n).judgeMedian n).publishJudged n
  let s := forEach [0, 1, 2] s fun s h => (s.publishLimit n true h).publishLimit n false h
  ((s.setAppliedOf n).signatures n).throughput

/-! ### An epoch that ends without a swap (R130, R131) -/

/-- An estimator unit holds an item of a string. -/
def State.claimed (s : State) (n : Nat) : Bool :=
  s.fab.eus.any fun e => match e.2.item with | some i => i.1 == n | none => false

/-- R130 steps 3 and 4, R131, R133: once no unit holds an item of the epoch, the working buffer is reloaded from the
published one; an abandoned epoch raises 0x60 + n, is counted, moves the region's load step one slower, and the epoch due
is dispatched. -/
def State.drained (s : State) (n : Nat) : State :=
  let ep := s.epoch n
  if ep.ending = .none || s.claimed n then s else
  let s := forEach (s.stringCells n) s fun s c => s.estUpd c fun _ => s.pub c
  let s := s.epochUpd n fun ep => { ep with inFlight := false, ending := .none }
  if ep.ending = .paused then s else
  let s := (s.bump O.abandonedEpochs n).raise (0x60 + n) 0
  ((s.regionUpd (n / 2) fun x => { x with load := min 2 (x.load + 1), okSince := s.mono }).throughput).dispatch n

/-- R130 steps 1 and 2: the epoch's remaining items leave the queues; those claimed finish into the working buffer. -/
def State.endEpoch (s : State) (n : Nat) (why : Ending) : State :=
  let s : State := { s with fab := { s.fab with
    queues := s.fab.queues.filterMap fun q =>
      let l := q.2.filter fun i => i.1 != n
      if l.isEmpty then none else some (q.1, l) } }
  (s.epochUpd n fun ep => { ep with ending := why, endAt := s.mono }).drained n

/-- The items of a string that units still hold are discarded. -/
def State.dropItems (s : State) (n : Nat) : State :=
  { s with fab := { s.fab with
    eus := s.fab.eus.filterMap fun e =>
      let x := match e.2.item with | some i => if i.1 = n then { e.2 with item := none } else e.2 | none => e.2
      if x = {} then none else some (e.1, x) } }

/-- R131, R42: the epochs in flight of the strings that a set pauses end without a swap; they are not abandoned (DESIGN
CHOICE, log entry 125). -/
def State.pauseEpochs (s : State) : State :=
  forEach (s.strings.filter fun n => s.setMissing n && (s.epoch n).inFlight && (s.epoch n).ending == Ending.none) s fun s n =>
    s.endEpoch n .paused

/-! ### The units (R119 to R121, R138) -/

/-- R120: cluster of an EU. -/
def euCluster (e : Nat) : Nat := e / 8

/-- R30, Table 1-5: no unit runs faster than 1.8 GFLOP/s (the fastest corner), so that an update cannot be complete before its
region's fabric, at the duty of R432, has run for its operations at that rate (DEDUCED, log entry 171). -/
def State.euRan (s : State) (e n c : Nat) : Bool :=
  let ran := (s.region (e / 32)).ran - (s.eu e).claimRan
  decide (updateOps (s.cellUpdate n c).paramUpdated ≤ ran * 18)

/-- EU_WORK_ITEM_CLAIM (R120): an idle EU in service claims the head of its cluster's queue. -/
def execEuWorkItemClaim (eu : Fin 64) (s : State) : Host.Outcome State Fault Refusal :=
  let e := s.eu eu.val
  let k := euCluster eu.val
  match mget [] s.fab.queues k with
  | [] => done s
  | i :: is =>
    doneIf (s.cd && !e.retired && e.item.isNone)
      (State.euUpd { s with fab := { s.fab with queues := mset [] s.fab.queues k is } } eu.val fun e =>
        { e with item := some i, claimRan := (s.region (eu.val / 32)).ran }) s

/-- R121: the EU is retired: its cell is reloaded from its published state and its item goes back to the head of the
queue, unless the item's epoch is ending (R130); 0x66 + region. -/
def State.retireEu (s : State) (e : Nat) : State :=
  let item := (s.eu e).item
  let s := match item with
    | none => s
    | some i =>
      let k := euCluster e
      let s := s.estUpd i.2 fun _ => s.pub i.2
      if (s.epoch i.1).ending = Ending.none then
        { s with fab := { s.fab with queues := mset [] s.fab.queues k (i :: mget [] s.fab.queues k) } }
      else s
  let s := s.euUpd e fun x => { x with retired := true, item := none }
  let s := (s.put O.euState e 1).raise (0x66 + e / 32) e
  match item with | some i => s.drained i.1 | none => s

/-- R119, R128, R130: the write-back of a finished cell update; the last one of an epoch publishes it. -/
def State.writeBack (s : State) (e n c : Nat) : State :=
  let new := s.cellUpdate n c
  let t := ((s.euUpd e fun e => { e with item := none }).estUpd c fun _ => new).epochUpd n fun ep => { ep with left := ep.left - 1 }
  let t := t.addOps (e / 32) (updateOps new.paramUpdated)
  if (t.epoch n).ending ≠ .none then t.drained n
  else if (t.epoch n).left = 0 && !t.deadlinePassed n then t.publishEpoch n else t

/-- EU_UPDATE_COMPLETE (R119, R121, R123, R128): what `State.writeBack` does; a residue failure retires the EU. -/
def execEuUpdateComplete (eu : Fin 64) (residueOk : Bool) (s : State) : Host.Outcome State Fault Refusal :=
  match (s.eu eu.val).item with
  | none => done s
  | some (n, c) =>
    let t := s.cellTables n c
    doneIf (s.cd && !(s.eu eu.val).retired && (!residueOk || s.euRan eu.val n c))
      (if residueOk then t.writeBack eu.val n c else t.retireEu eu.val) s

/-- EU_HANDSHAKE_TIMEOUT (R121). -/
def execEuHandshakeTimeout (eu : Fin 64) (s : State) : Host.Outcome State Fault Refusal :=
  doneIf (s.cd && !(s.eu eu.val).retired) (s.retireEu eu.val) s

/-- FABRIC_KNOWN_ANSWER_TEST (R138): once per second in an EU's idle time between epochs; a failure retires it. -/
def execFabricKnownAnswerTest (eu : Fin 64) (pass : Bool) (s : State) : Host.Outcome State Fault Refusal :=
  let e := s.eu eu.val
  let t := ((s.euUpd eu.val fun e => { e with katAt := some s.mono }).ranWork 4).addOps (eu.val / 32) (updateOps false)
  let due := match e.katAt with | some a => s.past a 1000000 | none => true
  doneIf (s.cd && !e.retired && e.item.isNone && (mget [] s.fab.queues (euCluster eu.val)).isEmpty && due)
    (if pass then t else t.retireEu eu.val) s

/-- EPOCH_DEADLINE (R130): the deadline has passed, and the epoch ends; the epoch due at the same tally is dispatched as soon
as the working buffer has been reloaded. DESIGN CHOICE (log entry 126): an item still claimed 20 µs later is discarded. -/
def execEpochDeadline (string : Fin 4) (s : State) : Host.Outcome State Fault Refusal :=
  let n := string.val
  let ep := s.epoch n
  let t := if ep.ending = .none then s.endEpoch n .abandoned
    else if s.past ep.endAt 20 then (s.dropItems n).drained n else s
  doneIf (s.running && s.has n && s.deadlinePassed n) t s

/-- ESTIMATION_HELD (R132): the age of the last publication exceeds `EstimatorMaxAge`; 0x68 + n. -/
def execEstimationHeld (string : Fin 4) (s : State) : Host.Outcome State Fault Refusal :=
  let n := string.val
  let old := match (s.epoch n).publishedAt with
    | some t => decide (t + s.gn O.estimatorMaxAge n * 1000 < s.mono) | none => false
  doneIf (s.running && s.has n && s.gn O.estimatorStringState n == 1 && old)
    ((s.put O.estimatorStringState n 3).raise (0x68 + n) 0) s

/-- RATE_STEP_UP (R133): the conditions have held for 10 s; the load step moves one step faster. -/
def execRateStepUp (region : Fin 2) (s : State) : Host.Outcome State Fault Refusal :=
  let g := region.val
  let l := (s.region g).load
  doneIf (s.running && l != 0 && s.past (s.region g).okSince 10000000 && decide (s.thermalStep g < l) &&
      decide (s.gn O.estimatorRateLimit g < l))
    (s.regionUpd g fun x => { x with load := x.load - 1, okSince := s.mono }) s

/-- R138, R136: the self-test can run: the device is READY, and no reset of the compute die waits (a firmware activation,
R375). -/
def State.selfTestRuns (s : State) : Bool := s.ready && s.fw.activating.isNone

/-- R138: the requested self-test completes: STATUS, the EUs that failed, and those retired now. -/
def State.selfTested (s : State) (q st : Nat) (bad : List Nat) : State :=
  let mask (l : List Nat) : Nat := (l.map fun e => 2 ^ e).sum
  let ret := (List.range 64).filter fun e => (s.eu e).retired
  s.shotDone 1 O.fabricSelfTestResult [(q : Nat), (st : Nat), (mask bad : Nat), (mask ret : Nat)]

/-- FABRIC_SELF_TEST_REQUEST (R138, R135, R136): bits 15 to 0 are reserved. -/
def State.fabricTest (s : State) (v : Nat) : State × Nat :=
  match s.shotGate 1 v (v % 65536 != 0) with
  | some st => refuse s st
  | none =>
    if v / 65536 = 0 then refuse s 0x0301
    else
      let s := s.shotStart 1 (v / 65536) 0
      accept (if s.selfTestRuns then s else s.selfTested (v / 65536) 2 [])

/-- FABRIC_SELF_TEST_REQUEST (R138). -/
def execFabricSelfTestRequest (req : Req) (value : BitVec 32) (s : State) : Host.Outcome State Fault Refusal :=
  s.request req O.fabricSelfTestRequest 0 fun s => s.fabricTest value.toNat

/-- R138: the EUs that a requested test checks: those not retired. -/
def State.testedEus (s : State) : List Nat := (List.range 64).filter fun e => !(s.eu e).retired

/-- R138: the known-answer test of every EU not retired; those in `bad` fail and are retired. -/
def State.checkEus (s : State) (bad : List Nat) : State :=
  forEach bad (forEach s.testedEus s fun s e => s.addOps (e / 32) (updateOps false)) State.retireEu

/-- FABRIC_SELF_TEST_DONE (R138, R136): the known-answer test of every EU in service; a failure retires it. Where the device
is no longer READY, the test does not run. -/
def execFabricSelfTestDone (failed : BitVec 64) (s : State) : Host.Outcome State Fault Refusal :=
  match (s.shot 1).pending with
  | none => done s
  | some (q, _) =>
    let bad := s.testedEus.filter fun e => failed.getLsbD e
    doneIf s.running
      (if s.selfTestRuns then (s.checkEus bad).selfTested q (if bad.isEmpty then 0 else 1) bad else s.selfTested q 2 []) s

end Sys2Proof.Machine
end

