-- ==== Sys2Proof/Machine/Estimation.lean ====
section
/-! DEFINITION. Sys2Proof/Machine/Estimation.lean: charge counting per tally (R157), rest points (R162 to R164), disagreement
and audits (R159, R165, R166), capacity learning (R168 to R170), impedance steps (R171, R173), internal shorts (R174,
R175) and offset trims (R440). -/

namespace Sys2Proof.Machine

/-! ### What every published tally adds (R126, R157, R159, R163, R168) -/

/-- R168: charge that a planned bleed removes in a tally, A·h: v / `BleedResistance` × T × 0.94. -/
def State.bleedCharge (s : State) (c : Nat) : Rat :=
  let v : Rat := (s.gn O.cellVoltage c : Rat) / 10000
  let r : Rat := (s.gn O.bleedResistance (cellRing c) : Rat) / 10
  v / r * (s.fw.period : Rat) / 1000000 / 3600 * 47 / 50

/-- R163, R168: one tally of a cell: its usable words of the last 10 s, its bleed, its runs of stale words. -/
def State.cellTally (s : State) (c : Nat) : State :=
  let w := if s.usable c then some (s.gn O.cellVoltage c) else none
  let stale := bit (s.gn O.cellFlags c) 0
  let q := s.bleedCharge c
  s.cellUpd c fun x =>
    let long := match x.staleSince with | some t => decide (t + 10000000 < s.mono) | none => false
    { x with
      recent := ((s.mono, w) :: x.recent).filter fun e => decide (s.mono < e.1 + 10000000)
      bled := if x.bleedOn then x.bled + q else x.bled
      staleRuns := if !stale && long then x.staleRuns + 1 else x.staleRuns
      staleSince := if stale then some (x.staleSince.getD s.mono) else none }

/-- R162: mean of |`StringCurrent`| over the last second, mA. -/
def State.meanAbs (s : State) (n : Nat) : Rat :=
  let l := (s.lastSecond n).map Int.natAbs
  if l.isEmpty then 0 else (l.sum : Rat) / (l.length : Rat)

/-- R162: the string is at rest. -/
def State.atRest (s : State) (n : Nat) : Bool :=
  decide (s.gn O.stringCurrentSource n ≤ 1) &&
    decide (s.meanAbs n ≤ (s.gn O.restCurrentLimit 0 : Rat) * s.stringCap n / 1000)

/-- R162: the median change of the cells' words over the last 10 min is within `RestDriftLimit`. -/
def State.driftOk (s : State) (n : Nat) : Bool :=
  match (s.rest n).samples.find? fun e => s.past e.1 600000000 with
  | none => false
  | some (_, old) =>
    let l := (s.liveCells n).filterMap fun c => (old.find? fun e => e.1 == c).map fun e =>
      absQ ((s.gn O.cellVoltage c : Rat) - (e.2 : Rat))
    decide (medianQ l * 10 ≤ (s.gn O.restDriftLimit 0 : Rat))

/-- R162: rest detection in one tally. -/
def State.restTally (s : State) (n : Nat) : State :=
  let x := s.rest n
  let rest := s.atRest n
  let sourced := decide (s.gn O.stringCurrentSource n ≤ 1)
  let gap := x.acqAt != 0 && decide (x.acqAt + 10000000 < s.mono)
  let words : SMap Nat := (s.stringCells n).map fun c => (c, s.gn O.cellVoltage c)
  let (late, old) := x.samples.span fun e => decide (s.mono < e.1 + 600000000)
  let since := if rest then some (x.since.getD s.mono) else none
  let long := match since with | some t => s.past t (s.gn O.restMinDuration 0 * 1000000) | none => false
  let qual := if x.qualified.isSome then (if !rest && x.formed then none else x.qualified)
    else if long && s.driftOk n then some s.mono else none
  s.restUpd n fun y => { y with
    since := since, qualified := qual, formed := y.formed && qual.isSome, samples := (s.mono, words) :: (late ++ old.take 1),
    tallies := y.tallies + 1, sourced := y.sourced + b2n sourced, gaps := y.gaps + b2n gap, acqAt := s.mono }

/-- The entries of a list by local time that lie less than 60 s back. -/
def State.lastMinute {α : Type} (s : State) (l : List (Nat × α)) : List (Nat × α) :=
  l.filter fun e => decide (s.mono < e.1 + 60000000)

/-- R159, R166: a tally in which the inferred current is available enters the 1 s windows and the audit's 60 s. DESIGN CHOICE
(log entry 157): a tally in which a channel delivered no sample is left out of that channel's mean only. -/
def State.windowTally (s : State) (n : Nat) : State :=
  if !s.gb O.inferredCurrentValid n || (s.epoch n).mode == 1 then s else
  let i := s.gi O.inferredCurrent n
  let f := mget (0, 0) s.fab.infSum n
  let s : State := { s with fab := { s.fab with
    infSum := mset (0, 0) s.fab.infSum n (f.1 + i, f.2 + 1)
    infMinute := mset [] s.fab.infMinute n (s.lastMinute ((s.mono, s.fw.period) :: mget [] s.fab.infMinute n)) } }
  forEach [n * 2, n * 2 + 1] s fun s k => s.chanUpd k fun c =>
    if c.delivered then { c with
      winSum := c.winSum + c.mean, winCnt := c.winCnt + 1, minute := s.lastMinute ((s.mono, c.mean, i) :: c.minute) } else c

/-! ### Current steps (R171, R173) -/

/-- R171, R173: the change from tally n − 1 to this one, if it qualifies: measured resistances per cell, Ω. -/
def State.stepOf (s : State) (n : Nat) : Option (Int × List (Nat × Rat)) :=
  match s.fab.prevCurrent.find? fun e => e.1 == n && (e.2.1 + 1) % 2 ^ 32 == s.fw.tally with
  | none => none
  | some (_, _, i0, src0) =>
    let i1 := s.gi O.stringCurrent n
    let di := i1 - i0
    let cells := s.stringCells n
    let fresh := cells.all fun c => !bit (s.gn O.cellFlags c) 0
    let big := decide ((s.gn O.impedanceStepMin 0 : Rat) * s.stringCap n ≤ (di.natAbs : Rat) * 1000) && di != 0
    if fresh && big && decide (src0 ≤ 1) && decide (s.gn O.stringCurrentSource n ≤ 1) then
      some (di, cells.filterMap fun c => match s.fab.prevWords.find? fun e => e.1 == c with
        | some e => if s.usable c && e.2.2 then some (c, ((s.gn O.cellVoltage c : Rat) - (e.2.1 : Rat)) / 10 / (di : Rat)) else none
        | none => none)
    else none

/-- R173: `ImpedanceSnapshotResult` at the first qualifying step of the string asked for. DESIGN CHOICE (log entry 180): a
measured resistance below 0 is reported as 0. -/
def State.snapshot (s : State) (n : Nat) (di : Int) (l : List (Nat × Rat)) : State :=
  match (s.shot 3).pending with
  | none => s
  | some (q, t) =>
    if t % 4 ≠ n then s else
    let res : List Int := (List.range 512).map fun p => match l.find? fun e => e.1 == n * 512 + p with
      | some e => satQ 0 65535 (e.2 * 1000000)
      | none => 0
    s.shotDone 3 O.impedanceSnapshotResult ([(q : Int), (t : Nat), 0, (s.fw.tally : Nat), di] ++ res)

/-- R171: a qualifying step is held for each cell's next parameter filter run, with the table's r_o at that step. -/
def State.stepTally (s : State) (n : Nat) : State :=
  let s : State := match s.stepOf n with
    | none => s
    | some (di, l) =>
      let held : List (Nat × Rat × Rat) := l.map fun (e : Nat × Rat) =>
        let x := s.pub e.1
        let f := s.tableOf e.1
        (e.1, e.2, if x.live then (paramsAt f (x.x.getD 11 0 / x.cap) (x.x.getD 10 0) (s.meanAmps n / x.cap) 1 1).ro0 else 0)
      let s : State := { s with fab := { s.fab with
        steps := held.foldl (fun m e => if e.2.2 = 0 then m else mins m e.1 (s.fw.tally, e.2)) s.fab.steps } }
      s.snapshot n di l
  let cells : List Nat := s.stringCells n
  let fresh := cells.all fun c => !bit (s.gn O.cellFlags c) 0
  let cur : Nat × Int × Int := (s.fw.tally, s.gi O.stringCurrent n, s.gi O.stringCurrentSource n)
  { s with fab := { s.fab with
    prevCurrent := if fresh then mins s.fab.prevCurrent n cur else mdel s.fab.prevCurrent n
    prevWords := (s.fab.prevWords.filter fun e => cellRing e.1 < n) ++
      ((cells.filter s.freshWord).map fun c => (c, s.gn O.cellVoltage c, s.usable c)) ++
      s.fab.prevWords.filter fun e => decide (n < cellRing e.1) } }

/-- What a published tally adds to the estimation of a string, before its epoch is dispatched. -/
def State.estTally (s : State) (n : Nat) : State :=
  ((forEach (s.stringCells n) s State.cellTally).windowTally n).restTally n

/-! ### Plausibility of the channels (R159, R166) -/

/-- R159: the tolerance, mA. -/
def plausTol (inf : Rat) : Rat := 2 * (absQ inf * 3 / 100 + 2000)

/-- R159: a channel is judged implausible. -/
def State.implausible (s : State) (k : Nat) : State :=
  if (s.chan k).implausible then s else
  (s.chanUpd k fun c => { c with implausible := true, winPass := 0 }).raise (0x6C + k / 2) (k % 2)

/-- R159: one window of one channel. A window that does not count breaks a run of passes, which must count and pass, and
leaves a run of failures as it is (DESIGN CHOICE, log entry 127). -/
def State.windowChannel (s : State) (n k : Nat) : State :=
  let c := s.chan k
  let f := mget (0, 0) s.fab.infSum n
  let counts := decide (500000 ≤ f.2 * s.fw.period) && s.chanOn k && !c.faulty && c.winCnt != 0
  let inf : Rat := (f.1 : Rat) / (f.2 : Rat)
  let diff := absQ ((c.winSum : Rat) / (c.winCnt : Rat) - inf)
  let bad := decide (plausTol inf < diff)
  let s := s.chanUpd k fun c => { c with winSum := 0, winCnt := 0 }
  if !counts then s.chanUpd k fun c => { c with winPass := 0 } else
  let s := s.chanUpd k fun c => { c with
    windowed := true, winDiff := some diff, winFail := if bad then c.winFail + 1 else 0,
    winPass := if bad then 0 else c.winPass + 1 }
  let c := s.chan k
  if !c.implausible && decide (10 ≤ c.winFail) then s.implausible k
  else if c.implausible && decide (60 ≤ c.winPass) then s.chanUpd k fun c => { c with implausible := false, winFail := 0 }
  else s

/-- CURRENT_PLAUSIBILITY_WINDOW (R159): every 1 s. -/
def State.plausibilityWindow (s : State) (n : Nat) : State :=
  let t := (s.windowChannel n (n * 2)).windowChannel n (n * 2 + 1)
  let t : State := { t with fab := { t.fab with infSum := mdel t.fab.infSum n } }
  t.epochUpd n fun e => { e with windowAt := s.mono }

/-- CURRENT_PLAUSIBILITY_WINDOW: when it is due. -/
def execCurrentPlausibilityWindow (string : Fin 4) (s : State) : Host.Outcome State Fault Refusal :=
  let n := string.val
  doneIf (s.running && s.has n && s.past (s.epoch n).windowAt 1000000) (s.plausibilityWindow n) s

/-- R166: the time with an available inferred current in the last 60 s, µs. -/
def State.auditUs (s : State) (n : Nat) : Nat := ((s.lastMinute (mget [] s.fab.infMinute n)).map fun e => e.2).sum

/-- The mean of a list of integers. -/
def meanI (l : List Int) : Rat := (l.sum : Rat) / (l.length : Rat)

/-- R166: the channel audit, over the tallies of the last 60 s in which both currents were there; with too little inferred
current it is due again 60 s later. -/
def State.channelAudit (s : State) (n : Nat) : State :=
  let s := s.epochUpd n fun e => { e with auditAt := s.mono, auditAgain := decide (s.auditUs n < 10000000) }
  if s.auditUs n < 10000000 then s else
  forEach [n * 2, n * 2 + 1] s fun s k =>
    let m := s.lastMinute (s.chan k).minute
    if !s.qualifies k || m.isEmpty then s else
    let inf := meanI (m.map fun e => e.2.2)
    if plausTol inf < absQ (meanI (m.map fun e => e.2.1) - inf) then s.implausible k else s

/-- STRING_DISAGREEMENT_ENTER (R165): the median has exceeded 5, in the same sign, for 60 s of elapsed time. The string is in
disagreement at once; `StringDisagreement` belongs to the published buffer (R182) and reads it from the next swap on. -/
def State.enterDisagreement (s : State) (n : Nat) : State :=
  let t := s.raise (0x78 + n) 0
  let t := t.epochUpd n fun e => { e with disagreement := true, reanchored := false, calmUs := none }
  let t := forEach (t.liveCells n) t fun t c => t.estBoth c fun e => { e with anchorPending := true }
  t.channelAudit n

/-- STRING_DISAGREEMENT_ENTER: when it is due. -/
def execStringDisagreementEnter (string : Fin 4) (s : State) : Host.Outcome State Fault Refusal :=
  let n := string.val
  let long := match (s.epoch n).medianUs with | some t => decide (60000000 ≤ t) | none => false
  doneIf (s.running && s.has n && long && !(s.epoch n).disagreement) (s.enterDisagreement n) s

/-- CHANNEL_AUDIT_REPEAT (R166): with too little inferred current, every 60 s while disagreement lasts. -/
def execChannelAuditRepeat (string : Fin 4) (s : State) : Host.Outcome State Fault Refusal :=
  let n := string.val
  let ep := s.epoch n
  doneIf (s.running && s.has n && ep.disagreement && ep.auditAgain && s.past ep.auditAt 60000000) (s.channelAudit n) s

/-! ### Rest points (R163, R164, R168, R169, R174, R175, R440) -/

/-- R163: mean of the usable words of the last 10 s, V; none where one was not usable. -/
def State.restWord (s : State) (c : Nat) : Option Rat :=
  let l := (s.cell c).recent
  if l.isEmpty || l.any (fun e => e.2.isNone) then none
  else some ((l.map fun e => ((e.2.getD 0 : Nat) : Rat)).sum / (l.length : Rat) / 10000)

/-- R163: what a rest point records of a cell. -/
def State.restCell (s : State) (n c : Nat) : Option CellRest :=
  match s.restWord c with
  | none => none
  | some v =>
    let e := s.pub c
    let x (k : Nat) : Rat := e.x.getD k 0
    let f := s.tableOf c
    let rest := if (s.epoch n).mode = 1 then v else v - x 9 - x 5 - x 6 - x 7 - x 8 - e.ro * (s.epoch n).sample
    let z := ocvInvert f rest (x 10 * 100)
    some { z := z.1 / 10000, slope := z.2 * 100000, tc := x 10, valid := true, bleed := (s.cell c).bled,
           stale := (s.cell c).staleRuns }

/-- R163: the rest point formed now. -/
def State.restPoint (s : State) (n : Nat) : RestPoint :=
  let r := s.rest n
  { time := s.now, elapsed := s.elapsed, charge := (s.epoch n).counted, tallies := r.tallies, sourced := r.sourced, gaps := r.gaps,
    cells := (s.liveCells n).filterMap fun c => (s.restCell n c).map fun x => (c, x) }

/-- A cell's part of a rest point. -/
def RestPoint.cell (p : RestPoint) (c : Nat) : Option CellRest := (p.cells.find? fun e => e.1 == c).map fun e => e.2

/-- mA·µs as A·h. -/
def ampHours (q : Int) : Rat := (q : Rat) / 3600000000000

/-- R168: the capacity candidate of a pair. -/
def capCandidate (a b : RestPoint) (x y : CellRest) : Rat :=
  if y.z = x.z then 0 else absQ ((ampHours (b.charge - a.charge) - (y.bleed - x.bleed)) / (y.z - x.z))

/-- R168, Table 5-8: the first criterion that a pair fails. -/
def State.capFails (s : State) (a b : RestPoint) (x y : CellRest) (e : CellEst) (nom : Rat) : Option Nat :=
  let span := absQ (y.z - x.z) * 10000
  let sl := (s.gn O.capLearnMinSlope 0 : Rat) / 100
  let c := capCandidate a b x y
  if span < (s.gn O.capLearnMinSpan 0 : Rat) then some 0
  else if x.slope < sl || y.slope < sl then some 1
  else if 1000 * (b.sourced - a.sourced) < 999 * (b.tallies - a.tallies) then some 2
  else if a.gaps ≠ b.gaps || x.stale ≠ y.stale then some 3
  else if x.tc < 5 || 45 < x.tc || y.tc < 5 || 45 < y.tc then some 4
  else if s.gn O.capLearnMaxAge 0 * 3600000000 < b.elapsed - a.elapsed then some 5
  else if absQ (ampHours (b.charge - a.charge)) / 20 < y.bleed - x.bleed then some 6
  else if c < nom / 2 || nom * 6 / 5 < c || e.cap * 3 / 20 < absQ (c - e.cap) then some 7
  else none

/-- R168, R169: a cell paired with the earliest retained point that meets every criterion. -/
def State.learnCell (s : State) (n : Nat) (b : RestPoint) (c : Nat) : State :=
  match b.cell c with
  | none => s
  | some y =>
    let e := s.pub c
    let nom := cNom (s.tableOf c)
    let go := (s.rest n).points.reverse.foldl (fun (r : State × Bool) a =>
      if r.2 then r else
      match a.cell c with
      | none => r
      | some x => match s.capFails a b x y e nom with
        | some k =>
          let m := r.1.fab.capRejected
          (({ r.1 with fab := { r.1.fab with capRejected := mset 0 m (n * 8 + k) (mget 0 m (n * 8 + k) + 1) } } : State), false)
        | none =>
          let k0 := absQ (y.z - x.z) * 10000 / (s.gn O.capLearnMinSpan 0 : Rat) / 5
          let k := if 1 / 2 < k0 then 1 / 2 else k0
          let new := e.cap + k * (capCandidate a b x y - e.cap)
          let t := r.1.estBoth c fun e => { e with capNext := some new }
          (({ t with fab := { t.fab with
            capAccepted := mset 0 t.fab.capAccepted n (mget 0 t.fab.capAccepted n + 1),
            capLast := mset 0 t.fab.capLast n t.now } } : State), true)) (s, false)
    go.1

/-- R174: the excess leak of each cell over a pair of points, A. DESIGN CHOICE (log entry 181): both string medians are taken
over the cells that are valid in both points. -/
def State.leaksOf (s : State) (a b : RestPoint) : List (Nat × Rat) :=
  let l := b.cells.filterMap fun e => match a.cell e.1 with
    | some x =>
      let y := e.2
      let h : Rat := ((b.elapsed - a.elapsed : Nat) : Rat) / 3600000000
      let q := ampHours (b.charge - a.charge) - (y.bleed - x.bleed) - (s.pub e.1).cap * (y.z - x.z)
      some (e.1, x.z, y.z, if h = 0 then 0 else q / h)
    | none => none
  let za := medianQ (l.map fun e => e.2.1)
  let zb := medianQ (l.map fun e => e.2.2.1)
  let m := medianQ (l.map fun e => e.2.2.2)
  if a.elapsed < b.elapsed && decide (absQ (zb - za) ≤ 1 / 10) then l.map fun e => (e.1, e.2.2.2 - m) else []

/-- R175: the accepted pairs that count, with the time that each adds: counted back from the newest point up to 48 h of covered
time, overlapping time once. DESIGN CHOICE (log entry 182): of overlapping pairs the one with the newest end counts, and of
those the one with the newest start. -/
def leakSpans (l : List (Nat × Nat × Rat)) : List ((Nat × Nat × Rat) × Nat) :=
  (l.foldl (fun (r : Nat × Nat × List ((Nat × Nat × Rat) × Nat)) e =>
    let fin := if r.2.1 = 0 then e.2.1 else min e.2.1 r.1
    let w := min (fin - e.1) (172800000000 - r.2.1)
    if w = 0 then r else (fin - w, r.2.1 + w, r.2.2 ++ [(e, w)])) (0, 0, [])).2.2

/-- R175: the duration-weighted mean excess over the pairs that count, and the span, µs. -/
def leakMean (l : List (Nat × Nat × Rat)) : Rat × Nat :=
  let r := leakSpans l
  let us := (r.map fun e => e.2).sum
  (if us = 0 then 0 else (r.map fun e => e.1.2.2 * (e.2 : Rat)).sum / (us : Rat), us)

/-- R175: the suspicion of a cell after a new rest point. -/
def State.judgeShort (s : State) (n c : Nat) : State :=
  let e := s.pub c
  let m := leakMean e.leaks
  let th : Rat := (s.gn O.shortThreshold 0 : Rat) / 1000
  let s := s.estBoth c fun e => { e with leak := m.1 }
  if !e.short && decide (86400000000 ≤ m.2) && decide (th ≤ m.1) then
    (s.estBoth c fun e => { e with short := true }).raise (0x7C + n) (s.monitorOf c)
  else if e.short && decide (172800000000 ≤ m.2) && decide (m.1 < th / 2) then s.estBoth c fun e => { e with short := false }
  else s

/-- R174, R175: internal-short detection at a new rest point; R196: cause 8 ends with the last suspicion. -/
def State.judgeShorts (s : State) (n : Nat) (b : RestPoint) : State :=
  let s := forEach (s.rest n).points s fun s a =>
    forEach (s.leaksOf a b) s fun s l => s.estBoth l.1 fun e => { e with
      leaks := (e.leaks ++ [(a.elapsed, b.elapsed, l.2)]).mergeSort fun x y =>
        decide (y.2.1 < x.2.1) || (x.2.1 == y.2.1 && decide (y.1 ≤ x.1)) }
  let s := forEach (s.liveCells n) s fun s c =>
    (s.estBoth c fun e => { e with leaks := (leakSpans e.leaks).map fun l => l.1 }).judgeShort n c
  s.judgeSuspects n

/-- R164: a cell re-anchored at its z_ocv. DESIGN CHOICE (log entry 178): the covariances of state 11 with the other states become
0, since R164 names its variance alone. -/
def CellEst.anchor (e : CellEst) (r : CellRest) (sigma : Rat) : CellEst :=
  let pct := if r.slope = 0 then 1 / 2 else sigma * 1000 / r.slope
  let sd := (if absQ pct < 1 / 2 then 1 / 2 else absQ pct) / 100 * e.cap
  { e with
    x := e.x.set 11 (r.z * e.cap), compat := r.z * e.cap, anchorPending := false, disagree := false, highSince := none
    p := (List.range 12).map fun i => (List.range 12).map fun j =>
      if i = 11 ∧ j = 11 then sd * sd else if i = 11 ∨ j = 11 then 0 else (e.p.getD i []).getD j 0 }

/-- R440: the offset trim of a mode-0 cell at a rest point. -/
def CellEst.updateTrim (e : CellEst) : CellEst :=
  let l := e.residuals.map fun r => r.2
  if l.isEmpty then e
  else { e with trim := clampI (-200) 200 (e.trim + roundQ (l.sum / (l.length : Rat) * 12500)) }

/-- REST_POINT_FORMED (R163): the point is kept, and learning, shorts, trims and re-anchoring follow. -/
def State.formPoint (s : State) (n : Nat) : State :=
  let b := s.restPoint n
  let mode := (s.epoch n).mode
  let s := forEach (s.liveCells n) s fun s c => s.learnCell n b c
  let s := s.judgeShorts n b
  let s := if mode = 1 then s else (forEach b.cells s fun s e => s.estBoth e.1 CellEst.updateTrim).ranWork 2
  let l := b.cells.filter fun e => mode == 1 || (s.pub e.1).anchorPending
  let s := forEach l s fun s e => s.estBoth e.1 fun x => x.anchor e.2 (s.sigmaV n)
  let s := if l.isEmpty then s else s.epochUpd n fun e => { e with anchor := e.counted, anchorTime := s.now, reanchored := true }
  s.restUpd n fun r =>
    let ended := r.since.isNone
    { r with points := (b :: r.points).take 8, formed := !ended, qualified := if ended then none else r.qualified }

/-- REST_POINT_FORMED (R162): a qualified rest has ended, or has lasted 4 h. -/
def execRestPointFormed (string : Fin 4) (s : State) : Host.Outcome State Fault Refusal :=
  let n := string.val
  let r := s.rest n
  let due := match r.qualified with
    | some t => !r.formed && (r.since.isNone || s.past t 14400000000) | none => false
  doneIf (s.running && s.has n && due) (s.formPoint n) s

/-! ### The requests (R170, R173) -/

/-- R136: the work of a request for a string can run: the device is READY and the string's ring has not failed. -/
def State.shotRuns (s : State) (t : Nat) : Bool := s.ready && s.gn O.chainRingState (t % 4) != 5

/-- R170, R173: bits 1 to 0 of the target carry the string, bits 15 to 2 are reserved. -/
def State.stringShot (s : State) (k value result : Nat) (zeros : Nat) : State × Nat :=
  let t := value % 65536
  match s.shotGate k value (bits t 15 2 != 0) with
  | some st => refuse s st
  | none =>
    if value / 65536 = 0 || !s.has (t % 4) then refuse s 0x0301
    else
      let s := s.shotStart k (value / 65536) t
      accept (if s.shotRuns t then s else s.shotNotRun k result zeros)

/-- CAP_LEARN_REPORT_REQUEST (R170). -/
def execCapLearnReportRequest (req : Req) (value : BitVec 32) (s : State) : Host.Outcome State Fault Refusal :=
  s.request req O.capLearnReportRequest 0 fun s => s.stringShot 2 value.toNat O.capLearnReportResult 13

/-- R170: the words of a capacity-learning report of string `n` after STATUS: the accepted and rejected counts, the mean
and the smallest learned capacity, its cell and the last accepted one. -/
def State.capReport (s : State) (n : Nat) : List Int :=
  let l := (s.liveCells n).map fun c => (c, (s.pub c).cap * 1000)
  let mean := if l.isEmpty then 0 else roundQ ((l.map fun e => e.2).sum / (l.length : Rat))
  let lo := minQ (l.map fun e => e.2)
  let cell := ((l.find? fun e => e.2 == lo).map fun e => e.1).getD 0
  let rej : List Int := (List.range 8).map fun k => ((mget 0 s.fab.capRejected (n * 8 + k) : Nat) : Int)
  ((mget 0 s.fab.capAccepted n : Nat) : Int) :: rej ++ [mean, roundQ lo, (cell : Nat), (mget 0 s.fab.capLast n : Nat)]

/-- CAP_LEARN_REPORT_DONE (R170, R136): in the next idle time; not run where the device is no longer READY. -/
def execCapLearnReportDone (s : State) : Host.Outcome State Fault Refusal :=
  match (s.shot 2).pending with
  | none => done s
  | some (q, t) =>
    doneIf s.running (if s.shotRuns t then
        s.shotDone 2 O.capLearnReportResult ((q : Int) :: (t : Int) :: 0 :: s.capReport (t % 4))
      else s.shotNotRun 2 O.capLearnReportResult 13) s

/-- IMPEDANCE_SNAPSHOT_REQUEST (R173). -/
def execImpedanceSnapshotRequest (req : Req) (value : BitVec 32) (s : State) : Host.Outcome State Fault Refusal :=
  s.request req O.impedanceSnapshotRequest 0 fun s => s.stringShot 3 value.toNat O.impedanceSnapshotResult 514

/-- IMPEDANCE_SNAPSHOT_TIMEOUT (R173, R136): 600 s without a qualifying step, STATUS 1; not run where the device is no longer
READY. -/
def execImpedanceSnapshotTimeout (s : State) : Host.Outcome State Fault Refusal :=
  match (s.shot 3).pending with
  | none => done s
  | some (q, t) =>
    doneIf (s.running && s.past (s.shot 3).acceptedAt 600000000)
      (if s.shotRuns t then
          s.shotDone 3 O.impedanceSnapshotResult ([(q : Int), (t : Nat), 1] ++ List.replicate 514 0)
        else s.shotNotRun 3 O.impedanceSnapshotResult 514) s

end Sys2Proof.Machine
end

