-- ==== Sys2Proof/Machine/Sweep.lean ====
section
/-! DEFINITION. Sys2Proof/Machine/Sweep.lean: the control cycle of R81: the trigger and the SWEEP (R67, R70, R71, R369), the
sweep's completion with what is published then (R100, R101, R188, R196), step 9 of enumeration (R64), and the change of
the tally period (R79). -/

namespace Sys2Proof.Machine

/-! ### Publication (R100, R101) -/

/-- Table 3-7: `CellFlags` of a manifest cell at publication. -/
def State.cellFlagsOf (s : State) (c : Nat) : Nat :=
  let x := s.cell c
  let k := monKey (cellRing c) (s.monitorOf c)
  let old := bits (s.gn O.cellFlags c) 14 12
  let count := if x.fresh then 0 else min 7 (old + 1)
  word [!x.fresh, x.fresh && x.viaB, x.fresh && x.bleed, s.unverified c, s.openWire c, x.fresh && x.ovHit,
        x.fresh && x.uvHit, s.unverified c, (s.mon k).fault, s.gn O.moduleAuthState k != 1, false, s.owTest c] + 4096 * count

/-- R100, R101: one cell published: this tally's word, or its previous value with STALE. -/
def State.publishWord (s : State) (c : Nat) : State :=
  let x := s.cell c
  let s := (if x.fresh then s.put O.cellVoltage c (x.word : Nat) else s).put O.cellFlags c (s.cellFlagsOf c)
  if x.fresh then s.cellUpd c fun x => { x with staleRaised := false } else s

/-- R188: `StringVoltage`, mV: the sum of the cell words. -/
def State.sumString (s : State) (r : Nat) : Int :=
  roundQ ((((s.stringCells r).map fun c => s.gi O.cellVoltage c).sum : Int) / (10 : Rat))

/-! ### Derating on data (R196) -/

/-- What a condition of R196 is on the data judged: present, inside its level by the margin, or neither. -/
inductive Judged
  | present | inside | neither
deriving DecidableEq, Repr

/-- R196: a derating cause after a judgement: it enters, its clearing time runs, or the clearing time ends. -/
def State.derateJudged (s : State) (n code : Nat) : Judged → State
  | .present => s.derateEnter n code
  | .inside => s.derateAbsent n code
  | .neither => s.strUpd n fun x => { x with derateOk := mdel x.derateOk code }

/-- R196: the groups of words that a tally's derating judges: pairs in pair mode by their sum, other cells alone; stale
words are not judged. -/
def State.derateGroups (s : State) (n : Nat) : List (List Nat) :=
  let pairs := ((s.ringNodes n).filter fun k => s.nodeBad k && (s.nodeCells k).length == 2).map s.nodeCells
  let alone := (s.stringCells n).filter fun c => !pairs.any fun p => p.contains c
  (pairs ++ alone.map fun c => [c]).filter fun g => g.all fun c => (s.cell c).fresh

/-- R196: a level judged over values: `high` for levels that a value exceeds upwards; each value comes with a weight that
multiplies the level, not the margin; `strict` for "below". Nothing judged leaves the cause as it is. -/
def judge (high strict : Bool) (level margin : Int) (vals : List (Int × Int)) : Option Judged :=
  if vals.isEmpty then none
  else
    let d (p : Int × Int) : Int := if high then p.1 - p.2 * level else p.2 * level - p.1
    if vals.any fun p => if strict then decide (0 < d p) else decide (0 ≤ d p) then some .present
    else if vals.all fun p => decide (d p ≤ -margin) then some .inside else some .neither

/-- R196, R197: causes 1 to 4 of a string judged on its published data, and cause 6 seen absent. -/
def State.judgeDerating (s : State) (n : Nat) : State :=
  let cells := (s.derateGroups n).map fun g =>
    (((g.map fun c => s.gi O.cellVoltage c).sum, (g.length : Int)) : Int × Int)
  let temps : List (Int × Int) := (List.range (s.nMon n)).flatMap fun p =>
    ((s.moduleInputs n p).filter fun j => (s.temp (tempKey n p j)).lostSince.isNone &&
      (s.temp (tempKey n p j)).plausibleAt.isSome).map fun j => (s.gi O.temperature (tempKey n p j), 1)
  let step (s : State) (code : Nat) (j : Option Judged) : State := match j with | some j => s.derateJudged n code j | none => s
  let s := step s 1 (judge true false (s.gi O.cellWarnHigh n) 200 cells)
  let s := step s 2 (judge false false (s.gi O.cellWarnLow n) 200 cells)
  let s := step s 3 (judge false true (s.gi O.tempChargeMin n) 200 temps)
  let s := step s 4 (judge true false (s.gi O.tempWarnHigh n) 200 temps)
  let lost := (List.range (s.nMon n)).filterMap fun p => s.moduleLost n p
  let s := if lost.any fun t => s.past t 10000000 then s else s.derateAbsent n 6
  if lost.any fun t => s.past t 300000000 then s else s.dropCause n 2

/-! ### Enumeration's last step (R64 step 9, R329) -/

/-- R64 step 9: every position has answered the first SWEEP with NOSAMPLE 0 and UNCONFIGURED 0. -/
def State.sweptAll (s : State) (r : Nat) : Option Nat :=
  (List.range (s.nMon r)).find? fun p => match (s.ring r).copies.find? (fun e => e.1 == p) with
    | some e => let st := leAt (framePayload e.2) 0 2; bit st 11 || bit st 7
    | none => true

/-- R64 step 9: the ring is whole or split, or has failed; the estimator's modules are assigned when the device becomes
READY (R122). -/
def State.enumFinish (s : State) (r : Nat) : State :=
  match s.sweptAll r with
  | some p => s.enumFail r p
  | none =>
    let x := s.ring r
    let s := ((s.put O.chainRingState r (if x.whole then 3 else 4)).ringUpd r fun x => { x with enumStep := 0 }).reconfigure r
    s.readyNow

/-! ### Sweep completion -/

/-- R100: the sweep of a ring is complete: every hop accepted, or missing with its recovery ended, or its deadline has
come (T − 100 µs). -/
def State.sweepOver (s : State) (r : Nat) : Bool :=
  let x := s.ring r
  let retrying (p : Nat) : Bool := [false, true].any fun b =>
    (((x.queue b).filter (s.fits r b)) ++ (x.train b).toList).any fun t => t.isSweep && (t.hops.map (s.posOf r b)).contains p
  x.sweepSeq.toNat = s.seqNow && (decide (s.fw.tallyAt + s.fw.period ≤ s.mono + 100) ||
    (List.range (s.nMon r)).all fun p =>
      mhas x.copies p || ((s.endOf r p).isNone && !x.takeover) || (x.missing.contains p && !retrying p))

/-- R100, R101, R109, R188, R196: the acquisition results of a string published as one set, then what follows from them. -/
def State.publishAcq (s : State) (r : Nat) : State :=
  let s := forEach (s.stringCells r) s State.publishWord
  let s := forEach (List.range (s.nMon r)) s fun s p => s.put O.moduleStack (monKey r p) ((s.mon (monKey r p)).stack : Nat)
  let s := (s.put O.stringVoltage r (s.sumString r)).put O.acqTallyIndex r (s.fw.tally : Nat)
  let s := (s.judgeDerating r).publishCurrent r
  let s := forEach (List.range (s.nMon r)) s fun s p => s.owCollect r p
  let s := (s.owRequestStart).balanceInhibit r
  (((s.refreshEst r).estTally r).dispatch r).stepTally r

/-- SWEEP_COMPLETE (R100). -/
def State.sweepComplete (s : State) (r : Nat) : State :=
  let s := s.ringUpd r fun x => { x with
    sweeping := false, queueA := x.queueA.filter (fun t => !t.isSweep), queueB := x.queueB.filter (fun t => !t.isSweep) }
  let s := s.pollBreaks r
  let s := if (s.ring r).enumStep = 9 then s.enumFinish r else s
  if [3, 4].contains (s.gn O.chainRingState r) then s.publishAcq r else s

/-- SWEEP_COMPLETE (R100, R81). -/
def execSweepComplete (ring : Fin 4) (s : State) : Host.Outcome State Fault Refusal :=
  doneIf (s.running && s.has ring.val && (s.ring ring.val).sweeping && s.fw.ticking && s.sweepOver ring.val)
    (s.sweepComplete ring.val) s

/-- STALE_TRIP (R101): a published STALE_COUNT has reached 4; offset 0x7 with the position and the cell. -/
def execStaleTrip (ring : Fin 4) (cell : Fin 512) (s : State) : Host.Outcome State Fault Refusal :=
  let r := ring.val
  let c := r * 512 + cell.val
  doneIf (s.running && s.has r && decide (cell.val < s.gn O.manifestCellCount r) &&
      decide (4 ≤ bits (s.gn O.cellFlags c) 14 12) && !(s.cell c).staleRaised)
    ((s.cellUpd c fun x => { x with staleRaised := true }).raise (ringSource r 7) (s.monitorOf c)) s

/-! ### The trigger (R67, R71, R369) -/

/-- R67, R71: the index that the coming tally instant gets. -/
def State.nextTally (s : State) : Nat := if s.fw.ticking then (s.fw.tally + 1) % 2 ^ 32 else 0

/-- R60: a train that the trigger finds in flight, its timeout still to pass, has ended: its answers that have not come are
missing, and no EOT error is counted (DESIGN CHOICE, log entry 147). -/
def State.endTrains (s : State) (r : Nat) : State :=
  forEach [false, true] s fun s b => match (s.ring r).train b with
    | some t => s.trainDone r b t
    | none => s

/-- R67, R71: the sweep of a tally starts on a ring: what the last one gathered ends, and the links located since are
broken. -/
def State.sweepStart (s : State) (r : Nat) : State :=
  let s := forEach (s.stringCells r) s fun s c => s.cellUpd c fun x =>
    { x with fresh := false, viaB := false, bleed := false, ovHit := false, uvHit := false }
  let s := (s.splitAt r (s.ring r).located).ringUpd r fun x => { x with
    located := [], accounted := [], copies := [], missing := [], declared := [], sweeps := [], seenA := [], seenB := [],
    replies := [],
    sweepSeq := BitVec.ofNat 8 s.nextTally, sweeping := true, echoed := false }
  if s.gn O.chainRingState r = 3 && !(s.ring r).broken.isEmpty then s.put O.chainRingState r 4 else s

/-- R54: the trigger of the coming tally, as an end sends it. -/
def State.triggerNow (s : State) (r : Nat) : Trigger :=
  { seq := (s.ring r).sweepSeq, check := (s.ring r).sweepSeq ^^^ 0xFF }

/-- R67, R54, R60: the trigger and the SWEEP train that follows it leave an end. -/
def State.sweepFrom (s : State) (r : Nat) (b : Bool) (last : Nat) : State :=
  let g := s.triggerNow r
  let t : Train := { s.sweepTrain r b 0 0 last with at' := s.mono }
  (s.setTrain r b (some t)).ringUpd r fun x =>
    { x with sweeps := (b, t) :: x.sweeps, trigA := if b then x.trigA else some g, trigB := if b then some g else x.trigB }

/-- R67, R71, R367, R369: the trigger and the SWEEP of a ring. On a whole ring the head sweeps, and the tail of a pair
listens; on a split ring each end sweeps its segment; a standby that no longer hears the holder sweeps from its own end. -/
def State.sweepRing (s : State) (r : Nat) : State :=
  let s := if (s.ring r).sweeping then s.sweepComplete r else s
  if !([3, 4].contains (s.gn O.chainRingState r) || (s.ring r).enumStep == 9) then s else
  let s := (s.endTrains r).sweepStart r
  let x := s.ring r
  if s.nMon r = 0 || x.mooring then s
  else if x.takeover && !s.directs then s.sweepFrom r s.headB (s.nMon r - 1)
  else if x.broken.isEmpty then s.sweepFrom r s.headEnd (s.nMon r - 1)
  else forEach [false, true] s fun s b =>
    if s.segmentLen r b != 0 && s.reaches b then s.sweepFrom r b (s.segmentLen r b - 1) else s

/-- R67, R73, R81: the trigger of the coming tally: roles of a pair change here, and every ring is swept. -/
def State.trigger (s : State) : State :=
  let s : State := { s with
    dup := { s.dup with directing := s.dup.out }, fw := { s.fw with triggered := some s.nextTally } }
  forEach (s.strings.filter fun r => s.nMon r != 0) s State.sweepRing

/-- TALLY_TRIGGER (R67, R80, R81): 30 µs before the tally instant, once for each. -/
def execTallyTrigger (s : State) : Host.Outcome State Fault Refusal :=
  doneIf (s.running && s.fw.triggered != some s.nextTally && (!s.fw.ticking || decide (s.fw.tallyTime + s.fw.period ≤ s.now + 30)))
    s.trigger s

/-! ### The tally period (R79) -/

/-- R79: 500 µs to 10,000 µs in steps of 500 µs; 500 µs only with at most 256 cells and 16 monitors on every ring. -/
def State.periodOk (s : State) (v : Nat) : Bool :=
  decide (500 ≤ v) && decide (v ≤ 10000) && v % 500 == 0 &&
    (v != 500 || s.strings.all fun r => decide (s.nMon r ≤ 16) && decide (s.gn O.manifestCellCount r ≤ 256))

/-- R79: a monitor has acknowledged the CONFIGURE that the new period needs. -/
def State.periodAcked (s : State) (r p : Nat) : Bool := !(s.mon (monKey r p)).periodDue

/-- TALLY_PERIOD_APPLY (R79): every monitor of the rings in use has acknowledged: the new period takes effect at the next
tally boundary, or at once where no tally has fallen yet. -/
def execTallyPeriodApply (s : State) : Host.Outcome State Fault Refusal :=
  match s.fw.newPeriod with
  | none => done s
  | some v =>
    let acked := s.strings.all fun r => !([3, 4].contains (s.gn O.chainRingState r)) ||
      (List.range (s.nMon r)).all fun p => s.periodAcked r p
    doneIf (s.running && acked)
      (if s.fw.ticking then { s with fw := { s.fw with periodReady := true } }
       else { s with fw := { s.fw with period := v, newPeriod := none } }) s

end Sys2Proof.Machine
end

