-- ==== Sys2Proof/Machine/Dictionary.lean ====
section
/-! DEFINITION. Sys2Proof/Machine/Dictionary.lean: elements of the object dictionary as the links carry them (R320 to R329,
Table 0-4): how they are packed, what a read returns, and the checks that a written value passes (R9, R290, R474 and the
ranges and orderings of the object tables). -/

namespace Sys2Proof.Machine

/-! ### Packing (Table 0-4) -/

/-- Bytes of a scalar. -/
def Scalar.size : Scalar → Nat
  | .bool => 1 | .u8 => 1 | .u16 => 2 | .u32 => 4 | .u64 => 8 | .i16 => 2 | .i32 => 4 | .i64 => 8 | .f32 => 4

/-- Table 10-2: the type code of a scalar. -/
def Scalar.code : Scalar → Nat
  | .bool => 1 | .u8 => 2 | .u16 => 3 | .u32 => 4 | .u64 => 5 | .i16 => 6 | .i32 => 7 | .i64 => 8 | .f32 => 9

/-- A scalar from its bytes. -/
def Scalar.read (t : Scalar) (v : Nat) : Int :=
  match t with
  | .i16 => signed 16 v | .i32 => signed 32 v | .i64 => signed 64 v | _ => (v : Int)

/-- R327: bytes of one element; 0 for STR and BLOB. -/
def Ty.size : Ty → Nat
  | .sc t => t.size
  | .record ms => (ms.map Scalar.size).sum
  | _ => 0

/-- Table 10-2. -/
def Ty.code : Ty → Nat
  | .sc t => t.code | .str => 10 | .blob => 11 | .record _ => 12

/-- The element is a STR or a BLOB. -/
def Ty.open' (t : Ty) : Bool := t == .str || t == .blob

/-- Table 0-4: an element's bytes. -/
def Ty.pack (t : Ty) (v : List Int) : List Byte :=
  match t with
  | .sc c => leI c.size (v.headD 0)
  | .record ms => (ms.zipIdx).flatMap fun e => leI e.1.size (v.getD e.2 0)
  | _ => bytesOf v

/-- Table 0-4: the members of a REC from its bytes. -/
def unpackRec : List Scalar → List Byte → List Int
  | [], _ => []
  | c :: cs, bs => c.read (leAt bs 0 c.size) :: unpackRec cs (bs.drop c.size)

/-- Table 0-4: an element from its bytes (a STR or BLOB takes all of them). -/
def Ty.unpack (t : Ty) (bs : List Byte) : List Int :=
  match t with
  | .sc c => [c.read (leAt bs 0 c.size)]
  | .record ms => unpackRec ms bs
  | _ => blobOf bs

/-- Elements of an array write, each with its bytes. -/
def splitElems (size : Nat) : Nat → List Byte → List (List Byte)
  | 0, _ => []
  | n + 1, bs => bs.take size :: splitElems size n (bs.drop size)

/-- R327, Table 10-3: `ObjectDescriptor` of an object. -/
def Obj.descriptor (o : Obj) : List Int :=
  let acc : Nat := match o.acc with | .ro => 1 | .rw => 2 | .wo => 3 | .rws => 4 | .auth => 5
  let flags : Nat := word [o.saved, o.stamp != .no, o.cmd, o.per != .none']
  [(o.index : Nat), (o.elements : Nat), (o.ty.code : Nat), (acc : Nat), (flags : Nat), (o.ty.size : Nat)]


/-! ### The configuration image (R344) -/

/-- Runs of consecutive numbers in an ascending list: first and length. -/
def runs : List Nat → List (Nat × Nat)
  | [] => []
  | a :: l => match runs l with
    | (b, n) :: rs => if a + 1 = b then (a, n + 1) :: rs else (a, 1) :: (b, n) :: rs
    | [] => [(a, 1)]

/-- The bytes of "Aduldel QB2048" or "Aduldel QB1024" (R328). -/
def deviceName (v : Variant) : List Byte :=
  ([0x41, 0x64, 0x75, 0x6C, 0x64, 0x65, 0x6C, 0x20, 0x51, 0x42] ++
    (match v with | .qb2048 => [0x32, 0x30, 0x34, 0x38] | .qb1024 => [0x31, 0x30, 0x32, 0x34])).map (BitVec.ofNat 8)

/-- R4: `DeviceVariant`. -/
def State.variantCode (s : State) : Nat := match s.variant with | .qb2048 => 0x2048 | .qb1024 => 0x1024

/-- R38, R39: `EventRoute` as it reads. -/
def State.savedEl (s : State) (i sub : Nat) : List Int :=
  if i = O.eventRoute then [(s.route sub : Nat)]
  else if i = O.manifestFile then blobOf s.fw.manifest else s.el i sub

/-- R344: an entry of the image: INDEX, SUBINDEX, COUNT, LENGTH and the packed elements. -/
def imageEntry (i sub count : Nat) (data : List Byte) : List Byte := le 2 i ++ le 2 sub ++ le 2 count ++ le 2 data.length ++ data

/-- R344: the entries of one saved object: one for each run of elements that exist (one for all of them on the QB2048). -/
def State.objEntries (s : State) (o : Obj) (value : Nat → List Int) : List Byte :=
  (runs ((List.range o.count).filter fun k => !s.absent o k)).flatMap fun r =>
    imageEntry o.index r.1 r.2 ((List.range r.2).flatMap fun k => o.ty.pack (value (r.1 + k)))

/-- R340: the saved objects, by ascending index. -/
def savedObjs : List Obj := allObjs.filter Obj.saved

/-- R344: number of entries. -/
def State.entryCount (s : State) (l : List Obj) : Nat :=
  (l.map fun o => (runs ((List.range o.count).filter fun k => !s.absent o k)).length).sum

/-- R344: the entries of the running configuration. -/
def State.runningEntries (s : State) : List Byte := savedObjs.flatMap fun o => s.objEntries o fun k => s.savedEl o.index k

/-- R324, R223: the value that an element of the configuration has at factory defaults; 0xA0 to 0xA7 trip by the default
map of their pair. -/
def State.defaultEl (s : State) (i sub : Nat) : List Int :=
  if i = O.eventRoute ∧ 0xA0 ≤ sub ∧ sub < 0xA8 then
    [(routeDefault s.variant sub % 65536 : Nat) + ((objDefault s.variant O.safetyInputMap (sub % 4)).headD 0) * 65536]
  else objDefault s.variant i sub

/-- R343: the entries that the next start would apply where no valid image exists: factory defaults. -/
def State.defaultEntries (s : State) : List Byte :=
  savedObjs.flatMap fun o => s.objEntries o fun k => s.defaultEl o.index k

/-- R343: the newest valid image in flash; empty where there is none. -/
def State.newestImage (s : State) : List Byte :=
  if s.flash.configSlot = 0 then [] else mget [] s.flash.config (s.flash.configSlot - 1)

/-- Table 10-4 UNSAVED: the running configuration differs from what the next start would apply. -/
def State.unsaved (s : State) : Bool :=
  let img := s.newestImage
  s.runningEntries != if img.isEmpty then s.defaultEntries else (img.take (img.length - 4)).drop 32

/-- R344: an image of given entries. -/
def State.imageOf (s : State) (entries : List Byte) (count seq flags : Nat) : List Byte :=
  let b := le 4 0x31434251 ++ le 2 1 ++ le 2 32 ++ le 4 (36 + entries.length) ++ le 2 s.variantCode ++ le 2 count ++ le 4 seq ++
    le 4 flags ++ le 8 s.now ++ entries
  b ++ le 4 (crc32 b)

/-- R344: what a read of `ConfigImage` returns. -/
def State.exportImage (s : State) : List Byte :=
  let u := s.unsaved
  s.imageOf s.runningEntries (s.entryCount savedObjs) (if u then 0 else s.flash.configSeq) (b2n u)

/-- R364: `DuplexConfigCrc`: the entries without 0x2200 to 0x22FF and 0x8000 to 0x85FF. -/
def State.duplexCrc (s : State) : Nat :=
  let l := savedObjs.filter fun o => !((0x2200 ≤ o.index && o.index ≤ 0x22FF) || (0x8000 ≤ o.index && o.index ≤ 0x85FF))
  crc32 (l.flatMap fun o => s.objEntries o fun k => s.savedEl o.index k)

/-! ### Computed values -/

/-- R243, Table 7-5: the 62 bytes that `SafetyConfigCrc` covers. -/
def State.safetyBytes (s : State) : List Byte :=
  let arr (i n size : Nat) : List Byte := (List.range n).flatMap fun k =>
    if (match objRow i with | some o => s.absent o k | none => false) then le size 0 else leI size (s.gi i k)
  arr O.tallyPeriod 1 2 ++ arr O.safetyInputMap 4 1 ++ arr O.safetyInputFilter 4 2 ++ arr O.safetyDiscrepancyTime 4 2 ++
    arr O.offPulseWidth 1 2 ++ arr O.offPulseInterval 1 2 ++ arr O.openingProofInterval 1 2 ++ arr O.openingProofGrace 1 2 ++
    arr O.contactorRole 12 1 ++ arr O.comparatorCount 4 1 ++ arr O.cellOvTrip 4 2 ++ arr O.cellUvTrip 4 2

/-- R329, Table 10-4: `DeviceStatus`. -/
def State.deviceStatus (s : State) : Nat :=
  word [s.ready, s.fw.startup, s.fw.noManifest, s.enumerating, s.mooring, s.fw.configDefaults, false, false, s.anyTripped,
        s.authority, s.unsaved, s.qlp.session.isSome] + s.lifecycle * 65536

/-- R330: REVISION of the accepted manifest, its CRC and its name. -/
def State.manifestRevision (s : State) : Nat := leAt s.fw.manifest 12 4

/-- R347: `ManifestCrc`. -/
def State.manifestCrc (s : State) : Nat := leAt s.fw.manifest (s.fw.manifest.length - 4) 4

/-- R330: a 16-byte name without its padding. -/
def nameOf (bs : List Byte) : List Byte := (bs.reverse.dropWhile fun b => b == 0).reverse

/-- R339: no record of the accepted manifest has UID 0. -/
def State.uidComplete (s : State) : Bool :=
  !s.fw.noManifest && s.strings.all fun r => (List.range (s.nMon r)).all fun p => s.gm O.manifestModule (monKey r p) 0 != 0

/-- R237: `OpeningProofDue`, of the used drivers. -/
def State.proofDue (s : State) : Nat :=
  word ((List.range 12).map fun d => (s.drv d).due && bits (s.gn O.contactorRole d) 1 0 != 3)

/-- Table 13-10b: `LifeCycleBlock`. -/
def State.lifeCycleBlock (s : State) : Nat :=
  let man := !s.fw.noManifest
  let rings := s.strings.filter fun r => s.nMon r != 0
  word [!man, man && !s.uidComplete, s.unsaved,
    man && (List.range 12).any fun d => (s.drv d).due && bits (s.gn O.contactorRole d) 1 0 != 3 &&
      s.inManifest (bits (s.gn O.contactorRole d) 5 4),
    man && rings.any fun r => (List.range (s.nMon r)).any fun p => s.gn O.moduleAuthState (monKey r p) != 1,
    man && rings.any fun r => (s.moduleKey r).isNone]

/-- R414: `KeySlotState` of a slot: 0 empty, 1 current, 2 superseded, 3 revoked. -/
def State.keySlot (s : State) (k : Nat) : Nat :=
  let written (j : Nat) : Bool := if j < 4 then mhas s.otp.siteKeys j else mhas s.otp.moduleKeys (j - 4)
  let base := k / 4 * 4
  if s.otp.revoked.contains k then 3
  else if !written k then 0
  else if (List.range 4).any fun j => decide (k % 4 < j) && written (base + j) && !s.otp.revoked.contains (base + j) then 2
  else 1

/-- Table 11-7: `BerthStatus`. -/
def State.berthStatus (s : State) : Nat :=
  if s.dup.mode = 0 then 0 else
  word [s.dup.out, s.dup.berthIn, s.dup.pref, (match s.dup.hello with | some h => h.preferred | none => false), s.dup.armed,
        s.dup.claim == .holding || s.dup.lockHolding, s.dup.claim == .lockout]

/-- R392: `LogPageState`. -/
def State.logPageState (s : State) (k : Nat) : Nat :=
  match s.log.pages.find? (fun p => p.1 == k) with
  | none => 4
  | some p => if s.logStale p.2 then 6 else if s.log.current = some k then 5 else (p.2.recs.map (·.sev)).foldl max 0

/-- R392: `LogFreeBytes`: 4,080 bytes of each erased or superseded page and the rest of the current page. -/
def State.logFree (s : State) : Nat :=
  ((List.range 256).map fun k => if [4, 6].contains (s.logPageState k) then 4080 else 0).sum +
    (match s.log.current with | some k => 4080 - (mget {} s.log.pages k).used | none => 0)

/-- R388: what a read of `LogRecords` returns to a requester (link × 128 + node). -/
def State.logRead (s : State) (who : Nat) : List Byte :=
  let rs := s.logRecords.filter fun r => decide (s.gn O.logCursor who ≤ r.seq)
  (rs.foldl (fun (a : List Byte × Bool) r =>
    if a.2 || decide (16384 < a.1.length + 4 * r.units) then (a.1, true) else (a.1 ++ r.bytes, false)) ([], false)).1

/-- Table 3-12: the bytes of a capture record. -/
def CaptureRec.bytes (r : CaptureRec) : List Byte :=
  le 4 r.tally ++ le 8 r.time ++ le 2 r.status ++ (r.ringState.flatMap fun v => leI 1 v) ++ (r.curFlags.flatMap fun v => leI 1 v) ++
    le 6 0 ++ (r.current.flatMap fun v => leI 4 v) ++ ((List.range 128).flatMap fun k => le 1 (mget 0 r.monitor k)) ++
    ((List.range 2048).flatMap fun c => le 2 (mget 0 r.cell c))

/-- R328: version of an image. -/
def State.version (s : State) : Nat := match s.flash.booted with | some k => (s.slot k).version | none => 0

/-! ### What a read returns (R324) -/

/-- Values that the device computes, by index, and those in effect at another moment than their write (R324); none for a
stored one. -/
def State.computed (s : State) (i sub : Nat) : Option (List Int) :=
  let n (v : Nat) : Option (List Int) := some [(v : Int)]
  let b (v : Bool) : Option (List Int) := some [(b2n v : Int)]
  if i < 0x3000 then
    if i = O.watchdogWindow then n s.wd.windowMs
    else if i = O.tallyPeriod then n s.fw.period
    else if i = O.duplexMode then n s.dup.mode
    else if i = O.deviceName then some (blobOf (deviceName s.variant))
    else if i = O.firmwareVersion then n s.version
    else if i = O.dictionaryVersion then n 0x0100
    else if i = O.deviceStatus then n s.deviceStatus
    else if i = O.uptime then n (s.mono - s.pwr.cdSince)
    else if i = O.objectCount then n allObjs.length
    else if i = O.objectDescriptor then (allObjs[sub]?).map Obj.descriptor
    else if i = O.eventRoute then n (s.route sub)
    else if i = O.configImage then some (blobOf s.exportImage)
    else if i = O.configState then
      let img := s.newestImage
      some (if img.isEmpty then [0, 0, 0] else [(leAt img 16 4 : Nat), (leAt img 24 8 : Nat), (s.flash.configSlot : Nat)])
    else none
  else if i < 0x6000 then
    if i = O.manifestFile then some (blobOf s.fw.manifest)
    else if i = O.modelTableFile then some (blobOf (mget [] s.fab.tables sub))
    else if i = O.manifestState then b (!s.fw.noManifest)
    else if i = O.manifestCrc then n s.manifestCrc
    else if i = O.manifestRevision then n s.manifestRevision
    else if i = O.manifestName then some (blobOf (nameOf ((s.fw.manifest.drop 16).take 16)))
    else if i = O.manifestUidComplete then b s.uidComplete
    else if !s.fw.noManifest && (i = O.cellVoltage || i = O.cellFlags) && decide (s.gn O.manifestCellCount (cellRing sub) ≤ cellPos sub) then
      n (if i = O.cellFlags then 0x0400 else 0)
    else if !s.fw.noManifest && (i = O.temperature || i = O.tempFlags) &&
        !bit (s.gm O.manifestModule (sub / 8) 2).toNat (sub % 8) then
      n (if i = O.tempFlags then 0x10 else 0)
    else if i = O.captureRecord then
      let l := s.capture.recs
      some (if l.length ≤ sub then [] else blobOf ((l.getD (l.length - 1 - sub) {}).bytes))
    else none
  else if i < 0x8000 then
    if i = O.protectionLevel then n (s.level sub)
    else if i = O.closeBlockReason then n (s.closeBlock sub)
    else if i = O.contactorStatus then n (s.driverStatus sub)
    else if i = O.safetyInputState then n (s.pairStatus sub)
    else if i = O.safeOffState then n s.safeOffWord
    else if i = O.openingProofDue then n s.proofDue
    else if i = O.safetyConfigCrc then n (crc32 s.safetyBytes)
    else if i = O.loadSwitchStatus then n (s.lsw sub).status
    else if i = O.loadSwitchRetryCount then n (s.lsw sub).retries
    else if i = O.motorStatus then n (s.mot sub).status
    else if i = O.motorSpeedRef then n ((s.mot sub).ref / 1000)
    else if i = O.motorRetryCount then n (s.mot sub).retries
    else if i = O.brakeStatus then n s.brakeStatus
    else none
  else if i < 0x9000 then
    if i = O.deviceTime then n s.now
    else if i = O.canNominalTiming then (if mhas (s.can sub).timing 0 then some (s.can sub).nominal else none)
    else if i = O.canDataTiming then (if mhas (s.can sub).timing 1 then some (s.can sub).data else none)
    else if i = O.canTdc then (if mhas (s.can sub).timing 2 then some (s.can sub).tdc else none)
    else if i = O.elapsedTime then n s.elapsed
    else if i = O.timeFlags then n s.timeFlags
    else if i = O.timeRateAdjust then some [s.rateNow]
    else if i = O.sessionState then
      some (match s.qlp.session with
        | some x => [1, (x.node : Nat), (x.link : Nat), (x.opened : Nat)] | none => [0, 0, 0, 0])
    else if i = O.berthState then n s.berthState
    else if i = O.berthStatus then n s.berthStatus
    else if i = O.duplexLinkState then b s.dup.up
    else if i = O.duplexConfigCrc then n s.duplexCrc
    else if i = O.partnerConfigCrc then n (match s.dup.hello with | some h => h.configCrc | none => 0)
    else if i = O.partnerNodeId then n (match s.dup.hello with | some h => h.nodeId | none => 0)
    else if i = O.duplexConfigMatch then b s.dup.matched
    else none
  else if i = O.logOldestSequence then n s.logOldest
  else if i = O.logNewestSequence then n s.logNewest
  else if i = O.logRecordCount then n s.logRecords.length
  else if i = O.logFreeBytes then n s.logFree
  else if i = O.logGeneration then n s.log.gen
  else if i = O.logPageState then n (s.logPageState sub)
  else if i = O.lifeCycleBlock then n s.lifeCycleBlock
  else if i = O.tombstone then some (blobOf s.flash.tombstone)
  else if i = O.keySlotState then n (s.keySlot sub)
  else if i = O.tamperStatus then n s.fw.tamper
  else if i = O.resetCause then n s.fw.cause
  else if i = O.firmwareSlotState then
    let x := s.slot sub
    some [(x.st : Nat), (x.version : Nat), (x.security : Nat), (x.boots : Nat)]
  else if i = O.firmwareActiveSlot then n s.flash.active
  else if i = O.securityFloor then n s.otp.floor
  else if i = O.journalSequence then n s.flash.jseq
  else if i = O.throttleTime then n (mget 0 s.th.stageUs (sub + 1) / 1000)
  else none

/-- R324: the value in effect of an element; `who` is the requester of R388. -/
def State.readEl (s : State) (who i sub : Nat) : List Int :=
  if i = O.logRecords then blobOf (s.logRead who) else (s.computed i sub).getD (s.el i sub)

/-- R289, R323: the first check that a read of a range fails, with its element; 0 where none fails. `auth` says that the
requester has the open session. -/
def State.readCheck (s : State) (i sub count : Nat) (auth : Bool) : Nat × Nat :=
  if 0xF000 ≤ i then (0x0101, sub)
  else if s.lifecycle = 4 && !retiredMay i then (0x0405, sub)
  else match objRow i with
  | none => (0x0101, sub)
  | some o =>
    if o.elements ≤ sub then (0x0102, sub)
    else if count = 0 then (0x0103, sub)
    else if s.absent o sub then (0x0102, sub)
    else if o.elements < sub + count then (0x0103, sub)
    else if o.ty.open' && 1 < count then (0x0104, sub)
    else match (List.range count).find? fun k => s.absent o (sub + k) with
      | some k => (0x0102, sub + k)
      | none =>
        if o.acc = .wo then (0x0202, sub)
        else if o.acc = .auth && !auth then (0x0204, sub)
        else if i = O.captureRecord && s.gn O.captureState 0 != 3 then (0x0407, sub)
        else (0, sub)

/-- R288, R3: the string of a stamped object's element. -/
def Obj.stringOf (o : Obj) (sub : Nat) : Nat := match o.per with | .div k => sub / k | _ => 0

/-- R288, Table 9-6: the stamps of a range, one per string, ascending. -/
def State.stampsOf (s : State) (o : Obj) (sub count : Nat) : List (Nat × Nat) :=
  if o.stamp = .no then [] else
  let strings := ((List.range count).map fun k => o.stringOf (sub + k)).eraseDups
  strings.map fun n =>
    if o.stamp = .acq then (n, s.gn O.acqTallyIndex n) else (128 + n, s.gn O.epochNumber n)

/-! ### Checks of a written value (R9, R290, R474) -/

/-- R474: the bits that a mask object assigns. -/
def maskBits (i : Nat) : Option Nat :=
  if i = O.safetyInputMap then some 15 else if i = O.notifyCanChannels then some 3
  else if i = O.contactorRole then some 0x33 else none

/-- R9, R6, R474: encoding and reserved bits of an element: 0x0303, 0x0305, or 0. -/
def encodeCheck (o : Obj) (v : List Int) : Nat :=
  let ms : List Scalar := match o.ty with | .sc t => [t] | .record ms => ms | _ => []
  let bad := ms.zipIdx.any fun e =>
    let x := v.getD e.2 0
    match e.1 with
    | .bool => decide (x ≠ 0) && decide (x ≠ 1)
    | .f32 => !f32Finite x.toNat
    | _ => false
  let x := (v.headD 0).toNat
  if bad then 0x0303
  else if (match maskBits o.index with | some m => x != Nat.land x m | none => false) then 0x0305
  else if o.index = O.notifySubscriber && decide (7 < v.getD 1 0) then 0x0305
  else 0

/-- R283: bit rate of a timing record, in Hz, as a rational. -/
def bitRate (v : List Int) : Rat :=
  let brp := v.getD 0 0
  let n := 1 + v.getD 1 0 + v.getD 2 0
  if brp * n = 0 then 0 else 80000000 / ((brp * n : Int) : Rat)

/-- R283, R284, Table 9-1: the timing records of a channel together. -/
def timingOk (nom dat tdc : List Int) : Bool :=
  let in' (v : List Int) (k : Nat) (lo hi : Int) : Bool := decide (lo ≤ v.getD k 0) && decide (v.getD k 0 ≤ hi)
  let rn := bitRate nom
  let rd := bitRate dat
  in' nom 0 1 32 && in' nom 1 2 256 && in' nom 2 2 128 && in' nom 3 1 128 && decide (nom.getD 3 0 ≤ nom.getD 2 0) &&
    in' dat 0 1 32 && in' dat 1 1 32 && in' dat 2 1 16 && in' dat 3 1 16 && decide (dat.getD 3 0 ≤ dat.getD 2 0) &&
    decide (125000 ≤ rn) && decide (rn ≤ 1000000) && decide (500000 ≤ rd) && decide (rd ≤ 8000000) && decide (rn ≤ rd) &&
    in' tdc 0 0 2 && in' tdc 1 0 127 && in' tdc 2 0 127 &&
    !(decide (2 < dat.getD 0 0) && tdc.getD 0 0 != 0) && !(decide (1000000 < rd) && tdc.getD 0 0 == 0)

/-- R315, R289: a stream's records are consistent: ranges, entries that can be read, and the size of a snapshot. -/
def State.streamOk (s : State) (k : Nat) : Bool :=
  let c := s.el O.streamConfig k
  let n := (c.getD 5 0).toNat
  let entries := (List.range n).map fun e => s.el O.streamEntry (k * 16 + e)
  let sizes := entries.map fun e =>
    match objRow (e.getD 0 0).toNat with
    | some o =>
      if o.ty.open' then (o.ty.pack (s.readEl 0 o.index (e.getD 1 0).toNat)).length else o.ty.size * (e.getD 2 0).toNat
    | none => 0
  let strings := (entries.flatMap fun e =>
    match objRow (e.getD 0 0).toNat with
    | some o => s.stampsOf o (e.getD 1 0).toNat (e.getD 2 0).toNat
    | none => []).eraseDups.length
  let total := 1 + 5 * strings + sizes.sum
  decide (c.getD 1 0 ≤ 2) && decide (c.getD 2 0 ≤ 7) && decide (c.getD 3 0 ≤ 127) && decide (n ≤ 16) &&
    entries.all (fun e => (s.readCheck (e.getD 0 0).toNat (e.getD 1 0).toNat (e.getD 2 0).toNat false).1 == 0) &&
    decide (total ≤ if c.getD 1 0 = 2 then 1452 else 832)

/-- R156, Table 5-6: the range of `EkfProcessNoise` and `EkfInitialSigma` of a state. -/
def noiseOk (k : Nat) (v : Rat) : Bool :=
  decide (0 ≤ v) && decide (v ≤ if k ≤ 4 then 1 else if k ≤ 9 then 1 / 2 else if k = 10 then 50 else 100)

/-- R290: the range of an element on its own: 0x0301, or 0. -/
def State.rangeCheck (s : State) (o : Obj) (sub : Nat) (v : List Int) : Nat :=
  let x := v.headD 0
  let isF := o.ty == .sc .f32
  let ok := match o.range with
    | none => true
    | some (lo, hi) =>
      if isF then decide (f32 lo.toNat ≤ f32 x.toNat) && decide (f32 x.toNat ≤ f32 hi.toNat)
      else decide (lo ≤ x) && decide (x ≤ hi)
  if !ok then 0x0301
  else if o.index = O.ekfProcessNoise && decide (12 ≤ sub % 16) && x != 0 then 0x0301
  else if (o.index = O.ekfProcessNoise || o.index = O.ekfInitialSigma) && !noiseOk (sub % 16) (f32 x.toNat) then 0x0301
  else if s.variant = .qb1024 && o.index = O.contactorRole && decide (2 ≤ bits x.toNat 5 4) then 0x0301
  else if s.variant = .qb1024 && o.index = O.safetyInputMap && decide (4 ≤ x) then 0x0301
  else if o.index = O.tallyPeriod && !s.periodOk x.toNat then 0x0301
  else if o.index = O.streamConfig && !(decide (1 ≤ v.getD 4 0) && decide (v.getD 4 0 ≤ 60000)) then 0x0301
  else if o.index = O.qlpNodeId && s.dup.mode != 0 && x == 1 then 0x0301
  else 0

/-- R283, R284, R265, R315: what an element must agree with, judged on the state after the whole write: 0x0301, or 0. -/
def State.relationCheck (s : State) (i sub : Nat) : Nat :=
  if [O.canNominalTiming, O.canDataTiming, O.canTdc].contains i then
    if timingOk (s.el O.canNominalTiming sub) (s.el O.canDataTiming sub) (s.el O.canTdc sub) then 0 else 0x0301
  else if i = O.mdCommSoften ∨ i = O.mdCommAdvance then
    if s.gn O.mdCommSoften sub + s.gn O.mdCommAdvance sub ≤ 25 then 0 else 0x0301
  else if i = O.streamConfig then (if s.streamOk sub then 0 else 0x0301)
  else if i = O.streamEntry then (if s.streamOk (sub / 16) then 0 else 0x0301)
  else 0

/-- R191: the ordering of Table 6-6 for a string. -/
def State.limitsOrdered (s : State) (n : Nat) : Bool :=
  let g (i : Nat) : Int := s.gi i n
  decide (g O.cellWarnHigh + 500 ≤ g O.cellOvTrip) && decide (g O.cellWarnLow + 1000 ≤ g O.cellWarnHigh) &&
    decide (g O.cellUvTrip + 500 ≤ g O.cellWarnLow) && decide (g O.tempWarnHigh + 300 ≤ g O.cellOtTrip) &&
    decide (g O.tempChargeMin + 1000 ≤ g O.tempWarnHigh) && decide (g O.cellUtTrip + 300 ≤ g O.tempChargeMin)

/-- R273: the ordering of the VMOT levels. -/
def State.vmotOrdered (s : State) : Bool :=
  let g (i : Nat) : Int := s.gi i 0
  decide (g O.vmotUnderLevel < g O.vmotRampHoldLevel) && decide (g O.vmotRampHoldLevel < g O.brakeOffLevel) &&
    decide (g O.brakeOffLevel < g O.brakeOnLevel) && decide (g O.brakeOnLevel < g O.vmotAbsLimit)

/-- R191, R273: the ordering that an element belongs to, judged on the state after the whole write: 0x0304, or 0. -/
def State.orderCheck (s : State) (i sub : Nat) : Nat :=
  if [O.cellOvTrip, O.cellWarnHigh, O.cellWarnLow, O.cellUvTrip, O.cellOtTrip, O.tempWarnHigh, O.tempChargeMin, O.cellUtTrip].contains i then
    if s.limitsOrdered sub then 0 else 0x0304
  else if [O.vmotUnderLevel, O.vmotRampHoldLevel, O.brakeOffLevel, O.brakeOnLevel, O.vmotAbsLimit].contains i then
    if s.vmotOrdered then 0 else 0x0304
  else 0

/-- R264: a motor configuration object that only a stopped channel accepts. -/
def motorConfig (i : Nat) : Bool := decide (O.motorDirection ≤ i) && decide (i ≤ O.mdRetryDelay)

/-- R322, R244, R264, R348: the state check of a stored object's element: 0x0401, 0x0420, or 0. -/
def State.stateCheck (s : State) (o : Obj) (sub : Nat) : Nat :=
  if s.openGate o ≠ 0 then s.openGate o
  else if o.index = O.duplexMode && !s.allOpen then 0x0401
  else if motorConfig o.index && !([0, 7].contains (s.mot sub).st) then 0x0420
  else 0

/-- R244, Table 7-5: the objects that `SafetyConfigCrc` covers. -/
def safetyObjs : List Nat :=
  [O.tallyPeriod, O.safetyInputMap, O.safetyInputFilter, O.safetyDiscrepancyTime, O.offPulseWidth, O.offPulseInterval,
   O.openingProofInterval, O.openingProofGrace, O.contactorRole, O.comparatorCount, O.cellOvTrip, O.cellUvTrip]

end Sys2Proof.Machine
end

