-- ==== Sys2Proof/Machine/Saved.lean ====
section
/-! DEFINITION. Sys2Proof/Machine/Saved.lean: the manifest (R330 to R339), the saved configuration with its image (R340 to
R346), what a changed value sets off in the running device, and the meanings of their commands. -/

namespace Sys2Proof.Machine

/-! ### Manifest files (R330 to R333) -/

/-- Table 10-6: a module record. -/
structure ModuleRec where
  uid : Nat
  cells : Nat
  temps : Nat
  set : Nat
  bytes : List Byte
deriving DecidableEq, Repr

/-- Table 10-6: the record at an offset of a file. -/
def moduleRec (f : List Byte) (off : Nat) : ModuleRec :=
  { uid := leAt f off 8, cells := leAt f (off + 8) 4, temps := leAt f (off + 12) 1, set := leAt f (off + 13) 1,
    bytes := (f.drop off).take 32 }

/-- Table 10-6: the input that TEMP_ASSIGN gives a channel. -/
def ModuleRec.input (m : ModuleRec) (c : Nat) : Nat := (byteAt m.bytes (16 + c / 2)).toNat / 16 ^ (c % 2) % 16

/-- Table 10-5: N of a ring; 0 in an empty file. -/
def manifestN (f : List Byte) (r : Nat) : Nat := leAt f (32 + r) 1

/-- Table 10-5: the records of a ring, by position. -/
def manifestRing (f : List Byte) (r : Nat) : List ModuleRec :=
  let before := ((List.range r).map (manifestN f)).sum
  (List.range (manifestN f r)).map fun p => moduleRec f (48 + 32 * (before + p))

/-- The records of a file, in its order. -/
def manifestAll (f : List Byte) : List ModuleRec := (List.range 4).flatMap (manifestRing f)

/-- Number of set bits among the low `n`. -/
def popcount (n v : Nat) : Nat := ((List.range n).map fun k => b2n (bit v k)).sum

/-- Table 10-7 code 11: one byte of UTF-8: continuation bytes awaited and the bounds of the next one. -/
def utf8Step (st : Option (Nat × Nat × Nat)) (b : Byte) : Option (Nat × Nat × Nat) :=
  match st with
  | none => none
  | some (need, lo, hi) =>
    let v := b.toNat
    if need = 0 then
      if v < 0x80 then some (0, 0x80, 0xBF)
      else if v < 0xC2 then none
      else if v < 0xE0 then some (1, 0x80, 0xBF)
      else if v < 0xF0 then some (2, if v = 0xE0 then 0xA0 else 0x80, if v = 0xED then 0x9F else 0xBF)
      else if v < 0xF5 then some (3, if v = 0xF0 then 0x90 else 0x80, if v = 0xF4 then 0x8F else 0xBF)
      else none
    else if lo ≤ v ∧ v ≤ hi then some (need - 1, 0x80, 0xBF) else none

/-- Valid UTF-8. -/
def utf8Ok (bs : List Byte) : Bool :=
  match bs.foldl utf8Step (some (0, 0x80, 0xBF)) with | some (0, _, _) => true | _ => false

/-- Table 10-7 code 5. -/
def ModuleRec.masksOk (m : ModuleRec) : Bool :=
  ((List.range 18).any fun k => m.cells == 2 ^ (k + 1) - 1) && m.temps != 0

/-- Table 10-7 code 7. -/
def ModuleRec.assignOk (m : ModuleRec) : Bool :=
  (List.range 18).all fun c =>
    if bit m.cells c then decide (m.input c < 8) && bit m.temps (m.input c) else m.input c == 15

/-- Table 10-7 code 11, for a record. -/
def ModuleRec.reservedOk (m : ModuleRec) : Bool :=
  leAt m.bytes 14 2 == 0 && ((m.bytes.drop 25).take 7).all fun b => b == 0

/-- R333, Table 10-7: the first check that a manifest file fails, 0 where it fails none; `period` is the `TallyPeriod` it
is judged with. -/
def State.manifestCheck (s : State) (period : Nat) (f : List Byte) : Nat :=
  let ms := manifestAll f
  let ns := (List.range 4).map (manifestN f)
  let sum := ns.sum
  let cells (r : Nat) : Nat := ((manifestRing f r).map fun m => popcount 32 m.cells).sum
  let uids := (ms.map ModuleRec.uid).filter fun u => u != 0
  if f.length < 8 ∨ leAt f 0 4 ≠ 0x314D4251 ∨ leAt f 4 2 ≠ 1 ∨ leAt f 6 2 ≠ 48 then 1
  else if f.length < 52 ∨ leAt f 8 4 ≠ f.length ∨ f.length ≠ 52 + 32 * sum then 2
  else if crc32 (f.take (f.length - 4)) ≠ leAt f (f.length - 4) 4 then 3
  else if ns.any (fun n => decide (32 < n)) || sum == 0 || (List.range 4).any (fun r => manifestN f r != 0 && !s.has r) then 4
  else if !ms.all ModuleRec.masksOk then 5
  else if (List.range 4).any fun r => decide (512 < cells r) then 6
  else if !ms.all ModuleRec.assignOk then 7
  else if ms.any fun m => decide (3 < m.set) || s.gn O.tableSetState m.set != 1 then 8
  else if uids.eraseDups.length ≠ uids.length then 9
  else if period = 500 ∧ (List.range 4).any (fun r => decide (256 < cells r) || decide (16 < manifestN f r)) then 10
  else if ((f.drop 36).take 12).any (fun b => b != 0) || !ms.all ModuleRec.reservedOk || !utf8Ok (nameOf ((f.drop 16).take 16)) then 11
  else 0

/-! ### A manifest in force (R332, R335, R336) -/

/-- R332, Table 10-9: the objects of one module: its record, its first cell and the inputs of its cells. -/
def State.fillModule (s : State) (r p : Nat) (m : ModuleRec) (first : Nat) : State :=
  let s := s.putL O.manifestModule (monKey r p) [(m.uid : Nat), (m.cells : Nat), (m.temps : Nat), (m.set : Nat), (first : Nat)]
  forEach (List.range (popcount 18 m.cells)) s fun s c => s.put O.cellTempInput (first + c) (r * 256 + p * 8 + m.input c : Nat)

/-- R347: the decomposed objects of a ring. -/
def State.fillRing (f : List Byte) (s : State) (r : Nat) : State :=
  let ms := manifestRing f r
  let count (l : List ModuleRec) : Nat := (l.map fun m => popcount 18 m.cells).sum
  let s := forEach (List.range 32) s fun s p => s.undo O.manifestModule (monKey r p)
  let s := forEach (List.range 512) s fun s c => s.undo O.cellTempInput (r * 512 + c)
  let s := ((s.put O.manifestModuleCount r (ms.length : Nat)).put O.manifestCellCount r (count ms : Nat)).put O.manifestTempCount r
    ((ms.map fun m => popcount 8 m.temps).sum : Nat)
  forEach ms.zipIdx s fun s e => s.fillModule r e.2 e.1 (r * 512 + count (ms.take e.2))

/-- R336: a module whose cells keep their learned data. -/
def State.keepsModule (old new : State) (r p : Nat) : Bool :=
  let a (k : Nat) : Int := old.gm O.manifestModule (monKey r p) k
  let b (k : Nat) : Int := new.gm O.manifestModule (monKey r p) k
  decide (p < old.nMon r) && decide (p < new.nMon r) && a 3 == b 3 && a 1 == b 1 && (a 0 == b 0 || a 0 == 0 || b 0 == 0)

/-- R336: the cells kept, with their old and new global numbers. -/
def State.keptCells (old new : State) : List (Nat × Nat) :=
  (List.range 4).flatMap fun r => (List.range (new.nMon r)).flatMap fun p =>
    if old.keepsModule new r p then (new.channels r p).map fun c => (old.cellOf r p c, new.cellOf r p c) else []

/-- A map with its entries renumbered; the others go. -/
def remap {α : Type} (d : α) (m : SMap α) (l : List (Nat × Nat)) : SMap α :=
  l.foldl (fun n e => if mhas m e.1 then mins n e.2 (mget d m e.1) else n) []

/-- R336: learned data and acquisition state follow the modules that are kept; the rest of the cells start new. DESIGN CHOICE
(log entry 174): an epoch in flight is dropped, neither published nor counted as abandoned: the working buffer is that of the
last swap, and the next epoch spans the interval (R126). -/
def State.keepLearned (old new : State) : State :=
  let l := old.keptCells new
  let mon (k : Nat) : Bool := old.keepsModule new (k / 32) (k % 32)
  let same (c : Nat) : Bool := l.contains (c, c)
  let perCell (k : Nat) : Bool := match objRow (k / 65536) with
    | some o => o.stamp != .no && o.per == .div 512 | none => false
  let whole (r : Nat) : Bool := old.nMon r == new.nMon r && (List.range (new.nMon r)).all fun p => old.keepsModule new r p
  { new with
    objs := new.objs.filter fun e => !perCell e.1 || same (e.1 % 65536)
    cells := remap {} new.cells l
    temps := new.temps.filter fun e => mon (e.1 / 8)
    monitors := new.monitors.filter fun e => mon e.1
    fab := { new.fab with
      published := remap {} new.fab.published l, working := remap {} new.fab.published l,
      rest := new.fab.rest.filter fun e => whole e.1
      queues := [], eus := new.fab.eus.map fun e => (e.1, { e.2 with item := none })
      epochs := new.fab.epochs.map fun e => (e.1, { e.2 with inFlight := false, left := 0, ending := .none })
      reinit := new.fab.reinit.filter same, prevWords := [], steps := [] } }

/-- R336: a map of the estimator units keeps its canonical form when items end. -/
def State.trimEus (s : State) : State :=
  { s with fab := { s.fab with eus := s.fab.eus.filter fun e => e.2 != {} , epochs := s.fab.epochs.filter fun e => e.2 != {} } }

/-- R335 steps 2 and 3, R341: a manifest comes into force (an empty file: none is accepted): rings in it are enumerated, the
others are silent; learned data is kept or reset and the clusters are assigned. -/
def State.setManifest (s : State) (f : List Byte) : State :=
  let new : State := { s with fw := { s.fw with manifest := f, noManifest := f.isEmpty } }
  let new := (State.keepLearned s (forEach (List.range 4) new (State.fillRing f))).trimEus
  let new := forEach (List.range 4) new fun s r =>
    if s.nMon r = 0 then (s.put O.chainRingState r 0).ringUpd r fun x => { asleep := x.asleep || s.mooring }
    else if s.directs then s.enumStart r
    else (s.enumStart r).ringUpd r fun x => { x with enumStep := 0 }
  let new := forEach (s.strings.filter fun n => s.seqState n != 0 && !new.inManifest n) new fun s n => s.enterSeq n 0
  forEach s.strings (forEach s.strings new.assignClusters fun s n => (s.judgeWire n).judgeSuspects n) State.refreshEst

/-! ### Saving (R342, R343) -/

/-- R346: source 0xF3 with the newest image's SEQUENCE and the manifest's CRC. -/
def State.configRaise (s : State) (inst : Nat) : State := s.raise 0xF3 inst (le 4 s.flash.configSeq ++ le 4 s.manifestCrc)

/-- R343: the running configuration committed as a new image in the slot that does not hold the newest one. -/
def State.saveImage (s : State) : State :=
  let q := s.flash.configSeq + 1
  let slot := if s.flash.configSlot = 1 then 1 else 0
  State.eraseAll { s with flash := { s.flash with
    config := mins s.flash.config slot (s.imageOf s.runningEntries (s.entryCount savedObjs) q 0),
    configSeq := q, configSlot := slot + 1, configBad := false } } (32 + 16 * slot)

/-! ### What changed values set off -/

/-- The elements of an object that differ between two states. -/
def State.changed (s t : State) (i : Nat) : List Nat :=
  match objRow i with
  | none => []
  | some o => (List.range o.count).filter fun k => s.el i k != t.el i k

/-- R79: a new tally period: CONFIGURE goes to every monitor of a ring in use, whether its values change or not, and the
period takes effect once they have acknowledged. -/
def State.periodChange (s : State) : State :=
  let v := s.gn O.tallyPeriod 0
  if s.fw.newPeriod.getD s.fw.period = v then s else
  let s : State := { s with fw := { s.fw with newPeriod := some v, periodReady := false } }
  if !s.directs then s else
  forEach (s.strings.filter fun r => [3, 4].contains (s.gn O.chainRingState r)) s fun s r =>
    forEach ((List.range (s.nMon r)).filter fun p => (s.endOf r p).isSome) s fun s p =>
      (s.monUpd (monKey r p) fun m => { m with periodDue := true }).queueConfigure r p

/-- R283: the object of a timing record. -/
def timingObj (k : Nat) : Nat := if k = 0 then O.canNominalTiming else if k = 1 then O.canDataTiming else O.canTdc

/-- R283: an accepted timing record of a channel waits 100 ms for its moment; a later write of it starts its wait again. -/
def State.timingChange (s : State) (ch k : Nat) : State :=
  s.canUpd ch fun c => { c with timing := mins c.timing k (s.el (timingObj k) ch, s.mono) }

/-- R237: a driver whose role is no longer used is neither due nor overdue; one with a new role is due at once. -/
def State.roleSet (s : State) (d : Nat) : State :=
  if s.driverRole d = 3 then s.drvUpd d fun v => { v with dueNow := false, due := false, overdue := false } else s.makeDue d

/-- R31, Table 1-6: objects that the power die works with: fail-safe states, thresholds, the watchdog window and its own copies
of the safety configuration. -/
def powerObjs : List Nat :=
  copyObjs ++ [O.watchdogWindow, O.loadSwitchFailSafe, O.motorFailSafe, O.mdFailSafeSpeed, O.fastPathDebounce,
    O.fastChargeThreshold, O.fastDischargeThreshold, O.coilPullInCurrent, O.coilHoldCurrent, O.coilPullInTime]

/-- R315: PERIOD of a stream, µs. -/
def State.streamUs (s : State) (k : Nat) : Nat := (s.gm O.streamConfig k 4).toNat * 1000

/-- R315: a stream's next snapshot falls due at the next multiple of its PERIOD. -/
def State.streamStart (s : State) (k : Nat) : State :=
  let p := s.streamUs k
  { s with qlp := { s.qlp with streamAt := mins s.qlp.streamAt k (s.now / p * p) } }

/-- What the values that changed from `s` to `t` set off: drivers with a new role are due (R237), a pair that becomes used
starts (R225), timing waits (R283), the tally period is prepared (R79), the clock runs free under a new time source (R304), the
power die's copies, its hold currents and its PWM frequencies follow (R31, R244, R235, R251), and one 0xAD reports changed
safety values (R244). -/
def State.effects (s t : State) : State :=
  let u := forEach copyObjs t fun u i => u.copySafety i (s.changed t i)
  let u := forEach (powerObjs.filter fun i => !(s.changed t i).isEmpty) u fun u i => u.sayC 5 i
  let u := forEach (s.changed t O.coilHoldCurrent) u State.holdSet
  let u := forEach (s.changed t O.loadSwitchPwmFrequency) u State.pwmFollow
  let u := forEach (s.changed t O.contactorRole) u State.roleSet
  let u := forEach (s.changed t O.safetyInputMap) u fun u p =>
    if s.gn O.safetyInputMap p = 0 then u.pairStart p else if t.gn O.safetyInputMap p = 0 then u.pairReleased p else u
  let u := if (s.changed t O.safetyInputMap).isEmpty && (s.changed t O.contactorRole).isEmpty then u else u.safeOffApply
  let u := forEach [0, 1, 2] u fun u k => forEach (s.changed t (timingObj k)) u fun u ch => u.timingChange ch k
  let u := if (s.changed t O.tallyPeriod).isEmpty then u else u.periodChange
  let u := if (s.changed t O.timeSource).isEmpty then u else (u.undo O.timeSyncState 0).freeRun
  let u := forEach (s.changed t O.streamConfig) u State.streamStart
  if safetyObjs.any fun i => !(s.changed t i).isEmpty then u.raise 0xAD 0 else u

/-- R342: a write of values, `op` being what it stores: where `SafetyConfigCrc` covers one, the write needs every string open
and a save that can start, and commits it. -/
def State.storing (s : State) (covered : Bool) (op : State → State) : State × Nat :=
  if covered && !s.allOpen then refuse s 0x0401
  else if covered && !s.flashOk then refuse s 0x0404
  else
    let t := s.effects (op s)
    accept (if covered then t.saveImage.configRaise 0 else t)

/-! ### Configuration images (R344, R345) -/

/-- Table 10-8: an entry of an image. -/
structure ImageEntry where
  index : Nat
  sub : Nat
  count : Nat
  data : List Byte
deriving DecidableEq, Repr

/-- Table 10-8: exactly `n` entries that fill the bytes; none where they do not. -/
def imageEntries : Nat → List Byte → Option (List ImageEntry)
  | 0, bs => if bs.isEmpty then some [] else none
  | n + 1, bs =>
    let len := leAt bs 6 2
    if bs.length < 8 + len then none
    else (imageEntries n (bs.drop (8 + len))).map fun l =>
      { index := leAt bs 0 2, sub := leAt bs 2 2, count := leAt bs 4 2, data := (bs.drop 8).take len } :: l

/-- R345 code 5: an entry without elements, or of a wrong length. -/
def ImageEntry.badSize (e : ImageEntry) : Bool :=
  e.count == 0 || match objRow e.index with
    | none => false
    | some o => if o.ty.open' then e.count != 1 else e.data.length != e.count * o.ty.size

/-- R345 code 6: an element that does not exist, or an object that is not saved. -/
def State.badEntry (s : State) (e : ImageEntry) : Bool :=
  match objRow e.index with
  | none => true
  | some o => !o.saved || decide (o.count < e.sub + e.count) || (List.range e.count).any fun k => s.absent o (e.sub + k)

/-- The keys of the elements that an entry covers. -/
def ImageEntry.keys (e : ImageEntry) : List Nat := (List.range e.count).map fun k => okey e.index (e.sub + k)

/-- The values that an entry gives its elements. -/
def ImageEntry.values (e : ImageEntry) : List (Nat × List Int) :=
  match objRow e.index with
  | none => []
  | some o =>
    if o.ty.open' then [(e.sub, o.ty.unpack e.data)]
    else (List.range e.count).map fun k => (e.sub + k, o.ty.unpack ((e.data.drop (k * o.ty.size)).take o.ty.size))

/-- R345: the running values that an import keeps: the links of 0x8000 to 0x80FF. -/
def linkObj (i : Nat) : Bool := 0x8000 ≤ i && i ≤ 0x80FF

/-- R341, R345: every saved object but the links at its default. -/
def State.savedDefaults (s : State) : State :=
  { s with objs := s.objs.filter fun e =>
      linkObj (e.1 / 65536) || !(match objRow (e.1 / 65536) with | some o => o.saved | none => false) }

/-- R345, R38, R39: one value stored; locked routing words keep the device's own. -/
def State.storeValue (s : State) (i sub : Nat) (v : List Int) : State :=
  if i = O.manifestFile then s
  else if i = O.eventRoute then
    if sourceLocked sub then s else s.put O.eventRoute sub ((v.headD 0) / 2 * 2)
  else s.putL i sub v

/-- R345: the entries applied over the defaults. -/
def State.applyEntries (s : State) (l : List ImageEntry) : State :=
  forEach l s.savedDefaults fun s e => forEach e.values s fun s v => s.storeValue e.index v.1 v.2

/-- The manifest that entries carry; empty where they carry none. -/
def entriesManifest (l : List ImageEntry) : List Byte :=
  match l.find? fun e => e.index == O.manifestFile with | some e => e.data | none => []

/-- R345 code 8, R290: a value of an image fails the checks of its object, other than ordering; `t` is the resulting
configuration. An element at its default passes, as the image of a device that runs it must (log entry 21). -/
def State.badValue (s t : State) (i sub : Nat) (v : List Int) : Bool :=
  match objRow i with
  | none => true
  | some o =>
    if i = O.manifestFile then false
    else if i = O.eventRoute then
      let w := (v.headD 0).toNat
      if sourceLocked sub then w != t.route sub
      else bits w 31 20 != 0 || bits w 7 1 != 0 || (s.variant == .qb1024 && bits w 19 18 != 0)
    else if i = O.qlpNodeId && v == [0] then s.nodeId != 0
    else if v == objDefault s.variant i sub then t.relationCheck i sub != 0
    else if i = O.tallyPeriod then
      let x := (v.headD 0).toNat
      decide (x < 500) || decide (10000 < x) || x % 500 != 0
    else encodeCheck o v != 0 || s.rangeCheck o sub v != 0 || t.relationCheck i sub != 0

/-- R345: the checks on the entries, codes 5 to 10, with the entry each concerns. -/
def State.entriesCheck (s : State) (l : List ImageEntry) : Nat × Nat :=
  let z := l.zipIdx
  let t := s.applyEntries l
  let at' (p : ImageEntry × Nat → Bool) : Option Nat := (z.find? p).map fun e => e.2
  match at' fun e => e.1.badSize with
  | some k => (5, k)
  | none => match at' fun e => s.badEntry e.1 with
    | some k => (6, k)
    | none => match at' fun e => (z.take e.2).any fun d => e.1.keys.any d.1.keys.contains with
      | some k => (7, k)
      | none => match at' fun e => e.1.values.any fun v => s.badValue t e.1.index v.1 v.2 with
        | some k => (8, k)
        | none =>
          if (s.strings.any fun n => !t.limitsOrdered n) || !t.vmotOrdered then (9, 0)
          else
            let m := entriesManifest l
            if !m.isEmpty && t.manifestCheck (t.gn O.tallyPeriod 0) m != 0 then
              (10, ((z.find? fun e => e.1.index == O.manifestFile).map fun e => e.2).getD 0)
            else (0, 0)

/-- R345: the first check that an image fails, with its entry (0 for checks of the whole image); 0 where it fails none. -/
def State.imageCheck (s : State) (img : List Byte) : Nat × Nat :=
  let n := img.length
  if n < 32 ∨ leAt img 0 4 ≠ 0x31434251 ∨ leAt img 4 2 ≠ 1 ∨ leAt img 6 2 ≠ 32 ∨ 2 ≤ leAt img 20 4 then (1, 0)
  else if n < 36 then (2, 0)
  else match imageEntries (leAt img 14 2) ((img.take (n - 4)).drop 32) with
    | none => (2, 0)
    | some l =>
      if leAt img 8 4 ≠ n ∨ 65535 < n then (2, 0)
      else if crc32 (img.take (n - 4)) ≠ leAt img (n - 4) 4 then (3, 0)
      else if leAt img 12 2 ≠ s.variantCode then (4, 0)
      else s.entriesCheck l

/-- The entries of an image. -/
def entriesOf (img : List Byte) : List ImageEntry :=
  (imageEntries (leAt img 14 2) ((img.take (img.length - 4)).drop 32)).getD []

/-- R341, R345: a configuration and its manifest come into force: what changed sets off its effects; `commit` saves it first. -/
def State.adopt (s t : State) (manifest : List Byte) (commit : Bool) : State :=
  let t := if t.nodeId = 0 then t.put O.qlpNodeId 0 (s.nodeId : Nat) else t
  let u := s.effects t
  let u := if commit then
    State.saveImage { u with fw := { u.fw with manifest := manifest } } else u
  let u : State := { u with fw := { u.fw with manifest := s.fw.manifest } }
  if manifest = s.fw.manifest && manifest.isEmpty = s.fw.noManifest then u else u.setManifest manifest

/-- R280: after an answer that follows a change of the node ID, transfers and the session end. -/
def withNode (s : State) : Host.Outcome State Fault Refusal → Host.Outcome State Fault Refusal
  | .next t => .next (if s.nodeId = t.nodeId then t else t.nodeChange)
  | o => o

/-! ### Manifest and configuration commands -/

/-- R334: the conditions of a manifest or image write: 0x0401, 0x0405; then the save of R335 must be able to start. -/
def State.manifestGate (s : State) : Nat :=
  if !s.allOpen then 0x0401 else if !([1, 3].contains s.lifecycle) then 0x0405 else if !s.flashOk then 0x0404 else 0

/-- R335: a manifest that passed its checks: committed as a save, then in force. -/
def State.commitManifest (s : State) (f : List Byte) : State :=
  let t := State.saveImage { s with fw := { s.fw with manifest := f } }
  let t : State := { t with fw := { t.fw with manifest := s.fw.manifest } }
  (t.setManifest f).configRaise 4

/-- MANIFEST_FILE_WRITE (R333 to R335). -/
def State.manifestWrite (s : State) (f : List Byte) : State × Nat :=
  if s.manifestGate ≠ 0 then refuse s s.manifestGate
  else
    let c := s.manifestCheck (s.gn O.tallyPeriod 0) f
    let s := s.put O.manifestLoadError 0 c
    if c ≠ 0 then refuse s 0x0306 else accept (s.commitManifest f)

/-- MANIFEST_FILE_WRITE (R335). -/
def execManifestFileWrite (req : Req) (file : List Byte) (s : State) : Host.Outcome State Fault Refusal :=
  s.request req O.manifestFile 0 fun s => s.manifestWrite file

/-- The bytes of a list with some of them replaced from an offset. -/
def patch (bs : List Byte) (off : Nat) (new : List Byte) : List Byte := bs.take off ++ new ++ bs.drop (off + new.length)

/-- R339: the manifest with the found UIDs of the named rings in records whose UID is 0, REVISION one higher, a new CRC. -/
def State.adoptedFile (s : State) (mask : Nat) : List Byte :=
  let f := s.fw.manifest
  let off (r p : Nat) : Nat := 48 + 32 * (((List.range r).map (manifestN f)).sum + p)
  let f := ((List.range 4).filter fun r => bit mask r).foldl (fun f r => (List.range (s.nMon r)).foldl (fun f p =>
    if leAt f (off r p) 8 = 0 then patch f (off r p) (le 8 (s.mon (monKey r p)).uid) else f) f) f
  let f := patch f 12 (le 4 ((leAt f 12 4 + 1) % 2 ^ 32))
  let body := f.take (f.length - 4)
  body ++ le 4 (crc32 body)

/-- R339: a ring whose monitors were all found. -/
def State.uidsFound (s : State) (r : Nat) : Bool :=
  [3, 4].contains (s.gn O.chainRingState r) && (List.range (s.nMon r)).all fun p => (s.mon (monKey r p)).uid != 0

/-- R339: the found UIDs taken into the manifest, which is saved. While no manifest has been accepted there is no file to
take them into, and none comes about (log entry 167). -/
def State.commitUids (s : State) (mask : Nat) : State :=
  if s.fw.noManifest then s else
  let f := s.adoptedFile mask
  let s : State := { s with fw := { s.fw with manifest := f } }
  let s := forEach (List.range 4) s (State.fillRing f)
  s.saveImage.configRaise 5

/-- MANIFEST_ADOPT_UIDS (R339, R474). -/
def State.adoptUids (s : State) (mask : Nat) : State × Nat :=
  let named := (List.range 4).filter fun r => bit mask r
  if 16 ≤ mask then refuse s 0x0305
  else if s.manifestGate ≠ 0 then refuse s s.manifestGate
  else if named.any fun r => s.has r && !s.uidsFound r then refuse s 0x0403
  else if named.any fun r => !s.has r then refuse s 0x0301
  else accept (s.commitUids mask)

/-- MANIFEST_ADOPT_UIDS (R339). -/
def execManifestAdoptUids (req : Req) (mask : Byte) (s : State) : Host.Outcome State Fault Refusal :=
  s.request req O.manifestAdoptUids 0 fun s => s.adoptUids mask.toNat

/-- R341: life-cycle states in which `ConfigCommand` is accepted. -/
def State.configLife (s : State) : Bool := [1, 2, 3].contains s.lifecycle

/-- CONFIG_SAVE (R341, R343). -/
def State.configSave (s : State) : State × Nat :=
  if !s.configLife then refuse s 0x0405
  else if !s.flashOk then refuse s 0x0404
  else accept (s.saveImage.configRaise 0)

/-- CONFIG_SAVE (R343). -/
def execConfigSave (req : Req) (s : State) : Host.Outcome State Fault Refusal := s.request req O.configCommand 0 State.configSave

/-- CONFIG_FACTORY_DEFAULTS (R341). -/
def State.configDefaults (s : State) : State × Nat :=
  if !s.configLife then refuse s 0x0405
  else if !s.allOpen then refuse s 0x0401
  else accept ((s.adopt s.savedDefaults [] false).configRaise 2)

/-- CONFIG_FACTORY_DEFAULTS (R341). -/
def execConfigFactoryDefaults (req : Req) (s : State) : Host.Outcome State Fault Refusal :=
  s.request req O.configCommand 0 State.configDefaults

/-- R343: an image is valid: its checks pass, a manifest it carries among them. One that was saved before a node ID was
assigned stays valid. -/
def State.imageValid (s : State) (img : List Byte) : Bool := ((s.put O.qlpNodeId 0 0).imageCheck img).1 == 0

/-- R343: the valid image with the highest SEQUENCE, and its slot. -/
def State.bootImage (s : State) : Option (Nat × List Byte) :=
  let l := ([0, 1].map fun k => (k, mget [] s.flash.config k)).filter fun e => !e.2.isEmpty && s.imageValid e.2
  match l with
  | [] => none
  | e :: es => some (es.foldl (fun a b => if leAt a.2 16 4 < leAt b.2 16 4 then b else a) e)

/-- CONFIG_DISCARD (R341): the newest valid saved image applied again; without one, as for factory defaults. -/
def State.configDiscard (s : State) : State × Nat :=
  if !s.configLife then refuse s 0x0405
  else if !s.allOpen then refuse s 0x0401
  else match s.bootImage with
    | none => s.configDefaults
    | some (k, img) =>
      let s : State := { s with flash := { s.flash with configSlot := k + 1, configSeq := leAt img 16 4 } }
      let l := entriesOf img
      accept ((s.adopt (s.applyEntries l) (entriesManifest l) false).configRaise 1)

/-- CONFIG_DISCARD (R341). -/
def execConfigDiscard (req : Req) (s : State) : Host.Outcome State Fault Refusal :=
  withNode s (s.request req O.configCommand 0 State.configDiscard)

/-- R345: an image that passed its checks: applied, committed and reported, its manifest first where it is a new one. -/
def State.importImage (s : State) (img : List Byte) : State :=
  let l := entriesOf img
  let m := entriesManifest l
  let new := m != s.fw.manifest
  let t := s.adopt (s.applyEntries l) m true
  let t := if new then t.configRaise 4 else t
  t.configRaise 3

/-- CONFIG_IMAGE_IMPORT (R345). -/
def State.imageImport (s : State) (img : List Byte) : State × Nat :=
  if s.manifestGate ≠ 0 then refuse s s.manifestGate
  else
    let c := s.imageCheck img
    let s := s.putL O.configLoadError 0 [(c.1 : Nat), (c.2 : Nat)]
    if c.1 ≠ 0 then
      let m := entriesManifest (entriesOf img)
      refuse (if c.1 = 10 then s.put O.manifestLoadError 0 ((s.applyEntries (entriesOf img)).manifestCheck
        ((s.applyEntries (entriesOf img)).gn O.tallyPeriod 0) m : Nat) else s) 0x0306
    else accept (s.importImage img)

/-- CONFIG_IMAGE_IMPORT (R345). -/
def execConfigImageImport (req : Req) (image : List Byte) (s : State) : Host.Outcome State Fault Refusal :=
  withNode s (s.request req O.configImage 0 fun s => s.imageImport image)

/-- TALLY_PERIOD_WRITE (R79, R322, R342): a covered value, saved before it is answered. -/
def State.tallyPeriod (s : State) (v : Nat) : State × Nat :=
  if !s.allOpen then refuse s 0x0401
  else if !s.flashOk then refuse s 0x0404
  else if !s.periodOk v then refuse s 0x0301
  else s.storing true fun s => s.put O.tallyPeriod 0 (v : Nat)

/-- TALLY_PERIOD_WRITE (R79). -/
def execTallyPeriodWrite (req : Req) (value : Nat) (s : State) : Host.Outcome State Fault Refusal :=
  s.request req O.tallyPeriod 0 fun s => s.tallyPeriod value

end Sys2Proof.Machine
end

