-- ==== Sys2Proof/Machine/Duplex.lean ====
section
/-! DEFINITION. Sys2Proof/Machine/Duplex.lean: duplex pairs and the berth (chapter 11): the claim (R349 to R359), the duplex
link (R360, R361), mirroring (R362 to R364), rings seen from both ends (R365 to R369), hand-over and revert (R370 to
R374), the contactor step of every tally (R205), and the meanings of their commands. -/

namespace Sys2Proof.Machine

/-! ### Outputs that change hands (R354, R357, R373) -/

/-- R354: the outgoing device releases its outputs: no de-energisation, no load break, no FAILSAFE_OPENED. -/
def State.releaseOutputs (s : State) : State :=
  let s := forEach (List.range 12) s fun s d =>
    s.drvUpd d fun v => { v with energised := false, hold := false, pulse := 0, hs := false, ls := false, failsafe := false }
  let s := s.outputsOff
  { s with dup := { s.dup with quietAt := s.mono, noTaker := false } }

/-- R354: a driver drives its mirrored state: a coil already held energises directly at hold current. -/
def State.driveDriver (s : State) (d : Nat) (m : MirrorDriver) : State :=
  if !m.energised || s.safeOff (s.stringOf d) then s
  else if m.hold then (s.drvOn d).drvHold d else s.drvOn d

/-- R353, R373: the shadow states driven; a motor channel with a speed command starts from rest and consumes no retry. -/
def State.driveShadow (s : State) : State :=
  match s.dup.shadow with
  | none => s
  | some m =>
    let s := forEach m.drivers.zipIdx s fun s e => s.driveDriver e.2 e.1
    let s := forEach m.ls.zipIdx s fun s e => s.lsApply e.2 e.1.1 e.1.2.1 e.1.2.2
    forEach (m.motors.zipIdx.filter fun e => s.has e.2) s fun s e =>
      let n := e.2
      let s := s.motUpd n fun x => { x with cmd := min e.1.1 (s.mdMax n), failsafe := false }
      if e.1.1 = 0 || (s.mot n).barred then s else s.mdStep n 5

/-- R357: every source with TRIP that is still active trips its strings when the device takes the berth. -/
def State.berthTrips (s : State) : State :=
  forEach s.ev.latched s fun s l => forEach s.strings s fun s n =>
    if bit l.word (16 + n) && s.seqState n != 9 then s.tripString n l.src l.inst else s

/-- R309, R315, R359: lighthouse frames and streams start with the next due instant. -/
def State.cyclesStart (s : State) : State :=
  let p := s.gn O.lighthousePeriod 0 * 1000
  let s := forEach [0, 1] s fun s ch => s.canUpd ch fun c => { c with sched := s.now / p * p }
  forEach (List.range 8) s State.streamStart

/-- R352, R376: the claim is asserted; `inst` is what 0xEA will say (0 start-up, 1 graceful, 2 failure, 3 revert). R369: the
device's own sweeps of rings that its partner headed end with it. -/
def State.claimNow (s : State) (inst : Nat) : State :=
  let gap := s.mono - s.dup.berthAt
  let s : State := { s with dup := { s.dup with
    out := true, claim := .held, taken := inst + 1, refreshAt := s.mono, armed := false, quietAt := s.mono + 2000, noTaker := false,
    lockHolding := false } }
  let s := if s.cd && inst != 0 then
      (s.bump O.handoverCount 0).putL O.lastHandover 0 [if inst = 1 then 0 else if inst = 2 then 1 else 2, (s.now : Nat), (gap : Nat)]
    else s
  let s := forEach s.strings s fun s r => s.ringUpd r fun x => { x with takeover := false }
  if s.running then s.cyclesStart else s

/-- R357: a device that has taken the berth, its outputs driven, acts on the trips that are still active. -/
def State.claimTrips (s : State) : State := if s.running then s.berthTrips else s

/-! ### The claim (Table 11-1) -/

/-- BERTH_IN_CHANGE (R349, R352): a level that has held for 2 µs. A fall makes an armed device claim and drive its shadow
states; the conflict timer of a rise runs from `berthAt`. -/
def State.berthChange (s : State) (level : Bool) : State :=
  let s : State := { s with dup := { s.dup with berthIn := level, berthAt := s.mono } }
  if !level && s.dup.claim == .released && s.dup.armed && !s.quiet then
    let inst := if s.dup.handover = 2 then (if s.dup.revert then 3 else 1) else 2
    let s := (s.claimNow inst).driveShadow.claimTrips
    if s.running then s.dupSend (.handover 3 s.dup.handoverTally) else s
  else s

/-- BERTH_IN_CHANGE (R349, R352). -/
def execBerthInChange (level : Bool) (s : State) : Host.Outcome State Fault Refusal :=
  doneIf (s.pwr.pdUp && s.dup.berthIn != level)
    (if s.dup.mode = 0 || s.moored then { s with dup := { s.dup with berthIn := level, berthAt := s.mono } }
     else s.berthChange level) s

/-- CLAIM_WAIT_EXPIRY (R352): a requested claim after `BERTH_IN` has been low for the claim wait. -/
def execClaimWaitExpiry (s : State) : Host.Outcome State Fault Refusal :=
  doneIf (s.pd && s.dup.mode != 0 && s.dup.claim == .released && s.dup.request && s.trusts && !s.dup.berthIn &&
    s.past s.dup.berthAt (if s.dup.pref then 100000 else 1000000) && !s.quiet) (s.claimNow 0).claimTrips s

/-- R352: a withdrawal by conflict; the third within 10 s locks the claim out. -/
def State.conflictWithdraw (s : State) : State :=
  let l := (s.dup.conflicts.filter fun t => decide (s.mono < t + 10000000)) ++ [s.mono]
  let lock := decide (3 ≤ l.length)
  let s := State.withdraw { s with dup := { s.dup with conflicts := l } } 3 lock
  let s := s.tell 0xEE (if lock then 2 else if s.dup.pref then 1 else 0)
  if s.cd then (s.bump O.berthConflicts 0).putL O.lastHandover 0 [3, (s.now : Nat), 0] else s

/-- CLAIM_CONFLICT_WITHDRAW (R352): `BERTH_IN` high for 10 µs, or 100 µs at the preferred device. -/
def execClaimConflictWithdraw (s : State) : Host.Outcome State Fault Refusal :=
  doneIf (s.pd && s.dup.mode != 0 && s.dup.claim == .held && s.dup.berthIn &&
    s.past s.dup.berthAt (if s.dup.pref then 100 else 10)) s.conflictWithdraw s

/-- CLAIM_REFRESH_TIMEOUT (R352, R353): the last refresh is 10 ms old. -/
def execClaimRefreshTimeout (s : State) : Host.Outcome State Fault Refusal :=
  doneIf (s.pd && s.dup.mode != 0 && s.dup.claim == .held && s.past s.dup.refreshAt 10000) (s.withdraw 1 false) s

/-- R352: holding ends: released, or lockout. -/
def State.endHolding (s : State) : State := { s with dup := { s.dup with claim := s.dup.atRest, lockHolding := false } }

/-- R375: the activation that waited for the release is answered and runs. -/
def State.activateWaiting (s : State) : State :=
  match s.fw.activating with
  | none => s
  | some (q, m) =>
    if s.flashOk then (s.answerLate q m O.firmwareCommand 0).activateNow
    else State.answerLate { s with fw := { s.fw with activating := none } } q m O.firmwareCommand 0x0404

/-- R375: the activation that waited for a hand-over is refused with it. -/
def State.activateRefused (s : State) : State :=
  match s.fw.activating with
  | none => s
  | some (q, m) => State.answerLate { s with fw := { s.fw with activating := none } } q m O.firmwareCommand 0x0406

/-- HOLDING_RELEASE (R352, R354, R357, R375): `BERTH_IN` high for 2 ms, while holding or with the fail-safe states kept. -/
def execHoldingRelease (s : State) : Host.Outcome State Fault Refusal :=
  doneIf (s.pd && s.dup.mode != 0 && (s.holds || s.dup.noTaker) && s.dup.berthIn && s.past s.dup.berthAt 2000)
    s.releaseOutputs.endHolding.activateWaiting s

/-- R352, R357, R194: no taker: the stored fail-safe states, contactors open. -/
def State.noTaker (s : State) : State :=
  let s := (s.applyFailSafe 0).endHolding
  let s := State.tell { s with dup := { s.dup with noTaker := true, quietAt := s.mono } } 0xEC 0
  if s.running then s.failSafeStrings 0xEC else s

/-- HOLDING_TIMEOUT (R352, R357): 20 ms since the withdrawal. -/
def execHoldingTimeout (s : State) : Host.Outcome State Fault Refusal :=
  doneIf (s.pd && s.dup.mode != 0 && s.holds && s.past s.dup.holdAt 20000 && !(s.dup.berthIn && s.past s.dup.berthAt 2000))
    s.noTaker s

/-- ARMING_REFRESH_TIMEOUT (R353): the last refresh with arming is more than 10 ms old. -/
def execArmingRefreshTimeout (s : State) : Host.Outcome State Fault Refusal :=
  doneIf (s.pd && s.dup.mode != 0 && s.dup.armed && (s.past s.dup.armAt 10001 || s.past s.dup.shadowAt 10001))
    { s with dup := { s.dup with armed := false, arming := false } } s

/-! ### Mirroring (R362) -/

/-- Table 11-3: the mirrored state. -/
def State.mirrorNow (s : State) : Mirror :=
  { drivers := (List.range 12).map fun d =>
      { energised := (s.drv d).energised, hold := (s.drv d).hold, weld := s.gn O.weldState d, proofTime := s.gn O.openingProofTime d,
        breakCount := s.gn O.loadBreakCount d, breakPeak := s.gn O.loadBreakPeak d },
    strings := (List.range 4).map fun n =>
      { state := s.seqState n, tripCause := s.el O.tripCause n, precharge := s.el O.prechargeResult n,
        cooldown := match (s.str n).cooldownEnd with | some t => t - s.mono | none => 0,
        failAges := ((s.str n).fails.filter fun t => decide (s.mono < t + 900000000)).map fun t => s.mono - t,
        openDeadline := s.gn O.openDeadline n },
    ls := (List.range 16).map fun n => (s.gn O.loadSwitchCommand n, s.gn O.loadSwitchPwmDuty n, s.gn O.loadSwitchPwmFrequency n),
    motors := (List.range 4).map fun n => (s.gn O.motorSpeedCommand n, s.gn O.motorDirection n),
    latched := (s.ev.latched.filter fun l => l.trip != 0).map fun l => l.src,
    auth := (List.range 128).map fun k => s.gn O.moduleAuthState k }

/-- R362: a MIRROR frame. -/
def State.sendMirror (s : State) : State :=
  State.dupSend { s with dup := { s.dup with acted := false } } (.mirror s.mirrorNow)

/-- R362: `MIRROR` follows an accepted output command (within 50 µs: at the next microsecond of local time). -/
def State.mirrorOutputs (s : State) : State :=
  if s.running && s.dup.mode != 0 && s.dup.out && s.dup.handover != 2 && s.dup.acted then s.sendMirror else s

/-- Table 11-3: the mirrored state of a driver adopted. -/
def State.adoptDriver (s : State) (d : Nat) (m : MirrorDriver) : State :=
  let changed := s.gn O.weldState d != m.weld
  let n := s.driverString d
  let s := if changed && !mhas s.flash.weldDirty n then
      { s with flash := { s.flash with weldDirty := mins s.flash.weldDirty n s.mono } } else s
  let proven := (changed && m.weld == 1) || s.gn O.openingProofTime d != m.proofTime
  let s := if proven then s.drvUpd d fun v => { v with due := false, overdue := false, dueNow := false } else s
  (((s.put O.weldState d (m.weld : Nat)).put O.openingProofTime d (m.proofTime : Nat)).put O.loadBreakCount d (m.breakCount : Nat)).put
    O.loadBreakPeak d (m.breakPeak : Nat)

/-- Table 11-3: the mirrored state of a string adopted. -/
def State.adoptString (s : State) (n : Nat) (m : MirrorString) : State :=
  let s := if s.seqState n = m.state then s else (s.enterSeq n m.state)
  let s := ((s.putL O.tripCause n m.tripCause).putL O.prechargeResult n m.precharge).put O.openDeadline n (m.openDeadline : Nat)
  s.strUpd n fun x => { x with
    cooldownEnd := if m.cooldown = 0 then none else some (s.mono + m.cooldown), fails := m.failAges.map fun a => s.mono - a
    rampEnd := s.mono + (m.openDeadline - s.now) }

/-- R362: a standby adopts every item and keeps the output states as shadow states. Of the sources with TRIP those that the
holder has acknowledged end with its MIRROR, and those that only the standby has latched stay (R357). -/
def State.adoptMirror (s : State) (m : Mirror) : State :=
  let s := forEach m.drivers.zipIdx s fun s e => s.adoptDriver e.2 e.1
  let s := forEach (m.strings.zipIdx.filter fun e => s.has e.2) s fun s e => s.adoptString e.2 e.1
  let s := forEach m.ls.zipIdx s fun s e =>
    ((s.put O.loadSwitchCommand e.2 (e.1.1 : Nat)).put O.loadSwitchPwmDuty e.2 (e.1.2.1 : Nat)).put O.loadSwitchPwmFrequency e.2 (e.1.2.2 : Nat)
  let s := forEach (m.motors.zipIdx.filter fun e => s.has e.2) s fun s e =>
    (s.put O.motorSpeedCommand e.2 (e.1.1 : Nat)).put O.motorDirection e.2 (e.1.2 : Nat)
  let s := forEach m.auth.zipIdx s fun s e => if s.has (e.2 / 32) then s.put O.moduleAuthState e.2 (e.1 : Nat) else s
  let kept := (s.ev.latched.filter fun l => l.trip == 0 || !l.mirrored || m.latched.contains l.src).map fun l : Latch =>
    { l with mirrored := l.mirrored || m.latched.contains l.src }
  let new := (m.latched.filter fun src => !s.ev.latched.any fun l => l.src == src).map fun src =>
    ({ src := src, word := s.route src, mirrored := true } : Latch)
  { s with
    ev := { s.ev with latched := (kept ++ new).mergeSort fun a b => decide (a.src ≤ b.src) },
    dup := { s.dup with shadow := some m, mirrorAt := s.mono } }

/-! ### Frames of the duplex link (R360, R361) -/

/-- The items of Table 11-3 as numbers. -/
def mirrorItems (m : Mirror) : List Int :=
  (m.drivers.flatMap fun d =>
    [(b2n d.energised : Int), b2n d.hold, d.weld, d.proofTime, d.breakCount, d.breakPeak]) ++
  (m.strings.flatMap fun x =>
    [(x.state : Int)] ++ x.tripCause ++ x.precharge ++ [(x.cooldown : Int)] ++ (x.failAges.map fun a => (a : Int)) ++ [(x.openDeadline : Int)]) ++
  (m.ls.flatMap fun l => [(l.1 : Int), l.2.1, l.2.2]) ++ (m.motors.flatMap fun x => [(x.1 : Int), x.2]) ++
  (m.latched.map fun k => (k : Int)) ++ m.auth.map fun k => (k : Int)

/-- Table 11-2: TYPE. -/
def dupType : DupFrame → Nat
  | .handover _ _ => 1
  | .chainReq _ _ _ => 2
  | .chainFwd _ _ _ => 3
  | .tally _ _ _ => 4
  | .mirror _ => 5
  | .hello _ => 6
  | .ringDelays _ => 7

/-- Table 11-2: the payload of a frame: its content in the table's order, packed by R7 in the widths of the objects (DEDUCED,
log entry 168); of MIRROR the manual gives no layout. -/
def dupPayload : DupFrame → List Byte
  | .handover kind tally => le 1 kind ++ le 4 tally
  | .chainReq r f latest => le 1 r ++ f ++ le 8 latest
  | .chainFwd r time f => le 1 r ++ le 8 time ++ f
  | .tally index period time => le 4 index ++ le 2 period ++ le 8 time
  | .mirror m => (Config.mirrorPayload (mirrorItems m)).take 256
  | .hello h =>
    le 1 (b2n h.preferred) ++ le 1 h.duplexMode ++ le 1 h.berthState ++ le 2 h.dictVersion ++ le 4 h.configCrc ++
      (h.tableCrcs.flatMap fun c => le 4 c) ++ le 1 h.nodeId
  | .ringDelays p => p

/-- R360: TYPE, LEN and payload. -/
def dupBody (f : DupFrame) : List Byte := le 1 (dupType f) ++ le 2 (dupPayload f).length ++ dupPayload f

/-- R360: a frame from TYPE to CRC. -/
def dupBytes (f : DupFrame) : List Byte := dupBody f ++ le 4 (crc32 (dupBody f))

/-- R360, R361: LEN is that of the payload, at most 256, and the CRC is right. -/
def dupIntact (f : DupFrame) (t : DupTail) : Bool :=
  t.len == (dupPayload f).length && decide (t.len ≤ 256) && t.crc == crc32 (dupBody f)

/-- R361: a frame with a CRC error is discarded and counted; a valid one keeps the link. -/
def State.dupFrame (s : State) (crcOk : Bool) (f : State → State) : Host.Outcome State Fault Refusal :=
  if !(s.running && s.dup.mode != 0) then done s
  else if !crcOk then
    done (State.bump { s with dup := { s.dup with validSince := if s.dup.up then s.dup.validSince else s.mono } } O.duplexLinkErrors 0)
  else
    let gap := s.dup.validAt = 0 || s.past s.dup.validAt 1000
    done (f { s with dup := { s.dup with validAt := s.mono, validSince := if gap then s.mono else s.dup.validSince } })

/-- DUPLEX_LINK_DOWN (R361): 1 ms without a valid frame. -/
def execDuplexLinkDown (s : State) : Host.Outcome State Fault Refusal :=
  doneIf (s.running && s.dup.mode != 0 && s.dup.up && s.past s.dup.validAt 1000)
    (State.raise { s with dup := { s.dup with up := false } } 0xED 0) s

/-- DUPLEX_LINK_UP (R361): 100 ms of valid frames. -/
def execDuplexLinkUp (s : State) : Host.Outcome State Fault Refusal :=
  doneIf (s.running && s.dup.mode != 0 && !s.dup.up && s.dup.validAt != 0 && !s.past s.dup.validAt 1000 &&
    s.past s.dup.validSince 100000) (State.raise { s with dup := { s.dup with up := true } } 0xED 1) s

/-- R360: HELLO's content. -/
def State.helloNow (s : State) : Hello :=
  { preferred := s.dup.pref, duplexMode := s.dup.mode, berthState := s.berthState, dictVersion := 0x0100, configCrc := s.duplexCrc,
    tableCrcs := (List.range 4).map fun k => s.gn O.tableSetCrc k, nodeId := s.nodeId }

/-- R361: the ring ends whose delays are sent in turn, ring × 2 + end. -/
def State.ringEnds (s : State) : List Nat := (s.strings.filter fun r => s.nMon r != 0).flatMap fun r => [r * 2, r * 2 + 1]

/-- R361, Table 11-2: RING_DELAYS of a ring end. -/
def State.delaysOf (s : State) (e : Nat) : List Byte :=
  le 1 (e / 2) ++ le 1 (e % 2) ++ ((List.range 32).flatMap fun k => le 2 (s.gn O.hopDelay (e / 2 * 64 + e % 2 * 32 + k))) ++
    le 2 (s.gn O.ringRoundTrip (e / 2))

/-- R361: HELLO, then RING_DELAYS of one ring end, in turn. -/
def State.helloSend (s : State) : State :=
  let t := s.dupSend (.hello s.helloNow)
  let l := s.ringEnds
  if l.isEmpty then t else
    let e := (l.find? fun e => decide (s.dup.nextEnd ≤ e)).getD (l.headD 0)
    State.dupSend { t with dup := { t.dup with nextEnd := e + 1 } } (.ringDelays (s.delaysOf e))

/-- DUPLEX_HELLO_SEND (R361): with nothing else to send for 100 µs. -/
def execDuplexHelloSend (s : State) : Host.Outcome State Fault Refusal :=
  doneIf (s.running && s.dup.mode != 0 && s.dup.sent.isEmpty && s.past s.dup.sentAt 100) s.helloSend s

/-- R364: the match as a HELLO shows it. -/
def State.helloMatches (s : State) (h : Hello) : Bool :=
  h.preferred != s.dup.pref && h.duplexMode == 1 && s.dup.mode == 1 && h.dictVersion == 0x0100 && h.configCrc == s.duplexCrc &&
    h.tableCrcs == (List.range 4).map fun k => s.gn O.tableSetCrc k

/-- HELLO (R364): partner data; the match is judged while the link is up, and a change of it raises 0xEF. -/
def State.takeHello (s : State) (h : Hello) : State :=
  let s : State := { s with dup := { s.dup with hello := some h } }
  let m := s.helloMatches h
  if !s.dup.up || m == s.dup.matched then s
  else
    State.raise { s with dup := { s.dup with matched := m } } 0xEF (if m then 2 else if h.preferred == s.dup.pref then 1 else 0)

/-- HELLO (R364). -/
def execHello (h : Hello) (tail : DupTail) (s : State) : Host.Outcome State Fault Refusal :=
  s.dupFrame (dupIntact (.hello h) tail) fun s => s.takeHello h

/-- MIRROR (R362): the device that does not hold the berth adopts it. -/
def execMirror (m : Mirror) (tail : DupTail) (s : State) : Host.Outcome State Fault Refusal :=
  s.dupFrame (dupIntact (.mirror m) tail) fun s => if s.dup.out then s else s.adoptMirror m

/-- R363: the device has a whole ring whose trigger places its tally instant. -/
def State.ringPlaced (s : State) : Bool :=
  s.strings.any fun r => s.gn O.chainRingState r == 3 && s.gn O.ringRoundTrip r != 0 && !(s.ring r).takeover

/-- DUPLEX_TALLY (R363): index and period follow the holder, and device time is disciplined to the holder's. Without a whole
ring the frame's time places the tally instant. -/
def State.takeTally (s : State) (index period time : Nat) : State :=
  let here := if s.fw.tally = index then s.fw.tallyTime else s.now
  let s : State := { s with fw := { s.fw with tally := index, period := period } }
  let s : State := if s.fw.ticking && !s.ringPlaced then
      { s with fw := { s.fw with tallyTime := time, tallyAt := ((s.mono : Int) + (time : Int) - (s.now : Int)).toNat } }
    else s
  s.applyOffset (((time : Int) - (here : Int)) * 1000)

/-- DUPLEX_TALLY (R363). -/
def execDuplexTally (index : BitVec 32) (period time : Nat) (tail : DupTail) (s : State) : Host.Outcome State Fault Refusal :=
  s.dupFrame (dupIntact (.tally index.toNat period time) tail) fun s =>
    if s.dup.out then s else s.takeTally index.toNat period time

/-! ### Rings seen from both ends (R365 to R369) -/

/-- R366: a device that does not direct the rings closes one as tail once it has the delays of both ends. -/
def State.closeTail (s : State) (r : Nat) : State :=
  let known (b : Bool) : Bool := (List.range (s.nMon r)).any fun k => s.gn O.hopDelay (r * 64 + b2n b * 32 + k) != 0
  if [1, 2].contains (s.gn O.chainRingState r) && known false && known true then
    let s := (s.put O.chainRingState r (if s.gn O.ringRoundTrip r = 0 then 4 else 3)).ringUpd r fun x => { x with enumStep := 0 }
    s.readyNow
  else s

/-- RING_DELAYS (R365, R366): the delays of the partner's end; those of the own end only where nothing was measured. -/
def State.takeDelays (s : State) (p : List Byte) : State :=
  let r := (byteAt p 0).toNat
  let b := (byteAt p 1).toNat == 1
  if !s.has r || s.nMon r = 0 then s else
  let s := forEach (List.range 32) s fun s k =>
    let v := leAt p (2 + 2 * k) 2
    let key := r * 64 + b2n b * 32 + k
    if v ≠ 0 && (b != s.headB || s.gn O.hopDelay key == 0) then s.put O.hopDelay key (v : Nat) else s
  if s.directs then ((s.enumDelays r).enumAdvance r).remeasured r
  else (s.put O.ringRoundTrip r (leAt p 66 2 : Nat)).closeTail r

/-- RING_DELAYS (R366). -/
def execRingDelays (payload : List Byte) (tail : DupTail) (s : State) : Host.Outcome State Fault Refusal :=
  s.dupFrame (dupIntact (.ringDelays payload) tail) fun s => if payload.length = 68 then s.takeDelays payload else s

/-- R367: the hops that a command asks an answer of. -/
def State.frameHops (s : State) (r : Nat) (f : List Byte) : List Nat :=
  let hop := (byteAt f 0).toNat % 64
  let cmd := (byteAt f 1).toNat
  if hop < 32 then [hop]
  else if cmd = 0x01 then List.range 32
  else if cmd = 0x10 ∨ cmd = 0x20 then
    (List.range ((byteAt f 5).toNat + 1)).filter fun h => decide ((byteAt f 4).toNat ≤ h) && decide (h < s.nMon r)
  else []

/-- CHAIN_REQ (R365, R367, R368): the partner launches the train from its own port, unless its latest start has passed. -/
def State.takeChainReq (s : State) (r : Nat) (f : List Byte) (latest : Nat) : State :=
  let b := s.headB
  if s.dup.out || latest < s.now || !s.has r then s else
  let s := if byteAt f 1 = 0x01 then
      let s := s.ringUpd r fun x => { x with echo := x.echo.filter fun e => e.1 / 32 != b2n b }
      forEach (List.range 32) s fun s k => s.put O.hopDelay (r * 64 + b2n b * 32 + k) 0
    else s
  s.setTrain r b (some {
    order := if byteAt f 1 = 0x10 then 1 else 8, frame := f, hops := s.frameHops r f, sent := true, at' := s.mono })

/-- CHAIN_REQ (R367). -/
def execChainReq (ring : Fin 4) (command : List Byte) (latest : Nat) (tail : DupTail) (s : State) : Host.Outcome State Fault Refusal :=
  s.dupFrame (dupIntact (.chainReq ring.val command latest) tail) fun s => s.takeChainReq ring.val command latest

/-- The state an outcome carries; the state before where it carries none. -/
def after (s : State) : Host.Outcome State Fault Refusal → State
  | .next t => t
  | _ => s

/-- CHAIN_FWD (R367, R66): the holder decodes a forwarded frame as if it had arrived at its own port for the far end: a command
is compared with the one it asked for, a reply is judged; the judgement of a TYPE that no reply has is the same for every
reply. -/
def State.takeForward (s : State) (ring : Fin 4) (f : List Byte) : State :=
  let port := !s.headB
  let go (m : Fin 4 → Bool → List Byte → State → Host.Outcome State Fault Refusal) : State := after s (m ring port f s)
  let t := (byteAt f 1).toNat
  if !s.dup.out then s
  else if !bit (byteAt f 0).toNat 6 then go fun r p f s => execReturnPathCheck r (.command p f) s
  else if t = 0x81 then go execIdent
  else if t = 0x82 then go fun r p f s => execEchoBack r p f 0 0 s
  else if t = 0x83 then go execConfigAck
  else if t = 0x84 then go execStatus
  else if t = 0x90 then go execSample
  else if t = 0xA0 then go execBalAck
  else if t = 0xA1 then go execOpenWireResult
  else if t = 0xB0 then go execAuthResult
  else if t = 0xB1 then go execAuthMac
  else if t = 0xC1 then go execRejoinResult
  else go execIdent

/-- CHAIN_FWD (R367). -/
def execChainFwd (ring : Fin 4) (decodedAt : Nat) (frame : List Byte) (tail : DupTail) (s : State) : Host.Outcome State Fault Refusal :=
  s.dupFrame (dupIntact (.chainFwd ring.val decodedAt frame) tail) fun s =>
    if decodedAt ≤ s.now + s.fw.period then s.takeForward ring frame else s

/-- STANDBY_TAKEOVER_SWEEP (R369): no trigger of the holder for 2 tallies. -/
def execStandbyTakeoverSweep (ring : Fin 4) (s : State) : Host.Outcome State Fault Refusal :=
  let r := ring.val
  doneIf (s.running && s.dup.mode != 0 && !s.dup.out && s.has r && s.nMon r != 0 && [3, 4].contains (s.gn O.chainRingState r) &&
      !(s.ring r).takeover && s.past (s.ring r).holderTrigger (2 * s.fw.period))
    (s.ringUpd r fun x => { x with takeover := true }) s

/-! ### Hand-over (R370 to R374) -/

/-- R370: what makes a holder refuse a hand-over; at a standby, as the mirror shows it. -/
def State.handoverInhibit (s : State) : Bool :=
  (s.dup.out && !(s.dup.up && match s.dup.hello with | some h => h.berthState == 3 | none => false)) ||
    s.strings.any (fun n => [1, 2, 3, 4, 5, 7, 8].contains (s.seqState n)) || s.otest.string.isSome

/-- R370: a hand-over accepted in this tally. -/
def State.handoverStart (s : State) : State := { s with dup := { s.dup with handover := 1, handoverTally := s.fw.tally } }

/-- BERTH_HAND_OVER (R370): `BerthCommand` 1 at the holder. -/
def State.handOver (s : State) : State × Nat :=
  if s.berthState ≠ 2 || s.dup.handover ≠ 0 || s.handoverInhibit then refuse s 0x0411 else accept s.handoverStart

/-- BERTH_HAND_OVER (R370). -/
def execBerthHandOver (req : Req) (s : State) : Host.Outcome State Fault Refusal := s.request req O.berthCommand 0 State.handOver

/-- R370, R374: a standby asks the holder: an OFFER that a holder receives is a request (DEDUCED, log entry 22). -/
def State.askHandover (s : State) (revert : Bool) : State :=
  State.dupSend { s with dup := { s.dup with revert := revert, notBefore := s.mono + 10000000 } } (.handover 0 s.fw.tally)

/-- BERTH_TAKE (R370): `BerthCommand` 2 at an armed standby. -/
def State.take (s : State) : State × Nat :=
  if s.berthState ≠ 3 || !s.dup.up then refuse s 0x0411 else accept (s.askHandover false)

/-- BERTH_TAKE (R370). -/
def execBerthTake (req : Req) (s : State) : Host.Outcome State Fault Refusal := s.request req O.berthCommand 0 State.take

/-- BERTH_REVERT (R374). -/
def execBerthRevert (s : State) : Host.Outcome State Fault Refusal :=
  doneIf (s.running && s.dup.mode != 0 && s.dup.pref && s.berthState == 3 && s.dup.up &&
      s.past s.dup.armedSince (s.gn O.berthRevertTime 0 * 1000000) && s.reached s.dup.notBefore && !s.handoverInhibit)
    (s.askHandover true) s

/-- HANDOVER_OFFER (R370): at a standby, answered by ACCEPT while it is armed, else by REFUSE; at the holder it is the
standby's request. -/
def State.takeOffer (s : State) (tally : Nat) : State :=
  if s.dup.out then
    if s.dup.handover ≠ 0 || s.handoverInhibit then s.dupSend (.handover 2 tally) else s.handoverStart
  else if s.dup.armed && s.dup.shadow.isSome then
    State.dupSend { s with dup := { s.dup with handover := 2, handoverTally := tally } } (.handover 1 tally)
  else s.dupSend (.handover 2 tally)

/-- HANDOVER_OFFER (R370). -/
def execHandoverOffer (tally : BitVec 32) (tail : DupTail) (s : State) : Host.Outcome State Fault Refusal :=
  s.dupFrame (dupIntact (.handover 0 tally.toNat) tail) fun s => s.takeOffer tally.toNat

/-- HANDOVER_ACCEPT (R370): the outgoing device withdraws and holds. -/
def execHandoverAccept (tally : BitVec 32) (tail : DupTail) (s : State) : Host.Outcome State Fault Refusal :=
  s.dupFrame (dupIntact (.handover 1 tally.toNat) tail) fun s =>
    if s.dup.out && s.dup.handover = 2 && s.dup.handoverTally = tally.toNat then
      State.withdraw { s with dup := { s.dup with handover := 0 } } 0 false
    else s

/-- HANDOVER_REFUSE (R370, R374): the outgoing device keeps the berth; a preferred standby asks again 10 s later. -/
def execHandoverRefuse (tally : BitVec 32) (tail : DupTail) (s : State) : Host.Outcome State Fault Refusal :=
  s.dupFrame (dupIntact (.handover 2 tally.toNat) tail) fun s =>
    if s.dup.out then
      if s.dup.handover = 2 && s.dup.handoverTally = tally.toNat then
        State.activateRefused { s with dup := { s.dup with handover := 3 } }
      else s
    else { s with dup := { s.dup with revert := false, notBefore := s.mono + 10000000 } }

/-- HANDOVER_TAKEN (R370, R377): the partner has the berth: the outgoing device records the hand-over. -/
def execHandoverTaken (tally : BitVec 32) (tail : DupTail) (s : State) : Host.Outcome State Fault Refusal :=
  s.dupFrame (dupIntact (.handover 3 tally.toNat) tail) fun s =>
    if s.dup.out || tally.toNat ≠ s.dup.handoverTally && s.dup.reason = 0 then s
    else (s.bump O.handoverCount 0).putL O.lastHandover 0
      [if s.dup.reason = 0 then 0 else if s.dup.reason = 3 then 3 else 1, (s.now : Nat), (s.mono - s.dup.holdAt : Nat)]

/-! ### The contactor step (R205) -/

/-- R372, Table 11-4a: a string after a failure hand-over. -/
def State.failureString (s : State) (n : Nat) : State :=
  let st := s.seqState n
  if st = 1 ∨ st = 5 then (s.askOff n).enterOpen n 0
  else if 2 ≤ st ∧ st ≤ 4 then
    (s.abortClose n).strUpd n fun x => { x with cooldownEnd := some (s.mono + s.gn O.prechargeCooldown n * 1000000) }
  else if st = 8 then
    let on := (s.stringDrivers n).filter fun d => (s.drv d).energised
    let wait := (on.map fun d => s.gn O.contactorDropTime d).foldl max 0
    (s.askOff n).strUpd n fun x => { x with openAt := some (s.mono + s.tallies wait), endWelded := false }
  else s

/-- R372, R376: the first contactor step after taking the berth. -/
def State.takenStep (s : State) : State :=
  let inst := s.dup.taken - 1
  let s : State := { s with dup := { s.dup with taken := 0, handover := 0, revert := false, shadow := none } }
  let s := if inst = 2 then forEach s.strings s State.failureString else s
  s.raise 0xEA inst

/-- R205, R190 to R202: what the step does for the strings. -/
def State.sequenceStep (s : State) : State := (forEach (s.strings.filter s.inManifest) s State.stepString).testWatch

/-- R364: a standby's arming conditions. -/
def State.armingOk (s : State) : Bool :=
  s.ready && s.wd.trusted && s.dup.claim != .lockout && s.dup.matched && s.dup.shadow.isSome && !s.past s.dup.mirrorAt 20001

/-- Table 11-4, R374: at a standby, an offer that it accepted lapses with the tally k + 2, as at the holder, and the request
of a revert with the time after which it is made again. -/
def State.takeLapse (s : State) : State :=
  let lapsed := s.dup.handover == 2 && tallyLater 2 s.dup.handoverTally s.fw.tally
  { s with dup := { s.dup with
    handover := if lapsed then 0 else s.dup.handover
    revert := s.dup.revert && !lapsed && !(s.dup.handover == 0 && s.reached s.dup.notBefore) } }

/-- R352, R353: the refresh of a device that does not hold the berth, over the inter-die link: a claim request while no
partner claims, arming with the shadow states. The claim is requested whenever the device runs and `BERTH_IN` is low (DESIGN
CHOICE, log entry 23). -/
def State.standbyRefresh (s : State) : State :=
  let ok := s.armingOk
  let s := s.takeLapse
  if !s.dieLink then s else { s with dup := { s.dup with
    request := !s.dup.berthIn && s.dup.claim != .lockout && s.pwr.mooring == .none && !s.otp.retired
    arming := ok, armed := ok, armAt := if ok then s.mono else s.dup.armAt, shadowAt := if ok then s.mono else s.dup.shadowAt,
    armedSince := if ok && !s.dup.armed then s.mono else s.dup.armedSince } }

/-- Table 11-4: the end of an offer that was refused, or that nothing answered: commands are accepted again from k + 2. -/
def State.offerEnd (s : State) (h : Nat) : State :=
  if [2, 3].contains s.dup.handover && tallyLater 2 h s.fw.tally then
    State.activateRefused { s with dup := { s.dup with handover := 0 } }
  else s

/-- R352, R353, R362, R370: a holder's step: the refresh, a hand-over in progress, the sequence, TALLY and MIRROR. -/
def State.holderStep (s : State) : State :=
  let s : State := { s with dup := { s.dup with refreshAt := if s.dieLink then s.mono else s.dup.refreshAt } }
  let h := s.dup.handoverTally
  if s.dup.taken ≠ 0 && s.dup.handover = 2 && !tallyLater 2 h s.fw.tally then s
  else if s.dup.taken = 0 && s.dup.handover = 1 && tallyLater 1 h s.fw.tally then
    let s := s.sendMirror
    State.dupSend { s with dup := { s.dup with handover := 2 } } (.handover 0 h)
  else if s.dup.taken = 0 && s.dup.handover = 2 && !tallyLater 2 h s.fw.tally then s
  else
    let s := if s.dup.taken ≠ 0 then s.takenStep else s
    let s := (s.offerEnd h).sequenceStep
    (s.dupSend (.tally s.fw.tally s.fw.period s.fw.tallyTime)).sendMirror

/-- R408: every string is open and the lowest non-stale cell word of the manifest is below `MooredDarkCellLevel`. -/
def State.darkDue (s : State) : Bool :=
  s.gb O.mooredDarkAuto 0 && s.allOpen &&
    (((s.strings.filter s.inManifest).flatMap s.stringCells).filter fun c => s.gn O.cellFlags c % 2 == 0).any fun c =>
      decide (s.gn O.cellVoltage c < s.gn O.mooredDarkCellLevel 0)

/-- R408: since when both conditions have held. -/
def State.darkWatch (s : State) : State :=
  { s with fw := { s.fw with lowSince := if s.darkDue then some (s.fw.lowSince.getD s.mono) else none } }

/-- CONTACTOR_STEP (R205, R189, R196, R199 to R201, R353): once per tally, after publication: ΔV, derating and limits at every
device, the sequence at a single device or a holder. -/
def State.contactorStep (s : State) : State :=
  let s := s.logCurrents.darkWatch.setDeltas.derateTally.setLimits
  if s.dup.mode = 0 then s.sequenceStep else if s.dup.out then s.holderStep else s.standbyRefresh

/-- CONTACTOR_STEP (R205). -/
def execContactorStep (s : State) : Host.Outcome State Fault Refusal := doneIf (s.running && s.stepDue) s.contactorStep s

end Sys2Proof.Machine
end

