-- ==== Sys2Proof/Machine/Storage.lean ====
section
/-! DEFINITION. Sys2Proof/Machine/Storage.lean: SRAM errors (R42), model table files and their copies in flash (R150 to
R152), and the learned data of a string in the journal (R46, R336, R411, Table 13-7). -/

namespace Sys2Proof.Machine

/-! ### Model table sets (R150 to R152) -/

/-- R151: the two copies of a set in flash (generation and file; generation 0: none written). -/
def State.tableCopies (s : State) (k : Nat) : List (Nat × List Byte) :=
  [mget (0, []) s.flash.tables (k * 2), mget (0, []) s.flash.tables (k * 2 + 1)]

/-- R151: a copy is valid: written, and its CRC agrees. -/
def copyValid (c : Nat × List Byte) : Bool :=
  c.1 != 0 && decide (4 ≤ c.2.length) && crc32 (c.2.take (c.2.length - 4)) == leAt c.2 (c.2.length - 4) 4

/-- R151: the file of the valid copy with the highest generation. -/
def State.tableCopy (s : State) (k : Nat) : Option (List Byte) :=
  match (s.tableCopies k).filter copyValid with
  | [] => none
  | c :: cs => some (cs.foldl (fun a b => if a.1 < b.1 then b else a) c).2

/-- R151: a file stored twice, the copy with the older generation first, both under the next generation. -/
def State.storeTable (s : State) (k : Nat) (f : List Byte) : State :=
  let g := ((s.tableCopies k).map fun c => c.1).foldl max 0 + 1
  (State.eraseAll { s with flash := { s.flash with tables := mins (mins s.flash.tables (k * 2) (g, f)) (k * 2 + 1) (g, f) } }
    (96 + k * 2)).eraseAll (96 + k * 2 + 1)

/-- R151, R152, R123: a set loaded into SRAM from flash: 1 loaded, 2 damaged, 0 empty; its strings resume or stay paused, and
no table cache keeps an entry of what stood there before. DESIGN CHOICE (log entry 176): where C_NOM has changed with it, a cell
with CAP_DEFAULT keeps its C until it is next initialised. -/
def State.loadTable (s : State) (k : Nat) : State :=
  let s : State := { s with fab := { s.fab with
    reloading := s.fab.reloading.erase k
    cache := s.fab.cache.filterMap fun c =>
      let l := c.2.filter fun e => e.1 != k
      if l.isEmpty then none else some (c.1, l) } }
  let s := match s.tableCopy k with
    | some f => (((State.put { s with fab := { s.fab with tables := mins s.fab.tables k f } } O.tableSetState k 1).put O.tableSetCrc k
        (leAt f (f.length - 4) 4 : Nat)).putL O.tableSetName k (blobOf (nameOf ((f.drop 20).take 16))))
    | none =>
      let written := (s.tableCopies k).any fun c => c.1 != 0
      (((State.put { s with fab := { s.fab with tables := mdel s.fab.tables k } } O.tableSetState k (if written then 2 else 0)).undo
        O.tableSetCrc k).undo O.tableSetName k)
  forEach s.strings s State.refreshEst

/-- R131, R42, R151: the strings of a set are paused until it is loaded, and their epochs in flight end. -/
def State.pauseSet (s : State) (k : Nat) : State :=
  let s : State := { s with fab := { s.fab with reloading := if s.fab.reloading.contains k then s.fab.reloading else k :: s.fab.reloading } }
  (forEach s.strings s State.refreshEst).pauseEpochs

/-- MODEL_TABLE_FILE_WRITE (R150, R151): the value category is 0x0306, the status of a file that fails its checks. -/
def State.tableWrite (s : State) (k : Nat) (f : List Byte) : State × Nat :=
  if !s.allOpen then refuse s 0x0401
  else if !s.flashOk then refuse s 0x0404
  else
    let c := tableCheck f
    let s := s.put O.tableSetLoadError k (c : Nat)
    if c ≠ 0 then refuse s 0x0306 else accept ((s.storeTable k f).pauseSet k)

/-- MODEL_TABLE_FILE_WRITE (R150). -/
def execModelTableFileWrite (req : Req) (set : Fin 4) (file : List Byte) (s : State) : Host.Outcome State Fault Refusal :=
  s.request req O.modelTableFile set.val fun s => s.tableWrite set.val file

/-- TABLE_SET_LOAD_DONE (R151): the set written is loaded. -/
def execTableSetLoadDone (set : Fin 4) (s : State) : Host.Outcome State Fault Refusal :=
  doneIf (s.running && s.fab.reloading.contains set.val) (s.loadTable set.val) s

/-- TABLE_SET_RELOAD_DONE (R42): the reload from flash completes. -/
def execTableSetReloadDone (set : Fin 4) (s : State) : Host.Outcome State Fault Refusal :=
  doneIf (s.running && s.fab.reloading.contains set.val) (s.loadTable set.val) s

/-! ### SRAM errors (R42) -/

/-- R42, Table 1-10: harbour log staging lost: 0xB202 with its count and the lowest sequence. -/
def State.loseStaging (s : State) : State :=
  let l := s.log.staging
  let t : State := { s with log := { s.log with staging := [] } }
  if l.isEmpty then t else t.logInternal 0xB202 2 (le 4 l.length ++ le 4 ((l.headD {}).seq) ++ le 1 0)

/-- R42, Table 1-10: configuration values reloaded from the active slot (defaults where there is none); transfers end. -/
def State.reloadConfig (s : State) : State :=
  let img := s.newestImage
  let t := if img.isEmpty then s.savedDefaults else s.applyEntries (entriesOf img)
  (s.adopt t (if img.isEmpty then [] else entriesManifest (entriesOf img)) false).abortTransfers 0x0605 fun _ => true

/-- R42, Table 1-10: the action for an area; `item` is the global cell, the table set or the capture record. -/
def State.eccAction (s : State) (area item : Nat) : State :=
  if area = 0 then
    let t := s.estUpd item fun _ => s.pub item
    { t with fab := { t.fab with reinit := if t.fab.reinit.contains item then t.fab.reinit else item :: t.fab.reinit } }
  else if area = 1 then (if item < 4 then s.pauseSet item else s)
  else if area = 2 then
    { s with capture := { s.capture with recs := s.capture.recs.modify item fun r =>
        if r.status % 2 = 0 then { r with status := r.status + 1 } else r } }
  else if area = 3 then s.reloadConfig
  else if area = 4 then s.cdReset 6
  else if area = 5 then s.loseStaging
  else s

/-- SRAM_ECC_ERROR (R42). In firmware memory the compute die resets, so the reason for 0xF0 is kept (R41). -/
def execSramEccError (area : Fin 7) (uncorrectable : Bool) (item : Nat) (s : State) : Host.Outcome State Fault Refusal :=
  let t := if uncorrectable then
      if area.val = 4 then (s.cdReset 6).keepReason 0xF0 4
      else ((s.bump O.sramEccCount 1).raise 0xF0 area.val).eccAction area.val item
    else s.bump O.sramEccCount 0
  doneIf s.running t s

/-! ### Learned data in the journal (R46, Table 13-7) -/

/-- Table 13-7 kind 1: the 32 bytes of a cell. -/
def CellEst.record (e : CellEst) : List Byte :=
  let m := leakMean e.leaks
  le 4 (roundQ (e.cap * 1000)).toNat ++ le 4 (toF32 e.gR) ++ le 4 (toF32 e.gT) ++ leI 4 (roundQ (e.leak * 1000000)) ++
    le 4 (m.2 / 1000000) ++ leI 2 e.trim ++ le 2 (word [e.capDefault, e.short]) ++ le 8 0

/-- Table 13-7 kind 1: the record of a string. -/
def State.learnedPayload (s : State) (n : Nat) : List Byte :=
  let mods := List.range (s.nMon n)
  le 2 (s.gn O.manifestCellCount n) ++ le 1 (s.nMon n) ++ le 1 0 ++
    (mods.flatMap fun p =>
      let m (k : Nat) : Nat := (s.gm O.manifestModule (monKey n p) k).toNat
      le 8 (m 0) ++ le 4 (m 1) ++ le 1 (m 3) ++ le 3 0) ++
    ((s.stringCells n).flatMap fun c => (s.pub c).record) ++
    ([0, 1, 2].flatMap fun role => match s.driversOf n role with
      | [] => le 1 0xFF ++ le 23 0
      | d :: _ => le 1 d ++ le 1 (s.gn O.weldState d) ++ le 2 0 ++ le 8 (s.gn O.openingProofTime d) ++ le 8 (s.gn O.loadBreakCount d) ++
          le 4 (s.gn O.loadBreakPeak d))

/-- LEARNED_DATA_COMMIT (R46): once per hour for each string. -/
def execLearnedDataCommit (string : Fin 4) (worn : Bool) (s : State) : Host.Outcome State Fault Refusal :=
  let n := string.val
  let t := (s.journal 1 n (s.learnedPayload n) worn).ranWork 8
  doneIf (s.running && s.inManifest n && s.flashOk && s.past (mget 0 s.flash.learnedAt n) 3600000000)
    { t with flash := { t.flash with learnedAt := mset 0 t.flash.learnedAt n s.mono } } s

/-- WELD_STATE_COMMIT (R46, R215): forced by a change of `WeldState`; the hourly schedule stays. -/
def execWeldStateCommit (string : Fin 4) (worn : Bool) (s : State) : Host.Outcome State Fault Refusal :=
  let n := string.val
  let t := s.journal 1 n (s.learnedPayload n) worn
  doneIf (s.running && mhas s.flash.weldDirty n && s.flashOk) { t with flash := { t.flash with weldDirty := mdel t.flash.weldDirty n } } s

/-- R411: a cell's learned data from the journal; its leak counts as one span that ends now. -/
def State.unlearn (s : State) (bs : List Byte) : CellEst :=
  let g (off : Nat) : Rat := let v := leAt bs off 4; if f32Finite v then f32 v else 1
  let span := leAt bs 16 4 * 1000000
  let leak : Rat := (signed 32 (leAt bs 12 4) : Rat) / 1000000
  let fl := leAt bs 22 2
  { cap := (leAt bs 0 4 : Rat) / 1000, gR := g 4, gT := g 8, lnR := lnQ (g 4), lnT := lnQ (g 8), capDefault := bit fl 0,
    short := bit fl 1, leak := leak, leaks := if span = 0 then [] else [(s.elapsed - span, s.elapsed, leak)],
    trim := signed 16 (leAt bs 20 2) }

/-- R411, R336: learned data of a string's newest record applied, module by module, and its contactor part to each driver
that still serves the same string in the same role. -/
def State.applyLearned (s : State) (n : Nat) : State :=
  match s.journalRec 1 n with
  | none => s
  | some j =>
    let d := j.payload
    let mods := (byteAt d 2).toNat
    let cells := leAt d 0 2
    let mask (p : Nat) : Nat := leAt d (4 + 16 * p + 8) 4
    let base := 4 + 16 * mods
    let s := forEach ((List.range mods).filter fun p => decide (p < s.nMon n)) s fun s p =>
      let m (k : Nat) : Nat := (s.gm O.manifestModule (monKey n p) k).toNat
      let uid := leAt d (4 + 16 * p) 8
      if mask p = m 1 && leAt d (4 + 16 * p + 12) 1 = m 3 && (uid = m 0 || uid = 0 || m 0 = 0) then
        let first := ((List.range p).map fun q => popcount 18 (mask q)).sum
        forEach (List.range (popcount 18 (mask p))) s fun s k =>
          let e := s.unlearn ((d.drop (base + 32 * (first + k))).take 32)
          s.estBoth (s.cellOf n p k) fun _ => e
      else s
    let s := s.judgeSuspects n
    forEach [0, 1, 2] s fun s role =>
      let o := base + 32 * cells + 24 * role
      let k := leAt d o 1
      if 12 ≤ k ∨ s.driverString k ≠ n ∨ s.driverRole k ≠ role then s
      else (((s.put O.weldState k (leAt d (o + 1) 1 : Nat)).put O.openingProofTime k (leAt d (o + 4) 8 : Nat)).put O.loadBreakCount k
        (leAt d (o + 12) 8 : Nat)).put O.loadBreakPeak k (leAt d (o + 20) 4 : Nat)

end Sys2Proof.Machine
end

