-- ==== Sys2Proof/Machine/Lifecycle.lean ====
section
/-! DEFINITION. Sys2Proof/Machine/Lifecycle.lean: supply levels and power-on (R386, R393 to R397, R452), resets and the
choice of the boot slot (R28, R400 to R402, R426), moored modes (R403 to R408), the scans of a start (R343, R387, R411),
keys, life-cycle and retirement (R413 to R422), clearing the log (R390) and firmware update (R423 to R426). -/

namespace Sys2Proof.Machine

/-! ### Supply (R386, R393, R452) -/

/-- The level that a supply event reports; the power die tells it to the compute die (Table 1-6, class 4). -/
def State.withVaux (s : State) (mv : Nat) : State := (s.readVaux mv).sayP 4 2

/-- SUPPLY_RECOVERY (R386): 17.0 V or more for 100 ms after a flush: 0xB207 and the staged records are programmed. -/
def State.supplyBack (s : State) (mv : Nat) : State :=
  let s := s.withVaux mv
  let s : State := { s with pwr := { s.pwr with flushed := false } }
  (s.logInternal 0xB207 1 (le 4 s.log.staging.length)).logProgramNow

/-- SUPPLY_RECOVERY (R386). -/
def execSupplyRecovery (vauxMv : Nat) (s : State) : Host.Outcome State Fault Refusal :=
  doneIf (s.running && s.pwr.flushed && decide (17000 ≤ vauxMv)) (s.supplyBack vauxMv) s

/-- R386, R393, R258, R452: the early warning asserts. -/
def State.warn (s : State) (mv : Nat) : State :=
  let s := s.withVaux mv
  let s := (State.lsBrownOut { s with pwr := { s.pwr with warning := true } }).raise 0xE0 0
  let s := if s.cd then s.bump O.brownOutCount 0 else s
  if s.running then s.logSeal else s

/-- BROWN_OUT_WARNING (R393): VAUX below 15.0 V. -/
def execBrownOutWarning (vauxMv : Nat) (s : State) : Host.Outcome State Fault Refusal :=
  doneIf (s.pwr.pdUp && !s.pwr.warning && decide (vauxMv < 15000)) (s.warn vauxMv) s

/-- BROWN_OUT_CLEAR (R393): 16.0 V or more for 100 ms; the shed channels return (R258). -/
def execBrownOutClear (vauxMv : Nat) (s : State) : Host.Outcome State Fault Refusal :=
  let t := s.withVaux vauxMv
  doneIf (s.pwr.pdUp && s.pwr.warning && decide (16000 ≤ vauxMv))
    ((State.lsBrownOutEnd { t with pwr := { t.pwr with warning := false } }).raise 0xE0 1) s

/-- POWER_DIE_RESET (R393): VAUX below 11.0 V. -/
def execPowerDieReset (vauxMv : Nat) (s : State) : Host.Outcome State Fault Refusal :=
  doneIf (s.pwr.started && decide (vauxMv < 11000)) (s.withVaux vauxMv).pdReset s

/-- REGULATOR_FAULT (R452): VDDC outside 0.70 V to 0.90 V, or VDDIO outside 3.00 V to 3.60 V. In moored-watch both
regulators are off (R404). -/
def execRegulatorFault (vddcMv vddioMv : Nat) (s : State) : Host.Outcome State Fault Refusal :=
  let bad := decide (vddcMv < 700) || decide (900 < vddcMv) || decide (vddioMv < 3000) || decide (3600 < vddioMv)
  doneIf (s.pd && bad) s.pdReset s

/-! ### From power to a compute-die start (R396, R400, R426) -/

/-- POWER_ON (R396): VAUX first reaches 16.0 V: the power-die oscillators start. -/
def execPowerOn (vauxMv : Nat) (s : State) : Host.Outcome State Fault Refusal :=
  let t := s.withVaux vauxMv
  doneIf (!s.pwr.started && decide (16000 ≤ vauxMv))
    { t with pwr := { t.pwr with started := true, startAt := s.mono }, clk := { t.clk with rtcRunning := false } } s

/-- POWER_DIE_RESET_RELEASE (R396, R395, R349, R225): 5 ms after the start level. -/
def State.pdRelease (s : State) (pref : Bool) : State :=
  let s : State := { s with
    pwr := { s.pwr with pdUp := true, auxen := .high, pulseFrom := s.mono },
    dup := { s.dup with pref := pref, berthAt := s.mono, quietAt := s.mono },
    linkP := s.linkP.start s.mono
    wd := { s.wd with absentSince := s.mono } }
  (forEach (List.range 4) s State.pairStart).newWindow

/-- POWER_DIE_RESET_RELEASE (R396). -/
def execPowerDieResetRelease (berthPref : Bool) (s : State) : Host.Outcome State Fault Refusal :=
  doneIf (s.pwr.started && !s.pwr.pdUp && s.past s.pwr.startAt 5000) (s.pdRelease berthPref) s

/-- R423: the bytes of a loaded image. -/
def FwSlot.image (x : FwSlot) : List Byte := x.chunks.flatMap fun e => e.2

/-- R424: IMAGE_LEN as chunk 0 gives it. -/
def FwSlot.imageLen (x : FwSlot) : Nat := leAt (mget [] x.chunks 0) 8 4

/-- Table 13-13: the signature of a loaded image, over its bytes 0 to IMAGE_LEN − 65. -/
def State.imageSigned (s : State) (x : FwSlot) : Bool :=
  let f := x.image
  let n := x.imageLen - 64
  ecdsaOk s.otp.fwX s.otp.fwY (f.take n) (leAt f n 32) (leAt f (n + 32) 32)

/-- R426: the signature check of a slot at a boot. The bytes of an image programmed before delivery are not in the model: it
passes until one of them reads otherwise (log entry 170). -/
def State.slotSigned (s : State) (x : FwSlot) : Bool := if x.chunks.isEmpty then !x.damaged else s.imageSigned x

/-- R426: an image passes the check of signature and floor at a boot. -/
def State.bootable (s : State) (k : Nat) : Bool :=
  s.slotSigned (s.slot k) && decide (s.otp.floor ≤ (s.slot k).security)

/-- R426, R41: a boot event, kept for the start that follows. -/
def State.bootNote (s : State) (inst : Nat) : State :=
  if s.pwr.reasons.contains (0xF7, inst) then s else s.keepReason 0xF7 inst

/-- R426: a slot is booted: its digest is the one that R441 compares with from now on. -/
def State.boot (s : State) (k : Option Nat) : State :=
  let s : State := { s with flash := { s.flash with booted := k } }
  match k with
  | some k => s.slotUpd k fun x => { x with suspect := false }
  | none => s

/-- R45, R426: the state that a boot keeps with a slot is programmed where the flash controller starts one. -/
def State.slotProgram (s : State) (k : Nat) (f : FwSlot → FwSlot) : State := if s.flashOk then s.slotUpd k f else s

/-- R426: without a trial: the active slot, else the other one if it is verified; a slot that fails its check goes to
invalid, and the one booted in its place becomes active (DESIGN CHOICE, log entry 24). -/
def State.bootActive (s : State) : State :=
  let a := s.flash.active
  let o := 1 - a
  if (s.slot a).st = 5 && s.bootable a then s.boot (some a)
  else
    let s := (s.bootNote 5).slotProgram a fun x => { x with st := 4 }
    if (s.slot o).st = 3 && s.bootable o then
      let s := s.slotProgram o fun x => { x with st := 5 }
      State.boot (if s.flashOk then { s with flash := { s.flash with active := o } } else s) (some o)
    else s.boot none

/-- R426: the boot: a slot in trial, unless it falls back. -/
def State.bootSlot (s : State) : State :=
  match [0, 1].find? fun k => (s.slot k).st == 6 with
  | none => s.bootActive
  | some k =>
    let b := (s.slot k).boots
    if 3 ≤ b || (s.flash.booted == some k && [4, 5, 6, 7].contains s.pwr.cause) then
      let s := (s.bootNote 4).slotProgram k fun x => { x with st := 4 }
      State.bootActive { s with pwr := { s.pwr with cause := 10 } }
    else (s.slotProgram k fun x => { x with boots := b + 1 }).boot (some k)

/-- R396, R43, R426: the compute die leaves reset; with no image that passes, it starts no firmware. -/
def State.cdRelease (s : State) : State :=
  let powerOn := s.pwr.cause == 0
  let s := s.bootSlot
  if s.flash.booted.isNone then s else
  { s with
    pwr := { s.pwr with cdUp := true, cdSince := s.mono, pll := true }
    linkC := s.linkC.start s.mono, linkP := { s.linkP.start s.mono with waiting := s.linkP.waiting }
    wd := { s.wd with stopped := false }
    fw := { powerOn := powerOn } }

/-- R28, R396, R400, R404: nothing holds the compute die in reset. -/
def State.cdFree (s : State) : Bool :=
  s.pd && !s.cd && !s.pwr.holdClock && !s.pwr.holdResetN

/-- COMPUTE_DIE_RESET_RELEASE (R396). -/
def execComputeDieResetRelease (s : State) : Host.Outcome State Fault Refusal := doneIf s.cdFree s.cdRelease s

/-- R28, R400: a hold on the compute die has ended. -/
def State.releaseIfFree (s : State) : State := if s.cdFree then s.cdRelease else s

/-- CLOCK_FAULT_RELEASE (R28): both counts within tolerance for 10 ms. -/
def execClockFaultRelease (s : State) : Host.Outcome State Fault Refusal :=
  match s.clk.clockGoodSince with
  | none => done s
  | some t => doneIf (s.pwr.holdClock && s.past t 10000)
      (State.releaseIfFree { s with pwr := { s.pwr with holdClock := false }, clk := { s.clk with clockGoodSince := none } }) s

/-- RESET_N_ASSERT (R400): the compute die enters reset and is held; the power die goes on. -/
def execResetNAssert (s : State) : Host.Outcome State Fault Refusal :=
  let t := if s.cd then s.cdReset 8 else s
  doneIf (s.pwr.pdUp && !s.pwr.holdResetN) { t with pwr := { t.pwr with holdResetN := true } } s

/-- RESET_N_RELEASE (R400). -/
def execResetNRelease (s : State) : Host.Outcome State Fault Refusal :=
  doneIf (s.pwr.pdUp && s.pwr.holdResetN) (State.releaseIfFree { s with pwr := { s.pwr with holdResetN := false } }) s

/-- R36, R401: a contactor driver of this device is energised. -/
def State.anyEnergised (s : State) : Bool := (List.range 12).any fun d => (s.drv d).energised

/-- R401: the check of `DeviceResetCommand`; the reset follows the response. -/
def State.resetCommand (s : State) (v : Nat) : State × Nat :=
  if s.anyEnergised then refuse s 0x0406 else if v ≠ 1 then refuse s 0x0301 else accept s

/-- What follows the response to an accepted command; nothing after a refusal. -/
def following (f : State → State) (o : Host.Outcome State Fault Refusal) : Host.Outcome State Fault Refusal :=
  match o with
  | .next t => .next (match t.qlp.reply with | some r => if r.status = 0 then f t else t | none => t)
  | o => o

/-- A request that was reached the device at all. -/
def State.hears (s : State) (req : Req) : Bool := s.running && s.addressed req.dest

/-- DEVICE_RESET_COMMAND (R401). -/
def execDeviceResetCommand (req : Req) (value : Nat) (s : State) : Host.Outcome State Fault Refusal :=
  if !s.hears req then done s
  else following (fun t => t.cdReset 9) (s.request req O.deviceResetCommand 0 fun s => s.resetCommand value)

/-! ### Moored modes (R403 to R408) -/

/-- R404: what moored entry does on a ring: from each head BALANCE with TIMER 0, then SLEEP (R62, HOP 0x3F); a ring that is off
or that the device does not direct is silent at once. -/
def State.ringMoor (s : State) (r : Nat) : State :=
  let s := (s.dropWork r).ringUpd r fun x => { x with enumStep := 0, mooring := true }
  let l := (s.heads r).filter s.reaches
  if s.gn O.chainRingState r = 0 || s.nMon r = 0 || !s.directs || l.isEmpty then s.slept r
  else forEach l s fun s b =>
    (s.sendBalance r b 2 0 (s.segmentLen r b - 1) 0).queueTrain r b {
      order := 4, frame := frameBytes (cmdCtrl b 0x3F) 0x40 s.seqNow [] }

/-- R404: a time mark, and learned data whose last commit is 1 h old or more. -/
def State.moorCommit (s : State) : State :=
  let s := s.timeMark false
  forEach (s.strings.filter fun n => s.inManifest n && s.past (mget 0 s.flash.learnedAt n) 3600000000) s fun s n =>
    let s := s.journal 1 n (s.learnedPayload n)
    { s with flash := { s.flash with learnedAt := mset 0 s.flash.learnedAt n s.mono } }

/-- R404, R386: the flash work of the entry, as soon as R45 permits: the commits, then, with every ring asleep, the flush with
REASON 1. -/
def State.moorWork (s : State) : State :=
  if !s.running || !s.mooring || !s.flashOk then s
  else if s.pwr.moorStep = 0 then State.moorCommit { s with pwr := { s.pwr with moorStep := 1 } }
  else if s.pwr.moorStep = 1 && s.strings.all fun r => (s.ring r).asleep then
    State.logFlush { s with pwr := { s.pwr with moorStep := 2 } } 1
  else s

/-- R404, Table 13-5: entry begins: outputs off, every ring sent to sleep, and the commits where flash permits them now. -/
def State.moorStart (s : State) (m : Mooring) (inst : Nat) : State :=
  let s := State.raise { s with pwr := { s.pwr with mooring := m, mooringAt := s.mono, moorStep := 0 } } 0xFA inst
  let s := s.outputsOff
  let s : State := { s with vmot := { s.vmot with brakeOn := false } }
  let s := forEach (s.strings.flatMap s.stringCells) s fun s c => s.cellUpd c fun x => { x with bleedOn := false }
  (forEach s.strings s State.ringMoor).moorWork

/-- R403: `MooredCommand`. -/
def State.moor (s : State) (v : Nat) : State × Nat :=
  if !s.allOpen then refuse s 0x0401
  else if s.otest.string.isSome || s.pwr.mooring != .none || (s.dup.mode != 0 && s.dup.out && s.dup.up) then refuse s 0x0411
  else if v = 1 then accept (s.moorStart .enterWatch 0)
  else if v = 2 then accept (s.moorStart .enterDark 1)
  else refuse s 0x0301

/-- MOORED_WATCH_COMMAND (R403). -/
def execMooredWatchCommand (req : Req) (s : State) : Host.Outcome State Fault Refusal :=
  s.request req O.mooredCommand 0 fun s => s.moor 1

/-- MOORED_DARK_COMMAND (R403). -/
def execMooredDarkCommand (req : Req) (s : State) : Host.Outcome State Fault Refusal :=
  s.request req O.mooredCommand 0 fun s => s.moor 2

/-- MOORED_DARK_AUTO (R408): both conditions for 60 s; the holder of a pair only once the duplex link is down. -/
def execMooredDarkAuto (s : State) : Host.Outcome State Fault Refusal :=
  let due := match s.fw.lowSince with | some t => s.past t 60000000 | none => false
  doneIf (s.running && due && s.darkDue && s.pwr.mooring == .none && !s.otest.string.isSome &&
    !(s.dup.mode != 0 && s.dup.out && s.dup.up)) (s.moorStart .enterDark 2) s

/-- MOORED_ENTRY_COMPLETE (R404, R395): the compute die is held in reset, `BERTH_OUT` is low and, for moored-dark, `AUXEN` goes
low. Trust ends with every output off, so no fail-safe state applies. -/
def State.moorDone (s : State) : State :=
  let dark := s.pwr.mooring == .enterDark
  let s := s.cdReset 0
  { s with
    pwr := { s.pwr with mooring := if dark then .dark else .watch, auxen := if dark then .low else s.pwr.auxen, pll := false }
    wd := { s.wd with trusted := false, goodWindows := 0, absentSince := s.mono }
    dup := { s.dup with out := false, claim := s.dup.atRest, lockHolding := false, armed := false, noTaker := false } }

/-- MOORED_ENTRY_COMPLETE (R404): the flush is over, and the matrix has taken up its record (R391). -/
def execMooredEntryComplete (s : State) : Host.Outcome State Fault Refusal :=
  doneIf (s.running && s.mooring && s.pwr.moorStep == 2 && s.ev.pending.isEmpty) s.moorDone s

/-- R406: bit of `MooredWakeMask` of a wake input. -/
def wakeBit : WakeSource → Nat
  | .wake0 _ => 0 | .wake1 _ => 1 | .busdet _ _ => 2

/-- R406: the condition of a wake input is met: 10 ms high, or both samples above `BusWakeLevel` / `BusDividerRatio`. -/
def State.wakeMet (s : State) : WakeSource → Bool
  | .wake0 us => decide (10000 ≤ us)
  | .wake1 us => decide (10000 ≤ us)
  | .busdet a b =>
    let above (uv : Nat) : Bool :=
      decide ((s.gn O.busWakeLevel 0 : Rat) * 1000 < (s.trimmed 0 uv : Rat) * f32 (s.gn O.busDividerRatio 0))
    above a && above b

/-- MOORED_WAKE (R406, R402, R225): the start of R396 from the compute-die reset; every used pair starts in demand, and the
watchdog's windows start again. -/
def execMooredWake (w : WakeSource) (s : State) : Host.Outcome State Fault Refusal :=
  let t : State := { s with
    pwr := { s.pwr with mooring := .none, cause := wakeBit w + 1 }, wd := { s.wd with absentSince := s.mono } }
  doneIf (s.pwr.pdUp && s.pwr.mooring == .watch && bit (s.gn O.mooredWakeMask 0) (wakeBit w) && s.wakeMet w)
    (forEach (List.range 4) t State.pairWake).newWindow s

/-! ### The start of the compute die (R396, R397, R411) -/

/-- R419, R422: the bytes that a slot or fuse reads when every bit is programmed. -/
def ones (n : Nat) : List Byte := List.replicate n 0xFF#8

/-- Table 13-11: the tombstone's bytes without its CRC. -/
def State.tombBody (s : State) : List Byte :=
  let head := le 4 0x31524251 ++ le 2 1 ++ le 2 0 ++ le 8 (s.gn O.serialNumber 0) ++ le 2 s.variantCode ++ le 2 0 ++ le 4 s.version ++
    le 8 s.now ++ le 4 s.log.gen ++ le 4 s.logOldest ++ le 4 s.logNewest ++ le 4 0
  let body := head ++ sha256 (s.logRecords.flatMap LogRec.bytes)
  body ++ hmac (s.siteKey.getD []) ([0x51#8, 0x42#8, 0x52#8, 0x54#8] ++ body) ++ ones 3980

/-- R420: a RETIRED device keeps every output off, `BERTH_OUT` low and its chain ports silent. -/
def State.retireQuiet (s : State) : State :=
  let s := forEach s.strings s.outputsOff fun s r => (s.put O.chainRingState r 0).refreshEst r
  { s with
    rings := []
    dup := { s.dup with out := false, claim := s.dup.atRest, request := false, armed := false } }

/-- R419 step 3: the tombstone, where none is valid. -/
def State.retireTomb (s : State) : State :=
  if s.flash.tombstone.isEmpty then
    let b := s.tombBody
    { s with flash := { s.flash with tombstone := b ++ le 4 (crc32 b) } }
  else s

/-- R419 step 4: every customer slot programmed to 1 and revoked (programming what is programmed changes nothing). -/
def State.retireKeys (s : State) : State :=
  { s with otp := { s.otp with
    siteKeys := (List.range 4).map fun k => (k, ones 32)
    moduleKeys := (List.range 16).map fun k => (k, ones 16)
    revoked := List.range 20 } }

/-- R419 step 5: the areas are erased, once. -/
def State.retireWipe (s : State) : State :=
  if s.flash.wiped then s else
  State.eraseAreas { s with
    log := { s.log with pages := [], current := none }
    flash := { s.flash with
      wiped := true, config := [], configSlot := 0, configBad := false, tables := [], journal := [], learnedAt := []
      weldDirty := [] } }

/-- R419: steps 3 to 5, from the first unfinished one. -/
def State.retireSteps (s : State) : State := s.retireTomb.retireKeys.retireWipe

/-- R411: what the scan takes the bytes of a record for: 0 valid, 1 torn, 2 no record. -/
def recordJudged (bs : List Byte) : Nat :=
  let n := leAt bs 8 4
  if leAt bs 0 4 ≠ 0x314A4251 then 2
  else if n < 28 ∨ bs.length < n ∨ crc32 (bs.take (n - 4)) ≠ leAt bs (n - 4) 4 then 1
  else 0

/-- R411: the newest record of a kind and instance read as some bytes: taken as they say where they are valid, else ignored,
with the one before it in its place; a torn one is counted and reported. -/
def State.scanRecord (s : State) (key : Nat) (bs : List Byte) : State :=
  let e := mget ({}, none) s.flash.journal key
  let j := recordJudged bs
  if !mhas s.flash.journal key then s
  else if j = 0 then
    let r : JRec := { e.1 with seq := leAt bs 12 4, time := leAt bs 16 8, payload := (bs.take (leAt bs 8 4 - 4)).drop 24 }
    let two := match e.2 with
      | some p => if r.seq < p.seq then (p, some r) else (r, some p)
      | none => (r, none)
    { s with flash := { s.flash with journal := mins s.flash.journal key two } }
  else
    let left := match e.2 with | some r => mins s.flash.journal key (r, none) | none => mdel s.flash.journal key
    let s : State := { s with flash := { s.flash with journal := left } }
    if j = 1 then (s.bump O.journalTornCount 0).raise 0xF9 (key / 8) else s

/-- R411: where writing resumes: the start of the sector after the newest valid record, and the sequence goes on from it. -/
def State.journalResume (s : State) : State :=
  let l := s.flash.journal.map fun e => e.2.1
  { s with flash := { s.flash with
    jseq := (l.map fun r => r.seq).foldl max 0
    jbytes := ((l.map fun r => r.start + journalBytes r.payload).foldl max 0 + 4095) / 4096 * 4096 } }

/-- R411: the journal scan, then the winning records of kinds 3 to 6. `read` gives the bytes that stand in flash where a newest
record was not written whole. -/
def State.scanJournal (s : State) (read : List (Nat × List Byte)) : State :=
  let s := (forEach read s fun s e => s.scanRecord e.1 e.2).journalResume
  let num (kind n : Nat) : Nat := match s.journalRec kind 0 with | some j => leAt j.payload 0 n | none => 0
  let s : State := { s with
    flash := { s.flash with challenge := num 5 8, reserved := num 5 8 }
    fw := { s.fw with tamper := num 4 4, lifecycle := (s.journalRec 3 0).map fun j => (byteAt j.payload 0).toNat } }
  let s := if num 6 8 = 0 then s else s.put O.timeStepTotal 0 (num 6 8 : Nat)
  if s.otp.commissioned && !s.otp.retired && s.fw.lifecycle.isNone then s.tamper 8 else s

/-- R303, R305, R402: device time resumes from the last time mark where domain 8 has not run; no discipline is in force. -/
def State.resumeTime (s : State) : State :=
  let c := { s.clk with rtcRunning := true, slewNs := 0, rateHold := 0, stepNs := none, timeSetAt := none, lastSync := none, goodSyncs := 0,
                        markAt := s.mono }
  if s.clk.rtcRunning then { s with clk := c }
  else match s.journalRec 2 0 with
    | some j => { s with clk := { c with now := j.time + 60000000, frac := 0, resumed := true, ahead := false,
                                         everSynced := bit (byteAt j.payload 0).toNat 0 } }
    | none => { s with clk := { c with now := 0, frac := 0, resumed := false, ahead := false, everSynced := false } }

/-- R387, R421: the log scan; 0xB208 sets the tamper indicator of a power loss. -/
def State.startLog (s : State) (torn : List (Nat × Nat)) : State :=
  let t := s.logScan s.fw.powerOn torn
  if t.log.staging.any fun r => r.code == 0xB208 then t.tamper 6 else t

/-- R343, R329, R426: the configuration of a start: the image over the defaults, so objects new to it take theirs. -/
def State.startConfig (s : State) : State :=
  let saved (k : Nat) : Bool := match objRow (k / 65536) with | some o => o.saved | none => false
  let base : State := { s with objs := s.objs.filter fun e => !saved e.1 }
  match s.bootImage with
  | none => { base with flash := { base.flash with configSlot := 0, configSeq := 0, configBad := false },
                        fw := { base.fw with configDefaults := true, noManifest := true, manifest := [] } }
  | some (k, img) =>
    let l := entriesOf img
    let m := entriesManifest l
    let t := forEach l base fun s e => forEach e.values s fun s v => s.storeValue e.index v.1 v.2
    { t with flash := { t.flash with configSlot := k + 1, configSeq := leAt img 16 4, configBad := false },
             fw := { t.fw with manifest := m, noManifest := m.isEmpty } }

/-- R79, R283, R348, R244, R357: what a start takes from the configuration: tally period, duplex mode, bit timing, and the power
die's copies of the safety configuration. A device that comes into duplex operation does not hold the berth, and its outputs are
off. -/
def State.startValues (s : State) : State :=
  let was := s.dup.mode
  let s : State := { s with
    pwr := { s.pwr with copies := [] }
    fw := { s.fw with period := s.gn O.tallyPeriod 0, readbackAt := s.mono }
    dup := { s.dup with mode := s.gn O.duplexMode 0 } }
  let s : State := if was = 0 && s.dup.mode != 0 then
      let s := s.outputsOff; { s with wd := { s.wd with failSafe := false } } else s
  let s : State := if s.dup.mode = 0 then { s with dup := { s.dup with out := false, claim := s.dup.atRest, armed := false } } else s
  let s := forEach [0, 1] s fun s ch =>
    s.canUpd ch fun c => { c with nominal := s.el O.canNominalTiming ch, data := s.el O.canDataTiming ch, tdc := s.el O.canTdc ch }
  s.cyclesStart.safeOffApply

/-- R332, R411, R396: the manifest's objects, the learned data, and IDLE on every ring of it. R404: a start within a moored entry
goes on with it (DESIGN CHOICE, log entry 190): a ring that is not asleep gets its BALANCE and SLEEP, and the flush is made
again. -/
def State.startRings (s : State) : State :=
  let s := forEach (List.range 4) s (State.fillRing s.fw.manifest)
  let s := forEach (s.strings.filter s.inManifest) s State.applyLearned
  let s := forEach s.strings s fun s r =>
    if s.otp.retired || (s.mooring && (s.ring r).asleep) then s
    else
      let s := s.ringUpd r fun x => { x with asleep := false, wakeAt := s.mono }
      let s := if s.inManifest r then s.put O.chainRingState r 1 else s
      if s.mooring then s.ringMoor r else s
  forEach s.strings { s with pwr := { s.pwr with moorStep := min 1 s.pwr.moorStep } } State.refreshEst

/-- R194: the first state of a manifest string. -/
def State.startString (s : State) (n : Nat) : State :=
  if (s.driversIn n).any fun d => (s.drv d).failsafe then
    s.failSafeTrip n (if s.dup.mode = 0 then 0xE3 else 0xEC) s.wd.failInst
  else if s.anyWelded n then s.enterSeq n 11 else s

/-- R257, R272, R435, R237: commands as the power die applies them; the thermal cause while the package is at stage 4; a
driver that is overdue is judged anew (DEDUCED, log entry 28). -/
def State.startOutputs (s : State) : State :=
  let s := forEach ((List.range 12).filter fun d => (s.drv d).overdue) s fun s d => s.drvUpd d fun v => { v with overdue := false }
  let s := forEach (List.range 16) s fun s n =>
    (s.put O.loadSwitchCommand n ((s.lsw n).mode : Nat)).put O.loadSwitchPwmDuty n ((s.lsw n).duty : Nat)
  let s := forEach s.strings s fun s n => s.put O.motorSpeedCommand n ((s.mot n).cmd : Nat)
  let s := forEach (s.strings.filter s.inManifest) s State.startString
  if s.gn O.throttleStage 3 = 4 then forEach s.strings s fun s n => s.openCause n 4 else s

/-- R397, Table 13-3: the checks: 0xFB for each item that fails, its bit, and its consequence. -/
def State.startChecks (s : State) (c : StartupChecks) : State :=
  let f := [c.item0, c.item1, c.item2, !c.isaOffset.isEmpty, !c.motorOffset.isEmpty, !c.euFailed.isEmpty]
  let s := s.put O.startupCheckResult 0 (word f : Nat)
  let s := forEach ((List.range 6).filter fun k => bit (word f) k) s fun s k => s.raise 0xFB k
  let s := forEach c.isaOffset s fun s k => s.chanUpd (k.val * 2 + 1) fun x => { x with faultHeld := true }
  let s := forEach (c.isaTrims.filter fun e => s.has e.1.val && !c.isaOffset.contains e.1) s fun s e =>
    s.chanUpd (e.1.val * 2 + 1) fun x => { x with offset := e.2 }
  let s := forEach (s.strings.filter fun k => (s.mot k).offsetFault && !(c.motorOffset.any fun j => j.val == k)) s fun s k =>
    (s.mdCoast k 0).motUpd k fun m => { m with lockedOff := false, offsetFault := false }
  let s := forEach (c.motorOffset.filter fun k => s.has k.val) s fun s k =>
    (s.mdCoast k.val 7).motUpd k.val fun m => { m with lockedOff := true, offsetFault := true }
  forEach c.euFailed s fun s e => s.retireEu e.val

/-- R41: the reasons the power die kept, then its kept sources in ascending number. -/
def State.raiseKept (s : State) : State :=
  let why := s.pwr.reasons
  let kept := s.pwr.kept
  let s : State := { s with pwr := { s.pwr with reasons := [], kept := [] } }
  let s := forEach why s fun s e => s.raise e.1 e.2
  forEach kept s fun s e => s.raiseLater e.1 e.2

/-- R396, R397, R329: STARTUP clears unless an item of the first three failed; 0xF5 with the cause. -/
def State.startEnd (s : State) (c : StartupChecks) : State :=
  let s : State := { s with fw := { s.fw with cause := s.pwr.cause, scanned := true } }
  if c.item0 || c.item1 || c.item2 then s
  else State.raise { s with fw := { s.fw with startup := false, startedAt := s.mono } } 0xF5 s.pwr.cause

/-- STARTUP_COMPLETE (R396): journal scan, time, log scan, table sets, configuration, learned data, outputs and checks. -/
def State.startUp (s : State) (c : StartupChecks) : State :=
  let s := (s.scanJournal c.records).resumeTime.startLog c.tornPages
  let s := if s.otp.retired then (if s.flashOk then s.retireSteps else s).retireQuiet else s
  let s := forEach (List.range 4) s State.loadTable
  let s := s.startConfig.startValues.startRings.startOutputs
  ((s.startChecks c).raiseKept).startEnd c

/-- STARTUP_COMPLETE (R396). -/
def execStartupComplete (c : StartupChecks) (s : State) : Host.Outcome State Fault Refusal :=
  doneIf (s.cd && !s.fw.scanned) (s.startUp c) s

/-! ### Clearing the log (R390) -/

/-- LOG_CLEAR (R390, R421): `auth` says TAGGED in the open session; the requester goes into 0xB201. -/
def State.logClear (s : State) (auth : Bool) (node link v : Nat) : State × Nat :=
  if !auth then refuse s 0x0204
  else if !([1, 3].contains s.lifecycle) then refuse s 0x0405
  else if !s.flashOk then refuse s 0x0404
  else if v ≠ s.logClearCode then refuse s 0x0301
  else accept ((s.logClearRun node link).tamper 5)

/-- LOG_CLEAR (R390). -/
def execLogClear (req : Req) (code : BitVec 32) (s : State) : Host.Outcome State Fault Refusal :=
  s.request req O.logClear 0 fun s => s.logClear (s.authOk req) req.src req.link.val code.toNat

/-! ### Keys (R414 to R416) -/

/-- Table 13-9: the key under its keystream. -/
def State.unwrap (s : State) (nonce wrapped : List Byte) : List Byte :=
  let last := byteAt nonce 15
  xorB wrapped (aes s.otp.kT nonce ++ aes s.otp.kT (nonce.take 15 ++ [last + 1]))

/-- R416: the checks of a wrapped key of `len` bytes whose KEY_ID must be `id` (none: no slot left). -/
def State.keyCheck (s : State) (auth : Bool) (len : Nat) (id : Option Nat) (b : List Byte) : Nat :=
  if s.lifecycle ≠ 0 && !auth then 0x0204
  else if b.length ≠ 28 + len then 0x0302
  else if leAt b 1 3 ≠ 0 then 0x0305
  else if id ≠ some (byteAt b 0).toNat then 0x0301
  else if (cmac s.otp.kT (b.take (20 + len))).take 8 ≠ b.drop (20 + len) then 0x0306
  else 0

/-- R416: a wrong tag counts as an authentication failure and sets its tamper indicator. -/
def State.keyRefused (s : State) (link st : Nat) : State × Nat :=
  refuse (if st = 0x0306 then (s.authFailure link).tamper 3 else s) st

/-- SITE_KEY_WRITE (R416). -/
def State.siteKeyWrite (s : State) (auth : Bool) (link : Nat) (b : List Byte) : State × Nat :=
  let k := (List.range 4).find? fun k => !mhas s.otp.siteKeys k
  let st := s.keyCheck auth 32 k b
  if st ≠ 0 then s.keyRefused link st
  else
    let key := s.unwrap ((b.drop 4).take 16) ((b.drop 20).take 32)
    accept (State.sessionEnd { s with otp := { s.otp with siteKeys := mins s.otp.siteKeys (k.getD 0) key } })

/-- SITE_KEY_WRITE (R416). -/
def execSiteKeyWrite (req : Req) (blob : List Byte) (s : State) : Host.Outcome State Fault Refusal :=
  s.request req O.siteKeyWrite 0 fun s => s.siteKeyWrite (s.authOk req) req.link.val blob

/-- MODULE_KEY_WRITE (R416): every monitor of the ring is authenticated again. -/
def State.moduleKeyWrite (s : State) (auth : Bool) (link r : Nat) (b : List Byte) : State × Nat :=
  let k := ((List.range 4).map fun g => r * 4 + g).find? fun k => !mhas s.otp.moduleKeys k
  let st := s.keyCheck auth 16 (k.map fun k => 0x10 + k) b
  if st ≠ 0 then s.keyRefused link st
  else
    let key := s.unwrap ((b.drop 4).take 16) ((b.drop 20).take 16)
    let s : State := { s with otp := { s.otp with moduleKeys := mins s.otp.moduleKeys (k.getD 0) key } }
    accept (if [3, 4].contains (s.gn O.chainRingState r) then forEach (List.range (s.nMon r)) s fun s p => s.authStart r p else s)

/-- MODULE_KEY_WRITE (R416). -/
def execModuleKeyWrite (req : Req) (ring : Fin 4) (blob : List Byte) (s : State) : Host.Outcome State Fault Refusal :=
  s.request req O.moduleKeyWrite ring.val fun s => s.moduleKeyWrite (s.authOk req) req.link.val ring.val blob

/-! ### Life-cycle (R413, R417 to R419, R422) -/

/-- R417: a transition: the life-cycle record, 0xF6 with the new state, the end of the session. -/
def State.enterLife (s : State) (st : Nat) : State :=
  let s := s.journal 3 0 (le 1 st ++ [0, 0, 0])
  (State.raise { s with fw := { s.fw with lifecycle := some st } } 0xF6 st).sessionEnd

/-- Table 13-10a: out of BLANK: the areas erased, a time mark, the record, then the fuse. -/
def State.commission (s : State) : State :=
  let s : State := { s with
    flash := { s.flash with
      config := [], configSlot := 0, configBad := false, tables := [], journal := [], reserved := s.flash.challenge }
    log := { s.log with pages := [], current := none } }
  let s := s.eraseAreas.timeMark false
  let t := s.enterLife 1
  { t with otp := { t.otp with commissioned := true } }

/-- R417, R419: the life-cycle record, steps 1 and 2, then the rest. -/
def State.retire (s : State) : State :=
  let s := (s.journal 3 0 (le 1 4 ++ [0, 0, 0])).logSeal.logProgramAll
  let t : State := { s with otp := { s.otp with retired := true } }
  ((t.raise 0xF6 4).sessionEnd).retireSteps.retireQuiet

/-- R417: the low 24 bits of the CRC-32 of `SerialNumber`. -/
def State.retireCode (s : State) : Nat := crc32 (le 8 (s.gn O.serialNumber 0)) % 2 ^ 24

/-- LIFE_CYCLE_COMMAND (R417): the target in bits 7 to 0, the rest above; a target that Table 13-10a does not give the state is
answered 0x0405. -/
def State.lifeCommand (s : State) (target up : Nat) : State × Nat :=
  let l := s.lifecycle
  if target ≠ 4 && up ≠ 0 then refuse s 0x0305
  else
    let ok := if target = 1 then l == 0 && mhas s.otp.siteKeys 0
      else if target = 2 then (l == 1 || l == 3) && s.lifeCycleBlock == 0
      else if target = 3 then l == 2
      else target == 4 && [1, 2, 3].contains l && s.allOpen
    if !ok then refuse s 0x0405
    else if !s.flashOk then refuse s 0x0404
    else if target = 4 then (if up ≠ s.retireCode then refuse s 0x0301 else accept s.retire)
    else if target = 1 then accept s.commission
    else accept (s.enterLife target)

/-- LIFECYCLE_COMMISSION (R417). -/
def execLifecycleCommission (req : Req) (value : BitVec 32) (s : State) : Host.Outcome State Fault Refusal :=
  s.request req O.lifeCycleCommand 0 fun s => s.lifeCommand 1 (value.toNat / 256)

/-- LIFECYCLE_IN_SERVICE (R417). -/
def execLifecycleInService (req : Req) (value : BitVec 32) (s : State) : Host.Outcome State Fault Refusal :=
  s.request req O.lifeCycleCommand 0 fun s => s.lifeCommand 2 (value.toNat / 256)

/-- LIFECYCLE_MAINTENANCE (R417). -/
def execLifecycleMaintenance (req : Req) (value : BitVec 32) (s : State) : Host.Outcome State Fault Refusal :=
  s.request req O.lifeCycleCommand 0 fun s => s.lifeCommand 3 (value.toNat / 256)

/-- LIFECYCLE_RETIRE (R419). -/
def execLifecycleRetire (req : Req) (value : BitVec 32) (s : State) : Host.Outcome State Fault Refusal :=
  s.request req O.lifeCycleCommand 0 fun s => s.lifeCommand 4 (value.toNat / 256)

/-- TAMPER_ACKNOWLEDGE (R422, R410): the record is committed at once where flash permits, else within 1 s. -/
def State.tamperAck (s : State) (mask : Nat) : State × Nat :=
  if 512 ≤ mask then refuse s 0x0305
  else if !([1, 3].contains s.lifecycle) then refuse s 0x0405
  else
    let v := s.fw.tamper - Nat.land s.fw.tamper mask
    let s : State := { s with fw := { s.fw with tamper := v } }
    let s := if s.flashOk then s.journal 4 0 (le 4 v) else s
    accept (s.raise 0xF8 0x80)

/-- TAMPER_ACKNOWLEDGE (R422). -/
def execTamperAcknowledge (req : Req) (mask : BitVec 32) (s : State) : Host.Outcome State Fault Refusal :=
  s.request req O.tamperAcknowledge 0 fun s => s.tamperAck mask.toNat

/-! ### Firmware update (R423 to R426) -/

/-- R424: life-cycle state and flash. DEDUCED (log entry 186, R291): while an activation waits for its hand-over (R375), a later
request of this section is answered as it would be once the slot is a trial. -/
def State.fwGate (s : State) : Nat :=
  if !([1, 2, 3].contains s.lifecycle) then 0x0405 else if !s.flashOk then 0x0404 else if s.fw.activating.isSome then 0x0411 else 0

/-- FIRMWARE_BEGIN (R424). -/
def State.fwBegin (s : State) : State × Nat :=
  if s.fwGate ≠ 0 then refuse s s.fwGate
  else if (s.slot (1 - s.otherSlot)).st = 6 then refuse s 0x0411
  else accept (s.slotUpd s.otherSlot fun _ => { st := 1 })

/-- FIRMWARE_BEGIN (R424). -/
def execFirmwareBegin (req : Req) (s : State) : Host.Outcome State Fault Refusal :=
  s.request req O.firmwareCommand 0 State.fwBegin

/-- FIRMWARE_ERASE_DONE (R424). -/
def execFirmwareEraseDone (s : State) : Host.Outcome State Fault Refusal :=
  doneIf (s.running && (s.slot s.otherSlot).st == 1)
    ((s.slotUpd s.otherSlot fun _ => { st := 2 }).eraseAll (16 * s.otherSlot)) s

/-- R424: the length that a chunk must have in an image of `len` bytes; 0 for a chunk beyond it. -/
def chunkLen (len c : Nat) : Nat := min 32768 (len - c * 32768)

/-- FIRMWARE_CHUNK_WRITE (R424). -/
def State.fwChunk (s : State) (c : Nat) (bs : List Byte) : State × Nat :=
  let x := s.slot s.otherSlot
  let len := if c = 0 then leAt bs 8 4 else x.imageLen
  let known := c = 0 || mhas x.chunks 0
  if (c = 0 && bs.length < 12) || (known && bs.length ≠ chunkLen len c) || bs.isEmpty then refuse s 0x0302
  else if s.fwGate ≠ 0 then refuse s s.fwGate
  else if x.st ≠ 2 || !known then refuse s 0x0411
  else if mhas x.chunks c then
    (if mget [] x.chunks c = bs then accept s else refuse s 0x0306)
  else accept (s.slotUpd s.otherSlot fun x => { x with chunks := mins x.chunks c bs })

/-- FIRMWARE_CHUNK_WRITE (R424). -/
def execFirmwareChunkWrite (req : Req) (chunk : Fin 64) (bytes : List Byte) (s : State) : Host.Outcome State Fault Refusal :=
  s.request req O.firmwareChunk chunk.val fun s => s.fwChunk chunk.val bytes

/-- Table 13-14: the first check that a written image fails. -/
def State.fwCheck (s : State) (x : FwSlot) : Nat :=
  let f := x.image
  let len := x.imageLen
  let chunks := (len + 32767) / 32768
  let variantBit : Nat := match s.variant with | .qb2048 => 0 | .qb1024 => 1
  let reserved := leAt f 22 2 != 0 || ((f.drop 32).take 96).any (fun b => b != 0) || bits (leAt f 20 2) 15 2 != 0
  if leAt f 0 4 ≠ 0x31464251 ∨ leAt f 4 2 ≠ 1 ∨ leAt f 6 2 ≠ 128 ∨ reserved = true then 1
  else if len < 4096 ∨ 2093056 < len then 2
  else if (List.range chunks).any fun c => !mhas x.chunks c then 3
  else if !bit (leAt f 20 2) variantBit then 4
  else if !s.imageSigned x then 5
  else if leAt f 16 2 < s.otp.floor then 6
  else 0

/-- FIRMWARE_VERIFY (R424, R421): a failed image is answered 0x0306 with its code in `FirmwareVerifyError`. -/
def State.fwVerify (s : State) : State × Nat :=
  let k := s.otherSlot
  let x := s.slot k
  if s.fwGate ≠ 0 then refuse s s.fwGate
  else if x.st ≠ 2 then refuse s 0x0411
  else
    let c := s.fwCheck x
    let f := mget [] x.chunks 0
    let s := s.put O.firmwareVerifyError 0 (c : Nat)
    if c = 0 then
      accept ((s.slotUpd k fun x => { x with st := 3, version := leAt f 12 4, security := leAt f 16 2 }).raise 0xF7 0)
    else
      let s := (s.slotUpd k fun x => { x with st := 4 }).raise 0xF7 1
      refuse (if c = 5 ∨ c = 6 then s.tamper 4 else s) 0x0306

/-- FIRMWARE_VERIFY (R424). -/
def execFirmwareVerify (req : Req) (s : State) : Host.Outcome State Fault Refusal :=
  s.request req O.firmwareCommand 0 State.fwVerify

/-- R375: the holder of a pair with a contactor closed hands over before it activates. -/
def State.mustHandOver (s : State) : Bool := s.dup.mode != 0 && s.dup.out && s.anyEnergised

/-- FIRMWARE_ACTIVATE (R425, R36, R375): the checks; the reset, or the hand-over, follows. -/
def State.fwActivate (s : State) : State × Nat :=
  if s.fwGate ≠ 0 then refuse s s.fwGate
  else if (s.slot s.otherSlot).st ≠ 3 then refuse s 0x0411
  else if s.dup.mode = 0 && s.anyEnergised then refuse s 0x0406
  else if s.mustHandOver && (s.dup.handover ≠ 0 || s.handoverInhibit) then refuse s 0x0406
  else accept s

/-- R375: a hand-over begins, and its outcome answers the activation. -/
def State.activateLater (s : State) (req : Req) (msg : List Byte) : State :=
  let s := s.handoverStart
  { s with fw := { s.fw with activating := some (req, msg) } }

/-- FIRMWARE_ACTIVATE (R425). -/
def execFirmwareActivate (req : Req) (s : State) : Host.Outcome State Fault Refusal :=
  if !s.hears req then done s
  else if s.writeGate O.firmwareCommand 0 (s.authOk req) = 0 && s.fwActivate.2 == 0 && s.mustHandOver then done ((s.tagSeen req).activateLater req [])
  else following State.activateNow (s.request req O.firmwareCommand 0 State.fwActivate)

/-- FIRMWARE_ABORT (R424): the slot goes to empty. -/
def State.fwAbort (s : State) : State × Nat :=
  if s.fwGate ≠ 0 then refuse s s.fwGate
  else if [5, 6].contains (s.slot s.otherSlot).st then refuse s 0x0411
  else accept (s.slotUpd s.otherSlot fun _ => {})

/-- FIRMWARE_ABORT (R424). -/
def execFirmwareAbort (req : Req) (s : State) : Host.Outcome State Fault Refusal :=
  s.request req O.firmwareCommand 0 State.fwAbort

/-- FIRMWARE_TRIAL_CONFIRM (R426): `FirmwareTrialTime` after STARTUP cleared: the trial slot becomes active, the other one
verified, and the floor rises. -/
def State.trialConfirm (s : State) (k : Nat) : State :=
  let s := s.slotUpd (1 - k) fun x => if x.st = 5 then { x with st := 3 } else x
  let s := s.slotUpd k fun x => { x with st := 5 }
  State.raise { s with
    flash := { s.flash with active := k }
    otp := { s.otp with floor := max s.otp.floor (s.slot k).security } } 0xF7 3

/-- FIRMWARE_TRIAL_CONFIRM (R426). -/
def execFirmwareTrialConfirm (s : State) : Host.Outcome State Fault Refusal :=
  match s.flash.booted with
  | none => done s
  | some k => doneIf (s.running && s.flashOk && !s.fw.startup && (s.slot k).st == 6 &&
      s.past s.fw.startedAt (s.gn O.firmwareTrialTime 0 * 1000000)) (s.trialConfirm k) s

end Sys2Proof.Machine
end

