-- ==== Sys2Proof/Machine/Thermal.lean ====
section
/-! DEFINITION. Sys2Proof/Machine/Thermal.lean: die sensors, throttling and thermal shedding (R429 to R435), and the
background work of chapter 14 (R438 to R442), with the meanings of their commands. -/

namespace Sys2Proof.Machine

/-! ### Sensors and scopes (R429 to R431) -/

/-- R430: what a broken sensor reads, and what stands for a missing frame, 0.01 °C. -/
def brokenTemp : Int := 12500

/-- R429: `DieSensorTemp` of a sensor. -/
def State.sensor (s : State) (k : Nat) : Int := s.gi O.dieSensorTemp k

/-- R430: a sensor is broken. -/
def State.sensorBroken (s : State) (k : Nat) : Bool := s.gn O.dieSensorState k == 1

/-- The greatest of some sensors. -/
def State.hottest (s : State) (l : List Nat) : Int := l.foldl (fun a k => max a (s.sensor k)) (s.sensor (l.headD 0))

/-- R431: the compute die's temperature as the power die has it. -/
def State.computeTemp (s : State) : Int := if s.th.frameLost then brokenTemp else s.th.frameTemp

/-- R431: die, region and package temperatures, and the peaks. The frame of class 5 goes to the power die every 1 ms while
the link is up. -/
def State.deriveTemps (s : State) : State :=
  let s := if s.cd then
      ((s.put O.regionTemperature 0 (s.hottest [0, 1, 2])).put O.regionTemperature 1 (s.hottest [3, 4, 5])).put O.dieTemperature 0
        (s.hottest [0, 1, 2, 3, 4, 5])
    else s
  let s : State := if s.cd && s.dieLink && (s.th.frameLost || s.past s.th.frameAt 1000) then
      State.sayC { s with th := { s.th with frameAt := s.mono, frameLost := false, frameTemp := s.gi O.dieTemperature 0 } } 5
        (65536 + (s.gi O.dieTemperature 0 % 65536).toNat)
    else s
  let s := s.put O.dieTemperature 1 (s.hottest [6, 7, 8, 9, 10, 11])
  let s := s.put O.packageTemperature 0 (max s.computeTemp (s.gi O.dieTemperature 1))
  if s.cd then
    forEach [0, 1] s fun s d => s.put O.diePeakTemp d (max (s.gi O.diePeakTemp d) (s.gi O.dieTemperature d))
  else s

/-- R432: scope 0 and 1 the regions, 2 the compute die, 3 the package: the temperature it is judged on. -/
def State.scopeTemp (s : State) (k : Nat) : Int :=
  if k < 2 then s.gi O.regionTemperature k else if k = 2 then s.gi O.dieTemperature 0 else s.gi O.packageTemperature 0

/-- Table 14-2: the stages of a scope. -/
def scopeStages (k : Nat) : List Nat := if k < 2 then [1, 2] else if k = 2 then [1] else [3, 4]

/-- Table 14-2: threshold of a stage, 0.01 °C. -/
def stageTemp (g : Nat) : Int := if g = 1 then 11000 else if g = 2 then 11800 else if g = 3 then 13000 else 14000

/-- R433: one conversion judged against the stages of a scope. -/
def State.judgeScope (s : State) (k : Nat) : State :=
  let t := s.scopeTemp k
  s.scopeUpd k fun x => (scopeStages k).foldl (fun (x : Scope) g =>
    { hits := mset 0 x.hits g (if stageTemp g ≤ t then min 3 (mget 0 x.hits g + 1) else 0),
      below := if stageTemp g - 500 ≤ t then mdel x.below g else if mhas x.below g then x.below else mins x.below g s.mono }) x

/-- The middle of five values. -/
def median5 (l : List Int) : Int := (l.mergeSort fun a b => decide (a ≤ b)).getD 2 0

/-- R430: since when a sensor has differed by more than 30 °C from the median of the other five of its die. -/
def State.judgeDeviation (s : State) (k : Nat) : State :=
  let others := ((List.range 6).map fun j => k / 6 * 6 + j).filter fun j => j != k
  let far := decide (3000 < (s.sensor k - median5 (others.map s.sensor)).natAbs)
  { s with th := { s.th with
    deviant := if !far then mdel s.th.deviant k else if mhas s.th.deviant k then s.th.deviant else mins s.th.deviant k s.mono } }

/-- R430: a sensor is broken: it reads 125 °C until the next reset of its die; 0xE2. -/
def State.sensorBreak (s : State) (k : Nat) : State :=
  ((s.put O.dieSensorState k 1).put O.dieSensorTemp k brokenTemp).raise 0xE2 k

/-- R429, R430: a completed conversion of one sensor, 0.01 °C: a reading outside −55 °C to 175 °C breaks it at once. -/
def State.sensorRead (s : State) (k : Nat) (v : Int) : State :=
  if s.sensorBroken k then s
  else if v < -5500 || 17500 < v then s.sensorBreak k
  else s.put O.dieSensorTemp k v

/-- DIE_SENSOR_CONVERSION (R429, R431, R433): the readings of the sensors that completed, by number; sensors of a die in reset
convert nothing. The power die tells its own to the compute die (Table 1-6, class 4). -/
def State.sensorsRead (s : State) (v : List Int) : State :=
  let live := (List.range 12).filter fun k => decide (6 ≤ k) || s.cd
  let s := forEach live s fun s k => match v[k]? with | some t => s.sensorRead k t | none => s
  let s := forEach live s State.judgeDeviation
  let s := s.deriveTemps.sayP 4 1
  forEach (if s.cd then [0, 1, 2, 3] else [3]) s State.judgeScope

/-- DIE_SENSOR_CONVERSION (R429). -/
def execDieSensorConversion (readings : List Int) (s : State) : Host.Outcome State Fault Refusal :=
  doneIf s.pd (s.sensorsRead readings) s

/-- R430: the grounds that come with time: no conversion completed within 1 ms, or deviant for 1 s. -/
def State.sensorFails (s : State) (k : Nat) (late : Bool) : Bool :=
  late || (mhas s.th.deviant k && s.past (mget 0 s.th.deviant k) 1000000)

/-- DIE_SENSOR_BROKEN (R430): a sensor that is late or has been deviant for 1 s. -/
def execDieSensorBroken (sensor : Fin 12) (late : Bool) (s : State) : Host.Outcome State Fault Refusal :=
  let k := sensor.val
  doneIf (s.pd && (decide (6 ≤ k) || s.cd) && !s.sensorBroken k && s.sensorFails k late) (s.sensorBreak k).deriveTemps s

/-- DIE_TEMP_FRAME_TIMEOUT (R431): no frame for 10 ms. -/
def execDieTempFrameTimeout (s : State) : Host.Outcome State Fault Refusal :=
  doneIf (s.pd && !s.th.frameLost && s.past s.th.frameAt 10000)
    (State.deriveTemps { s with th := { s.th with frameLost := true } }) s

/-! ### Throttling (R432 to R435) -/

/-- R433: a stage changes: 0xE1 with the scope and the new stage. -/
def State.setStage (s : State) (k g : Nat) : State := (s.put O.throttleStage k (g : Nat)).raise 0xE1 (k * 16 + g)

/-- Table 14-2, R434, R435: what the entry of a stage does. -/
def State.stageEnter (s : State) (k g : Nat) : State :=
  let old := s.gn O.throttleStage k
  let s := s.setStage k g
  if k = 2 then { s with th := { s.th with halved := true } }
  else if k = 3 then
    let s : State := if old < 3 then { s with th := { s.th with shedAt := none, shedTemp := none } } else s
    if g = 4 && s.running then forEach s.strings s fun s n => s.openCause n 4 else s
  else s

/-- THROTTLE_STAGE_ENTER (R433): three consecutive conversions at or above the threshold. -/
def execThrottleStageEnter (scope : Fin 4) (stage : Fin 5) (s : State) : Host.Outcome State Fault Refusal :=
  let k := scope.val
  let g := stage.val
  doneIf (s.pd && (k == 3 || s.cd) && (scopeStages k).contains g && decide (s.gn O.throttleStage k < g) &&
    decide (3 ≤ mget 0 (s.scope k).hits g)) (s.stageEnter k g) s

/-- R433: the stage in force once a stage has been left. -/
def lowerStage (g : Nat) : Nat := if g = 2 then 1 else if g = 4 then 3 else 0

/-- Table 14-2, R434, R435: what leaving a stage does. -/
def State.stageLeave (s : State) (k g : Nat) : State :=
  let s := s.setStage k (lowerStage g)
  if k = 2 then { s with th := { s.th with halved := false } }
  else if g = 4 then forEach s.strings s fun s n => s.dropCause n 4
  else if g = 3 then { s with th := { s.th with restoreAt := s.mono } }
  else s

/-- THROTTLE_STAGE_LEAVE (R433): below the threshold less 5 °C for 100 ms. -/
def execThrottleStageLeave (scope : Fin 4) (stage : Fin 5) (s : State) : Host.Outcome State Fault Refusal :=
  let k := scope.val
  let g := stage.val
  doneIf (s.pd && (k == 3 || s.cd) && (scopeStages k).contains g && s.gn O.throttleStage k == g &&
    mhas (s.scope k).below g && s.past (mget 0 (s.scope k).below g) 100000) (s.stageLeave k g) s

/-- R434: one channel shed, unless the package has cooled by 1.00 °C since the previous shed. -/
def State.thermalShed (s : State) : State :=
  let t := s.gi O.packageTemperature 0
  let cooler := match s.th.shedTemp with | some x => decide (t ≤ x - 100) | none => false
  let s : State := { s with th := { s.th with shedAt := some s.mono } }
  if cooler then s else match s.shedPick with
    | some c => State.shedOne { s with th := { s.th with shedTemp := some t } } c true
    | none => s

/-- R434: a shed is due: at the entry into stage 3, then every 5 s. -/
def State.shedDue (s : State) : Bool := match s.th.shedAt with | some a => s.past a 5000000 | none => true

/-- THERMAL_SHED (R434): at entry into stage 3 and every 5 s while it holds. -/
def execThermalShed (s : State) : Host.Outcome State Fault Refusal :=
  doneIf (s.pd && decide (3 ≤ s.gn O.throttleStage 3) && s.shedDue) s.thermalShed s

/-- THERMAL_RESTORE (R434): every 10 s after stage 3 has been left. -/
def execThermalRestore (s : State) : Host.Outcome State Fault Refusal :=
  match s.restorePick true with
  | none => done s
  | some c => doneIf (s.pd && decide (s.gn O.throttleStage 3 < 3) && s.past s.th.restoreAt 10000000)
      (State.restoreOne { s with th := { s.th with restoreAt := s.mono } } c true) s

/-! ### Background work (R438 to R442) -/

/-- SCRUB_PASS (R438, R42): a pass of 10 s with the words it corrected. -/
def execScrubPass (corrected : Nat) (s : State) : Host.Outcome State Fault Refusal :=
  let t : State := { s with fw := { s.fw with scrubAt := s.mono } }
  doneIf (s.running && s.past (max s.fw.scrubAt s.pwr.cdSince) 10000000)
    (((t.bump O.scrubPassCount 0).put O.sramEccCount 0 (s.gi O.sramEccCount 0 + corrected)).ranWork 0) s

/-- R439: the converters: 0 BUSDET, 1 to 4 ISA of string 0 to 3, 5 coil current, 6 load current, 7 `VMOT_S`. -/
def State.converters (s : State) : List Nat := (List.range 8).filter fun k => k == 0 || decide (4 < k) || s.has (k - 1)

/-- R439, R442: the reference conversion of a converter; a device self-test that is pending takes note of it. -/
def State.calibrated (s : State) (k : Nat) (ppm : Int) : State :=
  let ok := decide (ppm.natAbs ≤ 5000)
  let isa (s : State) (v : Bool) : State :=
    if 1 ≤ k ∧ k ≤ 4 then s.chanUpd ((k - 1) * 2 + 1) fun c => { c with calFault := v, repeats := true } else s
  let s : State := { s with th := { s.th with
    calAt := mins s.th.calAt k s.mono, repeats := k :: s.th.repeats.filter fun x => x != k
    test := { s.th.test with
      cal := s.th.test.cal.insert k, calBad := if ok then s.th.test.calBad else s.th.test.calBad.insert k } } }
  let s := if ok then isa { s with th := { s.th with trims := mset 0 s.th.trims k ppm } } false else (isa s true).raise 0xFD 4
  if s.cd then s.ranWork 1 else s

/-- R439, R442: a converter's 600 s have passed, or the device self-test that is pending still waits for its calibration. -/
def State.calDue (s : State) (k : Nat) : Bool :=
  s.past (if mhas s.th.calAt k then mget 0 s.th.calAt k else s.pwr.pulseFrom) 600000000 ||
    match (s.shot 5).pending with | some (_, t) => bit t 2 && !s.th.test.cal.contains k | none => false

/-- R439: no reference conversion falls within 20 µs of a current latch instant. -/
def State.latchNear (s : State) : Bool :=
  s.fw.ticking && (!s.past s.fw.latchedAt 20 || decide (s.fw.tallyAt + s.fw.period < s.mono + 20))

/-- CONVERTER_CALIBRATION (R439): the gain error found, ppm. -/
def execConverterCalibration (conv : Fin 8) (ppm : Int) (s : State) : Host.Outcome State Fault Refusal :=
  let k := conv.val
  doneIf (s.pd && s.converters.contains k && s.calDue k && !s.latchNear) (s.calibrated k ppm) s

/-- A stored copy of a table set, set × 2 + copy. -/
def State.copyAt (s : State) (k : Nat) : Nat × List Byte := mget (0, []) s.flash.tables k

/-- R441: the bytes of a stored copy have come to read otherwise: no valid CRC any more. -/
def State.damageCopy (s : State) (k : Nat) : State :=
  { s with flash := { s.flash with tables := mins s.flash.tables k ((s.copyAt k).1, []) } }

/-- R441: the copies with a bad CRC among the loaded sets. -/
def State.badCopies (s : State) : List Nat :=
  (List.range 8).filter fun k => s.gn O.tableSetState (k / 2) == 1 && !copyValid (s.copyAt k)

/-- R441: a copy with a bad CRC: rewritten from the other copy where that one is good; 0xFD, 2. -/
def State.badCopy (s : State) (repair : Bool) (k : Nat) : State :=
  let other := s.copyAt (k + 1 - k % 2 * 2)
  let t : State := { s with flash := { s.flash with tables := mins s.flash.tables k other } }
  (if repair && copyValid other then t.eraseAll (96 + k) else s).raise 0xFD 2

/-- R441: a slot of which some bytes have come to read otherwise; its digest differs from the one of the boot. -/
def FwSlot.damage (x : FwSlot) (bs : List (Nat × Byte)) : FwSlot :=
  let at1 (c : Nat) (f : List Byte) : List Byte := bs.foldl (fun f e => if e.1 / 32768 = c then f.set (e.1 % 32768) e.2 else f) f
  let chunks := x.chunks.map fun e => (e.1, at1 e.1 e.2)
  let hit := if x.chunks.isEmpty then !bs.isEmpty else chunks != x.chunks
  { x with chunks := chunks, damaged := x.damaged || (x.chunks.isEmpty && hit), suspect := x.suspect || hit }

/-- R441: the check of the slot that runs. -/
def State.slotCheck (s : State) (bs : List (Nat × Byte)) : State :=
  match s.flash.booted with
  | none => s
  | some k =>
    let t := s.slotUpd k fun x => x.damage bs
    if (t.slot k).suspect then t.raise 0xFD 0 else t

/-- R441, R343: the newest configuration slot no longer holds a valid image; the newest valid one is then that of the other slot,
which the next save leaves in place. -/
def State.configDamaged (s : State) : State :=
  if s.flash.configSlot = 0 then s else
  let t : State := { s with flash := { s.flash with config := mins s.flash.config (s.flash.configSlot - 1) [], configBad := true } }
  { t with flash := { t.flash with configSlot := match t.bootImage with | some (k, _) => k + 1 | none => 0 } }

/-- R441: the four checks, with their repairs or (R442, bit 3) without. -/
def State.integrity (s : State) (c : Integrity) (repair : Bool) : State :=
  let s := s.slotCheck c.slotBytes
  let s := if c.factoryOk then s else s.raise 0xFD 1
  let s := forEach (c.badTableCopies.filter fun k => s.gn O.tableSetState (k.val / 2) == 1) s fun s k => s.damageCopy k.val
  let s := forEach s.badCopies s fun s k => s.badCopy repair k
  let s := if c.configOk then s else s.configDamaged
  if !s.flash.configBad then s else if repair then (s.raise 0xFD 3).saveImage else s.raise 0xFD 3

/-- R442, bit 3: the checks made have found damage. -/
def State.damageFound (s : State) (c : Integrity) : Bool :=
  !c.factoryOk || !s.badCopies.isEmpty || s.flash.configBad ||
    match s.flash.booted with | some k => (s.slot k).suspect | none => false

/-- INTEGRITY_CHECK (R441): once in each 24 h; its flash work obeys R45. -/
def execIntegrityCheck (c : Integrity) (s : State) : Host.Outcome State Fault Refusal :=
  let t : State := { s with fw := { s.fw with integrityAt := s.mono } }
  doneIf (s.running && s.flashOk && s.past (max s.fw.integrityAt s.pwr.cdSince) 86400000000) ((t.integrity c true).ranWork 3) s

/-- R442, bit 4: every monitor of the manifest, by ring and position. -/
def State.testedMonitors (s : State) : List (Nat × Nat) :=
  (s.strings.filter s.inManifest).flatMap fun r => (List.range (s.nMon r)).map fun p => (r, p)

/-- R442, Table 3-2 order 8: bit 4 of the target asks every monitor for its STATUS. -/
def State.selfTestTrains (s : State) (t : Nat) : State :=
  if bit t 4 then forEach s.testedMonitors s fun s e => s.queueTo e.1 e.2 8 0x04 [] else s

/-- DEVICE_SELF_TEST_REQUEST (R442, R135, R136): the tests begin. The march test, the known-answer tests and the checks of R441
are made in firmware and fabric time, and `State.deviceTested` takes what they find; the converters become due for their
calibration (`State.calDue`); the READ_STATUS commands are queued. -/
def State.selfTest (s : State) (v : Nat) : State × Nat :=
  let t := v % 65536
  match s.shotGate 5 v (decide (32 ≤ t)) with
  | some st => refuse s st
  | none =>
    if v / 65536 = 0 || t = 0 then refuse s 0x0301
    else
      let s := s.shotStart 5 (v / 65536) t
      accept (if s.deviceTestRuns t then State.selfTestTrains { s with th := { s.th with test := {} } } t
        else s.shotNotRun 5 O.deviceSelfTestResult 2)

/-- DEVICE_SELF_TEST_REQUEST (R442). -/
def execDeviceSelfTestRequest (req : Req) (value : BitVec 32) (s : State) : Host.Outcome State Fault Refusal :=
  s.request req O.deviceSelfTestRequest 0 fun s => s.selfTest value.toNat

/-- R442: the selected tests that take place outside firmware are over: every converter has been calibrated since the
acceptance, and no READ_STATUS is waiting or on its way. -/
def State.deviceTestOver (s : State) (t : Nat) : Bool :=
  (!bit t 2 || s.converters.all fun k => s.th.test.cal.contains k) &&
    (!bit t 4 || s.testedMonitors.all fun e => !s.statusAsked e.1 e.2)

/-- R442, R138, R441: the tests of firmware and fabric time that a target selects, with what they do. -/
def State.firmwareTests (s : State) (t : Nat) (x : TestFound) : State :=
  let s := if bit t 1 then s.checkEus (s.testedEus.filter fun e => x.euFailed.getLsbD e) else s
  if bit t 3 then s.integrity x.checks false else s

/-- R442: FAILED, the selected tests that failed; `u` is the state after the tests of firmware and fabric time. DESIGN CHOICE (log
entry 185): bit 2 fails where a converter is beyond ±0.5 %, bit 4 where a monitor has not answered. -/
def State.testsFailed (s u : State) (t : Nat) (x : TestFound) : Nat :=
  Nat.land t (word [!x.marchOk, s.testedEus.any fun e => x.euFailed.getLsbD e, !s.th.test.calBad.isEmpty, u.damageFound x.checks,
    s.testedMonitors.any fun e => !s.th.test.answered.contains (monKey e.1 e.2)])

/-- R442: the tests have run: the result, and 0xFC with the lowest failed bit. -/
def State.deviceTested (s : State) (q t : Nat) (x : TestFound) : State :=
  let u := s.firmwareTests t x
  let f := s.testsFailed u t x
  let ms := (s.mono - (s.shot 5).acceptedAt) / 1000
  let u := (u.shotDone 5 O.deviceSelfTestResult [(q : Nat), (t : Nat), (b2n (f != 0) : Nat), (f : Nat), (ms : Nat)]).ranWork 9
  match (List.range 5).find? fun k => bit f k with | some k => u.raise 0xFC k | none => u

/-- DEVICE_SELF_TEST_DONE (R442, R136): the selected tests have run; where the device is no longer READY they do not. -/
def execDeviceSelfTestDone (found : TestFound) (s : State) : Host.Outcome State Fault Refusal :=
  match (s.shot 5).pending with
  | none => done s
  | some (q, t) =>
    doneIf (s.running && (!s.deviceTestRuns t || s.deviceTestOver t))
      (if s.deviceTestRuns t then s.deviceTested q t found else s.dropDeviceTest) s

end Sys2Proof.Machine
end

