-- ==== Sys2Proof/Machine/Qlp.lean ====
section
/-! DEFINITION. Sys2Proof/Machine/Qlp.lean: requests and block frames of the Quay Link Protocol as the links deliver them:
headers and violations (R285 to R287, R317), responses with their retransmission (R288, R292), segmented transfers (R293,
R294), READ and WRITE (R289, R290, R297), sessions (R296 to R298) and TIME_SET (R308). -/

namespace Sys2Proof.Machine

/-! ### Frames and violations -/

/-- R282, R310: the link carries frames. -/
def State.linkUp (s : State) (link : Nat) : Bool :=
  if link < 2 then s.gb O.canEnable link && s.gn O.canErrorState link != 2 else s.ethUp

/-- R310: octets on the wire of a datagram with a QLP message, from the MAC header to the FCS (PRESUMED, log entry 25). -/
def wireOctets (n : Nat) : Nat := max 64 (n + 54)

/-- R310: octets of an ICMP echo message of `n` data bytes on the wire (PRESUMED, log entry 25). -/
def icmpOctets (n : Nat) : Nat := max 64 (n + 46)

/-- R310, R311: the frame is for this protocol: of the plain form, and on Ethernet to port 47740. -/
def forQlp (f : QlpFrame) : Bool := f.form == .plain && (f.link.val < 2 || f.port == 47740)

/-- `CanStats` frames received; `EthStats` octets in and frames in, QLP in and frames dropped. -/
def State.countIn (s : State) (f : QlpFrame) : State :=
  if f.link.val < 2 then s.bump O.canStats (f.link.val * 6 + 1)
  else (s.ethIn (wireOctets f.msg.length)).bump O.ethStats (if forQlp f then 6 else 5)

/-- A frame that does not reach this protocol. R282: frames with 11-bit identifiers and remote frames are ignored. R310:
fragments, IP options, other protocols and broadcasts are dropped and counted; so is a datagram to another port (log entry
164). A damaged frame counts as a bus error on CAN and as an FCS error on Ethernet. -/
def State.strange (s : State) (f : QlpFrame) : State :=
  if f.form = .damaged then
    (if f.link.val < 2 then s.bump O.canStats (f.link.val * 6 + 2) else s.bump O.ethStats 4)
  else if f.link.val < 2 then s else s.countIn f

/-- R317: a violation counted; 0xD5 at most once per 10 s per link. -/
def State.violation (s : State) (link cat : Nat) : State :=
  let s := s.bump O.qlpViolations (link * 8 + cat)
  let late := match s.qlp.violAt.find? (fun p => p.1 == link) with
    | none => true | some p => s.past p.2 10000000
  if late then State.raise { s with qlp := { s.qlp with violAt := mins s.qlp.violAt link s.mono } } 0xD5 link else s

/-- R280, R281, R317 categories 0 and 3: whether the device goes on with a frame. -/
def State.accepts (s : State) (f : QlpFrame) : State × Bool :=
  let l := f.link.val
  if s.nodeId ≠ 0 && f.src == s.nodeId then ((s.violation l 3).raise 0xDC l, false)
  else if f.dest = 127 then
    (if f.cls = 8 then s.violation l 3
     else if f.src = 127 || (f.src == 0 && s.nodeId != 0) || f.cls != 10 then s.violation l 0 else s, false)
  else if !s.addressed f.dest then (s, false)
  else if 127 ≤ f.src || (f.src == 0 && s.nodeId != 0) || !([8, 10].contains f.cls) then (s.violation l 0, false)
  else (s, true)

/-- A frame of a class arrives on a link and, if the device goes on with it, `op` acts on it. R311: a malformed datagram is
dropped and counted (category 1, DESIGN CHOICE, log entry 136). -/
def State.receive (s : State) (f : QlpFrame) (cls : Nat) (op : State → State) : Host.Outcome State Fault Refusal :=
  let l := f.link.val
  if !s.running || !s.linkUp l || ([8, 10].contains f.cls && f.cls != cls) then .next s
  else if !forQlp f then .next (s.strange f)
  else if badDatagram f then .next (((s.countIn f).bump O.ethStats 5).violation l 1)
  else
    let r := (s.countIn f).accepts f
    .next (if r.2 then op r.1 else r.1)

/-! ### The request header (Table 9-4) -/

/-- OP. -/
def reqOp (f : QlpFrame) : Nat := (byteAt f.msg 0).toNat
/-- FLAGS bit 0. -/
def reqTagged (f : QlpFrame) : Bool := bit (byteAt f.msg 1).toNat 0
/-- FLAGS bit 1. -/
def reqSegmented (f : QlpFrame) : Bool := bit (byteAt f.msg 1).toNat 1
/-- INDEX. -/
def reqIndex (f : QlpFrame) : Nat := leAt f.msg 2 2
/-- SUBINDEX. -/
def reqSub (f : QlpFrame) : Nat := leAt f.msg 4 2
/-- COUNT. -/
def reqCount (f : QlpFrame) : Nat := leAt f.msg 6 2
/-- LENGTH. -/
def reqLen (f : QlpFrame) : Nat := leAt f.msg 8 4
/-- The data of the request, without padding (R286). -/
def reqData (f : QlpFrame) : List Byte := (f.msg.drop 12).take (reqLen f)

/-- Table 9-7. -/
def knownOps : List Nat := [0x01, 0x02, 0x10, 0x11, 0x12, 0x20]

/-- R287, Table 9-15 category 1: a malformed header. A request that is not segmented carries all its data. -/
def reqMalformed (f : QlpFrame) : Bool :=
  decide (f.msg.length < 12) || bits (byteAt f.msg 1).toNat 7 2 != 0 || (reqSegmented f && reqOp f != 2) ||
    ([0x10, 0x11, 0x12, 0x20].contains (reqOp f) && (reqIndex f != 0 || reqCount f != 0)) ||
    (reqOp f == 1 && (reqLen f != 0 || decide (12 < f.msg.length))) ||
    (!reqSegmented f && decide (f.msg.length < 12 + (reqLen f)))

/-- The request as the operations of the other chapters take it; `auth` says that its tag has been accepted. -/
def reqFrom (f : QlpFrame) (auth : Bool) : Req :=
  { link := f.link, src := f.src, dest := f.dest, seq := f.seq, prio := f.prio, auth := auth, addr := f.addr }

/-- R296: the node of the frame has the open session. -/
def State.inSession (s : State) (f : QlpFrame) : Bool :=
  match s.qlp.session with | some x => x.link == f.link.val && x.node == f.src | none => false

/-! ### Responses (R288, R292 to R294) -/

/-- R292: a response that has been sent is kept, the last 8 of each link. -/
def State.keepResponse (s : State) (f : QlpFrame) (r : Reply) (sent : List Byte) : State :=
  State.keep { s with qlp := { s.qlp with reply := some r } }
    { link := f.link.val, src := f.src, dest := f.dest, seq := f.seq, request := f.msg, response := sent, at' := s.mono }

/-- A response frame to a request. -/
def State.sendResponse (s : State) (f : QlpFrame) (payload : List Byte) : State :=
  s.txResponse f.link.val { cls := 9, dest := f.src, src := f.dest, seq := f.seq, prio := f.prio, payload := payload, addr := f.addr }

/-- R288, R292: a short response, sent and kept. -/
def State.answer (s : State) (f : QlpFrame) (status sub : Nat) (stamps : List (Nat × Nat) := []) (data : List Byte := []) : State :=
  let r : Reply := { link := f.link.val, dest := f.src, seq := f.seq, op := (reqOp f), status := status, index := (reqIndex f), sub := sub,
                     stamps := stamps, data := data }
  (s.keepResponse f r r.bytes).sendResponse f r.bytes

/-- R293: data bytes of one block segment. -/
def segmentRoom (link : Nat) : Nat := if link < 2 then 61 else 1461

/-- R293: number of segments of a device's transfer. -/
def Transfer.segments (t : Transfer) : Nat :=
  (t.data.length + segmentRoom t.link - 1) / segmentRoom t.link

/-- R293: a transfer replaced by one with the same link and source. -/
def State.setTransfer (s : State) (t : Transfer) : State :=
  { s with qlp := { s.qlp with transfers := s.qlp.transfers.map fun x => if x.link = t.link ∧ x.src = t.src then t else x } }

/-- R293: a transfer ends. -/
def State.endTransfer (s : State) (t : Transfer) : State :=
  { s with qlp := { s.qlp with transfers := s.qlp.transfers.filter fun x => !(x.link == t.link && x.src == t.src) } }

/-- R293: a burst of up to 16 segments from number `n`. -/
def State.burst (s : State) (t : Transfer) (n : Nat) : State :=
  let w := segmentRoom t.link
  let last := min t.segments (n + 15)
  let s := s.setTransfer { t with next := n, sent := last, at' := s.mono }
  forEach ((List.range (last + 1 - n)).map (· + n)) s fun s k => s.block t 1 k ((t.data.drop ((k - 1) * w)).take w)

/-- R294: a further transfer from this node would exceed the limits. -/
def State.transfersFull (s : State) (f : QlpFrame) : Bool :=
  let l := s.qlp.transfers.filter fun t => t.link == f.link.val
  decide (4 ≤ l.length) || l.any fun t => t.src == f.src

/-- A transfer that a frame opens. -/
def State.transferOf (s : State) (f : QlpFrame) (read : Bool) (data : List Byte) : Transfer :=
  { link := f.link.val, src := f.src, dest := f.dest, seq := f.seq, prio := f.prio, read := read, header := f.msg, data := data,
    at' := s.mono, session := s.qlp.session.map fun x => x.opened, berthId := s.dup.mode != 0 && f.dest == 1, addr := f.addr }

/-- R288, R293, R294: the answer to a READ: one frame, or the first part of its data and the first burst. -/
def State.answerData (s : State) (f : QlpFrame) (status : Nat) (stamps : List (Nat × Nat)) (data : List Byte) : State :=
  let room := (if f.link.val < 2 then 52 else 1452) - 5 * stamps.length
  if data.length ≤ room then s.answer f status (reqSub f) stamps data
  else if 65535 < data.length then s.answer f 0x0607 (reqSub f)
  else if s.transfersFull f then s.answer f 0x0606 (reqSub f)
  else
    let r : Reply := { link := f.link.val, dest := f.src, seq := f.seq, op := 1, status := status, index := (reqIndex f), sub := (reqSub f),
                       stamps := stamps, data := data }
    let sent := r.bytes.take (12 + 5 * stamps.length + room)
    let s := (s.keepResponse f r sent).sendResponse f sent
    let t := s.transferOf f true (data.drop room)
    State.burst { s with qlp := { s.qlp with transfers := s.qlp.transfers ++ [t] } } t 1

/-! ### The checks of every request (R287, R292, R317) -/

/-- R317 category 6: the request counts towards its source's rate; whether the rate is exceeded. -/
def State.countRate (s : State) (f : QlpFrame) : State × Bool :=
  let l := (s.qlp.rates.filter fun r => decide (s.mono < r.2.2 + 1000000)) ++ [(f.link.val, f.src, s.mono)]
  ({ s with qlp := { s.qlp with rates := l } },
    decide (s.gn O.qlpRequestRate 0 < (l.filter fun r => r.1 == f.link.val && r.2.1 == f.src).length))

/-- R292: the kept response to a retransmission. -/
def State.keptFor (s : State) (f : QlpFrame) : Option KeptResp :=
  s.qlp.kept.find? fun k => k.link == f.link.val && k.src == f.src && k.dest == f.dest && k.seq == f.seq && k.request == f.msg &&
    decide (s.mono < k.at' + 2000000)

/-- A request of an operation: the checks in order, then `run`. A frame that carries another known operation is another
command's and changes nothing. -/
def State.ask (s : State) (f : QlpFrame) (op : Nat) (run : State → State) : Host.Outcome State Fault Refusal :=
  if (reqOp f) ≠ op && knownOps.contains (reqOp f) && decide (12 ≤ f.msg.length) then .next s
  else s.receive f 8 fun s =>
    let r := s.countRate f
    let s := r.1
    if r.2 then (s.violation f.link.val 6).answer f 0x0701 (reqSub f)
    else if reservedSet f || reqMalformed f then (s.violation f.link.val 1).answer f 0x0602 (reqSub f)
    else if !knownOps.contains (reqOp f) then (s.violation f.link.val 2).answer f 0x0601 (reqSub f)
    else match s.keptFor f with
      | some k => s.sendResponse f k.response
      | none =>
        if s.qlp.transfers.any fun t => t.link == f.link.val && t.src == f.src && t.seq == f.seq then s.answer f 0x0606 (reqSub f)
        else if s.lifecycle = 4 && op ≠ 1 && !(op == 2 && decide (0xF000 ≤ (reqIndex f))) then s.answer f 0x0405 (reqSub f)
        else run s

/-! ### READ (R289) -/

/-- Table 1-9, R136: the one-shot request whose result an object holds. -/
def shotOf (i : Nat) : Option Nat :=
  if i = O.openWireResult then some 0 else if i = O.fabricSelfTestResult then some 1
  else if i = O.capLearnReportResult then some 2 else if i = O.impedanceSnapshotResult then some 3
  else if i = O.contactorOpenTestResult then some 4 else if i = O.deviceSelfTestResult then some 5 else none

/-- R289: the bytes of the elements that a READ names. -/
def State.readData (s : State) (f : QlpFrame) (o : Obj) : List Byte :=
  (List.range (reqCount f)).flatMap fun k => o.ty.pack (s.readEl (f.link.val * 128 + f.src) (reqIndex f) (reqSub f + k))

/-- R136: the status of a READ: 0x0501 with the previous result while a one-shot request is pending. -/
def State.readStatus (s : State) (f : QlpFrame) : Nat :=
  match shotOf (reqIndex f) with | some k => if (s.shot k).pending.isSome then 0x0501 else 0 | none => 0

/-- QLP_READ (R289, R288, R136): the elements with their stamps. -/
def State.readRun (s : State) (f : QlpFrame) : State :=
  let c := s.readCheck (reqIndex f) (reqSub f) (reqCount f) (s.inSession f)
  if c.1 ≠ 0 then s.answer f c.1 c.2
  else match objRow (reqIndex f) with
    | none => s.answer f 0x0101 (reqSub f)
    | some o => s.answerData f (s.readStatus f) (s.stampsOf o (reqSub f) (reqCount f)) (s.readData f o)

/-- QLP_READ (R289). -/
def execQlpRead (f : QlpFrame) (s : State) : Host.Outcome State Fault Refusal := s.ask f 1 fun s => s.readRun f

/-! ### Tags (R297) -/

/-- R297: the tag over a request. -/
def reqMac (f : QlpFrame) (key body : List Byte) (counter : Nat) : List Byte :=
  (hmac key (le 1 8 ++ le 1 f.dest ++ le 1 f.src ++ le 1 f.seq ++ f.msg.take 12 ++ body ++ le 4 counter)).take 8

/-- R297, R298: the tag of a request whose data, trailer included, is `data`: 0 where it is accepted. `ok` is asked of the
session too; `short` answers data too short for a trailer. -/
def State.tagCheck (s : State) (f : QlpFrame) (data : List Byte) (short : Nat) (ok : Session → Bool) : State × Nat :=
  match s.qlp.session with
  | none => refuse s 0x0204
  | some x =>
    if x.link ≠ f.link.val || x.node ≠ f.src || !ok x then refuse s 0x0204
    else if data.length < 12 then refuse s short
    else
      let n := data.length - 12
      let counter := leAt data n 4
      if counter ≤ x.counter || data.drop (n + 4) != reqMac f x.key (data.take n) counter then
        refuse ((s.violation f.link.val 7).authFailure f.link.val) 0x0207
      else accept { s with qlp := { s.qlp with session := some { x with counter := counter, taggedAt := s.mono } } }

/-! ### WRITE (R290) -/

/-- The objects whose write is a command, or has a value of its own form, and the operation that it runs. -/
def commandObjs : List Nat :=
  [O.stringCommand, O.tripReset, O.weldClear, O.contactorOpenTestRequest, O.loadSwitchCommand, O.loadSwitchPwmDuty,
   O.loadSwitchPwmFrequency, O.lsFaultClear, O.motorSpeedCommand, O.motorFaultClear, O.brakeFaultClear] ++
  [O.captureArm, O.captureTrigger, O.configCommand, O.configImage, O.manifestFile, O.manifestAdoptUids, O.openWireRequest,
   O.fabricSelfTestRequest, O.modelTableFile, O.capLearnReportRequest, O.impedanceSnapshotRequest, O.eventRoute] ++
  [O.eventAcknowledge, O.berthCommand, O.logClear, O.lifeCycleCommand, O.siteKeyWrite, O.moduleKeyWrite, O.tamperAcknowledge,
   O.deviceResetCommand, O.mooredCommand, O.firmwareCommand, O.firmwareChunk, O.deviceSelfTestRequest]

/-- R251: a new duty or frequency of a load switch whose command is PWM reaches the power die. -/
def State.pwmWrite (s : State) (i n v : Nat) : State × Nat :=
  match objRow i with
  | none => refuse s 0x0101
  | some o =>
    if s.rangeCheck o n [(v : Int)] ≠ 0 then refuse s 0x0301
    else
      accept ((s.put i n (v : Nat)).pwmSend n)

/-- A write to one element of `commandObjs`, its bytes given; `v` is their value. -/
def State.command (s : State) (req : Req) (i k : Nat) (bs : List Byte) : State × Nat :=
  let v := leAt bs 0 bs.length
  if i = O.stringCommand then (if v = 1 then s.closeCommand k else if v = 2 then s.openCommand k else refuse s 0x0301)
  else if i = O.tripReset then s.tripReset v
  else if i = O.weldClear then s.weldClear v
  else if i = O.contactorOpenTestRequest then s.openTestRequest v
  else if i = O.loadSwitchCommand then (if 2 < v then refuse s 0x0301 else s.lsCommand k v)
  else if i = O.loadSwitchPwmDuty ∨ i = O.loadSwitchPwmFrequency then s.pwmWrite i k v
  else if i = O.lsFaultClear then s.lsFaultClear v
  else if i = O.motorSpeedCommand then s.mdCommand k v
  else if i = O.motorFaultClear then s.mdFaultClear v
  else if i = O.brakeFaultClear then s.brakeClear v
  else if i = O.captureArm then s.captureArm v
  else if i = O.captureTrigger then s.captureForce v
  else if i = O.configCommand then
    (if v = 1 then s.configSave else if v = 2 then s.configDiscard else if v = 3 then s.configDefaults
     else refuse s (if s.configLife then 0x0301 else 0x0405))
  else if i = O.configImage then s.imageImport bs
  else if i = O.manifestFile then s.manifestWrite bs
  else if i = O.manifestAdoptUids then s.adoptUids v
  else if i = O.openWireRequest then s.openWireRequest v
  else if i = O.fabricSelfTestRequest then s.fabricTest v
  else if i = O.modelTableFile then s.tableWrite k bs
  else if i = O.capLearnReportRequest then s.stringShot 2 v O.capLearnReportResult 13
  else if i = O.impedanceSnapshotRequest then s.stringShot 3 v O.impedanceSnapshotResult 514
  else if i = O.eventRoute then s.routeWrite k v
  else if i = O.eventAcknowledge then s.acknowledge v
  else if i = O.berthCommand then (if v = 1 then s.handOver else if v = 2 then s.take else refuse s 0x0301)
  else if i = O.logClear then s.logClear (s.authOk req) req.src req.link.val v
  else if i = O.lifeCycleCommand then s.lifeCommand (v % 256) (v / 256)
  else if i = O.siteKeyWrite then s.siteKeyWrite (s.authOk req) req.link.val bs
  else if i = O.moduleKeyWrite then s.moduleKeyWrite (s.authOk req) req.link.val k bs
  else if i = O.tamperAcknowledge then s.tamperAck v
  else if i = O.deviceResetCommand then s.resetCommand v
  else if i = O.mooredCommand then s.moor v
  else if i = O.firmwareCommand then
    (if v = 1 then s.fwBegin else if v = 2 then s.fwVerify else if v = 3 then s.fwActivate else if v = 4 then s.fwAbort
     else refuse s (if s.fwGate ≠ 0 then s.fwGate else 0x0301))
  else if i = O.firmwareChunk then s.fwChunk k bs
  else if i = O.deviceSelfTestRequest then s.selfTest v
  else refuse s 0x0101

/-- R290, R323: a range of commands, each checked for access and then run: the state, the status and the element that
failed. -/
def State.commands (req : Req) (i : Nat) : List (Nat × List Byte) → State → State × Nat × Nat
  | [], s => (s, 0, 0)
  | (k, bs) :: l, s =>
    let g := s.writeGate i k (s.authOk req)
    if g ≠ 0 then (s, g, k)
    else
      let r := s.command req i k bs
      if r.2 ≠ 0 then (r.1, r.2, k) else State.commands req i l r.1

/-- R289, R290, R320: existence of a written range: a status and the element. -/
def State.rangeExists (s : State) (i sub count : Nat) : Nat × Nat :=
  if 0xF000 ≤ i then (0x0101, sub)
  else match objRow i with
  | none => (0x0101, sub)
  | some o =>
    if o.elements ≤ sub then (0x0102, sub)
    else if count = 0 then (0x0103, sub)
    else if s.absent o sub then (0x0102, sub)
    else if o.elements < sub + count then (0x0103, sub)
    else if o.ty.open' && decide (1 < count) then (0x0104, sub)
    else (0, sub)

/-- R290, R323: the first check that a stored element fails, 0 where none; `t` is the state with every element stored,
`lenBad` that the request's length is wrong. -/
def State.elementCheck (s t : State) (o : Obj) (auth lenBad covered : Bool) (k : Nat) (v : List Int) : Nat :=
  let g := s.writeGate o.index k auth
  if g ≠ 0 then g
  else if lenBad then 0x0302
  else if encodeCheck o v ≠ 0 then encodeCheck o v
  else if s.stateCheck o k ≠ 0 then s.stateCheck o k
  else if covered && !s.allOpen then 0x0401
  else if covered && !s.flashOk then 0x0404
  else if s.rangeCheck o k v ≠ 0 then s.rangeCheck o k v
  else if t.relationCheck o.index k ≠ 0 then t.relationCheck o.index k
  else t.orderCheck o.index k

/-- R290: the elements of stored objects, all or none: the state, the status, the element that failed. -/
def State.storeElems (s : State) (o : Obj) (auth lenBad : Bool) (l : List (Nat × List Int)) : State × Nat × Nat :=
  let store (s : State) : State := forEach l s fun s e => s.putL o.index e.1 e.2
  let covered := safetyObjs.contains o.index
  let t := store s
  match l.find? fun e => s.elementCheck t o auth lenBad covered e.1 e.2 != 0 with
  | some e => (s, s.elementCheck t o auth lenBad covered e.1 e.2, e.1)
  | none =>
    let r := s.storing covered store
    (r.1, r.2, (l.map fun e => e.1).headD 0)

/-- R290: one command that is refused keeps what its chapter says of a refusal; of several, nothing is done. -/
def allOrNone (n : Nat) (s : State) (r : State × Nat × Nat) : State × Nat × Nat :=
  if r.2.1 ≠ 0 && n != 1 then (s, r.2) else r

/-- R290: a checked and executed WRITE whose data, without a trailer, is `data`. -/
def State.writeData (s : State) (req : Req) (i sub count : Nat) (data : List Byte) : State × Nat × Nat :=
  let e := s.rangeExists i sub count
  if e.1 ≠ 0 then (s, e)
  else match objRow i with
    | none => (s, 0x0101, sub)
    | some o =>
      let size := o.ty.size
      let lenBad := !o.ty.open' && data.length != count * size
      let parts : List (List Byte) := if o.ty.open' then [data] else splitElems size count data
      let elems := (parts.zipIdx).map fun p => (sub + p.2, p.1)
      if commandObjs.contains i then
        let g := s.writeGate i sub (s.authOk req)
        if g ≠ 0 then (s, g, sub)
        else if lenBad then (s, 0x0302, sub)
        else allOrNone count s (State.commands req i elems s)
      else s.storeElems o (s.authOk req) lenBad (elems.map fun p => (p.1, o.ty.unpack p.2))

/-- What follows the response to an accepted write (R280, R401, R425). -/
def State.afterWrite (s : State) (i v : Nat) : State :=
  if i = O.deviceResetCommand then s.cdReset 9
  else if i = O.firmwareCommand ∧ v = 3 then s.activateNow
  else s

/-- R297, R323: a tagged write whose data has no room for the trailer carries no tag: the access class is answered first, then the
length. -/
def State.shortStatus (s : State) (i sub : Nat) : Nat :=
  let g := s.writeGate i sub false
  if g ≠ 0 then g else 0x0302

/-- R290, R297, R323: a complete WRITE with all its data: the tag, the checks, of which existence is the first to be
answered, the effect, the response. A firmware activation
that must hand over first is answered later (R375). -/
def State.writeRun (s : State) (f : QlpFrame) (data : List Byte) (ok : Session → Bool) : State :=
  let g : State × Nat := if (reqTagged f) then s.tagCheck f data (s.shortStatus (reqIndex f) (reqSub f)) ok else accept s
  let e := s.rangeExists (reqIndex f) (reqSub f) (reqCount f)
  if e.1 ≠ 0 then g.1.answer f e.1 e.2
  else if g.2 ≠ 0 then g.1.answer f g.2 (reqSub f)
  else
    let s := g.1
    let body := if (reqTagged f) then data.take (data.length - 12) else data
    let req := reqFrom f (reqTagged f)
    let r := s.writeData req (reqIndex f) (reqSub f) (reqCount f) body
    if r.2.1 ≠ 0 then r.1.answer f r.2.1 r.2.2
    else if (reqIndex f) = O.firmwareCommand ∧ leAt body 0 1 = 3 ∧ s.mustHandOver = true then s.activateLater req f.msg
    else
      let t := (r.1.answer f 0 (reqSub f)).afterWrite (reqIndex f) (leAt body 0 1)
      if t.nodeId = s.nodeId || !t.running then t else t.nodeChange

/-- R293: a WRITE arrives: complete, or the first part of a segmented one, which is acknowledged. -/
def State.writeStart (s : State) (f : QlpFrame) : State :=
  if !reqSegmented f || decide (12 + reqLen f ≤ f.msg.length) then s.writeRun f (reqData f) fun _ => true
  else if s.transfersFull f then s.answer f 0x0606 (reqSub f)
  else
    let t := s.transferOf f false (f.msg.drop 12)
    State.block { s with qlp := { s.qlp with transfers := s.qlp.transfers ++ [t] } } t 2 1 []

/-- QLP_WRITE (R290, R293). -/
def execQlpWrite (f : QlpFrame) (s : State) : Host.Outcome State Fault Refusal := s.ask f 2 fun s => s.writeStart f

/-! ### Sessions (R296 to R298) -/

/-- R296: 16 fresh random bytes. -/
def State.nonceBytes (s : State) : List Byte := (List.range 16).map fun k => Config.randomByte (s.qlp.random + k)

/-- SESSION_OPEN (R296, R298). -/
def State.openRun (s : State) (f : QlpFrame) : State :=
  if s.qlp.lockoutAt.isSome then s.answer f 0x0702 (reqSub f)
  else if (reqLen f) ≠ 0 then s.answer f 0x0302 (reqSub f)
  else if s.siteKey.isNone then s.answer f 0x0405 (reqSub f)
  else if s.qlp.session.isSome && !s.inSession f then s.answer f 0x0206 (reqSub f)
  else
    let s := s.sessionEnd
    let d := s.nonceBytes
    let n : Nonce := { link := f.link.val, node := f.src, value := d, at' := s.mono }
    State.answer { s with qlp := { s.qlp with
      nonces := (s.qlp.nonces.filter fun x => !(x.link == n.link && x.node == n.node)) ++ [n]
      random := s.qlp.random + 16 } } f 0 (reqSub f) [] d

/-- SESSION_OPEN (R296). -/
def execSessionOpen (f : QlpFrame) (s : State) : Host.Outcome State Fault Refusal := s.ask f 0x10 fun s => s.openRun f

/-- The bytes of an ASCII label of the formulas of R296: "QLP" and a letter. -/
def label (c : Nat) : List Byte := [0x51, 0x4C, 0x50, BitVec.ofNat 8 c]

/-- SESSION_AUTH (R296, R298): one NONCE_D serves one attempt. -/
def State.authRun (s : State) (f : QlpFrame) : State :=
  let mine (x : Nonce) : Bool := x.link == f.link.val && x.node == f.src
  if s.qlp.lockoutAt.isSome then s.answer f 0x0702 (reqSub f)
  else if (reqLen f) ≠ 48 then s.answer f 0x0302 (reqSub f)
  else match s.qlp.nonces.find? (fun x => mine x && !s.past x.at' 10000000), s.siteKey with
    | some d, some key =>
      let s : State := { s with qlp := { s.qlp with nonces := s.qlp.nonces.filter fun x => !mine x } }
      let c := (reqData f).take 16
      if (reqData f).drop 16 ≠ hmac key (label 0x43 ++ d.value ++ c ++ le 1 f.src ++ le 1 f.link.val) then
        (s.authFailure f.link.val).answer f 0x0207 (reqSub f)
      else if s.qlp.session.isSome then s.answer f 0x0206 (reqSub f)
      else
        let x : Session := { link := f.link.val, node := f.src, key := hmac key (label 0x4B ++ d.value ++ c), opened := s.now,
                             taggedAt := s.mono, berthId := s.dup.mode != 0 && f.dest == 1 }
        let s := State.raise { s with qlp := { s.qlp with session := some x } } 0xD7 0
        s.answer f 0 (reqSub f) [] (hmac key (label 0x44 ++ c ++ d.value))
    | _, _ => s.answer f 0x0207 (reqSub f)

/-- SESSION_AUTH (R296). -/
def execSessionAuth (f : QlpFrame) (s : State) : Host.Outcome State Fault Refusal := s.ask f 0x11 fun s => s.authRun f

/-- R297: a tagged session operation with `n` data bytes before its trailer. -/
def State.taggedRun (s : State) (f : QlpFrame) (n : Nat) (op : State → State) : State :=
  if !(reqTagged f) then s.answer f 0x0204 (reqSub f)
  else
    let r := s.tagCheck f (reqData f) 0x0204 fun _ => true
    if r.2 ≠ 0 then r.1.answer f r.2 (reqSub f)
    else if (reqLen f) ≠ n + 12 then r.1.answer f 0x0302 (reqSub f)
    else op r.1

/-- SESSION_CLOSE (R298): answered, then the session ends. -/
def execSessionClose (f : QlpFrame) (s : State) : Host.Outcome State Fault Refusal :=
  s.ask f 0x12 fun s => s.taggedRun f 0 fun s => (s.answer f 0 (reqSub f)).sessionEnd

/-- R308: TIME_SET with the reference time at its start of frame, `ageUs` ago. -/
def State.timeSetRun (s : State) (f : QlpFrame) (ageUs : Nat) : State :=
  if !s.follows 2 then s.answer f 0x0408 (reqSub f)
  else
    let d : Int := ((leAt (reqData f) 0 8 : Nat) - ((s.now : Int) - (ageUs : Int))) * 1000
    let s := (s.applyOffset d).syncLocked
    State.answer { s with clk := { s.clk with timeSetAt := some s.mono } } f 0 (reqSub f)

/-- TIME_SET (R308). -/
def execTimeSet (f : QlpFrame) (ageUs : Nat) (s : State) : Host.Outcome State Fault Refusal :=
  s.ask f 0x20 fun s => s.taggedRun f 8 fun s => s.timeSetRun f ageUs

/-! ### Block frames (R293, R294) -/

/-- Table 9-8: KIND. -/
def blockKind (f : QlpFrame) : Nat := (byteAt f.msg 0).toNat
/-- Table 9-8: NUMBER. -/
def blockNumber (f : QlpFrame) : Nat := leAt f.msg 1 2

/-- The open transfer that a block frame belongs to. -/
def State.transferFor (s : State) (f : QlpFrame) (read : Bool) : Option Transfer :=
  s.qlp.transfers.find? fun t => t.link == f.link.val && t.src == f.src && t.dest == f.dest && t.seq == f.seq && t.read == read

/-- R285, R317: an abort to the sender of a frame. -/
def State.abortTo (s : State) (f : QlpFrame) (status : Nat) : State :=
  s.block (s.transferOf f false []) 3 status []

/-- A block frame of a kind; one of another kind is another command's, one shorter than its header or of no kind is
malformed (category 1). -/
def State.blockFrame (s : State) (f : QlpFrame) (kind : Nat) (op : State → State) : Host.Outcome State Fault Refusal :=
  if (blockKind f) ≠ kind && [1, 2, 3].contains (blockKind f) && decide (3 ≤ f.msg.length) then .next s
  else s.receive f 10 fun s =>
    if reservedSet f || decide (f.msg.length < 3) || blockKind f ≠ kind then
      (s.violation f.link.val 1).abortTo f 0x0602
    else op s

/-- R293: the request that opened a transfer, as its first frame carried it. -/
def firstFrame (f : QlpFrame) (t : Transfer) : QlpFrame :=
  { f with ident := canId t.prio 8 t.dest t.src t.seq, head := datagramHead t.prio 8 t.dest t.src t.seq t.header.length
           addr := t.addr, msg := t.header }

/-- R293: the number of the last segment of a segmented write, its first frame having carried `first` bytes. -/
def lastSegment (link len first : Nat) : Nat := (len - first + segmentRoom link - 1) / segmentRoom link

/-- R317 category 4: a segment for no open transfer, or beyond its burst. -/
def State.strayed (s : State) (f : QlpFrame) : State := (s.violation f.link.val 4).abortTo f 0x0604

/-- R293: an ACK that names the first segment not yet held. -/
def State.ackSegments (s : State) (t : Transfer) : State :=
  (s.setTransfer { t with sent := t.next - 1 }).block t 2 t.next []

/-- BLOCK_SEGMENT (R293, R294): the next segment is taken, an ACK follows the burst's and the transfer's last one; a
segment after a gap or held already is not taken. -/
def State.segment (s : State) (f : QlpFrame) : State :=
  match s.transferFor f false with
  | none => s.strayed f
  | some t =>
    let first := firstFrame f t
    let last := lastSegment t.link (reqLen first) (t.header.length - 12)
    let n := blockNumber f
    if n = 0 ∨ last < n ∨ t.sent + 16 < n then (s.strayed f).endTransfer t
    else
      let t : Transfer := { t with at' := s.mono, retried := false }
      let t : Transfer := if n = t.next then { t with next := n + 1, data := t.data ++ f.msg.drop 3 } else t
      if t.next = last + 1 then
        let session := t.session
        ((s.ackSegments t).endTransfer t).writeRun first (t.data.take (reqLen first)) fun x => session == some x.opened
      else if n = t.sent + 16 ∨ n = last ∨ n = t.sent then s.ackSegments t
      else s.setTransfer t

/-- BLOCK_SEGMENT (R293). -/
def execBlockSegment (f : QlpFrame) (s : State) : Host.Outcome State Fault Refusal := s.blockFrame f 1 fun s => s.segment f

/-- BLOCK_ACK (R293): all held, the transfer ends; else the next burst, or again from NEXT. -/
def State.blockAck (s : State) (f : QlpFrame) : State :=
  match s.transferFor f true with
  | none => s
  | some t =>
    let n := blockNumber f
    if n = 0 ∨ t.sent + 1 < n then s
    else if n = t.segments + 1 then s.endTransfer t
    else s.burst { t with retried := false } n

/-- BLOCK_ACK (R293). -/
def execBlockAck (f : QlpFrame) (s : State) : Host.Outcome State Fault Refusal := s.blockFrame f 2 fun s => s.blockAck f

/-- BLOCK_ABORT (R294). -/
def execBlockAbort (f : QlpFrame) (s : State) : Host.Outcome State Fault Refusal :=
  s.blockFrame f 3 fun s =>
    match (s.transferFor f true).orElse fun _ => s.transferFor f false with
    | some t => s.endTransfer t
    | none => s

/-- SEGMENT_TIMEOUT (R294): the first makes a sending device resend its last burst; the second ends the transfer. -/
def State.transferLate (s : State) (t : Transfer) : State :=
  if t.retried then ((s.violation t.link 5).endTransfer t).block t 3 0x0603 []
  else if t.read then s.burst { t with retried := true } t.next
  else s.setTransfer { t with retried := true, at' := s.mono }

/-- SEGMENT_TIMEOUT (R294). -/
def execSegmentTimeout (link : Fin 3) (src : Nat) (s : State) : Host.Outcome State Fault Refusal :=
  match s.qlp.transfers.find? fun t => t.link == link.val && t.src == src with
  | none => done s
  | some t => doneIf (s.running && s.past t.at' 100000) (s.transferLate t) s

end Sys2Proof.Machine
end

