-- ==== Sys2Proof/Machine/Links.lean ====
section
/-! DEFINITION. Sys2Proof/Machine/Links.lean: the CAN channels' transmit side and error states (R282 to R284, R299, R300),
lighthouse frames (R309), cyclic streams (R315, R316), and the Ethernet port (R301, R310). -/

namespace Sys2Proof.Machine

/-! ### Transmission on CAN (R299, R300) -/

/-- R300: a waiting frame has waited too long: 10 ms for a response, the transfer timeout for a block frame. -/
def State.waited (s : State) (w : Out × Nat) : Bool := s.past w.2 (if w.1.cls = 10 then 100000 else 10000)

/-- R300: waiting frames take the free entries of a FIFO, in order. -/
def State.refill (s : State) (link : Nat) : State :=
  if link < 2 then
    let c := s.can link
    let n := 32 - c.fifo.length
    (s.canUpd link fun c => CanTx.load { c with fifo := c.fifo ++ (c.waiting.take n).map fun w => w.1.padded
                                                waiting := c.waiting.drop n }).highWater link
  else
    let n := 16 - s.qlp.eth.length
    { s with qlp := { s.qlp with
      eth := s.qlp.eth ++ (s.qlp.ethWaiting.take n).map fun w => w.1
      ethWaiting := s.qlp.ethWaiting.drop n } }

/-- R299: the frame that was offered leaves its slot or queue. -/
def CanTx.sent (c : CanTx) : CanTx :=
  if c.offered = 1 then { c with lighthouse := none, offered := 0 }
  else if c.offered = 2 then CanTx.feed { c with safetySlot := none, offered := 0 }
  else if c.offered = 3 then { c with fifo := c.fifo.tail, offered := 0 }
  else c

/-- R299: the frame that the controller offers. -/
def CanTx.frame (c : CanTx) : Option Out :=
  if c.offered = 1 then c.lighthouse else if c.offered = 2 then c.safetySlot else if c.offered = 3 then c.fifo.head? else none

/-- R282, R285: a frame as the channel sends it: FD, with bit rate switching as `CanBrs` sets. -/
def State.canFrame (s : State) (ch : Nat) (o : Out) : CanFrame :=
  { ident := canId o.prio o.cls o.dest o.src o.seq, fd := true, brs := s.gb O.canBrs ch, payload := o.payload }

/-- R284: the secondary sample point of a frame with a measured loop delay, in mtq of 12.5 ns, from the timing in force;
0 where compensation is not used. -/
def CanTx.ssp (c : CanTx) (tdcNs : Nat) : Nat :=
  let brp := (c.data.getD 0 0).toNat
  let mode := c.tdc.getD 0 0
  let at' := tdcNs * 2 / 25 + if mode = 1 then (1 + (c.data.getD 1 0).toNat) * brp else (c.tdc.getD 1 0).toNat
  if mode = 0 ∨ 2 < brp then 0 else max at' (c.tdc.getD 2 0).toNat

/-- CAN_TX_DONE (R299, R284, R309): the offered frame was sent, or lost arbitration; the controller then offers the frame
that R299 chooses. `sofDelay` is a lighthouse's start of frame less its SCHED, in 0.1 µs. A data phase whose secondary
sample point lies beyond 127 mtq fails as a bit error: the frame is not sent and is offered again. -/
def State.txDone (s : State) (ch : Nat) (won : Bool) (sofDelay tdcNs : Nat) : State :=
  let c := s.can ch
  if c.offered = 0 then s
  else if !won then (s.canUpd ch fun c => { c with offered := c.choose }).bump O.canStats (ch * 6 + 3)
  else if s.gb O.canBrs ch && decide (127 < c.ssp tdcNs) then
    ((s.canUpd ch fun c => { c with offered := c.choose }).bump O.canStats (ch * 6 + 2)).put O.canTdcMeasured ch (tdcNs % 65536 : Nat)
  else
    let s := (s.bump O.canStats (ch * 6)).put O.canTdcMeasured ch (tdcNs % 65536 : Nat)
    let s := s.canUpd ch fun c =>
      let c := if c.offered = 1 then { c with lastDelay := min sofDelay 0xFFFF, saturated := decide (0xFFFF < sofDelay) } else c
      CanTx.sent { c with sentFrame := c.frame.map (s.canFrame ch) }
    (s.refill ch).canUpd ch CanTx.load

/-- CAN_TX_DONE (R299). -/
def execCanTxDone (ch : Fin 2) (won : Bool) (sofDelay tdcNs : Nat) (s : State) : Host.Outcome State Fault Refusal :=
  doneIf (s.running && s.linkUp ch.val) (s.txDone ch.val won sofDelay tdcNs) s

/-- RESPONSE_QUEUE_TIMEOUT (R300): the frames of a link that have waited too long are discarded, each counted. -/
def execResponseQueueTimeout (link : Fin 3) (s : State) : Host.Outcome State Fault Refusal :=
  let l := link.val
  let waiting := if l < 2 then (s.can l).waiting else s.qlp.ethWaiting
  let gone := waiting.filter s.waited
  let kept := waiting.filter fun w => !s.waited w
  let t := if l < 2 then s.canUpd l fun c => { c with waiting := kept } else { s with qlp := { s.qlp with ethWaiting := kept } }
  doneIf s.running (forEach gone t fun t _ => t.txDrop l) s

/-! ### Error states and timing (R282, R283) -/

/-- CAN_BUS_OFF (R282, R318): a channel goes bus-off, or is error passive while a counter is above 127 (ISO 11898-1); a counter
that has risen says that there was a bus error (log entry 164). -/
def execCanBusOff (ch : Fin 2) (txErr rxErr : Nat) (busOff : Bool) (s : State) : Host.Outcome State Fault Refusal :=
  let n := ch.val
  let old := s.gn O.canErrorState n
  let st : Nat := if busOff then 2 else if 128 ≤ txErr ∨ 128 ≤ rxErr then 1 else 0
  let rose := decide (s.gm O.canErrorCounters n 0 < min txErr 255) || decide (s.gm O.canErrorCounters n 1 < min rxErr 255)
  let s := if rose then s.bump O.canStats (n * 6 + 2) else s
  let t := (s.put O.canErrorState n (st : Nat)).putL O.canErrorCounters n
    [((min txErr 255 : Nat) : Int), ((min rxErr 255 : Nat) : Int)]
  doneIf (s.running && s.gb O.canEnable n && old != 2)
    (if st = 2 then
       State.raise ((t.bump O.canStats (n * 6 + 4)).canUpd n fun c => { c with busOffAt := s.mono }) (0xD0 + n) 0
     else if st = 1 && old != 1 then t.raise (0xD2 + n) 0 else t) s

/-- R282, R283: whole µs of 128 times 11 bits at the nominal timing in force. -/
def CanTx.recoveryUs (c : CanTx) : Nat :=
  let v (k : Nat) : Nat := (c.nominal.getD k 0).toNat
  128 * 11 * v 0 * (1 + v 1 + v 2) / 80

/-- CAN_BUS_OFF_RECOVERY (R282): error active again, 128 occurrences of 11 recessive bits after bus-off at the earliest. -/
def execCanBusOffRecovery (ch : Fin 2) (s : State) : Host.Outcome State Fault Refusal :=
  doneIf (s.running && s.gn O.canErrorState ch.val == 2 && s.past (s.can ch.val).busOffAt (s.can ch.val).recoveryUs)
    ((s.put O.canErrorState ch.val 0).putL O.canErrorCounters ch.val [0, 0]) s

/-- R283: a waiting timing record takes effect. -/
def CanTx.applyTiming (c : CanTx) (k : Nat) : CanTx :=
  let v := (mget ([], 0) c.timing k).1
  let c := { c with timing := mdel c.timing k }
  if k = 0 then { c with nominal := v } else if k = 1 then { c with data := v } else { c with tdc := v }

/-- R283: a record of a channel's timing has waited 100 ms since its response. -/
def State.timingDue (s : State) (ch k : Nat) : Bool :=
  let w := (s.can ch).timing
  mhas w k && s.past (mget ([], 0) w k).2 100000

/-- CAN_TIMING_APPLY (R283): each record that has waited its 100 ms takes effect. -/
def execCanTimingApply (ch : Fin 2) (s : State) : Host.Outcome State Fault Refusal :=
  let l := [0, 1, 2].filter (s.timingDue ch.val)
  doneIf (s.running && !l.isEmpty) (s.canUpd ch.val fun c => l.foldl CanTx.applyTiming c) s

/-! ### Lighthouse frames (R309) -/

/-- R281: the device sends lighthouse frames and streams: it has a node ID and, in a pair, holds the berth. -/
def State.leads (s : State) : Bool := s.running && s.nodeId != 0 && (s.dup.mode == 0 || s.dup.out)

/-- Table 9-12: the SYNC byte. -/
def State.syncByte (s : State) (c : CanTx) : Nat :=
  word [s.gn O.timeSyncState 0 == 2, s.gn O.timeSyncState 0 == 3, c.stepped, s.clk.resumed, c.saturated] +
    32 * s.gn O.timeSource 0

/-- LIGHTHOUSE_DUE (R309): the frame of the latest due instant takes the slot; one not yet sent is withdrawn, which the next
one's LAST_DELAY and DELAY_SAT say. -/
def State.lighthouse (s : State) (ch : Nat) : State :=
  let p := s.gn O.lighthousePeriod 0 * 1000
  let sched := s.now / p * p
  let cycle := sched / p % 65536
  s.canUpd ch fun c =>
    let c : CanTx := if c.lighthouse.isSome then
        { c with lastDelay := 0xFFFF, saturated := true, offered := if c.offered = 1 then 0 else c.offered } else c
    let o : Out := {
      cls := 0, dest := 127, src := s.nodeId, seq := cycle % 64, prio := 0,
      payload := le 8 sched ++ le 2 cycle ++ le 2 c.lastDelay ++ le 1 (s.syncByte c) ++ [0, 0, 0] }
    CanTx.load { c with lighthouse := some o, sched := sched, stepped := false }

/-- LIGHTHOUSE_DUE (R309). -/
def execLighthouseDue (ch : Fin 2) (s : State) : Host.Outcome State Fault Refusal :=
  let p := s.gn O.lighthousePeriod 0 * 1000
  doneIf (s.leads && s.gb O.canEnable ch.val && s.gb O.lighthouseEnable ch.val && s.now / p * p != (s.can ch.val).sched)
    (s.lighthouse ch.val) s

/-! ### Cyclic streams (R315, R316) -/

/-- R315: the entries of a stream in order: index, first element, number of elements. -/
def State.streamEntries (s : State) (k : Nat) : List (Nat × Nat × Nat) :=
  (List.range (s.gm O.streamConfig k 5).toNat).map fun e =>
    let m (j : Nat) : Nat := (s.gm O.streamEntry (k * 16 + e) j).toNat
    (m 0, m 1, m 2)

/-- R316, R315: STAMPS, the stamps and the data of a snapshot, copied in one step. -/
def State.streamBody (s : State) (k : Nat) : List Byte :=
  let l := s.streamEntries k
  let stamps := (l.flatMap fun e => match objRow e.1 with | some o => s.stampsOf o e.2.1 e.2.2 | none => []).eraseDups
  let sorted := (List.range 256).flatMap fun j => stamps.filter fun p => p.1 == j
  le 1 sorted.length ++ (sorted.flatMap fun p => le 1 p.1 ++ le 4 p.2) ++ l.flatMap fun e =>
    match objRow e.1 with
    | some o => (List.range e.2.2).flatMap fun j => o.ty.pack (s.readEl 0 e.1 (e.2.1 + j))
    | none => []

/-- R316: fragments of at most `n` bytes. -/
def fragments (n : Nat) : Nat → List Byte → List (List Byte)
  | 0, _ => []
  | k + 1, bs => if bs.length ≤ n then [bs] else bs.take n :: fragments n k (bs.drop n)

/-- R316: the 12-byte header of fragment `frag` of `count`. -/
def fragHeader (stream frag count sseq time : Nat) : List Byte :=
  le 1 stream ++ le 1 (frag * 16 + (count - 1)) ++ le 2 sseq ++ le 8 time

/-- R316, R300: the fragments in order, none after one that was dropped. -/
def State.sendFragments (link : Nat) : List Out → State → State
  | [], s => s
  | o :: l, s =>
    let r := s.txOrDrop link o
    if r.2 then State.sendFragments link l r.1 else r.1

/-- STREAM_SNAPSHOT_DUE (R315, R316). -/
def State.streamSend (s : State) (k : Nat) : State :=
  let link := (s.gm O.streamConfig k 1).toNat
  let dest := (s.gm O.streamConfig k 3).toNat
  let body := s.streamBody k
  let sseq := (mget 0 s.qlp.sseq k + 1) % 65536
  let s : State := { s with qlp := { s.qlp with sseq := mset 0 s.qlp.sseq k sseq } }
  let parts := if link < 2 then fragments 52 16 body else [body]
  let outs : List Out := (parts.zipIdx).map fun p => {
    cls := 0x18, dest := dest, src := s.nodeId, seq := sseq % 64, prio := (s.gm O.streamConfig k 2).toNat
    payload := fragHeader k p.2 parts.length sseq s.now ++ p.1
    addr := if link < 2 then 0 else s.subscriber dest }
  if s.linkUp link then State.sendFragments link outs s else s

/-- STREAM_SNAPSHOT_DUE (R315): at each multiple of PERIOD of an enabled stream. -/
def execStreamSnapshotDue (stream : Fin 8) (s : State) : Host.Outcome State Fault Refusal :=
  let k := stream.val
  let p := s.streamUs k
  doneIf (s.leads && s.gm O.streamConfig k 0 != 0 && p != 0 && s.now / p * p != mget 0 s.qlp.streamAt k)
    ((s.streamStart k).streamSend k) s

/-! ### Ethernet (R301, R310) -/

/-- R310: octets on the wire of a frame of the port: of a QLP datagram, of an ICMP echo reply with the data of its request, of
an ARP frame. -/
def Out.octets (o : Out) : Nat :=
  if o.cls < 256 then wireOctets o.payload.length else if o.cls = 258 then icmpOctets (leAt o.payload 0 2) else 64

/-- R311: the UDP payload of a datagram: the header of Table 9-13 and the message. -/
def Out.datagram (o : Out) : List Byte := datagramHead o.prio o.cls o.dest o.src o.seq o.payload.length ++ o.payload

/-- R301: a frame of the port has left: `EthStats` octets out, frames out and QLP out. -/
def State.ethGone (s : State) (o : Out) : State :=
  let s := (s.put O.ethStats 1 (s.gi O.ethStats 1 + o.octets)).bump O.ethStats 3
  if o.cls < 256 then State.bump { s with qlp := { s.qlp with datagram := some (o.addr, o.datagram) } } O.ethStats 7 else s

/-- R301: one frame leaves the port, the safety slot first. -/
def State.ethSend (s : State) : State :=
  match s.qlp.ethSafety, s.qlp.eth with
  | o :: l, _ => State.ethGone { s with qlp := { s.qlp with ethSafety := l } } o
  | [], o :: l => (State.ethGone { s with qlp := { s.qlp with eth := l } } o).refill 2
  | [], [] => s

/-- R310: a frame of the network stack: ARP reply (class 256), gratuitous ARP (257) or ICMP echo reply (258); those classes
are the model's (log entry 26). -/
def State.stackFrame (s : State) (cls addr : Nat) (payload : List Byte) : State :=
  (s.txOrDrop 2 { cls := cls, dest := 0, src := 0, seq := 0, prio := 0, payload := payload, addr := addr }).1

/-- ETH_LINK_UP (R310): the PHY's speed and duplex; one gratuitous ARP. -/
def execEthLinkUp (fast full : Bool) (s : State) : Host.Outcome State Fault Refusal :=
  let t := s.put O.ethLinkState 0 ((if fast then 2 else 1) + (if full then 128 else 0))
  doneIf (s.running && s.gb O.ethEnable 0 && s.gn O.ethLinkState 0 == 0)
    (t.stackFrame 257 0 (le 4 (s.gn O.ethIpAddress 0))) s

/-- ARP_REQUEST (R310): answered for the device's own address. -/
def execArpRequest (targetIp sender : Nat) (s : State) : Host.Outcome State Fault Refusal :=
  let t := (s.ethIn 64).bump O.ethStats 8
  doneIf (s.running && s.ethUp)
    (if targetIp = s.gn O.ethIpAddress 0 then t.stackFrame 256 sender (le 4 targetIp) else t) s

/-- ICMP_ECHO_REQUEST (R310): up to 1,472 data bytes, not a fragment, up to 100 per second; others are dropped and counted. -/
def execIcmpEchoRequest (len : Nat) (fragment : Bool) (sender : Nat) (s : State) : Host.Outcome State Fault Refusal :=
  let recent := s.qlp.icmp.filter fun t => decide (s.mono < t + 1000000)
  let ok := !fragment && decide (len ≤ 1472) && decide (recent.length < 100)
  let t := (s.ethIn (icmpOctets len)).bump O.ethStats 9
  doneIf (s.running && s.ethUp)
    (if ok then State.stackFrame { t with qlp := { t.qlp with icmp := recent ++ [s.mono] } } 258 sender (le 2 len)
     else t.bump O.ethStats 5) s

/-- ETH_LINK_DOWN (R318). -/
def execEthLinkDown (s : State) : Host.Outcome State Fault Refusal :=
  doneIf (s.running && s.gn O.ethLinkState 0 != 0) ((s.put O.ethLinkState 0 0).raise 0xD4 0) s

end Sys2Proof.Machine
end

