-- ==== Sys2Proof/Machine/Dispatch.lean ====
section
/-! DEFINITION. Sys2Proof/Machine/Dispatch.lean: one arm per command, each a direct call of its meaning. -/

namespace Sys2Proof.Machine

/-- The effect of a command on everything but the queue. -/
def exec (i : Instr) (s : State) : Host.Outcome State Fault Refusal :=
  match i with
  | .lockstepMismatch => Sys2Proof.Machine.execLockstepMismatch s
  | .clockMonitorGate count1 count5 byDomain8 => Sys2Proof.Machine.execClockMonitorGate count1 count5 byDomain8 s
  | .clockFaultRelease => Sys2Proof.Machine.execClockFaultRelease s
  | .domain8Loss => Sys2Proof.Machine.execDomain8Loss s
  | .interdieFrameReceived atPower f => Sys2Proof.Machine.execInterdieFrameReceived atPower f s
  | .interdieLinkTimeout atPower => Sys2Proof.Machine.execInterdieLinkTimeout atPower s
  | .interdieIdleSend fromPower => Sys2Proof.Machine.execInterdieIdleSend fromPower s
  | .outputRequest r => Sys2Proof.Machine.execOutputRequest r s
  | .tripOpenRequest string => Sys2Proof.Machine.execTripOpenRequest string s
  | .watchdogAnswer k value at9 => Sys2Proof.Machine.execWatchdogAnswer k value at9 s
  | .watchdogWindowEnd => Sys2Proof.Machine.execWatchdogWindowEnd s
  | .eventMatrixEvaluate => Sys2Proof.Machine.execEventMatrixEvaluate s
  | .eventRouteWrite req source value => Sys2Proof.Machine.execEventRouteWrite req source value s
  | .sramEccError area uncorrectable item => Sys2Proof.Machine.execSramEccError area uncorrectable item s
  | .tableSetReloadDone set => Sys2Proof.Machine.execTableSetReloadDone set s
  | .learnedDataCommit string worn => Sys2Proof.Machine.execLearnedDataCommit string worn s
  | .weldStateCommit string worn => Sys2Proof.Machine.execWeldStateCommit string worn s
  | .laneLost ring loss => Sys2Proof.Machine.execLaneLost ring loss s
  | .laneRestored ring valid => Sys2Proof.Machine.execLaneRestored ring valid s
  | .tallyTrigger => Sys2Proof.Machine.execTallyTrigger s
  | .tallyInstant busdetUv => Sys2Proof.Machine.execTallyInstant busdetUv s
  | .sample ring bEnd frame => Sys2Proof.Machine.execSample ring bEnd frame s
  | .comparatorSourceRaise ring kind number => Sys2Proof.Machine.execComparatorSourceRaise ring kind number s
  | .hopMissing ring bEnd hop => Sys2Proof.Machine.execHopMissing ring bEnd hop s
  | .trainEotReturned ring bEnd => Sys2Proof.Machine.execTrainEotReturned ring bEnd s
  | .trainTimeout ring bEnd => Sys2Proof.Machine.execTrainTimeout ring bEnd s
  | .returnPathCheck ring r => Sys2Proof.Machine.execReturnPathCheck ring r s
  | .idleSlotLaunch ring bEnd => Sys2Proof.Machine.execIdleSlotLaunch ring bEnd s
  | .ident ring bEnd frame => Sys2Proof.Machine.execIdent ring bEnd frame s
  | .echoBack ring bEnd frame t0 t1 => Sys2Proof.Machine.execEchoBack ring bEnd frame t0 t1 s
  | .configAck ring bEnd frame => Sys2Proof.Machine.execConfigAck ring bEnd frame s
  | .status ring bEnd frame => Sys2Proof.Machine.execStatus ring bEnd frame s
  | .balAck ring bEnd frame => Sys2Proof.Machine.execBalAck ring bEnd frame s
  | .openWireResult ring bEnd frame => Sys2Proof.Machine.execOpenWireResult ring bEnd frame s
  | .authResult ring bEnd frame => Sys2Proof.Machine.execAuthResult ring bEnd frame s
  | .authMac ring bEnd frame => Sys2Proof.Machine.execAuthMac ring bEnd frame s
  | .rejoinResult ring bEnd frame => Sys2Proof.Machine.execRejoinResult ring bEnd frame s
  | .authReadDue ring pos => Sys2Proof.Machine.execAuthReadDue ring pos s
  | .authRetry ring pos => Sys2Proof.Machine.execAuthRetry ring pos s
  | .moduleAuthDue ring pos => Sys2Proof.Machine.execModuleAuthDue ring pos s
  | .enumerationStart ring => Sys2Proof.Machine.execEnumerationStart ring s
  | .enumerationWaitDone ring aIdle bIdle => Sys2Proof.Machine.execEnumerationWaitDone ring aIdle bIdle s
  | .manifestMismatchReenumerate ring => Sys2Proof.Machine.execManifestMismatchReenumerate ring s
  | .tallyPeriodWrite req value => Sys2Proof.Machine.execTallyPeriodWrite req value s
  | .tallyPeriodApply => Sys2Proof.Machine.execTallyPeriodApply s
  | .currentOutput string dsiBits isaCode => Sys2Proof.Machine.execCurrentOutput string dsiBits isaCode s
  | .fastPathDebounceExpiry string => Sys2Proof.Machine.execFastPathDebounceExpiry string s
  | .currentSampleDelivered string ch => Sys2Proof.Machine.execCurrentSampleDelivered string ch s
  | .dsiStuckFault string => Sys2Proof.Machine.execDsiStuckFault string s
  | .isaRangeFault string => Sys2Proof.Machine.execIsaRangeFault string s
  | .currentFaultClear string ch => Sys2Proof.Machine.execCurrentFaultClear string ch s
  | .crossCheckDisagree string => Sys2Proof.Machine.execCrossCheckDisagree string s
  | .tempDwellEnd ring pos slot => Sys2Proof.Machine.execTempDwellEnd ring pos slot s
  | .tempStaleTimeout ring pos input => Sys2Proof.Machine.execTempStaleTimeout ring pos input s
  | .sweepComplete ring => Sys2Proof.Machine.execSweepComplete ring s
  | .staleTrip ring cell => Sys2Proof.Machine.execStaleTrip ring cell s
  | .deratingClear string code => Sys2Proof.Machine.execDeratingClear string code s
  | .balancePlan => Sys2Proof.Machine.execBalancePlan s
  | .openWireSuspect ring cell => Sys2Proof.Machine.execOpenWireSuspect ring cell s
  | .openWireTestStart ring pos channel => Sys2Proof.Machine.execOpenWireTestStart ring pos channel s
  | .openWireTestEvaluate ring pos => Sys2Proof.Machine.execOpenWireTestEvaluate ring pos s
  | .openWireRetest ring pos => Sys2Proof.Machine.execOpenWireRetest ring pos s
  | .openWireRotation ring pos channel => Sys2Proof.Machine.execOpenWireRotation ring pos channel s
  | .openWireRequest req value => Sys2Proof.Machine.execOpenWireRequest req value s
  | .openWireRequestDone => Sys2Proof.Machine.execOpenWireRequestDone s
  | .captureArm req value => Sys2Proof.Machine.execCaptureArm req value s
  | .captureTrigger req value => Sys2Proof.Machine.execCaptureTrigger req value s
  | .captureFreeze => Sys2Proof.Machine.execCaptureFreeze s
  | .euWorkItemClaim eu => Sys2Proof.Machine.execEuWorkItemClaim eu s
  | .euUpdateComplete eu residueOk => Sys2Proof.Machine.execEuUpdateComplete eu residueOk s
  | .euHandshakeTimeout eu => Sys2Proof.Machine.execEuHandshakeTimeout eu s
  | .epochDeadline string => Sys2Proof.Machine.execEpochDeadline string s
  | .estimationHeld string => Sys2Proof.Machine.execEstimationHeld string s
  | .rateStepUp region => Sys2Proof.Machine.execRateStepUp region s
  | .fabricKnownAnswerTest eu pass => Sys2Proof.Machine.execFabricKnownAnswerTest eu pass s
  | .fabricSelfTestRequest req value => Sys2Proof.Machine.execFabricSelfTestRequest req value s
  | .fabricSelfTestDone failed => Sys2Proof.Machine.execFabricSelfTestDone failed s
  | .modelTableFileWrite req set file => Sys2Proof.Machine.execModelTableFileWrite req set file s
  | .tableSetLoadDone set => Sys2Proof.Machine.execTableSetLoadDone set s
  | .currentPlausibilityWindow string => Sys2Proof.Machine.execCurrentPlausibilityWindow string s
  | .restPointFormed string => Sys2Proof.Machine.execRestPointFormed string s
  | .stringDisagreementEnter string => Sys2Proof.Machine.execStringDisagreementEnter string s
  | .channelAuditRepeat string => Sys2Proof.Machine.execChannelAuditRepeat string s
  | .capLearnReportRequest req value => Sys2Proof.Machine.execCapLearnReportRequest req value s
  | .capLearnReportDone => Sys2Proof.Machine.execCapLearnReportDone s
  | .impedanceSnapshotRequest req value => Sys2Proof.Machine.execImpedanceSnapshotRequest req value s
  | .impedanceSnapshotTimeout => Sys2Proof.Machine.execImpedanceSnapshotTimeout s
  | .stringClose req string => Sys2Proof.Machine.execStringClose req string s
  | .stringOpen req string => Sys2Proof.Machine.execStringOpen req string s
  | .contactorStep => Sys2Proof.Machine.execContactorStep s
  | .closeTurnGranted string => Sys2Proof.Machine.execCloseTurnGranted string s
  | .weldCheckElapsed string => Sys2Proof.Machine.execWeldCheckElapsed string s
  | .prechargeDeadline string => Sys2Proof.Machine.execPrechargeDeadline string s
  | .prechargeCooldownEnd string => Sys2Proof.Machine.execPrechargeCooldownEnd string s
  | .closingCloseTimeElapsed string => Sys2Proof.Machine.execClosingCloseTimeElapsed string s
  | .closingDropTimeElapsed string => Sys2Proof.Machine.execClosingDropTimeElapsed string s
  | .joinWaitTimeout string => Sys2Proof.Machine.execJoinWaitTimeout string s
  | .openRampTimeout string => Sys2Proof.Machine.execOpenRampTimeout string s
  | .breakMaxRepeat string => Sys2Proof.Machine.execBreakMaxRepeat string s
  | .openingWeldTest string => Sys2Proof.Machine.execOpeningWeldTest string s
  | .openingDropElapsed string => Sys2Proof.Machine.execOpeningDropElapsed string s
  | .postTripWeldCheck string => Sys2Proof.Machine.execPostTripWeldCheck string s
  | .tripReset req mask => Sys2Proof.Machine.execTripReset req mask s
  | .weldClear req mask => Sys2Proof.Machine.execWeldClear req mask s
  | .pullInEnd driver => Sys2Proof.Machine.execPullInEnd driver s
  | .coilFaultDetected driver c => Sys2Proof.Machine.execCoilFaultDetected driver c s
  | .currentSourceNoneTimeout string => Sys2Proof.Machine.execCurrentSourceNoneTimeout string s
  | .tempInputLossTimeout ring pos => Sys2Proof.Machine.execTempInputLossTimeout ring pos s
  | .overLimitTimeout string => Sys2Proof.Machine.execOverLimitTimeout string s
  | .safetyInputChange pair chB level => Sys2Proof.Machine.execSafetyInputChange pair chB level s
  | .safetyDiscrepancyTimeout pair => Sys2Proof.Machine.execSafetyDiscrepancyTimeout pair s
  | .safeOffReport pair asserted => Sys2Proof.Machine.execSafeOffReport pair asserted s
  | .safetyInputSelfTest follows => Sys2Proof.Machine.execSafetyInputSelfTest follows s
  | .oscillatorCrossCheck count7 count9 => Sys2Proof.Machine.execOscillatorCrossCheck count7 count9 s
  | .offPulseStart driver highSide => Sys2Proof.Machine.execOffPulseStart driver highSide s
  | .offPulseCheck driver mA => Sys2Proof.Machine.execOffPulseCheck driver mA s
  | .offPulseEnd driver => Sys2Proof.Machine.execOffPulseEnd driver s
  | .offStateCheck driver hsMa lsMa coilMa => Sys2Proof.Machine.execOffStateCheck driver hsMa lsMa coilMa s
  | .openingProofDue driver => Sys2Proof.Machine.execOpeningProofDue driver s
  | .openingProofOverdue driver => Sys2Proof.Machine.execOpeningProofOverdue driver s
  | .contactorOpenTestRequest req value => Sys2Proof.Machine.execContactorOpenTestRequest req value s
  | .openTestStepCheck => Sys2Proof.Machine.execOpenTestStepCheck s
  | .openTestStepDropDone => Sys2Proof.Machine.execOpenTestStepDropDone s
  | .safetyConfigReadback upset => Sys2Proof.Machine.execSafetyConfigReadback upset s
  | .loadSwitchCmdOff req ls => Sys2Proof.Machine.execLoadSwitchCmdOff req ls s
  | .loadSwitchCmdOn req ls => Sys2Proof.Machine.execLoadSwitchCmdOn req ls s
  | .loadSwitchCmdPwm req ls => Sys2Proof.Machine.execLoadSwitchCmdPwm req ls s
  | .lsOvercurrentTrip ls => Sys2Proof.Machine.execLsOvercurrentTrip ls s
  | .lsThermalLatchSet ls => Sys2Proof.Machine.execLsThermalLatchSet ls s
  | .lsThermalLatchClear ls => Sys2Proof.Machine.execLsThermalLatchClear ls s
  | .lsRetryRestart ls => Sys2Proof.Machine.execLsRetryRestart ls s
  | .lsRetryCountReset ls => Sys2Proof.Machine.execLsRetryCountReset ls s
  | .lsFaultClear req mask => Sys2Proof.Machine.execLsFaultClear req mask s
  | .lsOnOpenLoad ls low => Sys2Proof.Machine.execLsOnOpenLoad ls low s
  | .lsOffStateDiag ls c => Sys2Proof.Machine.execLsOffStateDiag ls c s
  | .dissipationEstimate m => Sys2Proof.Machine.execDissipationEstimate m s
  | .governorShed => Sys2Proof.Machine.execGovernorShed s
  | .governorRestore => Sys2Proof.Machine.execGovernorRestore s
  | .motorSpeedCommand req md rpm => Sys2Proof.Machine.execMotorSpeedCommand req md rpm s
  | .motorSpeedLoop md shuntMa => Sys2Proof.Machine.execMotorSpeedLoop md shuntMa s
  | .motorZeroCrossing md x => Sys2Proof.Machine.execMotorZeroCrossing md x s
  | .motorCommutation md => Sys2Proof.Machine.execMotorCommutation md s
  | .motorCrossingTimeout md => Sys2Proof.Machine.execMotorCrossingTimeout md s
  | .motorCoastWaitEnd md => Sys2Proof.Machine.execMotorCoastWaitEnd md s
  | .motorCatchSpinEnd md intervals bemfMv => Sys2Proof.Machine.execMotorCatchSpinEnd md intervals bemfMv s
  | .motorStopped md => Sys2Proof.Machine.execMotorStopped md s
  | .motorAlignEnd md => Sys2Proof.Machine.execMotorAlignEnd md s
  | .motorStartHandover md intervals => Sys2Proof.Machine.execMotorStartHandover md intervals s
  | .motorStartTimeout md => Sys2Proof.Machine.execMotorStartTimeout md s
  | .motorRetryDelay md => Sys2Proof.Machine.execMotorRetryDelay md s
  | .motorCurrentLimit md hit => Sys2Proof.Machine.execMotorCurrentLimit md hit s
  | .motorLimitTimeTrip md => Sys2Proof.Machine.execMotorLimitTimeTrip md s
  | .motorVdsTrip md lowSide => Sys2Proof.Machine.execMotorVdsTrip md lowSide s
  | .motorThermalLatch md set => Sys2Proof.Machine.execMotorThermalLatch md set s
  | .motorGateUv md => Sys2Proof.Machine.execMotorGateUv md s
  | .motorClockLoss => Sys2Proof.Machine.execMotorClockLoss s
  | .motorFaultClear req mask => Sys2Proof.Machine.execMotorFaultClear req mask s
  | .vmotSample mV => Sys2Proof.Machine.execVmotSample mV s
  | .vmotRecovery => Sys2Proof.Machine.execVmotRecovery s
  | .brakeFaultCheck inst vmotMv brkMa => Sys2Proof.Machine.execBrakeFaultCheck inst vmotMv brkMa s
  | .brakeFaultClear req value => Sys2Proof.Machine.execBrakeFaultClear req value s
  | .qlpRead f => Sys2Proof.Machine.execQlpRead f s
  | .qlpWrite f => Sys2Proof.Machine.execQlpWrite f s
  | .sessionOpen f => Sys2Proof.Machine.execSessionOpen f s
  | .sessionAuth f => Sys2Proof.Machine.execSessionAuth f s
  | .sessionClose f => Sys2Proof.Machine.execSessionClose f s
  | .timeSet f ageUs => Sys2Proof.Machine.execTimeSet f ageUs s
  | .blockSegment f => Sys2Proof.Machine.execBlockSegment f s
  | .blockAck f => Sys2Proof.Machine.execBlockAck f s
  | .blockAbort f => Sys2Proof.Machine.execBlockAbort f s
  | .segmentTimeout link src => Sys2Proof.Machine.execSegmentTimeout link src s
  | .sessionTimeout => Sys2Proof.Machine.execSessionTimeout s
  | .nonceExpiry link src => Sys2Proof.Machine.execNonceExpiry link src s
  | .authLockoutEnd => Sys2Proof.Machine.execAuthLockoutEnd s
  | .qlpNodeIdWrite req value => Sys2Proof.Machine.execQlpNodeIdWrite req value s
  | .canTxDone ch won sofDelay tdcNs => Sys2Proof.Machine.execCanTxDone ch won sofDelay tdcNs s
  | .responseQueueTimeout link => Sys2Proof.Machine.execResponseQueueTimeout link s
  | .canBusOff ch txErr rxErr busOff => Sys2Proof.Machine.execCanBusOff ch txErr rxErr busOff s
  | .canBusOffRecovery ch => Sys2Proof.Machine.execCanBusOffRecovery ch s
  | .canTimingApply ch => Sys2Proof.Machine.execCanTimingApply ch s
  | .lighthouseDue ch => Sys2Proof.Machine.execLighthouseDue ch s
  | .ptpSyncReceived sync interval16 master utcOffset => Sys2Proof.Machine.execPtpSyncReceived sync interval16 master utcOffset s
  | .ptpHoldoverTimeout => Sys2Proof.Machine.execPtpHoldoverTimeout s
  | .timeStepApply => Sys2Proof.Machine.execTimeStepApply s
  | .timeMarkCommit worn => Sys2Proof.Machine.execTimeMarkCommit worn s
  | .timeSetLockExpiry => Sys2Proof.Machine.execTimeSetLockExpiry s
  | .eventAcknowledge req value => Sys2Proof.Machine.execEventAcknowledge req value s
  | .streamSnapshotDue stream => Sys2Proof.Machine.execStreamSnapshotDue stream s
  | .ethLinkUp fast full => Sys2Proof.Machine.execEthLinkUp fast full s
  | .arpRequest targetIp sender => Sys2Proof.Machine.execArpRequest targetIp sender s
  | .icmpEchoRequest len fragment sender => Sys2Proof.Machine.execIcmpEchoRequest len fragment sender s
  | .manifestFileWrite req file => Sys2Proof.Machine.execManifestFileWrite req file s
  | .manifestAdoptUids req mask => Sys2Proof.Machine.execManifestAdoptUids req mask s
  | .configSave req => Sys2Proof.Machine.execConfigSave req s
  | .configDiscard req => Sys2Proof.Machine.execConfigDiscard req s
  | .configFactoryDefaults req => Sys2Proof.Machine.execConfigFactoryDefaults req s
  | .configImageImport req image => Sys2Proof.Machine.execConfigImageImport req image s
  | .berthInChange level => Sys2Proof.Machine.execBerthInChange level s
  | .claimWaitExpiry => Sys2Proof.Machine.execClaimWaitExpiry s
  | .claimConflictWithdraw => Sys2Proof.Machine.execClaimConflictWithdraw s
  | .claimRefreshTimeout => Sys2Proof.Machine.execClaimRefreshTimeout s
  | .holdingRelease => Sys2Proof.Machine.execHoldingRelease s
  | .holdingTimeout => Sys2Proof.Machine.execHoldingTimeout s
  | .handoverOffer tally tail => Sys2Proof.Machine.execHandoverOffer tally tail s
  | .handoverAccept tally tail => Sys2Proof.Machine.execHandoverAccept tally tail s
  | .handoverRefuse tally tail => Sys2Proof.Machine.execHandoverRefuse tally tail s
  | .handoverTaken tally tail => Sys2Proof.Machine.execHandoverTaken tally tail s
  | .chainReq ring command latest tail => Sys2Proof.Machine.execChainReq ring command latest tail s
  | .chainFwd ring decodedAt frame tail => Sys2Proof.Machine.execChainFwd ring decodedAt frame tail s
  | .duplexTally index period time tail => Sys2Proof.Machine.execDuplexTally index period time tail s
  | .mirror m tail => Sys2Proof.Machine.execMirror m tail s
  | .hello h tail => Sys2Proof.Machine.execHello h tail s
  | .ringDelays payload tail => Sys2Proof.Machine.execRingDelays payload tail s
  | .duplexLinkDown => Sys2Proof.Machine.execDuplexLinkDown s
  | .duplexLinkUp => Sys2Proof.Machine.execDuplexLinkUp s
  | .berthHandOver req => Sys2Proof.Machine.execBerthHandOver req s
  | .berthTake req => Sys2Proof.Machine.execBerthTake req s
  | .berthRevert => Sys2Proof.Machine.execBerthRevert s
  | .standbyTakeoverSweep ring => Sys2Proof.Machine.execStandbyTakeoverSweep ring s
  | .logRecordSealTimeout => Sys2Proof.Machine.execLogRecordSealTimeout s
  | .logProgram failing => Sys2Proof.Machine.execLogProgram failing s
  | .logSuppressedReport => Sys2Proof.Machine.execLogSuppressedReport s
  | .logClear req code => Sys2Proof.Machine.execLogClear req code s
  | .logFlushLevel vauxMv => Sys2Proof.Machine.execLogFlushLevel vauxMv s
  | .supplyRecovery vauxMv => Sys2Proof.Machine.execSupplyRecovery vauxMv s
  | .brownOutWarning vauxMv => Sys2Proof.Machine.execBrownOutWarning vauxMv s
  | .brownOutClear vauxMv => Sys2Proof.Machine.execBrownOutClear vauxMv s
  | .powerDieReset vauxMv => Sys2Proof.Machine.execPowerDieReset vauxMv s
  | .regulatorFault vddcMv vddioMv => Sys2Proof.Machine.execRegulatorFault vddcMv vddioMv s
  | .powerOn vauxMv => Sys2Proof.Machine.execPowerOn vauxMv s
  | .powerDieResetRelease berthPref => Sys2Proof.Machine.execPowerDieResetRelease berthPref s
  | .computeDieResetRelease => Sys2Proof.Machine.execComputeDieResetRelease s
  | .startupComplete c => Sys2Proof.Machine.execStartupComplete c s
  | .chainWakeEnd ring => Sys2Proof.Machine.execChainWakeEnd ring s
  | .watchdogEscalation => Sys2Proof.Machine.execWatchdogEscalation s
  | .resetNAssert => Sys2Proof.Machine.execResetNAssert s
  | .resetNRelease => Sys2Proof.Machine.execResetNRelease s
  | .deviceResetCommand req value => Sys2Proof.Machine.execDeviceResetCommand req value s
  | .mooredWatchCommand req => Sys2Proof.Machine.execMooredWatchCommand req s
  | .mooredDarkCommand req => Sys2Proof.Machine.execMooredDarkCommand req s
  | .mooredEntryComplete => Sys2Proof.Machine.execMooredEntryComplete s
  | .mooredWake w => Sys2Proof.Machine.execMooredWake w s
  | .mooredDarkAuto => Sys2Proof.Machine.execMooredDarkAuto s
  | .siteKeyWrite req blob => Sys2Proof.Machine.execSiteKeyWrite req blob s
  | .moduleKeyWrite req ring blob => Sys2Proof.Machine.execModuleKeyWrite req ring blob s
  | .lifecycleCommission req value => Sys2Proof.Machine.execLifecycleCommission req value s
  | .lifecycleInService req value => Sys2Proof.Machine.execLifecycleInService req value s
  | .lifecycleMaintenance req value => Sys2Proof.Machine.execLifecycleMaintenance req value s
  | .lifecycleRetire req value => Sys2Proof.Machine.execLifecycleRetire req value s
  | .tamperAcknowledge req mask => Sys2Proof.Machine.execTamperAcknowledge req mask s
  | .firmwareBegin req => Sys2Proof.Machine.execFirmwareBegin req s
  | .firmwareEraseDone => Sys2Proof.Machine.execFirmwareEraseDone s
  | .firmwareChunkWrite req chunk bytes => Sys2Proof.Machine.execFirmwareChunkWrite req chunk bytes s
  | .firmwareVerify req => Sys2Proof.Machine.execFirmwareVerify req s
  | .firmwareActivate req => Sys2Proof.Machine.execFirmwareActivate req s
  | .firmwareAbort req => Sys2Proof.Machine.execFirmwareAbort req s
  | .firmwareTrialConfirm => Sys2Proof.Machine.execFirmwareTrialConfirm s
  | .dieSensorConversion readings => Sys2Proof.Machine.execDieSensorConversion readings s
  | .dieSensorBroken sensor late => Sys2Proof.Machine.execDieSensorBroken sensor late s
  | .throttleStageEnter scope stage => Sys2Proof.Machine.execThrottleStageEnter scope stage s
  | .throttleStageLeave scope stage => Sys2Proof.Machine.execThrottleStageLeave scope stage s
  | .dieTempFrameTimeout => Sys2Proof.Machine.execDieTempFrameTimeout s
  | .thermalShed => Sys2Proof.Machine.execThermalShed s
  | .thermalRestore => Sys2Proof.Machine.execThermalRestore s
  | .scrubPass corrected => Sys2Proof.Machine.execScrubPass corrected s
  | .converterCalibration conv ppm => Sys2Proof.Machine.execConverterCalibration conv ppm s
  | .integrityCheck c => Sys2Proof.Machine.execIntegrityCheck c s
  | .deviceSelfTestRequest req value => Sys2Proof.Machine.execDeviceSelfTestRequest req value s
  | .deviceSelfTestDone found => Sys2Proof.Machine.execDeviceSelfTestDone found s
  | .lsLimiting ls reached => Sys2Proof.Machine.execLsLimiting ls reached s
  | .gateSupplyRecovered md => Sys2Proof.Machine.execGateSupplyRecovered md s
  | .motorRetryCountReset md => Sys2Proof.Machine.execMotorRetryCountReset md s
  | .ethLinkDown => Sys2Proof.Machine.execEthLinkDown s
  | .duplexHelloSend => Sys2Proof.Machine.execDuplexHelloSend s
  | .armingRefreshTimeout => Sys2Proof.Machine.execArmingRefreshTimeout s

end Sys2Proof.Machine
end

