-- ==== Sys2Proof/Machine/Tick.lean ====
section
/-! DEFINITION. Sys2Proof/Machine/Tick.lean: one microsecond of local time, what step does on an empty queue (DESIGN CHOICE,
log entry 27): time advances (R29, R305), and what the rules tie to time alone, without an event of the opcode table, goes
on. -/

namespace Sys2Proof.Machine

/-- Table 11-2: the priority of a duplex frame. -/
def dupPriority : DupFrame → Nat
  | .handover _ _ => 0
  | .chainReq _ _ _ => 1
  | .chainFwd _ _ _ => 1
  | .tally _ _ _ => 2
  | .mirror _ => 3
  | .hello _ => 4
  | .ringDelays _ => 4

/-- R360: the frame that goes next: the first of the lowest priority number. -/
def dupFirst (l : List DupFrame) : Option DupFrame := [0, 1, 2, 3, 4].findSome? fun p => l.find? fun f => dupPriority f == p

/-- R360: the frame that goes next leaves the queue. -/
def dupNext (l : List DupFrame) : List DupFrame :=
  match dupFirst l with
  | none => l
  | some x => l.eraseP fun f => dupPriority f == dupPriority x

/-- R360: one frame leaves on the duplex link. -/
def State.dupTransmit (s : State) : State :=
  if s.running && s.dup.mode != 0 then
    { s with dup := { s.dup with
      sent := dupNext s.dup.sent
      lastFrame := match dupFirst s.dup.sent with | some f => dupBytes f | none => s.dup.lastFrame } }
  else s

/-- R445: `ThrottleTime` counts the time at each stage that some scope is at. -/
def State.stageTime (s : State) : State :=
  if !s.running then s else
  forEach ([1, 2, 3, 4].filter fun k => (List.range 4).any fun c => s.gn O.throttleStage c == k) s fun s k =>
    { s with th := { s.th with stageUs := mset 0 s.th.stageUs k (mget 0 s.th.stageUs k + 1) } }

/-- Table 14-2: the duty of a region's fabric, %. -/
def State.fabricDuty (s : State) (g : Nat) : Nat :=
  match s.gn O.throttleStage g with
  | 0 => 100
  | 1 => 75
  | _ => 50

/-- R432: the fabric of each region runs for its duty of one µs. -/
def State.fabricRuns (s : State) : State :=
  if !s.cd then s else forEach [0, 1] s fun s g => s.regionUpd g fun x => { x with ran := x.ran + s.fabricDuty g }

/-- R410: a change of the tamper status that flash has not yet taken is committed. -/
def State.tamperCommit (s : State) : State :=
  let kept := match s.journalRec 4 0 with | some r => leAt r.payload 0 4 | none => 0
  if s.running && s.flashOk && kept != s.fw.tamper then s.journal 4 0 (le 4 s.fw.tamper) else s

/-- One microsecond of local time: the clocks run while the oscillators do (R396); MIRROR follows a changed output (R362),
one duplex frame and one Ethernet frame leave, ThrottleTime counts, the fabric runs (R432), a tamper record is committed, the
flash work of a moored entry goes on (R404), and the authentications that waited for flash begin (R412). -/
def State.tick (s : State) : State :=
  if !s.pwr.started then s
  else
    let s := s.passUs.linkUs.mirrorOutputs.dupTransmit
    let s := if s.running && s.ethUp then s.ethSend else s
    s.stageTime.fabricRuns.tamperCommit.moorWork.authResume

end Sys2Proof.Machine
end

