-- ==== Sys2Proof/Machine/Step.lean ====
section
/-! DEFINITION. Sys2Proof/Machine/Step.lean: one step of the block: the command at the front of the queue, or, with none
waiting, one microsecond of local time. -/

namespace Sys2Proof.Machine

/-- The block takes the command at the front of its queue and runs it on the state with the queue's rest; on an empty
queue local time advances by 1 µs (DESIGN CHOICE, log entry 27). -/
def step (s : State) : Host.Outcome State Fault Refusal :=
  match s.pending with
  | c :: rest => exec c { s with pending := rest }
  | [] => .next s.tick

/-- `s` with the command that a word spells put at the front of its queue; no row of the opcode table has bits, so no word
spells one. -/
def State.withFetchWord (s : State) (nbits w : Nat) : State :=
  match decodeTableWord nbits w with
  | some c => { s with pending := c :: s.pending }
  | none => s

end Sys2Proof.Machine
end

