-- ==== Sys2Proof/Safety.lean ====
section
/-! DEFINITION. Sys2Proof/Safety.lean: what a safe run of the block is, in the terms the statements use. -/

namespace Sys2Proof.Machine

/-! ### What reaches the device -/

/-- R280, R320 to R323: a write request for an element reaches the running device and passes the checks of every request. -/
abbrev State.takesWrite (s : State) (req : Req) (i k : Nat) : Prop :=
  s.running = true ∧ s.addressed req.dest = true ∧ s.writeGate i k (s.authOk req) = 0

/-- R76, R77: a reply on a ring that the device directs is valid, the first of its hop, and from the monitor at a position. -/
abbrev State.hearsReply (s : State) (r : Nat) (port : Bool) (f : List Byte) (hop pos : Nat) (b : Bool) : Prop :=
  s.running = true ∧ s.has r = true ∧ s.gn O.chainRingState r ≠ 0 ∧ s.directs = true ∧ s.judgeReply r port f false = .good hop pos b

/-- R287, R317: the state once a request has been counted. -/
def State.asked (s : State) (f : QlpFrame) : State := ((s.countIn f).countRate f).1

/-- R280, R281, R285, R317: a frame of this protocol reaches the running device over a link that is up, its header well-formed:
no reserved bit set, and on Ethernet a VERSION and a LENGTH that are right. -/
abbrev State.wellFramed (s : State) (f : QlpFrame) : Prop :=
  s.running = true ∧ s.linkUp f.link.val = true ∧ forQlp f = true ∧ badDatagram f = false ∧ reservedSet f = false

/-- R280, R281, R287, R317: a request of an operation reaches the device, is well-formed and within its source's rate. -/
abbrev State.admits (s : State) (f : QlpFrame) (op : Nat) : Prop :=
  s.wellFramed f ∧ f.cls = 8 ∧ ((s.countIn f).accepts f).2 = true ∧ reqOp f = op ∧
    ((s.countIn f).countRate f).2 = false ∧ reqMalformed f = false

/-- R292: it is no retransmission, and no open transfer of its source has its SEQ. -/
abbrev State.fresh (s : State) (f : QlpFrame) : Prop :=
  (s.asked f).keptFor f = none ∧
    ((s.asked f).qlp.transfers.any fun t => t.link == f.link.val && t.src == f.src && t.seq == f.seq) = false

/-- R280 to R292, R317, R420: a request of an operation reaches the device and passes the checks of every request. -/
abbrev State.takesRequest (s : State) (f : QlpFrame) (op : Nat) : Prop :=
  s.admits f op ∧ s.fresh f ∧ (s.asked f).lifecycle ≠ 4

/-- R285, R293, R317: a block frame of a kind reaches the device. -/
abbrev State.takesBlock (s : State) (f : QlpFrame) (kind : Nat) : Prop :=
  s.wellFramed f ∧ f.cls = 10 ∧ ((s.countIn f).accepts f).2 = true ∧ blockKind f = kind ∧ 3 ≤ f.msg.length

/-- R361: the state once a valid frame of the duplex link has been heard. -/
def State.dupHeard (s : State) : State :=
  { s with dup := { s.dup with
    validAt := s.mono, validSince := if s.dup.validAt = 0 || s.past s.dup.validAt 1000 then s.mono else s.dup.validSince } }

/-- R290: the write request that a command is, with the object and the element that it writes; none for another command. -/
def asWrite (c : Sys2Proof.Instr) : Option (Req × Nat × Nat) :=
  match c with
  | .stringClose req n => some (req, O.stringCommand, n.val)
  | .stringOpen req n => some (req, O.stringCommand, n.val)
  | .tripReset req _ => some (req, O.tripReset, 0)
  | .weldClear req _ => some (req, O.weldClear, 0)
  | .contactorOpenTestRequest req _ => some (req, O.contactorOpenTestRequest, 0)
  | .loadSwitchCmdOff req n => some (req, O.loadSwitchCommand, n.val)
  | .loadSwitchCmdOn req n => some (req, O.loadSwitchCommand, n.val)
  | .loadSwitchCmdPwm req n => some (req, O.loadSwitchCommand, n.val)
  | .lsFaultClear req _ => some (req, O.lsFaultClear, 0)
  | .motorSpeedCommand req n _ => some (req, O.motorSpeedCommand, n.val)
  | .motorFaultClear req _ => some (req, O.motorFaultClear, 0)
  | .brakeFaultClear req _ => some (req, O.brakeFaultClear, 0)
  | .captureArm req _ => some (req, O.captureArm, 0)
  | .captureTrigger req _ => some (req, O.captureTrigger, 0)
  | .configSave req => some (req, O.configCommand, 0)
  | .configDiscard req => some (req, O.configCommand, 0)
  | .configFactoryDefaults req => some (req, O.configCommand, 0)
  | .configImageImport req _ => some (req, O.configImage, 0)
  | .manifestFileWrite req _ => some (req, O.manifestFile, 0)
  | .manifestAdoptUids req _ => some (req, O.manifestAdoptUids, 0)
  | .openWireRequest req _ => some (req, O.openWireRequest, 0)
  | .fabricSelfTestRequest req _ => some (req, O.fabricSelfTestRequest, 0)
  | .modelTableFileWrite req set _ => some (req, O.modelTableFile, set.val)
  | .capLearnReportRequest req _ => some (req, O.capLearnReportRequest, 0)
  | .impedanceSnapshotRequest req _ => some (req, O.impedanceSnapshotRequest, 0)
  | .deviceSelfTestRequest req _ => some (req, O.deviceSelfTestRequest, 0)
  | .eventRouteWrite req source _ => some (req, O.eventRoute, source.toNat)
  | .eventAcknowledge req _ => some (req, O.eventAcknowledge, 0)
  | .tallyPeriodWrite req _ => some (req, O.tallyPeriod, 0)
  | .berthHandOver req => some (req, O.berthCommand, 0)
  | .berthTake req => some (req, O.berthCommand, 0)
  | .logClear req _ => some (req, O.logClear, 0)
  | .lifecycleCommission req _ => some (req, O.lifeCycleCommand, 0)
  | .lifecycleInService req _ => some (req, O.lifeCycleCommand, 0)
  | .lifecycleMaintenance req _ => some (req, O.lifeCycleCommand, 0)
  | .lifecycleRetire req _ => some (req, O.lifeCycleCommand, 0)
  | .siteKeyWrite req _ => some (req, O.siteKeyWrite, 0)
  | .moduleKeyWrite req ring _ => some (req, O.moduleKeyWrite, ring.val)
  | .tamperAcknowledge req _ => some (req, O.tamperAcknowledge, 0)
  | .deviceResetCommand req _ => some (req, O.deviceResetCommand, 0)
  | .mooredWatchCommand req => some (req, O.mooredCommand, 0)
  | .mooredDarkCommand req => some (req, O.mooredCommand, 0)
  | .firmwareBegin req => some (req, O.firmwareCommand, 0)
  | .firmwareChunkWrite req chunk _ => some (req, O.firmwareChunk, chunk.val)
  | .firmwareVerify req => some (req, O.firmwareCommand, 0)
  | .firmwareActivate req => some (req, O.firmwareCommand, 0)
  | .firmwareAbort req => some (req, O.firmwareCommand, 0)
  | .qlpNodeIdWrite req _ => some (req, O.qlpNodeId, 0)
  | _ => none

/-! ### What every step keeps -/

/-- The records by number are in canonical form: numbers strictly rising, no record equal to what an unlisted number reads
as. -/
def recordsWf {α : Type} [DecidableEq α] (d : α) (m : SMap α) : Prop := mwfFrom (fun _ => d) none m = true

/-- The canonical form of `State.drivers`. -/
def driversWf (m : SMap Driver) : Prop := recordsWf {} m

/-- The canonical form of `State.ls`. -/
def loadSwitchesWf (m : SMap LoadSw) : Prop := recordsWf {} m

/-- The canonical form of `State.motors`. -/
def motorsWf (m : SMap Motor) : Prop := recordsWf {} m

/-- The canonical form of `State.pairs`. -/
def pairsWf (m : SMap Pair) : Prop := recordsWf {} m

/-- The canonical form of `State.strs`. -/
def strsWf (m : SMap Str) : Prop := recordsWf {} m

/-- The canonical form of `State.rings`. -/
def ringsWf (m : SMap Ring) : Prop := recordsWf {} m

/-- The canonical form of `State.monitors`. -/
def monitorsWf (m : SMap Monitor) : Prop := recordsWf {} m

/-- The canonical form of `State.cells`. -/
def cellsWf (m : SMap CellAcq) : Prop := recordsWf {} m

/-- The canonical form of `State.temps`. -/
def tempsWf (m : SMap TempAcq) : Prop := recordsWf {} m

/-- The canonical form of `State.chans`. -/
def chansWf (m : SMap Chan) : Prop := recordsWf {} m

/-- The canonical form of `State.shots`. -/
def shotsWf (m : SMap OneShot) : Prop := recordsWf {} m

/-- The canonical form of the object dictionary of a variant: no element listed at its default (R324). -/
def objectsWf (v : Variant) (m : SMap (List Int)) : Prop := mwfFrom (keyDefault v) none m = true

/-- The stored state is in canonical form: the object dictionary lists no element at its default (R324), and no record of
a driver, channel, pair, string, ring, monitor, cell, input or request stands for itself; equal contents are equal data. -/
def State.canonical (s : State) : Prop :=
  objectsWf s.variant s.objs ∧ driversWf s.drivers ∧ loadSwitchesWf s.ls ∧ motorsWf s.motors ∧ pairsWf s.pairs ∧ strsWf s.strs ∧
    ringsWf s.rings ∧ monitorsWf s.monitors ∧ cellsWf s.cells ∧
    tempsWf s.temps ∧ chansWf s.chans ∧ shotsWf s.shots

/-- R414: what the OTP store holds may become, from `o`: customer bits are only set (the key slots, the revoked bits, the
fuses), the security floor does not fall, the factory's contents stay. -/
def Otp.keeps (o p : Otp) : Prop :=
  (∀ k < 4, ∀ i < 32, byteAt (mget [] o.siteKeys k) i &&& byteAt (mget [] p.siteKeys k) i = byteAt (mget [] o.siteKeys k) i) ∧
    (∀ k < 16, ∀ i < 16,
      byteAt (mget [] o.moduleKeys k) i &&& byteAt (mget [] p.moduleKeys k) i = byteAt (mget [] o.moduleKeys k) i) ∧
    (∀ k < 20, k ∈ o.revoked → k ∈ p.revoked) ∧ o.floor ≤ p.floor ∧ (o.retired = true → p.retired = true) ∧
    (o.commissioned = true → p.commissioned = true) ∧ p.kT = o.kT ∧ p.kChallenge = o.kChallenge ∧ p.fwX = o.fwX ∧ p.fwY = o.fwY

/-- A state that the block may be in after `s₀`, as far as no command can undo: the same variant, an OTP store whose
customer bits were only set, a local time and a device time (R29) that are not earlier, and the queue as it was (a
command's effect is on everything but the queue). -/
def State.onwards (s s₀ : State) : Prop :=
  s.variant = s₀.variant ∧ s₀.otp.keeps s.otp ∧ (s₀.clk.mono ≤ s.clk.mono ∧ s₀.clk.now ≤ s.clk.now) ∧ s.pending = s₀.pending

/-- R29, R303: a start with these checks resumes device time no earlier than it stood: domain 8 ran on, or the newest time mark
that the journal's scan finds lies no more than 60 s behind. -/
def State.resumesAhead (s : State) (c : StartupChecks) : Prop :=
  s.clk.rtcRunning = true ∨ ∃ j, (s.scanJournal c.records).journalRec 2 0 = some j ∧ s.clk.now ≤ j.time + 60000000

/-- The power die's outputs stand as in `s₀` (R14): the contactor drivers, the load switches, the motor channels with `BRK_G`
and the VMOT protections, the switch-dissipation governor, and the safety input pairs. -/
def State.held (s s₀ : State) : Prop :=
  s.drivers = s₀.drivers ∧ s.ls = s₀.ls ∧ s.motors = s₀.motors ∧ s.vmot = s₀.vmot ∧ s.gov = s₀.gov ∧ s.pairs = s₀.pairs

/-- The commands that leave the power die's outputs as they are: those of the chain, the tally, the estimators, the links,
the log, the stores and the supply that neither run the event matrix nor reach an output. -/
def leavesOutputs (c : Sys2Proof.Instr) : Bool :=
  match c with
  | .logRecordSealTimeout | .logProgram _ | .logSuppressedReport | .logFlushLevel _ | .deratingClear _ _
  | .stringClose _ _ | .prechargeCooldownEnd _ | .closingDropTimeElapsed _ | .joinWaitTimeout _ | .breakMaxRepeat _
  | .openingDropElapsed _ | .tripReset _ _ | .contactorOpenTestRequest _ _ | .safetyConfigReadback _
  | .lockstepMismatch | .clockMonitorGate _ _ _ | .domain8Loss | .interdieFrameReceived _ _ | .interdieLinkTimeout _
  | .interdieIdleSend _ | .watchdogEscalation | .eventRouteWrite _ _ _ | .eventAcknowledge _ _ | .enumerationStart _
  | .enumerationWaitDone _ _ _ | .manifestMismatchReenumerate _ | .laneLost _ _ | .laneRestored _ _
  | .idleSlotLaunch _ _ | .trainEotReturned _ _ | .trainTimeout _ _ | .returnPathCheck _ _ | .ident _ _ _
  | .echoBack _ _ _ _ _ | .configAck _ _ _ | .status _ _ _ | .authResult _ _ _ | .authReadDue _ _ | .authMac _ _ _
  | .authRetry _ _ | .moduleAuthDue _ _ | .rejoinResult _ _ _ | .chainWakeEnd _ | .currentOutput _ _ _
  | .fastPathDebounceExpiry _ | .currentSampleDelivered _ _ | .dsiStuckFault _ | .isaRangeFault _
  | .currentFaultClear _ _ | .crossCheckDisagree _ | .ptpSyncReceived _ _ _ _ | .ptpHoldoverTimeout | .timeStepApply
  | .timeMarkCommit _ | .timeSetLockExpiry | .authLockoutEnd | .sessionTimeout | .nonceExpiry _ _ | .qlpNodeIdWrite _ _
  | .comparatorSourceRaise _ _ _ | .tempDwellEnd _ _ _ | .tempStaleTimeout _ _ _ | .sample _ _ _ | .hopMissing _ _ _
  | .captureFreeze | .captureArm _ _ | .captureTrigger _ _ | .tallyInstant _ | .openWireSuspect _ _
  | .openWireTestStart _ _ _ | .openWireResult _ _ _ | .openWireTestEvaluate _ _ | .openWireRetest _ _
  | .openWireRotation _ _ _ | .openWireRequest _ _ | .openWireRequestDone | .balancePlan | .balAck _ _ _
  | .euWorkItemClaim _ | .euUpdateComplete _ _ | .euHandshakeTimeout _ | .fabricKnownAnswerTest _ _ | .epochDeadline _
  | .estimationHeld _ | .rateStepUp _ | .fabricSelfTestRequest _ _ | .fabricSelfTestDone _
  | .currentPlausibilityWindow _ | .stringDisagreementEnter _ | .channelAuditRepeat _ | .restPointFormed _
  | .capLearnReportRequest _ _ | .capLearnReportDone | .impedanceSnapshotRequest _ _ | .impedanceSnapshotTimeout
  | .sweepComplete _ | .staleTrip _ _ | .tallyTrigger | .tallyPeriodApply | .manifestFileWrite _ _
  | .manifestAdoptUids _ _ | .configSave _ | .armingRefreshTimeout
  | .duplexLinkDown | .duplexLinkUp | .duplexHelloSend | .hello _ _ | .duplexTally _ _ _ _ | .ringDelays _ _
  | .chainReq _ _ _ _ | .chainFwd _ _ _ _ | .standbyTakeoverSweep _ | .berthHandOver _ | .berthTake _ | .berthRevert
  | .handoverOffer _ _ | .handoverRefuse _ _ | .handoverTaken _ _ | .modelTableFileWrite _ _ _
  | .tableSetLoadDone _ | .tableSetReloadDone _ | .learnedDataCommit _ _ | .weldStateCommit _ _ | .supplyRecovery _
  | .powerOn _ | .computeDieResetRelease | .clockFaultRelease | .resetNAssert | .resetNRelease
  | .deviceResetCommand _ _ | .mooredEntryComplete | .logClear _ _ | .tamperAcknowledge _ _ | .firmwareBegin _
  | .firmwareEraseDone | .firmwareChunkWrite _ _ _ | .firmwareVerify _ | .firmwareActivate _ | .firmwareAbort _
  | .dieSensorConversion _ | .dieSensorBroken _ _ | .dieTempFrameTimeout | .throttleStageLeave _ _ | .scrubPass _
  | .converterCalibration _ _ | .integrityCheck _ | .deviceSelfTestRequest _ _ | .deviceSelfTestDone _ | .qlpRead _
  | .sessionOpen _ | .sessionAuth _ | .sessionClose _ | .timeSet _ _ | .blockAck _ | .blockAbort _
  | .segmentTimeout _ _ | .canTxDone _ _ _ _ | .responseQueueTimeout _ | .canBusOff _ _ _ _ | .canBusOffRecovery _
  | .canTimingApply _ | .lighthouseDue _ | .streamSnapshotDue _ | .ethLinkUp _ _ | .arpRequest _ _
  | .icmpEchoRequest _ _ _ | .ethLinkDown => true
  | _ => false

/-- A property of the next state, where there is one. -/
def nextSat (o : Host.Outcome State Fault Refusal) (p : State → Prop) : Prop := ∀ t, o = .next t → p t

end Sys2Proof.Machine
end

