-- ==== Sys2Proof/Certificates/Slice0/Obligations.lean ====
section
/-! DEFINITION. Sys2Proof/Certificates/Slice0/Obligations.lean: the statements about the model: what the numbered rules of
the spec say the block does, and where every command completes. -/

open Sys2Proof Sys2Proof.Machine

/-! ### The step -/

/-- A step takes the command at the front of the queue and answers what `exec` answers for it on the state with the
queue's rest. -/
def Obligations.StepRunsFront : Prop :=
  ∀ (s : State) (c : Instr) (rest : List Instr), step { s with pending := c :: rest } = exec c { s with pending := rest }

/-- On an empty queue local time advances by 1 µs while the oscillators run, and nothing happens while they do not (the
model's choice, log entry 27). -/
def Obligations.EmptyQueueTicks : Prop :=
  ∀ s : State, s.pending = [] →
    (s.pwr.started = true → ∃ t, step s = .next t ∧ t.clk.mono = s.clk.mono + 1 ∧ s.clk.now ≤ t.clk.now) ∧
    (s.pwr.started = false → step s = .next s)

/-- No command stops the block: every step of every state answers a next state. That a command outside its condition leaves the
state as it is, so that it too answers, is the model's choice (log entry 4). -/
def Obligations.StepAnswersNext : Prop := ∀ s : State, ∃ t, step s = .next t

/-! ### Reset -/

/-- The state right after reset is in canonical form. -/
def Obligations.ResetCanonical : Prop := State.reset.canonical

/-- R5: as shipped, the device is BLANK, slot A holds the active firmware, slot B is empty, the OTP key store holds no
customer key and no fuse is programmed; nothing waits in the queue. -/
def Obligations.ResetAsShipped : Prop :=
  State.reset.lifecycle = 0 ∧ (State.reset.slot 0).st = 5 ∧ State.reset.flash.active = 0 ∧ (State.reset.slot 1).st = 0 ∧
    State.reset.otp.siteKeys = [] ∧ State.reset.otp.moduleKeys = [] ∧ State.reset.otp.revoked = [] ∧
    State.reset.otp.commissioned = false ∧ State.reset.otp.retired = false ∧ State.reset.pending = []

/-! ### What every step keeps -/

/-- Every step keeps the canonical form of the stored state. -/
def Obligations.StepKeepsCanonical : Prop := ∀ s t : State, s.canonical → step s = .next t → t.canonical

/-- R414, R3, R29, R303, R306: no step clears a customer bit of the OTP store (a written key, a revoked bit, a fuse), lowers the
security floor, changes the factory's contents or the variant, or sets local time back; no command touches the queue: after a
step it is what stood behind its front; and no step sets device time back, through every reset, but a start that found neither
domain 8 running nor a time mark of the last 60 s of device time. -/
def Obligations.StepGoesOnwards : Prop :=
  (∀ s t : State, step s = .next t → t.onwards { s with pending := s.pending.tail, clk := { s.clk with now := 0 } }) ∧
  (∀ s t : State, step s = .next t →
    (∀ c rest, s.pending = .startupComplete c :: rest → State.resumesAhead { s with pending := rest } c) →
    t.onwards { s with pending := s.pending.tail } ∧ s.now ≤ t.now)

/-! ### Frames -/

/-- R14: the 167 commands of `leavesOutputs` (of the chain, the tally, the estimators, the links, the log, the stores and
the supply) leave every contactor driver, load switch, motor channel, `BRK_G`, the governor and the safety pairs as they
are. -/
def Obligations.CommandsLeaveOutputs : Prop :=
  ∀ (s t : State) (c : Instr), leavesOutputs c = true → exec c s = .next t → t.held s

/-- R14, R35: while the power die does not trust the compute die, or its claim does not stand, it refuses every output
command: each command of the compute die or the host for an output leaves the outputs as they are. -/
def Obligations.UntrustedOutputsStay : Prop :=
  ∀ (s t : State) (c : Instr), (s.trusts && s.berthOk) = false →
    ((∃ r, c = .outputRequest r) ∨ (∃ req n, c = .loadSwitchCmdOff req n ∨ c = .loadSwitchCmdOn req n ∨ c = .loadSwitchCmdPwm req n) ∨
      (∃ req m, c = .lsFaultClear req m) ∨ (∃ req n rpm, c = .motorSpeedCommand req n rpm) ∨
      (∃ req m, c = .motorFaultClear req m) ∨ (∃ req v, c = .brakeFaultClear req v)) →
    exec c s = .next t → t.held s

/-- R251: a load-switch command of the host changes no other output, record or store: every driver, every motor channel, the
chopper, the governor, the safety pairs and every other load switch stay as they are, and so do all elements of the dictionary
but the channel's `LoadSwitchCommand` and the links' high-water marks, every record of a string, ring, monitor, cell, input,
channel or request, the events, the fabric, the heat, the log, flash, the OTP bits and the clock. What is left is the channel
itself, the messages to the other die, the refusal and the response. -/
def Obligations.LoadSwitchFrame : Prop :=
  ∀ (s t : State) (c : Instr) (req : Req) (n : Fin 16),
    (c = .loadSwitchCmdOff req n ∨ c = .loadSwitchCmdOn req n ∨ c = .loadSwitchCmdPwm req n) → exec c s = .next t →
    t.drivers = s.drivers ∧ t.motors = s.motors ∧ t.vmot = s.vmot ∧ t.gov = s.gov ∧ t.pairs = s.pairs ∧
      (∀ k, k ≠ n.val → t.lsw k = s.lsw k) ∧ t.flash = s.flash ∧ t.otp = s.otp ∧ t.clk = s.clk ∧ t.strs = s.strs ∧
      t.rings = s.rings ∧ t.cells = s.cells ∧ t.log = s.log ∧ t.monitors = s.monitors ∧ t.temps = s.temps ∧ t.chans = s.chans ∧
      t.shots = s.shots ∧ t.otest = s.otest ∧ t.capture = s.capture ∧ t.ev = s.ev ∧ t.fab = s.fab ∧ t.th = s.th ∧ t.fw = s.fw ∧
      t.pwr = s.pwr ∧ t.wd = s.wd ∧ t.variant = s.variant ∧ t.pending = s.pending ∧
      { t.dup with acted := s.dup.acted } = s.dup ∧
      (s.canonical → ∀ i k, k < 65536 → (i ≠ O.loadSwitchCommand ∨ k ≠ n.val) →
        (i ≠ O.canStats ∨ k ≠ req.link.val * 6 + 5) → t.el i k = s.el i k)

/-! ### The object dictionary -/

/-- R324: an element that has been stored reads as stored, and every other element reads as before. -/
def Obligations.StoreThenRead : Prop :=
  ∀ (s : State) (i sub : Nat) (v : List Int), s.canonical → sub < 65536 →
    (s.putL i sub v).el i sub = v ∧
    ∀ j k, k < 65536 → (j ≠ i ∨ k ≠ sub) → (s.putL i sub v).el j k = s.el j k

/-- R290, R320 to R323, R358, R420: a write request that fails the checks of existence and access is answered with the first
failed check's status, and nothing else changes but the answer; one that does not reach the device changes nothing. -/
def Obligations.RefusedWriteChangesNothing : Prop :=
  ∀ (s : State) (c : Instr) (req : Req) (i k : Nat), asWrite c = some (req, i, k) →
    (s.running = true → s.addressed req.dest = true → s.writeGate i k (s.authOk req) ≠ 0 →
      exec c s = .next ((s.tagSeen req).answerW req i k (s.writeGate i k (s.authOk req)))) ∧
    ((s.running = false ∨ s.addressed req.dest = false) → exec c s = .next s)

/-- R358: in `BerthState` 3, 4 or 5 a write to an output, contactor or fault-clear object that exists, with the access it
needs, is refused with 0x0205: each command that is such a write, and each such WRITE request of elements that exist. -/
def Obligations.StandbyRefusesOutputWrites : Prop :=
  (∀ (s : State) (c : Instr) (req : Req) (i k : Nat), asWrite c = some (req, i, k) →
    i ∈ [O.stringCommand, O.tripReset, O.weldClear, O.contactorOpenTestRequest, O.loadSwitchCommand, O.lsFaultClear,
      O.motorSpeedCommand, O.motorFaultClear, O.brakeFaultClear] →
    s.running = true → s.addressed req.dest = true → s.lifecycle ≠ 4 → s.existCheck i k = 0 → s.authOk req = true →
    (s.berthState = 3 ∨ s.berthState = 4 ∨ s.berthState = 5) →
    exec c s = .next ((s.tagSeen req).answerW req i k 0x0205)) ∧
  (∀ (s u : State) (f : QlpFrame), s.takesRequest f 2 → (reqSegmented f = false ∨ 12 + reqLen f ≤ f.msg.length) →
    reqIndex f ∈ [O.stringCommand, O.tripReset, O.weldClear, O.contactorOpenTestRequest, O.loadSwitchCommand,
      O.loadSwitchPwmDuty, O.loadSwitchPwmFrequency, O.lsFaultClear, O.motorSpeedCommand, O.motorFaultClear, O.brakeFaultClear] →
    (s.asked f).rangeExists (reqIndex f) (reqSub f) (reqCount f) = (0, reqSub f) →
    (if reqTagged f then State.tagCheck (s.asked f) f (reqData f) ((s.asked f).shortStatus (reqIndex f) (reqSub f)) fun _ => true
      else (s.asked f, 0)) = (u, 0) →
    (reqIndex f ≠ O.weldClear ∨ u.authOk (reqFrom f (reqTagged f)) = true) →
    (u.berthState = 3 ∨ u.berthState = 4 ∨ u.berthState = 5) →
    exec (.qlpWrite f) s = .next (u.answer f 0x0205 (reqSub f)))

/-! ### Requests (chapters 9 and 10) -/

/-- R325: a READ or a complete WRITE of index 0xF000 to 0xFFFF is answered 0x0101 in every life-cycle state. -/
def Obligations.TestIndicesAnswer0101 : Prop :=
  ∀ (s : State) (f : QlpFrame), 0xF000 ≤ reqIndex f → s.fresh f →
    (s.admits f 1 → exec (.qlpRead f) s = .next ((s.asked f).answer f 0x0101 (reqSub f))) ∧
    (s.admits f 2 → (reqSegmented f = false ∨ 12 + reqLen f ≤ f.msg.length) →
      exec (.qlpWrite f) s = .next (State.answer
        (if reqTagged f then
          (State.tagCheck (s.asked f) f (reqData f) ((s.asked f).shortStatus (reqIndex f) (reqSub f)) fun _ => true).1
          else s.asked f) f 0x0101 (reqSub f))) ∧
    (∀ (u : State) (data : List Byte) (ok : Session → Bool), ∃ v : State, u.writeRun f data ok = v.answer f 0x0101 (reqSub f))

/-- R292: the last 8 responses of each link are kept: a response is kept behind the newest 7 before it on its link, and the other
links' stay; a request matches exactly where a kept one of its link, of less than 2 s ago, has its source, destination, SEQ and
payload, and is then answered with it and not executed again; one with the SEQ of an open segmented transfer of the same source
is refused with 0x0606. -/
def Obligations.RetransmissionsAnsweredOnce : Prop :=
  (∀ (s : State) (f : QlpFrame) (r : Reply) (sent : List Byte) (l : Nat), (s.qlp.kept.filter fun k => k.link == l).length ≤ 8 →
    ((s.keepResponse f r sent).qlp.kept.filter fun k => k.link == l).length ≤ 8) ∧
  (∀ (s : State) (f : QlpFrame) (r : Reply) (sent : List Byte), ∃ k : KeptResp,
    k.link = f.link.val ∧ k.src = f.src ∧ k.dest = f.dest ∧ k.seq = f.seq ∧ k.request = f.msg ∧ k.response = sent ∧ k.at' = s.mono ∧
    (let mine := s.qlp.kept.filter fun x => x.link == f.link.val
     (s.keepResponse f r sent).qlp.kept.filter (fun x => x.link == f.link.val) = mine.drop (mine.length - 7) ++ [k]) ∧
    ∀ l, l ≠ f.link.val →
      (s.keepResponse f r sent).qlp.kept.filter (fun x => x.link == l) = s.qlp.kept.filter fun x => x.link == l) ∧
  (∀ (s : State) (f : QlpFrame) (st sub : Nat) (stamps : List (Nat × Nat)) (data : List Byte), ∃ r : Reply,
    (s.answer f st sub stamps data).qlp.kept = (s.keepResponse f r r.bytes).qlp.kept) ∧
  (∀ (s : State) (f : QlpFrame) (k : KeptResp), s.keptFor f = some k →
    k ∈ s.qlp.kept ∧ k.link = f.link.val ∧ k.src = f.src ∧ k.dest = f.dest ∧ k.seq = f.seq ∧ k.request = f.msg ∧
      s.mono < k.at' + 2000000) ∧
  (∀ (s : State) (f : QlpFrame) (k : KeptResp), k ∈ s.qlp.kept → k.link = f.link.val → k.src = f.src → k.dest = f.dest →
    k.seq = f.seq → k.request = f.msg → s.mono < k.at' + 2000000 → (s.keptFor f).isSome = true) ∧
  (∀ (s : State) (f : QlpFrame) (op : Nat) (c : Instr) (age : Nat),
    (op, c) ∈ [(1, .qlpRead f), (2, .qlpWrite f), (0x10, .sessionOpen f), (0x11, .sessionAuth f), (0x12, .sessionClose f),
      (0x20, Sys2Proof.Instr.timeSet f age)] → s.admits f op →
    (∀ k, (s.asked f).keptFor f = some k → exec c s = .next ((s.asked f).sendResponse f k.response)) ∧
    ((s.asked f).keptFor f = none →
      ((s.asked f).qlp.transfers.any fun t => t.link == f.link.val && t.src == f.src && t.seq == f.seq) = true →
      exec c s = .next ((s.asked f).answer f 0x0606 (reqSub f))))

/-- R420: in RETIRED every request but a READ of what R420 names is answered 0x0405. -/
def Obligations.RetiredAnswers0405 : Prop :=
  ∀ (s : State) (f : QlpFrame) (age : Nat), s.fresh f → (s.asked f).lifecycle = 4 → reqIndex f < 0xF000 →
    (s.admits f 1 → ¬ (0x1000 ≤ reqIndex f ∧ reqIndex f ≤ 0x10FF) → reqIndex f ≠ O.tombstone →
      exec (.qlpRead f) s = .next ((s.asked f).answer f 0x0405 (reqSub f))) ∧
    (s.admits f 2 → exec (.qlpWrite f) s = .next ((s.asked f).answer f 0x0405 (reqSub f))) ∧
    (s.admits f 0x10 → exec (.sessionOpen f) s = .next ((s.asked f).answer f 0x0405 (reqSub f))) ∧
    (s.admits f 0x11 → exec (.sessionAuth f) s = .next ((s.asked f).answer f 0x0405 (reqSub f))) ∧
    (s.admits f 0x12 → exec (.sessionClose f) s = .next ((s.asked f).answer f 0x0405 (reqSub f))) ∧
    (s.admits f 0x20 → exec (.timeSet f age) s = .next ((s.asked f).answer f 0x0405 (reqSub f)))

/-- R286: a message of up to 64 bytes enters a CAN channel's FIFO padded with 0x00 to the next valid FD data length; on
reception padding is ignored. -/
def Obligations.MessagesArePadded : Prop :=
  (∀ (s : State) (link : Nat) (o : Out), link < 2 → ((s.txPush link o).can link).fifo = (s.can link).fifo ++ [o.padded]) ∧
  (∀ o : Out, o.payload.length ≤ 64 →
    o.padded.payload.length ∈ [0, 1, 2, 3, 4, 5, 6, 7, 8, 12, 16, 20, 24, 32, 48, 64] ∧
    (∀ n ∈ [0, 1, 2, 3, 4, 5, 6, 7, 8, 12, 16, 20, 24, 32, 48, 64], o.payload.length ≤ n → o.padded.payload.length ≤ n) ∧
    ∃ k, o.padded.payload = o.payload ++ List.replicate k 0) ∧
  (∀ (f : QlpFrame) (k : Nat), 12 + reqLen f ≤ f.msg.length → reqData { f with msg := f.msg ++ List.replicate k 0 } = reqData f)

/-- R285, R311: every field of a sent frame's identifier (Table 9-2) or datagram header (Table 9-13) is read back as it was
written, and the header passes the checks of R311 and R317. -/
def Obligations.FrameHeadersReadBack : Prop :=
  ∀ (f : QlpFrame) (prio cls dest src seq : Nat), prio < 8 → cls < 64 → dest < 128 → src < 128 → seq < 64 →
    (f.link.val < 2 → f.ident = canId prio cls dest src seq →
      f.prio = prio ∧ f.cls = cls ∧ f.dest = dest ∧ f.src = src ∧ f.seq = seq ∧ f.ident < 2 ^ 29) ∧
    (2 ≤ f.link.val → f.msg.length < 65536 → f.head = datagramHead prio cls dest src seq f.msg.length →
      f.prio = prio ∧ f.cls = cls ∧ f.dest = dest ∧ f.src = src ∧ f.seq = seq ∧ badDatagram f = false ∧ reservedSet f = false)

/-! ### Stored layouts -/

/-- Table 12-1, Table 12-2, Table 12-4, Table 13-6: a log record takes 4 × LEN bytes, starts with SYNC, LEN, FLAGS and
PAYLOAD_LEN, carries its sequence, time, code, source, REPEAT, LAST and payload where the table says, is filled with 0x00 and ends
with the CRC-32 of the bytes before; a page whose records fit takes 4,096 bytes, starts with MAGIC, generation, first sequence and
their CRC-32, holds its records from byte 16 and reads 0xFF after them; a journal record takes whole units of 16 bytes, starts with
SYNC, KIND, INSTANCE and two bytes of 0, and ends with the CRC-32 of the bytes before, with 0xFF after it. -/
def Obligations.StoredLayouts : Prop :=
  (∀ r : LogRec, r.payload.length ≤ 228 →
    r.bytes.length = 4 * r.units ∧ byteAt r.bytes 0 = 0xA5 ∧ leAt r.bytes 1 1 = r.units ∧ leAt r.bytes 4 4 = r.seq % 2 ^ 32 ∧
      bit (leAt r.bytes 2 1) 4 = r.internal ∧ bit (leAt r.bytes 2 1) 3 = r.latch ∧ bit (leAt r.bytes 2 1) 2 = r.trip ∧
      bits (leAt r.bytes 2 1) 1 0 = r.sev % 4 ∧ bits (leAt r.bytes 2 1) 7 5 = 0 ∧ leAt r.bytes 3 1 = r.payload.length ∧
      leAt r.bytes 8 8 = r.time % 2 ^ 64 ∧ leAt r.bytes 16 2 = r.code % 2 ^ 16 ∧ leAt r.bytes 18 2 = r.source % 2 ^ 16 ∧
      leAt r.bytes 20 2 = r.repeat' % 2 ^ 16 ∧ leAt r.bytes 22 2 = r.last % 2 ^ 16 ∧
      (r.bytes.drop 24).take r.payload.length = r.payload ∧
      (∀ k, 24 + r.payload.length ≤ k → k < 4 * r.units - 4 → byteAt r.bytes k = 0) ∧
      leAt r.bytes (4 * r.units - 4) 4 = crc32 (r.bytes.take (4 * r.units - 4))) ∧
  (∀ p : LogPage, p.used ≤ 4080 →
    p.bytes.length = 4096 ∧ leAt p.bytes 0 4 = 0x31484251 ∧ leAt p.bytes 4 4 = p.gen % 2 ^ 32 ∧
      leAt p.bytes 8 4 = p.first % 2 ^ 32 ∧ leAt p.bytes 12 4 = crc32 (p.bytes.take 12) ∧
      (p.bytes.drop 16).take p.used = p.recs.flatMap LogRec.bytes ∧
      ∀ k, 16 + p.used ≤ k → k < 4096 → byteAt p.bytes k = 0xFF) ∧
  (∀ (r : JRec) (kind inst : Nat), kind < 256 → inst < 256 → r.payload.length + 28 < 2 ^ 32 →
    let b := r.bytes kind inst
    let n := r.payload.length + 28
    b.length % 16 = 0 ∧ n ≤ b.length ∧ leAt b 0 4 = 0x314A4251 ∧ leAt b 4 1 = kind ∧ leAt b 5 1 = inst ∧ leAt b 6 2 = 0 ∧ leAt b 8 4 = n ∧
      leAt b 12 4 = r.seq % 2 ^ 32 ∧ leAt b 16 8 = r.time % 2 ^ 64 ∧ (b.drop 24).take r.payload.length = r.payload ∧
      leAt b (n - 4) 4 = crc32 (b.take (n - 4)) ∧ ∀ k, n ≤ k → k < b.length → byteAt b k = 0xFF)

/-! ### Events, tally and chain -/

/-- R38, R39, R322: a write of a routing word: 0x0203 for a locked source; 0x0305 for a reserved bit; 0x0401 while a string is
not open; 0x0301 for a string that the QB1024 lacks; else the word is stored with its bit 0 clear. -/
def Obligations.RoutingWordWrites : Prop :=
  ∀ (s : State) (req : Req) (source : Byte) (value : BitVec 32), s.canonical → s.takesWrite req O.eventRoute source.toNat →
    (sourceLocked source.toNat = true →
      exec (.eventRouteWrite req source value) s = .next ((s.tagSeen req).answerW req O.eventRoute source.toNat 0x0203)) ∧
    (sourceLocked source.toNat = false → (bits value.toNat 31 20 ≠ 0 ∨ bits value.toNat 7 1 ≠ 0) →
      exec (.eventRouteWrite req source value) s = .next ((s.tagSeen req).answerW req O.eventRoute source.toNat 0x0305)) ∧
    (sourceLocked source.toNat = false → bits value.toNat 31 20 = 0 → bits value.toNat 7 1 = 0 →
      (s.allOpen = false →
        exec (.eventRouteWrite req source value) s = .next ((s.tagSeen req).answerW req O.eventRoute source.toNat 0x0401)) ∧
      (s.allOpen = true → s.variant = .qb1024 → bits value.toNat 19 18 ≠ 0 →
        exec (.eventRouteWrite req source value) s = .next ((s.tagSeen req).answerW req O.eventRoute source.toNat 0x0301)) ∧
      (s.allOpen = true → (s.variant = .qb2048 ∨ bits value.toNat 19 18 = 0) →
        ∃ t, exec (.eventRouteWrite req source value) s = .next t ∧
          t.el O.eventRoute source.toNat = [((value.toNat - value.toNat % 2 : Nat) : Int)]))

/-- R80: the tally index starts at 0 at the first tally after a start and counts modulo 2^32 from then on; two tally instants
lie one tally period apart. -/
def Obligations.TallyIndexCounts : Prop :=
  ∀ (s : State) (uv : Nat), s.running = true →
    (s.fw.ticking = false → ∃ t, exec (.tallyInstant uv) s = .next t ∧ t.fw.tally = 0 ∧ t.fw.ticking = true) ∧
    (s.fw.ticking = true → s.fw.tallyTime + s.fw.period ≤ s.now →
      ∃ t, exec (.tallyInstant uv) s = .next t ∧ t.fw.tally = (s.fw.tally + 1) % 4294967296 ∧
        t.fw.tallyTime = s.fw.tallyTime + s.fw.period) ∧
    (s.fw.ticking = true → s.now < s.fw.tallyTime + s.fw.period → exec (.tallyInstant uv) s = .next s)

/-- R101, Table 3-7: a cell with this tally's word is published without STALE and with STALE_COUNT 0; one without it with
STALE and its STALE_COUNT one higher, at most 7. -/
def Obligations.StaleCounts : Prop :=
  ∀ (s : State) (c : Nat),
    ((s.cell c).fresh = true → bit (s.cellFlagsOf c) 0 = false ∧ bits (s.cellFlagsOf c) 14 12 = 0) ∧
    ((s.cell c).fresh = false → bit (s.cellFlagsOf c) 0 = true ∧
      bits (s.cellFlagsOf c) 14 12 = min 7 (bits (s.gn O.cellFlags c) 14 12 + 1))

/-- R95: a judged cell word counts one exceedance where it lies beyond a limit and sets the count to 0 where it does not; no
other cell's counts change. -/
def Obligations.ExceedanceCounts : Prop :=
  ∀ (s : State) (c : Nat), s.canonical → (s.cell c).fresh = true →
    ((s.judgeGroup [c]).cell c).ov = (if s.gn O.cellOvTrip (cellRing c) ≤ (s.cell c).word then (s.cell c).ov + 1 else 0) ∧
    ((s.judgeGroup [c]).cell c).uv = (if (s.cell c).word ≤ s.gn O.cellUvTrip (cellRing c) then (s.cell c).uv + 1 else 0) ∧
    ∀ k, k ≠ c → (s.judgeGroup [c]).cell k = s.cell k

/-- R56: the check value of the CRC, and no reply is judged good whose last four bytes are not the CRC of what stands before
them, least significant byte first. -/
def Obligations.RepliesCarryTheirCrc : Prop :=
  crc32 [0x31, 0x32, 0x33, 0x34, 0x35, 0x36, 0x37, 0x38, 0x39] = 0xCBF43926 ∧
  ∀ (s : State) (r : Nat) (port sample : Bool) (f : List Byte) (hop pos : Nat) (b : Bool),
    s.judgeReply r port f sample = .good hop pos b →
    8 ≤ f.length ∧ leAt f (f.length - 4) 4 = crc32 (f.take (f.length - 4)) ∧ bit (byteAt f 0).toNat 6 = true ∧
      hop = (byteAt f 0).toNat % 64 ∧ b = bit (byteAt f 0).toNat 7 ∧ (byteAt f 3).toNat + 8 = f.length

/-! ### Outputs and safety -/

/-- R226: while safe-off is asserted for a driver's string, the power die refuses a request to energise the driver: the
refusal is reported and every output stays as it is. -/
def Obligations.SafeOffRefusesEnergise : Prop :=
  ∀ (s : State) (d : Fin 12), s.pd = true → s.safeOff (s.stringOf d.val) = true →
    ∃ t, exec (.outputRequest (.energise d)) s = .next t ∧ t.held s ∧ t.refused = s.refused ++ [.energise d]

/-- R193: a trip reset that names a string whose cause is still present is refused as a whole with 0x0412. -/
def Obligations.TripResetRefused : Prop :=
  ∀ (s : State) (req : Req) (mask : Byte) (n : Nat), s.takesWrite req O.tripReset 0 → mask.toNat < 16 →
    n < 4 → bit mask.toNat n = true → s.has n = true →
    (s.tagSeen req).tripCausePresent n = true →
    exec (.tripReset req mask) s = .next ((s.tagSeen req).answerW req O.tripReset 0 0x0412)

/-- R253: the thermal latch of a load switch sets and switches the channel off at once, and clears; no other channel's state
changes. -/
def Obligations.ThermalLatches : Prop :=
  ∀ (s : State) (n : Fin 16), s.canonical → s.pd = true →
    ((s.lsw n.val).latch = false → ∃ t, exec (.lsThermalLatchSet n) s = .next t ∧ (t.lsw n.val).latch = true ∧
      (t.lsw n.val).on = false ∧ ∀ k, k ≠ n.val → t.lsw k = s.lsw k) ∧
    ((s.lsw n.val).latch = true → ∃ t, exec (.lsThermalLatchClear n) s = .next t ∧ (t.lsw n.val).latch = false ∧
      ∀ k, k ≠ n.val → t.lsw k = s.lsw k)

/-- R274: above `VmotRampHoldLevel` every channel of the device holds its deceleration, 1 V below it none does, VMOT being what
the trimmed VMOT_S output reads (R439); and while a channel holds, its reference does not fall. -/
def Obligations.DecelerationHeld : Prop :=
  (∀ (s : State) (mV : Nat), s.canonical → s.pd = true → s.gn O.vmotRampHoldLevel 0 < s.converted 7 mV (s.gn O.vmotVoltage 0) →
    s.vmot.hold = false →
    ∃ t, exec (.vmotSample mV) s = .next t ∧ t.vmot.hold = true ∧ ∀ n ∈ s.strings, (t.mot n).decelHeld = true) ∧
  (∀ (s : State) (mV : Nat), s.canonical → s.pd = true → s.converted 7 mV (s.gn O.vmotVoltage 0) + 1000 < s.gn O.vmotRampHoldLevel 0 →
    s.vmot.hold = true →
    ∃ t, exec (.vmotSample mV) s = .next t ∧ t.vmot.hold = false ∧ ∀ n ∈ s.strings, (t.mot n).decelHeld = false) ∧
  (∀ (s t : State) (n : Fin 4) (x : Int), s.canonical → (s.mot n.val).decelHeld = true → exec (.motorSpeedLoop n x) s = .next t →
    (s.mot n.val).ref ≤ (t.mot n.val).ref)

/-! ### The pair, the supply, the life-cycle, the heat -/

/-- R25, R352: where both claims have been asserted together for 10 µs, or 100 µs at the device whose strap names it
preferred, the device withdraws its claim: `BERTH_OUT` low, the claim holding or locked out. -/
def Obligations.ConflictWithdraws : Prop :=
  ∀ s : State, s.pd = true → s.dup.mode ≠ 0 → s.dup.claim = .held → s.dup.berthIn = true →
    s.past s.dup.berthAt (if s.dup.pref then 100 else 10) = true →
    ∃ t, exec .claimConflictWithdraw s = .next t ∧ t.dup.out = false ∧ (t.dup.claim = .holding ∨ t.dup.claim = .lockout)

/-- R401: `DeviceResetCommand` is refused with 0x0406 while any contactor driver is energised; else a value other than 1 is
rejected with 0x0301, and 1 resets the compute die after the response. -/
def Obligations.DeviceResetCommand : Prop :=
  ∀ (s : State) (req : Req) (value : Nat), s.takesWrite req O.deviceResetCommand 0 →
    ((∃ d < 12, (s.drv d).energised = true) →
      exec (.deviceResetCommand req value) s = .next ((s.tagSeen req).answerW req O.deviceResetCommand 0 0x0406)) ∧
    ((∀ d < 12, (s.drv d).energised = false) → value ≠ 1 →
      exec (.deviceResetCommand req value) s = .next ((s.tagSeen req).answerW req O.deviceResetCommand 0 0x0301)) ∧
    ((∀ d < 12, (s.drv d).energised = false) → value = 1 →
      exec (.deviceResetCommand req value) s = .next (((s.tagSeen req).answerW req O.deviceResetCommand 0 0).cdReset 9) ∧
      (((s.tagSeen req).answerW req O.deviceResetCommand 0 0).cdReset 9).running = false)

/-- R403: `MooredCommand` 1 and 2 are accepted, except: 0x0405 in RETIRED; 0x0401 while a string is not open; 0x0411 while a
contactor opening test runs, and in the device of a pair that holds the berth while the duplex link is up; any other value
is rejected with 0x0301. -/
def Obligations.MooredCommandChecks : Prop :=
  (∀ (s : State) (req : Req) (dark : Bool), s.running = true → s.addressed req.dest = true → s.lifecycle = 4 →
    exec (if dark then .mooredDarkCommand req else .mooredWatchCommand req) s =
      .next ((s.tagSeen req).answerW req O.mooredCommand 0 0x0405)) ∧
  (∀ (s : State) (req : Req) (dark : Bool), s.takesWrite req O.mooredCommand 0 →
    (s.allOpen = false → exec (if dark then .mooredDarkCommand req else .mooredWatchCommand req) s =
      .next ((s.tagSeen req).answerW req O.mooredCommand 0 0x0401)) ∧
    (s.allOpen = true → (s.otest.string.isSome = true ∨ (s.dup.mode ≠ 0 ∧ s.dup.out = true ∧ s.dup.up = true)) →
      exec (if dark then .mooredDarkCommand req else .mooredWatchCommand req) s =
        .next ((s.tagSeen req).answerW req O.mooredCommand 0 0x0411)) ∧
    (s.allOpen = true → s.otest.string = none → s.pwr.mooring = .none →
      (s.dup.mode = 0 ∨ s.dup.out = false ∨ s.dup.up = false) →
      ∃ t, exec (if dark then .mooredDarkCommand req else .mooredWatchCommand req) s = .next t ∧
        t.pwr.mooring = (if dark then .enterDark else .enterWatch) ∧ ∃ r, t.qlp.reply = some r ∧ r.status = 0)) ∧
  (∀ (s : State) (v : Nat), v ≠ 1 → v ≠ 2 → s.allOpen = true → s.otest.string = none → s.pwr.mooring = .none →
    (s.dup.mode = 0 ∨ s.dup.out = false ∨ s.dup.up = false) → s.moor v = (s, 0x0301))

/-- R390: `LogClear` is refused, in this order: 0x0204 without the tag, 0x0405 outside COMMISSIONING and MAINTENANCE, 0x0404
while no flash operation may start, 0x0301 for a wrong confirmation code. -/
def Obligations.LogClearRefused : Prop :=
  ∀ (s : State) (req : Req) (code : BitVec 32), s.running = true → s.addressed req.dest = true → s.lifecycle ≠ 4 →
    (s.authOk req = false → exec (.logClear req code) s = .next ((s.tagSeen req).answerW req O.logClear 0 0x0204)) ∧
    (s.authOk req = true → s.lifecycle ≠ 1 → s.lifecycle ≠ 3 →
      exec (.logClear req code) s = .next ((s.tagSeen req).answerW req O.logClear 0 0x0405)) ∧
    (s.authOk req = true → (s.lifecycle = 1 ∨ s.lifecycle = 3) →
      (¬ (16000 ≤ s.pwr.vauxMv ∧ s.pwr.warning = false) →
        exec (.logClear req code) s = .next ((s.tagSeen req).answerW req O.logClear 0 0x0404)) ∧
      (16000 ≤ s.pwr.vauxMv → s.pwr.warning = false →
        code.toNat ≠ crc32 (le 4 s.log.gen ++ le 4 (s.tagSeen req).logOldest) →
        exec (.logClear req code) s = .next ((s.tagSeen req).answerW req O.logClear 0 0x0301)))

/-- R435: entry into stage 4 of the package gives every string of the device requested-open cause 4. -/
def Obligations.StageFourOpens : Prop :=
  ∀ s : State, s.canonical → s.running = true → s.pd = true → s.gn O.throttleStage 3 < 4 → 3 ≤ mget 0 (s.scope 3).hits 4 →
    ∃ t, exec (.throttleStageEnter 3 4) s = .next t ∧ t.gn O.throttleStage 3 = 4 ∧
      ∀ n ∈ s.strings, 4 ∈ (t.str n).causes

/-! ### Where every command completes -/

/-- The supervision commands of chapter 1 have their effect: lockstep, clock monitor, inter-die link, watchdog (completion: each command answers the next state that its rules give; spec/01_architecture.md). -/
def Obligations.CompletesSupervision : Prop :=
  ∀ s : State,
    (s.cd → exec .lockstepMismatch s = .next (s.cdResetFor 4 0xF1 0)) ∧
    (∀ (count1 count5 : Nat) (byDomain8 : Bool), s.pd → s.pwr.pll → exec (.clockMonitorGate count1 count5 byDomain8) s
      = .next ((s.gateBy byDomain8).judgeGate (s.gateFaults count1 count5 byDomain8))) ∧
    (∀ (count1 count5 : Nat) (byDomain8 : Bool), s.pd → s.pwr.pll → s.cd → s.pwr.holdClock = false → (s.gateFaults
      count1 count5 byDomain8 ≠ []) → ∃ t, exec (.clockMonitorGate count1 count5 byDomain8) s = .next t ∧ t.cd = false
      ∧ t.pwr.cause = 5 ∧ t.pwr.holdClock = true) ∧
    (∀ (count1 count5 : Nat), s.pd → s.pwr.pll → (s.gateFaults count1 count5 true = []) → exec (.clockMonitorGate
      count1 count5 true) s = .next
      ({ s with clk := { s.clk with fallback8 := false, faulty1 := false, faulty5 := false, clockGoodSince := some (s.clk.clockGoodSince.getD s.mono) } })) ∧
    (∀ (since : Nat), s.clk.clockGoodSince = some since → s.pwr.holdClock → s.past since 10000 → exec
      .clockFaultRelease s = .next (State.releaseIfFree
      { s with pwr := { s.pwr with holdClock := false }, clk := { s.clk with clockGoodSince := none } })) ∧
    (s.pd → s.clk.fallback8 = false → exec .domain8Loss s = .next (State.raise
      { s with clk := { s.clk with fallback8 := true } } 0xE4 0)) ∧
    (∀ (f : LinkFrame), s.pd → frameIntact f → f.seq = s.linkP.next → f.type ≠ Config.linkTypeResend → exec
      (.interdieFrameReceived true f) s = .next
      ({ s with linkP := { s.linkP with next := s.linkP.next + 1, await := false, bad := 0, lastValid := s.mono, delivered := some f } })) ∧
    (∀ (f : LinkFrame), s.cd → frameIntact f → f.seq = s.linkC.next → f.type ≠ Config.linkTypeResend → exec
      (.interdieFrameReceived false f) s = .next
      ({ s with linkC := { s.linkC with next := s.linkC.next + 1, await := false, bad := 0, lastValid := s.mono, delivered := some f } })) ∧
    (s.pd → s.past s.linkP.lastValid 50 → exec (.interdieLinkTimeout true) s = .next
      ({ s with linkP := { s.linkP with lost := true } })) ∧
    (s.cd → s.linkC.lost = false → s.past s.linkC.lastValid 50 → exec (.interdieLinkTimeout false) s = .next
      (State.raise { s with linkC := { s.linkC with lost := true }, wd := { s.wd with stopped := true } } 0xE9 1)) ∧
    (s.pd → s.past s.linkP.sentAt 10 → exec (.interdieIdleSend true) s = .next
      ({ s with linkP := s.linkP.sendNext s.mono })) ∧
    (s.cd → s.past s.linkC.sentAt 10 → exec (.interdieIdleSend false) s = .next
      ({ s with linkC := s.linkC.sendNext s.mono })) ∧
    (∀ (k : Fin 4) (value : Byte) (at9 : Nat), s.pd → s.cd → s.wd.stopped = false → s.linkP.lost = false → s.wd.bad =
      false → k.val = s.wd.answers → value = Config.watchdogAnswer s.wd.question k → ((k.val < 3 ↔ at9 < s.wd.windowMs
      * 750)) → exec (.watchdogAnswer k value at9) s = .next (State.sayC
      { s with wd := { s.wd with answers := s.wd.answers + 1 } } 1 (3 * k.val + 2))) ∧
    (s.pd → s.past s.wd.windowAt (s.wd.windowMs * 950) → s.wd.answers = 4 → s.wd.bad = false → exec .watchdogWindowEnd
      s = .next s.goodWindow.newWindow) ∧
    (s.pd → s.cd → s.wd.trusted = false → s.past (max (max s.wd.absentSince s.pwr.cdSince) s.pwr.escalatedAt) 1000000
      → ∃ t, exec .watchdogEscalation s = .next t ∧ t.cd = false ∧ t.pwr.cause = 7 ∧ t.pwr.escalatedAt = s.mono)

/-- Output requests and hardware trips at the power die have their effect (chapter 1) (completion: each command answers the next state that its rules give; spec/01_architecture.md). -/
def Obligations.CompletesPowerDie : Prop :=
  ∀ s : State,
    (∀ (d : Fin 12), s.pd → s.mayEnergise d.val → s.yields d.val = false → exec (.outputRequest (.energise d)) s =
      .next (((s.drvOn d.val).drvUpd d.val fun v =>
      { v with closeReqAt := some (s.commandFrame, s.mono) }).outputDone)) ∧
    (∀ (d : Fin 12), s.pd → (s.mayEnergise d.val = false ∨ s.yields d.val) → exec (.outputRequest (.energise d)) s =
      .next (s.refuseOut (.energise d))) ∧
    (∀ (d : Fin 12), s.pd → s.trusts → s.berthOk → s.safeOff (s.stringOf d.val) = false → s.nearFrame (s.drv
      d.val).closeReqAt = false → exec (.outputRequest (.deenergise d)) s = .next (((s.drvOff d.val).drvUpd d.val fun
      v => { v with openReqAt := some (s.commandFrame, s.mono) }).outputDone)) ∧
    (∀ (d : Fin 12), s.pd → (s.trusts = false ∨ s.berthOk = false ∨ s.safeOff (s.stringOf d.val)) → exec
      (.outputRequest (.deenergise d)) s = .next (s.refuseOut (.deenergise d))) ∧
    (∀ (n : Fin 16) (mode duty freq : Nat), s.pd → s.trusts → s.berthOk → s.quiet = false → exec (.outputRequest
      (.loadSwitch n mode duty freq)) s = .next ((s.lsApply n.val mode duty freq).outputDone)) ∧
    (∀ (n : Fin 4) (rpm : Nat), s.pd → s.has n.val → s.trusts → s.berthOk → s.quiet = false → exec (.outputRequest
      (.motor n rpm)) s = .next ((s.mdApply n.val rpm).outputDone)) ∧
    (∀ (n : Fin 16), s.pd → s.trusts → s.berthOk → exec (.outputRequest (.lsClear n)) s = .next ((s.lsClear
      n.val).outputDone)) ∧
    (∀ (n : Fin 4), s.pd → s.has n.val → s.trusts → s.berthOk → exec (.outputRequest (.motorClear n)) s = .next
      ((s.mdClear n.val).outputDone)) ∧
    (s.pd → s.trusts → s.berthOk → exec (.outputRequest .brakeClear) s = .next (State.outputDone
      { s with vmot := { s.vmot with faulty := false } })) ∧
    (∀ (string : Fin 4), s.pd → s.has string.val → s.tripsCount → ((s.ev.latched.find? fun l => bit l.word (16 +
      string.val)) = none) → exec (.tripOpenRequest string) s = .next ((s.tripStringOff string.val).strUpd string.val
      fun x => { x with tripBlock := true })) ∧
    (∀ (string : Fin 4) (l : Latch), s.pd → s.cd → s.has string.val → s.tripsCount → ((s.ev.latched.find? fun l => bit
      l.word (16 + string.val)) = some l) → s.seqState string.val ≠ 9 → exec (.tripOpenRequest string) s = .next
      ((State.tripString ((s.tripStringOff string.val).strUpd string.val fun x => { x with tripBlock := true })
      string.val l.src l.inst)))

/-- Event evaluation, routing, memory errors and commits to flash have their effect (chapter 1) (completion: each command answers the next state that its rules give; spec/01_architecture.md). -/
def Obligations.CompletesEventsAndStores : Prop :=
  ∀ s : State,
    (s.running → exec .eventMatrixEvaluate s = .next s.matrixEvaluate) ∧
    (∀ (req : Req) (source : Byte) (value : BitVec 32), s.takesWrite req O.eventRoute source.toNat → sourceLocked
      source.toNat = false → bits value.toNat 31 20 = 0 → bits value.toNat 7 1 = 0 → s.allOpen → (s.variant = .qb2048
      ∨ bits value.toNat 19 18 = 0) → exec (.eventRouteWrite req source value) s = .next (((s.tagSeen req).put
      O.eventRoute source.toNat ((value.toNat / 2 * 2 : Nat) : Int)).answerW req O.eventRoute source.toNat 0)) ∧
    (∀ (req : Req) (value : BitVec 16), s.takesWrite req O.eventAcknowledge 0 → value.toNat < 256 → s.tripField
      value.toNat = 0 → exec (.eventAcknowledge req value) s = .next ((State.unlatch (s.tagSeen req) fun l => l.src ==
      value.toNat).answerW req O.eventAcknowledge 0 0)) ∧
    (∀ (area : Fin 7) (uncorrectable : Bool) (item : Nat), s.running → uncorrectable = false → exec (.sramEccError
      area uncorrectable item) s = .next (s.bump O.sramEccCount 0)) ∧
    (∀ (area : Fin 7) (uncorrectable : Bool) (item : Nat), s.running → uncorrectable → area.val ≠ 4 → exec
      (.sramEccError area uncorrectable item) s = .next (((s.bump O.sramEccCount 1).raise 0xF0 area.val).eccAction
      area.val item)) ∧
    (∀ (area : Fin 7) (uncorrectable : Bool) (item : Nat), s.running → uncorrectable → area.val = 4 → ∃ t, exec
      (.sramEccError area uncorrectable item) s = .next t ∧ t.cd = false ∧ t.pwr.cause = 6 ∧ (0xF0, 4) ∈
      t.pwr.reasons) ∧
    (∀ (set : Fin 4), s.running → set.val ∈ s.fab.reloading → exec (.tableSetReloadDone set) s = .next (s.loadTable
      set.val)) ∧
    (∀ (set : Fin 4), s.running → set.val ∈ s.fab.reloading → exec (.tableSetLoadDone set) s = .next (s.loadTable
      set.val)) ∧
    (∀ (string : Fin 4) (worn : Bool), s.running → s.inManifest string.val → s.flashOk → s.journalDoomed (journalBytes
      (s.learnedPayload string.val)) = none → s.past (mget 0 s.flash.learnedAt string.val) 3600000000 → ∃ t, exec
      (.learnedDataCommit string worn) s = .next t ∧ t.flash.learnedAt = mset 0 s.flash.learnedAt string.val s.mono ∧
      t.flash.jseq = s.flash.jseq + 1) ∧
    (∀ (string : Fin 4) (worn : Bool), s.running → mhas s.flash.weldDirty string.val → s.flashOk → s.journalDoomed
      (journalBytes (s.learnedPayload string.val)) = none → ∃ t, exec (.weldStateCommit string worn) s = .next t ∧
      t.flash.weldDirty = mdel s.flash.weldDirty string.val ∧ t.flash.jseq = s.flash.jseq + 1)

/-- The commands of a ring's lanes, trains and idle slots have their effect (chapter 2) (completion: each command answers the next state that its rules give; spec/02_quay_chain.md). -/
def Obligations.CompletesChainLinks : Prop :=
  ∀ s : State,
    (∀ (ring : Fin 4) (loss : LaneLoss), s.cd → s.has ring.val → s.nMon ring.val ≠ 0 → s.ownsEnd loss.bEnd → (if
      loss.bEnd then (s.ring ring.val).lostB else (s.ring ring.val).lostA) = false → laneGone loss.seen → exec
      (.laneLost ring loss) s = .next (((s.ringUpd ring.val fun x => if loss.bEnd then
      { x with lostB := true, lostAtB := s.mono } else { x with lostA := true, lostAtA := s.mono }).bump
      O.chainErrorCount (ring.val * 8 + 7)).portBroken ring.val (if loss.bEnd then s.nMon ring.val else 0))) ∧
    (∀ (ring : Fin 4) (v : LaneValid), s.cd → (if v.bEnd then (s.ring ring.val).lostB else (s.ring ring.val).lostA) =
      true → 10000 ≤ v.validUs → s.past (if v.bEnd then (s.ring ring.val).lostAtB else (s.ring ring.val).lostAtA)
      10000 → exec (.laneRestored ring v) s = .next ((if s.running && s.directs then (s.ringUpd ring.val fun x => if
      v.bEnd then { x with lostB := false } else { x with lostA := false }).rejoin ring.val else s.ringUpd ring.val
      fun x => if v.bEnd then { x with lostB := false } else { x with lostA := false }))) ∧
    (∀ (ring : Fin 4) (bEnd : Bool) (t : Train), s.running → (s.ring ring.val).train bEnd = some t → exec
      (.trainEotReturned ring bEnd) s = .next (s.trainDone ring.val bEnd t)) ∧
    (∀ (ring : Fin 4) (bEnd : Bool) (t : Train), s.running → (s.ring ring.val).train bEnd = some t → s.past t.at'
      (s.trainTime ring.val bEnd t + 50) → exec (.trainTimeout ring bEnd) s = .next ((if s.directs then s.chainError
      ring.val 5 (some 1) (s.faultPos ring.val) else s).trainDone ring.val bEnd t)) ∧
    (∀ (ring : Fin 4) (b : Bool) (f : List Byte), s.running → s.directs → s.has ring.val → (s.gn O.chainRingState
      ring.val = 2 ∨ s.gn O.chainRingState ring.val = 3 ∨ s.gn O.chainRingState ring.val = 4) → s.returnDiffers
      ring.val (.command b f) → exec (.returnPathCheck ring (.command b f)) s = .next (s.chainError ring.val 1 (some
      0xD) (s.faultPos ring.val))) ∧
    (∀ (ring : Fin 4) (ns : Nat) (seq check : Byte), s.running → s.directs → s.has ring.val → ((s.ring
      ring.val).broken = []) → (s.gn O.chainRingState ring.val = 2 ∨ s.gn O.chainRingState ring.val = 3) →
      s.returnDiffers ring.val (.trigger s.headB ns seq check) = false → exec (.returnPathCheck ring (.trigger s.headB
      ns seq check)) s = .next (s.triggerBack ring.val ns)) ∧
    (∀ (ring : Fin 4) (ns : Nat) (seq check : Byte), s.running → s.directs → s.has ring.val → ((s.ring
      ring.val).broken = []) → s.gn O.chainRingState ring.val = 3 → s.returnDiffers ring.val (.trigger s.headB ns seq
      check) = false → (s.ring ring.val).wantR = 0 → (s.ring ring.val).remeasure = .none → (ns - s.portNs ring.val
      s.headB ≤ s.gn O.ringRoundTrip ring.val + 200) → (s.gn O.ringRoundTrip ring.val ≤ ns - s.portNs ring.val s.headB
      + 200) → exec (.returnPathCheck ring (.trigger s.headB ns seq check)) s = .next ((s.ringUpd ring.val fun x =>
      { x with drift := 0 }))) ∧
    (∀ (ring : Fin 4), s.running → s.directs = false → s.has ring.val → exec (.returnPathCheck ring .holder) s = .next
      (s.holderHeard ring.val)) ∧
    (∀ (ring : Fin 4) (b : Bool) (f : List Byte), s.running → s.directs = false → s.has ring.val → exec
      (.returnPathCheck ring (.command b f)) s = .next (s.forward ring.val b f)) ∧
    (∀ (ring : Fin 4) (bEnd : Bool) (t : Train) (queued : Bool), s.running → s.has ring.val → (s.nextLaunch ring.val
      bEnd = some (t, queued)) → s.mayLaunch ring.val bEnd t → (∀ u, s.rejoinMate ring.val bEnd t = some u →
      s.mayLaunch ring.val (!bEnd) u = true) → exec (.idleSlotLaunch ring bEnd) s = .next (s.launchSlot ring.val bEnd
      t queued)) ∧
    (∀ (ring : Fin 4) (bEnd : Bool) (hop : Fin 32), s.running → s.has ring.val → (s.ring ring.val).sweeping →
      (s.directs ∨ (s.ring ring.val).takeover) → hop.val < s.nMon ring.val → mhas (s.ring ring.val).copies (s.posOf
      ring.val bEnd hop.val) = false → (s.ring ring.val).declareKey bEnd hop.val ∉ (s.ring ring.val).declared →
      s.hopLate ring.val bEnd hop.val → exec (.hopMissing ring bEnd hop) s = .next (s.hopMissing ring.val bEnd
      hop.val)) ∧
    (∀ (ring : Fin 4) (pos : Fin 32), s.running → ((s.mon (monKey ring.val pos.val)).challenge ≠ []) → (s.mon (monKey
      ring.val pos.val)).challengeAt ≠ 0 → s.past (s.mon (monKey ring.val pos.val)).challengeAt 1000 → (s.endOf
      ring.val pos.val).isSome → exec (.authReadDue ring pos) s = .next ((s.monUpd (monKey ring.val pos.val) fun m =>
      { m with challengeAt := 0 }).queueTo ring.val pos.val 7 0x31 [])) ∧
    (∀ (ring : Fin 4) (pos : Fin 32), s.running → ((s.mon (monKey ring.val pos.val)).challenge ≠ []) → (s.mon (monKey
      ring.val pos.val)).challengeAt ≠ 0 → s.past (s.mon (monKey ring.val pos.val)).challengeAt 1000 → s.endOf
      ring.val pos.val = none → exec (.authReadDue ring pos) s = .next ((s.monUpd (monKey ring.val pos.val) fun m =>
      { m with challengeAt := 0 }).setAuth ring.val pos.val 3)) ∧
    (∀ (ring : Fin 4) (pos : Fin 32) (at' : Nat), s.running → (s.gn O.chainRingState ring.val = 2 ∨ s.gn
      O.chainRingState ring.val = 3 ∨ s.gn O.chainRingState ring.val = 4) → ((s.mon (monKey ring.val
      pos.val)).challenge = []) → (s.mon (monKey ring.val pos.val)).wrongAt = some at' → s.past at' 1000000 → exec
      (.authRetry ring pos) s = .next (s.authStart ring.val pos.val)) ∧
    (∀ (ring : Fin 4) (pos : Fin 32), s.running → (s.gn O.chainRingState ring.val = 3 ∨ s.gn O.chainRingState ring.val
      = 4) → pos.val < s.nMon ring.val → ((s.mon (monKey ring.val pos.val)).challenge = []) → turnDue s.fw.startedAt
      86400000000 (s.monitorTurn ring.val pos.val).1 (s.monitorTurn ring.val pos.val).2 (s.mon (monKey ring.val
      pos.val)).authAt s.mono → exec (.moduleAuthDue ring pos) s = .next (s.authStart ring.val pos.val)) ∧
    (∀ (ring : Fin 4), s.running → s.has ring.val → s.directs → s.nMon ring.val ≠ 0 → s.lifecycle ≠ 4 → (s.ring
      ring.val).asleep = false → s.mooring = false → (s.gn O.chainRingState ring.val = 0 ∨ (s.gn O.chainRingState
      ring.val = 1 ∧ s.past (s.ring ring.val).wakeAt 40000 = true)) → exec (.enumerationStart ring) s = .next
      (s.enumStart ring.val)) ∧
    (∀ (ring : Fin 4) (aIdle bIdle : Bool), s.running → (s.ring ring.val).enumStep = 2 → s.past (s.ring
      ring.val).enumAt 15000 → exec (.enumerationWaitDone ring aIdle bIdle) s = .next ((((s.enumEnter ring.val
      3).ringUpd ring.val fun x =>
      { x with split := !(aIdle && bIdle), foundA := [], foundB := [], lostA := x.lostA && !aIdle, lostB := x.lostB && !bIdle, trainA := none, trainB := none }).enumerateFrom
      ring.val false))) ∧
    (∀ (ring : Fin 4), s.running → (s.ring ring.val).mismatch → (s.seqState ring.val = 0 ∨ s.seqState ring.val = 9 ∨
      s.seqState ring.val = 10) → exec (.manifestMismatchReenumerate ring) s = .next (s.enumStart ring.val)) ∧
    (∀ (ring : Fin 4), s.running → s.directs → s.mooring = false → s.gn O.chainRingState ring.val = 1 → s.past (s.ring
      ring.val).wakeAt 40000 → exec (.chainWakeEnd ring) s = .next (s.enumStart ring.val))

/-- A monitor's reply, heard first and valid on a ring the device directs, has its effect (R76 and the rules of each reply) (completion: each command answers the next state that its rules give; spec/02_quay_chain.md). -/
def Obligations.CompletesChainReplies : Prop :=
  ∀ s : State,
    (∀ (ring : Fin 4) (bEnd : Bool) (frame : List Byte) (hop pos : Nat) (b : Bool), s.hearsReply ring.val bEnd frame
      hop pos b → exec (.ident ring bEnd frame) s = .next ((s.noteReply ring.val bEnd (b2n b * 32 + hop)
      frame).takeIdent ring.val pos b frame)) ∧
    (∀ (ring : Fin 4) (bEnd : Bool) (frame : List Byte) (t0 t1 hop pos : Nat) (b : Bool), s.hearsReply ring.val bEnd
      frame hop pos b → exec (.echoBack ring bEnd frame t0 t1) s = .next ((s.noteReply ring.val bEnd (b2n b * 32 +
      hop) frame).takeEcho ring.val pos b frame t0 t1)) ∧
    (∀ (ring : Fin 4) (bEnd : Bool) (frame : List Byte) (hop pos : Nat) (b : Bool), s.hearsReply ring.val bEnd frame
      hop pos b → exec (.configAck ring bEnd frame) s = .next ((s.noteReply ring.val bEnd (b2n b * 32 + hop)
      frame).takeConfigAck ring.val pos b frame)) ∧
    (∀ (ring : Fin 4) (bEnd : Bool) (frame : List Byte) (hop pos : Nat) (b : Bool), s.hearsReply ring.val bEnd frame
      hop pos b → exec (.status ring bEnd frame) s = .next ((s.noteReply ring.val bEnd (b2n b * 32 + hop)
      frame).takeStatus ring.val pos frame)) ∧
    (∀ (ring : Fin 4) (bEnd : Bool) (frame : List Byte) (hop pos : Nat) (b : Bool), s.hearsReply ring.val bEnd frame
      hop pos b → exec (.balAck ring bEnd frame) s = .next ((s.noteReply ring.val bEnd (b2n b * 32 + hop)
      frame).takeBalAck ring.val pos b frame)) ∧
    (∀ (ring : Fin 4) (bEnd : Bool) (frame : List Byte) (hop pos : Nat) (b : Bool), s.hearsReply ring.val bEnd frame
      hop pos b → exec (.openWireResult ring bEnd frame) s = .next ((s.noteReply ring.val bEnd (b2n b * 32 + hop)
      frame).takeOwResult ring.val pos frame)) ∧
    (∀ (ring : Fin 4) (bEnd : Bool) (frame : List Byte) (hop pos : Nat) (b : Bool), s.hearsReply ring.val bEnd frame
      hop pos b → exec (.authResult ring bEnd frame) s = .next ((s.noteReply ring.val bEnd (b2n b * 32 + hop)
      frame).takeAuthResult ring.val pos frame)) ∧
    (∀ (ring : Fin 4) (bEnd : Bool) (frame : List Byte) (hop pos : Nat) (b : Bool), s.hearsReply ring.val bEnd frame
      hop pos b → exec (.authMac ring bEnd frame) s = .next ((s.noteReply ring.val bEnd (b2n b * 32 + hop)
      frame).takeAuthMac ring.val pos b frame)) ∧
    (∀ (ring : Fin 4) (bEnd : Bool) (frame : List Byte) (hop pos : Nat) (b : Bool), s.hearsReply ring.val bEnd frame
      hop pos b → exec (.rejoinResult ring bEnd frame) s = .next ((s.noteReply ring.val bEnd (b2n b * 32 + hop)
      frame).takeRejoinResult ring.val pos b frame)) ∧
    (∀ (ring : Fin 4) (bEnd : Bool) (frame : List Byte) (hop pos : Nat) (b : Bool), s.running → s.has ring.val → s.gn
      O.chainRingState ring.val ≠ 0 → s.directs → s.judgeReply ring.val bEnd frame true = .good hop pos b → exec
      (.sample ring bEnd frame) s = .next ((s.takeSample ring.val bEnd b hop pos frame).forward ring.val bEnd frame))

/-- The tally's trigger, instant and period and the comparator sources have their effect (chapter 3) (completion: each command answers the next state that its rules give; spec/03_tally_acquisition.md). -/
def Obligations.CompletesTally : Prop :=
  ∀ s : State,
    (s.running → s.fw.triggered ≠ some s.nextTally → (s.fw.ticking = false ∨ s.fw.tallyTime + s.fw.period ≤ s.now +
      30) → exec .tallyTrigger s = .next s.trigger) ∧
    (∀ (busdetUv : Nat), s.running → s.instantTime ≤ s.now → exec (.tallyInstant busdetUv) s = .next (s.tallyInstant
      busdetUv)) ∧
    (∀ (ring : Fin 4) (number : Nat), s.running → s.has ring.val → cellRing number = ring.val → (s.cell number).ovDue
      → exec (.comparatorSourceRaise ring 0 number) s = .next ((State.raise (s.cellUpd number fun c =>
      { c with ovDue := false, ovRaised := true }) (0x40 + 4 * ring.val) (s.monitorOf number) (le 2 number ++ le 2
      (s.cell number).word)))) ∧
    (∀ (ring : Fin 4) (number : Nat), s.running → s.has ring.val → cellRing number = ring.val → (s.cell number).uvDue
      → exec (.comparatorSourceRaise ring 1 number) s = .next ((State.raise (s.cellUpd number fun c =>
      { c with uvDue := false, uvRaised := true }) (0x40 + 4 * ring.val + 1) (s.monitorOf number) (le 2 number ++ le 2
      (s.cell number).word)))) ∧
    (∀ (ring : Fin 4) (number : Nat), s.running → s.has ring.val → (number / 256 = ring.val) → (s.temp number).otDue →
      exec (.comparatorSourceRaise ring 2 number) s = .next ((State.raise (s.tempUpd number fun x =>
      { x with otDue := false, otRaised := true }) (0x40 + 4 * ring.val + 2) (number % 256 / 8) (le 2 number ++ leI 2
      (s.temp number).reading)))) ∧
    (∀ (ring : Fin 4) (number : Nat), s.running → s.has ring.val → (number / 256 = ring.val) → (s.temp number).utDue →
      exec (.comparatorSourceRaise ring 3 number) s = .next ((State.raise (s.tempUpd number fun x =>
      { x with utDue := false, utRaised := true }) (0x40 + 4 * ring.val + 3) (number % 256 / 8) (le 2 number ++ leI 2
      (s.temp number).reading)))) ∧
    (∀ (req : Req) (value : Nat), s.takesWrite req O.tallyPeriod 0 → s.allOpen → s.flashOk → s.periodOk value → exec
      (.tallyPeriodWrite req value) s = .next (((State.configRaise ((State.effects (s.tagSeen req) ((s.tagSeen
      req).put O.tallyPeriod 0 (value : Int))).saveImage) 0)).answerW req O.tallyPeriod 0 0)) ∧
    (∀ (v : Nat), s.running → s.fw.newPeriod = some v → (∀ r ∈ s.strings, s.gn O.chainRingState r ≠ 3 ∧ s.gn
      O.chainRingState r ≠ 4 ∨ ∀ p < s.nMon r, s.periodAcked r p = true) → s.fw.ticking = false → exec
      .tallyPeriodApply s = .next ({ s with fw := { s.fw with period := v, newPeriod := none } })) ∧
    (∀ (v : Nat), s.running → s.fw.newPeriod = some v → (∀ r ∈ s.strings, s.gn O.chainRingState r ≠ 3 ∧ s.gn
      O.chainRingState r ≠ 4 ∨ ∀ p < s.nMon r, s.periodAcked r p = true) → s.fw.ticking → exec .tallyPeriodApply s =
      .next ({ s with fw := { s.fw with periodReady := true } }))

/-- The commands of the current channels, the temperatures and a sweep's end have their effect (chapter 3) (completion: each command answers the next state that its rules give; spec/03_tally_acquisition.md). -/
def Obligations.CompletesAcquisition : Prop :=
  ∀ s : State,
    (∀ (string : Fin 4) (dsiBits : BitVec 20) (isaCode : BitVec 16), s.pd → s.has string.val → exec (.currentOutput
      string dsiBits isaCode) s = .next (s.takeCurrent string.val dsiBits isaCode)) ∧
    (∀ (string : Fin 4) (since : Nat), s.pd → s.has string.val → (s.chan (string.val * 2)).chargeSince = some since →
      (s.chan (string.val * 2)).chargeRaised = false → s.past since (s.gn O.fastPathDebounce 0) → ∃ t, exec
      (.fastPathDebounceExpiry string) s = .next t ∧ (t.chan (string.val * 2)).chargeRaised = true) ∧
    (∀ (string : Fin 4) (ch : Fin 2) (v : Int), s.running → s.pd → s.has string.val → s.fw.ticking → s.linkC.lost =
      false → ((s.chan (string.val * 2 + ch.val)).valueAt ((s.fw.tallyTime : Int) * 1000 + s.lag (string.val * 2 +
      ch.val)) = some v) → ∃ t, exec (.currentSampleDelivered string ch) s = .next t ∧ (t.chan (string.val * 2 +
      ch.val)).sample = v ∧ (t.chan (string.val * 2 + ch.val)).delivered = true) ∧
    (∀ (string : Fin 4), s.pd → s.has string.val → s.chanOn (string.val * 2) → ((s.chan (string.val * 2)).stuck ∨
      (s.chan (string.val * 2)).run = 128) → exec (.dsiStuckFault string) s = .next (((s.chanFault (string.val * 2)
      (0x54 + string.val)).chanUpd (string.val * 2) fun c =>
      { c with stuck := false, faultAt := if (s.chan (string.val * 2)).run = 128 then s.mono else (s.chan (string.val * 2)).faultAt }))) ∧
    (∀ (string : Fin 4), s.pd → s.has string.val → s.chanOn (string.val * 2 + 1) → exec (.isaRangeFault string) s =
      .next (s.chanFault (string.val * 2 + 1) (0x58 + string.val))) ∧
    (∀ (string : Fin 4) (ch : Fin 2), s.pd → (s.chan (string.val * 2 + ch.val)).fault → s.past (s.chan (string.val * 2
      + ch.val)).faultAt 100000 → exec (.currentFaultClear string ch) s = .next ((s.chanUpd (string.val * 2 + ch.val)
      fun c => { c with fault := false }))) ∧
    (∀ (string : Fin 4), s.running → s.has string.val → mget 0 s.fab.crossBad string.val = 100 → (s.chan (string.val *
      2)).disagree = false → ∃ t, exec (.crossCheckDisagree string) s = .next t ∧ (t.chan (string.val * 2)).disagree =
      true ∧ (t.chan (string.val * 2 + 1)).disagree = true) ∧
    (∀ (ring : Fin 4) (pos : Fin 32) (slot : Fin 10), s.running → s.has ring.val → pos.val < s.nMon ring.val → bit
      (s.slotMask ring.val pos.val) slot.val → slot.val = 8 → (s.mon (monKey ring.val pos.val)).dwellOver slot.val
      (s.slotDwell ring.val pos.val s.fw.period) → ((mget (0, 0) (s.mon (monKey ring.val pos.val)).dwell slot.val).2 ≠
      0) → exec (.tempDwellEnd ring pos slot) s = .next ((State.put (s.monUpd (monKey ring.val pos.val) fun m =>
      { m with dwell := mdel m.dwell slot.val }) O.moduleDieTemp (monKey ring.val pos.val) (roundQ (((mget (0, 0)
      (s.mon (monKey ring.val pos.val)).dwell slot.val).1 : Rat) / ((mget (0, 0) (s.mon (monKey ring.val
      pos.val)).dwell slot.val).2 : Rat)))))) ∧
    (∀ (ring : Fin 4) (pos : Fin 32) (input : Fin 8), s.running → s.fw.ticking → s.has ring.val → pos.val < s.nMon
      ring.val → input.val ∈ s.moduleInputs ring.val pos.val → (s.temp (tempKey ring.val pos.val
      input.val)).plausibleAt = none → exec (.tempStaleTimeout ring pos input) s = .next (((s.tempFlag (tempKey
      ring.val pos.val input.val) 0 true).tempUpd (tempKey ring.val pos.val input.val) fun x =>
      { x with lostSince := some (x.lostSince.getD s.mono) }))) ∧
    (∀ (ring : Fin 4), s.running → s.has ring.val → (s.ring ring.val).sweeping → s.fw.ticking → s.sweepOver ring.val →
      exec (.sweepComplete ring) s = .next (s.sweepComplete ring.val)) ∧
    (∀ (ring : Fin 4) (cell : Fin 512), s.running → s.has ring.val → cell.val < s.gn O.manifestCellCount ring.val → 4
      ≤ bits (s.gn O.cellFlags (ring.val * 512 + cell.val)) 14 12 → (s.cell (ring.val * 512 + cell.val)).staleRaised =
      false → exec (.staleTrip ring cell) s = .next ((State.raise (s.cellUpd (ring.val * 512 + cell.val) fun x =>
      { x with staleRaised := true }) (ringSource ring.val 7) (s.monitorOf (ring.val * 512 + cell.val)))))

/-- Balancing, the open-wire test and the transient capture have their effect (chapter 3) (completion: each command answers the next state that its rules give; spec/03_tally_acquisition.md). -/
def Obligations.CompletesDiagnosis : Prop :=
  ∀ s : State,
    (s.running → s.directs → (s.fw.balanceAt = 0 ∨ s.past s.fw.balanceAt 1000000 = true) → exec .balancePlan s = .next
      s.planBalance) ∧
    (∀ (ring : Fin 4) (cell : Fin 512), s.running → 3 ≤ (s.cell (ring.val * 512 + cell.val)).signature → s.nodeBad
      (ring.val * 512 + cell.val) = false → (s.nodeCells (ring.val * 512 + cell.val)).length = 2 → exec
      (.openWireSuspect ring cell) s = .next (s.suspectWire ring.val cell.val)) ∧
    (∀ (ring : Fin 4) (pos : Fin 32) (channel : Fin 18), s.running → s.directs → (s.gn O.chainRingState ring.val = 3 ∨
      s.gn O.chainRingState ring.val = 4) → (s.mon (monKey ring.val pos.val)).ow.active = false → ((s.mon (monKey
      ring.val pos.val)).ow.todo.head? = some channel.val) → pos.val < s.nMon ring.val → (s.endOf ring.val
      pos.val).isSome → exec (.openWireTestStart ring pos channel) s = .next (((s.monUpd (monKey ring.val pos.val) fun
      m =>
      { m with ow := { m.ow with active := true, sent := false, channel := channel.val, base := [], word := [], result := none, todo := m.ow.todo.drop 1 } }).queueTo
      ring.val pos.val (if (s.mon (monKey ring.val pos.val)).ow.purpose = 0 then 3 else 6) 0x21 (le 1 channel.val ++
      le 1 s.owDuration ++ le 1 ((s.fw.tally + 2) % 256))))) ∧
    (∀ (ring : Fin 4) (pos : Fin 32) (v : Nat), s.running → (s.mon (monKey ring.val pos.val)).ow.active → (s.mon
      (monKey ring.val pos.val)).ow.sent → (s.mon (monKey ring.val pos.val)).ow.result = some v → v ≠ 0 → exec
      (.openWireTestEvaluate ring pos) s = .next (s.owEvaluate ring.val pos.val)) ∧
    (∀ (ring : Fin 4) (pos : Fin 32), s.running → (s.mon (monKey ring.val pos.val)).ow.active → (s.mon (monKey
      ring.val pos.val)).ow.sent → (s.mon (monKey ring.val pos.val)).ow.result = some 0 → 3 + (s.mon (monKey ring.val
      pos.val)).ow.last ≤ tallyDiff (s.mon (monKey ring.val pos.val)).ow.tally (s.gn O.acqTallyIndex ring.val) →
      (tallyDiff (s.mon (monKey ring.val pos.val)).ow.tally (s.gn O.acqTallyIndex ring.val) < 2 ^ 31) → exec
      (.openWireTestEvaluate ring pos) s = .next (s.owEvaluate ring.val pos.val)) ∧
    (∀ (ring : Fin 4) (pos : Fin 32), s.running → (s.mon (monKey ring.val pos.val)).ow.active → (s.mon (monKey
      ring.val pos.val)).ow.sent → (s.mon (monKey ring.val pos.val)).ow.result = some 0 → 3 + (s.mon (monKey ring.val
      pos.val)).ow.last ≤ tallyDiff (s.mon (monKey ring.val pos.val)).ow.tally (s.gn O.acqTallyIndex ring.val) →
      (tallyDiff (s.mon (monKey ring.val pos.val)).ow.tally (s.gn O.acqTallyIndex ring.val) < 2 ^ 31) → (s.mon (monKey
      ring.val pos.val)).ow.purpose ≠ 1 → s.owClassify ring.val pos.val = .above → exec (.openWireTestEvaluate ring
      pos) s = .next ((s.monUpd (monKey ring.val pos.val) fun m =>
      { m with ow := { m.ow with active := false } }).owOpen ring.val pos.val ((s.mon (monKey ring.val
      pos.val)).ow.channel + 1))) ∧
    (∀ (ring : Fin 4) (pos : Fin 32), s.running → (s.retestChannels ring.val pos.val ≠ []) → (s.mon (monKey ring.val
      pos.val)).ow.active = false → ((s.mon (monKey ring.val pos.val)).ow.todo = []) → (s.mon (monKey ring.val
      pos.val)).owAt ≠ 0 → s.past (s.mon (monKey ring.val pos.val)).owAt 60000000 → exec (.openWireRetest ring pos) s
      = .next (((s.queueTest ring.val pos.val 0 (s.retestChannels ring.val pos.val)).monUpd (monKey ring.val pos.val)
      fun m => { m with owAt := s.mono }))) ∧
    (∀ (ring : Fin 4) (pos : Fin 32) (channel : Fin 18) (t0 : Nat), s.ready → pos.val < s.nMon ring.val → channel.val
      ∈ s.channels ring.val pos.val → (s.mon (monKey ring.val pos.val)).ow.active = false → ((s.mon (monKey ring.val
      pos.val)).ow.todo = []) → s.fw.readyAt = some t0 → turnDue t0 (s.gn O.openWirePeriod 0 * 1000000) (s.channelTurn
      ring.val pos.val channel.val).1 (s.channelTurn ring.val pos.val channel.val).2 (mget 0 (s.mon (monKey ring.val
      pos.val)).rotation channel.val) s.mono → exec (.openWireRotation ring pos channel) s = .next (((s.monUpd (monKey
      ring.val pos.val) fun m => { m with rotation := mins m.rotation channel.val s.mono }).queueTest ring.val pos.val
      1 [channel.val]))) ∧
    (∀ (req : Req) (value : BitVec 32), s.takesWrite req O.openWireRequest 0 → s.shotGate 0 value.toNat false = none →
      (value.toNat / 65536 ≠ 0) → (bits (value.toNat % 65536) 15 7 = 0) → (s.has (bits (value.toNat % 65536) 6 5)) →
      (bits (value.toNat % 65536) 4 0 < s.nMon (bits (value.toNat % 65536) 6 5)) → (s.gn O.chainRingState (bits
      (value.toNat % 65536) 6 5) ≠ 5) → s.ready → exec (.openWireRequest req value) s = .next ((State.shotStart
      (s.tagSeen req) 0 (value.toNat / 65536) (value.toNat % 65536)).answerW req O.openWireRequest 0 0)) ∧
    (∀ (q t : Nat), s.running → ((s.shot 0).pending = some (q, t)) → (s.mon (monKey (bits t 6 5) (bits t 4
      0))).ow.purpose = 2 → (s.mon (monKey (bits t 6 5) (bits t 4 0))).ow.active = false → ((s.mon (monKey (bits t 6
      5) (bits t 4 0))).ow.todo = []) → (s.mon (monKey (bits t 6 5) (bits t 4 0))).ow.nodes ≠ 0 → exec
      .openWireRequestDone s = .next (((s.shotDone 0 O.openWireResult [(q : Int), (t : Int), 1, ((s.mon (monKey (bits
      t 6 5) (bits t 4 0))).ow.nodes : Int)]).monUpd (monKey (bits t 6 5) (bits t 4 0)) fun m =>
      { m with ow := { m.ow with purpose := 0 } }))) ∧
    (∀ (req : Req) (value : Nat), s.takesWrite req O.captureArm 0 → value = 1 → exec (.captureArm req value) s = .next
      (({ ((forEach (List.range 8) (s.tagSeen req) fun s k => s.undo O.captureTriggerList k).undo O.captureTriggerCount 0).put O.captureState 0 1 with capture := {} }).answerW
      req O.captureArm 0 0)) ∧
    (∀ (req : Req) (value : Nat), s.takesWrite req O.captureTrigger 0 → value = 1 → exec (.captureTrigger req value) s
      = .next ((State.captureTrigger (s.tagSeen req) 0 (s.tagSeen req).now).answerW req O.captureTrigger 0 0)) ∧
    (s.running → s.gn O.captureState 0 = 2 → s.capture.left = 0 → exec .captureFreeze s = .next (s.put O.captureState
      0 3))

/-- The estimator fabric's commands have their effect (chapter 4) (completion: each command answers the next state that its rules give; spec/04_estimator_fabric.md). -/
def Obligations.CompletesFabric : Prop :=
  ∀ s : State,
    (∀ (eu : Fin 64) (i : Nat × Nat) (is : List (Nat × Nat)), s.cd → (mget [] s.fab.queues (euCluster eu.val) = i ::
      is) → (s.eu eu.val).retired = false → (s.eu eu.val).item = none → exec (.euWorkItemClaim eu) s = .next
      ((State.euUpd { s with fab := { s.fab with queues := mset [] s.fab.queues (euCluster eu.val) is } } eu.val fun e
      => { e with item := some i, claimRan := (s.region (eu.val / 32)).ran }))) ∧
    (∀ (eu : Fin 64) (residueOk : Bool) (n c : Nat), s.cd → ((s.eu eu.val).item = some (n, c)) → (s.eu eu.val).retired
      = false → residueOk = false → exec (.euUpdateComplete eu residueOk) s = .next ((s.cellTables n c).retireEu
      eu.val)) ∧
    (∀ (eu : Fin 64) (residueOk : Bool) (n c : Nat), s.cd → ((s.eu eu.val).item = some (n, c)) → (s.eu eu.val).retired
      = false → residueOk → s.euRan eu.val n c → exec (.euUpdateComplete eu residueOk) s = .next ((s.cellTables n
      c).writeBack eu.val n c)) ∧
    (∀ (eu : Fin 64), s.cd → (s.eu eu.val).retired = false → exec (.euHandshakeTimeout eu) s = .next (s.retireEu
      eu.val)) ∧
    (∀ (string : Fin 4), s.running → s.has string.val → s.deadlinePassed string.val → (s.epoch string.val).ending =
      .none → exec (.epochDeadline string) s = .next (s.endEpoch string.val .abandoned)) ∧
    (∀ (string : Fin 4), s.running → s.has string.val → s.deadlinePassed string.val → (s.epoch string.val).ending ≠
      .none → s.past (s.epoch string.val).endAt 20 → exec (.epochDeadline string) s = .next ((s.dropItems
      string.val).drained string.val)) ∧
    (∀ (string : Fin 4) (at' : Nat), s.running → s.has string.val → s.gn O.estimatorStringState string.val = 1 →
      (s.epoch string.val).publishedAt = some at' → at' + s.gn O.estimatorMaxAge string.val * 1000 < s.mono → exec
      (.estimationHeld string) s = .next ((s.put O.estimatorStringState string.val 3).raise (0x68 + string.val) 0)) ∧
    (∀ (region : Fin 2), s.running → (s.region region.val).load ≠ 0 → s.past (s.region region.val).okSince 10000000 →
      s.thermalStep region.val < (s.region region.val).load → s.gn O.estimatorRateLimit region.val < (s.region
      region.val).load → exec (.rateStepUp region) s = .next ((s.regionUpd region.val fun x =>
      { x with load := x.load - 1, okSince := s.mono }))) ∧
    (∀ (eu : Fin 64) (pass : Bool), s.cd → (s.eu eu.val).retired = false → (s.eu eu.val).item = none → (mget []
      s.fab.queues (euCluster eu.val) = []) → ((s.eu eu.val).katAt = none ∨ s.past ((s.eu eu.val).katAt.getD 0)
      1000000) → exec (.fabricKnownAnswerTest eu pass) s = .next ((if pass then ((s.euUpd eu.val fun e =>
      { e with katAt := some s.mono }).ranWork 4).addOps (eu.val / 32) (updateOps false) else (((s.euUpd eu.val fun e
      => { e with katAt := some s.mono }).ranWork 4).addOps (eu.val / 32) (updateOps false)).retireEu eu.val))) ∧
    (∀ (req : Req) (value : BitVec 32), s.takesWrite req O.fabricSelfTestRequest 0 → s.shotGate 1 value.toNat false =
      none → (value.toNat / 65536 ≠ 0) → (value.toNat % 65536 = 0) → s.selfTestRuns → exec (.fabricSelfTestRequest req
      value) s = .next ((State.shotStart (s.tagSeen req) 1 (value.toNat / 65536) 0).answerW req
      O.fabricSelfTestRequest 0 0)) ∧
    (∀ (failed : BitVec 64) (q x : Nat), s.running → ((s.shot 1).pending = some (q, x)) → s.selfTestRuns → (∀ e ∈
      s.testedEus, failed.getLsbD e = false) → exec (.fabricSelfTestDone failed) s = .next ((s.checkEus []).selfTested
      q 0 [])) ∧
    (∀ (req : Req) (set : Fin 4) (file : List Byte), s.takesWrite req O.modelTableFile set.val → s.allOpen → s.flashOk
      → tableCheck file = 0 → exec (.modelTableFileWrite req set file) s = .next ((((State.put (s.tagSeen req)
      O.tableSetLoadError set.val 0).storeTable set.val file).pauseSet set.val).answerW req O.modelTableFile set.val
      0))

/-- The estimator's timed commands and one-shot requests have their effect (chapter 5) (completion: each command answers the next state that its rules give; spec/05_state_estimation.md). -/
def Obligations.CompletesEstimation : Prop :=
  ∀ s : State,
    (∀ (string : Fin 4), s.running → s.has string.val → s.past (s.epoch string.val).windowAt 1000000 → exec
      (.currentPlausibilityWindow string) s = .next (s.plausibilityWindow string.val)) ∧
    (∀ (string : Fin 4) (at' : Nat), s.running → s.has string.val → (s.rest string.val).qualified = some at' → (s.rest
      string.val).formed = false → ((s.rest string.val).since = none ∨ s.past at' 14400000000 = true) → exec
      (.restPointFormed string) s = .next (s.formPoint string.val)) ∧
    (∀ (string : Fin 4) (us : Nat), s.running → s.has string.val → (s.epoch string.val).medianUs = some us → 60000000
      ≤ us → (s.epoch string.val).disagreement = false → exec (.stringDisagreementEnter string) s = .next
      (s.enterDisagreement string.val)) ∧
    (∀ (string : Fin 4), s.running → s.has string.val → (s.epoch string.val).disagreement → (s.epoch
      string.val).auditAgain → s.past (s.epoch string.val).auditAt 60000000 → exec (.channelAuditRepeat string) s =
      .next (s.channelAudit string.val)) ∧
    (∀ (req : Req) (value : BitVec 32), s.takesWrite req O.capLearnReportRequest 0 → s.shotGate 2 value.toNat false =
      none → (value.toNat / 65536 ≠ 0) → (bits (value.toNat % 65536) 15 2 = 0) → (s.has (value.toNat % 65536 % 4)) →
      s.ready → (s.gn O.chainRingState (value.toNat % 65536 % 4) ≠ 5) → exec (.capLearnReportRequest req value) s =
      .next ((State.shotStart (s.tagSeen req) 2 (value.toNat / 65536) (value.toNat % 65536)).answerW req
      O.capLearnReportRequest 0 0)) ∧
    (∀ (q t : Nat), s.running → ((s.shot 2).pending = some (q, t)) → s.shotRuns t → exec .capLearnReportDone s = .next
      (s.shotDone 2 O.capLearnReportResult ((q : Int) :: (t : Int) :: 0 :: s.capReport (t % 4)))) ∧
    (∀ (req : Req) (value : BitVec 32), s.takesWrite req O.impedanceSnapshotRequest 0 → s.shotGate 3 value.toNat false
      = none → (value.toNat / 65536 ≠ 0) → (bits (value.toNat % 65536) 15 2 = 0) → (s.has (value.toNat % 65536 % 4)) →
      s.ready → (s.gn O.chainRingState (value.toNat % 65536 % 4) ≠ 5) → exec (.impedanceSnapshotRequest req value) s =
      .next ((State.shotStart (s.tagSeen req) 3 (value.toNat / 65536) (value.toNat % 65536)).answerW req
      O.impedanceSnapshotRequest 0 0)) ∧
    (∀ (q t : Nat), s.running → ((s.shot 3).pending = some (q, t)) → s.past (s.shot 3).acceptedAt 600000000 →
      s.shotRuns t → exec .impedanceSnapshotTimeout s = .next (s.shotDone 3 O.impedanceSnapshotResult ([(q : Int), (t
      : Int), 1] ++ List.replicate 514 0)))

/-- The contactor sequence's commands up to CLOSED have their effect (chapter 6) (completion: each command answers the next state that its rules give; spec/06_contactors_protection.md). -/
def Obligations.CompletesContactors : Prop :=
  ∀ s : State,
    (∀ (req : Req) (string : Fin 4), s.takesWrite req O.stringCommand string.val → s.seqState string.val = 0 →
      s.closeBlock string.val = 0 → exec (.stringClose req string) s = .next ((State.enterSeq (s.tagSeen req)
      string.val 1).answerW req O.stringCommand string.val 0)) ∧
    (∀ (req : Req) (string : Fin 4), s.takesWrite req O.stringCommand string.val → 1 ≤ s.seqState string.val →
      s.seqState string.val ≤ 6 → exec (.stringClose req string) s = .next ((s.tagSeen req).answerW req
      O.stringCommand string.val 0)) ∧
    (∀ (req : Req) (string : Fin 4), s.takesWrite req O.stringCommand string.val → s.seqState string.val = 6 → exec
      (.stringOpen req string) s = .next ((State.enterSeq (s.tagSeen req) string.val 7).answerW req O.stringCommand
      string.val 0)) ∧
    (∀ (req : Req) (string : Fin 4), s.takesWrite req O.stringCommand string.val → 1 ≤ s.seqState string.val →
      s.seqState string.val ≤ 5 → exec (.stringOpen req string) s = .next ((State.abortClose (s.tagSeen req)
      string.val).answerW req O.stringCommand string.val 0)) ∧
    (s.running → s.stepDue → exec .contactorStep s = .next s.contactorStep) ∧
    (∀ (string : Fin 4), s.sequences → s.turnFree → ((s.strings.find? fun k => s.waitsTurn k) = some string.val) →
      exec (.closeTurnGranted string) s = .next (s.grantTurn string.val)) ∧
    (∀ (string : Fin 4), s.sequences → s.seqState string.val = 2 → s.past (s.str string.val).since (s.tallies (s.gn
      O.contactorCloseTime (s.roleDriver string.val 2) + s.gn O.weldCheckTime 0)) → exec (.weldCheckElapsed string) s
      = .next (s.weldCheck string.val)) ∧
    (∀ (string : Fin 4), s.sequences → s.seqState string.val = 3 → exec (.prechargeDeadline string) s = .next
      (s.prechargeCheck string.val)) ∧
    (∀ (string : Fin 4) (e : Nat), s.running → (s.str string.val).cooldownEnd = some e → s.reached e → exec
      (.prechargeCooldownEnd string) s = .next ((s.strUpd string.val fun x => { x with cooldownEnd := none }))) ∧
    (∀ (string : Fin 4), s.sequences → s.seqState string.val = 4 → (s.str string.val).phase = 0 → s.past (s.str
      string.val).since (s.tallies (s.gn O.contactorCloseTime (s.roleDriver string.val 0))) → exec
      (.closingCloseTimeElapsed string) s = .next (((s.roleOff string.val 2).strUpd string.val fun x =>
      { x with phase := 1, actAt := s.mono }))) ∧
    (∀ (string : Fin 4), s.sequences → s.seqState string.val = 4 → (s.str string.val).phase = 1 → s.past (s.str
      string.val).actAt (s.tallies (s.gn O.contactorDropTime (s.roleDriver string.val 2))) → exec
      (.closingDropTimeElapsed string) s = .next (s.enterSeq string.val 6)) ∧
    (∀ (string : Fin 4), s.sequences → s.seqState string.val = 5 → s.past (s.str string.val).since (s.gn
      O.joinWaitTimeout 0 * 1000000) → exec (.joinWaitTimeout string) s = .next ((s.enterOpen string.val 0).raise
      (0x9C + string.val) 0x20))

/-- The contactor sequence's commands that open a string or clear what opened it have their effect (chapter 6) (completion: each command answers the next state that its rules give; spec/06_contactors_protection.md). -/
def Obligations.CompletesContactorOpening : Prop :=
  ∀ s : State,
    (∀ (string : Fin 4), s.sequences → s.seqState string.val = 7 → s.reached (s.str string.val).rampEnd → s.releaseOk
      string.val → exec (.openRampTimeout string) s = .next (s.release string.val)) ∧
    (∀ (string : Fin 4), s.sequences → s.seqState string.val = 7 → s.reached (s.str string.val).rampEnd → s.releaseOk
      string.val = false → (s.str string.val).breakAt = none → exec (.openRampTimeout string) s = .next ((s.strUpd
      string.val fun x => { x with breakAt := some s.mono }).raise (0x98 + string.val) 0)) ∧
    (∀ (string : Fin 4) (at' : Nat), s.sequences → s.seqState string.val = 7 → s.breakMax string.val < s.amps
      string.val → (s.str string.val).breakAt = some at' → s.past at' 1000000 → exec (.breakMaxRepeat string) s =
      .next ((s.strUpd string.val fun x => { x with breakAt := some s.mono }).raise (0x98 + string.val) 0)) ∧
    (∀ (string : Fin 4), s.sequences → s.seqState string.val = 8 → (s.str string.val).phase = 0 → (s.str
      string.val).openAt = none → s.past (s.str string.val).actAt (s.tallies (s.gn O.contactorDropTime (s.roleDriver
      string.val 0))) → (s.str string.val).openMa < 2 * s.gn O.weldCurrentLimit 0 → exec (.openingWeldTest string) s =
      .next (((s.roleOff string.val 1).strUpd string.val fun x => { x with phase := 1, actAt := s.mono }))) ∧
    (∀ (string : Fin 4), s.sequences → s.seqState string.val = 8 → (s.str string.val).openAt = none → (s.str
      string.val).phase = 1 → s.past (s.str string.val).actAt (s.tallies (s.gn O.contactorDropTime (s.roleDriver
      string.val 1))) → exec (.openingDropElapsed string) s = .next (s.enterOpen string.val (if (s.str
      string.val).endWelded then 11 else 0))) ∧
    (∀ (string : Fin 4) (i at' : Nat), s.running → ((s.str string.val).trip = some (i, at')) → s.past at' (s.tallies
      (max (s.gn O.contactorDropTime (s.roleDriver string.val 0)) (s.gn O.contactorDropTime (s.roleDriver string.val
      1)))) → s.weldCurrent string.val = false → exec (.postTripWeldCheck string) s = .next ((s.strUpd string.val fun
      x => { x with trip := none }))) ∧
    (∀ (req : Req) (mask : Byte), s.takesWrite req O.tripReset 0 → mask.toNat < 16 → (∀ n < 4, bit mask.toNat n = true
      → s.has n = true ∧ s.tripCausePresent n = false) → exec (.tripReset req mask) s = .next ((forEach ((List.range
      4).filter fun n => bit mask.toNat n) (State.unlatch (s.tagSeen req) fun l => ((List.range 4).any fun n => bit
      mask.toNat n && [9, 10].contains (s.seqState n)) && l.trip != 0 && (List.range 4).all fun n => !bit l.trip n ||
      bit mask.toNat n) State.resetString).answerW req O.tripReset 0 0)) ∧
    (∀ (req : Req) (mask : BitVec 16), s.takesWrite req O.weldClear 0 → mask.toNat < 4096 → exec (.weldClear req mask)
      s = .next ((State.weldsCleared (s.tagSeen req) mask.toNat).answerW req O.weldClear 0 0)) ∧
    (∀ (string : Fin 4) (at' : Nat), s.running → s.has string.val → (s.str string.val).noneSince = some at' → s.past
      at' 10000000 → exec (.currentSourceNoneTimeout string) s = .next (s.openCause string.val 1)) ∧
    (∀ (ring : Fin 4) (pos : Fin 32) (t0 : Nat), s.running → pos.val < s.gn O.manifestModuleCount ring.val →
      s.moduleLost ring.val pos.val = some t0 → s.past t0 10000000 → s.past t0 300000000 = false → exec
      (.tempInputLossTimeout ring pos) s = .next (s.derateEnter ring.val 6)) ∧
    (∀ (ring : Fin 4) (pos : Fin 32) (t0 : Nat), s.running → pos.val < s.gn O.manifestModuleCount ring.val →
      s.moduleLost ring.val pos.val = some t0 → s.past t0 300000000 → exec (.tempInputLossTimeout ring pos) s = .next
      ((s.derateEnter ring.val 6).openCause ring.val 2)) ∧
    (∀ (string : Fin 4) (at' : Nat), s.running → s.has string.val → ((s.str string.val).overCharge = some at' ∨ (s.str
      string.val).overDischarge = some at') → s.past at' (s.gn O.overLimitTime string.val * 1000000) → exec
      (.overLimitTimeout string) s = .next (s.openCause string.val 3)) ∧
    (∀ (string : Fin 4) (code : Fin 9), s.running → s.stepDue = false → ((s.derateOver string.val).head? = some
      code.val) → exec (.deratingClear string code) s = .next (s.derateLeave string.val code.val))

/-- The contactor drivers' commands have their effect (chapters 6 and 7) (completion: each command answers the next state that its rules give; spec/06_contactors_protection.md). -/
def Obligations.CompletesDrivers : Prop :=
  ∀ s : State,
    (∀ (driver : Fin 12), s.pd → (s.drv driver.val).energised → (s.drv driver.val).hold = false → s.past (s.drv
      driver.val).energisedAt (s.gn O.coilPullInTime driver.val * 1000) → exec (.pullInEnd driver) s = .next
      (s.drvHold driver.val)) ∧
    (∀ (driver : Fin 12) (c : CoilEvent), s.pd → c.present → s.coilJudged driver.val c.cond → c.cond ≠ .shortHs →
      c.cond ≠ .overtemp → exec (.coilFaultDetected driver c) s = .next ((s.drvUpd driver.val fun v =>
      { v.fault c.cond with conds := (c.cond, s.mono) :: v.conds.filter fun e => e.1 != c.cond }).raise (0x94 +
      s.stringOf driver.val) driver.val)) ∧
    (∀ (driver : Fin 12) (c : CoilEvent), s.pd → c.present → s.coilJudged driver.val c.cond → exec (.coilFaultDetected
      driver c) s = .next (s.coilFault driver.val c.cond)) ∧
    (∀ (driver : Fin 12) (c : CoilEvent), s.pd → c.present = false → exec (.coilFaultDetected driver c) s = .next
      (s.coilCleared driver.val c.cond)) ∧
    (∀ (driver : Fin 12) (highSide : Bool), s.pd → s.pulsesOk → (s.drv driver.val).energised → (s.drv driver.val).hold
      → (s.drv driver.val).holdAt + 10000 ≤ s.slotAt (pulseSlot driver.val false) → (∀ k < 12, (s.drv k).pulse = 0) →
      s.slotDue driver.val highSide → exec (.offPulseStart driver highSide) s = .next ((s.drvUpd driver.val fun v =>
      { v.tested highSide s.mono with pulse := if highSide then 2 else 1, pulseAt := s.mono, pulseJudged := false }))) ∧
    (∀ (driver : Fin 12) (mA : Nat), s.pd → (s.drv driver.val).pulse = 1 → (s.drv driver.val).pulseJudged = false →
      s.past (s.drv driver.val).pulseAt 50 → mA < 20 → exec (.offPulseCheck driver mA) s = .next ((s.drvUpd driver.val
      fun v => if v.pulse = 1 then { v with pulseJudged := true, lsOk := true } else
      { v with pulseJudged := true, hsOk := true }))) ∧
    (∀ (driver : Fin 12) (mA : Nat), s.pd → (s.drv driver.val).pulse = 1 → (s.drv driver.val).pulseJudged = false →
      s.past (s.drv driver.val).pulseAt 50 → 20 ≤ mA → exec (.offPulseCheck driver mA) s = .next ((s.drvUpd driver.val
      fun v => if v.pulse = 1 then { v with pulseJudged := true, lsOk := false } else
      { v with pulseJudged := true, hsOk := false }).pulseFail driver.val 0)) ∧
    (∀ (driver : Fin 12), s.pd → (s.drv driver.val).pulse ≠ 0 → s.past (s.drv driver.val).pulseAt (s.pn
      O.offPulseWidth 0) → exec (.offPulseEnd driver) s = .next ((s.drvUpd driver.val fun v =>
      { v with pulse := 0 }).holdSet driver.val)) ∧
    (∀ (driver : Fin 12) (hsMa lsMa coilMa : Nat), s.pd → s.pulsesOk → (s.drv driver.val).energised = false →
      (s.slotDue driver.val true ∨ s.slotDue driver.val false) → hsMa < 20 → lsMa < 20 → coilMa < 50 → exec
      (.offStateCheck driver hsMa lsMa coilMa) s = .next ((s.drvUpd driver.val fun v =>
      { v.tested (s.slotDue driver.val true) s.mono with hsOk := true, lsOk := true, offFailed := false }))) ∧
    (∀ (driver : Fin 12) (hsMa lsMa coilMa : Nat), s.pd → s.pulsesOk → (s.drv driver.val).energised = false →
      (s.slotDue driver.val true ∨ s.slotDue driver.val false) → 20 ≤ hsMa → exec (.offStateCheck driver hsMa lsMa
      coilMa) s = .next ((s.drvUpd driver.val fun v =>
      { v.tested (s.slotDue driver.val true) s.mono with hsOk := false, lsOk := decide (lsMa < 20), offFailed := true }).pulseFail
      driver.val 2)) ∧
    (∀ (driver : Fin 12), s.running → s.driverRole driver.val ≠ 3 → (s.drv driver.val).due = false → s.gn
      O.openingProofTime driver.val + s.gn O.openingProofInterval 0 * hourUs ≤ s.elapsed → exec (.openingProofDue
      driver) s = .next ((s.drvUpd driver.val fun v =>
      { v with due := true, dueAt := s.gn O.openingProofTime driver.val + s.gn O.openingProofInterval 0 * hourUs }))) ∧
    (∀ (driver : Fin 12), s.running → s.driverRole driver.val ≠ 3 → (s.drv driver.val).due → (s.drv
      driver.val).overdue = false → (s.drv driver.val).dueAt + s.gn O.openingProofGrace 0 * hourUs ≤ s.elapsed → exec
      (.openingProofOverdue driver) s = .next ((s.drvUpd driver.val fun v => { v with overdue := true }).raise (0xA8 +
      s.driverString driver.val) (4 * 16 + driver.val)))

/-- The safety functions' commands have their effect (chapter 7) (completion: each command answers the next state that its rules give; spec/07_safety_functions.md). -/
def Obligations.CompletesSafety : Prop :=
  ∀ s : State,
    (∀ (pair : Fin 4) (chB level : Bool), s.pwr.pdUp → (s.pair pair.val).atBall chB level = false → exec
      (.safetyInputChange pair chB level) s = .next (s.pairUpd pair.val fun q => q.toBall chB level s.mono)) ∧
    (∀ (pair : Fin 4) (chB level : Bool), s.pwr.pdUp → (s.pair pair.val).atBall chB level → s.moored = false →
      s.levelCounts pair.val chB level → exec (.safetyInputChange pair chB level) s = .next (s.countLevel pair.val chB
      level)) ∧
    (∀ (pair : Fin 4), s.pd → s.pairUsed pair.val → (s.pair pair.val).waits → s.pairLate pair.val → exec
      (.safetyDiscrepancyTimeout pair) s = .next (s.pairFault pair.val)) ∧
    (∀ (pair : Fin 4) (asserted : Bool) (inst : Nat), s.pd → s.cd → asserted → (s.pair pair.val).report = some inst →
      exec (.safeOffReport pair asserted) s = .next ((s.pairUpd pair.val fun q => { q with report := none }).raise
      (0xA0 + pair.val) inst)) ∧
    (∀ (follows : BitVec 8), s.pd → exec (.safetyInputSelfTest follows) s = .next (forEach (List.range 8) s fun s k =>
      s.receiverTest k (follows.getLsbD k))) ∧
    (∀ (count7 count9 : Nat), s.pd → s.ev.oscBad = false → countWithin count7 32000 10 → countWithin count9 1000 10 →
      exec (.oscillatorCrossCheck count7 count9) s = .next s) ∧
    (∀ (count7 count9 : Nat), s.pd → s.ev.oscBad = false → (countWithin count7 32000 10 = false ∨ countWithin count9
      1000 10 = false) → exec (.oscillatorCrossCheck count7 count9) s = .next (((State.safeOffApply
      { s with ev := { s.ev with oscBad := true, oscGoodSince := none } }).sayP 0 65).raise 0xAC 0x80)) ∧
    (s.running → (s.fw.readbackDue ∨ s.past s.fw.readbackAt 1000000) → exec (.safetyConfigReadback none) s = .next
      s.readback) ∧
    (∀ (u : CopyUpset), s.running → (s.fw.readbackDue ∨ s.past s.fw.readbackAt 1000000) → exec (.safetyConfigReadback
      (some u)) s = .next ((s.upsetCopy u.key u.value).readback)) ∧
    (∀ (req : Req) (value : BitVec 32), s.takesWrite req O.contactorOpenTestRequest 0 → s.shotGate 4 value.toNat false
      = none → (value.toNat / 65536 ≠ 0) → bits value.toNat 15 2 = 0 → (s.has (value.toNat % 4)) → (s.inManifest
      (value.toNat % 4)) → (s.seqState (value.toNat % 4) = 0) → (s.safeOff (value.toNat % 4) = false) → s.ready →
      s.dup.mode = 0 → (s.conclusive (value.toNat % 4)) → (s.gn O.chainRingState (value.toNat % 4) ≠ 5) → exec
      (.contactorOpenTestRequest req value) s = .next ((State.shotStart (s.tagSeen req) 4 (value.toNat / 65536)
      (value.toNat % 65536)).answerW req O.contactorOpenTestRequest 0 0)) ∧
    (∀ (n : Nat), s.running → s.otest.string = some n → s.otest.dropping = false → s.past s.otest.at' (s.testTime n) →
      exec .openTestStepCheck s = .next (s.testCheck n)) ∧
    (∀ (n : Nat), s.running → s.otest.string = some n → s.otest.dropping → s.past s.otest.at' (s.tallies (s.gn
      O.contactorDropTime (s.roleDriver n (testRole s.otest.step)))) → exec .openTestStepDropDone s = .next
      (s.testDropped n))

/-- The load switches' commands have their effect (chapter 8) (completion: each command answers the next state that its rules give; spec/08_auxiliary_outputs.md). -/
def Obligations.CompletesLoadSwitches : Prop :=
  ∀ s : State,
    (∀ (req : Req) (ls : Fin 16), s.takesWrite req O.loadSwitchCommand ls.val → exec (.loadSwitchCmdOff req ls) s =
      .next ((State.lsRequest (((s.tagSeen req).put O.loadSwitchCommand ls.val 0).sayC 2 (16 * (12 + ls.val) + 0))
      ls.val 0 ((((s.tagSeen req).put O.loadSwitchCommand ls.val 0).sayC 2 (16 * (12 + ls.val) + 0)).gn
      O.loadSwitchPwmDuty ls.val) ((((s.tagSeen req).put O.loadSwitchCommand ls.val 0).sayC 2 (16 * (12 + ls.val) +
      0)).gn O.loadSwitchPwmFrequency ls.val)).answerW req O.loadSwitchCommand ls.val 0)) ∧
    (∀ (req : Req) (ls : Fin 16), s.takesWrite req O.loadSwitchCommand ls.val → exec (.loadSwitchCmdOn req ls) s =
      .next ((State.lsRequest (((s.tagSeen req).put O.loadSwitchCommand ls.val 1).sayC 2 (16 * (12 + ls.val) + 1))
      ls.val 1 ((((s.tagSeen req).put O.loadSwitchCommand ls.val 1).sayC 2 (16 * (12 + ls.val) + 1)).gn
      O.loadSwitchPwmDuty ls.val) ((((s.tagSeen req).put O.loadSwitchCommand ls.val 1).sayC 2 (16 * (12 + ls.val) +
      1)).gn O.loadSwitchPwmFrequency ls.val)).answerW req O.loadSwitchCommand ls.val 0)) ∧
    (∀ (req : Req) (ls : Fin 16), s.takesWrite req O.loadSwitchCommand ls.val → exec (.loadSwitchCmdPwm req ls) s =
      .next ((State.lsRequest (((s.tagSeen req).put O.loadSwitchCommand ls.val 2).sayC 2 (16 * (12 + ls.val) + 2))
      ls.val 2 ((((s.tagSeen req).put O.loadSwitchCommand ls.val 2).sayC 2 (16 * (12 + ls.val) + 2)).gn
      O.loadSwitchPwmDuty ls.val) ((((s.tagSeen req).put O.loadSwitchCommand ls.val 2).sayC 2 (16 * (12 + ls.val) +
      2)).gn O.loadSwitchPwmFrequency ls.val)).answerW req O.loadSwitchCommand ls.val 0)) ∧
    (∀ (ls : Fin 16), s.pd → (s.lsw ls.val).on → (s.lsw ls.val).limiting → s.past (s.lsw ls.val).limitSince (s.gn
      O.lsLimitTime ls.val) → exec (.lsOvercurrentTrip ls) s = .next (s.lsTrip ls.val 0)) ∧
    (∀ (ls : Fin 16), s.pd → (s.lsw ls.val).latch = false → (s.lsw ls.val).on → exec (.lsThermalLatchSet ls) s = .next
      ((s.lswUpd ls.val fun l => { l with latch := true }).lsTrip ls.val 1)) ∧
    (∀ (ls : Fin 16), s.pd → (s.lsw ls.val).latch = false → (s.lsw ls.val).on = false → exec (.lsThermalLatchSet ls) s
      = .next ((s.lswUpd ls.val fun l => { l with latch := true }).raise (lsSource ls.val) 1)) ∧
    (∀ (ls : Fin 16), s.pd → (s.lsw ls.val).latch → exec (.lsThermalLatchClear ls) s = .next (((s.lswUpd ls.val fun l
      => { l with latch := false }).lsRestart ls.val).lsFollow ls.val)) ∧
    (∀ (ls : Fin 16), s.pd → exec (.lsRetryRestart ls) s = .next (s.lsRestart ls.val)) ∧
    (∀ (ls : Fin 16), s.pd → 60000000000 ≤ (s.lsw ls.val).onTime + (s.lsw ls.val).segment s.mono → exec
      (.lsRetryCountReset ls) s = .next ((s.lswUpd ls.val fun l => { l with retries := 0 }))) ∧
    (∀ (req : Req) (mask : BitVec 16), s.takesWrite req O.lsFaultClear 0 → exec (.lsFaultClear req mask) s = .next
      ((forEach ((List.range 16).filter fun n => bit mask.toNat n) (s.tagSeen req) fun s n => (s.sayC 2 (16 * (12 + n)
      + 8)).lsClearRequest n).answerW req O.lsFaultClear 0 0)) ∧
    (∀ (ls : Fin 16) (low : Bool), s.pd → (s.lsw ls.val).on → 100000000 ≤ (s.lsw ls.val).spell + (s.lsw
      ls.val).segment s.mono → low → (s.lsw ls.val).onOpen = false → exec (.lsOnOpenLoad ls low) s = .next ((s.lswUpd
      ls.val fun l => { l with onOpen := true }).raise (lsSource ls.val) 3)) ∧
    (∀ (ls : Fin 16) (low : Bool), s.pd → (s.lsw ls.val).on → 100000000 ≤ (s.lsw ls.val).spell + (s.lsw
      ls.val).segment s.mono → low = false → (s.lsw ls.val).onOpen → exec (.lsOnOpenLoad ls low) s = .next ((s.lswUpd
      ls.val fun l => { l with onOpen := false }))) ∧
    (∀ (ls : Fin 16) (c : OffStateLevel), s.pd → s.gb O.lsOffDiag ls.val → (s.lsw ls.val).on = false → s.past (s.lsw
      ls.val).offSince 20000 → s.dup.mode = 0 → c = .low → exec (.lsOffStateDiag ls c) s = .next ((s.lswUpd ls.val fun
      l => { l with offOpen := false, offShort := false }))) ∧
    (∀ (ls : Fin 16) (c : OffStateLevel), s.pd → s.gb O.lsOffDiag ls.val → (s.lsw ls.val).on = false → s.past (s.lsw
      ls.val).offSince 20000 → s.dup.mode = 0 → c = .open3V → (s.lsw ls.val).offOpen = false → exec (.lsOffStateDiag
      ls c) s = .next ((s.lswUpd ls.val fun l => { l with offOpen := true }).raise (lsSource ls.val) 4)) ∧
    (∀ (ls : Fin 16) (c : OffStateLevel), s.pd → s.gb O.lsOffDiag ls.val → (s.lsw ls.val).on = false → s.past (s.lsw
      ls.val).offSince 20000 → s.dup.mode = 0 → c = .nearVaux → (s.lsw ls.val).offShort = false → exec
      (.lsOffStateDiag ls c) s = .next ((s.lswUpd ls.val fun l => { l with offShort := true }).raise (lsSource ls.val)
      5)) ∧
    (∀ (ls : Fin 16) (reached : Bool), s.pd → (s.lsw ls.val).on → (s.lsw ls.val).limiting ≠ reached → exec
      (.lsLimiting ls reached) s = .next ((s.lswUpd ls.val fun l =>
      { l with limiting := reached, limitSince := s.mono }))) ∧
    (∀ (m : Dissipation), s.pd → exec (.dissipationEstimate m) s = .next (s.dissipate m)) ∧
    (s.pd → s.gn O.switchDissipationBudget 0 * 1000 < s.dissipation → s.past s.gov.boundaryAt 100000 → exec
      .governorShed s = .next s.governorShed) ∧
    (∀ (at' : Nat), s.pd → s.gov.okSince = some at' → s.past at' 10000000 → exec .governorRestore s = .next
      s.governorRestore)

/-- The motor channels' speed, commutation, start and recovery commands have their effect (chapter 8) (completion: each command answers the next state that its rules give; spec/08_auxiliary_outputs.md). -/
def Obligations.CompletesMotors : Prop :=
  ∀ s : State,
    (∀ (req : Req) (md : Fin 4) (rpm : Nat), s.takesWrite req O.motorSpeedCommand md.val → rpm ≤ 30000 → exec
      (.motorSpeedCommand req md rpm) s = .next (((((s.tagSeen req).put O.motorSpeedCommand md.val (rpm : Int)).sayC 2
      (16 * (28 + md.val) + 1)).mdRequest md.val rpm).answerW req O.motorSpeedCommand md.val 0)) ∧
    (∀ (md : Fin 4) (shuntMa : Int), s.pd → s.has md.val → exec (.motorSpeedLoop md shuntMa) s = .next (s.mdSpeedLoop
      md.val shuntMa)) ∧
    (∀ (md : Fin 4) (x : Crossing), s.pd → s.has md.val → (s.mot md.val).st = 3 → crossingSigns x → (s.mot
      md.val).sampled x → 0 < crossingNs x → (s.mot md.val).interval = 0 → exec (.motorZeroCrossing md x) s = .next
      (((s.put O.motorSpeed md.val (s.mdRpm md.val (crossingNs x))).motUpd md.val fun m =>
      { m with interval := crossingNs x, crossAt := (s.mono * 1000 - (x.afterNs - crossingNs x)) / 1000, commAt := some ((s.mono * 1000 - (x.afterNs - crossingNs x) + crossingNs x * (30 - s.gn O.mdCommAdvance md.val) / 60) / 1000) }))) ∧
    (∀ (md : Fin 4) (x : Crossing), s.pd → s.has md.val → (s.mot md.val).st = 3 → crossingSigns x → (s.mot
      md.val).sampled x → (s.mot md.val).interval ≠ 0 → (s.mot md.val).interval * 5 < crossingNs x * 4 → exec
      (.motorZeroCrossing md x) s = .next (s.mdSyncLost md.val 0)) ∧
    (∀ (md : Fin 4), s.pd → s.has md.val → (s.mot md.val).st = 2 → (s.mot md.val).forced < s.forcedSteps md.val → exec
      (.motorCommutation md) s = .next ((s.motUpd md.val fun m =>
      { m with step := (m.step + (if s.gn O.motorDirection md.val = 0 then 1 else 5)) % 6, commAt := none, forced := if m.st = 2 then m.forced + 1 else m.forced }))) ∧
    (∀ (md : Fin 4) (at' : Nat), s.pd → s.has md.val → (s.mot md.val).st = 3 → (s.mot md.val).commAt = some at' →
      s.reached at' → exec (.motorCommutation md) s = .next ((s.motUpd md.val fun m =>
      { m with step := (m.step + (if s.gn O.motorDirection md.val = 0 then 1 else 5)) % 6, commAt := none, forced := if m.st = 2 then m.forced + 1 else m.forced }))) ∧
    (∀ (md : Fin 4), s.pd → s.has md.val → (s.mot md.val).st = 3 → (s.mot md.val).crossAt * 1000 + 2 * (s.mot
      md.val).interval ≤ s.mono * 1000 → exec (.motorCrossingTimeout md) s = .next (s.mdSyncLost md.val 2)) ∧
    (∀ (md : Fin 4), s.pd → s.has md.val → (s.mot md.val).st = 4 → (s.mot md.val).recStep = 2 → s.reached (s.mot
      md.val).waitUntil → (s.mot md.val).barred = false → exec (.motorCoastWaitEnd md) s = .next (s.mdAttempt md.val
      (if s.mdCatch md.val then 3 else 4))) ∧
    (∀ (md : Fin 4) (intervals : List Nat) (bemfMv : Nat), s.pd → s.has md.val → (s.mot md.val).st = 5 → (s.mot
      md.val).recStep = 3 → intervals.length < 3 → s.past (s.mot md.val).stAt 500000 → exec (.motorCatchSpinEnd md
      intervals bemfMv) s = .next ((s.raise (mdSync md.val) 4).mdRetryLater md.val (if s.mdCatch md.val then 3 else
      4))) ∧
    (∀ (md : Fin 4), s.pd → s.has md.val → (s.mot md.val).st = 4 → (s.mot md.val).recStep = 4 → (s.mot md.val).barred
      = false → (s.mdModel md.val ≤ (s.gn O.mdStopSpeed md.val : Rat)) → exec (.motorStopped md) s = .next
      (s.mdAttempt md.val 5)) ∧
    (∀ (md : Fin 4), s.pd → s.has md.val → (s.mot md.val).st = 1 → s.past (s.mot md.val).stAt (s.gn O.mdAlignTime
      md.val * 1000) → exec (.motorAlignEnd md) s = .next ((s.motUpd md.val fun m =>
      { m with recStep := 6, step := 0, forced := 0 }).mdEnter md.val 2)) ∧
    (∀ (md : Fin 4) (intervals : List Nat), s.pd → s.has md.val → (s.mot md.val).st = 2 → intervals.length = 6 →
      steady intervals → (∀ i ∈ intervals, 0 < i ∧ s.gn O.mdHandoverSpeed md.val ≤ s.mdRpm md.val i) → ∃ t, exec
      (.motorStartHandover md intervals) s = .next t ∧ (t.mot md.val).st = 3) ∧
    (∀ (md : Fin 4), s.pd → s.has md.val → (s.mot md.val).st = 2 → s.past (s.mot md.val).stAt (s.gn O.mdStartRampTime
      md.val * 1000 + 500000) → exec (.motorStartTimeout md) s = .next ((s.raise (mdSync md.val) 6).mdRetryLater
      md.val 5)) ∧
    (∀ (md : Fin 4), s.pd → s.has md.val → exec (.motorRetryDelay md) s = .next (s.mdRetry md.val))

/-- The motor protections', the VMOT rail's and the brake chopper's commands have their effect (chapter 8) (completion: each command answers the next state that its rules give; spec/08_auxiliary_outputs.md). -/
def Obligations.CompletesMotorProtection : Prop :=
  ∀ s : State,
    (∀ (md : Fin 4) (hit : LimitHit), s.pd → s.has md.val → (s.mot md.val).driven → exec (.motorCurrentLimit md hit) s
      = .next ((s.motUpd md.val fun m =>
      { m with currentLimit := hit.acted, limitNs := hit.atNs, limitSince := if m.currentLimit then m.limitSince else s.mono }))) ∧
    (∀ (md : Fin 4), s.pd → s.has md.val → (s.mot md.val).driven → (s.mot md.val).currentLimit → s.past (s.mot
      md.val).limitSince (s.gn O.mdLimitTime md.val * 1000) → exec (.motorLimitTimeTrip md) s = .next (s.mdTrip md.val
      1)) ∧
    (∀ (md : Fin 4) (lowSide : Bool), s.pd → s.has md.val → (s.mot md.val).driven → ((s.mot md.val).st ≠ 6 ∨ lowSide =
      false) → exec (.motorVdsTrip md lowSide) s = .next (s.mdTrip md.val 0)) ∧
    (∀ (md : Fin 4) (set : Bool), s.pd → s.has md.val → (s.mot md.val).latch = false → set → (s.mot md.val).driven →
      exec (.motorThermalLatch md set) s = .next ((s.motUpd md.val fun m => { m with latch := true }).mdTrip md.val
      2)) ∧
    (∀ (md : Fin 4), s.pd → s.has md.val → (s.mot md.val).gateUv = false → (s.mot md.val).driven → exec (.motorGateUv
      md) s = .next ((State.mdCoast ((s.mdLoss md.val).motUpd md.val fun m => { m with gateUv := true }) md.val
      4).raise (mdSource md.val) 4)) ∧
    (∀ (md : Fin 4), s.pd → s.has md.val → (s.mot md.val).gateUv → exec (.gateSupplyRecovered md) s = .next ((s.motUpd
      md.val fun m => { m with gateUv := false }).mdResume md.val)) ∧
    (∀ (md : Fin 4), s.pd → s.has md.val → 60000000 ≤ (s.mot md.val).ran s.mono → exec (.motorRetryCountReset md) s =
      .next ((s.motUpd md.val fun m => { m with retries := 0 }))) ∧
    (s.pd → exec .motorClockLoss s = .next (forEach s.strings s fun s n => if (((s.mdLoss n).motUpd n fun m =>
      { m with clockLost := true }).mot n).driven || (((s.mdLoss n).motUpd n fun m =>
      { m with clockLost := true }).mot n).st == 5 then ((s.mdLoss n).motUpd n fun m =>
      { m with clockLost := true }).mdCoast n 4 else (s.mdLoss n).motUpd n fun m => { m with clockLost := true })) ∧
    (∀ (req : Req) (mask : Byte), s.takesWrite req O.motorFaultClear 0 → mask.toNat < 16 → ((List.range 4).any (fun n
      => bit mask.toNat n && !s.has n) = false) → exec (.motorFaultClear req mask) s = .next ((forEach ((List.range
      4).filter fun n => bit mask.toNat n) (s.tagSeen req) fun s n => (s.sayC 2 (16 * (28 + n) + 8)).mdClearRequest
      n).answerW req O.motorFaultClear 0 0)) ∧
    (∀ (mV : Nat), s.pd → exec (.vmotSample mV) s = .next (s.vmotTake mV)) ∧
    (∀ (at' : Nat), s.pd → (s.vmot.under ∨ s.vmot.absWait) → s.vmot.goodSince = some at' → s.past at' 100000 → exec
      .vmotRecovery s = .next (forEach (s.strings.filter fun n => (s.mot n).vmotCoast)
      { s with vmot := { s.vmot with under := false, absWait := false } } fun s n => (s.motUpd n fun m =>
      { m with vmotCoast := false }).mdResume n)) ∧
    (∀ (inst : Fin 2) (vmotMv brkMa : Nat), s.pd → s.vmot.brakeOn → s.vmot.faulty = false → inst.val = 0 → s.past
      s.vmot.onAt 500 → s.vmot.onMv < vmotMv → exec (.brakeFaultCheck inst vmotMv brkMa) s = .next (State.raise
      { s with vmot := { s.vmot with brakeOn := false, faulty := true } } 0xCA 0)) ∧
    (∀ (req : Req) (value : Nat), s.takesWrite req O.brakeFaultClear 0 → value = 1 → exec (.brakeFaultClear req value)
      s = .next ((((s.tagSeen req).sayC 2 (16 * 32 + 8)).brakeClearRequest).answerW req O.brakeFaultClear 0 0))

/-- Requests and block frames of the Quay Link Protocol that pass the checks of every request have their effect (chapter 9) (completion: each command answers the next state that its rules give; spec/09_field_links.md). -/
def Obligations.CompletesRequests : Prop :=
  ∀ s : State,
    (∀ (f : QlpFrame) (o : Obj), s.takesRequest f 1 → ((s.asked f).readCheck (reqIndex f) (reqSub f) (reqCount f)
      ((s.asked f).inSession f)).1 = 0 → objRow (reqIndex f) = some o → (((s.asked f).readData f o).length ≤ (if
      f.link.val < 2 then 52 else 1452) - 5 * ((s.asked f).stampsOf o (reqSub f) (reqCount f)).length) → exec
      (.qlpRead f) s = .next (State.answer (s.asked f) f ((s.asked f).readStatus f) (reqSub f) ((s.asked f).stampsOf o
      (reqSub f) (reqCount f)) ((s.asked f).readData f o))) ∧
    (∀ (f : QlpFrame), s.takesRequest f 2 → reqTagged f = false → reqSegmented f = false → reqIndex f ∉ commandObjs →
      (State.writeData (s.asked f) (reqFrom f false) (reqIndex f) (reqSub f) (reqCount f) (reqData f)).2.1 = 0 →
      (State.answer (State.writeData (s.asked f) (reqFrom f false) (reqIndex f) (reqSub f) (reqCount f) (reqData f)).1
      f 0 (reqSub f)).nodeId = (s.asked f).nodeId → exec (.qlpWrite f) s = .next (State.answer (State.writeData
      (s.asked f) (reqFrom f false) (reqIndex f) (reqSub f) (reqCount f) (reqData f)).1 f 0 (reqSub f))) ∧
    (∀ (f : QlpFrame), s.takesRequest f 16 → (s.asked f).qlp.lockoutAt = none → reqLen f = 0 → (s.asked
      f).siteKey.isSome → (s.asked f).qlp.session = none → exec (.sessionOpen f) s = .next (State.answer
      { (s.asked f) with qlp := { (s.asked f).qlp with nonces := ((s.asked f).qlp.nonces.filter fun x => !(x.link == f.link.val && x.node == f.src)) ++ [{ link := f.link.val, node := f.src, value := (s.asked f).nonceBytes, at' := (s.asked f).mono }], random := (s.asked f).qlp.random + 16 } }
      f 0 (reqSub f) [] (s.asked f).nonceBytes)) ∧
    (∀ (f : QlpFrame) (d : Nonce) (key : List Byte), s.takesRequest f 17 → (s.asked f).qlp.lockoutAt = none → reqLen f
      = 48 → ((s.asked f).qlp.nonces.find? (fun x => x.link == f.link.val && x.node == f.src && !(s.asked f).past
      x.at' 10000000) = some d) → (s.asked f).siteKey = some key → (s.asked f).qlp.session = none → (reqData f).drop
      16 = hmac key (label 0x43 ++ d.value ++ (reqData f).take 16 ++ le 1 f.src ++ le 1 f.link.val) → exec
      (.sessionAuth f) s = .next (State.answer (State.raise
      { (s.asked f) with qlp := { (s.asked f).qlp with nonces := (s.asked f).qlp.nonces.filter fun x => !(x.link == f.link.val && x.node == f.src), session := some { link := f.link.val, node := f.src, key := hmac key (label 0x4B ++ d.value ++ (reqData f).take 16), opened := (s.asked f).now, taggedAt := (s.asked f).mono, berthId := (s.asked f).dup.mode != 0 && f.dest == 1 } } }
      0xD7 0) f 0 (reqSub f) [] (hmac key (label 0x44 ++ (reqData f).take 16 ++ d.value)))) ∧
    (∀ (f : QlpFrame), s.takesRequest f 18 → reqTagged f → ((State.tagCheck (s.asked f) f (reqData f) 0x0204 fun _ =>
      true).2 = 0) → reqLen f = 12 → exec (.sessionClose f) s = .next (((State.tagCheck (s.asked f) f (reqData f)
      0x0204 fun _ => true).1.answer f 0 (reqSub f)).sessionEnd)) ∧
    (∀ (f : QlpFrame) (ageUs : Nat), s.takesRequest f 32 → reqTagged f → ((State.tagCheck (s.asked f) f (reqData f)
      0x0204 fun _ => true).2 = 0) → reqLen f = 20 → ((State.tagCheck (s.asked f) f (reqData f) 0x0204 fun _ =>
      true).1.follows 2) → exec (.timeSet f ageUs) s = .next ((State.tagCheck (s.asked f) f (reqData f) 0x0204 fun _
      => true).1.timeSetRun f ageUs)) ∧
    (∀ (f : QlpFrame) (t : Transfer), s.takesBlock f 1 → (s.countIn f).transferFor f false = some t → blockNumber f =
      t.next → 0 < t.next → t.sent < t.next → t.next < t.sent + 16 → (t.next < lastSegment t.link (leAt t.header 8 4)
      (t.header.length - 12)) → exec (.blockSegment f) s = .next (State.setTransfer (s.countIn f)
      { t with at' := (s.countIn f).mono, retried := false, next := t.next + 1, data := t.data ++ f.msg.drop 3 })) ∧
    (∀ (f : QlpFrame) (t : Transfer), s.takesBlock f 2 → (s.countIn f).transferFor f true = some t → blockNumber f =
      t.segments + 1 → t.segments ≤ t.sent → exec (.blockAck f) s = .next (State.endTransfer (s.countIn f) t)) ∧
    (∀ (f : QlpFrame) (t : Transfer), s.takesBlock f 2 → (s.countIn f).transferFor f true = some t → 0 < blockNumber f
      → blockNumber f ≤ t.sent + 1 → blockNumber f ≠ t.segments + 1 → exec (.blockAck f) s = .next (State.burst
      (s.countIn f) { t with retried := false } (blockNumber f))) ∧
    (∀ (f : QlpFrame) (t : Transfer), s.takesBlock f 3 → (s.countIn f).transferFor f true = some t → exec (.blockAbort
      f) s = .next (State.endTransfer (s.countIn f) t)) ∧
    (∀ (link : Fin 3) (src : Nat) (t : Transfer), s.running → (s.qlp.transfers.find? (fun t => t.link == link.val &&
      t.src == src) = some t) → s.past t.at' 100000 → exec (.segmentTimeout link src) s = .next (s.transferLate t))

/-- Sessions, node ID and device time: the commands of chapter 9 that run by time have their effect (completion: each command answers the next state that its rules give; spec/09_field_links.md). -/
def Obligations.CompletesSessions : Prop :=
  ∀ s : State,
    (∀ (x : Session), s.running → s.qlp.session = some x → s.past x.taggedAt 300000000 → exec .sessionTimeout s =
      .next (State.raise { s with qlp := { s.qlp with session := none } } 0xD7 1)) ∧
    (∀ (link : Fin 3) (src : Nat), s.running → exec (.nonceExpiry link src) s = .next
      ({ s with qlp := { s.qlp with nonces := s.qlp.nonces.filter fun n => !(n.link == link.val && n.node == src && s.past n.at' 10000000) } })) ∧
    (∀ (at' : Nat), s.running → s.qlp.lockoutAt = some at' → s.reached at' → exec .authLockoutEnd s = .next
      ({ s with qlp := { s.qlp with lockoutAt := none } })) ∧
    (∀ (req : Req) (value : Nat), s.takesWrite req O.qlpNodeId 0 → value ≠ 0 → value ≤ 126 → (s.dup.mode = 0 ∨ value ≠
      1) → value ≠ s.nodeId → exec (.qlpNodeIdWrite req value) s = .next ((((s.tagSeen req).answerW req O.qlpNodeId 0
      0).put O.qlpNodeId 0 (value : Int)).nodeChange)) ∧
    (∀ (sync : PtpSync) (sent : Int) (interval16 : Nat) (master : PtpAnnounce) (utcOffset : Int), s.running →
      s.follows 1 → s.ethUp → 1 ≤ interval16 → interval16 ≤ 32 → sync.domain = s.gn O.ptpDomain 0 → syncSentAt sync =
      some sent → (∀ a ∈ sync.heard, betterMaster a master = false) → exec (.ptpSyncReceived sync interval16 master
      utcOffset) s = .next ((s.ptpFrames sync).ptpSync (s.ptpOffset sync sent) interval16 master.identity utcOffset)) ∧
    (∀ (at' : Nat), s.follows 1 → (s.gn O.timeSyncState 0 = 1 ∨ s.gn O.timeSyncState 0 = 2) → s.clk.lastSync = some
      at' → s.past at' s.syncTimeout → exec .ptpHoldoverTimeout s = .next (((State.put
      { s with clk := { s.clk with rateHold := s.rateNow, slewNs := 0, goodSyncs := 0 } } O.timeSyncState 0 3).raise
      0xD9 0))) ∧
    (∀ (ns : Nat), s.running → s.clk.stepNs = some ns → s.fw.ticking → s.mono = s.fw.latchedAt → s.flashOk → exec
      .timeStepApply s = .next (s.stepApply ns)) ∧
    (∀ (worn : Bool), s.running → s.flashOk → s.past s.clk.markAt 60000000 → exec (.timeMarkCommit worn) s = .next
      (s.timeMark worn)) ∧
    (∀ (at' : Nat), s.follows 2 → s.gn O.timeSyncState 0 = 2 → s.clk.timeSetAt = some at' → s.past at' 3600000000 →
      exec .timeSetLockExpiry s = .next (((State.put { s with clk := { s.clk with timeSetAt := none } }
      O.timeSyncState 0 3).raise 0xD9 0)))

/-- The CAN channels, lighthouse frames, streams and the Ethernet port: their commands have their effect (chapter 9) (completion: each command answers the next state that its rules give; spec/09_field_links.md). -/
def Obligations.CompletesLinks : Prop :=
  ∀ s : State,
    (∀ (ch : Fin 2) (won : Bool) (sofDelay tdcNs : Nat), s.running → s.linkUp ch.val → (s.can ch.val).offered ≠ 0 →
      exec (.canTxDone ch won sofDelay tdcNs) s = .next (s.txDone ch.val won sofDelay tdcNs)) ∧
    (∀ (link : Fin 3), s.running → link.val < 2 → exec (.responseQueueTimeout link) s = .next (forEach ((s.can
      link.val).waiting.filter s.waited) (s.canUpd link.val fun c =>
      { c with waiting := (s.can link.val).waiting.filter fun w => !s.waited w }) fun t _ => t.txDrop link.val)) ∧
    (∀ (link : Fin 3), s.running → link.val = 2 → exec (.responseQueueTimeout link) s = .next (forEach
      (s.qlp.ethWaiting.filter s.waited)
      { s with qlp := { s.qlp with ethWaiting := s.qlp.ethWaiting.filter fun w => !s.waited w } } fun t _ => t.txDrop
      2)) ∧
    (∀ (ch : Fin 2) (txErr rxErr : Nat) (busOff : Bool), s.running → s.gb O.canEnable ch.val → s.gn O.canErrorState
      ch.val ≠ 2 → busOff → exec (.canBusOff ch txErr rxErr busOff) s = .next ((((((if s.gm O.canErrorCounters ch.val
      0 < min txErr 255 ∨ s.gm O.canErrorCounters ch.val 1 < min rxErr 255 then s.bump O.canStats (ch.val * 6 + 2)
      else s).put O.canErrorState ch.val 2).putL O.canErrorCounters ch.val [((min txErr 255 : Nat) : Int), ((min rxErr
      255 : Nat) : Int)]).bump O.canStats (ch.val * 6 + 4)).canUpd ch.val fun c =>
      { c with busOffAt := s.mono }).raise (0xD0 + ch.val) 0)) ∧
    (∀ (ch : Fin 2) (txErr rxErr : Nat) (busOff : Bool), s.running → s.gb O.canEnable ch.val → s.gn O.canErrorState
      ch.val = 0 → busOff = false → (128 ≤ txErr ∨ 128 ≤ rxErr) → exec (.canBusOff ch txErr rxErr busOff) s = .next
      ((((if s.gm O.canErrorCounters ch.val 0 < min txErr 255 ∨ s.gm O.canErrorCounters ch.val 1 < min rxErr 255 then
      s.bump O.canStats (ch.val * 6 + 2) else s).put O.canErrorState ch.val 1).putL O.canErrorCounters ch.val [((min
      txErr 255 : Nat) : Int), ((min rxErr 255 : Nat) : Int)]).raise (0xD2 + ch.val) 0)) ∧
    (∀ (ch : Fin 2), s.running → s.gn O.canErrorState ch.val = 2 → s.past (s.can ch.val).busOffAt (s.can
      ch.val).recoveryUs → exec (.canBusOffRecovery ch) s = .next (((s.put O.canErrorState ch.val 0).putL
      O.canErrorCounters ch.val [0, 0]))) ∧
    (∀ (ch : Fin 2), s.running → ([0, 1, 2].filter (s.timingDue ch.val) ≠ []) → exec (.canTimingApply ch) s = .next
      ((s.canUpd ch.val fun c => ([0, 1, 2].filter (s.timingDue ch.val)).foldl CanTx.applyTiming c))) ∧
    (∀ (ch : Fin 2), s.leads → s.gb O.canEnable ch.val → s.gb O.lighthouseEnable ch.val → (s.now / (s.gn
      O.lighthousePeriod 0 * 1000) * (s.gn O.lighthousePeriod 0 * 1000) ≠ (s.can ch.val).sched) → exec (.lighthouseDue
      ch) s = .next (s.lighthouse ch.val)) ∧
    (∀ (stream : Fin 8), s.leads → s.gm O.streamConfig stream.val 0 ≠ 0 → s.streamUs stream.val ≠ 0 → (s.now /
      s.streamUs stream.val * s.streamUs stream.val ≠ mget 0 s.qlp.streamAt stream.val) → exec (.streamSnapshotDue
      stream) s = .next ((s.streamStart stream.val).streamSend stream.val)) ∧
    (∀ (fast full : Bool), s.running → s.gb O.ethEnable 0 → s.gn O.ethLinkState 0 = 0 → exec (.ethLinkUp fast full) s
      = .next (((s.put O.ethLinkState 0 ((if fast then 2 else 1) + (if full then 128 else 0))).stackFrame 257 0 (le 4
      (s.gn O.ethIpAddress 0))))) ∧
    (∀ (targetIp sender : Nat), s.running → s.ethUp → targetIp = s.gn O.ethIpAddress 0 → exec (.arpRequest targetIp
      sender) s = .next (((s.ethIn 64).bump O.ethStats 8).stackFrame 256 sender (le 4 targetIp))) ∧
    (∀ (len : Nat) (fragment : Bool) (sender : Nat), s.running → s.ethUp → fragment = false → len ≤ 1472 →
      ((s.qlp.icmp.filter fun t => decide (s.mono < t + 1000000)).length < 100) → exec (.icmpEchoRequest len fragment
      sender) s = .next ((State.stackFrame
      { (s.ethIn (icmpOctets len)).bump O.ethStats 9 with qlp := { s.qlp with icmp := (s.qlp.icmp.filter fun t => decide (s.mono < t + 1000000)) ++ [s.mono] } }
      258 sender (le 2 len)))) ∧
    (s.running → s.gn O.ethLinkState 0 ≠ 0 → exec .ethLinkDown s = .next ((s.put O.ethLinkState 0 0).raise 0xD4 0))

/-- Manifest and configuration commands have their effect: checked, committed, in force (chapter 10) (completion: each command answers the next state that its rules give; spec/10_object_dictionary.md). -/
def Obligations.CompletesConfiguration : Prop :=
  ∀ s : State,
    (∀ (req : Req) (file : List Byte), s.takesWrite req O.manifestFile 0 → s.manifestGate = 0 → (s.tagSeen
      req).manifestCheck (s.gn O.tallyPeriod 0) file = 0 → exec (.manifestFileWrite req file) s = .next
      ((State.commitManifest ((s.tagSeen req).put O.manifestLoadError 0 0) file).answerW req O.manifestFile 0 0)) ∧
    (∀ (req : Req) (mask : Byte), s.takesWrite req O.manifestAdoptUids 0 → mask.toNat < 16 → s.manifestGate = 0 →
      (((List.range 4).filter fun r => bit mask.toNat r).all s.uidsFound) → (((List.range 4).filter fun r => bit
      mask.toNat r).any (fun r => !s.has r) = false) → exec (.manifestAdoptUids req mask) s = .next ((State.commitUids
      (s.tagSeen req) mask.toNat).answerW req O.manifestAdoptUids 0 0)) ∧
    (∀ (req : Req), s.takesWrite req O.configCommand 0 → s.configLife → s.flashOk → exec (.configSave req) s = .next
      ((State.configRaise (State.saveImage (s.tagSeen req)) 0).answerW req O.configCommand 0 0)) ∧
    (∀ (req : Req) (k : Nat) (img : List Byte), s.takesWrite req O.configCommand 0 → s.configLife → s.allOpen →
      ((s.tagSeen req).bootImage = some (k, img)) → exec (.configDiscard req) s = .next (if s.nodeId =
      ((((({ (s.tagSeen req) with flash := { (s.tagSeen req).flash with configSlot := k + 1, configSeq := leAt img 16 4 } }).adopt
      (({ (s.tagSeen req) with flash := { (s.tagSeen req).flash with configSlot := k + 1, configSeq := leAt img 16 4 } }).applyEntries
      (entriesOf img)) (entriesManifest (entriesOf img)) false).configRaise 1)).answerW req O.configCommand 0
      0).nodeId then
      (((({ (s.tagSeen req) with flash := { (s.tagSeen req).flash with configSlot := k + 1, configSeq := leAt img 16 4 } }).adopt
      (({ (s.tagSeen req) with flash := { (s.tagSeen req).flash with configSlot := k + 1, configSeq := leAt img 16 4 } }).applyEntries
      (entriesOf img)) (entriesManifest (entriesOf img)) false).configRaise 1)).answerW req O.configCommand 0 0 else
      ((((({ (s.tagSeen req) with flash := { (s.tagSeen req).flash with configSlot := k + 1, configSeq := leAt img 16 4 } }).adopt
      (({ (s.tagSeen req) with flash := { (s.tagSeen req).flash with configSlot := k + 1, configSeq := leAt img 16 4 } }).applyEntries
      (entriesOf img)) (entriesManifest (entriesOf img)) false).configRaise 1)).answerW req O.configCommand 0
      0).nodeChange)) ∧
    (∀ (req : Req), s.takesWrite req O.configCommand 0 → s.configLife → s.allOpen → exec (.configFactoryDefaults req)
      s = .next (((((s.tagSeen req).adopt (s.tagSeen req).savedDefaults [] false).configRaise 2)).answerW req
      O.configCommand 0 0)) ∧
    (∀ (req : Req) (image : List Byte), s.takesWrite req O.configImage 0 → s.manifestGate = 0 → ((s.tagSeen
      req).imageCheck image = (0, 0)) → exec (.configImageImport req image) s = .next (if s.nodeId = (((((s.tagSeen
      req).putL O.configLoadError 0 [0, 0]).importImage image)).answerW req O.configImage 0 0).nodeId then
      ((((s.tagSeen req).putL O.configLoadError 0 [0, 0]).importImage image)).answerW req O.configImage 0 0 else
      (((((s.tagSeen req).putL O.configLoadError 0 [0, 0]).importImage image)).answerW req O.configImage 0
      0).nodeChange))

/-- The claim of a duplex pair and the release of its outputs: the commands of chapter 11 have their effect (completion: each command answers the next state that its rules give; spec/11_duplex_operation.md). -/
def Obligations.CompletesClaim : Prop :=
  ∀ s : State,
    (∀ (level : Bool), s.pd → s.dup.berthIn ≠ level → s.dup.mode = 0 → exec (.berthInChange level) s = .next
      ({ s with dup := { s.dup with berthIn := level, berthAt := s.mono } })) ∧
    (∀ (level : Bool), s.pd → s.dup.berthIn ≠ level → s.dup.mode ≠ 0 → exec (.berthInChange level) s = .next
      (s.berthChange level)) ∧
    (s.pd → s.dup.mode ≠ 0 → s.dup.claim = .released → s.dup.request → s.trusts → s.dup.berthIn = false → s.quiet =
      false → s.past s.dup.berthAt (if s.dup.pref then 100000 else 1000000) → exec .claimWaitExpiry s = .next
      ((s.claimNow 0).claimTrips)) ∧
    (s.pd → s.dup.mode ≠ 0 → s.dup.claim = .held → s.dup.berthIn → s.past s.dup.berthAt (if s.dup.pref then 100 else
      10) → exec .claimConflictWithdraw s = .next s.conflictWithdraw) ∧
    (s.pd → s.dup.mode ≠ 0 → s.dup.claim = .held → s.past s.dup.refreshAt 10000 → exec .claimRefreshTimeout s = .next
      (s.withdraw 1 false)) ∧
    (s.pd → s.dup.mode ≠ 0 → (s.holds ∨ s.dup.noTaker) → s.dup.berthIn → s.past s.dup.berthAt 2000 → exec
      .holdingRelease s = .next s.releaseOutputs.endHolding.activateWaiting) ∧
    (s.pd → s.dup.mode ≠ 0 → s.holds → s.past s.dup.holdAt 20000 → s.dup.berthIn = false → exec .holdingTimeout s =
      .next s.noTaker) ∧
    (s.pd → s.dup.mode ≠ 0 → s.dup.armed → s.past s.dup.armAt 10001 → exec .armingRefreshTimeout s = .next
      ({ s with dup := { s.dup with armed := false, arming := false } })) ∧
    (∀ (ring : Fin 4), s.running → s.dup.mode ≠ 0 → s.dup.out = false → s.has ring.val → s.nMon ring.val ≠ 0 → (s.gn
      O.chainRingState ring.val = 3 ∨ s.gn O.chainRingState ring.val = 4) → (s.ring ring.val).takeover = false →
      s.past (s.ring ring.val).holderTrigger (2 * s.fw.period) → exec (.standbyTakeoverSweep ring) s = .next
      ((s.ringUpd ring.val fun x => { x with takeover := true }))) ∧
    (∀ (req : Req), s.takesWrite req O.berthCommand 0 → s.berthState = 2 → s.dup.handover = 0 → s.handoverInhibit =
      false → exec (.berthHandOver req) s = .next ((State.handoverStart (s.tagSeen req)).answerW req O.berthCommand 0
      0)) ∧
    (∀ (req : Req), s.takesWrite req O.berthCommand 0 → (s.tagSeen req).berthState = 3 → s.dup.up → exec (.berthTake
      req) s = .next ((State.askHandover (s.tagSeen req) false).answerW req O.berthCommand 0 0)) ∧
    (s.running → s.dup.mode ≠ 0 → s.dup.pref → s.berthState = 3 → s.dup.up → s.past s.dup.armedSince (s.gn
      O.berthRevertTime 0 * 1000000) → s.reached s.dup.notBefore → s.handoverInhibit = false → exec .berthRevert s =
      .next (s.askHandover true))

/-- A valid frame of the duplex link, and the link's own commands, have their effect (chapter 11) (completion: each command answers the next state that its rules give; spec/11_duplex_operation.md). -/
def Obligations.CompletesDuplexLink : Prop :=
  ∀ s : State,
    (∀ (tally : BitVec 32) (tail : DupTail), s.running → s.dup.mode ≠ 0 → dupIntact (.handover 0 tally.toNat) tail →
      s.dup.out = false → s.dup.armed → s.dup.shadow.isSome → exec (.handoverOffer tally tail) s = .next
      (State.dupSend { s.dupHeard with dup := { (s.dupHeard).dup with handover := 2, handoverTally := tally.toNat } }
      (.handover 1 tally.toNat))) ∧
    (∀ (tally : BitVec 32) (tail : DupTail), s.running → s.dup.mode ≠ 0 → dupIntact (.handover 1 tally.toNat) tail →
      s.dup.out → s.dup.handover = 2 → s.dup.handoverTally = tally.toNat → exec (.handoverAccept tally tail) s = .next
      (State.withdraw { s.dupHeard with dup := { (s.dupHeard).dup with handover := 0 } } 0 false)) ∧
    (∀ (tally : BitVec 32) (tail : DupTail), s.running → s.dup.mode ≠ 0 → dupIntact (.handover 2 tally.toNat) tail →
      s.dup.out → s.dup.handover = 2 → s.dup.handoverTally = tally.toNat → exec (.handoverRefuse tally tail) s = .next
      (State.activateRefused { s.dupHeard with dup := { (s.dupHeard).dup with handover := 3 } })) ∧
    (∀ (tally : BitVec 32) (tail : DupTail), s.running → s.dup.mode ≠ 0 → dupIntact (.handover 2 tally.toNat) tail →
      s.dup.out = false → exec (.handoverRefuse tally tail) s = .next
      ({ s.dupHeard with dup := { (s.dupHeard).dup with revert := false, notBefore := s.mono + 10000000 } })) ∧
    (∀ (tally : BitVec 32) (tail : DupTail), s.running → s.dup.mode ≠ 0 → dupIntact (.handover 3 tally.toNat) tail →
      s.dup.out = false → s.dup.handoverTally = tally.toNat → s.dup.reason = 0 → exec (.handoverTaken tally tail) s =
      .next (((s.dupHeard.bump O.handoverCount 0).putL O.lastHandover 0 [0, (s.now : Nat), (s.mono - s.dup.holdAt :
      Nat)]))) ∧
    (∀ (ring : Fin 4) (command : List Byte) (latest : Nat) (tail : DupTail), s.running → s.dup.mode ≠ 0 → dupIntact
      (.chainReq ring.val command latest) tail → s.dup.out = false → s.now ≤ latest → s.has ring.val → byteAt command
      1 ≠ 0x01 → exec (.chainReq ring command latest tail) s = .next (s.dupHeard.setTrain ring.val s.headB (some
      { order := if byteAt command 1 = 0x10 then 1 else 8, frame := command, hops := s.dupHeard.frameHops ring.val command, sent := true, at' := s.mono }))) ∧
    (∀ (ring : Fin 4) (decodedAt : Nat) (frame : List Byte) (tail : DupTail), s.running → s.dup.mode ≠ 0 → dupIntact
      (.chainFwd ring.val decodedAt frame) tail → s.dup.out → decodedAt ≤ s.now + s.fw.period → bit (byteAt frame
      0).toNat 6 → byteAt frame 1 = 0x84 → exec (.chainFwd ring decodedAt frame tail) s = .next (after s.dupHeard
      (execStatus ring (!s.headB) frame s.dupHeard))) ∧
    (∀ (index : BitVec 32) (period time : Nat) (tail : DupTail), s.running → s.dup.mode ≠ 0 → dupIntact (.tally
      index.toNat period time) tail → s.dup.out = false → exec (.duplexTally index period time tail) s = .next
      (s.dupHeard.takeTally index.toNat period time)) ∧
    (∀ (m : Mirror) (tail : DupTail), s.running → s.dup.mode ≠ 0 → dupIntact (.mirror m) tail → s.dup.out = false →
      exec (.mirror m tail) s = .next (s.dupHeard.adoptMirror m)) ∧
    (∀ (h : Hello) (tail : DupTail), s.running → s.dup.mode ≠ 0 → dupIntact (.hello h) tail → exec (.hello h tail) s =
      .next (s.dupHeard.takeHello h)) ∧
    (∀ (payload : List Byte) (tail : DupTail), s.running → s.dup.mode ≠ 0 → dupIntact (.ringDelays payload) tail →
      payload.length = 68 → exec (.ringDelays payload tail) s = .next (s.dupHeard.takeDelays payload)) ∧
    (s.running → s.dup.mode ≠ 0 → s.dup.up → s.past s.dup.validAt 1000 → exec .duplexLinkDown s = .next (State.raise
      { s with dup := { s.dup with up := false } } 0xED 0)) ∧
    (s.running → s.dup.mode ≠ 0 → s.dup.up = false → s.dup.validAt ≠ 0 → s.past s.dup.validAt 1000 = false → s.past
      s.dup.validSince 100000 → exec .duplexLinkUp s = .next (State.raise { s with dup := { s.dup with up := true } }
      0xED 1)) ∧
    (s.running → s.dup.mode ≠ 0 → (s.dup.sent = []) → s.past s.dup.sentAt 100 → exec .duplexHelloSend s = .next
      s.helloSend)

/-- The harbour log's commands have their effect (chapter 12) (completion: each command answers the next state that its rules give; spec/12_harbour_log.md). -/
def Obligations.CompletesLog : Prop :=
  ∀ s : State,
    (∀ (r : LogRec), s.cd → s.log.open' = some r → s.past r.opened 10000000 → exec .logRecordSealTimeout s = .next
      s.logSeal) ∧
    (∀ (failing : List (Fin 256)), s.running → s.flashOk → s.otp.retired = false → exec (.logProgram failing) s =
      .next (State.logProgramAll { s with log := { s.log with failing := s.log.failing ++ failing.map Fin.val } })) ∧
    (s.cd → (s.log.supp.all (fun c => c == 0) = false) → s.past s.log.suppAt 60000000 → exec .logSuppressedReport s =
      .next (State.logInternal
      { s with log := { s.log with supp := [0, 0, 0, 0], suppAt := s.log.suppAt + 60000000 } } 0xB209 1 (le 4
      (s.log.supp.getD 0 0) ++ le 4 (s.log.supp.getD 1 0) ++ le 4 (s.log.supp.getD 2 0) ++ le 4 (s.log.supp.getD 3 0)
      ++ le 8 s.log.suppFirst))) ∧
    (∀ (req : Req) (code : BitVec 32), s.takesWrite req O.logClear 0 → (s.tagSeen req).authOk req → (s.lifecycle = 1 ∨
      s.lifecycle = 3) → s.flashOk → code.toNat = s.logClearCode → exec (.logClear req code) s = .next
      (((State.logClearRun (s.tagSeen req) req.src req.link.val).tamper 5).answerW req O.logClear 0 0)) ∧
    (∀ (vauxMv : Nat), s.running → s.pwr.flushed = false → vauxMv < 17000 → exec (.logFlushLevel vauxMv) s = .next
      (State.logFlush { s.readVaux vauxMv with pwr := { (s.readVaux vauxMv).pwr with flushed := true } } 0))

/-- Supply levels, power-on and resets: the commands of chapter 13 have their effect (completion: each command answers the next state that its rules give; spec/13_startup_moored_lifecycle.md). -/
def Obligations.CompletesSupply : Prop :=
  ∀ s : State,
    (∀ (vauxMv : Nat), s.running → s.pwr.flushed → 17000 ≤ vauxMv → exec (.supplyRecovery vauxMv) s = .next
      (s.supplyBack vauxMv)) ∧
    (∀ (vauxMv : Nat), s.pd → s.pwr.warning = false → vauxMv < 15000 → exec (.brownOutWarning vauxMv) s = .next
      (s.warn vauxMv)) ∧
    (∀ (vauxMv : Nat), s.pd → s.pwr.warning → 16000 ≤ vauxMv → exec (.brownOutClear vauxMv) s = .next
      ((State.lsBrownOutEnd { s.withVaux vauxMv with pwr := { (s.withVaux vauxMv).pwr with warning := false } }).raise
      0xE0 1)) ∧
    (∀ (vauxMv : Nat), s.pwr.started → vauxMv < 11000 → exec (.powerDieReset vauxMv) s = .next ((s.withVaux
      vauxMv).pdReset)) ∧
    (∀ (vddcMv vddioMv : Nat), s.pd → (vddcMv < 700 ∨ 900 < vddcMv ∨ vddioMv < 3000 ∨ 3600 < vddioMv) → exec
      (.regulatorFault vddcMv vddioMv) s = .next s.pdReset) ∧
    (∀ (vauxMv : Nat), s.pwr.started = false → 16000 ≤ vauxMv → exec (.powerOn vauxMv) s = .next
      ({ s.withVaux vauxMv with pwr := { (s.withVaux vauxMv).pwr with started := true, startAt := s.mono }, clk := { s.clk with rtcRunning := false } })) ∧
    (∀ (berthPref : Bool), s.pwr.started → s.pwr.pdUp = false → s.past s.pwr.startAt 5000 → exec
      (.powerDieResetRelease berthPref) s = .next (s.pdRelease berthPref)) ∧
    (s.pd → s.cd = false → s.pwr.holdClock = false → s.pwr.holdResetN = false → s.pwr.mooring ≠ .watch → s.pwr.mooring
      ≠ .dark → exec .computeDieResetRelease s = .next s.cdRelease) ∧
    (∀ (c : StartupChecks), s.cd → s.fw.scanned = false → exec (.startupComplete c) s = .next (s.startUp c)) ∧
    (s.pd → s.pwr.holdResetN = false → s.cd → exec .resetNAssert s = .next
      ({ s.cdReset 8 with pwr := { (s.cdReset 8).pwr with holdResetN := true } })) ∧
    (s.pd → s.pwr.holdResetN = false → s.cd = false → exec .resetNAssert s = .next
      ({ s with pwr := { s.pwr with holdResetN := true } })) ∧
    (s.pd → s.pwr.holdResetN → exec .resetNRelease s = .next (State.releaseIfFree
      { s with pwr := { s.pwr with holdResetN := false } })) ∧
    (∀ (req : Req) (value : Nat), s.takesWrite req O.deviceResetCommand 0 → s.anyEnergised = false → value = 1 → exec
      (.deviceResetCommand req value) s = .next (((s.tagSeen req).answerW req O.deviceResetCommand 0 0).cdReset 9)) ∧
    (∀ (req : Req), s.takesWrite req O.mooredCommand 0 → s.allOpen → s.otest.string = none → s.pwr.mooring = .none →
      (s.dup.mode = 0 ∨ s.dup.out = false ∨ s.dup.up = false) → exec (.mooredWatchCommand req) s = .next
      ((State.moorStart (s.tagSeen req) .enterWatch 0).answerW req O.mooredCommand 0 0)) ∧
    (∀ (req : Req), s.takesWrite req O.mooredCommand 0 → s.allOpen → s.otest.string = none → s.pwr.mooring = .none →
      (s.dup.mode = 0 ∨ s.dup.out = false ∨ s.dup.up = false) → exec (.mooredDarkCommand req) s = .next
      ((State.moorStart (s.tagSeen req) .enterDark 1).answerW req O.mooredCommand 0 0)) ∧
    (s.running → s.mooring → s.pwr.moorStep = 2 → (s.ev.pending = []) → exec .mooredEntryComplete s = .next
      s.moorDone) ∧
    (∀ (w : WakeSource), s.pwr.pdUp → s.pwr.mooring = .watch → bit (s.gn O.mooredWakeMask 0) (wakeBit w) → s.wakeMet w
      → exec (.mooredWake w) s = .next ((forEach (List.range 4)
      { s with pwr := { s.pwr with mooring := .none, cause := wakeBit w + 1 }, wd := { s.wd with absentSince := s.mono } }
      State.pairWake).newWindow)) ∧
    (∀ (at' : Nat), s.running → s.fw.lowSince = some at' → s.past at' 60000000 → s.darkDue → s.pwr.mooring = .none →
      s.otest.string = none → (s.dup.mode = 0 ∨ s.dup.out = false ∨ s.dup.up = false) → exec .mooredDarkAuto s = .next
      (s.moorStart .enterDark 2))

/-- Keys, life-cycle, tamper and firmware: the commands of chapter 13 have their effect (completion: each command answers the next state that its rules give; spec/13_startup_moored_lifecycle.md). -/
def Obligations.CompletesLifecycle : Prop :=
  ∀ s : State,
    (∀ (req : Req) (blob : List Byte) (k : Nat), s.takesWrite req O.siteKeyWrite 0 → ((List.range 4).find? (fun k =>
      !mhas s.otp.siteKeys k) = some k) → s.keyCheck ((s.tagSeen req).authOk req) 32 (some k) blob = 0 → exec
      (.siteKeyWrite req blob) s = .next ((State.sessionEnd
      { (s.tagSeen req) with otp := { s.otp with siteKeys := mins s.otp.siteKeys k (s.unwrap ((blob.drop 4).take 16) ((blob.drop 20).take 32)) } }).answerW
      req O.siteKeyWrite 0 0)) ∧
    (∀ (req : Req) (ring : Fin 4) (blob : List Byte) (k : Nat), s.takesWrite req O.moduleKeyWrite ring.val →
      (((List.range 4).map fun g => ring.val * 4 + g).find? (fun k => !mhas s.otp.moduleKeys k) = some k) → s.keyCheck
      ((s.tagSeen req).authOk req) 16 (some (0x10 + k)) blob = 0 → (s.gn O.chainRingState ring.val = 3 ∨ s.gn
      O.chainRingState ring.val = 4) → exec (.moduleKeyWrite req ring blob) s = .next ((forEach (List.range (s.nMon
      ring.val))
      { (s.tagSeen req) with otp := { s.otp with moduleKeys := mins s.otp.moduleKeys k (s.unwrap ((blob.drop 4).take 16) ((blob.drop 20).take 16)) } }
      fun s p => s.authStart ring.val p).answerW req O.moduleKeyWrite ring.val 0)) ∧
    (∀ (req : Req) (ring : Fin 4) (blob : List Byte) (k : Nat), s.takesWrite req O.moduleKeyWrite ring.val →
      (((List.range 4).map fun g => ring.val * 4 + g).find? (fun k => !mhas s.otp.moduleKeys k) = some k) → s.keyCheck
      ((s.tagSeen req).authOk req) 16 (some (0x10 + k)) blob = 0 → s.gn O.chainRingState ring.val ≠ 3 → s.gn
      O.chainRingState ring.val ≠ 4 → exec (.moduleKeyWrite req ring blob) s = .next
      (({ (s.tagSeen req) with otp := { s.otp with moduleKeys := mins s.otp.moduleKeys k (s.unwrap ((blob.drop 4).take 16) ((blob.drop 20).take 16)) } }).answerW
      req O.moduleKeyWrite ring.val 0)) ∧
    (∀ (req : Req) (value : BitVec 32), s.takesWrite req O.lifeCycleCommand 0 → (value.toNat / 256 = 0) → s.lifecycle
      = 0 → mhas s.otp.siteKeys 0 → s.flashOk → exec (.lifecycleCommission req value) s = .next ((State.commission
      (s.tagSeen req)).answerW req O.lifeCycleCommand 0 0)) ∧
    (∀ (req : Req) (value : BitVec 32), s.takesWrite req O.lifeCycleCommand 0 → (value.toNat / 256 = 0) → (s.lifecycle
      = 1 ∨ s.lifecycle = 3) → s.lifeCycleBlock = 0 → s.flashOk → exec (.lifecycleInService req value) s = .next
      ((State.enterLife (s.tagSeen req) 2).answerW req O.lifeCycleCommand 0 0)) ∧
    (∀ (req : Req) (value : BitVec 32), s.takesWrite req O.lifeCycleCommand 0 → (value.toNat / 256 = 0) → s.lifecycle
      = 2 → s.flashOk → exec (.lifecycleMaintenance req value) s = .next ((State.enterLife (s.tagSeen req) 3).answerW
      req O.lifeCycleCommand 0 0)) ∧
    (∀ (req : Req) (value : BitVec 32), s.takesWrite req O.lifeCycleCommand 0 → (value.toNat / 256 = s.retireCode) →
      (s.lifecycle = 1 ∨ s.lifecycle = 2 ∨ s.lifecycle = 3) → s.allOpen → s.flashOk → exec (.lifecycleRetire req
      value) s = .next ((State.retire (s.tagSeen req)).answerW req O.lifeCycleCommand 0 0)) ∧
    (∀ (req : Req) (mask : BitVec 32), s.takesWrite req O.tamperAcknowledge 0 → mask.toNat < 512 → (s.lifecycle = 1 ∨
      s.lifecycle = 3) → s.flashOk → exec (.tamperAcknowledge req mask) s = .next ((((State.journal
      { (s.tagSeen req) with fw := { s.fw with tamper := s.fw.tamper - Nat.land s.fw.tamper mask.toNat } } 4 0 (le 4
      (s.fw.tamper - Nat.land s.fw.tamper mask.toNat))).raise 0xF8 0x80)).answerW req O.tamperAcknowledge 0 0)) ∧
    (∀ (req : Req), s.takesWrite req O.firmwareCommand 0 → s.fwGate = 0 → ((s.slot (1 - s.otherSlot)).st ≠ 6) → exec
      (.firmwareBegin req) s = .next ((State.slotUpd (s.tagSeen req) s.otherSlot fun _ => { st := 1 }).answerW req
      O.firmwareCommand 0 0)) ∧
    (s.running → (s.slot s.otherSlot).st = 1 → exec .firmwareEraseDone s = .next ((s.slotUpd s.otherSlot fun _ =>
      { st := 2 }).eraseAll (16 * s.otherSlot))) ∧
    (∀ (req : Req) (chunk : Fin 64) (bytes : List Byte), s.takesWrite req O.firmwareChunk chunk.val → s.fwGate = 0 →
      (s.slot s.otherSlot).st = 2 → (chunk.val = 0 ∨ mhas (s.slot s.otherSlot).chunks 0) → (chunk.val ≠ 0 ∨ 12 ≤
      bytes.length) → (bytes ≠ []) → bytes.length = chunkLen (if chunk.val = 0 then leAt bytes 8 4 else (s.slot
      s.otherSlot).imageLen) chunk.val → mhas (s.slot s.otherSlot).chunks chunk.val = false → exec
      (.firmwareChunkWrite req chunk bytes) s = .next ((State.slotUpd (s.tagSeen req) s.otherSlot fun x =>
      { x with chunks := mins x.chunks chunk.val bytes }).answerW req O.firmwareChunk chunk.val 0)) ∧
    (∀ (req : Req) (c : Nat), s.takesWrite req O.firmwareCommand 0 → s.fwGate = 0 → (s.slot s.otherSlot).st = 2 →
      (s.tagSeen req).fwCheck (s.slot s.otherSlot) = c → exec (.firmwareVerify req) s = .next (if c = 0 then
      ((State.slotUpd ((s.tagSeen req).put O.firmwareVerifyError 0 0) s.otherSlot fun x =>
      { x with st := 3, version := leAt (mget [] (s.slot s.otherSlot).chunks 0) 12 4, security := leAt (mget [] (s.slot s.otherSlot).chunks 0) 16 2 }).raise
      0xF7 0).answerW req O.firmwareCommand 0 0 else if c = 5 ∨ c = 6 then (((State.slotUpd ((s.tagSeen req).put
      O.firmwareVerifyError 0 (c : Int)) s.otherSlot fun x => { x with st := 4 }).raise 0xF7 1).tamper 4).answerW req
      O.firmwareCommand 0 0x0306 else ((State.slotUpd ((s.tagSeen req).put O.firmwareVerifyError 0 (c : Int))
      s.otherSlot fun x => { x with st := 4 }).raise 0xF7 1).answerW req O.firmwareCommand 0 0x0306)) ∧
    (∀ (req : Req), s.takesWrite req O.firmwareCommand 0 → s.fwGate = 0 → (s.slot s.otherSlot).st = 3 → s.dup.mode = 0
      → s.anyEnergised = false → exec (.firmwareActivate req) s = .next (((s.tagSeen req).answerW req
      O.firmwareCommand 0 0).activateNow)) ∧
    (∀ (req : Req), s.takesWrite req O.firmwareCommand 0 → s.fwGate = 0 → (s.slot s.otherSlot).st ≠ 5 → (s.slot
      s.otherSlot).st ≠ 6 → exec (.firmwareAbort req) s = .next ((State.slotUpd (s.tagSeen req) s.otherSlot fun _ =>
      {}).answerW req O.firmwareCommand 0 0)) ∧
    (∀ (k : Nat), s.running → s.flashOk → s.flash.booted = some k → s.fw.startup = false → (s.slot k).st = 6 → s.past
      s.fw.startedAt (s.gn O.firmwareTrialTime 0 * 1000000) → exec .firmwareTrialConfirm s = .next (s.trialConfirm k))

/-- Die sensors, throttling, thermal shedding and background work: the commands of chapter 14 have their effect (completion: each command answers the next state that its rules give; spec/14_thermal_background.md). -/
def Obligations.CompletesThermal : Prop :=
  ∀ s : State,
    (∀ (readings : List Int), s.pd → exec (.dieSensorConversion readings) s = .next (s.sensorsRead readings)) ∧
    (∀ (sensor : Fin 12) (late : Bool), s.pd → (6 ≤ sensor.val ∨ s.cd) → s.sensorBroken sensor.val = false →
      s.sensorFails sensor.val late → exec (.dieSensorBroken sensor late) s = .next ((s.sensorBreak
      sensor.val).deriveTemps)) ∧
    (s.pd → s.th.frameLost = false → s.past s.th.frameAt 10000 → exec .dieTempFrameTimeout s = .next
      (State.deriveTemps { s with th := { s.th with frameLost := true } })) ∧
    (∀ (scope : Fin 4) (stage : Fin 5), s.pd → (scope.val = 3 ∨ s.cd) → stage.val ∈ scopeStages scope.val → s.gn
      O.throttleStage scope.val < stage.val → 3 ≤ mget 0 (s.scope scope.val).hits stage.val → exec
      (.throttleStageEnter scope stage) s = .next (s.stageEnter scope.val stage.val)) ∧
    (∀ (scope : Fin 4) (stage : Fin 5), s.pd → (scope.val = 3 ∨ s.cd) → stage.val ∈ scopeStages scope.val → s.gn
      O.throttleStage scope.val = stage.val → mhas (s.scope scope.val).below stage.val → s.past (mget 0 (s.scope
      scope.val).below stage.val) 100000 → exec (.throttleStageLeave scope stage) s = .next (s.stageLeave scope.val
      stage.val)) ∧
    (s.pd → 3 ≤ s.gn O.throttleStage 3 → s.shedDue → exec .thermalShed s = .next s.thermalShed) ∧
    (∀ (c : Nat × Bool × Nat), s.restorePick true = some c → s.pd → s.gn O.throttleStage 3 < 3 → s.past s.th.restoreAt
      10000000 → exec .thermalRestore s = .next (State.restoreOne { s with th := { s.th with restoreAt := s.mono } } c
      true)) ∧
    (∀ (corrected : Nat), s.running → s.past (max s.fw.scrubAt s.pwr.cdSince) 10000000 → exec (.scrubPass corrected) s
      = .next (((State.bump { s with fw := { s.fw with scrubAt := s.mono } } O.scrubPassCount 0).put O.sramEccCount 0
      (s.gi O.sramEccCount 0 + corrected)).ranWork 0)) ∧
    (∀ (conv : Fin 8) (ppm : Int), s.pd → conv.val ∈ s.converters → s.calDue conv.val → s.latchNear = false → exec
      (.converterCalibration conv ppm) s = .next (s.calibrated conv.val ppm)) ∧
    (∀ (c : Integrity), s.running → s.flashOk → s.past (max s.fw.integrityAt s.pwr.cdSince) 86400000000 → exec
      (.integrityCheck c) s = .next ((State.integrity { s with fw := { s.fw with integrityAt := s.mono } } c
      true).ranWork 3)) ∧
    (∀ (req : Req) (value : BitVec 32), s.takesWrite req O.deviceSelfTestRequest 0 → s.ready → s.shotGate 5
      value.toNat false = none → (value.toNat / 65536 ≠ 0) → (value.toNat % 65536 < 32) → (value.toNat % 65536 ≠ 0) →
      (s.deviceTestRuns (value.toNat % 65536)) → exec (.deviceSelfTestRequest req value) s = .next
      ((State.selfTestTrains
      { (State.shotStart (s.tagSeen req) 5 (value.toNat / 65536) (value.toNat % 65536)) with th := { (s.tagSeen req).th with test := {} } }
      (value.toNat % 65536)).answerW req O.deviceSelfTestRequest 0 0)) ∧
    (∀ (found : TestFound) (q t : Nat), s.running → ((s.shot 5).pending = some (q, t)) → s.deviceTestRuns t →
      s.deviceTestOver t → exec (.deviceSelfTestDone found) s = .next (s.deviceTested q t found))
end

