-- ==== Sys2Proof/Laws/Bytes.lean ====
section
/-! SUPPORT. Sys2Proof/Laws/Bytes.lean: the little-endian fields of stored and sent bytes (R7). -/

namespace Sys2Proof.Machine

theorem length_le (n v : Nat) : (le n v).length = n := by
  induction n generalizing v with
  | zero => rfl
  | succ n ih => simp [le, ih]

theorem ofLe_le (n v : Nat) : ofLe (le n v) = v % 256 ^ n := by
  induction n generalizing v with
  | zero => simp [le, ofLe, Nat.mod_one]
  | succ n ih =>
    simp only [le, ofLe, ih, BitVec.toNat_ofNat]
    have h : (256 : Nat) ^ (n + 1) = 256 * 256 ^ n := by rw [Nat.pow_succ, Nat.mul_comm]
    rw [h, Nat.mod_mul]

/-- A field at the front of a layout. -/
theorem leAt_front (n v : Nat) (b : List Byte) : leAt (le n v ++ b) 0 n = v % 256 ^ n := by
  rw [leAt, List.drop_zero, List.take_left' (length_le n v), ofLe_le]

/-- A field behind `a`. -/
theorem leAt_behind (a b : List Byte) (k n : Nat) : leAt (a ++ b) (a.length + k) n = leAt b k n := by
  rw [leAt, leAt, ← List.drop_drop, List.drop_left' rfl]

/-- The CRC of a layout is a 32-bit number. -/
theorem crc32_lt (b : List Byte) : crc32 b < 2 ^ 32 := by
  have hbit : ∀ c, c < 2 ^ 32 → crc32Bit c < 2 ^ 32 := by
    intro c h
    unfold crc32Bit
    split
    · exact Nat.xor_lt_two_pow (by omega) (by decide)
    · omega
  have hbyte : ∀ c (x : Byte), c < 2 ^ 32 → crc32Byte c x < 2 ^ 32 := by
    intro c x h
    have hx : c.xor x.toNat < 2 ^ 32 := Nat.xor_lt_two_pow h (by omega)
    exact hbit _ (hbit _ (hbit _ (hbit _ (hbit _ (hbit _ (hbit _ (hbit _ hx)))))))
  have hfold : ∀ (l : List Byte) c, c < 2 ^ 32 → l.foldl crc32Byte c < 2 ^ 32 := by
    intro l
    induction l with
    | nil => exact fun _ h => h
    | cons x l ih => exact fun c h => ih _ (hbyte c x h)
  exact Nat.xor_lt_two_pow (hfold b _ (by decide)) (by decide)

/-- A byte behind `a`. -/
theorem byteAt_behind (a b : List Byte) (k : Nat) : byteAt (a ++ b) (a.length + k) = byteAt b k := by
  simp [byteAt, List.getElem?_append_right]

end Sys2Proof.Machine
end

