-- ==== Sys2Proof/Laws/Maps.lean ====
section
/-! SUPPORT. Sys2Proof/Laws/Maps.lean: the laws of sparse maps: what a read after a write gives, and that every operation
keeps the canonical form. -/

namespace Sys2Proof.Machine

variable {α : Type}

@[simp] theorem mget_nil (d : α) (k : Nat) : mget d [] k = d := rfl

theorem mget_cons (d : α) (a : Nat) (v : α) (m : SMap α) (k : Nat) :
    mget d ((a, v) :: m) k = if a = k then v else mget d m k := rfl

/-- A read after listing the key gives the value. -/
@[simp] theorem mget_mins_same (d : α) (m : SMap α) (k : Nat) (v : α) : mget d (mins m k v) k = v := by
  induction m with
  | nil => simp [mins, mget]
  | cons e m ih =>
    obtain ⟨a, w⟩ := e
    unfold mins
    split
    · simp [mget]
    · split
      · simp [mget]
      · rename_i h
        rw [mget_cons, if_neg (fun h' => h h'.symm), ih]

/-- Listing a key leaves every other key as it was. -/
theorem mget_mins_other (d : α) (m : SMap α) (k j : Nat) (v : α) (h : j ≠ k) : mget d (mins m k v) j = mget d m j := by
  induction m with
  | nil => simp [mins, mget, h.symm]
  | cons e m ih =>
    obtain ⟨a, w⟩ := e
    unfold mins
    split
    · simp [mget, h.symm]
    · split
      · rename_i h1 h2
        subst h2
        simp [mget, h.symm]
      · simp [mget, ih]

/-- Taking a key out leaves every other key as it was. -/
theorem mget_mdel_other (d : α) (m : SMap α) (k j : Nat) (h : j ≠ k) : mget d (mdel m k) j = mget d m j := by
  induction m with
  | nil => rfl
  | cons e m ih =>
    obtain ⟨a, w⟩ := e
    unfold mdel
    split
    · rename_i h1
      subst h1
      simp [mget, h.symm]
    · simp [mget, ih]

/-- A write leaves every other key as it was. -/
theorem mget_mset_other [DecidableEq α] (d d' : α) (m : SMap α) (k j : Nat) (v : α) (h : j ≠ k) :
    mget d' (mset d m k v) j = mget d' m j := by
  unfold mset
  split
  · exact mget_mdel_other d' m k j h
  · exact mget_mins_other d' m k j v h

section wf
variable [DecidableEq α] (d : Nat → α)

@[simp] theorem mwf_nil (lo : Option Nat) : mwfFrom d lo [] = true := by cases lo <;> rfl

/-- The canonical form of a list, head first. -/
theorem mwf_cons (lo : Option Nat) (a : Nat) (v : α) (m : SMap α) :
    mwfFrom d lo ((a, v) :: m) = true ↔ (∀ l, lo = some l → l < a) ∧ v ≠ d a ∧ mwfFrom d (some a) m = true := by
  cases lo <;> simp [mwfFrom, and_assoc]

/-- A lower bound may fall. -/
theorem mwf_mono (lo lo' : Option Nat) (m : SMap α) (h : ∀ l', lo' = some l' → ∃ l, lo = some l ∧ l' ≤ l)
    (hm : mwfFrom d lo m = true) : mwfFrom d lo' m = true := by
  cases m with
  | nil => simp
  | cons e m =>
    obtain ⟨a, v⟩ := e
    rw [mwf_cons] at hm ⊢
    refine ⟨fun l' hl' => ?_, hm.2⟩
    obtain ⟨l, hl, hle⟩ := h l' hl'
    exact lt_of_le_of_lt hle (hm.1 l hl)

theorem mwf_none (lo : Option Nat) (m : SMap α) (hm : mwfFrom d lo m = true) : mwfFrom d none m = true :=
  mwf_mono d lo none m (by simp) hm

/-- A key below all listed keys is not listed. -/
theorem mget_above (x : α) (m : SMap α) (k : Nat) (hm : mwfFrom d (some k) m = true) : mget x m k = x := by
  induction m generalizing k with
  | nil => rfl
  | cons e m ih =>
    obtain ⟨a, v⟩ := e
    rw [mwf_cons] at hm
    have hk : k < a := hm.1 k rfl
    rw [mget_cons, if_neg (by omega)]
    exact ih k (mwf_mono d (some a) (some k) m (by intro l' h; cases h; exact ⟨a, rfl, by omega⟩) hm.2.2)

/-- Taking a key out keeps the canonical form. -/
theorem mwf_mdel (lo : Option Nat) (m : SMap α) (k : Nat) (hm : mwfFrom d lo m = true) : mwfFrom d lo (mdel m k) = true := by
  induction m generalizing lo with
  | nil => simp [mdel]
  | cons e m ih =>
    obtain ⟨a, v⟩ := e
    have h := (mwf_cons d lo a v m).1 hm
    unfold mdel
    split
    · refine mwf_mono d (some a) lo m (fun l' hl' => ⟨a, rfl, ?_⟩) h.2.2
      exact le_of_lt (h.1 l' hl')
    · rw [mwf_cons]
      exact ⟨h.1, h.2.1, ih _ h.2.2⟩

/-- Listing a key with a value that is not its default keeps the canonical form. -/
theorem mwf_mins (lo : Option Nat) (m : SMap α) (k : Nat) (v : α) (hv : v ≠ d k) (hlo : ∀ l, lo = some l → l < k)
    (hm : mwfFrom d lo m = true) : mwfFrom d lo (mins m k v) = true := by
  induction m generalizing lo with
  | nil => rw [mins, mwf_cons]; exact ⟨hlo, hv, by simp⟩
  | cons e m ih =>
    obtain ⟨a, w⟩ := e
    have h := (mwf_cons d lo a w m).1 hm
    unfold mins
    split
    · rename_i hk
      rw [mwf_cons, mwf_cons]
      exact ⟨hlo, hv, fun l hl => by cases hl; exact hk, h.2⟩
    · split
      · rename_i hk
        subst hk
        rw [mwf_cons]
        exact ⟨hlo, hv, h.2.2⟩
      · rw [mwf_cons]
        exact ⟨h.1, h.2.1, ih _ (fun l hl => by cases hl; omega) h.2.2⟩

/-- A write keeps the canonical form. -/
theorem mwf_mset (m : SMap α) (k : Nat) (v : α) (hm : mwfFrom d none m = true) :
    mwfFrom d none (mset (d k) m k v) = true := by
  unfold mset
  split
  · exact mwf_mdel d none m k hm
  · rename_i h
    exact mwf_mins d none m k v h (by simp) hm

/-- Leaving entries out keeps the canonical form. -/
theorem mwf_filter (lo : Option Nat) (m : SMap α) (p : Nat × α → Bool) (hm : mwfFrom d lo m = true) :
    mwfFrom d lo (m.filter p) = true := by
  induction m generalizing lo with
  | nil => simp
  | cons e m ih =>
    obtain ⟨a, v⟩ := e
    have h := (mwf_cons d lo a v m).1 hm
    by_cases hp : p (a, v)
    · rw [List.filter_cons_of_pos hp, mwf_cons]
      exact ⟨h.1, h.2.1, ih _ h.2.2⟩
    · rw [List.filter_cons_of_neg hp]
      exact ih _ (mwf_mono d (some a) lo m (fun l' hl' => ⟨a, rfl, le_of_lt (h.1 l' hl')⟩) h.2.2)

/-- A key taken out of the canonical form reads as what an unlisted key reads as. -/
theorem mget_mdel_same (x : α) (lo : Option Nat) (m : SMap α) (k : Nat) (hm : mwfFrom d lo m = true) :
    mget x (mdel m k) k = x := by
  induction m generalizing lo with
  | nil => rfl
  | cons e m ih =>
    obtain ⟨a, v⟩ := e
    have h := (mwf_cons d lo a v m).1 hm
    unfold mdel
    split
    · rename_i ha
      subst ha
      exact mget_above d x m a h.2.2
    · rename_i ha
      rw [mget_cons, if_neg ha]
      exact ih _ h.2.2

/-- A read after a write gives the value written, in the canonical form. -/
theorem mget_mset_same (m : SMap α) (k : Nat) (v : α) (hm : mwfFrom d none m = true) :
    mget (d k) (mset (d k) m k v) k = v := by
  unfold mset
  split
  · rename_i h
    rw [h]
    exact mget_mdel_same d (d k) none m k hm
  · simp

end wf

end Sys2Proof.Machine
end

