-- ==== Sys2Proof/Laws/Canonical.lean ====
section
/-! SUPPORT. Sys2Proof/Laws/Canonical.lean: every operation and every command keeps the canonical form of the stored state (`State.canonical`)
(the base, the shared operations, the log and the queues). -/

namespace Sys2Proof.Machine

theorem recordsWf_mset {α : Type} [DecidableEq α] (d : α) (m : SMap α) (k v) (h : recordsWf d m) : recordsWf d (mset d m k v)
    := mwf_mset (fun _ => d) m k v h

@[simp] theorem State.canonical.mk_iff (pending variant objs otp clk pwr wd linkP linkC refused drivers ls motors vmot gov
    pairs strs rings monitors cells temps chans capture ev fab shots otest qlp log flash dup th fw) :
  State.canonical ⟨pending, variant, objs, otp, clk, pwr, wd, linkP, linkC, refused, drivers, ls, motors, vmot, gov, pairs, strs, rings, monitors, cells, temps, chans, capture, ev, fab, shots, otest, qlp, log, flash, dup, th, fw⟩ ↔
  (objectsWf variant objs ∧ driversWf drivers ∧ loadSwitchesWf ls ∧ motorsWf motors ∧ pairsWf pairs ∧ strsWf strs ∧ ringsWf rings ∧ monitorsWf monitors ∧ cellsWf cells ∧ tempsWf temps ∧ chansWf chans ∧ shotsWf shots) := Iff.rfl

@[simp] theorem cw_objs {s : State} (h : s.canonical) : objectsWf s.variant s.objs := h.1

@[simp] theorem cw_drivers {s : State} (h : s.canonical) : driversWf s.drivers := h.2.1

@[simp] theorem cw_ls {s : State} (h : s.canonical) : loadSwitchesWf s.ls := h.2.2.1

@[simp] theorem cw_motors {s : State} (h : s.canonical) : motorsWf s.motors := h.2.2.2.1

@[simp] theorem cw_pairs {s : State} (h : s.canonical) : pairsWf s.pairs := h.2.2.2.2.1

@[simp] theorem cw_strs {s : State} (h : s.canonical) : strsWf s.strs := h.2.2.2.2.2.1

@[simp] theorem cw_rings {s : State} (h : s.canonical) : ringsWf s.rings := h.2.2.2.2.2.2.1

@[simp] theorem cw_monitors {s : State} (h : s.canonical) : monitorsWf s.monitors := h.2.2.2.2.2.2.2.1

@[simp] theorem cw_cells {s : State} (h : s.canonical) : cellsWf s.cells := h.2.2.2.2.2.2.2.2.1

@[simp] theorem cw_temps {s : State} (h : s.canonical) : tempsWf s.temps := h.2.2.2.2.2.2.2.2.2.1

@[simp] theorem cw_chans {s : State} (h : s.canonical) : chansWf s.chans := h.2.2.2.2.2.2.2.2.2.2.1

@[simp] theorem cw_shots {s : State} (h : s.canonical) : shotsWf s.shots := h.2.2.2.2.2.2.2.2.2.2.2

@[simp] theorem driversWf_nil : driversWf [] := rfl

@[simp] theorem driversWf_filter (m : SMap Driver) (p) (h : driversWf m) : driversWf (m.filter p) := mwf_filter _ _ _ _ h

@[simp] theorem driversWf_mset (m : SMap Driver) (k v) (h : driversWf m) : driversWf (mset {} m k v) := by unfold driversWf at *; exact recordsWf_mset _ m k v h

@[simp] theorem loadSwitchesWf_nil : loadSwitchesWf [] := rfl

@[simp] theorem loadSwitchesWf_filter (m : SMap LoadSw) (p) (h : loadSwitchesWf m) : loadSwitchesWf (m.filter p) :=
    mwf_filter _ _ _ _ h

@[simp] theorem loadSwitchesWf_mset (m : SMap LoadSw) (k v) (h : loadSwitchesWf m) : loadSwitchesWf (mset {} m k v) := by unfold loadSwitchesWf at *; exact recordsWf_mset _ m k v h

@[simp] theorem motorsWf_nil : motorsWf [] := rfl

@[simp] theorem motorsWf_filter (m : SMap Motor) (p) (h : motorsWf m) : motorsWf (m.filter p) := mwf_filter _ _ _ _ h

@[simp] theorem motorsWf_mset (m : SMap Motor) (k v) (h : motorsWf m) : motorsWf (mset {} m k v) := by unfold motorsWf at *; exact recordsWf_mset _ m k v h

@[simp] theorem pairsWf_nil : pairsWf [] := rfl

@[simp] theorem pairsWf_filter (m : SMap Pair) (p) (h : pairsWf m) : pairsWf (m.filter p) := mwf_filter _ _ _ _ h

@[simp] theorem pairsWf_mset (m : SMap Pair) (k v) (h : pairsWf m) : pairsWf (mset {} m k v) := by unfold pairsWf at *; exact recordsWf_mset _ m k v h

@[simp] theorem strsWf_nil : strsWf [] := rfl

@[simp] theorem strsWf_filter (m : SMap Str) (p) (h : strsWf m) : strsWf (m.filter p) := mwf_filter _ _ _ _ h

@[simp] theorem strsWf_mset (m : SMap Str) (k v) (h : strsWf m) : strsWf (mset {} m k v) := by unfold strsWf at *; exact recordsWf_mset _ m k v h

@[simp] theorem ringsWf_nil : ringsWf [] := rfl

@[simp] theorem ringsWf_filter (m : SMap Ring) (p) (h : ringsWf m) : ringsWf (m.filter p) := mwf_filter _ _ _ _ h

@[simp] theorem ringsWf_mset (m : SMap Ring) (k v) (h : ringsWf m) : ringsWf (mset {} m k v) := by unfold ringsWf at *; exact recordsWf_mset _ m k v h

@[simp] theorem monitorsWf_nil : monitorsWf [] := rfl

@[simp] theorem monitorsWf_filter (m : SMap Monitor) (p) (h : monitorsWf m) : monitorsWf (m.filter p) := mwf_filter _ _ _ _ h

@[simp] theorem monitorsWf_mset (m : SMap Monitor) (k v) (h : monitorsWf m) : monitorsWf (mset {} m k v) := by unfold monitorsWf at *; exact recordsWf_mset _ m k v h

@[simp] theorem cellsWf_nil : cellsWf [] := rfl

@[simp] theorem cellsWf_filter (m : SMap CellAcq) (p) (h : cellsWf m) : cellsWf (m.filter p) := mwf_filter _ _ _ _ h

@[simp] theorem cellsWf_mset (m : SMap CellAcq) (k v) (h : cellsWf m) : cellsWf (mset {} m k v) := by unfold cellsWf at *; exact recordsWf_mset _ m k v h

@[simp] theorem tempsWf_nil : tempsWf [] := rfl

@[simp] theorem tempsWf_filter (m : SMap TempAcq) (p) (h : tempsWf m) : tempsWf (m.filter p) := mwf_filter _ _ _ _ h

@[simp] theorem tempsWf_mset (m : SMap TempAcq) (k v) (h : tempsWf m) : tempsWf (mset {} m k v) := by unfold tempsWf at *; exact recordsWf_mset _ m k v h

@[simp] theorem chansWf_nil : chansWf [] := rfl

@[simp] theorem chansWf_filter (m : SMap Chan) (p) (h : chansWf m) : chansWf (m.filter p) := mwf_filter _ _ _ _ h

@[simp] theorem chansWf_mset (m : SMap Chan) (k v) (h : chansWf m) : chansWf (mset {} m k v) := by unfold chansWf at *; exact recordsWf_mset _ m k v h

@[simp] theorem shotsWf_nil : shotsWf [] := rfl

@[simp] theorem shotsWf_filter (m : SMap OneShot) (p) (h : shotsWf m) : shotsWf (m.filter p) := mwf_filter _ _ _ _ h

@[simp] theorem shotsWf_mset (m : SMap OneShot) (k v) (h : shotsWf m) : shotsWf (mset {} m k v) := by unfold shotsWf at *; exact recordsWf_mset _ m k v h

@[simp] theorem objectsWf_nil (v : Variant) : objectsWf v [] := rfl

@[simp] theorem objectsWf_mset (v : Variant) (m) (k x) (h : objectsWf v m) : objectsWf v (mset (keyDefault v k) m k x) :=
    mwf_mset (keyDefault v) m k x h

@[simp] theorem objectsWf_mdel (v : Variant) (m) (k) (h : objectsWf v m) : objectsWf v (mdel m k) := mwf_mdel (keyDefault v) none m k h

@[simp] theorem objectsWf_filter (v : Variant) (m : SMap (List Int)) (p) (h : objectsWf v m) : objectsWf v (m.filter p) :=
    mwf_filter (keyDefault v) none m p h

@[simp] theorem forEach_canonical {α : Type} (l : List α) (s : State) (f : State → α → State) (h : s.canonical) (hf : ∀ s a,
    s.canonical → (f s a).canonical) :
    (forEach l s f).canonical := by
  unfold forEach
  induction l generalizing s with
  | nil => exact h
  | cons a l ih => exact ih _ (hf s a h)

@[simp] theorem canonical_ite (c : Prop) [Decidable c] (a b : State) (ha : c → a.canonical) (hb : ¬c → b.canonical) : (if c then a else b).canonical := by split <;> simp_all

@[simp] theorem canonical_ite1 {α : Type} (c : Prop) [Decidable c] (a b : State × α) (ha : c → a.1.canonical) (hb : ¬c → b.1.canonical) : (if c then a else b).1.canonical := by split <;> simp_all

theorem next_canonical (s : State) (hs : s.canonical) : nextSat (.next s) fun t => t.canonical := by
  intro t h; cases h; exact hs

@[simp] theorem nextSat_canonical (s : State) : (nextSat (.next s) fun t => t.canonical) ↔ s.canonical :=
  ⟨fun h => h _ rfl, next_canonical s⟩

@[simp] theorem refuse_canonical (s : State) (n : Nat) (h : s.canonical) : (refuse s n).1.canonical := h

@[simp] theorem accept_canonical (s : State) (h : s.canonical) : (accept s).1.canonical := h

theorem mwf_map_filter {α : Type} [DecidableEq α] (d : α) (g : α → α) (lo : Option Nat) (m : SMap α)
    (h : mwfFrom (fun _ => d) lo m = true) :
    mwfFrom (fun _ => d) lo ((m.map fun e => (e.1, g e.2)).filter fun e => e.2 != d) = true := by
  induction m generalizing lo with
  | nil => simp
  | cons e m ih =>
    obtain ⟨a, v⟩ := e
    have hc := (mwf_cons _ lo a v m).1 h
    by_cases hv : g v = d
    · simp only [List.map_cons, hv, List.filter_cons, bne_self_eq_false, Bool.false_eq_true, if_false]
      exact ih _ (mwf_mono _ (some a) lo m (fun l hl => ⟨a, rfl, le_of_lt (hc.1 l hl)⟩) hc.2.2)
    · simp only [List.map_cons, List.filter_cons]
      have : (g v != d) = true := by simpa using hv
      simp only [this, if_true]
      rw [mwf_cons]
      exact ⟨hc.1, hv, ih _ hc.2.2⟩

theorem chansWf_keep (m : SMap Chan) (h : chansWf m) : chansWf ((m.map fun e => (e.1, e.2.keep)).filter fun e => e.2 != {}) := by
  unfold chansWf recordsWf at *
  exact mwf_map_filter _ _ _ _ h

theorem mget_ne_default {α : Type} [DecidableEq α] (d : Nat → α) (x : α) (lo : Option Nat) (m : SMap α) (k : Nat)
    (h : mwfFrom d lo m = true) (hk : mhas m k = true) : mget x m k ≠ d k := by
  induction m generalizing lo with
  | nil => simp [mhas] at hk
  | cons e m ih =>
    obtain ⟨a, v⟩ := e
    have hc := (mwf_cons d lo a v m).1 h
    rw [mget_cons]
    split
    · rename_i ha
      subst ha
      exact hc.2.1
    · rename_i ha
      refine ih _ hc.2.2 ?_
      simpa [mhas, ha] using hk

theorem cellsWf_remap (m : SMap CellAcq) (l : List (Nat × Nat)) (h : cellsWf m) : cellsWf (remap {} m l) := by
  unfold cellsWf recordsWf at *
  unfold remap
  suffices H : ∀ n, mwfFrom (fun _ => ({} : CellAcq)) none n = true →
      mwfFrom (fun _ => ({} : CellAcq)) none (l.foldl (fun n e => if mhas m e.1 then mins n e.2 (mget {} m e.1) else n) n) = true by
    exact H [] rfl
  induction l with
  | nil => exact fun n hn => hn
  | cons e l ih =>
    intro n hn
    refine ih _ ?_
    simp only
    split
    · rename_i hk
      exact mwf_mins _ none n e.2 _ (mget_ne_default (fun _ => {}) {} none m e.1 h hk) (by simp) hn
    · exact hn

theorem fst_ite {α : Type} (c : Prop) [Decidable c] (a b : State × α) (ha : a.1.canonical) (hb : b.1.canonical) :
    (if c then a else b).1.canonical := by
  split
  · exact ha
  · exact hb

theorem foldl_first {α β : Type} (f : State × β → α → State × β) (l : List α) (h : ∀ r a, r.1.canonical → (f r a).1.canonical)
    (r : State × β) (hr : r.1.canonical) : (l.foldl f r).1.canonical := by
  induction l generalizing r with
  | nil => exact hr
  | cons a l ih => exact ih _ (h _ _ hr)

@[simp] theorem done_canonical (s : State) (hs : s.canonical) : nextSat (done s) fun t => t.canonical := by
  intro t h; cases h; exact hs

@[simp] theorem doneIf_canonical (c : Bool) (t s : State) (ht : c = true → t.canonical) (hs : s.canonical) :
    nextSat (doneIf c t s) fun t => t.canonical := by
  intro u h
  cases h
  split
  · exact ht ‹_›
  · exact hs

@[simp] theorem State.drvUpd_canonical (s : State) (k : Nat) (f : Driver → Driver) (h : s.canonical) : (s.drvUpd k f).canonical :=
  ⟨h.1, driversWf_mset _ _ _ (h.2.1), h.2.2.1, h.2.2.2.1, h.2.2.2.2.1, h.2.2.2.2.2.1, h.2.2.2.2.2.2.1, h.2.2.2.2.2.2.2.1, h.2.2.2.2.2.2.2.2.1, h.2.2.2.2.2.2.2.2.2.1, h.2.2.2.2.2.2.2.2.2.2.1, h.2.2.2.2.2.2.2.2.2.2.2⟩

@[simp] theorem State.lswUpd_canonical (s : State) (k : Nat) (f : LoadSw → LoadSw) (h : s.canonical) : (s.lswUpd k f).canonical :=
  ⟨h.1, h.2.1, loadSwitchesWf_mset _ _ _ (h.2.2.1), h.2.2.2.1, h.2.2.2.2.1, h.2.2.2.2.2.1, h.2.2.2.2.2.2.1, h.2.2.2.2.2.2.2.1, h.2.2.2.2.2.2.2.2.1, h.2.2.2.2.2.2.2.2.2.1, h.2.2.2.2.2.2.2.2.2.2.1, h.2.2.2.2.2.2.2.2.2.2.2⟩

@[simp] theorem State.motUpd_canonical (s : State) (k : Nat) (f : Motor → Motor) (h : s.canonical) : (s.motUpd k f).canonical :=
  ⟨h.1, h.2.1, h.2.2.1, motorsWf_mset _ _ _ (h.2.2.2.1), h.2.2.2.2.1, h.2.2.2.2.2.1, h.2.2.2.2.2.2.1, h.2.2.2.2.2.2.2.1, h.2.2.2.2.2.2.2.2.1, h.2.2.2.2.2.2.2.2.2.1, h.2.2.2.2.2.2.2.2.2.2.1, h.2.2.2.2.2.2.2.2.2.2.2⟩

@[simp] theorem State.pairUpd_canonical (s : State) (k : Nat) (f : Pair → Pair) (h : s.canonical) : (s.pairUpd k f).canonical :=
  ⟨h.1, h.2.1, h.2.2.1, h.2.2.2.1, pairsWf_mset _ _ _ (h.2.2.2.2.1), h.2.2.2.2.2.1, h.2.2.2.2.2.2.1, h.2.2.2.2.2.2.2.1, h.2.2.2.2.2.2.2.2.1, h.2.2.2.2.2.2.2.2.2.1, h.2.2.2.2.2.2.2.2.2.2.1, h.2.2.2.2.2.2.2.2.2.2.2⟩

@[simp] theorem State.strUpd_canonical (s : State) (k : Nat) (f : Str → Str) (h : s.canonical) : (s.strUpd k f).canonical :=
  ⟨h.1, h.2.1, h.2.2.1, h.2.2.2.1, h.2.2.2.2.1, strsWf_mset _ _ _ (h.2.2.2.2.2.1), h.2.2.2.2.2.2.1, h.2.2.2.2.2.2.2.1, h.2.2.2.2.2.2.2.2.1, h.2.2.2.2.2.2.2.2.2.1, h.2.2.2.2.2.2.2.2.2.2.1, h.2.2.2.2.2.2.2.2.2.2.2⟩

@[simp] theorem State.ringUpd_canonical (s : State) (k : Nat) (f : Ring → Ring) (h : s.canonical) : (s.ringUpd k f).canonical :=
  ⟨h.1, h.2.1, h.2.2.1, h.2.2.2.1, h.2.2.2.2.1, h.2.2.2.2.2.1, ringsWf_mset _ _ _ (h.2.2.2.2.2.2.1), h.2.2.2.2.2.2.2.1, h.2.2.2.2.2.2.2.2.1, h.2.2.2.2.2.2.2.2.2.1, h.2.2.2.2.2.2.2.2.2.2.1, h.2.2.2.2.2.2.2.2.2.2.2⟩

@[simp] theorem State.monUpd_canonical (s : State) (k : Nat) (f : Monitor → Monitor) (h : s.canonical) :
    (s.monUpd k f).canonical :=
  ⟨h.1, h.2.1, h.2.2.1, h.2.2.2.1, h.2.2.2.2.1, h.2.2.2.2.2.1, h.2.2.2.2.2.2.1, monitorsWf_mset _ _ _ (h.2.2.2.2.2.2.2.1), h.2.2.2.2.2.2.2.2.1, h.2.2.2.2.2.2.2.2.2.1, h.2.2.2.2.2.2.2.2.2.2.1, h.2.2.2.2.2.2.2.2.2.2.2⟩

@[simp] theorem State.cellUpd_canonical (s : State) (k : Nat) (f : CellAcq → CellAcq) (h : s.canonical) :
    (s.cellUpd k f).canonical :=
  ⟨h.1, h.2.1, h.2.2.1, h.2.2.2.1, h.2.2.2.2.1, h.2.2.2.2.2.1, h.2.2.2.2.2.2.1, h.2.2.2.2.2.2.2.1, cellsWf_mset _ _ _ (h.2.2.2.2.2.2.2.2.1), h.2.2.2.2.2.2.2.2.2.1, h.2.2.2.2.2.2.2.2.2.2.1, h.2.2.2.2.2.2.2.2.2.2.2⟩

@[simp] theorem State.tempUpd_canonical (s : State) (k : Nat) (f : TempAcq → TempAcq) (h : s.canonical) :
    (s.tempUpd k f).canonical :=
  ⟨h.1, h.2.1, h.2.2.1, h.2.2.2.1, h.2.2.2.2.1, h.2.2.2.2.2.1, h.2.2.2.2.2.2.1, h.2.2.2.2.2.2.2.1, h.2.2.2.2.2.2.2.2.1, tempsWf_mset _ _ _ (h.2.2.2.2.2.2.2.2.2.1), h.2.2.2.2.2.2.2.2.2.2.1, h.2.2.2.2.2.2.2.2.2.2.2⟩

@[simp] theorem State.chanUpd_canonical (s : State) (k : Nat) (f : Chan → Chan) (h : s.canonical) : (s.chanUpd k f).canonical :=
  ⟨h.1, h.2.1, h.2.2.1, h.2.2.2.1, h.2.2.2.2.1, h.2.2.2.2.2.1, h.2.2.2.2.2.2.1, h.2.2.2.2.2.2.2.1, h.2.2.2.2.2.2.2.2.1, h.2.2.2.2.2.2.2.2.2.1, chansWf_mset _ _ _ (h.2.2.2.2.2.2.2.2.2.2.1), h.2.2.2.2.2.2.2.2.2.2.2⟩

@[simp] theorem State.shotUpd_canonical (s : State) (k : Nat) (f : OneShot → OneShot) (h : s.canonical) :
    (s.shotUpd k f).canonical :=
  ⟨h.1, h.2.1, h.2.2.1, h.2.2.2.1, h.2.2.2.2.1, h.2.2.2.2.2.1, h.2.2.2.2.2.2.1, h.2.2.2.2.2.2.2.1, h.2.2.2.2.2.2.2.2.1, h.2.2.2.2.2.2.2.2.2.1, h.2.2.2.2.2.2.2.2.2.2.1, shotsWf_mset _ _ _ (h.2.2.2.2.2.2.2.2.2.2.2)⟩

@[simp] theorem State.euUpd_canonical (s : State) (k : Nat) (f : Eu → Eu) (hs : s.canonical) : (State.euUpd s k f).canonical := by
  unfold State.euUpd
  (try simp (maxDischargeDepth := 12) +contextual [*])

@[simp] theorem State.epochUpd_canonical (s : State) (k : Nat) (f : Epoch → Epoch) (hs : s.canonical) :
    (State.epochUpd s k f).canonical := by
  unfold State.epochUpd
  (try simp (maxDischargeDepth := 12) +contextual [*])

@[simp] theorem State.regionUpd_canonical (s : State) (k : Nat) (f : Region → Region) (hs : s.canonical) :
    (State.regionUpd s k f).canonical := by
  unfold State.regionUpd
  (try simp (maxDischargeDepth := 12) +contextual [*])

@[simp] theorem State.resumes_canonical (s : State) (k : Nat) (hs : s.canonical) : (State.resumes s k).canonical := by
  unfold State.resumes
  (try simp (maxDischargeDepth := 12) +contextual [*])

@[simp] theorem State.pubUpd_canonical (s : State) (k : Nat) (f : CellEst → CellEst) (hs : s.canonical) :
    (State.pubUpd s k f).canonical := by
  unfold State.pubUpd
  (try simp (maxDischargeDepth := 12) +contextual [*])

@[simp] theorem State.estUpd_canonical (s : State) (k : Nat) (f : CellEst → CellEst) (hs : s.canonical) :
    (State.estUpd s k f).canonical := by
  unfold State.estUpd
  (try simp (maxDischargeDepth := 12) +contextual [*])

@[simp] theorem State.restUpd_canonical (s : State) (k : Nat) (f : Rest → Rest) (hs : s.canonical) :
    (State.restUpd s k f).canonical := by
  unfold State.restUpd
  (try simp (maxDischargeDepth := 12) +contextual [*])

@[simp] theorem State.canUpd_canonical (s : State) (k : Nat) (f : CanTx → CanTx) (hs : s.canonical) :
    (State.canUpd s k f).canonical := by
  unfold State.canUpd
  (try simp (maxDischargeDepth := 12) +contextual [*])

@[simp] theorem State.slotUpd_canonical (s : State) (k : Nat) (f : FwSlot → FwSlot) (hs : s.canonical) :
    (State.slotUpd s k f).canonical := by
  unfold State.slotUpd
  (try simp (maxDischargeDepth := 12) +contextual [*])

@[simp] theorem State.scopeUpd_canonical (s : State) (k : Nat) (f : Scope → Scope) (hs : s.canonical) :
    (State.scopeUpd s k f).canonical := by
  unfold State.scopeUpd
  (try simp (maxDischargeDepth := 12) +contextual [*])

@[simp] theorem State.putL_canonical (s : State) (i : Nat) (sub : Nat) (v : List Int) (hs : s.canonical) :
    (State.putL s i sub v).canonical := by
  unfold State.putL
  (try simp (maxDischargeDepth := 12) +contextual [*])

@[simp] theorem State.put_canonical (s : State) (i : Nat) (sub : Nat) (v : Int) (hs : s.canonical) :
    (State.put s i sub v).canonical := by
  unfold State.put
  (try simp (maxDischargeDepth := 12) +contextual [*])

@[simp] theorem State.putM_canonical (s : State) (i : Nat) (sub : Nat) (k : Nat) (v : Int) (hs : s.canonical) :
    (State.putM s i sub k v).canonical := by
  unfold State.putM
  (try simp (maxDischargeDepth := 12) +contextual [*])

@[simp] theorem State.bump_canonical (s : State) (i : Nat) (sub : Nat) (hs : s.canonical) : (State.bump s i sub).canonical := by
  unfold State.bump
  (try simp (maxDischargeDepth := 12) +contextual [*])

@[simp] theorem State.undo_canonical (s : State) (i : Nat) (sub : Nat) (hs : s.canonical) : (State.undo s i sub).canonical := by
  unfold State.undo
  (try simp (maxDischargeDepth := 12) +contextual [*])

@[simp] theorem State.ranWork_canonical (s : State) (k : Nat) (hs : s.canonical) : (State.ranWork s k).canonical := by
  unfold State.ranWork
  (try simp (maxDischargeDepth := 12) +contextual [*])

@[simp] theorem State.raise_canonical (s : State) (src : Nat) (inst : Nat) (payload : (List Byte)) (hs : s.canonical) :
    (State.raise s src inst payload).canonical := by
  unfold State.raise
  (try simp (maxDischargeDepth := 12) +contextual [*])

@[simp] theorem State.raiseLater_canonical (s : State) (src : Nat) (inst : Nat) (hs : s.canonical) :
    (State.raiseLater s src inst).canonical := by
  unfold State.raiseLater
  (try simp (maxDischargeDepth := 12) +contextual [*])

@[simp] theorem State.keepReason_canonical (s : State) (src : Nat) (inst : Nat) (hs : s.canonical) :
    (State.keepReason s src inst).canonical := by
  unfold State.keepReason
  (try simp (maxDischargeDepth := 12) +contextual [*])

@[simp] theorem State.latch_canonical (s : State) (l : Latch) (hs : s.canonical) : (State.latch s l).canonical := by
  unfold State.latch
  (try simp (maxDischargeDepth := 12) +contextual [*])

@[simp] theorem State.unlatch_canonical (s : State) (p : Latch → Bool) (hs : s.canonical) : (State.unlatch s p).canonical := by
  unfold State.unlatch
  (try simp (maxDischargeDepth := 12) +contextual [*])

@[simp] theorem State.sayP_canonical (s : State) (cls : Nat) (content : Nat) (hs : s.canonical) :
    (State.sayP s cls content).canonical := by
  unfold State.sayP
  (try simp (maxDischargeDepth := 12) +contextual [*])

@[simp] theorem State.sayC_canonical (s : State) (cls : Nat) (content : Nat) (hs : s.canonical) :
    (State.sayC s cls content).canonical := by
  unfold State.sayC
  (try simp (maxDischargeDepth := 12) +contextual [*])

@[simp] theorem State.refuseOut_canonical (s : State) (r : OutReq) (hs : s.canonical) : (State.refuseOut s r).canonical := by
  unfold State.refuseOut
  (try simp (maxDischargeDepth := 12) +contextual [*])

@[simp] theorem State.replaceSectors_canonical (s : State) (area : Nat) (n : Nat) (hs : s.canonical) :
    (State.replaceSectors s area n).canonical := by
  unfold State.replaceSectors
  (try simp (maxDischargeDepth := 12) +contextual [*])

@[simp] theorem State.erase_canonical (s : State) (unit : Nat) (n : Nat) (hs : s.canonical) :
    (State.erase s unit n).canonical := by
  unfold State.erase
  (try simp (maxDischargeDepth := 12) +contextual [*])

@[simp] theorem State.eraseAll_canonical (s : State) (unit : Nat) (hs : s.canonical) : (State.eraseAll s unit).canonical := by
  unfold State.eraseAll
  (try simp (maxDischargeDepth := 12) +contextual [*])

@[simp] theorem State.eraseAreas_canonical (s : State) (hs : s.canonical) : (State.eraseAreas s).canonical := by
  unfold State.eraseAreas
  (try simp (maxDischargeDepth := 12) +contextual [*])

@[simp] theorem State.journalPut_canonical (s : State) (key : Nat) (payload : List Byte) (hs : s.canonical) :
    (State.journalPut s key payload).canonical := by
  unfold State.journalPut
  (try simp (maxDischargeDepth := 12) +contextual [*])

@[simp] theorem State.journalMove_canonical (s : State) (key : Nat) (hs : s.canonical) : (State.journalMove s key).canonical := by
  unfold State.journalMove
  (try simp (maxDischargeDepth := 12) +contextual [*])
  all_goals (repeat' split) <;> (try simp (maxDischargeDepth := 12) +contextual [*])

@[simp] theorem State.journalRoom_canonical (s : State) (n k : Nat) (hs : s.canonical) : (s.journalRoom n k).canonical := by
  induction k generalizing s with
  | zero => exact hs
  | succ k ih =>
    unfold State.journalRoom
    split
    · exact hs
    · exact ih _ (by simp [hs])

@[simp] theorem State.journal_canonical (s : State) (kind : Nat) (inst : Nat) (payload : List Byte) (worn : Bool) (hs : s.canonical) :
    (State.journal s kind inst payload worn).canonical := by
  unfold State.journal
  (try simp (maxDischargeDepth := 12) +contextual [*])

@[simp] theorem State.outputDone_canonical (s : State) (hs : s.canonical) : (State.outputDone s).canonical := by
  unfold State.outputDone
  (try simp (maxDischargeDepth := 12) +contextual [*])

@[simp] theorem State.tell_canonical (s : State) (src : Nat) (inst : Nat) (hs : s.canonical) :
    (State.tell s src inst).canonical := by
  unfold State.tell
  (try simp (maxDischargeDepth := 12) +contextual [*])

@[simp] theorem State.readVaux_canonical (s : State) (mv : Nat) (hs : s.canonical) : (State.readVaux s mv).canonical := by
  unfold State.readVaux
  (try simp (maxDischargeDepth := 12) +contextual [*])

@[simp] theorem State.logStage_canonical (s : State) (r : LogRec) (hs : s.canonical) : (State.logStage s r).canonical := by
  unfold State.logStage
  (try simp (maxDischargeDepth := 12) +contextual [*])

@[simp] theorem State.logSeal_canonical (s : State) (hs : s.canonical) : (State.logSeal s).canonical := by
  unfold State.logSeal
  (try simp (maxDischargeDepth := 12) +contextual [*])
  all_goals (repeat' split) <;> (try simp (maxDischargeDepth := 12) +contextual [*])

@[simp] theorem State.logSeq_canonical (s : State) (hs : s.canonical) : ((State.logSeq s)).1.canonical := by
  unfold State.logSeq
  (try simp (maxDischargeDepth := 12) +contextual [*])

@[simp] theorem State.logInternal_canonical (s : State) (code : Nat) (sev : Nat) (payload : List Byte) (hs : s.canonical) :
    (State.logInternal s code sev payload).canonical := by
  unfold State.logInternal
  (try simp (maxDischargeDepth := 12) +contextual [*])

@[simp] theorem State.logRefill_canonical (s : State) (hs : s.canonical) : (State.logRefill s).canonical := by
  unfold State.logRefill
  (try simp (maxDischargeDepth := 12) +contextual [*])

@[simp] theorem State.logSuppress_canonical (s : State) (sev : Nat) (hs : s.canonical) : (State.logSuppress s sev).canonical := by
  unfold State.logSuppress
  (try simp (maxDischargeDepth := 12) +contextual [*])

theorem State.logToken_canonical (s t : State) (sev : Nat) (h : s.logToken sev = some t) (hs : s.canonical) : t.canonical := by
  unfold State.logToken at h
  revert h
  simp only
  repeat' split
  all_goals intro h; cases h
  all_goals simp (maxDischargeDepth := 12) [*]

@[simp] theorem State.logActivation_canonical (s : State) (a : Act) (word : Nat) (hs : s.canonical) :
    (s.logActivation a word).1.canonical := by
  unfold State.logActivation
  simp only
  split
  · simp only
    split <;> simp (maxDischargeDepth := 12) [*]
  · split
    · simp (maxDischargeDepth := 12) [*]
    · rename_i t h
      have ht : t.canonical := State.logToken_canonical _ _ _ h (by simp (maxDischargeDepth := 12) [*])
      simp (maxDischargeDepth := 12) [*]

@[simp] theorem State.logDrop_canonical (s : State) (r : LogRec) (hs : s.canonical) : (State.logDrop s r).canonical := by
  unfold State.logDrop
  (try simp (maxDischargeDepth := 12) +contextual [*])

@[simp] theorem State.logReclaimed_canonical (s : State) (p : LogPage) (hs : s.canonical) :
    (State.logReclaimed s p).canonical := by
  unfold State.logReclaimed
  (try simp (maxDischargeDepth := 12) +contextual [*])

@[simp] theorem State.logDropReport_canonical (s : State) (hs : s.canonical) : (State.logDropReport s).canonical := by
  unfold State.logDropReport
  (try simp (maxDischargeDepth := 12) +contextual [*])

@[simp] theorem State.logOpenPage_canonical (s : State) (r : LogRec) (hs : s.canonical) : (State.logOpenPage s r).canonical := by
  unfold State.logOpenPage
  (try simp (maxDischargeDepth := 12) +contextual [*])
  all_goals (repeat' split) <;> (try simp (maxDischargeDepth := 12) +contextual [*])

@[simp] theorem State.logBadPage_canonical (s : State) (k : Nat) (hs : s.canonical) : (State.logBadPage s k).canonical := by
  unfold State.logBadPage
  (try simp (maxDischargeDepth := 12) +contextual [*])

@[simp] theorem State.logReadBack_canonical (n : Nat) (s : State) (r : LogRec) (hs : s.canonical) :
    (State.logReadBack n s r).canonical := by
  induction n generalizing s with
  | zero => exact hs
  | succ n ih =>
    unfold State.logReadBack
    split
    · exact hs
    · exact ih _ (by simp (maxDischargeDepth := 12) [*])

@[simp] theorem State.logVerify_canonical (s : State) (r : LogRec) (hs : s.canonical) : (State.logVerify s r).canonical := by
  unfold State.logVerify
  (try simp (maxDischargeDepth := 12) +contextual [*])

@[simp] theorem State.logProgramRec_canonical (s : State) (r : LogRec) (hs : s.canonical) :
    (State.logProgramRec s r).canonical := by
  unfold State.logProgramRec
  (try simp (maxDischargeDepth := 12) +contextual [*])
  all_goals (repeat' split) <;> (try simp (maxDischargeDepth := 12) +contextual [*])

@[simp] theorem State.logProgramN_canonical (fuel : Nat) (s : State) (hs : s.canonical) :
    (State.logProgramN fuel s).canonical := by
  induction fuel generalizing s with
  | zero => unfold State.logProgramN; exact hs
  | succ n ih =>
    unfold State.logProgramN
    split
    · exact hs
    · exact hs
    · rename_i f r rs h1 h2
      cases h1
      exact ih _ (by simp (maxDischargeDepth := 12) [*])

@[simp] theorem State.logProgramAll_canonical (s : State) (hs : s.canonical) : (State.logProgramAll s).canonical := by
  unfold State.logProgramAll
  (try simp (maxDischargeDepth := 12) +contextual [*])

@[simp] theorem State.logProgramNow_canonical (s : State) (hs : s.canonical) : (State.logProgramNow s).canonical := by
  unfold State.logProgramNow
  (try simp (maxDischargeDepth := 12) +contextual [*])

@[simp] theorem State.logFlush_canonical (s : State) (reason : Nat) (hs : s.canonical) : (State.logFlush s reason).canonical := by
  unfold State.logFlush
  (try simp (maxDischargeDepth := 12) +contextual [*])

@[simp] theorem State.logClearRun_canonical (s : State) (node : Nat) (link : Nat) (hs : s.canonical) :
    (State.logClearRun s node link).canonical := by
  unfold State.logClearRun
  (try simp (maxDischargeDepth := 12) +contextual [*])
  all_goals (repeat' split) <;> (try simp (maxDischargeDepth := 12) +contextual [*])

@[simp] theorem State.logScan_canonical (s : State) (powerOn : Bool) (torn : List (Nat × Nat)) (hs : s.canonical) :
    (State.logScan s powerOn torn).canonical := by
  unfold State.logScan
  (try simp (maxDischargeDepth := 12) +contextual [*])

theorem execLogRecordSealTimeout_canonical (s : State) (hs : s.canonical) :
    nextSat (execLogRecordSealTimeout s) fun t => t.canonical := by
  unfold execLogRecordSealTimeout
  all_goals (repeat' split) <;> (try simp (maxDischargeDepth := 12) +contextual [*])

theorem execLogProgram_canonical (failing : List (Fin 256)) (s : State) (hs : s.canonical) :
    nextSat (execLogProgram failing s) fun t => t.canonical := by
  unfold execLogProgram
  (try simp (maxDischargeDepth := 12) +contextual [*])

theorem execLogSuppressedReport_canonical (s : State) (hs : s.canonical) :
    nextSat (execLogSuppressedReport s) fun t => t.canonical := by
  unfold execLogSuppressedReport
  (try simp (maxDischargeDepth := 12) +contextual [*])

theorem execLogFlushLevel_canonical (vauxMv : Nat) (s : State) (hs : s.canonical) :
    nextSat (execLogFlushLevel vauxMv s) fun t => t.canonical := by
  unfold execLogFlushLevel
  (try simp (maxDischargeDepth := 12) +contextual [*])

@[simp] theorem State.txDrop_canonical (s : State) (link : Nat) (hs : s.canonical) : (State.txDrop s link).canonical := by
  unfold State.txDrop
  (try simp (maxDischargeDepth := 12) +contextual [*])

@[simp] theorem State.highWater_canonical (s : State) (ch : Nat) (hs : s.canonical) : (State.highWater s ch).canonical := by
  unfold State.highWater
  (try simp (maxDischargeDepth := 12) +contextual [*])

@[simp] theorem State.txPush_canonical (s : State) (link : Nat) (o : Out) (hs : s.canonical) :
    (State.txPush s link o).canonical := by
  unfold State.txPush
  (try simp (maxDischargeDepth := 12) +contextual [*])

@[simp] theorem State.txOrDrop_canonical (s : State) (link : Nat) (o : Out) (hs : s.canonical) :
    ((State.txOrDrop s link o)).1.canonical := by
  unfold State.txOrDrop
  (try simp (maxDischargeDepth := 12) +contextual [*])

@[simp] theorem State.txResponse_canonical (s : State) (link : Nat) (o : Out) (hs : s.canonical) :
    (State.txResponse s link o).canonical := by
  unfold State.txResponse
  (try simp (maxDischargeDepth := 12) +contextual [*])

@[simp] theorem State.txSafety_canonical (s : State) (link : Nat) (o : Out) (hs : s.canonical) :
    ((State.txSafety s link o)).1.canonical := by
  unfold State.txSafety
  (try simp (maxDischargeDepth := 12) +contextual [*])

@[simp] theorem State.eventRoom_canonical (s : State) (link : Nat) (hs : s.canonical) :
    ((State.eventRoom s link)).1.canonical := by
  unfold State.eventRoom
  (try simp (maxDischargeDepth := 12) +contextual [*])

@[simp] theorem State.backlog_canonical (s : State) (r : List Int) (hs : s.canonical) : (State.backlog s r).canonical := by
  unfold State.backlog
  (try simp (maxDischargeDepth := 12) +contextual [*])

@[simp] theorem State.noteOut_canonical (s : State) (link : Nat) (cls : Nat) (o : Out) (hs : s.canonical) :
    (State.noteOut s link cls o).canonical := by
  unfold State.noteOut
  (try simp (maxDischargeDepth := 12) +contextual [*])

@[simp] theorem State.noteOn_canonical (s : State) (link cls : Nat) (addrs : List Nat) (o : Out) (hs : s.canonical) :
    (s.noteOn link cls addrs o).canonical := by
  unfold State.noteOn
  split
  · exact hs
  extract_lets r
  have h : r.1.canonical := by
    simp only [r]
    split <;> simp (maxDischargeDepth := 12) [*]
  clear_value r
  split
  · exact forEach_canonical _ _ _ h fun s a hs => by simp [hs]
  · simp [h]

@[simp] theorem State.notify_canonical (s : State) (cls : Nat) (time : Nat) (code : Nat) (source : Nat) (sev : Nat) (flags : Nat) (seq : Nat) (data : List Byte) (hs : s.canonical) :
    (State.notify s cls time code source sev flags seq data).canonical := by
  unfold State.notify
  (try simp (maxDischargeDepth := 12) +contextual [*])

@[simp] theorem State.respond_canonical (s : State) (req : Req) (r : Reply) (hs : s.canonical) :
    (State.respond s req r).canonical := by
  unfold State.respond
  (try simp (maxDischargeDepth := 12) +contextual [*])

@[simp] theorem State.answerW_canonical (s : State) (req : Req) (i : Nat) (sub : Nat) (status : Nat) (hs : s.canonical) :
    (State.answerW s req i sub status).canonical := by
  unfold State.answerW
  (try simp (maxDischargeDepth := 12) +contextual [*])

@[simp] theorem State.keep_canonical (s : State) (k : KeptResp) (hs : s.canonical) : (State.keep s k).canonical := by
  unfold State.keep
  (try simp (maxDischargeDepth := 12) +contextual [*])

@[simp] theorem State.answerLate_canonical (s : State) (req : Req) (msg : List Byte) (i : Nat) (status : Nat) (hs : s.canonical) :
    (State.answerLate s req msg i status).canonical := by
  unfold State.answerLate
  (try simp (maxDischargeDepth := 12) +contextual [*])

@[simp] theorem State.tagSeen_canonical (s : State) (req : Req) (hs : s.canonical) : (State.tagSeen s req).canonical := by
  unfold State.tagSeen
  (try simp (maxDischargeDepth := 12) +contextual [*])
  all_goals (repeat' split) <;> (try simp (maxDischargeDepth := 12) +contextual [*])

@[simp] theorem State.request_canonical (s : State) (req : Req) (i sub : Nat) (op : State → State × Nat) (hs : s.canonical)
    (ho : ∀ s : State, s.canonical → (op s).1.canonical) : nextSat (s.request req i sub op) fun t => t.canonical := by
  have h1 := ho (s.tagSeen req) (by simp [*])
  unfold State.request
  simp only
  repeat' split
  all_goals refine next_canonical _ ?_
  all_goals simp (maxDischargeDepth := 12) [*]

@[simp] theorem State.block_canonical (s : State) (t : Transfer) (kind : Nat) (number : Nat) (data : List Byte) (hs : s.canonical) :
    (State.block s t kind number data).canonical := by
  unfold State.block
  (try simp (maxDischargeDepth := 12) +contextual [*])

@[simp] theorem State.abortTransfers_canonical (s : State) (status : Nat) (p : Transfer → Bool) (hs : s.canonical) :
    (State.abortTransfers s status p).canonical := by
  unfold State.abortTransfers
  (try simp (maxDischargeDepth := 12) +contextual [*])

@[simp] theorem State.sessionEnd_canonical (s : State) (hs : s.canonical) : (State.sessionEnd s).canonical := by
  unfold State.sessionEnd
  (try simp (maxDischargeDepth := 12) +contextual [*])
  all_goals (repeat' split) <;> (try simp (maxDischargeDepth := 12) +contextual [*])

@[simp] theorem State.aliasEnd_canonical (s : State) (hs : s.canonical) : (State.aliasEnd s).canonical := by
  unfold State.aliasEnd
  (try simp (maxDischargeDepth := 12) +contextual [*])
  all_goals (repeat' split) <;> (try simp (maxDischargeDepth := 12) +contextual [*])

end Sys2Proof.Machine
end

