-- ==== Sys2Proof/Laws/CanonicalOutputs.lean ====
section
/-! SUPPORT. Sys2Proof/Laws/CanonicalOutputs.lean: every operation and every command keeps the canonical form of the stored state (`State.canonical`)
(outputs, contactors, safety functions, resets). -/

namespace Sys2Proof.Machine

@[simp] theorem State.lsOn_canonical (s : State) (n : Nat) (hs : s.canonical) : (State.lsOn s n).canonical := by
  unfold State.lsOn
  (try simp (maxDischargeDepth := 12) +contextual [*])

@[simp] theorem State.lsOff_canonical (s : State) (n : Nat) (hs : s.canonical) : (State.lsOff s n).canonical := by
  unfold State.lsOff
  (try simp (maxDischargeDepth := 12) +contextual [*])

@[simp] theorem State.lsFollow_canonical (s : State) (n : Nat) (hs : s.canonical) : (State.lsFollow s n).canonical := by
  unfold State.lsFollow
  (try simp (maxDischargeDepth := 12) +contextual [*])

@[simp] theorem State.lsTrip_canonical (s : State) (n : Nat) (kind : Nat) (hs : s.canonical) :
    (State.lsTrip s n kind).canonical := by
  unfold State.lsTrip
  (try simp (maxDischargeDepth := 12) +contextual [*])

@[simp] theorem State.lsApply_canonical (s : State) (n : Nat) (mode : Nat) (duty : Nat) (freq : Nat) (hs : s.canonical) :
    (State.lsApply s n mode duty freq).canonical := by
  unfold State.lsApply
  (try simp (maxDischargeDepth := 12) +contextual [*])

@[simp] theorem State.lsFailSafe_canonical (s : State) (n : Nat) (hs : s.canonical) : (State.lsFailSafe s n).canonical := by
  unfold State.lsFailSafe
  (try simp (maxDischargeDepth := 12) +contextual [*])

@[simp] theorem State.lsRequest_canonical (s : State) (n : Nat) (mode : Nat) (duty : Nat) (freq : Nat) (hs : s.canonical) :
    (State.lsRequest s n mode duty freq).canonical := by
  unfold State.lsRequest
  (try simp (maxDischargeDepth := 12) +contextual [*])

@[simp] theorem State.pwmSend_canonical (s : State) (n : Nat) (hs : s.canonical) : (State.pwmSend s n).canonical := by
  unfold State.pwmSend
  (try simp (maxDischargeDepth := 12) +contextual [*])

@[simp] theorem State.pwmFollow_canonical (s : State) (n : Nat) (hs : s.canonical) : (State.pwmFollow s n).canonical := by
  unfold State.pwmFollow
  (try simp (maxDischargeDepth := 12) +contextual [*])

@[simp] theorem State.lsCommand_canonical (s : State) (n : Nat) (mode : Nat) (hs : s.canonical) :
    ((State.lsCommand s n mode)).1.canonical := by
  unfold State.lsCommand
  (try simp (maxDischargeDepth := 12) +contextual [*])

theorem execLoadSwitchCmdOff_canonical (req : Req) (ls : Fin 16) (s : State) (hs : s.canonical) :
    nextSat (execLoadSwitchCmdOff req ls s) fun t => t.canonical := by
  unfold execLoadSwitchCmdOff
  (try simp (maxDischargeDepth := 12) +contextual [*])

theorem execLoadSwitchCmdOn_canonical (req : Req) (ls : Fin 16) (s : State) (hs : s.canonical) :
    nextSat (execLoadSwitchCmdOn req ls s) fun t => t.canonical := by
  unfold execLoadSwitchCmdOn
  (try simp (maxDischargeDepth := 12) +contextual [*])

theorem execLoadSwitchCmdPwm_canonical (req : Req) (ls : Fin 16) (s : State) (hs : s.canonical) :
    nextSat (execLoadSwitchCmdPwm req ls s) fun t => t.canonical := by
  unfold execLoadSwitchCmdPwm
  (try simp (maxDischargeDepth := 12) +contextual [*])

theorem execLsLimiting_canonical (ls : Fin 16) (reached : Bool) (s : State) (hs : s.canonical) :
    nextSat (execLsLimiting ls reached s) fun t => t.canonical := by
  unfold execLsLimiting
  (try simp (maxDischargeDepth := 12) +contextual [*])

theorem execLsOvercurrentTrip_canonical (ls : Fin 16) (s : State) (hs : s.canonical) :
    nextSat (execLsOvercurrentTrip ls s) fun t => t.canonical := by
  unfold execLsOvercurrentTrip
  (try simp (maxDischargeDepth := 12) +contextual [*])

theorem execLsThermalLatchSet_canonical (ls : Fin 16) (s : State) (hs : s.canonical) :
    nextSat (execLsThermalLatchSet ls s) fun t => t.canonical := by
  unfold execLsThermalLatchSet
  (try simp (maxDischargeDepth := 12) +contextual [*])

@[simp] theorem State.lsRestart_canonical (s : State) (n : Nat) (hs : s.canonical) : (State.lsRestart s n).canonical := by
  unfold State.lsRestart
  (try simp (maxDischargeDepth := 12) +contextual [*])

theorem execLsThermalLatchClear_canonical (ls : Fin 16) (s : State) (hs : s.canonical) :
    nextSat (execLsThermalLatchClear ls s) fun t => t.canonical := by
  unfold execLsThermalLatchClear
  (try simp (maxDischargeDepth := 12) +contextual [*])

theorem execLsRetryRestart_canonical (ls : Fin 16) (s : State) (hs : s.canonical) :
    nextSat (execLsRetryRestart ls s) fun t => t.canonical := by
  unfold execLsRetryRestart
  (try simp (maxDischargeDepth := 12) +contextual [*])

theorem execLsRetryCountReset_canonical (ls : Fin 16) (s : State) (hs : s.canonical) :
    nextSat (execLsRetryCountReset ls s) fun t => t.canonical := by
  unfold execLsRetryCountReset
  (try simp (maxDischargeDepth := 12) +contextual [*])

@[simp] theorem State.lsClear_canonical (s : State) (n : Nat) (hs : s.canonical) : (State.lsClear s n).canonical := by
  unfold State.lsClear
  (try simp (maxDischargeDepth := 12) +contextual [*])

@[simp] theorem State.lsClearRequest_canonical (s : State) (n : Nat) (hs : s.canonical) :
    (State.lsClearRequest s n).canonical := by
  unfold State.lsClearRequest
  (try simp (maxDischargeDepth := 12) +contextual [*])

@[simp] theorem State.lsFaultClear_canonical (s : State) (mask : Nat) (hs : s.canonical) :
    ((State.lsFaultClear s mask)).1.canonical := by
  unfold State.lsFaultClear
  (try simp (maxDischargeDepth := 12) +contextual [*])

theorem execLsFaultClear_canonical (req : Req) (mask : BitVec 16) (s : State) (hs : s.canonical) :
    nextSat (execLsFaultClear req mask s) fun t => t.canonical := by
  unfold execLsFaultClear
  (try simp (maxDischargeDepth := 12) +contextual [*])

theorem execLsOnOpenLoad_canonical (ls : Fin 16) (low : Bool) (s : State) (hs : s.canonical) :
    nextSat (execLsOnOpenLoad ls low s) fun t => t.canonical := by
  unfold execLsOnOpenLoad
  (try simp (maxDischargeDepth := 12) +contextual [*])

theorem execLsOffStateDiag_canonical (ls : Fin 16) (c : OffStateLevel) (s : State) (hs : s.canonical) :
    nextSat (execLsOffStateDiag ls c s) fun t => t.canonical := by
  unfold execLsOffStateDiag
  (try simp (maxDischargeDepth := 12) +contextual [*])
  all_goals (repeat' split) <;> (try simp (maxDischargeDepth := 12) +contextual [*])

@[simp] theorem State.lsBrownOut_canonical (s : State) (hs : s.canonical) : (State.lsBrownOut s).canonical := by
  unfold State.lsBrownOut
  (try simp (maxDischargeDepth := 12) +contextual [*])

@[simp] theorem State.lsBrownOutEnd_canonical (s : State) (hs : s.canonical) : (State.lsBrownOutEnd s).canonical := by
  unfold State.lsBrownOutEnd
  (try simp (maxDischargeDepth := 12) +contextual [*])

@[simp] theorem State.mdEnter_canonical (s : State) (n : Nat) (st : Nat) (hs : s.canonical) :
    (State.mdEnter s n st).canonical := by
  unfold State.mdEnter
  (try simp (maxDischargeDepth := 12) +contextual [*])

@[simp] theorem State.mdConsume_canonical (s : State) (n : Nat) (hs : s.canonical) : (State.mdConsume s n).canonical := by
  unfold State.mdConsume
  (try simp (maxDischargeDepth := 12) +contextual [*])

@[simp] theorem State.mdCoast_canonical (s : State) (n : Nat) (st : Nat) (hs : s.canonical) :
    (State.mdCoast s n st).canonical := by
  unfold State.mdCoast
  (try simp (maxDischargeDepth := 12) +contextual [*])

@[simp] theorem State.mdStep_canonical (s : State) (n : Nat) (step : Nat) (hs : s.canonical) :
    (State.mdStep s n step).canonical := by
  unfold State.mdStep
  (try simp (maxDischargeDepth := 12) +contextual [*])

@[simp] theorem State.mdLock_canonical (s : State) (n : Nat) (hs : s.canonical) : (State.mdLock s n).canonical := by
  unfold State.mdLock
  (try simp (maxDischargeDepth := 12) +contextual [*])

@[simp] theorem State.mdAttempt_canonical (s : State) (n : Nat) (step : Nat) (hs : s.canonical) :
    (State.mdAttempt s n step).canonical := by
  unfold State.mdAttempt
  (try simp (maxDischargeDepth := 12) +contextual [*])

@[simp] theorem State.mdRetryLater_canonical (s : State) (n : Nat) (step : Nat) (hs : s.canonical) :
    (State.mdRetryLater s n step).canonical := by
  unfold State.mdRetryLater
  (try simp (maxDischargeDepth := 12) +contextual [*])

@[simp] theorem State.mdResume_canonical (s : State) (n : Nat) (hs : s.canonical) : (State.mdResume s n).canonical := by
  unfold State.mdResume
  (try simp (maxDischargeDepth := 12) +contextual [*])

@[simp] theorem State.mdLoss_canonical (s : State) (n : Nat) (hs : s.canonical) : (State.mdLoss s n).canonical := by
  unfold State.mdLoss
  (try simp (maxDischargeDepth := 12) +contextual [*])

@[simp] theorem State.mdApply_canonical (s : State) (n : Nat) (rpm : Nat) (hs : s.canonical) :
    (State.mdApply s n rpm).canonical := by
  unfold State.mdApply
  (try simp (maxDischargeDepth := 12) +contextual [*])

@[simp] theorem State.mdRequest_canonical (s : State) (n : Nat) (rpm : Nat) (hs : s.canonical) :
    (State.mdRequest s n rpm).canonical := by
  unfold State.mdRequest
  (try simp (maxDischargeDepth := 12) +contextual [*])

@[simp] theorem State.mdFailSafe_canonical (s : State) (n : Nat) (hs : s.canonical) : (State.mdFailSafe s n).canonical := by
  unfold State.mdFailSafe
  (try simp (maxDischargeDepth := 12) +contextual [*])

@[simp] theorem State.mdTrip_canonical (s : State) (n : Nat) (kind : Nat) (hs : s.canonical) :
    (State.mdTrip s n kind).canonical := by
  unfold State.mdTrip
  (try simp (maxDischargeDepth := 12) +contextual [*])

@[simp] theorem State.mdWait_canonical (s : State) (n : Nat) (hs : s.canonical) : (State.mdWait s n).canonical := by
  unfold State.mdWait
  (try simp (maxDischargeDepth := 12) +contextual [*])

@[simp] theorem State.mdSyncLost_canonical (s : State) (n : Nat) (kind : Nat) (hs : s.canonical) :
    (State.mdSyncLost s n kind).canonical := by
  unfold State.mdSyncLost
  (try simp (maxDischargeDepth := 12) +contextual [*])

@[simp] theorem State.mdCommand_canonical (s : State) (n : Nat) (rpm : Nat) (hs : s.canonical) :
    ((State.mdCommand s n rpm)).1.canonical := by
  unfold State.mdCommand
  (try simp (maxDischargeDepth := 12) +contextual [*])

theorem execMotorSpeedCommand_canonical (req : Req) (md : Fin 4) (rpm : Nat) (s : State) (hs : s.canonical) :
    nextSat (execMotorSpeedCommand req md rpm s) fun t => t.canonical := by
  unfold execMotorSpeedCommand
  (try simp (maxDischargeDepth := 12) +contextual [*])

@[simp] theorem State.mdStartDuty_canonical (s : State) (n : Nat) (hs : s.canonical) : (State.mdStartDuty s n).canonical := by
  unfold State.mdStartDuty
  (try simp (maxDischargeDepth := 12) +contextual [*])

@[simp] theorem State.mdSpeedLoop_canonical (s : State) (n : Nat) (shuntMa : Int) (hs : s.canonical) :
    (s.mdSpeedLoop n shuntMa).canonical := by
  unfold State.mdSpeedLoop
  extract_lets s1 s2 m ref s3 d s4 dev
  have h2 : s2.canonical := by
    simp only [s2]
    split <;> simp (maxDischargeDepth := 12) [s1, hs]
  clear_value s2
  have h3 : s3.canonical := by simp [s3, h2]
  have h4 : s4.canonical := by simp [s4, h3]
  repeat' split
  all_goals simp (maxDischargeDepth := 12) [h2, h3, h4]

theorem execMotorSpeedLoop_canonical (md : Fin 4) (shuntMa : Int) (s : State) (hs : s.canonical) :
    nextSat (execMotorSpeedLoop md shuntMa s) fun t => t.canonical := by
  unfold execMotorSpeedLoop
  (try simp (maxDischargeDepth := 12) +contextual [*])

@[simp] theorem State.mdCrossed_canonical (s : State) (n : Nat) (ns : Nat) (ago : Nat) (hs : s.canonical) :
    (State.mdCrossed s n ns ago).canonical := by
  unfold State.mdCrossed
  (try simp (maxDischargeDepth := 12) +contextual [*])

theorem execMotorZeroCrossing_canonical (md : Fin 4) (x : Crossing) (s : State) (hs : s.canonical) :
    nextSat (execMotorZeroCrossing md x s) fun t => t.canonical := by
  unfold execMotorZeroCrossing
  (try simp (maxDischargeDepth := 12) +contextual [*])

theorem execMotorCommutation_canonical (md : Fin 4) (s : State) (hs : s.canonical) :
    nextSat (execMotorCommutation md s) fun t => t.canonical := by
  unfold execMotorCommutation
  (try simp (maxDischargeDepth := 12) +contextual [*])

theorem execMotorCrossingTimeout_canonical (md : Fin 4) (s : State) (hs : s.canonical) :
    nextSat (execMotorCrossingTimeout md s) fun t => t.canonical := by
  unfold execMotorCrossingTimeout
  (try simp (maxDischargeDepth := 12) +contextual [*])

theorem execMotorCoastWaitEnd_canonical (md : Fin 4) (s : State) (hs : s.canonical) :
    nextSat (execMotorCoastWaitEnd md s) fun t => t.canonical := by
  unfold execMotorCoastWaitEnd
  (try simp (maxDischargeDepth := 12) +contextual [*])

theorem execMotorCatchSpinEnd_canonical (md : Fin 4) (intervals : List Nat) (bemfMv : Nat) (s : State) (hs : s.canonical) :
    nextSat (execMotorCatchSpinEnd md intervals bemfMv s) fun t => t.canonical := by
  unfold execMotorCatchSpinEnd
  (try simp (maxDischargeDepth := 12) +contextual [*])

theorem execMotorStopped_canonical (md : Fin 4) (s : State) (hs : s.canonical) :
    nextSat (execMotorStopped md s) fun t => t.canonical := by
  unfold execMotorStopped
  (try simp (maxDischargeDepth := 12) +contextual [*])

theorem execMotorAlignEnd_canonical (md : Fin 4) (s : State) (hs : s.canonical) :
    nextSat (execMotorAlignEnd md s) fun t => t.canonical := by
  unfold execMotorAlignEnd
  (try simp (maxDischargeDepth := 12) +contextual [*])

theorem execMotorStartHandover_canonical (md : Fin 4) (intervals : List Nat) (s : State) (hs : s.canonical) :
    nextSat (execMotorStartHandover md intervals s) fun t => t.canonical := by
  unfold execMotorStartHandover
  (try simp (maxDischargeDepth := 12) +contextual [*])

theorem execMotorStartTimeout_canonical (md : Fin 4) (s : State) (hs : s.canonical) :
    nextSat (execMotorStartTimeout md s) fun t => t.canonical := by
  unfold execMotorStartTimeout
  (try simp (maxDischargeDepth := 12) +contextual [*])

@[simp] theorem State.mdRetry_canonical (s : State) (n : Nat) (hs : s.canonical) : (State.mdRetry s n).canonical := by
  unfold State.mdRetry
  (try simp (maxDischargeDepth := 12) +contextual [*])

theorem execMotorRetryDelay_canonical (md : Fin 4) (s : State) (hs : s.canonical) :
    nextSat (execMotorRetryDelay md s) fun t => t.canonical := by
  unfold execMotorRetryDelay
  (try simp (maxDischargeDepth := 12) +contextual [*])

theorem execMotorCurrentLimit_canonical (md : Fin 4) (hit : LimitHit) (s : State) (hs : s.canonical) :
    nextSat (execMotorCurrentLimit md hit s) fun t => t.canonical := by
  unfold execMotorCurrentLimit
  (try simp (maxDischargeDepth := 12) +contextual [*])

theorem execMotorLimitTimeTrip_canonical (md : Fin 4) (s : State) (hs : s.canonical) :
    nextSat (execMotorLimitTimeTrip md s) fun t => t.canonical := by
  unfold execMotorLimitTimeTrip
  (try simp (maxDischargeDepth := 12) +contextual [*])

theorem execMotorVdsTrip_canonical (md : Fin 4) (lowSide : Bool) (s : State) (hs : s.canonical) :
    nextSat (execMotorVdsTrip md lowSide s) fun t => t.canonical := by
  unfold execMotorVdsTrip
  (try simp (maxDischargeDepth := 12) +contextual [*])

theorem execMotorThermalLatch_canonical (md : Fin 4) (set : Bool) (s : State) (hs : s.canonical) :
    nextSat (execMotorThermalLatch md set s) fun t => t.canonical := by
  unfold execMotorThermalLatch
  (try simp (maxDischargeDepth := 12) +contextual [*])

theorem execMotorGateUv_canonical (md : Fin 4) (s : State) (hs : s.canonical) :
    nextSat (execMotorGateUv md s) fun t => t.canonical := by
  unfold execMotorGateUv
  (try simp (maxDischargeDepth := 12) +contextual [*])

theorem execGateSupplyRecovered_canonical (md : Fin 4) (s : State) (hs : s.canonical) :
    nextSat (execGateSupplyRecovered md s) fun t => t.canonical := by
  unfold execGateSupplyRecovered
  (try simp (maxDischargeDepth := 12) +contextual [*])

theorem execMotorClockLoss_canonical (s : State) (hs : s.canonical) : nextSat (execMotorClockLoss s) fun t => t.canonical := by
  unfold execMotorClockLoss
  (try simp (maxDischargeDepth := 12) +contextual [*])

@[simp] theorem State.mdClear_canonical (s : State) (n : Nat) (hs : s.canonical) : (State.mdClear s n).canonical := by
  unfold State.mdClear
  (try simp (maxDischargeDepth := 12) +contextual [*])

@[simp] theorem State.mdClearRequest_canonical (s : State) (n : Nat) (hs : s.canonical) :
    (State.mdClearRequest s n).canonical := by
  unfold State.mdClearRequest
  (try simp (maxDischargeDepth := 12) +contextual [*])

@[simp] theorem State.mdFaultClear_canonical (s : State) (mask : Nat) (hs : s.canonical) :
    ((State.mdFaultClear s mask)).1.canonical := by
  unfold State.mdFaultClear
  (try simp (maxDischargeDepth := 12) +contextual [*])

theorem execMotorFaultClear_canonical (req : Req) (mask : Byte) (s : State) (hs : s.canonical) :
    nextSat (execMotorFaultClear req mask s) fun t => t.canonical := by
  unfold execMotorFaultClear
  (try simp (maxDischargeDepth := 12) +contextual [*])

theorem execMotorRetryCountReset_canonical (md : Fin 4) (s : State) (hs : s.canonical) :
    nextSat (execMotorRetryCountReset md s) fun t => t.canonical := by
  unfold execMotorRetryCountReset
  (try simp (maxDischargeDepth := 12) +contextual [*])

@[simp] theorem State.vmotCoastAll_canonical (s : State) (all : Bool) (hs : s.canonical) :
    (State.vmotCoastAll s all).canonical := by
  unfold State.vmotCoastAll
  (try simp (maxDischargeDepth := 12) +contextual [*])

@[simp] theorem State.vmotUnder_canonical (s : State) (mV : Nat) (hs : s.canonical) : (State.vmotUnder s mV).canonical := by
  unfold State.vmotUnder
  (try simp (maxDischargeDepth := 12) +contextual [*])

@[simp] theorem State.vmotHold_canonical (s : State) (mV : Nat) (hs : s.canonical) : (State.vmotHold s mV).canonical := by
  unfold State.vmotHold
  (try simp (maxDischargeDepth := 12) +contextual [*])

@[simp] theorem State.vmotBrake_canonical (s : State) (mV : Nat) (hs : s.canonical) : (State.vmotBrake s mV).canonical := by
  unfold State.vmotBrake
  (try simp (maxDischargeDepth := 12) +contextual [*])

@[simp] theorem State.mdBrake_canonical (s : State) (n : Nat) (hs : s.canonical) : (State.mdBrake s n).canonical := by
  unfold State.mdBrake
  (try simp (maxDischargeDepth := 12) +contextual [*])

@[simp] theorem State.mdBrakeEnd_canonical (s : State) (n : Nat) (hs : s.canonical) : (State.mdBrakeEnd s n).canonical := by
  unfold State.mdBrakeEnd
  (try simp (maxDischargeDepth := 12) +contextual [*])

@[simp] theorem State.vmotZero_canonical (s : State) (mV : Nat) (hs : s.canonical) : (State.vmotZero s mV).canonical := by
  unfold State.vmotZero
  (try simp (maxDischargeDepth := 12) +contextual [*])

@[simp] theorem State.vmotAbs_canonical (s : State) (mV : Nat) (hs : s.canonical) : (State.vmotAbs s mV).canonical := by
  unfold State.vmotAbs
  (try simp (maxDischargeDepth := 12) +contextual [*])

@[simp] theorem State.vmotGood_canonical (s : State) (mV : Nat) (hs : s.canonical) : (State.vmotGood s mV).canonical := by
  unfold State.vmotGood
  (try simp (maxDischargeDepth := 12) +contextual [*])

@[simp] theorem State.vmotTake_canonical (s : State) (mV : Nat) (hs : s.canonical) : (State.vmotTake s mV).canonical := by
  unfold State.vmotTake
  (try simp (maxDischargeDepth := 12) +contextual [*])

theorem execVmotSample_canonical (mV : Nat) (s : State) (hs : s.canonical) :
    nextSat (execVmotSample mV s) fun t => t.canonical := by
  unfold execVmotSample
  (try simp (maxDischargeDepth := 12) +contextual [*])

theorem execVmotRecovery_canonical (s : State) (hs : s.canonical) : nextSat (execVmotRecovery s) fun t => t.canonical := by
  unfold execVmotRecovery
  (try simp (maxDischargeDepth := 12) +contextual [*])

theorem execBrakeFaultCheck_canonical (inst : Fin 2) (vmotMv : Nat) (brkMa : Nat) (s : State) (hs : s.canonical) :
    nextSat (execBrakeFaultCheck inst vmotMv brkMa s) fun t => t.canonical := by
  unfold execBrakeFaultCheck
  (try simp (maxDischargeDepth := 12) +contextual [*])

@[simp] theorem State.brakeClearRequest_canonical (s : State) (hs : s.canonical) : (State.brakeClearRequest s).canonical := by
  unfold State.brakeClearRequest
  (try simp (maxDischargeDepth := 12) +contextual [*])

@[simp] theorem State.brakeClear_canonical (s : State) (value : Nat) (hs : s.canonical) :
    ((State.brakeClear s value)).1.canonical := by
  unfold State.brakeClear
  (try simp (maxDischargeDepth := 12) +contextual [*])

theorem execBrakeFaultClear_canonical (req : Req) (value : Nat) (s : State) (hs : s.canonical) :
    nextSat (execBrakeFaultClear req value s) fun t => t.canonical := by
  unfold execBrakeFaultClear
  (try simp (maxDischargeDepth := 12) +contextual [*])

@[simp] theorem State.readSupplies_canonical (s : State) (vauxMv : Nat) (sw : Nat) (x : Supplies) (hs : s.canonical) :
    (State.readSupplies s vauxMv sw x).canonical := by
  unfold State.readSupplies
  (try simp (maxDischargeDepth := 12) +contextual [*])

@[simp] theorem State.dissipate_canonical (s : State) (m : Dissipation) (hs : s.canonical) : (State.dissipate s m).canonical := by
  unfold State.dissipate
  (try simp (maxDischargeDepth := 12) +contextual [*])

theorem execDissipationEstimate_canonical (m : Dissipation) (s : State) (hs : s.canonical) :
    nextSat (execDissipationEstimate m s) fun t => t.canonical := by
  unfold execDissipationEstimate
  (try simp (maxDischargeDepth := 12) +contextual [*])

@[simp] theorem State.shedOne_canonical (s : State) (c : Nat × Bool × Nat) (thermal : Bool) (hs : s.canonical) :
    (State.shedOne s c thermal).canonical := by
  unfold State.shedOne
  (try simp (maxDischargeDepth := 12) +contextual [*])

@[simp] theorem State.restoreOne_canonical (s : State) (c : Nat × Bool × Nat) (thermal : Bool) (hs : s.canonical) :
    (State.restoreOne s c thermal).canonical := by
  unfold State.restoreOne
  (try simp (maxDischargeDepth := 12) +contextual [*])

@[simp] theorem State.governorShed_canonical (s : State) (hs : s.canonical) : (State.governorShed s).canonical := by
  unfold State.governorShed
  (try simp (maxDischargeDepth := 12) +contextual [*])
  all_goals (repeat' split) <;> (try simp (maxDischargeDepth := 12) +contextual [*])

theorem execGovernorShed_canonical (s : State) (hs : s.canonical) : nextSat (execGovernorShed s) fun t => t.canonical := by
  unfold execGovernorShed
  (try simp (maxDischargeDepth := 12) +contextual [*])

@[simp] theorem State.governorRestore_canonical (s : State) (hs : s.canonical) : (State.governorRestore s).canonical := by
  unfold State.governorRestore
  (try simp (maxDischargeDepth := 12) +contextual [*])
  all_goals (repeat' split) <;> (try simp (maxDischargeDepth := 12) +contextual [*])

theorem execGovernorRestore_canonical (s : State) (hs : s.canonical) : nextSat (execGovernorRestore s) fun t => t.canonical := by
  unfold execGovernorRestore
  (try simp (maxDischargeDepth := 12) +contextual [*])

@[simp] theorem State.drvOn_canonical (s : State) (d : Nat) (hs : s.canonical) : (State.drvOn s d).canonical := by
  unfold State.drvOn
  (try simp (maxDischargeDepth := 12) +contextual [*])

@[simp] theorem State.drvHold_canonical (s : State) (d : Nat) (hs : s.canonical) : (State.drvHold s d).canonical := by
  unfold State.drvHold
  (try simp (maxDischargeDepth := 12) +contextual [*])

@[simp] theorem State.holdSet_canonical (s : State) (d : Nat) (hs : s.canonical) : (State.holdSet s d).canonical := by
  unfold State.holdSet
  (try simp (maxDischargeDepth := 12) +contextual [*])

@[simp] theorem State.countBreak_canonical (s : State) (d : Nat) (hs : s.canonical) : (State.countBreak s d).canonical := by
  unfold State.countBreak
  (try simp (maxDischargeDepth := 12) +contextual [*])

@[simp] theorem State.drvSwitch_canonical (s : State) (d : Nat) (a b : Bool) (h : s.canonical) :
    (s.drvSwitch d a b).canonical := by
  unfold State.drvSwitch
  repeat' split
  all_goals simp [*]

@[simp] theorem State.drvOff_canonical (s : State) (d : Nat) (hs : s.canonical) : (State.drvOff s d).canonical := by
  unfold State.drvOff
  (try simp (maxDischargeDepth := 12) +contextual [*])

@[simp] theorem State.drvCut_canonical (s : State) (d : Nat) (hs : s.canonical) : (State.drvCut s d).canonical := by
  unfold State.drvCut
  (try simp (maxDischargeDepth := 12) +contextual [*])

@[simp] theorem State.stringOff_canonical (s : State) (n : Nat) (hs : s.canonical) : (State.stringOff s n).canonical := by
  unfold State.stringOff
  (try simp (maxDischargeDepth := 12) +contextual [*])

@[simp] theorem State.requestOn_canonical (s : State) (d : Nat) (hs : s.canonical) : (State.requestOn s d).canonical := by
  unfold State.requestOn
  (try simp (maxDischargeDepth := 12) +contextual [*])

@[simp] theorem State.requestOff_canonical (s : State) (d : Nat) (hs : s.canonical) : (State.requestOff s d).canonical := by
  unfold State.requestOff
  (try simp (maxDischargeDepth := 12) +contextual [*])

@[simp] theorem State.tripOff_canonical (s : State) (d : Nat) (hs : s.canonical) : (State.tripOff s d).canonical := by
  unfold State.tripOff
  (try simp (maxDischargeDepth := 12) +contextual [*])

@[simp] theorem State.askOff_canonical (s : State) (n : Nat) (hs : s.canonical) : (State.askOff s n).canonical := by
  unfold State.askOff
  (try simp (maxDischargeDepth := 12) +contextual [*])

@[simp] theorem State.tripStringOff_canonical (s : State) (n : Nat) (hs : s.canonical) : (State.tripStringOff s n).canonical := by
  unfold State.tripStringOff
  (try simp (maxDischargeDepth := 12) +contextual [*])

@[simp] theorem State.commandOn_canonical (s : State) (d : Nat) (hs : s.canonical) : (State.commandOn s d).canonical := by
  unfold State.commandOn
  (try simp (maxDischargeDepth := 12) +contextual [*])

@[simp] theorem State.commandOff_canonical (s : State) (d : Nat) (hs : s.canonical) : (State.commandOff s d).canonical := by
  unfold State.commandOff
  (try simp (maxDischargeDepth := 12) +contextual [*])

@[simp] theorem State.roleOn_canonical (s : State) (n : Nat) (role : Nat) (hs : s.canonical) :
    (State.roleOn s n role).canonical := by
  unfold State.roleOn
  (try simp (maxDischargeDepth := 12) +contextual [*])

@[simp] theorem State.roleOff_canonical (s : State) (n : Nat) (role : Nat) (hs : s.canonical) :
    (State.roleOff s n role).canonical := by
  unfold State.roleOff
  (try simp (maxDischargeDepth := 12) +contextual [*])

@[simp] theorem State.shotStart_canonical (s : State) (k : Nat) (seq : Nat) (target : Nat) (hs : s.canonical) :
    (State.shotStart s k seq target).canonical := by
  unfold State.shotStart
  (try simp (maxDischargeDepth := 12) +contextual [*])

@[simp] theorem State.shotDone_canonical (s : State) (k : Nat) (result : Nat) (members : List Int) (hs : s.canonical) :
    (State.shotDone s k result members).canonical := by
  unfold State.shotDone
  all_goals (repeat' split) <;> (try simp (maxDischargeDepth := 12) +contextual [*])

@[simp] theorem State.shotNotRun_canonical (s : State) (k : Nat) (result : Nat) (zeros : Nat) (hs : s.canonical) :
    (State.shotNotRun s k result zeros).canonical := by
  unfold State.shotNotRun
  all_goals (repeat' split) <;> (try simp (maxDischargeDepth := 12) +contextual [*])

@[simp] theorem State.testNotRun_canonical (s : State) (hs : s.canonical) : (State.testNotRun s).canonical := by
  unfold State.testNotRun
  (try simp (maxDischargeDepth := 12) +contextual [*])

@[simp] theorem State.testEnd_canonical (s : State) (status : Nat) (hs : s.canonical) : (State.testEnd s status).canonical := by
  unfold State.testEnd
  (try simp (maxDischargeDepth := 12) +contextual [*])

@[simp] theorem State.testCut_canonical (s : State) (hs : s.canonical) : (State.testCut s).canonical := by
  unfold State.testCut
  all_goals (repeat' split) <;> (try simp (maxDischargeDepth := 12) +contextual [*])

@[simp] theorem State.drvFailSafe_canonical (s : State) (d : Nat) (hs : s.canonical) : (State.drvFailSafe s d).canonical := by
  unfold State.drvFailSafe
  (try simp (maxDischargeDepth := 12) +contextual [*])

@[simp] theorem State.applyFailSafe_canonical (s : State) (inst : Nat) (hs : s.canonical) :
    (State.applyFailSafe s inst).canonical := by
  unfold State.applyFailSafe
  (try simp (maxDischargeDepth := 12) +contextual [*])

@[simp] theorem State.outputsOff_canonical (s : State) (hs : s.canonical) : (State.outputsOff s).canonical := by
  unfold State.outputsOff
  (try simp (maxDischargeDepth := 12) +contextual [*])

@[simp] theorem State.withdraw_canonical (s : State) (reason : Nat) (lock : Bool) (hs : s.canonical) :
    (State.withdraw s reason lock).canonical := by
  unfold State.withdraw
  (try simp (maxDischargeDepth := 12) +contextual [*])

@[simp] theorem State.trustEnd_canonical (s : State) (inst : Nat) (hs : s.canonical) : (State.trustEnd s inst).canonical := by
  unfold State.trustEnd
  (try simp (maxDischargeDepth := 12) +contextual [*])

theorem execOutputRequest_canonical (r : OutReq) (s : State) (hs : s.canonical) :
    nextSat (execOutputRequest r s) fun t => t.canonical := by
  unfold execOutputRequest
  all_goals (repeat' split) <;> (try simp (maxDischargeDepth := 12) +contextual [*])

theorem execPullInEnd_canonical (driver : Fin 12) (s : State) (hs : s.canonical) :
    nextSat (execPullInEnd driver s) fun t => t.canonical := by
  unfold execPullInEnd
  (try simp (maxDischargeDepth := 12) +contextual [*])

@[simp] theorem State.coilFault_canonical (s : State) (d : Nat) (c : CoilFault) (hs : s.canonical) :
    (State.coilFault s d c).canonical := by
  unfold State.coilFault
  (try simp (maxDischargeDepth := 12) +contextual [*])

@[simp] theorem State.coilCleared_canonical (s : State) (d : Nat) (c : CoilFault) (hs : s.canonical) :
    (State.coilCleared s d c).canonical := by
  unfold State.coilCleared
  (try simp (maxDischargeDepth := 12) +contextual [*])

theorem execCoilFaultDetected_canonical (driver : Fin 12) (c : CoilEvent) (s : State) (hs : s.canonical) :
    nextSat (execCoilFaultDetected driver c s) fun t => t.canonical := by
  unfold execCoilFaultDetected
  (try simp (maxDischargeDepth := 12) +contextual [*])
  all_goals (repeat' split) <;> (try simp (maxDischargeDepth := 12) +contextual [*])

@[simp] theorem State.setAppliedOf_canonical (s : State) (n : Nat) (hs : s.canonical) : (State.setAppliedOf s n).canonical := by
  unfold State.setAppliedOf
  (try simp (maxDischargeDepth := 12) +contextual [*])

@[simp] theorem State.setApplied_canonical (s : State) (hs : s.canonical) : (State.setApplied s).canonical := by
  unfold State.setApplied
  (try simp (maxDischargeDepth := 12) +contextual [*])

@[simp] theorem State.busLimits_canonical (s : State) (hs : s.canonical) : (State.busLimits s).canonical := by
  unfold State.busLimits
  (try simp (maxDischargeDepth := 12) +contextual [*])

@[simp] theorem State.setLimits_canonical (s : State) (hs : s.canonical) : (State.setLimits s).canonical := by
  unfold State.setLimits
  (try simp (maxDischargeDepth := 12) +contextual [*])

@[simp] theorem State.enterSeq_canonical (s : State) (n : Nat) (st : Nat) (hs : s.canonical) :
    (State.enterSeq s n st).canonical := by
  unfold State.enterSeq
  (try simp (maxDischargeDepth := 12) +contextual [*])

@[simp] theorem State.enterOpen_canonical (s : State) (n : Nat) (st : Nat) (hs : s.canonical) :
    (State.enterOpen s n st).canonical := by
  unfold State.enterOpen
  (try simp (maxDischargeDepth := 12) +contextual [*])

@[simp] theorem State.setWeld_canonical (s : State) (d : Nat) (w : Nat) (hs : s.canonical) : (State.setWeld s d w).canonical := by
  unfold State.setWeld
  (try simp (maxDischargeDepth := 12) +contextual [*])

@[simp] theorem State.setDeltas_canonical (s : State) (hs : s.canonical) : (State.setDeltas s).canonical := by
  unfold State.setDeltas
  (try simp (maxDischargeDepth := 12) +contextual [*])

@[simp] theorem State.testAbort_canonical (s : State) (n : Nat) (hs : s.canonical) : (State.testAbort s n).canonical := by
  unfold State.testAbort
  (try simp (maxDischargeDepth := 12) +contextual [*])

@[simp] theorem State.weldRole_canonical (s : State) (n : Nat) (role : Nat) (w : Nat) (hs : s.canonical) :
    (State.weldRole s n role w).canonical := by
  unfold State.weldRole
  (try simp (maxDischargeDepth := 12) +contextual [*])

@[simp] theorem State.testWelded_canonical (s : State) (n : Nat) (role : Nat) (tripped : Bool) (hs : s.canonical) :
    (State.testWelded s n role tripped).canonical := by
  unfold State.testWelded
  (try simp (maxDischargeDepth := 12) +contextual [*])

@[simp] theorem State.testStep_canonical (s : State) (n : Nat) (step : Nat) (hs : s.canonical) :
    (State.testStep s n step).canonical := by
  unfold State.testStep
  (try simp (maxDischargeDepth := 12) +contextual [*])

@[simp] theorem State.tripString_canonical (s : State) (n src inst : Nat) (fast : Bool) (hs : s.canonical) :
    (s.tripString n src inst fast).canonical := by
  unfold State.tripString
  extract_lets st i s1 s2 x s3 s4 s5
  have h1 : s1.canonical := by simp [s1, *]
  clear_value s1
  split
  · exact h1
  have h2 : s2.canonical := by simp [s2, *]
  clear_value s2
  have h3 : s3.canonical := by
    simp only [s3]
    split <;> simp (maxDischargeDepth := 12) [*]
  clear_value s3
  have h4 : s4.canonical := by
    simp only [s4]
    repeat' split
    all_goals simp (maxDischargeDepth := 12) [*]
  clear_value s4
  have h5 : s5.canonical := by
    simp only [s5]
    repeat' split
    all_goals simp (maxDischargeDepth := 12) [*]
  clear_value s5
  simp (maxDischargeDepth := 12) [*]

@[simp] theorem State.failSafeTrip_canonical (s : State) (n : Nat) (src : Nat) (inst : Nat) (hs : s.canonical) :
    (State.failSafeTrip s n src inst).canonical := by
  unfold State.failSafeTrip
  (try simp (maxDischargeDepth := 12) +contextual [*])

@[simp] theorem State.failSafeStrings_canonical (s : State) (src : Nat) (hs : s.canonical) :
    (State.failSafeStrings s src).canonical := by
  unfold State.failSafeStrings
  (try simp (maxDischargeDepth := 12) +contextual [*])

theorem execTripOpenRequest_canonical (string : Fin 4) (s : State) (hs : s.canonical) :
    nextSat (execTripOpenRequest string s) fun t => t.canonical := by
  unfold execTripOpenRequest
  (try simp (maxDischargeDepth := 12) +contextual [*])
  all_goals (repeat' split) <;> (try simp (maxDischargeDepth := 12) +contextual [*])

@[simp] theorem State.abortClose_canonical (s : State) (n : Nat) (hs : s.canonical) : (State.abortClose s n).canonical := by
  unfold State.abortClose
  (try simp (maxDischargeDepth := 12) +contextual [*])

@[simp] theorem State.openCause_canonical (s : State) (n : Nat) (code : Nat) (hs : s.canonical) :
    (State.openCause s n code).canonical := by
  unfold State.openCause
  (try simp (maxDischargeDepth := 12) +contextual [*])

@[simp] theorem State.dropCause_canonical (s : State) (n : Nat) (code : Nat) (hs : s.canonical) :
    (State.dropCause s n code).canonical := by
  unfold State.dropCause
  (try simp (maxDischargeDepth := 12) +contextual [*])

@[simp] theorem State.setDerate_canonical (s : State) (n : Nat) (l : List Nat) (code : Nat) (cleared : Bool) (hs : s.canonical) :
    (State.setDerate s n l code cleared).canonical := by
  unfold State.setDerate
  (try simp (maxDischargeDepth := 12) +contextual [*])

@[simp] theorem State.derateEnter_canonical (s : State) (n : Nat) (code : Nat) (hs : s.canonical) :
    (State.derateEnter s n code).canonical := by
  unfold State.derateEnter
  (try simp (maxDischargeDepth := 12) +contextual [*])

@[simp] theorem State.derateTally_canonical (s : State) (hs : s.canonical) : (State.derateTally s).canonical := by
  unfold State.derateTally
  (try simp (maxDischargeDepth := 12) +contextual [*])

@[simp] theorem State.derateAbsent_canonical (s : State) (n : Nat) (code : Nat) (hs : s.canonical) :
    (State.derateAbsent s n code).canonical := by
  unfold State.derateAbsent
  (try simp (maxDischargeDepth := 12) +contextual [*])

@[simp] theorem State.derateLeave_canonical (s : State) (n : Nat) (code : Nat) (hs : s.canonical) :
    (State.derateLeave s n code).canonical := by
  unfold State.derateLeave
  (try simp (maxDischargeDepth := 12) +contextual [*])

theorem execDeratingClear_canonical (string : Fin 4) (code : Fin 9) (s : State) (hs : s.canonical) :
    nextSat (execDeratingClear string code s) fun t => t.canonical := by
  unfold execDeratingClear
  (try simp (maxDischargeDepth := 12) +contextual [*])

@[simp] theorem State.logCurrents_canonical (s : State) (hs : s.canonical) : (State.logCurrents s).canonical := by
  unfold State.logCurrents
  (try simp (maxDischargeDepth := 12) +contextual [*])

@[simp] theorem State.judgeOver_canonical (s : State) (n : Nat) (hs : s.canonical) : (State.judgeOver s n).canonical := by
  unfold State.judgeOver
  (try simp (maxDischargeDepth := 12) +contextual [*])

@[simp] theorem State.prechargeFail_canonical (s : State) (n : Nat) (code : Nat) (hs : s.canonical) :
    (State.prechargeFail s n code).canonical := by
  unfold State.prechargeFail
  (try simp (maxDischargeDepth := 12) +contextual [*])

@[simp] theorem State.prechargeDone_canonical (s : State) (n : Nat) (hs : s.canonical) : (State.prechargeDone s n).canonical := by
  unfold State.prechargeDone
  (try simp (maxDischargeDepth := 12) +contextual [*])

@[simp] theorem State.prechargeChecked_canonical (s : State) (n : Nat) (hs : s.canonical) : (s.prechargeChecked n).canonical := by
  unfold State.prechargeChecked
  extract_lets i s1 x
  have h1 : s1.canonical := by
    simp only [s1]
    split <;> simp (maxDischargeDepth := 12) [*]
  split
  · split <;> simp (maxDischargeDepth := 12) [*]
  · split
    · simp (maxDischargeDepth := 12) [*]
    split
    · simp (maxDischargeDepth := 12) [*]
    extract_lets s2 m
    have h2 : s2.canonical := by
      simp only [s2]
      split <;> simp (maxDischargeDepth := 12) [*]
    clear_value s2
    repeat' split
    all_goals simp (maxDischargeDepth := 12) [*]

@[simp] theorem State.prechargeUnchecked_canonical (s : State) (n : Nat) (hs : s.canonical) :
    (State.prechargeUnchecked s n).canonical := by
  unfold State.prechargeUnchecked
  (try simp (maxDischargeDepth := 12) +contextual [*])

@[simp] theorem State.prechargeCheck_canonical (s : State) (n : Nat) (hs : s.canonical) :
    (State.prechargeCheck s n).canonical := by
  unfold State.prechargeCheck
  (try simp (maxDischargeDepth := 12) +contextual [*])

@[simp] theorem State.release_canonical (s : State) (n : Nat) (hs : s.canonical) : (State.release s n).canonical := by
  unfold State.release
  (try simp (maxDischargeDepth := 12) +contextual [*])

@[simp] theorem State.stepString_canonical (s : State) (n : Nat) (hs : s.canonical) : (State.stepString s n).canonical := by
  unfold State.stepString
  (try simp (maxDischargeDepth := 12) +contextual [*])

@[simp] theorem State.testWatch_canonical (s : State) (hs : s.canonical) : (State.testWatch s).canonical := by
  unfold State.testWatch
  (try simp (maxDischargeDepth := 12) +contextual [*])
  all_goals (repeat' split) <;> (try simp (maxDischargeDepth := 12) +contextual [*])

@[simp] theorem State.closeCommand_canonical (s : State) (n : Nat) (hs : s.canonical) :
    ((State.closeCommand s n)).1.canonical := by
  unfold State.closeCommand
  (try simp (maxDischargeDepth := 12) +contextual [*])

@[simp] theorem State.openCommand_canonical (s : State) (n : Nat) (hs : s.canonical) : ((State.openCommand s n)).1.canonical := by
  unfold State.openCommand
  (try simp (maxDischargeDepth := 12) +contextual [*])

theorem execStringClose_canonical (req : Req) (string : Fin 4) (s : State) (hs : s.canonical) :
    nextSat (execStringClose req string s) fun t => t.canonical := by
  unfold execStringClose
  (try simp (maxDischargeDepth := 12) +contextual [*])

theorem execStringOpen_canonical (req : Req) (string : Fin 4) (s : State) (hs : s.canonical) :
    nextSat (execStringOpen req string s) fun t => t.canonical := by
  unfold execStringOpen
  (try simp (maxDischargeDepth := 12) +contextual [*])

@[simp] theorem State.grantTurn_canonical (s : State) (n : Nat) (hs : s.canonical) : (State.grantTurn s n).canonical := by
  unfold State.grantTurn
  (try simp (maxDischargeDepth := 12) +contextual [*])

theorem execCloseTurnGranted_canonical (string : Fin 4) (s : State) (hs : s.canonical) :
    nextSat (execCloseTurnGranted string s) fun t => t.canonical := by
  unfold execCloseTurnGranted
  (try simp (maxDischargeDepth := 12) +contextual [*])

@[simp] theorem State.weldCheck_canonical (s : State) (n : Nat) (hs : s.canonical) : (State.weldCheck s n).canonical := by
  unfold State.weldCheck
  (try simp (maxDischargeDepth := 12) +contextual [*])

theorem execWeldCheckElapsed_canonical (string : Fin 4) (s : State) (hs : s.canonical) :
    nextSat (execWeldCheckElapsed string s) fun t => t.canonical := by
  unfold execWeldCheckElapsed
  (try simp (maxDischargeDepth := 12) +contextual [*])

theorem execPrechargeDeadline_canonical (string : Fin 4) (s : State) (hs : s.canonical) :
    nextSat (execPrechargeDeadline string s) fun t => t.canonical := by
  unfold execPrechargeDeadline
  (try simp (maxDischargeDepth := 12) +contextual [*])

theorem execPrechargeCooldownEnd_canonical (string : Fin 4) (s : State) (hs : s.canonical) :
    nextSat (execPrechargeCooldownEnd string s) fun t => t.canonical := by
  unfold execPrechargeCooldownEnd
  (try simp (maxDischargeDepth := 12) +contextual [*])

theorem execClosingCloseTimeElapsed_canonical (string : Fin 4) (s : State) (hs : s.canonical) :
    nextSat (execClosingCloseTimeElapsed string s) fun t => t.canonical := by
  unfold execClosingCloseTimeElapsed
  (try simp (maxDischargeDepth := 12) +contextual [*])

theorem execClosingDropTimeElapsed_canonical (string : Fin 4) (s : State) (hs : s.canonical) :
    nextSat (execClosingDropTimeElapsed string s) fun t => t.canonical := by
  unfold execClosingDropTimeElapsed
  (try simp (maxDischargeDepth := 12) +contextual [*])

theorem execJoinWaitTimeout_canonical (string : Fin 4) (s : State) (hs : s.canonical) :
    nextSat (execJoinWaitTimeout string s) fun t => t.canonical := by
  unfold execJoinWaitTimeout
  (try simp (maxDischargeDepth := 12) +contextual [*])

theorem execOpenRampTimeout_canonical (string : Fin 4) (s : State) (hs : s.canonical) :
    nextSat (execOpenRampTimeout string s) fun t => t.canonical := by
  unfold execOpenRampTimeout
  (try simp (maxDischargeDepth := 12) +contextual [*])

theorem execBreakMaxRepeat_canonical (string : Fin 4) (s : State) (hs : s.canonical) :
    nextSat (execBreakMaxRepeat string s) fun t => t.canonical := by
  unfold execBreakMaxRepeat
  (try simp (maxDischargeDepth := 12) +contextual [*])

theorem execOpeningWeldTest_canonical (string : Fin 4) (s : State) (hs : s.canonical) :
    nextSat (execOpeningWeldTest string s) fun t => t.canonical := by
  unfold execOpeningWeldTest
  (try simp (maxDischargeDepth := 12) +contextual [*])

theorem execOpeningDropElapsed_canonical (string : Fin 4) (s : State) (hs : s.canonical) :
    nextSat (execOpeningDropElapsed string s) fun t => t.canonical := by
  unfold execOpeningDropElapsed
  (try simp (maxDischargeDepth := 12) +contextual [*])

theorem execPostTripWeldCheck_canonical (string : Fin 4) (s : State) (hs : s.canonical) :
    nextSat (execPostTripWeldCheck string s) fun t => t.canonical := by
  unfold execPostTripWeldCheck
  (try simp (maxDischargeDepth := 12) +contextual [*])
  all_goals (repeat' split) <;> (try simp (maxDischargeDepth := 12) +contextual [*])

@[simp] theorem State.pairReleased_canonical (s : State) (p : Nat) (hs : s.canonical) : (State.pairReleased s p).canonical := by
  unfold State.pairReleased
  (try simp (maxDischargeDepth := 12) +contextual [*])

@[simp] theorem State.resetString_canonical (s : State) (n : Nat) (hs : s.canonical) : (State.resetString s n).canonical := by
  unfold State.resetString
  (try simp (maxDischargeDepth := 12) +contextual [*])

@[simp] theorem State.tripReset_canonical (s : State) (mask : Nat) (hs : s.canonical) :
    ((State.tripReset s mask)).1.canonical := by
  unfold State.tripReset
  (try simp (maxDischargeDepth := 12) +contextual [*])

theorem execTripReset_canonical (req : Req) (mask : Byte) (s : State) (hs : s.canonical) :
    nextSat (execTripReset req mask s) fun t => t.canonical := by
  unfold execTripReset
  (try simp (maxDischargeDepth := 12) +contextual [*])

@[simp] theorem State.makeDue_canonical (s : State) (d : Nat) (hs : s.canonical) : (State.makeDue s d).canonical := by
  unfold State.makeDue
  (try simp (maxDischargeDepth := 12) +contextual [*])

@[simp] theorem State.weldsCleared_canonical (s : State) (mask : Nat) (hs : s.canonical) :
    (State.weldsCleared s mask).canonical := by
  unfold State.weldsCleared
  (try simp (maxDischargeDepth := 12) +contextual [*])

@[simp] theorem State.weldClear_canonical (s : State) (mask : Nat) (hs : s.canonical) :
    ((State.weldClear s mask)).1.canonical := by
  unfold State.weldClear
  (try simp (maxDischargeDepth := 12) +contextual [*])

theorem execWeldClear_canonical (req : Req) (mask : BitVec 16) (s : State) (hs : s.canonical) :
    nextSat (execWeldClear req mask s) fun t => t.canonical := by
  unfold execWeldClear
  (try simp (maxDischargeDepth := 12) +contextual [*])

theorem execCurrentSourceNoneTimeout_canonical (string : Fin 4) (s : State) (hs : s.canonical) :
    nextSat (execCurrentSourceNoneTimeout string s) fun t => t.canonical := by
  unfold execCurrentSourceNoneTimeout
  (try simp (maxDischargeDepth := 12) +contextual [*])

theorem execTempInputLossTimeout_canonical (ring : Fin 4) (pos : Fin 32) (s : State) (hs : s.canonical) :
    nextSat (execTempInputLossTimeout ring pos s) fun t => t.canonical := by
  unfold execTempInputLossTimeout
  (try simp (maxDischargeDepth := 12) +contextual [*])
  all_goals (repeat' split) <;> (try simp (maxDischargeDepth := 12) +contextual [*])

theorem execOverLimitTimeout_canonical (string : Fin 4) (s : State) (hs : s.canonical) :
    nextSat (execOverLimitTimeout string s) fun t => t.canonical := by
  unfold execOverLimitTimeout
  (try simp (maxDischargeDepth := 12) +contextual [*])

@[simp] theorem State.openTestRequest_canonical (s : State) (value : Nat) (hs : s.canonical) :
    ((State.openTestRequest s value)).1.canonical := by
  unfold State.openTestRequest
  (try simp (maxDischargeDepth := 12) +contextual [*])
  all_goals (repeat' split) <;> (try simp (maxDischargeDepth := 12) +contextual [*])

theorem execContactorOpenTestRequest_canonical (req : Req) (value : BitVec 32) (s : State) (hs : s.canonical) :
    nextSat (execContactorOpenTestRequest req value s) fun t => t.canonical := by
  unfold execContactorOpenTestRequest
  (try simp (maxDischargeDepth := 12) +contextual [*])

@[simp] theorem State.testCheck_canonical (s : State) (n : Nat) (hs : s.canonical) : (State.testCheck s n).canonical := by
  unfold State.testCheck
  (try simp (maxDischargeDepth := 12) +contextual [*])

theorem execOpenTestStepCheck_canonical (s : State) (hs : s.canonical) :
    nextSat (execOpenTestStepCheck s) fun t => t.canonical := by
  unfold execOpenTestStepCheck
  all_goals (repeat' split) <;> (try simp (maxDischargeDepth := 12) +contextual [*])

@[simp] theorem State.testDropped_canonical (s : State) (n : Nat) (hs : s.canonical) : (State.testDropped s n).canonical := by
  unfold State.testDropped
  (try simp (maxDischargeDepth := 12) +contextual [*])

theorem execOpenTestStepDropDone_canonical (s : State) (hs : s.canonical) :
    nextSat (execOpenTestStepDropDone s) fun t => t.canonical := by
  unfold execOpenTestStepDropDone
  all_goals (repeat' split) <;> (try simp (maxDischargeDepth := 12) +contextual [*])

@[simp] theorem State.safeOffApply_canonical (s : State) (hs : s.canonical) : (State.safeOffApply s).canonical := by
  unfold State.safeOffApply
  (try simp (maxDischargeDepth := 12) +contextual [*])

@[simp] theorem State.pairSay_canonical (s : State) (p : Nat) (asserted : Bool) (hs : s.canonical) :
    (State.pairSay s p asserted).canonical := by
  unfold State.pairSay
  (try simp (maxDischargeDepth := 12) +contextual [*])

@[simp] theorem State.pairAssert_canonical (s : State) (p : Nat) (st : Nat) (hs : s.canonical) :
    (State.pairAssert s p st).canonical := by
  unfold State.pairAssert
  (try simp (maxDischargeDepth := 12) +contextual [*])

@[simp] theorem State.pairRelease_canonical (s : State) (p : Nat) (hs : s.canonical) : (State.pairRelease s p).canonical := by
  unfold State.pairRelease
  (try simp (maxDischargeDepth := 12) +contextual [*])

@[simp] theorem State.pairFault_canonical (s : State) (p : Nat) (hs : s.canonical) : (State.pairFault s p).canonical := by
  unfold State.pairFault
  (try simp (maxDischargeDepth := 12) +contextual [*])

@[simp] theorem State.pairInFault_canonical (s : State) (p : Nat) (before : Nat) (hs : s.canonical) :
    (State.pairInFault s p before).canonical := by
  unfold State.pairInFault
  (try simp (maxDischargeDepth := 12) +contextual [*])
  all_goals (repeat' split) <;> (try simp (maxDischargeDepth := 12) +contextual [*])

@[simp] theorem State.pairStep_canonical (s : State) (p : Nat) (before : Nat) (hs : s.canonical) :
    (State.pairStep s p before).canonical := by
  unfold State.pairStep
  (try simp (maxDischargeDepth := 12) +contextual [*])
  all_goals (repeat' split) <;> (try simp (maxDischargeDepth := 12) +contextual [*])

@[simp] theorem State.pairStart_canonical (s : State) (p : Nat) (hs : s.canonical) : (State.pairStart s p).canonical := by
  unfold State.pairStart
  (try simp (maxDischargeDepth := 12) +contextual [*])

@[simp] theorem State.pairWake_canonical (s : State) (p : Nat) (hs : s.canonical) : (State.pairWake s p).canonical := by
  unfold State.pairWake
  (try simp (maxDischargeDepth := 12) +contextual [*])

@[simp] theorem State.countLevel_canonical (s : State) (p : Nat) (chB : Bool) (level : Bool) (hs : s.canonical) :
    (State.countLevel s p chB level).canonical := by
  unfold State.countLevel
  (try simp (maxDischargeDepth := 12) +contextual [*])

theorem execSafetyInputChange_canonical (pair : Fin 4) (chB : Bool) (level : Bool) (s : State) (hs : s.canonical) :
    nextSat (execSafetyInputChange pair chB level s) fun t => t.canonical := by
  unfold execSafetyInputChange
  (try simp (maxDischargeDepth := 12) +contextual [*])

theorem execSafetyDiscrepancyTimeout_canonical (pair : Fin 4) (s : State) (hs : s.canonical) :
    nextSat (execSafetyDiscrepancyTimeout pair s) fun t => t.canonical := by
  unfold execSafetyDiscrepancyTimeout
  (try simp (maxDischargeDepth := 12) +contextual [*])

theorem execSafeOffReport_canonical (pair : Fin 4) (asserted : Bool) (s : State) (hs : s.canonical) :
    nextSat (execSafeOffReport pair asserted s) fun t => t.canonical := by
  unfold execSafeOffReport
  (try simp (maxDischargeDepth := 12) +contextual [*])
  all_goals (repeat' split) <;> (try simp (maxDischargeDepth := 12) +contextual [*])

@[simp] theorem State.receiverTest_canonical (s : State) (k : Nat) (follows : Bool) (hs : s.canonical) :
    (State.receiverTest s k follows).canonical := by
  unfold State.receiverTest
  (try simp (maxDischargeDepth := 12) +contextual [*])

theorem execSafetyInputSelfTest_canonical (follows : BitVec 8) (s : State) (hs : s.canonical) :
    nextSat (execSafetyInputSelfTest follows s) fun t => t.canonical := by
  unfold execSafetyInputSelfTest
  (try simp (maxDischargeDepth := 12) +contextual [*])

theorem execOscillatorCrossCheck_canonical (count7 : Nat) (count9 : Nat) (s : State) (hs : s.canonical) :
    nextSat (execOscillatorCrossCheck count7 count9 s) fun t => t.canonical := by
  unfold execOscillatorCrossCheck
  all_goals (repeat' split) <;> (try simp (maxDischargeDepth := 12) +contextual [*])

@[simp] theorem State.pulseFail_canonical (s : State) (d : Nat) (kind : Nat) (hs : s.canonical) :
    (State.pulseFail s d kind).canonical := by
  unfold State.pulseFail
  (try simp (maxDischargeDepth := 12) +contextual [*])

theorem execOffPulseStart_canonical (driver : Fin 12) (highSide : Bool) (s : State) (hs : s.canonical) :
    nextSat (execOffPulseStart driver highSide s) fun t => t.canonical := by
  unfold execOffPulseStart
  (try simp (maxDischargeDepth := 12) +contextual [*])

theorem execOffPulseCheck_canonical (driver : Fin 12) (mA : Nat) (s : State) (hs : s.canonical) :
    nextSat (execOffPulseCheck driver mA s) fun t => t.canonical := by
  unfold execOffPulseCheck
  (try simp (maxDischargeDepth := 12) +contextual [*])

theorem execOffPulseEnd_canonical (driver : Fin 12) (s : State) (hs : s.canonical) :
    nextSat (execOffPulseEnd driver s) fun t => t.canonical := by
  unfold execOffPulseEnd
  (try simp (maxDischargeDepth := 12) +contextual [*])

theorem execOffStateCheck_canonical (driver : Fin 12) (hsMa : Nat) (lsMa : Nat) (coilMa : Nat) (s : State) (hs : s.canonical) :
    nextSat (execOffStateCheck driver hsMa lsMa coilMa s) fun t => t.canonical := by
  unfold execOffStateCheck
  (try simp (maxDischargeDepth := 12) +contextual [*])

theorem execOpeningProofDue_canonical (driver : Fin 12) (s : State) (hs : s.canonical) :
    nextSat (execOpeningProofDue driver s) fun t => t.canonical := by
  unfold execOpeningProofDue
  (try simp (maxDischargeDepth := 12) +contextual [*])

theorem execOpeningProofOverdue_canonical (driver : Fin 12) (s : State) (hs : s.canonical) :
    nextSat (execOpeningProofOverdue driver s) fun t => t.canonical := by
  unfold execOpeningProofOverdue
  (try simp (maxDischargeDepth := 12) +contextual [*])

@[simp] theorem State.upsetCopy_canonical (s : State) (key : Nat) (v : Nat) (hs : s.canonical) :
    (State.upsetCopy s key v).canonical := by
  unfold State.upsetCopy
  (try simp (maxDischargeDepth := 12) +contextual [*])

@[simp] theorem State.copySafety_canonical (s : State) (i : Nat) (subs : List Nat) (hs : s.canonical) :
    (State.copySafety s i subs).canonical := by
  unfold State.copySafety
  (try simp (maxDischargeDepth := 12) +contextual [*])

@[simp] theorem State.readback_canonical (s : State) (hs : s.canonical) : (State.readback s).canonical := by
  unfold State.readback
  (try simp (maxDischargeDepth := 12) +contextual [*])

theorem execSafetyConfigReadback_canonical (upset : Option CopyUpset) (s : State) (hs : s.canonical) :
    nextSat (execSafetyConfigReadback upset s) fun t => t.canonical := by
  unfold execSafetyConfigReadback
  (try simp (maxDischargeDepth := 12) +contextual [*])
  all_goals (repeat' split) <;> (try simp (maxDischargeDepth := 12) +contextual [*])

theorem ringsWf_asleep (m : SMap Ring) (h : ringsWf m) : ringsWf (m.map fun e => (e.1, ({ asleep := true } : Ring))) := by
  unfold ringsWf recordsWf at *
  suffices H : ∀ lo, mwfFrom (fun _ => ({} : Ring)) lo m = true →
      mwfFrom (fun _ => ({} : Ring)) lo (m.map fun e => (e.1, ({ asleep := true } : Ring))) = true from H _ h
  clear h
  induction m with
  | nil => intro lo _; rfl
  | cons e m ih =>
    intro lo h
    obtain ⟨a, v⟩ := e
    have hc := (mwf_cons _ lo a v m).1 h
    rw [List.map_cons, mwf_cons]
    exact ⟨hc.1, by decide, ih _ hc.2.2⟩

@[simp] theorem State.cdReset_canonical (s : State) (cause : Nat) (hs : s.canonical) : (s.cdReset cause).canonical := by
  have h1 := objectsWf_filter s.variant s.objs (fun p => keptElement p.1) hs.1
  have h2 := chansWf_keep s.chans hs.2.2.2.2.2.2.2.2.2.2.1
  have h3 := ringsWf_asleep _ (ringsWf_filter s.rings (fun e => e.2.asleep) hs.2.2.2.2.2.2.1)
  exact ⟨h1, hs.2.1, hs.2.2.1, hs.2.2.2.1, hs.2.2.2.2.1, strsWf_nil, h3, monitorsWf_nil, cellsWf_nil, tempsWf_nil, h2, shotsWf_nil⟩

@[simp] theorem State.cdResetFor_canonical (s : State) (cause : Nat) (src : Nat) (inst : Nat) (hs : s.canonical) :
    (State.cdResetFor s cause src inst).canonical := by
  unfold State.cdResetFor
  (try simp (maxDischargeDepth := 12) +contextual [*])

@[simp] theorem State.activateNow_canonical (s : State) (hs : s.canonical) : (State.activateNow s).canonical := by
  unfold State.activateNow
  (try simp (maxDischargeDepth := 12) +contextual [*])

@[simp] theorem State.keepDue_canonical (s : State) (t : State) (hs : s.canonical) (ht : t.canonical) :
    (State.keepDue s t).canonical := by
  unfold State.keepDue
  (try simp (maxDischargeDepth := 12) +contextual [*])

@[simp] theorem State.pdReset_canonical (s : State) (hs : s.canonical) : (State.pdReset s).canonical := by
  unfold State.pdReset
  (try simp (maxDischargeDepth := 12) +contextual [*])

theorem execLockstepMismatch_canonical (s : State) (hs : s.canonical) :
    nextSat (execLockstepMismatch s) fun t => t.canonical := by
  unfold execLockstepMismatch
  (try simp (maxDischargeDepth := 12) +contextual [*])

@[simp] theorem State.gateBy_canonical (s : State) (byDomain8 : Bool) (hs : s.canonical) :
    (State.gateBy s byDomain8).canonical := by
  unfold State.gateBy
  (try simp (maxDischargeDepth := 12) +contextual [*])

@[simp] theorem State.holdForClock_canonical (s : State) (hs : s.canonical) : (State.holdForClock s).canonical := by
  unfold State.holdForClock
  (try simp (maxDischargeDepth := 12) +contextual [*])

@[simp] theorem State.judgeGate_canonical (s : State) (bad : List Nat) (hs : s.canonical) :
    (State.judgeGate s bad).canonical := by
  unfold State.judgeGate
  (try simp (maxDischargeDepth := 12) +contextual [*])

theorem execClockMonitorGate_canonical (count1 : Nat) (count5 : Nat) (byDomain8 : Bool) (s : State) (hs : s.canonical) :
    nextSat (execClockMonitorGate count1 count5 byDomain8 s) fun t => t.canonical := by
  unfold execClockMonitorGate
  (try simp (maxDischargeDepth := 12) +contextual [*])

theorem execDomain8Loss_canonical (s : State) (hs : s.canonical) : nextSat (execDomain8Loss s) fun t => t.canonical := by
  unfold execDomain8Loss
  (try simp (maxDischargeDepth := 12) +contextual [*])

@[simp] theorem State.powerLinkLost_canonical (s : State) (hs : s.canonical) : (State.powerLinkLost s).canonical := by
  unfold State.powerLinkLost
  (try simp (maxDischargeDepth := 12) +contextual [*])

@[simp] theorem State.computeLinkLost_canonical (s : State) (inst : Nat) (hs : s.canonical) :
    (State.computeLinkLost s inst).canonical := by
  unfold State.computeLinkLost
  (try simp (maxDischargeDepth := 12) +contextual [*])

theorem execInterdieFrameReceived_canonical (atPower : Bool) (f : LinkFrame) (s : State) (hs : s.canonical) :
    nextSat (execInterdieFrameReceived atPower f s) fun t => t.canonical := by
  unfold execInterdieFrameReceived
  (try simp (maxDischargeDepth := 12) +contextual [*])
  all_goals (repeat' split) <;> (try simp (maxDischargeDepth := 12) +contextual [*])

theorem execInterdieLinkTimeout_canonical (atPower : Bool) (s : State) (hs : s.canonical) :
    nextSat (execInterdieLinkTimeout atPower s) fun t => t.canonical := by
  unfold execInterdieLinkTimeout
  all_goals (repeat' split) <;> (try simp (maxDischargeDepth := 12) +contextual [*])

@[simp] theorem State.linkUs_canonical (s : State) (hs : s.canonical) : (State.linkUs s).canonical := by
  unfold State.linkUs
  (try simp (maxDischargeDepth := 12) +contextual [*])

theorem execInterdieIdleSend_canonical (fromPower : Bool) (s : State) (hs : s.canonical) :
    nextSat (execInterdieIdleSend fromPower s) fun t => t.canonical := by
  unfold execInterdieIdleSend
  all_goals (repeat' split) <;> (try simp (maxDischargeDepth := 12) +contextual [*])

@[simp] theorem State.trustLost_canonical (s : State) (inst : Nat) (hs : s.canonical) : (State.trustLost s inst).canonical := by
  unfold State.trustLost
  (try simp (maxDischargeDepth := 12) +contextual [*])

theorem execWatchdogAnswer_canonical (k : Fin 4) (value : Byte) (at9 : Nat) (s : State) (hs : s.canonical) :
    nextSat (execWatchdogAnswer k value at9 s) fun t => t.canonical := by
  unfold execWatchdogAnswer
  (try simp (maxDischargeDepth := 12) +contextual [*])

@[simp] theorem State.newWindow_canonical (s : State) (hs : s.canonical) : (State.newWindow s).canonical := by
  unfold State.newWindow
  (try simp (maxDischargeDepth := 12) +contextual [*])

@[simp] theorem State.goodWindow_canonical (s : State) (hs : s.canonical) : (State.goodWindow s).canonical := by
  unfold State.goodWindow
  (try simp (maxDischargeDepth := 12) +contextual [*])

theorem execWatchdogWindowEnd_canonical (s : State) (hs : s.canonical) :
    nextSat (execWatchdogWindowEnd s) fun t => t.canonical := by
  unfold execWatchdogWindowEnd
  (try simp (maxDischargeDepth := 12) +contextual [*])

theorem execWatchdogEscalation_canonical (s : State) (hs : s.canonical) :
    nextSat (execWatchdogEscalation s) fun t => t.canonical := by
  unfold execWatchdogEscalation
  (try simp (maxDischargeDepth := 12) +contextual [*])

@[simp] theorem State.captureTrigger_canonical (s : State) (src : Nat) (time : Nat) (hs : s.canonical) :
    (State.captureTrigger s src time).canonical := by
  unfold State.captureTrigger
  (try simp (maxDischargeDepth := 12) +contextual [*])

@[simp] theorem State.matrixTrips_canonical (s : State) (acts : List Act) (hs : s.canonical) :
    (s.matrixTrips acts).canonical := by
  unfold State.matrixTrips
  split
  · refine forEach_canonical _ _ _ hs fun t n ht => ?_
    repeat' split
    all_goals simp (maxDischargeDepth := 12) [*]
  · exact hs

@[simp] theorem State.matrixRoute_canonical (s : State) (a : Act) (hs : s.canonical) : (s.matrixRoute a).canonical := by
  unfold State.matrixRoute
  extract_lets w s1 s2 r s3 code sev flags send
  have h1 : s1.canonical := by
    simp only [s1]
    split <;> simp (maxDischargeDepth := 12) [*]
  clear_value s1
  have h2 : s2.canonical := by
    simp only [s2]
    split <;> simp (maxDischargeDepth := 12) [*]
  clear_value s2
  have hr : r.1.canonical := by
    simp only [r]
    repeat' split
    all_goals simp (maxDischargeDepth := 12) [*]
  have hsend : ∀ (s : State) b cls, s.canonical → (send s b cls).canonical := by
    intro s b cls h
    simp only [send]
    split <;> simp (maxDischargeDepth := 12) [*]
  clear_value send
  exact hsend _ _ _ (hsend _ _ _ (hsend _ _ _ hr))

@[simp] theorem State.matrixEvaluate_canonical (s : State) (hs : s.canonical) : (State.matrixEvaluate s).canonical := by
  unfold State.matrixEvaluate
  (try simp (maxDischargeDepth := 12) +contextual [*])

theorem execEventMatrixEvaluate_canonical (s : State) (hs : s.canonical) :
    nextSat (execEventMatrixEvaluate s) fun t => t.canonical := by
  unfold execEventMatrixEvaluate
  (try simp (maxDischargeDepth := 12) +contextual [*])

@[simp] theorem State.routeWrite_canonical (s : State) (source : Nat) (v : Nat) (hs : s.canonical) :
    ((State.routeWrite s source v)).1.canonical := by
  unfold State.routeWrite
  (try simp (maxDischargeDepth := 12) +contextual [*])

theorem execEventRouteWrite_canonical (req : Req) (source : Byte) (value : BitVec 32) (s : State) (hs : s.canonical) :
    nextSat (execEventRouteWrite req source value s) fun t => t.canonical := by
  unfold execEventRouteWrite
  (try simp (maxDischargeDepth := 12) +contextual [*])

@[simp] theorem State.acknowledge_canonical (s : State) (v : Nat) (hs : s.canonical) : ((State.acknowledge s v)).1.canonical := by
  unfold State.acknowledge
  (try simp (maxDischargeDepth := 12) +contextual [*])

theorem execEventAcknowledge_canonical (req : Req) (value : BitVec 16) (s : State) (hs : s.canonical) :
    nextSat (execEventAcknowledge req value s) fun t => t.canonical := by
  unfold execEventAcknowledge
  (try simp (maxDischargeDepth := 12) +contextual [*])

end Sys2Proof.Machine
end

