-- ==== Sys2Proof/Laws/CanonicalChain.lean ====
section
/-! SUPPORT. Sys2Proof/Laws/CanonicalChain.lean: every operation and every command keeps the canonical form of the stored state (`State.canonical`)
(the chain, currents, time, the tally). -/

namespace Sys2Proof.Machine

@[simp] theorem State.assignClusters_canonical (s : State) (hs : s.canonical) : (State.assignClusters s).canonical := by
  unfold State.assignClusters
  (try simp (maxDischargeDepth := 12) +contextual [*])

@[simp] theorem State.refreshEst_canonical (s : State) (n : Nat) (hs : s.canonical) : (State.refreshEst s n).canonical := by
  unfold State.refreshEst
  (try simp (maxDischargeDepth := 12) +contextual [*])

@[simp] theorem State.readyNow_canonical (s : State) (hs : s.canonical) : (State.readyNow s).canonical := by
  unfold State.readyNow
  (try simp (maxDischargeDepth := 12) +contextual [*])

@[simp] theorem State.dupSend_canonical (s : State) (f : DupFrame) (hs : s.canonical) : (State.dupSend s f).canonical := by
  unfold State.dupSend
  (try simp (maxDischargeDepth := 12) +contextual [*])

@[simp] theorem State.setTrain_canonical (s : State) (r : Nat) (b : Bool) (t : Option Train) (hs : s.canonical) :
    (State.setTrain s r b t).canonical := by
  unfold State.setTrain
  (try simp (maxDischargeDepth := 12) +contextual [*])

@[simp] theorem State.setQueue_canonical (s : State) (r : Nat) (b : Bool) (q : List Train) (hs : s.canonical) :
    (State.setQueue s r b q).canonical := by
  unfold State.setQueue
  (try simp (maxDischargeDepth := 12) +contextual [*])

@[simp] theorem State.queueTrain_canonical (s : State) (r : Nat) (b : Bool) (t : Train) (hs : s.canonical) :
    (State.queueTrain s r b t).canonical := by
  unfold State.queueTrain
  (try simp (maxDischargeDepth := 12) +contextual [*])

@[simp] theorem State.queueTo_canonical (s : State) (r : Nat) (p : Nat) (order : Nat) (type : Nat) (payload : List Byte) (hs : s.canonical) :
    (State.queueTo s r p order type payload).canonical := by
  unfold State.queueTo
  (try simp (maxDischargeDepth := 12) +contextual [*])
  all_goals (repeat' split) <;> (try simp (maxDischargeDepth := 12) +contextual [*])

@[simp] theorem State.identifyAll_canonical (s : State) (r : Nat) (hs : s.canonical) : (State.identifyAll s r).canonical := by
  unfold State.identifyAll
  (try simp (maxDischargeDepth := 12) +contextual [*])

@[simp] theorem State.errorRate_canonical (s : State) (r : Nat) (p : Nat) (hs : s.canonical) :
    (State.errorRate s r p).canonical := by
  unfold State.errorRate
  (try simp (maxDischargeDepth := 12) +contextual [*])

@[simp] theorem State.chainError_canonical (s : State) (r : Nat) (cat : Nat) (off : Option Nat) (p : Nat) (hs : s.canonical) :
    (State.chainError s r cat off p).canonical := by
  unfold State.chainError
  (try simp (maxDischargeDepth := 12) +contextual [*])
  all_goals (repeat' split) <;> (try simp (maxDischargeDepth := 12) +contextual [*])

@[simp] theorem State.linkBroken_canonical (s : State) (r : Nat) (l : Nat) (hs : s.canonical) :
    (State.linkBroken s r l).canonical := by
  unfold State.linkBroken
  (try simp (maxDischargeDepth := 12) +contextual [*])

@[simp] theorem State.owInconclusive_canonical (s : State) (r : Nat) (p : Nat) (hs : s.canonical) :
    (State.owInconclusive s r p).canonical := by
  unfold State.owInconclusive
  (try simp (maxDischargeDepth := 12) +contextual [*])

@[simp] theorem State.rehomed_canonical (s : State) (r : Nat) (b : Bool) (t : Train) (hs : s.canonical) :
    (State.rehomed s r b t).canonical := by
  unfold State.rehomed
  (try simp (maxDischargeDepth := 12) +contextual [*])
  all_goals (repeat' split) <;> (try simp (maxDischargeDepth := 12) +contextual [*])

@[simp] theorem State.rehome_canonical (s : State) (r : Nat) (hs : s.canonical) : (s.rehome r).canonical := by
  unfold State.rehome
  refine forEach_canonical _ _ _ hs fun s b h => ?_
  extract_lets q
  exact forEach_canonical _ _ _ (by simp [h]) fun s t h => by simp [h]

@[simp] theorem State.requeue_canonical (s : State) (r : Nat) (b : Bool) (t : Train) (hs : s.canonical) :
    (State.requeue s r b t).canonical := by
  unfold State.requeue
  (try simp (maxDischargeDepth := 12) +contextual [*])

@[simp] theorem State.splitAt_canonical (s : State) (r : Nat) (ls : List Nat) (hs : s.canonical) :
    (State.splitAt s r ls).canonical := by
  unfold State.splitAt
  (try simp (maxDischargeDepth := 12) +contextual [*])

@[simp] theorem State.noteReply_canonical (s : State) (r : Nat) (port : Bool) (key : Nat) (f : List Byte) (hs : s.canonical) :
    (State.noteReply s r port key f).canonical := by
  unfold State.noteReply
  (try simp (maxDischargeDepth := 12) +contextual [*])

@[simp] theorem State.reply_canonical (s : State) (r : Nat) (port : Bool) (f : List Byte) (act : State → Nat → Bool → State)
    (hs : s.canonical) (ha : ∀ (s : State) p b, s.canonical → (act s p b).canonical) : (s.reply r port f act).canonical := by
  unfold State.reply
  split
  · exact ha _ _ _ (by simp (maxDischargeDepth := 12) [*])
  · simp (maxDischargeDepth := 12) [*]
  · simp (maxDischargeDepth := 12) [*]
  · simp only
    split <;> simp (maxDischargeDepth := 12) [*]

@[simp] theorem State.forward_canonical (s : State) (r : Nat) (port : Bool) (f : List Byte) (hs : s.canonical) :
    (State.forward s r port f).canonical := by
  unfold State.forward
  (try simp (maxDischargeDepth := 12) +contextual [*])

@[simp] theorem State.onReply_canonical (s : State) (r : Nat) (port : Bool) (f : List Byte) (act : State → Nat → Bool → State)
    (hs : s.canonical) (ha : ∀ (s : State) p b, s.canonical → (act s p b).canonical) :
    nextSat (s.onReply r port f act) fun t => t.canonical := by
  unfold State.onReply
  refine doneIf_canonical _ _ _ (fun _ => ?_) hs
  split
  · exact State.reply_canonical _ _ _ _ _ hs ha
  · simp [*]

@[simp] theorem State.queueConfigure_canonical (s : State) (r : Nat) (p : Nat) (hs : s.canonical) :
    (State.queueConfigure s r p).canonical := by
  unfold State.queueConfigure
  (try simp (maxDischargeDepth := 12) +contextual [*])

@[simp] theorem State.reconfigure_canonical (s : State) (r : Nat) (hs : s.canonical) : (State.reconfigure s r).canonical := by
  unfold State.reconfigure
  (try simp (maxDischargeDepth := 12) +contextual [*])

theorem State.newChallenge_canonical (s : State) (t : State × List Byte) (h : s.newChallenge = some t) (hs : s.canonical) :
    t.1.canonical := by
  unfold State.newChallenge at h
  simp only [Option.map_eq_some_iff] at h
  obtain ⟨u, hu, rfl⟩ := h
  have : u.canonical := by
    revert hu
    repeat' split
    all_goals intro h; cases h
    all_goals simp (maxDischargeDepth := 12) [*]
  simp (maxDischargeDepth := 12) [*]

@[simp] theorem State.authStart_canonical (s : State) (r p : Nat) (hs : s.canonical) : (s.authStart r p).canonical := by
  unfold State.authStart
  split
  · rename_i h
    have := State.newChallenge_canonical _ _ h hs
    simp (maxDischargeDepth := 12) [*]
  · simp [hs]
  · simp [hs]

@[simp] theorem State.authResume_canonical (s : State) (hs : s.canonical) : (State.authResume s).canonical := by
  unfold State.authResume
  (try simp (maxDischargeDepth := 12) +contextual [*])

@[simp] theorem State.tamper_canonical (s : State) (b : Nat) (hs : s.canonical) : (State.tamper s b).canonical := by
  unfold State.tamper
  (try simp (maxDischargeDepth := 12) +contextual [*])

@[simp] theorem State.setAuth_canonical (s : State) (r : Nat) (p : Nat) (v : Nat) (hs : s.canonical) :
    (State.setAuth s r p v).canonical := by
  unfold State.setAuth
  (try simp (maxDischargeDepth := 12) +contextual [*])

@[simp] theorem State.authNone_canonical (s : State) (r : Nat) (p : Nat) (b : Bool) (t : Train) (hs : s.canonical) :
    (State.authNone s r p b t).canonical := by
  unfold State.authNone
  (try simp (maxDischargeDepth := 12) +contextual [*])

@[simp] theorem State.owNotRun_canonical (s : State) (hs : s.canonical) : (State.owNotRun s).canonical := by
  unfold State.owNotRun
  all_goals (repeat' split) <;> (try simp (maxDischargeDepth := 12) +contextual [*])

@[simp] theorem State.dropDeviceTest_canonical (s : State) (hs : s.canonical) : (State.dropDeviceTest s).canonical := by
  unfold State.dropDeviceTest
  all_goals (repeat' split) <;> (try simp (maxDischargeDepth := 12) +contextual [*])

@[simp] theorem State.dropShots_canonical (s : State) (r : Nat) (hs : s.canonical) : (State.dropShots s r).canonical := by
  unfold State.dropShots
  (try simp (maxDischargeDepth := 12) +contextual [*])

@[simp] theorem State.dropWork_canonical (s : State) (r : Nat) (hs : s.canonical) : (State.dropWork s r).canonical := by
  unfold State.dropWork
  (try simp (maxDischargeDepth := 12) +contextual [*])

@[simp] theorem State.enumFail_canonical (s : State) (r : Nat) (p : Nat) (hs : s.canonical) :
    (State.enumFail s r p).canonical := by
  unfold State.enumFail
  (try simp (maxDischargeDepth := 12) +contextual [*])

@[simp] theorem State.enumEnter_canonical (s : State) (r : Nat) (step : Nat) (hs : s.canonical) :
    (State.enumEnter s r step).canonical := by
  unfold State.enumEnter
  (try simp (maxDischargeDepth := 12) +contextual [*])

@[simp] theorem State.enumStart_canonical (s : State) (r : Nat) (hs : s.canonical) : (State.enumStart s r).canonical := by
  unfold State.enumStart
  (try simp (maxDischargeDepth := 12) +contextual [*])

@[simp] theorem State.enumerateFrom_canonical (s : State) (r : Nat) (b : Bool) (hs : s.canonical) :
    (State.enumerateFrom s r b).canonical := by
  unfold State.enumerateFrom
  (try simp (maxDischargeDepth := 12) +contextual [*])

@[simp] theorem State.noteMismatch_canonical (s : State) (r : Nat) (code : Nat) (p : Nat) (hs : s.canonical) :
    (State.noteMismatch s r code p).canonical := by
  unfold State.noteMismatch
  (try simp (maxDischargeDepth := 12) +contextual [*])

@[simp] theorem State.enumCheck_canonical (s : State) (r : Nat) (hs : s.canonical) : (State.enumCheck s r).canonical := by
  unfold State.enumCheck
  (try simp (maxDischargeDepth := 12) +contextual [*])
  all_goals (repeat' split) <;> (try simp (maxDischargeDepth := 12) +contextual [*])

@[simp] theorem State.echoTaken_canonical (s : State) (r : Nat) (key : Nat) (dt : Nat) (hs : s.canonical) :
    (State.echoTaken s r key dt).canonical := by
  unfold State.echoTaken
  (try simp (maxDischargeDepth := 12) +contextual [*])

@[simp] theorem State.echoForwarded_canonical (s : State) (r : Nat) (key : Nat) (hs : s.canonical) :
    (State.echoForwarded s r key).canonical := by
  unfold State.echoForwarded
  (try simp (maxDischargeDepth := 12) +contextual [*])

@[simp] theorem State.enumDelays_canonical (s : State) (r : Nat) (hs : s.canonical) : (State.enumDelays s r).canonical := by
  unfold State.enumDelays
  (try simp (maxDischargeDepth := 12) +contextual [*])
  all_goals (repeat' split) <;> (try simp (maxDischargeDepth := 12) +contextual [*])

@[simp] theorem State.enumAuth_canonical (s : State) (r : Nat) (hs : s.canonical) : (State.enumAuth s r).canonical := by
  unfold State.enumAuth
  (try simp (maxDischargeDepth := 12) +contextual [*])

@[simp] theorem State.enumAdvance_canonical (s : State) (r : Nat) (hs : s.canonical) : (State.enumAdvance s r).canonical := by
  unfold State.enumAdvance
  (try simp (maxDischargeDepth := 12) +contextual [*])

theorem execEnumerationStart_canonical (ring : Fin 4) (s : State) (hs : s.canonical) :
    nextSat (execEnumerationStart ring s) fun t => t.canonical := by
  unfold execEnumerationStart
  (try simp (maxDischargeDepth := 12) +contextual [*])

theorem execEnumerationWaitDone_canonical (ring : Fin 4) (aIdle : Bool) (bIdle : Bool) (s : State) (hs : s.canonical) :
    nextSat (execEnumerationWaitDone ring aIdle bIdle s) fun t => t.canonical := by
  unfold execEnumerationWaitDone
  (try simp (maxDischargeDepth := 12) +contextual [*])

theorem execManifestMismatchReenumerate_canonical (ring : Fin 4) (s : State) (hs : s.canonical) :
    nextSat (execManifestMismatchReenumerate ring s) fun t => t.canonical := by
  unfold execManifestMismatchReenumerate
  (try simp (maxDischargeDepth := 12) +contextual [*])

@[simp] theorem State.portBroken_canonical (s : State) (r : Nat) (l : Nat) (hs : s.canonical) :
    (State.portBroken s r l).canonical := by
  unfold State.portBroken
  (try simp (maxDischargeDepth := 12) +contextual [*])

theorem execLaneLost_canonical (ring : Fin 4) (loss : LaneLoss) (s : State) (hs : s.canonical) :
    nextSat (execLaneLost ring loss s) fun t => t.canonical := by
  unfold execLaneLost
  (try simp (maxDischargeDepth := 12) +contextual [*])

@[simp] theorem State.rejoin_canonical (s : State) (r : Nat) (hs : s.canonical) : (s.rejoin r).canonical := by
  unfold State.rejoin
  split
  · exact hs
  · extract_lets s1 s2
    have h1 : s1.canonical := by simp [s1, hs]
    clear_value s1
    have h2 : s2.canonical := by
      simp only [s2]
      split <;> simp (maxDischargeDepth := 12) [*]
    clear_value s2
    split <;> simp (maxDischargeDepth := 12) [*]

@[simp] theorem State.rejoinEnds_canonical (s : State) (r : Nat) (l : Nat) (hs : s.canonical) :
    (State.rejoinEnds s r l).canonical := by
  unfold State.rejoinEnds
  (try simp (maxDischargeDepth := 12) +contextual [*])

@[simp] theorem State.pollBreaks_canonical (s : State) (r : Nat) (hs : s.canonical) : (State.pollBreaks s r).canonical := by
  unfold State.pollBreaks
  (try simp (maxDischargeDepth := 12) +contextual [*])

theorem execLaneRestored_canonical (ring : Fin 4) (valid : LaneValid) (s : State) (hs : s.canonical) :
    nextSat (execLaneRestored ring valid s) fun t => t.canonical := by
  unfold execLaneRestored
  (try simp (maxDischargeDepth := 12) +contextual [*])

@[simp] theorem State.rejoined_canonical (s : State) (r : Nat) (l : Nat) (hs : s.canonical) :
    (State.rejoined s r l).canonical := by
  unfold State.rejoined
  (try simp (maxDischargeDepth := 12) +contextual [*])

@[simp] theorem State.noteSent_canonical (s : State) (r : Nat) (b : Bool) (t : Train) (hs : s.canonical) :
    (State.noteSent s r b t).canonical := by
  unfold State.noteSent
  (try simp (maxDischargeDepth := 12) +contextual [*])

@[simp] theorem State.slept_canonical (s : State) (r : Nat) (hs : s.canonical) : (State.slept s r).canonical := by
  unfold State.slept
  (try simp (maxDischargeDepth := 12) +contextual [*])

@[simp] theorem State.launch_canonical (s : State) (r : Nat) (b : Bool) (t : Train) (hs : s.canonical) :
    (State.launch s r b t).canonical := by
  unfold State.launch
  (try simp (maxDischargeDepth := 12) +contextual [*])

@[simp] theorem State.launchQueued_canonical (s : State) (r : Nat) (b : Bool) (t : Train) (hs : s.canonical) :
    (State.launchQueued s r b t).canonical := by
  unfold State.launchQueued
  (try simp (maxDischargeDepth := 12) +contextual [*])

@[simp] theorem State.launchSlot_canonical (s : State) (r : Nat) (b : Bool) (t : Train) (queued : Bool) (hs : s.canonical) :
    (State.launchSlot s r b t queued).canonical := by
  unfold State.launchSlot
  (try simp (maxDischargeDepth := 12) +contextual [*])
  all_goals (repeat' split) <;> (try simp (maxDischargeDepth := 12) +contextual [*])

theorem execIdleSlotLaunch_canonical (ring : Fin 4) (bEnd : Bool) (s : State) (hs : s.canonical) :
    nextSat (execIdleSlotLaunch ring bEnd s) fun t => t.canonical := by
  unfold execIdleSlotLaunch
  (try simp (maxDischargeDepth := 12) +contextual [*])
  all_goals (repeat' split) <;> (try simp (maxDischargeDepth := 12) +contextual [*])

@[simp] theorem State.unanswered_canonical (s : State) (r : Nat) (p : Nat) (t : Train) (hs : s.canonical) :
    (State.unanswered s r p t).canonical := by
  unfold State.unanswered
  (try simp (maxDischargeDepth := 12) +contextual [*])

@[simp] theorem State.dropLateTests_canonical (s : State) (r : Nat) (hs : s.canonical) : (State.dropLateTests s r).canonical := by
  unfold State.dropLateTests
  (try simp (maxDischargeDepth := 12) +contextual [*])

@[simp] theorem State.repliesMissing_canonical (s : State) (r : Nat) (b : Bool) (t : Train) (silent : List Nat) (hs : s.canonical) :
    (State.repliesMissing s r b t silent).canonical := by
  unfold State.repliesMissing
  (try simp (maxDischargeDepth := 12) +contextual [*])
  all_goals (repeat' split) <;> (try simp (maxDischargeDepth := 12) +contextual [*])

@[simp] theorem State.remeasured_canonical (s : State) (r : Nat) (hs : s.canonical) : (State.remeasured s r).canonical := by
  unfold State.remeasured
  (try simp (maxDischargeDepth := 12) +contextual [*])
  all_goals (repeat' split) <;> (try simp (maxDischargeDepth := 12) +contextual [*])

@[simp] theorem State.trainDone_canonical (s : State) (r : Nat) (b : Bool) (t : Train) (hs : s.canonical) :
    (State.trainDone s r b t).canonical := by
  unfold State.trainDone
  (try simp (maxDischargeDepth := 12) +contextual [*])

theorem execTrainEotReturned_canonical (ring : Fin 4) (bEnd : Bool) (s : State) (hs : s.canonical) :
    nextSat (execTrainEotReturned ring bEnd s) fun t => t.canonical := by
  unfold execTrainEotReturned
  all_goals (repeat' split) <;> (try simp (maxDischargeDepth := 12) +contextual [*])

theorem execTrainTimeout_canonical (ring : Fin 4) (bEnd : Bool) (s : State) (hs : s.canonical) :
    nextSat (execTrainTimeout ring bEnd s) fun t => t.canonical := by
  unfold execTrainTimeout
  (try simp (maxDischargeDepth := 12) +contextual [*])
  all_goals (repeat' split) <;> (try simp (maxDischargeDepth := 12) +contextual [*])

@[simp] theorem State.measureR_canonical (s : State) (r : Nat) (ns : Nat) (hs : s.canonical) :
    (State.measureR s r ns).canonical := by
  unfold State.measureR
  (try simp (maxDischargeDepth := 12) +contextual [*])

@[simp] theorem State.triggerBack_canonical (s : State) (r : Nat) (ns : Nat) (hs : s.canonical) :
    (State.triggerBack s r ns).canonical := by
  unfold State.triggerBack
  (try simp (maxDischargeDepth := 12) +contextual [*])

@[simp] theorem State.wholeAgain_canonical (s : State) (r : Nat) (hs : s.canonical) : (State.wholeAgain s r).canonical := by
  unfold State.wholeAgain
  (try simp (maxDischargeDepth := 12) +contextual [*])

@[simp] theorem State.holderHeard_canonical (s : State) (r : Nat) (hs : s.canonical) : (State.holderHeard s r).canonical := by
  unfold State.holderHeard
  (try simp (maxDischargeDepth := 12) +contextual [*])

@[simp] theorem State.returnCompare_canonical (s : State) (r : Nat) (rp : ReturnPath) (hs : s.canonical) :
    (State.returnCompare s r rp).canonical := by
  unfold State.returnCompare
  (try simp (maxDischargeDepth := 12) +contextual [*])

@[simp] theorem State.returned_canonical (s : State) (r : Nat) (rp : ReturnPath) (hs : s.canonical) :
    (State.returned s r rp).canonical := by
  unfold State.returned
  (try simp (maxDischargeDepth := 12) +contextual [*])
  all_goals (repeat' split) <;> (try simp (maxDischargeDepth := 12) +contextual [*])

@[simp] theorem State.returnedFar_canonical (s : State) (r : Nat) (rp : ReturnPath) (hs : s.canonical) :
    (State.returnedFar s r rp).canonical := by
  unfold State.returnedFar
  all_goals (repeat' split) <;> (try simp (maxDischargeDepth := 12) +contextual [*])

theorem execReturnPathCheck_canonical (ring : Fin 4) (rp : ReturnPath) (s : State) (hs : s.canonical) :
    nextSat (execReturnPathCheck ring rp s) fun t => t.canonical := by
  unfold execReturnPathCheck
  (try simp (maxDischargeDepth := 12) +contextual [*])
  all_goals (repeat' split) <;> (try simp (maxDischargeDepth := 12) +contextual [*])

@[simp] theorem State.identified_canonical (s : State) (r : Nat) (p : Nat) (uid : Nat) (hs : s.canonical) :
    (State.identified s r p uid).canonical := by
  unfold State.identified
  (try simp (maxDischargeDepth := 12) +contextual [*])
  all_goals (repeat' split) <;> (try simp (maxDischargeDepth := 12) +contextual [*])

@[simp] theorem State.takeIdent_canonical (s : State) (r : Nat) (p : Nat) (b : Bool) (frame : List Byte) (hs : s.canonical) :
    (State.takeIdent s r p b frame).canonical := by
  unfold State.takeIdent
  (try simp (maxDischargeDepth := 12) +contextual [*])

theorem execIdent_canonical (ring : Fin 4) (bEnd : Bool) (frame : List Byte) (s : State) (hs : s.canonical) :
    nextSat (execIdent ring bEnd frame s) fun t => t.canonical := by
  unfold execIdent
  (try simp (maxDischargeDepth := 12) +contextual [*])

@[simp] theorem State.takeEcho_canonical (s : State) (r : Nat) (p : Nat) (b : Bool) (frame : List Byte) (t0 : Nat) (t1 : Nat) (hs : s.canonical) :
    (State.takeEcho s r p b frame t0 t1).canonical := by
  unfold State.takeEcho
  (try simp (maxDischargeDepth := 12) +contextual [*])

theorem execEchoBack_canonical (ring : Fin 4) (bEnd : Bool) (frame : List Byte) (t0 : Nat) (t1 : Nat) (s : State) (hs : s.canonical) :
    nextSat (execEchoBack ring bEnd frame t0 t1 s) fun t => t.canonical := by
  unfold execEchoBack
  (try simp (maxDischargeDepth := 12) +contextual [*])
  all_goals (repeat' split) <;> (try simp (maxDischargeDepth := 12) +contextual [*])

@[simp] theorem State.takeConfigAck_canonical (s : State) (r : Nat) (p : Nat) (b : Bool) (frame : List Byte) (hs : s.canonical) :
    (State.takeConfigAck s r p b frame).canonical := by
  unfold State.takeConfigAck
  (try simp (maxDischargeDepth := 12) +contextual [*])

theorem execConfigAck_canonical (ring : Fin 4) (bEnd : Bool) (frame : List Byte) (s : State) (hs : s.canonical) :
    nextSat (execConfigAck ring bEnd frame s) fun t => t.canonical := by
  unfold execConfigAck
  (try simp (maxDischargeDepth := 12) +contextual [*])

@[simp] theorem State.takeStatus_canonical (s : State) (r : Nat) (p : Nat) (frame : List Byte) (hs : s.canonical) :
    (State.takeStatus s r p frame).canonical := by
  unfold State.takeStatus
  (try simp (maxDischargeDepth := 12) +contextual [*])

theorem execStatus_canonical (ring : Fin 4) (bEnd : Bool) (frame : List Byte) (s : State) (hs : s.canonical) :
    nextSat (execStatus ring bEnd frame s) fun t => t.canonical := by
  unfold execStatus
  (try simp (maxDischargeDepth := 12) +contextual [*])

@[simp] theorem State.takeAuthResult_canonical (s : State) (r : Nat) (p : Nat) (frame : List Byte) (hs : s.canonical) :
    (State.takeAuthResult s r p frame).canonical := by
  unfold State.takeAuthResult
  (try simp (maxDischargeDepth := 12) +contextual [*])

theorem execAuthResult_canonical (ring : Fin 4) (bEnd : Bool) (frame : List Byte) (s : State) (hs : s.canonical) :
    nextSat (execAuthResult ring bEnd frame s) fun t => t.canonical := by
  unfold execAuthResult
  (try simp (maxDischargeDepth := 12) +contextual [*])

theorem execAuthReadDue_canonical (ring : Fin 4) (pos : Fin 32) (s : State) (hs : s.canonical) :
    nextSat (execAuthReadDue ring pos s) fun t => t.canonical := by
  unfold execAuthReadDue
  (try simp (maxDischargeDepth := 12) +contextual [*])

@[simp] theorem State.takeAuthMac_canonical (s : State) (r p : Nat) (b : Bool) (frame : List Byte) (hs : s.canonical) :
    (State.takeAuthMac s r p b frame).canonical := by
  unfold State.takeAuthMac
  extract_lets d k m s1
  have h1 : s1.canonical := by
    simp only [s1]
    repeat' split
    all_goals simp [*]
  clear_value s1
  simp [h1]

theorem execAuthMac_canonical (ring : Fin 4) (bEnd : Bool) (frame : List Byte) (s : State) (hs : s.canonical) :
    nextSat (execAuthMac ring bEnd frame s) fun t => t.canonical := by
  unfold execAuthMac
  (try simp (maxDischargeDepth := 12) +contextual [*])

theorem execAuthRetry_canonical (ring : Fin 4) (pos : Fin 32) (s : State) (hs : s.canonical) :
    nextSat (execAuthRetry ring pos s) fun t => t.canonical := by
  unfold execAuthRetry
  (try simp (maxDischargeDepth := 12) +contextual [*])

theorem execModuleAuthDue_canonical (ring : Fin 4) (pos : Fin 32) (s : State) (hs : s.canonical) :
    nextSat (execModuleAuthDue ring pos s) fun t => t.canonical := by
  unfold execModuleAuthDue
  (try simp (maxDischargeDepth := 12) +contextual [*])

@[simp] theorem State.takeRejoinResult_canonical (s : State) (r : Nat) (p : Nat) (b : Bool) (frame : List Byte) (hs : s.canonical) :
    (State.takeRejoinResult s r p b frame).canonical := by
  unfold State.takeRejoinResult
  (try simp (maxDischargeDepth := 12) +contextual [*])

theorem execRejoinResult_canonical (ring : Fin 4) (bEnd : Bool) (frame : List Byte) (s : State) (hs : s.canonical) :
    nextSat (execRejoinResult ring bEnd frame s) fun t => t.canonical := by
  unfold execRejoinResult
  (try simp (maxDischargeDepth := 12) +contextual [*])

theorem execChainWakeEnd_canonical (ring : Fin 4) (s : State) (hs : s.canonical) :
    nextSat (execChainWakeEnd ring s) fun t => t.canonical := by
  unfold execChainWakeEnd
  (try simp (maxDischargeDepth := 12) +contextual [*])

@[simp] theorem State.addOutput_canonical (s : State) (k : Nat) (v : Int) (sign : Int) (hs : s.canonical) :
    (State.addOutput s k v sign).canonical := by
  unfold State.addOutput
  (try simp (maxDischargeDepth := 12) +contextual [*])

@[simp] theorem State.fastPath_canonical (s : State) (k : Nat) (hs : s.canonical) : (State.fastPath s k).canonical := by
  unfold State.fastPath
  (try simp (maxDischargeDepth := 12) +contextual [*])

@[simp] theorem State.takeCurrent_canonical (s : State) (n : Nat) (dsiBits : BitVec 20) (isaCode : BitVec 16)
    (hs : s.canonical) : (State.takeCurrent s n dsiBits isaCode).canonical := by
  unfold State.takeCurrent
  extract_lets d a s1 s2 x s3
  have h1 : s1.canonical := by simp [s1, hs]
  clear_value s1
  have h2 : s2.canonical := by simp [s2, h1]
  clear_value s2
  have h3 : s3.canonical := by simp [s3, h2]
  clear_value s3
  simp [h3]

theorem execCurrentOutput_canonical (string : Fin 4) (dsiBits : BitVec 20) (isaCode : BitVec 16) (s : State) (hs : s.canonical) :
    nextSat (execCurrentOutput string dsiBits isaCode s) fun t => t.canonical := by
  unfold execCurrentOutput
  (try simp (maxDischargeDepth := 12) +contextual [*])

theorem execFastPathDebounceExpiry_canonical (string : Fin 4) (s : State) (hs : s.canonical) :
    nextSat (execFastPathDebounceExpiry string s) fun t => t.canonical := by
  unfold execFastPathDebounceExpiry
  (try simp (maxDischargeDepth := 12) +contextual [*])

theorem execCurrentSampleDelivered_canonical (string : Fin 4) (ch : Fin 2) (s : State) (hs : s.canonical) :
    nextSat (execCurrentSampleDelivered string ch s) fun t => t.canonical := by
  unfold execCurrentSampleDelivered
  (try simp (maxDischargeDepth := 12) +contextual [*])
  all_goals (repeat' split) <;> (try simp (maxDischargeDepth := 12) +contextual [*])

@[simp] theorem State.chanFault_canonical (s : State) (k : Nat) (src : Nat) (hs : s.canonical) :
    (State.chanFault s k src).canonical := by
  unfold State.chanFault
  (try simp (maxDischargeDepth := 12) +contextual [*])

theorem execDsiStuckFault_canonical (string : Fin 4) (s : State) (hs : s.canonical) :
    nextSat (execDsiStuckFault string s) fun t => t.canonical := by
  unfold execDsiStuckFault
  (try simp (maxDischargeDepth := 12) +contextual [*])

theorem execIsaRangeFault_canonical (string : Fin 4) (s : State) (hs : s.canonical) :
    nextSat (execIsaRangeFault string s) fun t => t.canonical := by
  unfold execIsaRangeFault
  (try simp (maxDischargeDepth := 12) +contextual [*])

theorem execCurrentFaultClear_canonical (string : Fin 4) (ch : Fin 2) (s : State) (hs : s.canonical) :
    nextSat (execCurrentFaultClear string ch s) fun t => t.canonical := by
  unfold execCurrentFaultClear
  (try simp (maxDischargeDepth := 12) +contextual [*])

@[simp] theorem State.crossCount_canonical (s : State) (n : Nat) (hs : s.canonical) : (State.crossCount s n).canonical := by
  unfold State.crossCount
  (try simp (maxDischargeDepth := 12) +contextual [*])

theorem execCrossCheckDisagree_canonical (string : Fin 4) (s : State) (hs : s.canonical) :
    nextSat (execCrossCheckDisagree string s) fun t => t.canonical := by
  unfold execCrossCheckDisagree
  (try simp (maxDischargeDepth := 12) +contextual [*])

@[simp] theorem State.publishChannel_canonical (s : State) (k : Nat) (hs : s.canonical) :
    (State.publishChannel s k).canonical := by
  unfold State.publishChannel
  (try simp (maxDischargeDepth := 12) +contextual [*])

@[simp] theorem State.countTally_canonical (s : State) (n : Nat) (hs : s.canonical) : (State.countTally s n).canonical := by
  unfold State.countTally
  (try simp (maxDischargeDepth := 12) +contextual [*])

@[simp] theorem State.publishCurrent_canonical (s : State) (n : Nat) (hs : s.canonical) :
    (State.publishCurrent s n).canonical := by
  unfold State.publishCurrent
  (try simp (maxDischargeDepth := 12) +contextual [*])

@[simp] theorem State.judgeGroup_canonical (s : State) (g : List Nat) (hs : s.canonical) : (State.judgeGroup s g).canonical := by
  unfold State.judgeGroup
  (try simp (maxDischargeDepth := 12) +contextual [*])

theorem execComparatorSourceRaise_canonical (ring : Fin 4) (kind : Fin 4) (number : Nat) (s : State) (hs : s.canonical) :
    nextSat (execComparatorSourceRaise ring kind number s) fun t => t.canonical := by
  unfold execComparatorSourceRaise
  (try simp (maxDischargeDepth := 12) +contextual [*])
  all_goals (repeat' split) <;> (try simp (maxDischargeDepth := 12) +contextual [*])

@[simp] theorem State.tempFlag_canonical (s : State) (k : Nat) (i : Nat) (v : Bool) (hs : s.canonical) :
    (State.tempFlag s k i v).canonical := by
  unfold State.tempFlag
  (try simp (maxDischargeDepth := 12) +contextual [*])

@[simp] theorem State.tempReading_canonical (s : State) (k : Nat) (v : Int) (viaB : Bool) (hs : s.canonical) :
    (State.tempReading s k v viaB).canonical := by
  unfold State.tempReading
  (try simp (maxDischargeDepth := 12) +contextual [*])

@[simp] theorem State.monitorHealth_canonical (s : State) (r : Nat) (p : Nat) (fault : Bool) (ref : Option Nat) (hs : s.canonical) :
    (State.monitorHealth s r p fault ref).canonical := by
  unfold State.monitorHealth
  (try simp (maxDischargeDepth := 12) +contextual [*])

theorem execTempDwellEnd_canonical (ring : Fin 4) (pos : Fin 32) (slot : Fin 10) (s : State) (hs : s.canonical) :
    nextSat (execTempDwellEnd ring pos slot s) fun t => t.canonical := by
  unfold execTempDwellEnd
  (try simp (maxDischargeDepth := 12) +contextual [*])

theorem execTempStaleTimeout_canonical (ring : Fin 4) (pos : Fin 32) (input : Fin 8) (s : State) (hs : s.canonical) :
    nextSat (execTempStaleTimeout ring pos input s) fun t => t.canonical := by
  unfold execTempStaleTimeout
  (try simp (maxDischargeDepth := 12) +contextual [*])

@[simp] theorem State.takeWord_canonical (s : State) (c : Nat) (w : Nat) (viaB : Bool) (bleed : Bool) (hs : s.canonical) :
    (State.takeWord s c w viaB bleed).canonical := by
  unfold State.takeWord
  (try simp (maxDischargeDepth := 12) +contextual [*])

@[simp] theorem State.dropWords_canonical (s : State) (r : Nat) (p : Nat) (hs : s.canonical) :
    (State.dropWords s r p).canonical := by
  unfold State.dropWords
  (try simp (maxDischargeDepth := 12) +contextual [*])

@[simp] theorem State.accept'_canonical (s : State) (r : Nat) (p : Nat) (f : List Byte) (hs : s.canonical) :
    (State.accept' s r p f).canonical := by
  unfold State.accept'
  (try simp (maxDischargeDepth := 12) +contextual [*])

@[simp] theorem State.unconfigured_canonical (s : State) (r : Nat) (p : Nat) (hs : s.canonical) :
    (State.unconfigured s r p).canonical := by
  unfold State.unconfigured
  (try simp (maxDischargeDepth := 12) +contextual [*])

@[simp] theorem State.takeSample_canonical (s : State) (r : Nat) (port b : Bool) (hop p : Nat) (f : List Byte) (hs :
    s.canonical) :
    (s.takeSample r port b hop p f).canonical := by
  unfold State.takeSample
  extract_lets d st slot none' k x retry s1 s2 viaB cells raw v s3 s4 s5 s6
  split
  · simp (maxDischargeDepth := 12) [*]
  have h1 : s1.canonical := by simp [s1, *]
  clear_value s1
  have h2 : s2.canonical := by
    simp only [s2]
    split <;> simp (maxDischargeDepth := 12) [*]
  clear_value s2
  split
  · exact h2
  split
  · simp (maxDischargeDepth := 12) [*]
  split
  · simp (maxDischargeDepth := 12) [*]
  have h3 : s3.canonical := forEach_canonical _ _ _ h2 fun s e h => by simp [h]
  clear_value s3
  have h4 : s4.canonical := forEach_canonical _ _ _ h3 fun s e h => by simp [h]
  clear_value s4
  have h5 : s5.canonical := by
    simp only [s5]
    split <;> simp (maxDischargeDepth := 12) [*]
  clear_value s5
  have h6 : s6.canonical := by simp [s6, *]
  clear_value s6
  simp (maxDischargeDepth := 12) [*]

theorem execSample_canonical (ring : Fin 4) (bEnd : Bool) (frame : List Byte) (s : State) (hs : s.canonical) :
    nextSat (execSample ring bEnd frame s) fun t => t.canonical := by
  unfold execSample
  (try simp (maxDischargeDepth := 12) +contextual [*])
  all_goals (repeat' split) <;> (try simp (maxDischargeDepth := 12) +contextual [*])

@[simp] theorem State.hopMissing_canonical (s : State) (r : Nat) (b : Bool) (hop : Nat) (hs : s.canonical) :
    (s.hopMissing r b hop).canonical := by
  unfold State.hopMissing
  extract_lets x p came later recovery tried mark s1 first o last s2
  have hm : ∀ (s : State) l, s.canonical → (mark s l).canonical := fun s l h => by simp [mark, h]
  have h1 : s1.canonical := by simp [s1, hs]
  have h2 : s2.canonical := hm _ _ h1
  clear_value mark s1 s2 recovery tried later o last first
  split
  · simp [h1]
  split
  · simp [h1]
  split
  · simp (maxDischargeDepth := 12) [h2]
  · exact State.queueTrain_canonical _ _ _ _ (State.chainError_canonical _ _ _ _ _ (hm _ _ h1))

theorem execHopMissing_canonical (ring : Fin 4) (bEnd : Bool) (hop : Fin 32) (s : State) (hs : s.canonical) :
    nextSat (execHopMissing ring bEnd hop s) fun t => t.canonical := by
  unfold execHopMissing
  (try simp (maxDischargeDepth := 12) +contextual [*])

@[simp] theorem State.captureWrite_canonical (s : State) (hs : s.canonical) : (State.captureWrite s).canonical := by
  unfold State.captureWrite
  (try simp (maxDischargeDepth := 12) +contextual [*])

theorem execCaptureFreeze_canonical (s : State) (hs : s.canonical) : nextSat (execCaptureFreeze s) fun t => t.canonical := by
  unfold execCaptureFreeze
  (try simp (maxDischargeDepth := 12) +contextual [*])

@[simp] theorem State.captureArm_canonical (s : State) (value : Nat) (hs : s.canonical) :
    ((State.captureArm s value)).1.canonical := by
  unfold State.captureArm
  (try simp (maxDischargeDepth := 12) +contextual [*])

theorem execCaptureArm_canonical (req : Req) (value : Nat) (s : State) (hs : s.canonical) :
    nextSat (execCaptureArm req value s) fun t => t.canonical := by
  unfold execCaptureArm
  (try simp (maxDischargeDepth := 12) +contextual [*])

@[simp] theorem State.captureForce_canonical (s : State) (value : Nat) (hs : s.canonical) :
    ((State.captureForce s value)).1.canonical := by
  unfold State.captureForce
  (try simp (maxDischargeDepth := 12) +contextual [*])

theorem execCaptureTrigger_canonical (req : Req) (value : Nat) (s : State) (hs : s.canonical) :
    nextSat (execCaptureTrigger req value s) fun t => t.canonical := by
  unfold execCaptureTrigger
  (try simp (maxDischargeDepth := 12) +contextual [*])

@[simp] theorem State.regionStep_canonical (s : State) (g : Nat) (hs : s.canonical) : (State.regionStep s g).canonical := by
  unfold State.regionStep
  (try simp (maxDischargeDepth := 12) +contextual [*])

@[simp] theorem State.tallyInstant_canonical (s : State) (uv : Nat) (hs : s.canonical) : (State.tallyInstant s uv).canonical := by
  unfold State.tallyInstant
  (try simp (maxDischargeDepth := 12) +contextual [*])

theorem execTallyInstant_canonical (busdetUv : Nat) (s : State) (hs : s.canonical) :
    nextSat (execTallyInstant busdetUv s) fun t => t.canonical := by
  unfold execTallyInstant
  (try simp (maxDischargeDepth := 12) +contextual [*])

@[simp] theorem State.judgeWire_canonical (s : State) (r : Nat) (hs : s.canonical) : (State.judgeWire s r).canonical := by
  unfold State.judgeWire
  (try simp (maxDischargeDepth := 12) +contextual [*])

@[simp] theorem State.queueTest_canonical (s : State) (r : Nat) (p : Nat) (purpose : Nat) (todo : List Nat) (hs : s.canonical) :
    (State.queueTest s r p purpose todo).canonical := by
  unfold State.queueTest
  (try simp (maxDischargeDepth := 12) +contextual [*])

@[simp] theorem State.suspectWire_canonical (s : State) (r : Nat) (cell : Nat) (hs : s.canonical) :
    (State.suspectWire s r cell).canonical := by
  unfold State.suspectWire
  (try simp (maxDischargeDepth := 12) +contextual [*])

theorem execOpenWireSuspect_canonical (ring : Fin 4) (cell : Fin 512) (s : State) (hs : s.canonical) :
    nextSat (execOpenWireSuspect ring cell s) fun t => t.canonical := by
  unfold execOpenWireSuspect
  (try simp (maxDischargeDepth := 12) +contextual [*])

theorem execOpenWireTestStart_canonical (ring : Fin 4) (pos : Fin 32) (channel : Fin 18) (s : State) (hs : s.canonical) :
    nextSat (execOpenWireTestStart ring pos channel s) fun t => t.canonical := by
  unfold execOpenWireTestStart
  (try simp (maxDischargeDepth := 12) +contextual [*])

@[simp] theorem State.takeOwResult_canonical (s : State) (r : Nat) (p : Nat) (frame : List Byte) (hs : s.canonical) :
    (State.takeOwResult s r p frame).canonical := by
  unfold State.takeOwResult
  (try simp (maxDischargeDepth := 12) +contextual [*])

theorem execOpenWireResult_canonical (ring : Fin 4) (bEnd : Bool) (frame : List Byte) (s : State) (hs : s.canonical) :
    nextSat (execOpenWireResult ring bEnd frame s) fun t => t.canonical := by
  unfold execOpenWireResult
  (try simp (maxDischargeDepth := 12) +contextual [*])

@[simp] theorem State.owCollect_canonical (s : State) (r : Nat) (p : Nat) (hs : s.canonical) :
    (State.owCollect s r p).canonical := by
  unfold State.owCollect
  (try simp (maxDischargeDepth := 12) +contextual [*])

@[simp] theorem State.owOpen_canonical (s : State) (r : Nat) (p : Nat) (j : Nat) (hs : s.canonical) :
    (State.owOpen s r p j).canonical := by
  unfold State.owOpen
  (try simp (maxDischargeDepth := 12) +contextual [*])

@[simp] theorem State.owIntact_canonical (s : State) (node : Nat) (hs : s.canonical) : (State.owIntact s node).canonical := by
  unfold State.owIntact
  (try simp (maxDischargeDepth := 12) +contextual [*])

@[simp] theorem State.owEvaluate_canonical (s : State) (r : Nat) (p : Nat) (hs : s.canonical) :
    (State.owEvaluate s r p).canonical := by
  unfold State.owEvaluate
  (try simp (maxDischargeDepth := 12) +contextual [*])
  all_goals (repeat' split) <;> (try simp (maxDischargeDepth := 12) +contextual [*])

theorem execOpenWireTestEvaluate_canonical (ring : Fin 4) (pos : Fin 32) (s : State) (hs : s.canonical) :
    nextSat (execOpenWireTestEvaluate ring pos s) fun t => t.canonical := by
  unfold execOpenWireTestEvaluate
  (try simp (maxDischargeDepth := 12) +contextual [*])

theorem execOpenWireRetest_canonical (ring : Fin 4) (pos : Fin 32) (s : State) (hs : s.canonical) :
    nextSat (execOpenWireRetest ring pos s) fun t => t.canonical := by
  unfold execOpenWireRetest
  (try simp (maxDischargeDepth := 12) +contextual [*])
  all_goals (repeat' split) <;> (try simp (maxDischargeDepth := 12) +contextual [*])

theorem execOpenWireRotation_canonical (ring : Fin 4) (pos : Fin 32) (channel : Fin 18) (s : State) (hs : s.canonical) :
    nextSat (execOpenWireRotation ring pos channel s) fun t => t.canonical := by
  unfold execOpenWireRotation
  (try simp (maxDischargeDepth := 12) +contextual [*])

@[simp] theorem State.openWireRequest_canonical (s : State) (value : Nat) (hs : s.canonical) :
    ((State.openWireRequest s value)).1.canonical := by
  unfold State.openWireRequest
  (try simp (maxDischargeDepth := 12) +contextual [*])
  all_goals (repeat' split) <;> (try simp (maxDischargeDepth := 12) +contextual [*])

theorem execOpenWireRequest_canonical (req : Req) (value : BitVec 32) (s : State) (hs : s.canonical) :
    nextSat (execOpenWireRequest req value s) fun t => t.canonical := by
  unfold execOpenWireRequest
  (try simp (maxDischargeDepth := 12) +contextual [*])

@[simp] theorem State.owRequestStart_canonical (s : State) (hs : s.canonical) : (State.owRequestStart s).canonical := by
  unfold State.owRequestStart
  (try simp (maxDischargeDepth := 12) +contextual [*])
  all_goals (repeat' split) <;> (try simp (maxDischargeDepth := 12) +contextual [*])

theorem execOpenWireRequestDone_canonical (s : State) (hs : s.canonical) :
    nextSat (execOpenWireRequestDone s) fun t => t.canonical := by
  unfold execOpenWireRequestDone
  (try simp (maxDischargeDepth := 12) +contextual [*])
  all_goals (repeat' split) <;> (try simp (maxDischargeDepth := 12) +contextual [*])

@[simp] theorem State.judgeSuspects_canonical (s : State) (n : Nat) (hs : s.canonical) : (State.judgeSuspects s n).canonical := by
  unfold State.judgeSuspects
  (try simp (maxDischargeDepth := 12) +contextual [*])

@[simp] theorem State.passUs_canonical (s : State) (hs : s.canonical) : (State.passUs s).canonical := by
  unfold State.passUs
  (try simp (maxDischargeDepth := 12) +contextual [*])

@[simp] theorem State.applyOffset_canonical (s : State) (d : Int) (hs : s.canonical) : (State.applyOffset s d).canonical := by
  unfold State.applyOffset
  (try simp (maxDischargeDepth := 12) +contextual [*])

@[simp] theorem State.freeRun_canonical (s : State) (hs : s.canonical) : (State.freeRun s).canonical := by
  unfold State.freeRun
  (try simp (maxDischargeDepth := 12) +contextual [*])

@[simp] theorem State.syncLocked_canonical (s : State) (hs : s.canonical) : (State.syncLocked s).canonical := by
  unfold State.syncLocked
  (try simp (maxDischargeDepth := 12) +contextual [*])

@[simp] theorem State.ptpSync_canonical (s : State) (offsetNs : Int) (interval16 : Nat) (master : Nat) (utcOffset : Int) (hs : s.canonical) :
    (State.ptpSync s offsetNs interval16 master utcOffset).canonical := by
  unfold State.ptpSync
  (try simp (maxDischargeDepth := 12) +contextual [*])

@[simp] theorem State.ethIn_canonical (s : State) (octets : Nat) (hs : s.canonical) : (State.ethIn s octets).canonical := by
  unfold State.ethIn
  (try simp (maxDischargeDepth := 12) +contextual [*])

@[simp] theorem State.ptpFrames_canonical (s : State) (x : PtpSync) (hs : s.canonical) : (State.ptpFrames s x).canonical := by
  unfold State.ptpFrames
  (try simp (maxDischargeDepth := 12) +contextual [*])

theorem execPtpSyncReceived_canonical (sync : PtpSync) (interval16 : Nat) (master : PtpAnnounce) (utcOffset : Int) (s : State) (hs : s.canonical) :
    nextSat (execPtpSyncReceived sync interval16 master utcOffset s) fun t => t.canonical := by
  unfold execPtpSyncReceived
  (try simp (maxDischargeDepth := 12) +contextual [*])

theorem execPtpHoldoverTimeout_canonical (s : State) (hs : s.canonical) :
    nextSat (execPtpHoldoverTimeout s) fun t => t.canonical := by
  unfold execPtpHoldoverTimeout
  (try simp (maxDischargeDepth := 12) +contextual [*])

@[simp] theorem State.stepApply_canonical (s : State) (ns : Nat) (hs : s.canonical) : (State.stepApply s ns).canonical := by
  unfold State.stepApply
  (try simp (maxDischargeDepth := 12) +contextual [*])

theorem execTimeStepApply_canonical (s : State) (hs : s.canonical) : nextSat (execTimeStepApply s) fun t => t.canonical := by
  unfold execTimeStepApply
  all_goals (repeat' split) <;> (try simp (maxDischargeDepth := 12) +contextual [*])

@[simp] theorem State.timeMark_canonical (s : State) (worn : Bool) (hs : s.canonical) : (State.timeMark s worn).canonical := by
  unfold State.timeMark
  (try simp (maxDischargeDepth := 12) +contextual [*])

theorem execTimeMarkCommit_canonical (worn : Bool) (s : State) (hs : s.canonical) :
    nextSat (execTimeMarkCommit worn s) fun t => t.canonical := by
  unfold execTimeMarkCommit
  (try simp (maxDischargeDepth := 12) +contextual [*])

theorem execTimeSetLockExpiry_canonical (s : State) (hs : s.canonical) :
    nextSat (execTimeSetLockExpiry s) fun t => t.canonical := by
  unfold execTimeSetLockExpiry
  (try simp (maxDischargeDepth := 12) +contextual [*])

@[simp] theorem State.authFailure_canonical (s : State) (link : Nat) (hs : s.canonical) :
    (State.authFailure s link).canonical := by
  unfold State.authFailure
  (try simp (maxDischargeDepth := 12) +contextual [*])

theorem execAuthLockoutEnd_canonical (s : State) (hs : s.canonical) : nextSat (execAuthLockoutEnd s) fun t => t.canonical := by
  unfold execAuthLockoutEnd
  (try simp (maxDischargeDepth := 12) +contextual [*])
  all_goals (repeat' split) <;> (try simp (maxDischargeDepth := 12) +contextual [*])

theorem execSessionTimeout_canonical (s : State) (hs : s.canonical) : nextSat (execSessionTimeout s) fun t => t.canonical := by
  unfold execSessionTimeout
  all_goals (repeat' split) <;> (try simp (maxDischargeDepth := 12) +contextual [*])

theorem execNonceExpiry_canonical (link : Fin 3) (src : Nat) (s : State) (hs : s.canonical) :
    nextSat (execNonceExpiry link src s) fun t => t.canonical := by
  unfold execNonceExpiry
  (try simp (maxDischargeDepth := 12) +contextual [*])

@[simp] theorem State.nodeChange_canonical (s : State) (hs : s.canonical) : (State.nodeChange s).canonical := by
  unfold State.nodeChange
  (try simp (maxDischargeDepth := 12) +contextual [*])

theorem execQlpNodeIdWrite_canonical (req : Req) (value : Nat) (s : State) (hs : s.canonical) :
    nextSat (execQlpNodeIdWrite req value s) fun t => t.canonical := by
  unfold execQlpNodeIdWrite
  (try simp (maxDischargeDepth := 12) +contextual [*])
  all_goals (repeat' split) <;> (try simp (maxDischargeDepth := 12) +contextual [*])

end Sys2Proof.Machine
end

