-- ==== Sys2Proof/Laws/CanonicalEstimation.lean ====
section
/-! SUPPORT. Sys2Proof/Laws/CanonicalEstimation.lean: every operation and every command keeps the canonical form of the stored state (`State.canonical`)
(the estimation fabric and the saved values). -/

namespace Sys2Proof.Machine

@[simp] theorem State.sendBalance_canonical (s : State) (r : Nat) (b : Bool) (order : Nat) (first : Nat) (last : Nat) (timer : Nat) (hs : s.canonical) :
    (State.sendBalance s r b order first last timer).canonical := by
  unfold State.sendBalance
  (try simp (maxDischargeDepth := 12) +contextual [*])

@[simp] theorem State.balanceRing_canonical (s : State) (r : Nat) (timer : Nat) (hs : s.canonical) :
    (State.balanceRing s r timer).canonical := by
  unfold State.balanceRing
  (try simp (maxDischargeDepth := 12) +contextual [*])

@[simp] theorem State.balanceOne_canonical (s : State) (r : Nat) (p : Nat) (order : Nat) (hs : s.canonical) :
    (State.balanceOne s r p order).canonical := by
  unfold State.balanceOne
  (try simp (maxDischargeDepth := 12) +contextual [*])
  all_goals (repeat' split) <;> (try simp (maxDischargeDepth := 12) +contextual [*])

@[simp] theorem State.pollRemoved_canonical (s : State) (r : Nat) (hs : s.canonical) : (State.pollRemoved s r).canonical := by
  unfold State.pollRemoved
  (try simp (maxDischargeDepth := 12) +contextual [*])

@[simp] theorem State.planBalance_canonical (s : State) (hs : s.canonical) : (State.planBalance s).canonical := by
  unfold State.planBalance
  (try simp (maxDischargeDepth := 12) +contextual [*])

theorem execBalancePlan_canonical (s : State) (hs : s.canonical) : nextSat (execBalancePlan s) fun t => t.canonical := by
  unfold execBalancePlan
  (try simp (maxDischargeDepth := 12) +contextual [*])

@[simp] theorem State.balanceInhibit_canonical (s : State) (r : Nat) (hs : s.canonical) :
    (State.balanceInhibit s r).canonical := by
  unfold State.balanceInhibit
  (try simp (maxDischargeDepth := 12) +contextual [*])

@[simp] theorem State.takeBalAck_canonical (s : State) (r : Nat) (p : Nat) (b : Bool) (frame : List Byte) (hs : s.canonical) :
    (State.takeBalAck s r p b frame).canonical := by
  unfold State.takeBalAck
  (try simp (maxDischargeDepth := 12) +contextual [*])

theorem execBalAck_canonical (ring : Fin 4) (bEnd : Bool) (frame : List Byte) (s : State) (hs : s.canonical) :
    nextSat (execBalAck ring bEnd frame s) fun t => t.canonical := by
  unfold execBalAck
  (try simp (maxDischargeDepth := 12) +contextual [*])

@[simp] theorem State.estBoth_canonical (s : State) (c : Nat) (f : CellEst → CellEst) (hs : s.canonical) :
    (State.estBoth s c f).canonical := by
  unfold State.estBoth
  (try simp (maxDischargeDepth := 12) +contextual [*])

@[simp] theorem State.dispatch_canonical (s : State) (n : Nat) (hs : s.canonical) : (State.dispatch s n).canonical := by
  unfold State.dispatch
  (try simp (maxDischargeDepth := 12) +contextual [*])

@[simp] theorem State.cellTables_canonical (s : State) (n : Nat) (c : Nat) (hs : s.canonical) :
    (State.cellTables s n c).canonical := by
  unfold State.cellTables
  (try simp (maxDischargeDepth := 12) +contextual [*])

@[simp] theorem State.publishCell_canonical (s : State) (n : Nat) (c : Nat) (hs : s.canonical) :
    (State.publishCell s n c).canonical := by
  unfold State.publishCell
  (try simp (maxDischargeDepth := 12) +contextual [*])

@[simp] theorem State.publishSoc_canonical (s : State) (n : Nat) (hs : s.canonical) : (State.publishSoc s n).canonical := by
  unfold State.publishSoc
  (try simp (maxDischargeDepth := 12) +contextual [*])

@[simp] theorem State.publishInferred_canonical (s : State) (n : Nat) (hs : s.canonical) :
    (State.publishInferred s n).canonical := by
  unfold State.publishInferred
  (try simp (maxDischargeDepth := 12) +contextual [*])

@[simp] theorem State.publishLimit_canonical (s : State) (n : Nat) (charge : Bool) (h : Nat) (hs : s.canonical) :
    (State.publishLimit s n charge h).canonical := by
  unfold State.publishLimit
  (try simp (maxDischargeDepth := 12) +contextual [*])

@[simp] theorem State.judgeMedian_canonical (s : State) (n : Nat) (hs : s.canonical) : (State.judgeMedian s n).canonical := by
  unfold State.judgeMedian
  (try simp (maxDischargeDepth := 12) +contextual [*])

@[simp] theorem State.publishJudged_canonical (s : State) (n : Nat) (hs : s.canonical) : (State.publishJudged s n).canonical := by
  unfold State.publishJudged
  (try simp (maxDischargeDepth := 12) +contextual [*])

@[simp] theorem State.signatures_canonical (s : State) (n : Nat) (hs : s.canonical) : (State.signatures s n).canonical := by
  unfold State.signatures
  (try simp (maxDischargeDepth := 12) +contextual [*])

@[simp] theorem State.addOps_canonical (s : State) (g : Nat) (n : Nat) (hs : s.canonical) : (State.addOps s g n).canonical := by
  unfold State.addOps
  (try simp (maxDischargeDepth := 12) +contextual [*])

@[simp] theorem State.throughput_canonical (s : State) (hs : s.canonical) : (State.throughput s).canonical := by
  unfold State.throughput
  (try simp (maxDischargeDepth := 12) +contextual [*])

@[simp] theorem State.publishEpoch_canonical (s : State) (n : Nat) (hs : s.canonical) : (s.publishEpoch n).canonical := by
  unfold State.publishEpoch
  extract_lets ep cells dur s1 fb s2 durs s3 slow s4 l s5 s6 s7 s8 s9
  have h1 : s1.canonical := forEach_canonical _ _ _ hs fun s c h => by simp [h]
  clear_value s1
  have h2 : s2.canonical := by simp [s2, *]
  clear_value s2
  have h3 : s3.canonical := by simp [s3, *]
  clear_value s3
  have h4 : s4.canonical := by simp [s4, *]
  clear_value s4
  have h5 : s5.canonical := forEach_canonical _ _ _ h4 fun s c h => by simp [h]
  clear_value s5
  have h6 : s6.canonical := by
    simp only [s6]
    split <;> simp [h5]
  clear_value s6
  have h7 : s7.canonical := forEach_canonical _ _ _ h6 fun s c h => by simp [h]
  clear_value s7
  have h8 : s8.canonical := State.publishJudged_canonical _ _
    (State.judgeMedian_canonical _ _ (State.publishInferred_canonical _ _ (State.publishSoc_canonical _ _ h7)))
  clear_value s8
  have h9 : s9.canonical := forEach_canonical _ _ _ h8 fun s c h => by simp [h]
  clear_value s9
  simp (maxDischargeDepth := 12) [*]

@[simp] theorem State.drained_canonical (s : State) (n : Nat) (hs : s.canonical) : (State.drained s n).canonical := by
  unfold State.drained
  (try simp (maxDischargeDepth := 12) +contextual [*])

@[simp] theorem State.endEpoch_canonical (s : State) (n : Nat) (why : Ending) (hs : s.canonical) :
    (State.endEpoch s n why).canonical := by
  unfold State.endEpoch
  (try simp (maxDischargeDepth := 12) +contextual [*])

@[simp] theorem State.dropItems_canonical (s : State) (n : Nat) (hs : s.canonical) : (State.dropItems s n).canonical := by
  unfold State.dropItems
  (try simp (maxDischargeDepth := 12) +contextual [*])

@[simp] theorem State.pauseEpochs_canonical (s : State) (hs : s.canonical) : (State.pauseEpochs s).canonical := by
  unfold State.pauseEpochs
  (try simp (maxDischargeDepth := 12) +contextual [*])

theorem execEuWorkItemClaim_canonical (eu : Fin 64) (s : State) (hs : s.canonical) :
    nextSat (execEuWorkItemClaim eu s) fun t => t.canonical := by
  unfold execEuWorkItemClaim
  (try simp (maxDischargeDepth := 12) +contextual [*])
  all_goals (repeat' split) <;> (try simp (maxDischargeDepth := 12) +contextual [*])

@[simp] theorem State.retireEu_canonical (s : State) (e : Nat) (hs : s.canonical) : (State.retireEu s e).canonical := by
  unfold State.retireEu
  (try simp (maxDischargeDepth := 12) +contextual [*])
  all_goals (repeat' split) <;> (try simp (maxDischargeDepth := 12) +contextual [*])

@[simp] theorem State.writeBack_canonical (s : State) (e : Nat) (n : Nat) (c : Nat) (hs : s.canonical) :
    (State.writeBack s e n c).canonical := by
  unfold State.writeBack
  (try simp (maxDischargeDepth := 12) +contextual [*])

theorem execEuUpdateComplete_canonical (eu : Fin 64) (residueOk : Bool) (s : State) (hs : s.canonical) :
    nextSat (execEuUpdateComplete eu residueOk s) fun t => t.canonical := by
  unfold execEuUpdateComplete
  (try simp (maxDischargeDepth := 12) +contextual [*])
  all_goals (repeat' split) <;> (try simp (maxDischargeDepth := 12) +contextual [*])

theorem execEuHandshakeTimeout_canonical (eu : Fin 64) (s : State) (hs : s.canonical) :
    nextSat (execEuHandshakeTimeout eu s) fun t => t.canonical := by
  unfold execEuHandshakeTimeout
  (try simp (maxDischargeDepth := 12) +contextual [*])

theorem execFabricKnownAnswerTest_canonical (eu : Fin 64) (pass : Bool) (s : State) (hs : s.canonical) :
    nextSat (execFabricKnownAnswerTest eu pass s) fun t => t.canonical := by
  unfold execFabricKnownAnswerTest
  (try simp (maxDischargeDepth := 12) +contextual [*])

theorem execEpochDeadline_canonical (string : Fin 4) (s : State) (hs : s.canonical) :
    nextSat (execEpochDeadline string s) fun t => t.canonical := by
  unfold execEpochDeadline
  (try simp (maxDischargeDepth := 12) +contextual [*])

theorem execEstimationHeld_canonical (string : Fin 4) (s : State) (hs : s.canonical) :
    nextSat (execEstimationHeld string s) fun t => t.canonical := by
  unfold execEstimationHeld
  (try simp (maxDischargeDepth := 12) +contextual [*])

theorem execRateStepUp_canonical (region : Fin 2) (s : State) (hs : s.canonical) :
    nextSat (execRateStepUp region s) fun t => t.canonical := by
  unfold execRateStepUp
  (try simp (maxDischargeDepth := 12) +contextual [*])

@[simp] theorem State.selfTested_canonical (s : State) (q : Nat) (st : Nat) (bad : List Nat) (hs : s.canonical) :
    (State.selfTested s q st bad).canonical := by
  unfold State.selfTested
  (try simp (maxDischargeDepth := 12) +contextual [*])

@[simp] theorem State.fabricTest_canonical (s : State) (v : Nat) (hs : s.canonical) : ((State.fabricTest s v)).1.canonical := by
  unfold State.fabricTest
  (try simp (maxDischargeDepth := 12) +contextual [*])
  all_goals (repeat' split) <;> (try simp (maxDischargeDepth := 12) +contextual [*])

theorem execFabricSelfTestRequest_canonical (req : Req) (value : BitVec 32) (s : State) (hs : s.canonical) :
    nextSat (execFabricSelfTestRequest req value s) fun t => t.canonical := by
  unfold execFabricSelfTestRequest
  (try simp (maxDischargeDepth := 12) +contextual [*])

@[simp] theorem State.checkEus_canonical (s : State) (bad : List Nat) (hs : s.canonical) : (State.checkEus s bad).canonical := by
  unfold State.checkEus
  (try simp (maxDischargeDepth := 12) +contextual [*])

theorem execFabricSelfTestDone_canonical (failed : BitVec 64) (s : State) (hs : s.canonical) :
    nextSat (execFabricSelfTestDone failed s) fun t => t.canonical := by
  unfold execFabricSelfTestDone
  (try simp (maxDischargeDepth := 12) +contextual [*])
  all_goals (repeat' split) <;> (try simp (maxDischargeDepth := 12) +contextual [*])

@[simp] theorem State.cellTally_canonical (s : State) (c : Nat) (hs : s.canonical) : (State.cellTally s c).canonical := by
  unfold State.cellTally
  (try simp (maxDischargeDepth := 12) +contextual [*])

@[simp] theorem State.restTally_canonical (s : State) (n : Nat) (hs : s.canonical) : (State.restTally s n).canonical := by
  unfold State.restTally
  (try simp (maxDischargeDepth := 12) +contextual [*])

@[simp] theorem State.windowTally_canonical (s : State) (n : Nat) (hs : s.canonical) : (State.windowTally s n).canonical := by
  unfold State.windowTally
  (try simp (maxDischargeDepth := 12) +contextual [*])

@[simp] theorem State.snapshot_canonical (s : State) (n : Nat) (di : Int) (l : List (Nat × ℚ)) (hs : s.canonical) :
    (State.snapshot s n di l).canonical := by
  unfold State.snapshot
  (try simp (maxDischargeDepth := 12) +contextual [*])
  all_goals (repeat' split) <;> (try simp (maxDischargeDepth := 12) +contextual [*])

@[simp] theorem State.stepTally_canonical (s : State) (n : Nat) (hs : s.canonical) : (State.stepTally s n).canonical := by
  unfold State.stepTally
  (try simp (maxDischargeDepth := 12) +contextual [*])
  all_goals (repeat' split) <;> (try simp (maxDischargeDepth := 12) +contextual [*])

@[simp] theorem State.estTally_canonical (s : State) (n : Nat) (hs : s.canonical) : (State.estTally s n).canonical := by
  unfold State.estTally
  (try simp (maxDischargeDepth := 12) +contextual [*])

@[simp] theorem State.implausible_canonical (s : State) (k : Nat) (hs : s.canonical) : (State.implausible s k).canonical := by
  unfold State.implausible
  (try simp (maxDischargeDepth := 12) +contextual [*])

@[simp] theorem State.windowChannel_canonical (s : State) (n : Nat) (k : Nat) (hs : s.canonical) :
    (State.windowChannel s n k).canonical := by
  unfold State.windowChannel
  (try simp (maxDischargeDepth := 12) +contextual [*])

@[simp] theorem State.plausibilityWindow_canonical (s : State) (n : Nat) (hs : s.canonical) :
    (State.plausibilityWindow s n).canonical := by
  unfold State.plausibilityWindow
  (try simp (maxDischargeDepth := 12) +contextual [*])

theorem execCurrentPlausibilityWindow_canonical (string : Fin 4) (s : State) (hs : s.canonical) :
    nextSat (execCurrentPlausibilityWindow string s) fun t => t.canonical := by
  unfold execCurrentPlausibilityWindow
  (try simp (maxDischargeDepth := 12) +contextual [*])

@[simp] theorem State.channelAudit_canonical (s : State) (n : Nat) (hs : s.canonical) : (State.channelAudit s n).canonical := by
  unfold State.channelAudit
  (try simp (maxDischargeDepth := 12) +contextual [*])

@[simp] theorem State.enterDisagreement_canonical (s : State) (n : Nat) (hs : s.canonical) :
    (State.enterDisagreement s n).canonical := by
  unfold State.enterDisagreement
  (try simp (maxDischargeDepth := 12) +contextual [*])

theorem execStringDisagreementEnter_canonical (string : Fin 4) (s : State) (hs : s.canonical) :
    nextSat (execStringDisagreementEnter string s) fun t => t.canonical := by
  unfold execStringDisagreementEnter
  (try simp (maxDischargeDepth := 12) +contextual [*])

theorem execChannelAuditRepeat_canonical (string : Fin 4) (s : State) (hs : s.canonical) :
    nextSat (execChannelAuditRepeat string s) fun t => t.canonical := by
  unfold execChannelAuditRepeat
  (try simp (maxDischargeDepth := 12) +contextual [*])

@[simp] theorem State.learnCell_canonical (s : State) (n : Nat) (b : RestPoint) (c : Nat) (hs : s.canonical) :
    (s.learnCell n b c).canonical := by
  unfold State.learnCell
  split
  · exact hs
  · refine foldl_first _ _ (fun r a hr => ?_) _ hs
    simp only
    repeat' split
    all_goals simp (maxDischargeDepth := 12) [*]

@[simp] theorem State.judgeShort_canonical (s : State) (n : Nat) (c : Nat) (hs : s.canonical) :
    (State.judgeShort s n c).canonical := by
  unfold State.judgeShort
  (try simp (maxDischargeDepth := 12) +contextual [*])

@[simp] theorem State.judgeShorts_canonical (s : State) (n : Nat) (b : RestPoint) (hs : s.canonical) :
    (State.judgeShorts s n b).canonical := by
  unfold State.judgeShorts
  (try simp (maxDischargeDepth := 12) +contextual [*])

@[simp] theorem State.formPoint_canonical (s : State) (n : Nat) (hs : s.canonical) : (State.formPoint s n).canonical := by
  unfold State.formPoint
  (try simp (maxDischargeDepth := 12) +contextual [*])

theorem execRestPointFormed_canonical (string : Fin 4) (s : State) (hs : s.canonical) :
    nextSat (execRestPointFormed string s) fun t => t.canonical := by
  unfold execRestPointFormed
  (try simp (maxDischargeDepth := 12) +contextual [*])

@[simp] theorem State.stringShot_canonical (s : State) (k : Nat) (value : Nat) (result : Nat) (zeros : Nat) (hs : s.canonical) :
    ((State.stringShot s k value result zeros)).1.canonical := by
  unfold State.stringShot
  (try simp (maxDischargeDepth := 12) +contextual [*])
  all_goals (repeat' split) <;> (try simp (maxDischargeDepth := 12) +contextual [*])

theorem execCapLearnReportRequest_canonical (req : Req) (value : BitVec 32) (s : State) (hs : s.canonical) :
    nextSat (execCapLearnReportRequest req value s) fun t => t.canonical := by
  unfold execCapLearnReportRequest
  (try simp (maxDischargeDepth := 12) +contextual [*])

theorem execCapLearnReportDone_canonical (s : State) (hs : s.canonical) :
    nextSat (execCapLearnReportDone s) fun t => t.canonical := by
  unfold execCapLearnReportDone
  all_goals (repeat' split) <;> (try simp (maxDischargeDepth := 12) +contextual [*])

theorem execImpedanceSnapshotRequest_canonical (req : Req) (value : BitVec 32) (s : State) (hs : s.canonical) :
    nextSat (execImpedanceSnapshotRequest req value s) fun t => t.canonical := by
  unfold execImpedanceSnapshotRequest
  (try simp (maxDischargeDepth := 12) +contextual [*])

theorem execImpedanceSnapshotTimeout_canonical (s : State) (hs : s.canonical) :
    nextSat (execImpedanceSnapshotTimeout s) fun t => t.canonical := by
  unfold execImpedanceSnapshotTimeout
  split
  · exact done_canonical _ hs
  · refine doneIf_canonical _ _ _ (fun _ => ?_) hs
    split
    · exact State.shotDone_canonical _ _ _ _ hs
    · exact State.shotNotRun_canonical _ _ _ _ hs

@[simp] theorem State.publishWord_canonical (s : State) (c : Nat) (hs : s.canonical) : (State.publishWord s c).canonical := by
  unfold State.publishWord
  (try simp (maxDischargeDepth := 12) +contextual [*])

@[simp] theorem State.derateJudged_canonical (s : State) (n code : Nat) (j : Judged) (hs : s.canonical) :
    (s.derateJudged n code j).canonical := by
  unfold State.derateJudged
  split <;> simp (maxDischargeDepth := 12) [*]

@[simp] theorem State.judgeDerating_canonical (s : State) (n : Nat) (hs : s.canonical) : (s.judgeDerating n).canonical := by
  unfold State.judgeDerating
  extract_lets cells temps step s1 s2 s3 s4 lost s5
  have hstep : ∀ (s : State) code j, s.canonical → (step s code j).canonical := by
    intro s code j h
    simp only [step]
    split <;> simp (maxDischargeDepth := 12) [*]
  have h1 : s1.canonical := hstep _ _ _ hs
  have h2 : s2.canonical := hstep _ _ _ h1
  have h3 : s3.canonical := hstep _ _ _ h2
  have h4 : s4.canonical := hstep _ _ _ h3
  clear_value s4
  have h5 : s5.canonical := by
    simp only [s5]
    split <;> simp (maxDischargeDepth := 12) [*]
  clear_value s5
  split <;> simp (maxDischargeDepth := 12) [*]

@[simp] theorem State.enumFinish_canonical (s : State) (r : Nat) (hs : s.canonical) : (State.enumFinish s r).canonical := by
  unfold State.enumFinish
  (try simp (maxDischargeDepth := 12) +contextual [*])
  all_goals (repeat' split) <;> (try simp (maxDischargeDepth := 12) +contextual [*])

@[simp] theorem State.publishAcq_canonical (s : State) (r : Nat) (hs : s.canonical) : (s.publishAcq r).canonical := by
  unfold State.publishAcq
  extract_lets s1 s2 s3 s4 s5 s6
  have h1 : s1.canonical := forEach_canonical _ _ _ hs fun s c h => by simp [h]
  clear_value s1
  have h2 : s2.canonical := forEach_canonical _ _ _ h1 fun s c h => by simp [h]
  clear_value s2
  have h3 : s3.canonical := by simp [s3, *]
  clear_value s3
  have h4 : s4.canonical := by simp [s4, *]
  clear_value s4
  have h5 : s5.canonical := forEach_canonical _ _ _ h4 fun s c h => by simp [h]
  clear_value s5
  have h6 : s6.canonical := by simp [s6, *]
  clear_value s6
  have h7 : (((s6.refreshEst r).estTally r).dispatch r).canonical := by simp (maxDischargeDepth := 12) [*]
  simp (maxDischargeDepth := 12) [*]

@[simp] theorem State.sweepComplete_canonical (s : State) (r : Nat) (hs : s.canonical) : (State.sweepComplete s r).canonical := by
  unfold State.sweepComplete
  (try simp (maxDischargeDepth := 12) +contextual [*])

theorem execSweepComplete_canonical (ring : Fin 4) (s : State) (hs : s.canonical) :
    nextSat (execSweepComplete ring s) fun t => t.canonical := by
  unfold execSweepComplete
  (try simp (maxDischargeDepth := 12) +contextual [*])

theorem execStaleTrip_canonical (ring : Fin 4) (cell : Fin 512) (s : State) (hs : s.canonical) :
    nextSat (execStaleTrip ring cell s) fun t => t.canonical := by
  unfold execStaleTrip
  (try simp (maxDischargeDepth := 12) +contextual [*])

@[simp] theorem State.endTrains_canonical (s : State) (r : Nat) (hs : s.canonical) : (s.endTrains r).canonical := by
  unfold State.endTrains
  refine forEach_canonical _ _ _ hs fun s b h => ?_
  split <;> simp [h]

@[simp] theorem State.sweepStart_canonical (s : State) (r : Nat) (hs : s.canonical) : (State.sweepStart s r).canonical := by
  unfold State.sweepStart
  (try simp (maxDischargeDepth := 12) +contextual [*])

@[simp] theorem State.sweepFrom_canonical (s : State) (r : Nat) (b : Bool) (last : Nat) (hs : s.canonical) :
    (State.sweepFrom s r b last).canonical := by
  unfold State.sweepFrom
  (try simp (maxDischargeDepth := 12) +contextual [*])

@[simp] theorem State.sweepRing_canonical (s : State) (r : Nat) (hs : s.canonical) : (s.sweepRing r).canonical := by
  unfold State.sweepRing
  extract_lets s1 s2 x
  have h1 : s1.canonical := by
    simp only [s1]
    split <;> simp (maxDischargeDepth := 12) [*]
  clear_value s1
  split
  · exact h1
  have h2 : s2.canonical := by
    simp only [s2]
    simp (maxDischargeDepth := 12) [h1]
  clear_value x s2
  split
  · exact h2
  split
  · exact State.sweepFrom_canonical _ _ _ _ h2
  split
  · exact State.sweepFrom_canonical _ _ _ _ h2
  · refine forEach_canonical _ _ _ h2 fun s b h => ?_
    split
    · exact State.sweepFrom_canonical _ _ _ _ h
    · exact h

@[simp] theorem State.trigger_canonical (s : State) (hs : s.canonical) : (State.trigger s).canonical := by
  unfold State.trigger
  (try simp (maxDischargeDepth := 12) +contextual [*])

theorem execTallyTrigger_canonical (s : State) (hs : s.canonical) : nextSat (execTallyTrigger s) fun t => t.canonical := by
  unfold execTallyTrigger
  (try simp (maxDischargeDepth := 12) +contextual [*])

theorem execTallyPeriodApply_canonical (s : State) (hs : s.canonical) :
    nextSat (execTallyPeriodApply s) fun t => t.canonical := by
  unfold execTallyPeriodApply
  (try simp (maxDischargeDepth := 12) +contextual [*])
  all_goals (repeat' split) <;> (try simp (maxDischargeDepth := 12) +contextual [*])

@[simp] theorem State.fillModule_canonical (s : State) (r : Nat) (p : Nat) (m : ModuleRec) (first : Nat) (hs : s.canonical) :
    (State.fillModule s r p m first).canonical := by
  unfold State.fillModule
  (try simp (maxDischargeDepth := 12) +contextual [*])

@[simp] theorem State.fillRing_canonical (f : List Byte) (s : State) (r : Nat) (hs : s.canonical) :
    (State.fillRing f s r).canonical := by
  unfold State.fillRing
  (try simp (maxDischargeDepth := 12) +contextual [*])

@[simp] theorem State.keepLearned_canonical (old new : State) (ho : old.canonical) (hn : new.canonical) :
    (old.keepLearned new).canonical := by
  have h1 := hn.1
  have hc := cellsWf_remap new.cells (old.keptCells new) hn.2.2.2.2.2.2.2.2.1
  unfold State.keepLearned
  simp (maxDischargeDepth := 12) [*]

@[simp] theorem State.trimEus_canonical (s : State) (hs : s.canonical) : (State.trimEus s).canonical := by
  unfold State.trimEus
  (try simp (maxDischargeDepth := 12) +contextual [*])

@[simp] theorem State.setManifest_canonical (s : State) (f : List Byte) (hs : s.canonical) :
    (State.setManifest s f).canonical := by
  unfold State.setManifest
  (try simp (maxDischargeDepth := 12) +contextual [*])

@[simp] theorem State.configRaise_canonical (s : State) (inst : Nat) (hs : s.canonical) :
    (State.configRaise s inst).canonical := by
  unfold State.configRaise
  (try simp (maxDischargeDepth := 12) +contextual [*])

@[simp] theorem State.saveImage_canonical (s : State) (hs : s.canonical) : (State.saveImage s).canonical := by
  unfold State.saveImage
  (try simp (maxDischargeDepth := 12) +contextual [*])

@[simp] theorem State.periodChange_canonical (s : State) (hs : s.canonical) : (State.periodChange s).canonical := by
  unfold State.periodChange
  (try simp (maxDischargeDepth := 12) +contextual [*])

@[simp] theorem State.timingChange_canonical (s : State) (ch : Nat) (k : Nat) (hs : s.canonical) :
    (State.timingChange s ch k).canonical := by
  unfold State.timingChange
  (try simp (maxDischargeDepth := 12) +contextual [*])

@[simp] theorem State.roleSet_canonical (s : State) (d : Nat) (hs : s.canonical) : (State.roleSet s d).canonical := by
  unfold State.roleSet
  (try simp (maxDischargeDepth := 12) +contextual [*])

@[simp] theorem State.streamStart_canonical (s : State) (k : Nat) (hs : s.canonical) : (State.streamStart s k).canonical := by
  unfold State.streamStart
  (try simp (maxDischargeDepth := 12) +contextual [*])

@[simp] theorem State.effects_canonical (s t : State) (hs : s.canonical) (ht : t.canonical) : (s.effects t).canonical := by
  unfold State.effects
  extract_lets u1 u2 u3 u4 u5 u6 u7 u8 u9 u10 u11
  have h1 : u1.canonical := forEach_canonical _ _ _ ht fun s c h => by simp [h]
  clear_value u1
  have h2 : u2.canonical := forEach_canonical _ _ _ h1 fun s c h => by simp [h]
  clear_value u2
  have h3 : u3.canonical := forEach_canonical _ _ _ h2 fun s c h => by simp [h]
  clear_value u3
  have h4 : u4.canonical := forEach_canonical _ _ _ h3 fun s c h => by simp [h]
  clear_value u4
  have h5 : u5.canonical := forEach_canonical _ _ _ h4 fun s c h => by simp [h]
  clear_value u5
  have h6 : u6.canonical := forEach_canonical _ _ _ h5 fun s c h => by
    repeat' split
    all_goals simp [h]
  clear_value u6
  have h7 : u7.canonical := by
    simp only [u7]
    split <;> simp [h6]
  clear_value u7
  have h8 : u8.canonical := forEach_canonical _ _ _ h7 fun s c h => forEach_canonical _ _ _ h fun s c h => by simp [h]
  clear_value u8
  have h9 : u9.canonical := by
    simp only [u9]
    split <;> simp [h8]
  clear_value u9
  have h10 : u10.canonical := by
    simp only [u10]
    split <;> simp [h9]
  clear_value u10
  have h11 : u11.canonical := forEach_canonical _ _ _ h10 fun s c h => by simp [h]
  clear_value u11
  split <;> simp [h11]

@[simp] theorem State.storing_canonical (s : State) (covered : Bool) (op : State → State) (hs : s.canonical)
    (ho : (op s).canonical) : (s.storing covered op).1.canonical := by
  unfold State.storing
  split
  · simp (maxDischargeDepth := 12) [*]
  split
  · simp (maxDischargeDepth := 12) [*]
  · show (if covered then ((s.effects (op s)).saveImage.configRaise 0) else s.effects (op s)).canonical
    split <;> simp (maxDischargeDepth := 12) [*]

@[simp] theorem State.savedDefaults_canonical (s : State) (hs : s.canonical) : (State.savedDefaults s).canonical := by
  unfold State.savedDefaults
  (try simp (maxDischargeDepth := 12) +contextual [*])

@[simp] theorem State.storeValue_canonical (s : State) (i : Nat) (sub : Nat) (v : List Int) (hs : s.canonical) :
    (State.storeValue s i sub v).canonical := by
  unfold State.storeValue
  (try simp (maxDischargeDepth := 12) +contextual [*])

@[simp] theorem State.applyEntries_canonical (s : State) (l : List ImageEntry) (hs : s.canonical) :
    (State.applyEntries s l).canonical := by
  unfold State.applyEntries
  (try simp (maxDischargeDepth := 12) +contextual [*])

@[simp] theorem State.adopt_canonical (s : State) (t : State) (manifest : List Byte) (commit : Bool) (hs : s.canonical) (ht : t.canonical) :
    (State.adopt s t manifest commit).canonical := by
  unfold State.adopt
  (try simp (maxDischargeDepth := 12) +contextual [*])

@[simp] theorem withNode_canonical (s : State) (o : Host.Outcome State Fault Refusal) (ho : nextSat o fun t => t.canonical) :
    nextSat (withNode s o) fun t => t.canonical := by
  unfold withNode
  split
  · have := ho _ rfl
    refine next_canonical _ ?_
    split <;> simp [*]
  · exact ho

@[simp] theorem State.commitManifest_canonical (s : State) (f : List Byte) (hs : s.canonical) :
    (State.commitManifest s f).canonical := by
  unfold State.commitManifest
  (try simp (maxDischargeDepth := 12) +contextual [*])

@[simp] theorem State.manifestWrite_canonical (s : State) (f : List Byte) (hs : s.canonical) :
    ((State.manifestWrite s f)).1.canonical := by
  unfold State.manifestWrite
  (try simp (maxDischargeDepth := 12) +contextual [*])

theorem execManifestFileWrite_canonical (req : Req) (file : List Byte) (s : State) (hs : s.canonical) :
    nextSat (execManifestFileWrite req file s) fun t => t.canonical := by
  unfold execManifestFileWrite
  (try simp (maxDischargeDepth := 12) +contextual [*])

@[simp] theorem State.commitUids_canonical (s : State) (mask : Nat) (hs : s.canonical) : (State.commitUids s mask).canonical := by
  unfold State.commitUids
  (try simp (maxDischargeDepth := 12) +contextual [*])

@[simp] theorem State.adoptUids_canonical (s : State) (mask : Nat) (hs : s.canonical) :
    ((State.adoptUids s mask)).1.canonical := by
  unfold State.adoptUids
  (try simp (maxDischargeDepth := 12) +contextual [*])

theorem execManifestAdoptUids_canonical (req : Req) (mask : Byte) (s : State) (hs : s.canonical) :
    nextSat (execManifestAdoptUids req mask s) fun t => t.canonical := by
  unfold execManifestAdoptUids
  (try simp (maxDischargeDepth := 12) +contextual [*])

@[simp] theorem State.configSave_canonical (s : State) (hs : s.canonical) : ((State.configSave s)).1.canonical := by
  unfold State.configSave
  (try simp (maxDischargeDepth := 12) +contextual [*])

theorem execConfigSave_canonical (req : Req) (s : State) (hs : s.canonical) :
    nextSat (execConfigSave req s) fun t => t.canonical := by
  unfold execConfigSave
  (try simp (maxDischargeDepth := 12) +contextual [*])

@[simp] theorem State.configDefaults_canonical (s : State) (hs : s.canonical) : ((State.configDefaults s)).1.canonical := by
  unfold State.configDefaults
  (try simp (maxDischargeDepth := 12) +contextual [*])

theorem execConfigFactoryDefaults_canonical (req : Req) (s : State) (hs : s.canonical) :
    nextSat (execConfigFactoryDefaults req s) fun t => t.canonical := by
  unfold execConfigFactoryDefaults
  (try simp (maxDischargeDepth := 12) +contextual [*])

@[simp] theorem State.configDiscard_canonical (s : State) (hs : s.canonical) : ((State.configDiscard s)).1.canonical := by
  unfold State.configDiscard
  (try simp (maxDischargeDepth := 12) +contextual [*])
  all_goals (repeat' split) <;> (try simp (maxDischargeDepth := 12) +contextual [*])

theorem execConfigDiscard_canonical (req : Req) (s : State) (hs : s.canonical) :
    nextSat (execConfigDiscard req s) fun t => t.canonical := by
  unfold execConfigDiscard
  (try simp (maxDischargeDepth := 12) +contextual [*])

@[simp] theorem State.importImage_canonical (s : State) (img : List Byte) (hs : s.canonical) :
    (State.importImage s img).canonical := by
  unfold State.importImage
  (try simp (maxDischargeDepth := 12) +contextual [*])

@[simp] theorem State.imageImport_canonical (s : State) (img : List Byte) (hs : s.canonical) :
    ((State.imageImport s img)).1.canonical := by
  unfold State.imageImport
  (try simp (maxDischargeDepth := 12) +contextual [*])

theorem execConfigImageImport_canonical (req : Req) (image : List Byte) (s : State) (hs : s.canonical) :
    nextSat (execConfigImageImport req image s) fun t => t.canonical := by
  unfold execConfigImageImport
  (try simp (maxDischargeDepth := 12) +contextual [*])

@[simp] theorem State.tallyPeriod_canonical (s : State) (v : Nat) (hs : s.canonical) : ((State.tallyPeriod s v)).1.canonical := by
  unfold State.tallyPeriod
  (try simp (maxDischargeDepth := 12) +contextual [*])

theorem execTallyPeriodWrite_canonical (req : Req) (value : Nat) (s : State) (hs : s.canonical) :
    nextSat (execTallyPeriodWrite req value s) fun t => t.canonical := by
  unfold execTallyPeriodWrite
  (try simp (maxDischargeDepth := 12) +contextual [*])

end Sys2Proof.Machine
end

