-- ==== Sys2Proof/Laws/CanonicalSystem.lean ====
section
/-! SUPPORT. Sys2Proof/Laws/CanonicalSystem.lean: every operation and every command keeps the canonical form of the stored state (`State.canonical`)
(duplex, storage, life-cycle, thermal, QLP). -/

namespace Sys2Proof.Machine

@[simp] theorem State.releaseOutputs_canonical (s : State) (hs : s.canonical) : (State.releaseOutputs s).canonical := by
  unfold State.releaseOutputs
  (try simp (maxDischargeDepth := 12) +contextual [*])

@[simp] theorem State.driveDriver_canonical (s : State) (d : Nat) (m : MirrorDriver) (hs : s.canonical) :
    (State.driveDriver s d m).canonical := by
  unfold State.driveDriver
  (try simp (maxDischargeDepth := 12) +contextual [*])

@[simp] theorem State.driveShadow_canonical (s : State) (hs : s.canonical) : (State.driveShadow s).canonical := by
  unfold State.driveShadow
  (try simp (maxDischargeDepth := 12) +contextual [*])
  all_goals (repeat' split) <;> (try simp (maxDischargeDepth := 12) +contextual [*])

@[simp] theorem State.berthTrips_canonical (s : State) (hs : s.canonical) : (State.berthTrips s).canonical := by
  unfold State.berthTrips
  (try simp (maxDischargeDepth := 12) +contextual [*])

@[simp] theorem State.cyclesStart_canonical (s : State) (hs : s.canonical) : (State.cyclesStart s).canonical := by
  unfold State.cyclesStart
  (try simp (maxDischargeDepth := 12) +contextual [*])

@[simp] theorem State.claimNow_canonical (s : State) (inst : Nat) (hs : s.canonical) : (State.claimNow s inst).canonical := by
  unfold State.claimNow
  (try simp (maxDischargeDepth := 12) +contextual [*])

@[simp] theorem State.claimTrips_canonical (s : State) (hs : s.canonical) : (State.claimTrips s).canonical := by
  unfold State.claimTrips
  (try simp (maxDischargeDepth := 12) +contextual [*])

@[simp] theorem State.berthChange_canonical (s : State) (level : Bool) (hs : s.canonical) :
    (State.berthChange s level).canonical := by
  unfold State.berthChange
  (try simp (maxDischargeDepth := 12) +contextual [*])

theorem execBerthInChange_canonical (level : Bool) (s : State) (hs : s.canonical) :
    nextSat (execBerthInChange level s) fun t => t.canonical := by
  unfold execBerthInChange
  (try simp (maxDischargeDepth := 12) +contextual [*])

theorem execClaimWaitExpiry_canonical (s : State) (hs : s.canonical) : nextSat (execClaimWaitExpiry s) fun t => t.canonical := by
  unfold execClaimWaitExpiry
  (try simp (maxDischargeDepth := 12) +contextual [*])

@[simp] theorem State.conflictWithdraw_canonical (s : State) (hs : s.canonical) : (State.conflictWithdraw s).canonical := by
  unfold State.conflictWithdraw
  (try simp (maxDischargeDepth := 12) +contextual [*])

theorem execClaimConflictWithdraw_canonical (s : State) (hs : s.canonical) :
    nextSat (execClaimConflictWithdraw s) fun t => t.canonical := by
  unfold execClaimConflictWithdraw
  (try simp (maxDischargeDepth := 12) +contextual [*])

theorem execClaimRefreshTimeout_canonical (s : State) (hs : s.canonical) :
    nextSat (execClaimRefreshTimeout s) fun t => t.canonical := by
  unfold execClaimRefreshTimeout
  (try simp (maxDischargeDepth := 12) +contextual [*])

@[simp] theorem State.endHolding_canonical (s : State) (hs : s.canonical) : (State.endHolding s).canonical := by
  unfold State.endHolding
  (try simp (maxDischargeDepth := 12) +contextual [*])

@[simp] theorem State.activateWaiting_canonical (s : State) (hs : s.canonical) : (State.activateWaiting s).canonical := by
  unfold State.activateWaiting
  (try simp (maxDischargeDepth := 12) +contextual [*])
  all_goals (repeat' split) <;> (try simp (maxDischargeDepth := 12) +contextual [*])

@[simp] theorem State.activateRefused_canonical (s : State) (hs : s.canonical) : (State.activateRefused s).canonical := by
  unfold State.activateRefused
  (try simp (maxDischargeDepth := 12) +contextual [*])
  all_goals (repeat' split) <;> (try simp (maxDischargeDepth := 12) +contextual [*])

theorem execHoldingRelease_canonical (s : State) (hs : s.canonical) : nextSat (execHoldingRelease s) fun t => t.canonical := by
  unfold execHoldingRelease
  (try simp (maxDischargeDepth := 12) +contextual [*])

@[simp] theorem State.noTaker_canonical (s : State) (hs : s.canonical) : (State.noTaker s).canonical := by
  unfold State.noTaker
  (try simp (maxDischargeDepth := 12) +contextual [*])

theorem execHoldingTimeout_canonical (s : State) (hs : s.canonical) : nextSat (execHoldingTimeout s) fun t => t.canonical := by
  unfold execHoldingTimeout
  (try simp (maxDischargeDepth := 12) +contextual [*])

theorem execArmingRefreshTimeout_canonical (s : State) (hs : s.canonical) :
    nextSat (execArmingRefreshTimeout s) fun t => t.canonical := by
  unfold execArmingRefreshTimeout
  (try simp (maxDischargeDepth := 12) +contextual [*])

@[simp] theorem State.sendMirror_canonical (s : State) (hs : s.canonical) : (State.sendMirror s).canonical := by
  unfold State.sendMirror
  (try simp (maxDischargeDepth := 12) +contextual [*])

@[simp] theorem State.mirrorOutputs_canonical (s : State) (hs : s.canonical) : (State.mirrorOutputs s).canonical := by
  unfold State.mirrorOutputs
  (try simp (maxDischargeDepth := 12) +contextual [*])

@[simp] theorem State.adoptDriver_canonical (s : State) (d : Nat) (m : MirrorDriver) (hs : s.canonical) :
    (State.adoptDriver s d m).canonical := by
  unfold State.adoptDriver
  (try simp (maxDischargeDepth := 12) +contextual [*])

@[simp] theorem State.adoptString_canonical (s : State) (n : Nat) (m : MirrorString) (hs : s.canonical) :
    (State.adoptString s n m).canonical := by
  unfold State.adoptString
  (try simp (maxDischargeDepth := 12) +contextual [*])

@[simp] theorem State.adoptMirror_canonical (s : State) (m : Mirror) (hs : s.canonical) : (State.adoptMirror s m).canonical := by
  unfold State.adoptMirror
  (try simp (maxDischargeDepth := 12) +contextual [*])

@[simp] theorem State.dupFrame_canonical (s : State) (crcOk : Bool) (f : State → State) (hs : s.canonical)
    (hf : ∀ s : State, s.canonical → (f s).canonical) : nextSat (s.dupFrame crcOk f) fun t => t.canonical := by
  unfold State.dupFrame
  split
  · exact done_canonical _ hs
  split
  · exact done_canonical _ (by simp [*])
  · exact done_canonical _ (hf _ (by simp [*]))

theorem execDuplexLinkDown_canonical (s : State) (hs : s.canonical) : nextSat (execDuplexLinkDown s) fun t => t.canonical := by
  unfold execDuplexLinkDown
  (try simp (maxDischargeDepth := 12) +contextual [*])

theorem execDuplexLinkUp_canonical (s : State) (hs : s.canonical) : nextSat (execDuplexLinkUp s) fun t => t.canonical := by
  unfold execDuplexLinkUp
  (try simp (maxDischargeDepth := 12) +contextual [*])

@[simp] theorem State.helloSend_canonical (s : State) (hs : s.canonical) : (State.helloSend s).canonical := by
  unfold State.helloSend
  (try simp (maxDischargeDepth := 12) +contextual [*])

theorem execDuplexHelloSend_canonical (s : State) (hs : s.canonical) : nextSat (execDuplexHelloSend s) fun t => t.canonical := by
  unfold execDuplexHelloSend
  (try simp (maxDischargeDepth := 12) +contextual [*])

@[simp] theorem State.takeHello_canonical (s : State) (h : Hello) (hs : s.canonical) : (State.takeHello s h).canonical := by
  unfold State.takeHello
  (try simp (maxDischargeDepth := 12) +contextual [*])

theorem execHello_canonical (h : Hello) (tail : DupTail) (s : State) (hs : s.canonical) :
    nextSat (execHello h tail s) fun t => t.canonical := by
  unfold execHello
  (try simp (maxDischargeDepth := 12) +contextual [*])

theorem execMirror_canonical (m : Mirror) (tail : DupTail) (s : State) (hs : s.canonical) :
    nextSat (execMirror m tail s) fun t => t.canonical := by
  unfold execMirror
  (try simp (maxDischargeDepth := 12) +contextual [*])

@[simp] theorem State.takeTally_canonical (s : State) (index : Nat) (period : Nat) (time : Nat) (hs : s.canonical) :
    (State.takeTally s index period time).canonical := by
  unfold State.takeTally
  (try simp (maxDischargeDepth := 12) +contextual [*])

theorem execDuplexTally_canonical (index : BitVec 32) (period : Nat) (time : Nat) (tail : DupTail) (s : State) (hs : s.canonical) :
    nextSat (execDuplexTally index period time tail s) fun t => t.canonical := by
  unfold execDuplexTally
  (try simp (maxDischargeDepth := 12) +contextual [*])

@[simp] theorem State.closeTail_canonical (s : State) (r : Nat) (hs : s.canonical) : (State.closeTail s r).canonical := by
  unfold State.closeTail
  (try simp (maxDischargeDepth := 12) +contextual [*])

@[simp] theorem State.takeDelays_canonical (s : State) (p : List Byte) (hs : s.canonical) : (State.takeDelays s p).canonical := by
  unfold State.takeDelays
  (try simp (maxDischargeDepth := 12) +contextual [*])

theorem execRingDelays_canonical (payload : List Byte) (tail : DupTail) (s : State) (hs : s.canonical) :
    nextSat (execRingDelays payload tail s) fun t => t.canonical := by
  unfold execRingDelays
  (try simp (maxDischargeDepth := 12) +contextual [*])

@[simp] theorem State.takeChainReq_canonical (s : State) (r : Nat) (f : List Byte) (latest : Nat) (hs : s.canonical) :
    (State.takeChainReq s r f latest).canonical := by
  unfold State.takeChainReq
  (try simp (maxDischargeDepth := 12) +contextual [*])

theorem execChainReq_canonical (ring : Fin 4) (command : List Byte) (latest : Nat) (tail : DupTail) (s : State) (hs : s.canonical) :
    nextSat (execChainReq ring command latest tail s) fun t => t.canonical := by
  unfold execChainReq
  (try simp (maxDischargeDepth := 12) +contextual [*])

theorem after_canonical (s : State) (o : Host.Outcome State Fault Refusal) (hs : s.canonical) (ho :
    nextSat o fun t => t.canonical) :
    (after s o).canonical := by
  unfold after
  split
  · exact ho _ rfl
  · exact hs

@[simp] theorem State.takeForward_canonical (s : State) (ring : Fin 4) (f : List Byte) (hs : s.canonical) :
    (s.takeForward ring f).canonical := by
  unfold State.takeForward
  extract_lets port go t
  have hgo : ∀ m : Fin 4 → Bool → List Byte → State → Host.Outcome State Fault Refusal,
      (nextSat (m ring port f s) fun t => t.canonical) → (go m).canonical := fun m hm => after_canonical _ _ hs hm
  clear_value go t
  refine canonical_ite _ _ _ (fun _ => hs) fun _ => ?_
  refine canonical_ite _ _ _ (fun _ => hgo _ (execReturnPathCheck_canonical _ _ _ hs)) fun _ => ?_
  refine canonical_ite _ _ _ (fun _ => hgo _ (execIdent_canonical _ _ _ _ hs)) fun _ => ?_
  refine canonical_ite _ _ _ (fun _ => hgo _ (execEchoBack_canonical _ _ _ _ _ _ hs)) fun _ => ?_
  refine canonical_ite _ _ _ (fun _ => hgo _ (execConfigAck_canonical _ _ _ _ hs)) fun _ => ?_
  refine canonical_ite _ _ _ (fun _ => hgo _ (execStatus_canonical _ _ _ _ hs)) fun _ => ?_
  refine canonical_ite _ _ _ (fun _ => hgo _ (execSample_canonical _ _ _ _ hs)) fun _ => ?_
  refine canonical_ite _ _ _ (fun _ => hgo _ (execBalAck_canonical _ _ _ _ hs)) fun _ => ?_
  refine canonical_ite _ _ _ (fun _ => hgo _ (execOpenWireResult_canonical _ _ _ _ hs)) fun _ => ?_
  refine canonical_ite _ _ _ (fun _ => hgo _ (execAuthResult_canonical _ _ _ _ hs)) fun _ => ?_
  refine canonical_ite _ _ _ (fun _ => hgo _ (execAuthMac_canonical _ _ _ _ hs)) fun _ => ?_
  refine canonical_ite _ _ _ (fun _ => hgo _ (execRejoinResult_canonical _ _ _ _ hs)) fun _ => ?_
  exact hgo _ (execIdent_canonical _ _ _ _ hs)

theorem execChainFwd_canonical (ring : Fin 4) (decodedAt : Nat) (frame : List Byte) (tail : DupTail) (s : State) (hs : s.canonical) :
    nextSat (execChainFwd ring decodedAt frame tail s) fun t => t.canonical := by
  unfold execChainFwd
  (try simp (maxDischargeDepth := 12) +contextual [*])

theorem execStandbyTakeoverSweep_canonical (ring : Fin 4) (s : State) (hs : s.canonical) :
    nextSat (execStandbyTakeoverSweep ring s) fun t => t.canonical := by
  unfold execStandbyTakeoverSweep
  (try simp (maxDischargeDepth := 12) +contextual [*])

@[simp] theorem State.handoverStart_canonical (s : State) (hs : s.canonical) : (State.handoverStart s).canonical := by
  unfold State.handoverStart
  (try simp (maxDischargeDepth := 12) +contextual [*])

@[simp] theorem State.handOver_canonical (s : State) (hs : s.canonical) : ((State.handOver s)).1.canonical := by
  unfold State.handOver
  (try simp (maxDischargeDepth := 12) +contextual [*])

theorem execBerthHandOver_canonical (req : Req) (s : State) (hs : s.canonical) :
    nextSat (execBerthHandOver req s) fun t => t.canonical := by
  unfold execBerthHandOver
  (try simp (maxDischargeDepth := 12) +contextual [*])

@[simp] theorem State.askHandover_canonical (s : State) (revert : Bool) (hs : s.canonical) :
    (State.askHandover s revert).canonical := by
  unfold State.askHandover
  (try simp (maxDischargeDepth := 12) +contextual [*])

@[simp] theorem State.take_canonical (s : State) (hs : s.canonical) : ((State.take s)).1.canonical := by
  unfold State.take
  (try simp (maxDischargeDepth := 12) +contextual [*])

theorem execBerthTake_canonical (req : Req) (s : State) (hs : s.canonical) :
    nextSat (execBerthTake req s) fun t => t.canonical := by
  unfold execBerthTake
  (try simp (maxDischargeDepth := 12) +contextual [*])

theorem execBerthRevert_canonical (s : State) (hs : s.canonical) : nextSat (execBerthRevert s) fun t => t.canonical := by
  unfold execBerthRevert
  (try simp (maxDischargeDepth := 12) +contextual [*])

@[simp] theorem State.takeOffer_canonical (s : State) (tally : Nat) (hs : s.canonical) : (State.takeOffer s tally).canonical := by
  unfold State.takeOffer
  (try simp (maxDischargeDepth := 12) +contextual [*])

theorem execHandoverOffer_canonical (tally : BitVec 32) (tail : DupTail) (s : State) (hs : s.canonical) :
    nextSat (execHandoverOffer tally tail s) fun t => t.canonical := by
  unfold execHandoverOffer
  (try simp (maxDischargeDepth := 12) +contextual [*])

theorem execHandoverAccept_canonical (tally : BitVec 32) (tail : DupTail) (s : State) (hs : s.canonical) :
    nextSat (execHandoverAccept tally tail s) fun t => t.canonical := by
  unfold execHandoverAccept
  (try simp (maxDischargeDepth := 12) +contextual [*])

theorem execHandoverRefuse_canonical (tally : BitVec 32) (tail : DupTail) (s : State) (hs : s.canonical) :
    nextSat (execHandoverRefuse tally tail s) fun t => t.canonical := by
  unfold execHandoverRefuse
  (try simp (maxDischargeDepth := 12) +contextual [*])

theorem execHandoverTaken_canonical (tally : BitVec 32) (tail : DupTail) (s : State) (hs : s.canonical) :
    nextSat (execHandoverTaken tally tail s) fun t => t.canonical := by
  unfold execHandoverTaken
  (try simp (maxDischargeDepth := 12) +contextual [*])

@[simp] theorem State.failureString_canonical (s : State) (n : Nat) (hs : s.canonical) : (State.failureString s n).canonical := by
  unfold State.failureString
  (try simp (maxDischargeDepth := 12) +contextual [*])

@[simp] theorem State.takenStep_canonical (s : State) (hs : s.canonical) : (State.takenStep s).canonical := by
  unfold State.takenStep
  (try simp (maxDischargeDepth := 12) +contextual [*])

@[simp] theorem State.sequenceStep_canonical (s : State) (hs : s.canonical) : (State.sequenceStep s).canonical := by
  unfold State.sequenceStep
  (try simp (maxDischargeDepth := 12) +contextual [*])

@[simp] theorem State.takeLapse_canonical (s : State) (hs : s.canonical) : (State.takeLapse s).canonical := by
  unfold State.takeLapse
  (try simp (maxDischargeDepth := 12) +contextual [*])

@[simp] theorem State.standbyRefresh_canonical (s : State) (hs : s.canonical) : (State.standbyRefresh s).canonical := by
  unfold State.standbyRefresh
  (try simp (maxDischargeDepth := 12) +contextual [*])

@[simp] theorem State.offerEnd_canonical (s : State) (h : Nat) (hs : s.canonical) : (State.offerEnd s h).canonical := by
  unfold State.offerEnd
  (try simp (maxDischargeDepth := 12) +contextual [*])

@[simp] theorem State.holderStep_canonical (s : State) (hs : s.canonical) : (State.holderStep s).canonical := by
  unfold State.holderStep
  (try simp (maxDischargeDepth := 12) +contextual [*])

@[simp] theorem State.darkWatch_canonical (s : State) (hs : s.canonical) : (State.darkWatch s).canonical := by
  unfold State.darkWatch
  (try simp (maxDischargeDepth := 12) +contextual [*])

@[simp] theorem State.contactorStep_canonical (s : State) (hs : s.canonical) : (State.contactorStep s).canonical := by
  unfold State.contactorStep
  (try simp (maxDischargeDepth := 12) +contextual [*])

theorem execContactorStep_canonical (s : State) (hs : s.canonical) : nextSat (execContactorStep s) fun t => t.canonical := by
  unfold execContactorStep
  (try simp (maxDischargeDepth := 12) +contextual [*])

@[simp] theorem State.storeTable_canonical (s : State) (k : Nat) (f : List Byte) (hs : s.canonical) :
    (State.storeTable s k f).canonical := by
  unfold State.storeTable
  (try simp (maxDischargeDepth := 12) +contextual [*])

@[simp] theorem State.loadTable_canonical (s : State) (k : Nat) (hs : s.canonical) : (State.loadTable s k).canonical := by
  unfold State.loadTable
  (try simp (maxDischargeDepth := 12) +contextual [*])
  all_goals (repeat' split) <;> (try simp (maxDischargeDepth := 12) +contextual [*])

@[simp] theorem State.pauseSet_canonical (s : State) (k : Nat) (hs : s.canonical) : (State.pauseSet s k).canonical := by
  unfold State.pauseSet
  (try simp (maxDischargeDepth := 12) +contextual [*])

@[simp] theorem State.tableWrite_canonical (s : State) (k : Nat) (f : List Byte) (hs : s.canonical) :
    ((State.tableWrite s k f)).1.canonical := by
  unfold State.tableWrite
  (try simp (maxDischargeDepth := 12) +contextual [*])

theorem execModelTableFileWrite_canonical (req : Req) (set : Fin 4) (file : List Byte) (s : State) (hs : s.canonical) :
    nextSat (execModelTableFileWrite req set file s) fun t => t.canonical := by
  unfold execModelTableFileWrite
  (try simp (maxDischargeDepth := 12) +contextual [*])

theorem execTableSetLoadDone_canonical (set : Fin 4) (s : State) (hs : s.canonical) :
    nextSat (execTableSetLoadDone set s) fun t => t.canonical := by
  unfold execTableSetLoadDone
  (try simp (maxDischargeDepth := 12) +contextual [*])

theorem execTableSetReloadDone_canonical (set : Fin 4) (s : State) (hs : s.canonical) :
    nextSat (execTableSetReloadDone set s) fun t => t.canonical := by
  unfold execTableSetReloadDone
  (try simp (maxDischargeDepth := 12) +contextual [*])

@[simp] theorem State.loseStaging_canonical (s : State) (hs : s.canonical) : (State.loseStaging s).canonical := by
  unfold State.loseStaging
  (try simp (maxDischargeDepth := 12) +contextual [*])

@[simp] theorem State.reloadConfig_canonical (s : State) (hs : s.canonical) : (State.reloadConfig s).canonical := by
  unfold State.reloadConfig
  (try simp (maxDischargeDepth := 12) +contextual [*])

@[simp] theorem State.eccAction_canonical (s : State) (area : Nat) (item : Nat) (hs : s.canonical) :
    (State.eccAction s area item).canonical := by
  unfold State.eccAction
  (try simp (maxDischargeDepth := 12) +contextual [*])

theorem execSramEccError_canonical (area : Fin 7) (uncorrectable : Bool) (item : Nat) (s : State) (hs : s.canonical) :
    nextSat (execSramEccError area uncorrectable item s) fun t => t.canonical := by
  unfold execSramEccError
  (try simp (maxDischargeDepth := 12) +contextual [*])

theorem execLearnedDataCommit_canonical (string : Fin 4) (worn : Bool) (s : State) (hs : s.canonical) :
    nextSat (execLearnedDataCommit string worn s) fun t => t.canonical := by
  unfold execLearnedDataCommit
  (try simp (maxDischargeDepth := 12) +contextual [*])

theorem execWeldStateCommit_canonical (string : Fin 4) (worn : Bool) (s : State) (hs : s.canonical) :
    nextSat (execWeldStateCommit string worn s) fun t => t.canonical := by
  unfold execWeldStateCommit
  (try simp (maxDischargeDepth := 12) +contextual [*])

@[simp] theorem State.applyLearned_canonical (s : State) (n : Nat) (hs : s.canonical) : (State.applyLearned s n).canonical := by
  unfold State.applyLearned
  (try simp (maxDischargeDepth := 12) +contextual [*])
  all_goals (repeat' split) <;> (try simp (maxDischargeDepth := 12) +contextual [*])

@[simp] theorem State.withVaux_canonical (s : State) (mv : Nat) (hs : s.canonical) : (State.withVaux s mv).canonical := by
  unfold State.withVaux
  (try simp (maxDischargeDepth := 12) +contextual [*])

@[simp] theorem State.supplyBack_canonical (s : State) (mv : Nat) (hs : s.canonical) : (State.supplyBack s mv).canonical := by
  unfold State.supplyBack
  (try simp (maxDischargeDepth := 12) +contextual [*])

theorem execSupplyRecovery_canonical (vauxMv : Nat) (s : State) (hs : s.canonical) :
    nextSat (execSupplyRecovery vauxMv s) fun t => t.canonical := by
  unfold execSupplyRecovery
  (try simp (maxDischargeDepth := 12) +contextual [*])

@[simp] theorem State.warn_canonical (s : State) (mv : Nat) (hs : s.canonical) : (State.warn s mv).canonical := by
  unfold State.warn
  (try simp (maxDischargeDepth := 12) +contextual [*])

theorem execBrownOutWarning_canonical (vauxMv : Nat) (s : State) (hs : s.canonical) :
    nextSat (execBrownOutWarning vauxMv s) fun t => t.canonical := by
  unfold execBrownOutWarning
  (try simp (maxDischargeDepth := 12) +contextual [*])

theorem execBrownOutClear_canonical (vauxMv : Nat) (s : State) (hs : s.canonical) :
    nextSat (execBrownOutClear vauxMv s) fun t => t.canonical := by
  unfold execBrownOutClear
  (try simp (maxDischargeDepth := 12) +contextual [*])

theorem execPowerDieReset_canonical (vauxMv : Nat) (s : State) (hs : s.canonical) :
    nextSat (execPowerDieReset vauxMv s) fun t => t.canonical := by
  unfold execPowerDieReset
  (try simp (maxDischargeDepth := 12) +contextual [*])

theorem execRegulatorFault_canonical (vddcMv : Nat) (vddioMv : Nat) (s : State) (hs : s.canonical) :
    nextSat (execRegulatorFault vddcMv vddioMv s) fun t => t.canonical := by
  unfold execRegulatorFault
  (try simp (maxDischargeDepth := 12) +contextual [*])

theorem execPowerOn_canonical (vauxMv : Nat) (s : State) (hs : s.canonical) :
    nextSat (execPowerOn vauxMv s) fun t => t.canonical := by
  unfold execPowerOn
  (try simp (maxDischargeDepth := 12) +contextual [*])

@[simp] theorem State.pdRelease_canonical (s : State) (pref : Bool) (hs : s.canonical) : (State.pdRelease s pref).canonical := by
  unfold State.pdRelease
  (try simp (maxDischargeDepth := 12) +contextual [*])

theorem execPowerDieResetRelease_canonical (berthPref : Bool) (s : State) (hs : s.canonical) :
    nextSat (execPowerDieResetRelease berthPref s) fun t => t.canonical := by
  unfold execPowerDieResetRelease
  (try simp (maxDischargeDepth := 12) +contextual [*])

@[simp] theorem State.bootNote_canonical (s : State) (inst : Nat) (hs : s.canonical) : (State.bootNote s inst).canonical := by
  unfold State.bootNote
  (try simp (maxDischargeDepth := 12) +contextual [*])

@[simp] theorem State.boot_canonical (s : State) (k : Option Nat) (hs : s.canonical) : (State.boot s k).canonical := by
  unfold State.boot
  (try simp (maxDischargeDepth := 12) +contextual [*])
  all_goals (repeat' split) <;> (try simp (maxDischargeDepth := 12) +contextual [*])

@[simp] theorem State.slotProgram_canonical (s : State) (k : Nat) (f : FwSlot → FwSlot) (hs : s.canonical) :
    (State.slotProgram s k f).canonical := by
  unfold State.slotProgram
  (try simp (maxDischargeDepth := 12) +contextual [*])

@[simp] theorem State.bootActive_canonical (s : State) (hs : s.canonical) : (State.bootActive s).canonical := by
  unfold State.bootActive
  (try simp (maxDischargeDepth := 12) +contextual [*])

@[simp] theorem State.bootSlot_canonical (s : State) (hs : s.canonical) : (State.bootSlot s).canonical := by
  unfold State.bootSlot
  (try simp (maxDischargeDepth := 12) +contextual [*])
  all_goals (repeat' split) <;> (try simp (maxDischargeDepth := 12) +contextual [*])

@[simp] theorem State.cdRelease_canonical (s : State) (hs : s.canonical) : (State.cdRelease s).canonical := by
  unfold State.cdRelease
  (try simp (maxDischargeDepth := 12) +contextual [*])

theorem execComputeDieResetRelease_canonical (s : State) (hs : s.canonical) :
    nextSat (execComputeDieResetRelease s) fun t => t.canonical := by
  unfold execComputeDieResetRelease
  (try simp (maxDischargeDepth := 12) +contextual [*])

@[simp] theorem State.releaseIfFree_canonical (s : State) (hs : s.canonical) : (State.releaseIfFree s).canonical := by
  unfold State.releaseIfFree
  (try simp (maxDischargeDepth := 12) +contextual [*])

theorem execClockFaultRelease_canonical (s : State) (hs : s.canonical) :
    nextSat (execClockFaultRelease s) fun t => t.canonical := by
  unfold execClockFaultRelease
  (try simp (maxDischargeDepth := 12) +contextual [*])
  all_goals (repeat' split) <;> (try simp (maxDischargeDepth := 12) +contextual [*])

theorem execResetNAssert_canonical (s : State) (hs : s.canonical) : nextSat (execResetNAssert s) fun t => t.canonical := by
  unfold execResetNAssert
  (try simp (maxDischargeDepth := 12) +contextual [*])

theorem execResetNRelease_canonical (s : State) (hs : s.canonical) : nextSat (execResetNRelease s) fun t => t.canonical := by
  unfold execResetNRelease
  (try simp (maxDischargeDepth := 12) +contextual [*])

@[simp] theorem State.resetCommand_canonical (s : State) (v : Nat) (hs : s.canonical) :
    ((State.resetCommand s v)).1.canonical := by
  unfold State.resetCommand
  (try simp (maxDischargeDepth := 12) +contextual [*])

@[simp] theorem following_canonical (f : State → State) (o : Host.Outcome State Fault Refusal)
    (hf : ∀ s : State, s.canonical → (f s).canonical) (ho : nextSat o fun t => t.canonical) :
    nextSat (following f o) fun t => t.canonical := by
  unfold following
  split
  · have := ho _ rfl
    refine next_canonical _ ?_
    repeat' split
    · exact hf _ this
    · exact this
    · exact this
  · exact ho

theorem execDeviceResetCommand_canonical (req : Req) (value : Nat) (s : State) (hs : s.canonical) :
    nextSat (execDeviceResetCommand req value s) fun t => t.canonical := by
  unfold execDeviceResetCommand
  (try simp (maxDischargeDepth := 12) +contextual [*])
  all_goals (repeat' split) <;> (try simp (maxDischargeDepth := 12) +contextual [*])

@[simp] theorem State.ringMoor_canonical (s : State) (r : Nat) (hs : s.canonical) : (State.ringMoor s r).canonical := by
  unfold State.ringMoor
  (try simp (maxDischargeDepth := 12) +contextual [*])

@[simp] theorem State.moorCommit_canonical (s : State) (hs : s.canonical) : (State.moorCommit s).canonical := by
  unfold State.moorCommit
  (try simp (maxDischargeDepth := 12) +contextual [*])

@[simp] theorem State.moorWork_canonical (s : State) (hs : s.canonical) : (State.moorWork s).canonical := by
  unfold State.moorWork
  (try simp (maxDischargeDepth := 12) +contextual [*])

@[simp] theorem State.moorStart_canonical (s : State) (m : Mooring) (inst : Nat) (hs : s.canonical) :
    (State.moorStart s m inst).canonical := by
  unfold State.moorStart
  (try simp (maxDischargeDepth := 12) +contextual [*])

@[simp] theorem State.moor_canonical (s : State) (v : Nat) (hs : s.canonical) : ((State.moor s v)).1.canonical := by
  unfold State.moor
  (try simp (maxDischargeDepth := 12) +contextual [*])

theorem execMooredWatchCommand_canonical (req : Req) (s : State) (hs : s.canonical) :
    nextSat (execMooredWatchCommand req s) fun t => t.canonical := by
  unfold execMooredWatchCommand
  (try simp (maxDischargeDepth := 12) +contextual [*])

theorem execMooredDarkCommand_canonical (req : Req) (s : State) (hs : s.canonical) :
    nextSat (execMooredDarkCommand req s) fun t => t.canonical := by
  unfold execMooredDarkCommand
  (try simp (maxDischargeDepth := 12) +contextual [*])

theorem execMooredDarkAuto_canonical (s : State) (hs : s.canonical) : nextSat (execMooredDarkAuto s) fun t => t.canonical := by
  unfold execMooredDarkAuto
  (try simp (maxDischargeDepth := 12) +contextual [*])

@[simp] theorem State.moorDone_canonical (s : State) (hs : s.canonical) : (State.moorDone s).canonical := by
  unfold State.moorDone
  (try simp (maxDischargeDepth := 12) +contextual [*])

theorem execMooredEntryComplete_canonical (s : State) (hs : s.canonical) :
    nextSat (execMooredEntryComplete s) fun t => t.canonical := by
  unfold execMooredEntryComplete
  (try simp (maxDischargeDepth := 12) +contextual [*])

theorem execMooredWake_canonical (w : WakeSource) (s : State) (hs : s.canonical) :
    nextSat (execMooredWake w s) fun t => t.canonical := by
  unfold execMooredWake
  (try simp (maxDischargeDepth := 12) +contextual [*])

@[simp] theorem State.retireQuiet_canonical (s : State) (hs : s.canonical) : (State.retireQuiet s).canonical := by
  unfold State.retireQuiet
  (try simp (maxDischargeDepth := 12) +contextual [*])

@[simp] theorem State.retireTomb_canonical (s : State) (hs : s.canonical) : (State.retireTomb s).canonical := by
  unfold State.retireTomb
  (try simp (maxDischargeDepth := 12) +contextual [*])

@[simp] theorem State.retireKeys_canonical (s : State) (hs : s.canonical) : (State.retireKeys s).canonical := by
  unfold State.retireKeys
  (try simp (maxDischargeDepth := 12) +contextual [*])

@[simp] theorem State.retireWipe_canonical (s : State) (hs : s.canonical) : (State.retireWipe s).canonical := by
  unfold State.retireWipe
  (try simp (maxDischargeDepth := 12) +contextual [*])

@[simp] theorem State.retireSteps_canonical (s : State) (hs : s.canonical) : (State.retireSteps s).canonical := by
  unfold State.retireSteps
  (try simp (maxDischargeDepth := 12) +contextual [*])

@[simp] theorem State.scanRecord_canonical (s : State) (key : Nat) (bs : List Byte) (hs : s.canonical) :
    (State.scanRecord s key bs).canonical := by
  unfold State.scanRecord
  (try simp (maxDischargeDepth := 12) +contextual [*])

@[simp] theorem State.journalResume_canonical (s : State) (hs : s.canonical) : (State.journalResume s).canonical := by
  unfold State.journalResume
  (try simp (maxDischargeDepth := 12) +contextual [*])

@[simp] theorem State.scanJournal_canonical (s : State) (read : List (Nat × List Byte)) (hs : s.canonical) :
    (State.scanJournal s read).canonical := by
  unfold State.scanJournal
  (try simp (maxDischargeDepth := 12) +contextual [*])

@[simp] theorem State.resumeTime_canonical (s : State) (hs : s.canonical) : (State.resumeTime s).canonical := by
  unfold State.resumeTime
  (try simp (maxDischargeDepth := 12) +contextual [*])
  all_goals (repeat' split) <;> (try simp (maxDischargeDepth := 12) +contextual [*])

@[simp] theorem State.startLog_canonical (s : State) (torn : List (Nat × Nat)) (hs : s.canonical) :
    (State.startLog s torn).canonical := by
  unfold State.startLog
  (try simp (maxDischargeDepth := 12) +contextual [*])

@[simp] theorem State.startConfig_canonical (s : State) (hs : s.canonical) : (State.startConfig s).canonical := by
  unfold State.startConfig
  (try simp (maxDischargeDepth := 12) +contextual [*])
  all_goals (repeat' split) <;> (try simp (maxDischargeDepth := 12) +contextual [*])

@[simp] theorem State.startValues_canonical (s : State) (hs : s.canonical) : (State.startValues s).canonical := by
  unfold State.startValues
  (try simp (maxDischargeDepth := 12) +contextual [*])

@[simp] theorem State.startRings_canonical (s : State) (hs : s.canonical) : (State.startRings s).canonical := by
  unfold State.startRings
  (try simp (maxDischargeDepth := 12) +contextual [*])

@[simp] theorem State.startString_canonical (s : State) (n : Nat) (hs : s.canonical) : (State.startString s n).canonical := by
  unfold State.startString
  (try simp (maxDischargeDepth := 12) +contextual [*])

@[simp] theorem State.startOutputs_canonical (s : State) (hs : s.canonical) : (State.startOutputs s).canonical := by
  unfold State.startOutputs
  (try simp (maxDischargeDepth := 12) +contextual [*])

@[simp] theorem State.startChecks_canonical (s : State) (c : StartupChecks) (hs : s.canonical) :
    (State.startChecks s c).canonical := by
  unfold State.startChecks
  (try simp (maxDischargeDepth := 12) +contextual [*])

@[simp] theorem State.raiseKept_canonical (s : State) (hs : s.canonical) : (State.raiseKept s).canonical := by
  unfold State.raiseKept
  (try simp (maxDischargeDepth := 12) +contextual [*])

@[simp] theorem State.startEnd_canonical (s : State) (c : StartupChecks) (hs : s.canonical) : (State.startEnd s c).canonical := by
  unfold State.startEnd
  (try simp (maxDischargeDepth := 12) +contextual [*])

@[simp] theorem State.startUp_canonical (s : State) (c : StartupChecks) (hs : s.canonical) :
    (s.startUp c).canonical := by
  unfold State.startUp
  extract_lets s1 s2 s3 s4
  have h1 : s1.canonical := by simp (maxDischargeDepth := 12) [s1, hs]
  clear_value s1
  have h2 : s2.canonical := by
    simp only [s2]
    repeat' split
    all_goals simp (maxDischargeDepth := 12) [h1]
  clear_value s2
  have h3 : s3.canonical := forEach_canonical _ _ _ h2 fun s k h => by simp [h]
  clear_value s3
  have h4 : s4.canonical := by simp (maxDischargeDepth := 12) [s4, h3]
  clear_value s4
  simp (maxDischargeDepth := 12) [h4]

theorem execStartupComplete_canonical (c : StartupChecks) (s : State) (hs : s.canonical) :
    nextSat (execStartupComplete c s) fun t => t.canonical := by
  unfold execStartupComplete
  (try simp (maxDischargeDepth := 12) +contextual [*])

@[simp] theorem State.logClear_canonical (s : State) (auth : Bool) (node : Nat) (link : Nat) (v : Nat) (hs : s.canonical) :
    ((State.logClear s auth node link v)).1.canonical := by
  unfold State.logClear
  (try simp (maxDischargeDepth := 12) +contextual [*])

theorem execLogClear_canonical (req : Req) (code : BitVec 32) (s : State) (hs : s.canonical) :
    nextSat (execLogClear req code s) fun t => t.canonical := by
  unfold execLogClear
  (try simp (maxDischargeDepth := 12) +contextual [*])

@[simp] theorem State.keyRefused_canonical (s : State) (link : Nat) (st : Nat) (hs : s.canonical) :
    ((State.keyRefused s link st)).1.canonical := by
  unfold State.keyRefused
  (try simp (maxDischargeDepth := 12) +contextual [*])

@[simp] theorem State.siteKeyWrite_canonical (s : State) (auth : Bool) (link : Nat) (b : List Byte) (hs : s.canonical) :
    ((State.siteKeyWrite s auth link b)).1.canonical := by
  unfold State.siteKeyWrite
  (try simp (maxDischargeDepth := 12) +contextual [*])

theorem execSiteKeyWrite_canonical (req : Req) (blob : List Byte) (s : State) (hs : s.canonical) :
    nextSat (execSiteKeyWrite req blob s) fun t => t.canonical := by
  unfold execSiteKeyWrite
  (try simp (maxDischargeDepth := 12) +contextual [*])

@[simp] theorem State.moduleKeyWrite_canonical (s : State) (auth : Bool) (link : Nat) (r : Nat) (b : List Byte) (hs : s.canonical) :
    ((State.moduleKeyWrite s auth link r b)).1.canonical := by
  unfold State.moduleKeyWrite
  (try simp (maxDischargeDepth := 12) +contextual [*])

theorem execModuleKeyWrite_canonical (req : Req) (ring : Fin 4) (blob : List Byte) (s : State) (hs : s.canonical) :
    nextSat (execModuleKeyWrite req ring blob s) fun t => t.canonical := by
  unfold execModuleKeyWrite
  (try simp (maxDischargeDepth := 12) +contextual [*])

@[simp] theorem State.enterLife_canonical (s : State) (st : Nat) (hs : s.canonical) : (State.enterLife s st).canonical := by
  unfold State.enterLife
  (try simp (maxDischargeDepth := 12) +contextual [*])

@[simp] theorem State.commission_canonical (s : State) (hs : s.canonical) : (State.commission s).canonical := by
  unfold State.commission
  (try simp (maxDischargeDepth := 12) +contextual [*])

@[simp] theorem State.retire_canonical (s : State) (hs : s.canonical) : (State.retire s).canonical := by
  unfold State.retire
  (try simp (maxDischargeDepth := 12) +contextual [*])

@[simp] theorem State.lifeCommand_canonical (s : State) (target : Nat) (up : Nat) (hs : s.canonical) :
    ((State.lifeCommand s target up)).1.canonical := by
  unfold State.lifeCommand
  (try simp (maxDischargeDepth := 12) +contextual [*])

theorem execLifecycleCommission_canonical (req : Req) (value : BitVec 32) (s : State) (hs : s.canonical) :
    nextSat (execLifecycleCommission req value s) fun t => t.canonical := by
  unfold execLifecycleCommission
  (try simp (maxDischargeDepth := 12) +contextual [*])

theorem execLifecycleInService_canonical (req : Req) (value : BitVec 32) (s : State) (hs : s.canonical) :
    nextSat (execLifecycleInService req value s) fun t => t.canonical := by
  unfold execLifecycleInService
  (try simp (maxDischargeDepth := 12) +contextual [*])

theorem execLifecycleMaintenance_canonical (req : Req) (value : BitVec 32) (s : State) (hs : s.canonical) :
    nextSat (execLifecycleMaintenance req value s) fun t => t.canonical := by
  unfold execLifecycleMaintenance
  (try simp (maxDischargeDepth := 12) +contextual [*])

theorem execLifecycleRetire_canonical (req : Req) (value : BitVec 32) (s : State) (hs : s.canonical) :
    nextSat (execLifecycleRetire req value s) fun t => t.canonical := by
  unfold execLifecycleRetire
  (try simp (maxDischargeDepth := 12) +contextual [*])

@[simp] theorem State.tamperAck_canonical (s : State) (mask : Nat) (hs : s.canonical) :
    ((State.tamperAck s mask)).1.canonical := by
  unfold State.tamperAck
  (try simp (maxDischargeDepth := 12) +contextual [*])

theorem execTamperAcknowledge_canonical (req : Req) (mask : BitVec 32) (s : State) (hs : s.canonical) :
    nextSat (execTamperAcknowledge req mask s) fun t => t.canonical := by
  unfold execTamperAcknowledge
  (try simp (maxDischargeDepth := 12) +contextual [*])

@[simp] theorem State.fwBegin_canonical (s : State) (hs : s.canonical) : ((State.fwBegin s)).1.canonical := by
  unfold State.fwBegin
  (try simp (maxDischargeDepth := 12) +contextual [*])

theorem execFirmwareBegin_canonical (req : Req) (s : State) (hs : s.canonical) :
    nextSat (execFirmwareBegin req s) fun t => t.canonical := by
  unfold execFirmwareBegin
  (try simp (maxDischargeDepth := 12) +contextual [*])

theorem execFirmwareEraseDone_canonical (s : State) (hs : s.canonical) :
    nextSat (execFirmwareEraseDone s) fun t => t.canonical := by
  unfold execFirmwareEraseDone
  (try simp (maxDischargeDepth := 12) +contextual [*])

@[simp] theorem State.fwChunk_canonical (s : State) (c : Nat) (bs : List Byte) (hs : s.canonical) :
    ((State.fwChunk s c bs)).1.canonical := by
  unfold State.fwChunk
  (try simp (maxDischargeDepth := 12) +contextual [*])

theorem execFirmwareChunkWrite_canonical (req : Req) (chunk : Fin 64) (bytes : List Byte) (s : State) (hs : s.canonical) :
    nextSat (execFirmwareChunkWrite req chunk bytes s) fun t => t.canonical := by
  unfold execFirmwareChunkWrite
  (try simp (maxDischargeDepth := 12) +contextual [*])

@[simp] theorem State.fwVerify_canonical (s : State) (hs : s.canonical) : ((State.fwVerify s)).1.canonical := by
  unfold State.fwVerify
  (try simp (maxDischargeDepth := 12) +contextual [*])

theorem execFirmwareVerify_canonical (req : Req) (s : State) (hs : s.canonical) :
    nextSat (execFirmwareVerify req s) fun t => t.canonical := by
  unfold execFirmwareVerify
  (try simp (maxDischargeDepth := 12) +contextual [*])

@[simp] theorem State.fwActivate_canonical (s : State) (hs : s.canonical) : ((State.fwActivate s)).1.canonical := by
  unfold State.fwActivate
  (try simp (maxDischargeDepth := 12) +contextual [*])

@[simp] theorem State.activateLater_canonical (s : State) (req : Req) (msg : List Byte) (hs : s.canonical) :
    (State.activateLater s req msg).canonical := by
  unfold State.activateLater
  (try simp (maxDischargeDepth := 12) +contextual [*])

theorem execFirmwareActivate_canonical (req : Req) (s : State) (hs : s.canonical) :
    nextSat (execFirmwareActivate req s) fun t => t.canonical := by
  unfold execFirmwareActivate
  (try simp (maxDischargeDepth := 12) +contextual [*])
  all_goals (repeat' split) <;> (try simp (maxDischargeDepth := 12) +contextual [*])

@[simp] theorem State.fwAbort_canonical (s : State) (hs : s.canonical) : ((State.fwAbort s)).1.canonical := by
  unfold State.fwAbort
  (try simp (maxDischargeDepth := 12) +contextual [*])

theorem execFirmwareAbort_canonical (req : Req) (s : State) (hs : s.canonical) :
    nextSat (execFirmwareAbort req s) fun t => t.canonical := by
  unfold execFirmwareAbort
  (try simp (maxDischargeDepth := 12) +contextual [*])

@[simp] theorem State.trialConfirm_canonical (s : State) (k : Nat) (hs : s.canonical) : (State.trialConfirm s k).canonical := by
  unfold State.trialConfirm
  (try simp (maxDischargeDepth := 12) +contextual [*])

theorem execFirmwareTrialConfirm_canonical (s : State) (hs : s.canonical) :
    nextSat (execFirmwareTrialConfirm s) fun t => t.canonical := by
  unfold execFirmwareTrialConfirm
  all_goals (repeat' split) <;> (try simp (maxDischargeDepth := 12) +contextual [*])

@[simp] theorem State.deriveTemps_canonical (s : State) (hs : s.canonical) : (State.deriveTemps s).canonical := by
  unfold State.deriveTemps
  (try simp (maxDischargeDepth := 12) +contextual [*])

@[simp] theorem State.judgeScope_canonical (s : State) (k : Nat) (hs : s.canonical) : (State.judgeScope s k).canonical := by
  unfold State.judgeScope
  (try simp (maxDischargeDepth := 12) +contextual [*])

@[simp] theorem State.judgeDeviation_canonical (s : State) (k : Nat) (hs : s.canonical) :
    (State.judgeDeviation s k).canonical := by
  unfold State.judgeDeviation
  (try simp (maxDischargeDepth := 12) +contextual [*])

@[simp] theorem State.sensorBreak_canonical (s : State) (k : Nat) (hs : s.canonical) : (State.sensorBreak s k).canonical := by
  unfold State.sensorBreak
  (try simp (maxDischargeDepth := 12) +contextual [*])

@[simp] theorem State.sensorRead_canonical (s : State) (k : Nat) (v : Int) (hs : s.canonical) :
    (State.sensorRead s k v).canonical := by
  unfold State.sensorRead
  (try simp (maxDischargeDepth := 12) +contextual [*])

@[simp] theorem State.sensorsRead_canonical (s : State) (v : List Int) (hs : s.canonical) : (s.sensorsRead v).canonical := by
  unfold State.sensorsRead
  extract_lets live s1 s2 s3
  have h1 : s1.canonical := forEach_canonical _ _ _ hs fun s k h => by split <;> simp [h]
  clear_value s1
  have h2 : s2.canonical := forEach_canonical _ _ _ h1 fun s k h => by simp [h]
  clear_value s2
  have h3 : s3.canonical := by simp [s3, h2]
  clear_value s3
  exact forEach_canonical _ _ _ h3 fun s k h => by simp [h]

theorem execDieSensorConversion_canonical (readings : List Int) (s : State) (hs : s.canonical) :
    nextSat (execDieSensorConversion readings s) fun t => t.canonical := by
  unfold execDieSensorConversion
  (try simp (maxDischargeDepth := 12) +contextual [*])

theorem execDieSensorBroken_canonical (sensor : Fin 12) (late : Bool) (s : State) (hs : s.canonical) :
    nextSat (execDieSensorBroken sensor late s) fun t => t.canonical := by
  unfold execDieSensorBroken
  (try simp (maxDischargeDepth := 12) +contextual [*])

theorem execDieTempFrameTimeout_canonical (s : State) (hs : s.canonical) :
    nextSat (execDieTempFrameTimeout s) fun t => t.canonical := by
  unfold execDieTempFrameTimeout
  (try simp (maxDischargeDepth := 12) +contextual [*])

@[simp] theorem State.setStage_canonical (s : State) (k : Nat) (g : Nat) (hs : s.canonical) :
    (State.setStage s k g).canonical := by
  unfold State.setStage
  (try simp (maxDischargeDepth := 12) +contextual [*])

@[simp] theorem State.stageEnter_canonical (s : State) (k : Nat) (g : Nat) (hs : s.canonical) :
    (State.stageEnter s k g).canonical := by
  unfold State.stageEnter
  (try simp (maxDischargeDepth := 12) +contextual [*])

theorem execThrottleStageEnter_canonical (scope : Fin 4) (stage : Fin 5) (s : State) (hs : s.canonical) :
    nextSat (execThrottleStageEnter scope stage s) fun t => t.canonical := by
  unfold execThrottleStageEnter
  (try simp (maxDischargeDepth := 12) +contextual [*])

@[simp] theorem State.stageLeave_canonical (s : State) (k : Nat) (g : Nat) (hs : s.canonical) :
    (State.stageLeave s k g).canonical := by
  unfold State.stageLeave
  (try simp (maxDischargeDepth := 12) +contextual [*])

theorem execThrottleStageLeave_canonical (scope : Fin 4) (stage : Fin 5) (s : State) (hs : s.canonical) :
    nextSat (execThrottleStageLeave scope stage s) fun t => t.canonical := by
  unfold execThrottleStageLeave
  (try simp (maxDischargeDepth := 12) +contextual [*])

@[simp] theorem State.thermalShed_canonical (s : State) (hs : s.canonical) : (State.thermalShed s).canonical := by
  unfold State.thermalShed
  (try simp (maxDischargeDepth := 12) +contextual [*])
  all_goals (repeat' split) <;> (try simp (maxDischargeDepth := 12) +contextual [*])

theorem execThermalShed_canonical (s : State) (hs : s.canonical) : nextSat (execThermalShed s) fun t => t.canonical := by
  unfold execThermalShed
  (try simp (maxDischargeDepth := 12) +contextual [*])

theorem execThermalRestore_canonical (s : State) (hs : s.canonical) : nextSat (execThermalRestore s) fun t => t.canonical := by
  unfold execThermalRestore
  (try simp (maxDischargeDepth := 12) +contextual [*])
  all_goals (repeat' split) <;> (try simp (maxDischargeDepth := 12) +contextual [*])

theorem execScrubPass_canonical (corrected : Nat) (s : State) (hs : s.canonical) :
    nextSat (execScrubPass corrected s) fun t => t.canonical := by
  unfold execScrubPass
  (try simp (maxDischargeDepth := 12) +contextual [*])

@[simp] theorem State.calibrated_canonical (s : State) (k : Nat) (ppm : Int) (hs : s.canonical) :
    (State.calibrated s k ppm).canonical := by
  unfold State.calibrated
  (try simp (maxDischargeDepth := 12) +contextual [*])

theorem execConverterCalibration_canonical (conv : Fin 8) (ppm : Int) (s : State) (hs : s.canonical) :
    nextSat (execConverterCalibration conv ppm s) fun t => t.canonical := by
  unfold execConverterCalibration
  (try simp (maxDischargeDepth := 12) +contextual [*])

@[simp] theorem State.damageCopy_canonical (s : State) (k : Nat) (hs : s.canonical) : (State.damageCopy s k).canonical := by
  unfold State.damageCopy
  (try simp (maxDischargeDepth := 12) +contextual [*])

@[simp] theorem State.badCopy_canonical (s : State) (repair : Bool) (k : Nat) (hs : s.canonical) :
    (State.badCopy s repair k).canonical := by
  unfold State.badCopy
  (try simp (maxDischargeDepth := 12) +contextual [*])

@[simp] theorem State.slotCheck_canonical (s : State) (bs : List (Nat × Byte)) (hs : s.canonical) :
    (State.slotCheck s bs).canonical := by
  unfold State.slotCheck
  (try simp (maxDischargeDepth := 12) +contextual [*])
  all_goals (repeat' split) <;> (try simp (maxDischargeDepth := 12) +contextual [*])

@[simp] theorem State.configDamaged_canonical (s : State) (hs : s.canonical) : (State.configDamaged s).canonical := by
  unfold State.configDamaged
  (try simp (maxDischargeDepth := 12) +contextual [*])

@[simp] theorem State.integrity_canonical (s : State) (c : Integrity) (repair : Bool) (hs : s.canonical) :
    (State.integrity s c repair).canonical := by
  unfold State.integrity
  (try simp (maxDischargeDepth := 12) +contextual [*])

theorem execIntegrityCheck_canonical (c : Integrity) (s : State) (hs : s.canonical) :
    nextSat (execIntegrityCheck c s) fun t => t.canonical := by
  unfold execIntegrityCheck
  (try simp (maxDischargeDepth := 12) +contextual [*])

@[simp] theorem State.selfTestTrains_canonical (s : State) (t : Nat) (hs : s.canonical) :
    (State.selfTestTrains s t).canonical := by
  unfold State.selfTestTrains
  (try simp (maxDischargeDepth := 12) +contextual [*])

@[simp] theorem State.selfTest_canonical (s : State) (v : Nat) (hs : s.canonical) : ((State.selfTest s v)).1.canonical := by
  unfold State.selfTest
  (try simp (maxDischargeDepth := 12) +contextual [*])
  all_goals (repeat' split) <;> (try simp (maxDischargeDepth := 12) +contextual [*])

theorem execDeviceSelfTestRequest_canonical (req : Req) (value : BitVec 32) (s : State) (hs : s.canonical) :
    nextSat (execDeviceSelfTestRequest req value s) fun t => t.canonical := by
  unfold execDeviceSelfTestRequest
  (try simp (maxDischargeDepth := 12) +contextual [*])

@[simp] theorem State.firmwareTests_canonical (s : State) (t : Nat) (x : TestFound) (hs : s.canonical) :
    (State.firmwareTests s t x).canonical := by
  unfold State.firmwareTests
  (try simp (maxDischargeDepth := 12) +contextual [*])

@[simp] theorem State.deviceTested_canonical (s : State) (q : Nat) (t : Nat) (x : TestFound) (hs : s.canonical) :
    (State.deviceTested s q t x).canonical := by
  unfold State.deviceTested
  (try simp (maxDischargeDepth := 12) +contextual [*])
  all_goals (repeat' split) <;> (try simp (maxDischargeDepth := 12) +contextual [*])

theorem execDeviceSelfTestDone_canonical (found : TestFound) (s : State) (hs : s.canonical) :
    nextSat (execDeviceSelfTestDone found s) fun t => t.canonical := by
  unfold execDeviceSelfTestDone
  all_goals (repeat' split) <;> (try simp (maxDischargeDepth := 12) +contextual [*])

@[simp] theorem State.countIn_canonical (s : State) (f : QlpFrame) (hs : s.canonical) : (State.countIn s f).canonical := by
  unfold State.countIn
  (try simp (maxDischargeDepth := 12) +contextual [*])

@[simp] theorem State.strange_canonical (s : State) (f : QlpFrame) (hs : s.canonical) : (State.strange s f).canonical := by
  unfold State.strange
  (try simp (maxDischargeDepth := 12) +contextual [*])

@[simp] theorem State.violation_canonical (s : State) (link : Nat) (cat : Nat) (hs : s.canonical) :
    (State.violation s link cat).canonical := by
  unfold State.violation
  (try simp (maxDischargeDepth := 12) +contextual [*])

@[simp] theorem State.accepts_canonical (s : State) (f : QlpFrame) (hs : s.canonical) : ((State.accepts s f)).1.canonical := by
  unfold State.accepts
  (try simp (maxDischargeDepth := 12) +contextual [*])

@[simp] theorem State.receive_canonical (s : State) (f : QlpFrame) (cls : Nat) (op : State → State) (hs : s.canonical)
    (ho : ∀ s : State, s.canonical → (op s).canonical) : nextSat (s.receive f cls op) fun t => t.canonical := by
  unfold State.receive
  extract_lets l r
  have h1 : r.1.canonical := by simp (maxDischargeDepth := 12) [r, *]
  clear_value r
  split
  · exact next_canonical _ hs
  split
  · exact next_canonical _ (by simp [hs])
  split
  · exact next_canonical _ (by simp (maxDischargeDepth := 12) [hs])
  · refine next_canonical _ ?_
    split
    · exact ho _ h1
    · exact h1

@[simp] theorem State.keepResponse_canonical (s : State) (f : QlpFrame) (r : Reply) (sent : List Byte) (hs : s.canonical) :
    (State.keepResponse s f r sent).canonical := by
  unfold State.keepResponse
  (try simp (maxDischargeDepth := 12) +contextual [*])

@[simp] theorem State.sendResponse_canonical (s : State) (f : QlpFrame) (payload : List Byte) (hs : s.canonical) :
    (State.sendResponse s f payload).canonical := by
  unfold State.sendResponse
  (try simp (maxDischargeDepth := 12) +contextual [*])

@[simp] theorem State.answer_canonical (s : State) (f : QlpFrame) (status : Nat) (sub : Nat) (stamps : (List (Nat × Nat))) (data : (List Byte)) (hs : s.canonical) :
    (State.answer s f status sub stamps data).canonical := by
  unfold State.answer
  (try simp (maxDischargeDepth := 12) +contextual [*])

@[simp] theorem State.setTransfer_canonical (s : State) (t : Transfer) (hs : s.canonical) :
    (State.setTransfer s t).canonical := by
  unfold State.setTransfer
  (try simp (maxDischargeDepth := 12) +contextual [*])

@[simp] theorem State.endTransfer_canonical (s : State) (t : Transfer) (hs : s.canonical) :
    (State.endTransfer s t).canonical := by
  unfold State.endTransfer
  (try simp (maxDischargeDepth := 12) +contextual [*])

@[simp] theorem State.burst_canonical (s : State) (t : Transfer) (n : Nat) (hs : s.canonical) :
    (State.burst s t n).canonical := by
  unfold State.burst
  (try simp (maxDischargeDepth := 12) +contextual [*])

@[simp] theorem State.answerData_canonical (s : State) (f : QlpFrame) (status : Nat) (stamps : List (Nat × Nat)) (data : List Byte) (hs : s.canonical) :
    (State.answerData s f status stamps data).canonical := by
  unfold State.answerData
  (try simp (maxDischargeDepth := 12) +contextual [*])

@[simp] theorem State.countRate_canonical (s : State) (f : QlpFrame) (hs : s.canonical) :
    ((State.countRate s f)).1.canonical := by
  unfold State.countRate
  (try simp (maxDischargeDepth := 12) +contextual [*])

@[simp] theorem State.ask_canonical (s : State) (f : QlpFrame) (op : Nat) (run : State → State) (hs : s.canonical)
    (ho : ∀ s : State, s.canonical → (run s).canonical) : nextSat (s.ask f op run) fun t => t.canonical := by
  unfold State.ask
  split
  · exact next_canonical _ hs
  refine State.receive_canonical _ _ _ _ hs fun s hs => ?_
  have h1 : (s.countRate f).1.canonical := by simp [*]
  extract_lets r s1
  change s1.canonical at h1
  clear_value s1
  iterate 3
    split
    · simp (maxDischargeDepth := 12) [h1]
  split
  · simp [h1]
  repeat' split
  · simp [h1]
  · simp [h1]
  · exact ho _ h1

@[simp] theorem State.readRun_canonical (s : State) (f : QlpFrame) (hs : s.canonical) : (State.readRun s f).canonical := by
  unfold State.readRun
  (try simp (maxDischargeDepth := 12) +contextual [*])
  all_goals (repeat' split) <;> (try simp (maxDischargeDepth := 12) +contextual [*])

theorem execQlpRead_canonical (f : QlpFrame) (s : State) (hs : s.canonical) : nextSat (execQlpRead f s) fun t => t.canonical := by
  unfold execQlpRead
  (try simp (maxDischargeDepth := 12) +contextual [*])

@[simp] theorem State.tagCheck_canonical (s : State) (f : QlpFrame) (data : List Byte) (short : Nat) (ok : Session → Bool) (hs : s.canonical) :
    ((State.tagCheck s f data short ok)).1.canonical := by
  unfold State.tagCheck
  (try simp (maxDischargeDepth := 12) +contextual [*])
  all_goals (repeat' split) <;> (try simp (maxDischargeDepth := 12) +contextual [*])

@[simp] theorem State.pwmWrite_canonical (s : State) (i : Nat) (n : Nat) (v : Nat) (hs : s.canonical) :
    ((State.pwmWrite s i n v)).1.canonical := by
  unfold State.pwmWrite
  (try simp (maxDischargeDepth := 12) +contextual [*])
  all_goals (repeat' split) <;> (try simp (maxDischargeDepth := 12) +contextual [*])

@[simp] theorem State.command_canonical (s : State) (req : Req) (i k : Nat) (bs : List Byte) (hs : s.canonical) :
    (s.command req i k bs).1.canonical := by
  unfold State.command
  extract_lets v
  repeat' with_reducible refine fst_ite _ _ _ ?_ ?_
  all_goals simp only [hs, refuse_canonical,
    State.closeCommand_canonical, State.openCommand_canonical, State.tripReset_canonical,
    State.weldClear_canonical, State.openTestRequest_canonical, State.lsCommand_canonical,
    State.pwmWrite_canonical, State.lsFaultClear_canonical, State.mdCommand_canonical,
    State.mdFaultClear_canonical, State.brakeClear_canonical, State.captureArm_canonical,
    State.captureForce_canonical, State.configSave_canonical, State.configDiscard_canonical,
    State.configDefaults_canonical, State.imageImport_canonical, State.manifestWrite_canonical,
    State.adoptUids_canonical, State.openWireRequest_canonical, State.fabricTest_canonical,
    State.tableWrite_canonical, State.stringShot_canonical, State.routeWrite_canonical,
    State.acknowledge_canonical, State.handOver_canonical, State.take_canonical, State.logClear_canonical,
    State.lifeCommand_canonical, State.siteKeyWrite_canonical, State.moduleKeyWrite_canonical,
    State.tamperAck_canonical, State.resetCommand_canonical, State.moor_canonical, State.fwBegin_canonical,
    State.fwVerify_canonical, State.fwActivate_canonical, State.fwAbort_canonical, State.fwChunk_canonical,
    State.selfTest_canonical]

@[simp] theorem State.commands_canonical (req : Req) (i : Nat) (l : List (Nat × List Byte)) (s : State) (hs : s.canonical) :
    (State.commands req i l s).1.canonical := by
  induction l generalizing s with
  | nil => exact hs
  | cons e l ih =>
    obtain ⟨k, bs⟩ := e
    unfold State.commands
    simp only
    split
    · exact hs
    · split
      · simp (maxDischargeDepth := 12) [*]
      · exact ih _ (by simp (maxDischargeDepth := 12) [*])

@[simp] theorem State.storeElems_canonical (s : State) (o : Obj) (auth : Bool) (lenBad : Bool) (l : List (Nat × List Int)) (hs : s.canonical) :
    ((State.storeElems s o auth lenBad l)).1.canonical := by
  unfold State.storeElems
  (try simp (maxDischargeDepth := 12) +contextual [*])
  all_goals (repeat' split) <;> (try simp (maxDischargeDepth := 12) +contextual [*])

@[simp] theorem allOrNone_canonical (n : Nat) (s : State) (r : State × Nat × Nat) (hs : s.canonical) (hr : r.1.canonical) :
    (allOrNone n s r).1.canonical := by
  unfold allOrNone
  split
  · exact hs
  · exact hr

@[simp] theorem State.writeData_canonical (s : State) (req : Req) (i : Nat) (sub : Nat) (count : Nat) (data : List Byte) (hs : s.canonical) :
    ((State.writeData s req i sub count data)).1.canonical := by
  unfold State.writeData
  (try simp (maxDischargeDepth := 12) +contextual [*])
  all_goals (repeat' split) <;> (try simp (maxDischargeDepth := 12) +contextual [*])

@[simp] theorem State.afterWrite_canonical (s : State) (i : Nat) (v : Nat) (hs : s.canonical) :
    (State.afterWrite s i v).canonical := by
  unfold State.afterWrite
  (try simp (maxDischargeDepth := 12) +contextual [*])

@[simp] theorem State.writeRun_canonical (s : State) (f : QlpFrame) (data : List Byte) (ok : Session → Bool) (hs : s.canonical) :
    (State.writeRun s f data ok).canonical := by
  unfold State.writeRun
  (try simp (maxDischargeDepth := 12) +contextual [*])

@[simp] theorem State.writeStart_canonical (s : State) (f : QlpFrame) (hs : s.canonical) : (State.writeStart s f).canonical := by
  unfold State.writeStart
  (try simp (maxDischargeDepth := 12) +contextual [*])

theorem execQlpWrite_canonical (f : QlpFrame) (s : State) (hs : s.canonical) :
    nextSat (execQlpWrite f s) fun t => t.canonical := by
  unfold execQlpWrite
  (try simp (maxDischargeDepth := 12) +contextual [*])

@[simp] theorem State.openRun_canonical (s : State) (f : QlpFrame) (hs : s.canonical) : (State.openRun s f).canonical := by
  unfold State.openRun
  (try simp (maxDischargeDepth := 12) +contextual [*])

theorem execSessionOpen_canonical (f : QlpFrame) (s : State) (hs : s.canonical) :
    nextSat (execSessionOpen f s) fun t => t.canonical := by
  unfold execSessionOpen
  (try simp (maxDischargeDepth := 12) +contextual [*])

@[simp] theorem State.authRun_canonical (s : State) (f : QlpFrame) (hs : s.canonical) : (State.authRun s f).canonical := by
  unfold State.authRun
  (try simp (maxDischargeDepth := 12) +contextual [*])
  all_goals (repeat' split) <;> (try simp (maxDischargeDepth := 12) +contextual [*])

theorem execSessionAuth_canonical (f : QlpFrame) (s : State) (hs : s.canonical) :
    nextSat (execSessionAuth f s) fun t => t.canonical := by
  unfold execSessionAuth
  (try simp (maxDischargeDepth := 12) +contextual [*])

@[simp] theorem State.taggedRun_canonical (s : State) (f : QlpFrame) (n : Nat) (op : State → State) (hs : s.canonical)
    (ho : ∀ s : State, s.canonical → (op s).canonical) : (s.taggedRun f n op).canonical := by
  unfold State.taggedRun
  split
  · simp (maxDischargeDepth := 12) [*]
  · simp only
    repeat' split
    · simp (maxDischargeDepth := 12) [*]
    · simp (maxDischargeDepth := 12) [*]
    · exact ho _ (by simp (maxDischargeDepth := 12) [*])

theorem execSessionClose_canonical (f : QlpFrame) (s : State) (hs : s.canonical) :
    nextSat (execSessionClose f s) fun t => t.canonical := by
  unfold execSessionClose
  (try simp (maxDischargeDepth := 12) +contextual [*])

@[simp] theorem State.timeSetRun_canonical (s : State) (f : QlpFrame) (ageUs : Nat) (hs : s.canonical) :
    (State.timeSetRun s f ageUs).canonical := by
  unfold State.timeSetRun
  (try simp (maxDischargeDepth := 12) +contextual [*])

theorem execTimeSet_canonical (f : QlpFrame) (ageUs : Nat) (s : State) (hs : s.canonical) :
    nextSat (execTimeSet f ageUs s) fun t => t.canonical := by
  unfold execTimeSet
  (try simp (maxDischargeDepth := 12) +contextual [*])

@[simp] theorem State.abortTo_canonical (s : State) (f : QlpFrame) (status : Nat) (hs : s.canonical) :
    (State.abortTo s f status).canonical := by
  unfold State.abortTo
  (try simp (maxDischargeDepth := 12) +contextual [*])

@[simp] theorem State.blockFrame_canonical (s : State) (f : QlpFrame) (kind : Nat) (op : State → State) (hs : s.canonical)
    (ho : ∀ s : State, s.canonical → (op s).canonical) : nextSat (s.blockFrame f kind op) fun t => t.canonical := by
  unfold State.blockFrame
  split
  · exact next_canonical _ hs
  refine State.receive_canonical _ _ _ _ hs fun s hs => ?_
  split
  · simp (maxDischargeDepth := 12) [*]
  · exact ho _ hs

@[simp] theorem State.strayed_canonical (s : State) (f : QlpFrame) (hs : s.canonical) : (State.strayed s f).canonical := by
  unfold State.strayed
  (try simp (maxDischargeDepth := 12) +contextual [*])

@[simp] theorem State.ackSegments_canonical (s : State) (t : Transfer) (hs : s.canonical) :
    (State.ackSegments s t).canonical := by
  unfold State.ackSegments
  (try simp (maxDischargeDepth := 12) +contextual [*])

@[simp] theorem State.segment_canonical (s : State) (f : QlpFrame) (hs : s.canonical) : (State.segment s f).canonical := by
  unfold State.segment
  (try simp (maxDischargeDepth := 12) +contextual [*])
  all_goals (repeat' split) <;> (try simp (maxDischargeDepth := 12) +contextual [*])

theorem execBlockSegment_canonical (f : QlpFrame) (s : State) (hs : s.canonical) :
    nextSat (execBlockSegment f s) fun t => t.canonical := by
  unfold execBlockSegment
  (try simp (maxDischargeDepth := 12) +contextual [*])

@[simp] theorem State.blockAck_canonical (s : State) (f : QlpFrame) (hs : s.canonical) : (State.blockAck s f).canonical := by
  unfold State.blockAck
  (try simp (maxDischargeDepth := 12) +contextual [*])
  all_goals (repeat' split) <;> (try simp (maxDischargeDepth := 12) +contextual [*])

theorem execBlockAck_canonical (f : QlpFrame) (s : State) (hs : s.canonical) :
    nextSat (execBlockAck f s) fun t => t.canonical := by
  unfold execBlockAck
  (try simp (maxDischargeDepth := 12) +contextual [*])

theorem execBlockAbort_canonical (f : QlpFrame) (s : State) (hs : s.canonical) :
    nextSat (execBlockAbort f s) fun t => t.canonical := by
  unfold execBlockAbort
  refine State.blockFrame_canonical _ _ _ _ hs fun s hs => ?_
  split <;> simp [hs]

@[simp] theorem State.transferLate_canonical (s : State) (t : Transfer) (hs : s.canonical) :
    (State.transferLate s t).canonical := by
  unfold State.transferLate
  (try simp (maxDischargeDepth := 12) +contextual [*])

theorem execSegmentTimeout_canonical (link : Fin 3) (src : Nat) (s : State) (hs : s.canonical) :
    nextSat (execSegmentTimeout link src s) fun t => t.canonical := by
  unfold execSegmentTimeout
  all_goals (repeat' split) <;> (try simp (maxDischargeDepth := 12) +contextual [*])

@[simp] theorem State.refill_canonical (s : State) (link : Nat) (hs : s.canonical) : (State.refill s link).canonical := by
  unfold State.refill
  (try simp (maxDischargeDepth := 12) +contextual [*])

@[simp] theorem State.txDone_canonical (s : State) (ch : Nat) (won : Bool) (sofDelay : Nat) (tdcNs : Nat) (hs : s.canonical) :
    (State.txDone s ch won sofDelay tdcNs).canonical := by
  unfold State.txDone
  (try simp (maxDischargeDepth := 12) +contextual [*])

theorem execCanTxDone_canonical (ch : Fin 2) (won : Bool) (sofDelay : Nat) (tdcNs : Nat) (s : State) (hs : s.canonical) :
    nextSat (execCanTxDone ch won sofDelay tdcNs s) fun t => t.canonical := by
  unfold execCanTxDone
  (try simp (maxDischargeDepth := 12) +contextual [*])

theorem execResponseQueueTimeout_canonical (link : Fin 3) (s : State) (hs : s.canonical) :
    nextSat (execResponseQueueTimeout link s) fun t => t.canonical := by
  unfold execResponseQueueTimeout
  (try simp (maxDischargeDepth := 12) +contextual [*])

theorem execCanBusOff_canonical (ch : Fin 2) (txErr : Nat) (rxErr : Nat) (busOff : Bool) (s : State) (hs : s.canonical) :
    nextSat (execCanBusOff ch txErr rxErr busOff s) fun t => t.canonical := by
  unfold execCanBusOff
  (try simp (maxDischargeDepth := 12) +contextual [*])

theorem execCanBusOffRecovery_canonical (ch : Fin 2) (s : State) (hs : s.canonical) :
    nextSat (execCanBusOffRecovery ch s) fun t => t.canonical := by
  unfold execCanBusOffRecovery
  (try simp (maxDischargeDepth := 12) +contextual [*])

theorem execCanTimingApply_canonical (ch : Fin 2) (s : State) (hs : s.canonical) :
    nextSat (execCanTimingApply ch s) fun t => t.canonical := by
  unfold execCanTimingApply
  (try simp (maxDischargeDepth := 12) +contextual [*])

@[simp] theorem State.lighthouse_canonical (s : State) (ch : Nat) (hs : s.canonical) : (State.lighthouse s ch).canonical := by
  unfold State.lighthouse
  (try simp (maxDischargeDepth := 12) +contextual [*])

theorem execLighthouseDue_canonical (ch : Fin 2) (s : State) (hs : s.canonical) :
    nextSat (execLighthouseDue ch s) fun t => t.canonical := by
  unfold execLighthouseDue
  (try simp (maxDischargeDepth := 12) +contextual [*])

@[simp] theorem State.sendFragments_canonical (link : Nat) (l : List Out) (s : State) (hs : s.canonical) :
    (State.sendFragments link l s).canonical := by
  induction l generalizing s with
  | nil => exact hs
  | cons o l ih =>
    unfold State.sendFragments
    simp only
    split
    · exact ih _ (by simp (maxDischargeDepth := 12) [*])
    · simp (maxDischargeDepth := 12) [*]

@[simp] theorem State.streamSend_canonical (s : State) (k : Nat) (hs : s.canonical) : (s.streamSend k).canonical := by
  unfold State.streamSend
  extract_lets link dest body sseq q s1 parts outs
  have h1 : s1.canonical := by simp [s1, *]
  clear_value s1
  split <;> simp (maxDischargeDepth := 12) [*]

theorem execStreamSnapshotDue_canonical (stream : Fin 8) (s : State) (hs : s.canonical) :
    nextSat (execStreamSnapshotDue stream s) fun t => t.canonical := by
  unfold execStreamSnapshotDue
  (try simp (maxDischargeDepth := 12) +contextual [*])

@[simp] theorem State.ethGone_canonical (s : State) (o : Out) (hs : s.canonical) : (State.ethGone s o).canonical := by
  unfold State.ethGone
  (try simp (maxDischargeDepth := 12) +contextual [*])

@[simp] theorem State.ethSend_canonical (s : State) (hs : s.canonical) : (State.ethSend s).canonical := by
  unfold State.ethSend
  (try simp (maxDischargeDepth := 12) +contextual [*])
  all_goals (repeat' split) <;> (try simp (maxDischargeDepth := 12) +contextual [*])

@[simp] theorem State.stackFrame_canonical (s : State) (cls : Nat) (addr : Nat) (payload : List Byte) (hs : s.canonical) :
    (State.stackFrame s cls addr payload).canonical := by
  unfold State.stackFrame
  (try simp (maxDischargeDepth := 12) +contextual [*])

theorem execEthLinkUp_canonical (fast : Bool) (full : Bool) (s : State) (hs : s.canonical) :
    nextSat (execEthLinkUp fast full s) fun t => t.canonical := by
  unfold execEthLinkUp
  (try simp (maxDischargeDepth := 12) +contextual [*])

theorem execArpRequest_canonical (targetIp : Nat) (sender : Nat) (s : State) (hs : s.canonical) :
    nextSat (execArpRequest targetIp sender s) fun t => t.canonical := by
  unfold execArpRequest
  (try simp (maxDischargeDepth := 12) +contextual [*])

theorem execIcmpEchoRequest_canonical (len : Nat) (fragment : Bool) (sender : Nat) (s : State) (hs : s.canonical) :
    nextSat (execIcmpEchoRequest len fragment sender s) fun t => t.canonical := by
  unfold execIcmpEchoRequest
  (try simp (maxDischargeDepth := 12) +contextual [*])

theorem execEthLinkDown_canonical (s : State) (hs : s.canonical) : nextSat (execEthLinkDown s) fun t => t.canonical := by
  unfold execEthLinkDown
  (try simp (maxDischargeDepth := 12) +contextual [*])

@[simp] theorem State.dupTransmit_canonical (s : State) (hs : s.canonical) : (State.dupTransmit s).canonical := by
  unfold State.dupTransmit
  (try simp (maxDischargeDepth := 12) +contextual [*])

@[simp] theorem State.stageTime_canonical (s : State) (hs : s.canonical) : (State.stageTime s).canonical := by
  unfold State.stageTime
  (try simp (maxDischargeDepth := 12) +contextual [*])

@[simp] theorem State.fabricRuns_canonical (s : State) (hs : s.canonical) : (State.fabricRuns s).canonical := by
  unfold State.fabricRuns
  (try simp (maxDischargeDepth := 12) +contextual [*])

@[simp] theorem State.tamperCommit_canonical (s : State) (hs : s.canonical) : (State.tamperCommit s).canonical := by
  unfold State.tamperCommit
  (try simp (maxDischargeDepth := 12) +contextual [*])

@[simp] theorem State.tick_canonical (s : State) (hs : s.canonical) : (State.tick s).canonical := by
  unfold State.tick
  (try simp (maxDischargeDepth := 12) +contextual [*])

end Sys2Proof.Machine
end

