-- ==== Sys2Proof/Laws/Held.lean ====
section
/-! SUPPORT. Sys2Proof/Laws/Held.lean: the operations and commands of `leavesOutputs` leave the power die's outputs as they are (`State.held`)
(the base, the shared operations, the log and the queues). -/

namespace Sys2Proof.Machine

def heldDrivers (s₀ : State) (x : SMap Driver) : Prop := x = s₀.drivers

def heldLs (s₀ : State) (x : SMap LoadSw) : Prop := x = s₀.ls

def heldMotors (s₀ : State) (x : SMap Motor) : Prop := x = s₀.motors

def heldVmot (s₀ : State) (x : Vmot) : Prop := x = s₀.vmot

def heldGov (s₀ : State) (x : Governor) : Prop := x = s₀.gov

def heldPairs (s₀ : State) (x : SMap Pair) : Prop := x = s₀.pairs

@[simp] theorem State.held.mk_iff {s₀ : State} (pending variant objs otp clk pwr wd linkP linkC refused drivers ls motors
    vmot gov pairs strs rings monitors cells temps chans capture ev fab shots otest qlp log flash dup th fw) :
  State.held ⟨pending, variant, objs, otp, clk, pwr, wd, linkP, linkC, refused, drivers, ls, motors, vmot, gov, pairs, strs, rings, monitors, cells, temps, chans, capture, ev, fab, shots, otest, qlp, log, flash, dup, th, fw⟩ s₀ ↔ (heldDrivers s₀ drivers ∧ heldLs s₀ ls ∧ heldMotors s₀ motors ∧ heldVmot s₀ vmot ∧ heldGov s₀ gov ∧ heldPairs s₀ pairs) := Iff.rfl

@[simp] theorem hd_drivers {s s₀ : State} (h : s.held s₀) : heldDrivers s₀ s.drivers := h.1

@[simp] theorem hd_ls {s s₀ : State} (h : s.held s₀) : heldLs s₀ s.ls := h.2.1

@[simp] theorem hd_motors {s s₀ : State} (h : s.held s₀) : heldMotors s₀ s.motors := h.2.2.1

@[simp] theorem hd_vmot {s s₀ : State} (h : s.held s₀) : heldVmot s₀ s.vmot := h.2.2.2.1

@[simp] theorem hd_gov {s s₀ : State} (h : s.held s₀) : heldGov s₀ s.gov := h.2.2.2.2.1

@[simp] theorem hd_pairs {s s₀ : State} (h : s.held s₀) : heldPairs s₀ s.pairs := h.2.2.2.2.2

theorem State.held_refl (s : State) : s.held s := ⟨rfl, rfl, rfl, rfl, rfl, rfl⟩

@[simp] theorem forEach_held {s₀ : State} {α : Type} (l : List α) (s : State) (f : State → α → State) (h : s.held s₀) (hf : ∀
    s a, s.held s₀ → (f s a).held s₀) :
    (forEach l s f).held s₀ := by
  unfold forEach
  induction l generalizing s with
  | nil => exact h
  | cons a l ih => exact ih _ (hf s a h)

@[simp] theorem held_ite {s₀ : State} (c : Prop) [Decidable c] (a b : State) (ha : c → a.held s₀) (hb : ¬c → b.held s₀) : (if c then a else b).held s₀ := by split <;> simp_all

@[simp] theorem held_ite1 {s₀ : State} {α : Type} (c : Prop) [Decidable c] (a b : State × α) (ha : c → a.1.held s₀) (hb : ¬c → b.1.held s₀) : (if c then a else b).1.held s₀ := by split <;> simp_all

theorem next_held {s₀ : State} (s : State) (hs : s.held s₀) : nextSat (.next s) fun t => t.held s₀ := by
  intro t h; cases h; exact hs

@[simp] theorem nextSat_held {s₀ : State} (s : State) : (nextSat (.next s) fun t => t.held s₀) ↔ s.held s₀ :=
  ⟨fun h => h _ rfl, next_held s⟩

@[simp] theorem refuse_held {s₀ : State} (s : State) (n : Nat) (h : s.held s₀) : (refuse s n).1.held s₀ := h

@[simp] theorem accept_held {s₀ : State} (s : State) (h : s.held s₀) : (accept s).1.held s₀ := h

theorem fst_ite_held {s₀ : State} {α : Type} (c : Prop) [Decidable c] (a b : State × α) (ha : a.1.held s₀) (hb : b.1.held s₀) :
    (if c then a else b).1.held s₀ := by
  split
  · exact ha
  · exact hb

theorem foldl_first_held {s₀ : State} {α β : Type} (f : State × β → α → State × β) (l : List α) (h : ∀ r a, r.1.held s₀ → (f
    r a).1.held s₀)
    (r : State × β) (hr : r.1.held s₀) : (l.foldl f r).1.held s₀ := by
  induction l generalizing r with
  | nil => exact hr
  | cons a l ih => exact ih _ (h _ _ hr)

@[simp] theorem done_held {s₀ : State} (s : State) (hs : s.held s₀) : nextSat (done s) fun t => t.held s₀ := by
  intro t h; cases h; exact hs

@[simp] theorem doneIf_held {s₀ : State} (c : Bool) (t s : State) (ht : c = true → t.held s₀) (hs : s.held s₀) :
    nextSat (doneIf c t s) fun t => t.held s₀ := by
  intro u h
  cases h
  split
  · exact ht ‹_›
  · exact hs

@[simp] theorem State.strUpd_held {s₀ : State} (s : State) (k : Nat) (f : Str → Str) (hs : s.held s₀) :
    (State.strUpd s k f).held s₀ := by
  unfold State.strUpd
  (try simp (maxDischargeDepth := 12) +contextual [*])

@[simp] theorem State.ringUpd_held {s₀ : State} (s : State) (k : Nat) (f : Ring → Ring) (hs : s.held s₀) :
    (State.ringUpd s k f).held s₀ := by
  unfold State.ringUpd
  (try simp (maxDischargeDepth := 12) +contextual [*])

@[simp] theorem State.monUpd_held {s₀ : State} (s : State) (k : Nat) (f : Monitor → Monitor) (hs : s.held s₀) :
    (State.monUpd s k f).held s₀ := by
  unfold State.monUpd
  (try simp (maxDischargeDepth := 12) +contextual [*])

@[simp] theorem State.cellUpd_held {s₀ : State} (s : State) (k : Nat) (f : CellAcq → CellAcq) (hs : s.held s₀) :
    (State.cellUpd s k f).held s₀ := by
  unfold State.cellUpd
  (try simp (maxDischargeDepth := 12) +contextual [*])

@[simp] theorem State.tempUpd_held {s₀ : State} (s : State) (k : Nat) (f : TempAcq → TempAcq) (hs : s.held s₀) :
    (State.tempUpd s k f).held s₀ := by
  unfold State.tempUpd
  (try simp (maxDischargeDepth := 12) +contextual [*])

@[simp] theorem State.chanUpd_held {s₀ : State} (s : State) (k : Nat) (f : Chan → Chan) (hs : s.held s₀) :
    (State.chanUpd s k f).held s₀ := by
  unfold State.chanUpd
  (try simp (maxDischargeDepth := 12) +contextual [*])

@[simp] theorem State.shotUpd_held {s₀ : State} (s : State) (k : Nat) (f : OneShot → OneShot) (hs : s.held s₀) :
    (State.shotUpd s k f).held s₀ := by
  unfold State.shotUpd
  (try simp (maxDischargeDepth := 12) +contextual [*])

@[simp] theorem State.euUpd_held {s₀ : State} (s : State) (k : Nat) (f : Eu → Eu) (hs : s.held s₀) :
    (State.euUpd s k f).held s₀ := by
  unfold State.euUpd
  (try simp (maxDischargeDepth := 12) +contextual [*])

@[simp] theorem State.epochUpd_held {s₀ : State} (s : State) (k : Nat) (f : Epoch → Epoch) (hs : s.held s₀) :
    (State.epochUpd s k f).held s₀ := by
  unfold State.epochUpd
  (try simp (maxDischargeDepth := 12) +contextual [*])

@[simp] theorem State.regionUpd_held {s₀ : State} (s : State) (k : Nat) (f : Region → Region) (hs : s.held s₀) :
    (State.regionUpd s k f).held s₀ := by
  unfold State.regionUpd
  (try simp (maxDischargeDepth := 12) +contextual [*])

@[simp] theorem State.resumes_held {s₀ : State} (s : State) (k : Nat) (hs : s.held s₀) : (State.resumes s k).held s₀ := by
  unfold State.resumes
  (try simp (maxDischargeDepth := 12) +contextual [*])

@[simp] theorem State.pubUpd_held {s₀ : State} (s : State) (k : Nat) (f : CellEst → CellEst) (hs : s.held s₀) :
    (State.pubUpd s k f).held s₀ := by
  unfold State.pubUpd
  (try simp (maxDischargeDepth := 12) +contextual [*])

@[simp] theorem State.estUpd_held {s₀ : State} (s : State) (k : Nat) (f : CellEst → CellEst) (hs : s.held s₀) :
    (State.estUpd s k f).held s₀ := by
  unfold State.estUpd
  (try simp (maxDischargeDepth := 12) +contextual [*])

@[simp] theorem State.restUpd_held {s₀ : State} (s : State) (k : Nat) (f : Rest → Rest) (hs : s.held s₀) :
    (State.restUpd s k f).held s₀ := by
  unfold State.restUpd
  (try simp (maxDischargeDepth := 12) +contextual [*])

@[simp] theorem State.canUpd_held {s₀ : State} (s : State) (k : Nat) (f : CanTx → CanTx) (hs : s.held s₀) :
    (State.canUpd s k f).held s₀ := by
  unfold State.canUpd
  (try simp (maxDischargeDepth := 12) +contextual [*])

@[simp] theorem State.slotUpd_held {s₀ : State} (s : State) (k : Nat) (f : FwSlot → FwSlot) (hs : s.held s₀) :
    (State.slotUpd s k f).held s₀ := by
  unfold State.slotUpd
  (try simp (maxDischargeDepth := 12) +contextual [*])

@[simp] theorem State.scopeUpd_held {s₀ : State} (s : State) (k : Nat) (f : Scope → Scope) (hs : s.held s₀) :
    (State.scopeUpd s k f).held s₀ := by
  unfold State.scopeUpd
  (try simp (maxDischargeDepth := 12) +contextual [*])

@[simp] theorem State.putL_held {s₀ : State} (s : State) (i : Nat) (sub : Nat) (v : List Int) (hs : s.held s₀) :
    (State.putL s i sub v).held s₀ := by
  unfold State.putL
  (try simp (maxDischargeDepth := 12) +contextual [*])

@[simp] theorem State.put_held {s₀ : State} (s : State) (i : Nat) (sub : Nat) (v : Int) (hs : s.held s₀) :
    (State.put s i sub v).held s₀ := by
  unfold State.put
  (try simp (maxDischargeDepth := 12) +contextual [*])

@[simp] theorem State.putM_held {s₀ : State} (s : State) (i : Nat) (sub : Nat) (k : Nat) (v : Int) (hs : s.held s₀) :
    (State.putM s i sub k v).held s₀ := by
  unfold State.putM
  (try simp (maxDischargeDepth := 12) +contextual [*])

@[simp] theorem State.bump_held {s₀ : State} (s : State) (i : Nat) (sub : Nat) (hs : s.held s₀) :
    (State.bump s i sub).held s₀ := by
  unfold State.bump
  (try simp (maxDischargeDepth := 12) +contextual [*])

@[simp] theorem State.undo_held {s₀ : State} (s : State) (i : Nat) (sub : Nat) (hs : s.held s₀) :
    (State.undo s i sub).held s₀ := by
  unfold State.undo
  (try simp (maxDischargeDepth := 12) +contextual [*])

@[simp] theorem State.ranWork_held {s₀ : State} (s : State) (k : Nat) (hs : s.held s₀) : (State.ranWork s k).held s₀ := by
  unfold State.ranWork
  (try simp (maxDischargeDepth := 12) +contextual [*])

@[simp] theorem State.raise_held {s₀ : State} (s : State) (src : Nat) (inst : Nat) (payload : (List Byte)) (hs : s.held s₀) :
    (State.raise s src inst payload).held s₀ := by
  unfold State.raise
  (try simp (maxDischargeDepth := 12) +contextual [*])

@[simp] theorem State.raiseLater_held {s₀ : State} (s : State) (src : Nat) (inst : Nat) (hs : s.held s₀) :
    (State.raiseLater s src inst).held s₀ := by
  unfold State.raiseLater
  (try simp (maxDischargeDepth := 12) +contextual [*])

@[simp] theorem State.keepReason_held {s₀ : State} (s : State) (src : Nat) (inst : Nat) (hs : s.held s₀) :
    (State.keepReason s src inst).held s₀ := by
  unfold State.keepReason
  (try simp (maxDischargeDepth := 12) +contextual [*])

@[simp] theorem State.latch_held {s₀ : State} (s : State) (l : Latch) (hs : s.held s₀) : (State.latch s l).held s₀ := by
  unfold State.latch
  (try simp (maxDischargeDepth := 12) +contextual [*])

@[simp] theorem State.unlatch_held {s₀ : State} (s : State) (p : Latch → Bool) (hs : s.held s₀) :
    (State.unlatch s p).held s₀ := by
  unfold State.unlatch
  (try simp (maxDischargeDepth := 12) +contextual [*])

@[simp] theorem State.sayP_held {s₀ : State} (s : State) (cls : Nat) (content : Nat) (hs : s.held s₀) :
    (State.sayP s cls content).held s₀ := by
  unfold State.sayP
  (try simp (maxDischargeDepth := 12) +contextual [*])

@[simp] theorem State.sayC_held {s₀ : State} (s : State) (cls : Nat) (content : Nat) (hs : s.held s₀) :
    (State.sayC s cls content).held s₀ := by
  unfold State.sayC
  (try simp (maxDischargeDepth := 12) +contextual [*])

@[simp] theorem State.refuseOut_held {s₀ : State} (s : State) (r : OutReq) (hs : s.held s₀) : (State.refuseOut s r).held s₀ := by
  unfold State.refuseOut
  (try simp (maxDischargeDepth := 12) +contextual [*])

@[simp] theorem State.replaceSectors_held {s₀ : State} (s : State) (area : Nat) (n : Nat) (hs : s.held s₀) :
    (State.replaceSectors s area n).held s₀ := by
  unfold State.replaceSectors
  (try simp (maxDischargeDepth := 12) +contextual [*])

@[simp] theorem State.erase_held {s₀ : State} (s : State) (unit : Nat) (n : Nat) (hs : s.held s₀) :
    (State.erase s unit n).held s₀ := by
  unfold State.erase
  (try simp (maxDischargeDepth := 12) +contextual [*])

@[simp] theorem State.eraseAll_held {s₀ : State} (s : State) (unit : Nat) (hs : s.held s₀) : (State.eraseAll s unit).held s₀ := by
  unfold State.eraseAll
  (try simp (maxDischargeDepth := 12) +contextual [*])

@[simp] theorem State.eraseAreas_held {s₀ : State} (s : State) (hs : s.held s₀) : (State.eraseAreas s).held s₀ := by
  unfold State.eraseAreas
  (try simp (maxDischargeDepth := 12) +contextual [*])

@[simp] theorem State.journalPut_held {s₀ : State} (s : State) (key : Nat) (payload : List Byte) (hs : s.held s₀) :
    (State.journalPut s key payload).held s₀ := by
  unfold State.journalPut
  (try simp (maxDischargeDepth := 12) +contextual [*])

@[simp] theorem State.journalMove_held {s₀ : State} (s : State) (key : Nat) (hs : s.held s₀) :
    (State.journalMove s key).held s₀ := by
  unfold State.journalMove
  (try simp (maxDischargeDepth := 12) +contextual [*])
  all_goals (repeat' split) <;> (try simp (maxDischargeDepth := 12) +contextual [*])

@[simp] theorem State.journalRoom_held {s₀ : State} (s : State) (n k : Nat) (hs : s.held s₀) : (s.journalRoom n k).held s₀ := by
  induction k generalizing s with
  | zero => exact hs
  | succ k ih =>
    unfold State.journalRoom
    split
    · exact hs
    · exact ih _ (by simp [hs])

@[simp] theorem State.journal_held {s₀ : State} (s : State) (kind : Nat) (inst : Nat) (payload : List Byte) (worn : Bool) (hs : s.held s₀) :
    (State.journal s kind inst payload worn).held s₀ := by
  unfold State.journal
  (try simp (maxDischargeDepth := 12) +contextual [*])

@[simp] theorem State.outputDone_held {s₀ : State} (s : State) (hs : s.held s₀) : (State.outputDone s).held s₀ := by
  unfold State.outputDone
  (try simp (maxDischargeDepth := 12) +contextual [*])

@[simp] theorem State.tell_held {s₀ : State} (s : State) (src : Nat) (inst : Nat) (hs : s.held s₀) :
    (State.tell s src inst).held s₀ := by
  unfold State.tell
  (try simp (maxDischargeDepth := 12) +contextual [*])

@[simp] theorem State.readVaux_held {s₀ : State} (s : State) (mv : Nat) (hs : s.held s₀) : (State.readVaux s mv).held s₀ := by
  unfold State.readVaux
  (try simp (maxDischargeDepth := 12) +contextual [*])

@[simp] theorem State.logStage_held {s₀ : State} (s : State) (r : LogRec) (hs : s.held s₀) : (State.logStage s r).held s₀ := by
  unfold State.logStage
  (try simp (maxDischargeDepth := 12) +contextual [*])

@[simp] theorem State.logSeal_held {s₀ : State} (s : State) (hs : s.held s₀) : (State.logSeal s).held s₀ := by
  unfold State.logSeal
  (try simp (maxDischargeDepth := 12) +contextual [*])
  all_goals (repeat' split) <;> (try simp (maxDischargeDepth := 12) +contextual [*])

@[simp] theorem State.logSeq_held {s₀ : State} (s : State) (hs : s.held s₀) : ((State.logSeq s)).1.held s₀ := by
  unfold State.logSeq
  (try simp (maxDischargeDepth := 12) +contextual [*])

@[simp] theorem State.logInternal_held {s₀ : State} (s : State) (code : Nat) (sev : Nat) (payload : List Byte) (hs : s.held s₀) :
    (State.logInternal s code sev payload).held s₀ := by
  unfold State.logInternal
  (try simp (maxDischargeDepth := 12) +contextual [*])

@[simp] theorem State.logRefill_held {s₀ : State} (s : State) (hs : s.held s₀) : (State.logRefill s).held s₀ := by
  unfold State.logRefill
  (try simp (maxDischargeDepth := 12) +contextual [*])

@[simp] theorem State.logSuppress_held {s₀ : State} (s : State) (sev : Nat) (hs : s.held s₀) :
    (State.logSuppress s sev).held s₀ := by
  unfold State.logSuppress
  (try simp (maxDischargeDepth := 12) +contextual [*])

theorem State.logToken_held {s₀ : State} (s t : State) (sev : Nat) (h : s.logToken sev = some t) (hs :
    s.held s₀) : t.held s₀ := by
  unfold State.logToken at h
  revert h
  simp only
  repeat' split
  all_goals intro h; cases h
  all_goals simp (maxDischargeDepth := 12) [*]

@[simp] theorem State.logActivation_held {s₀ : State} (s : State) (a : Act) (word : Nat) (hs : s.held s₀) :
    (s.logActivation a word).1.held s₀ := by
  unfold State.logActivation
  simp only
  split
  · simp only
    split <;> simp (maxDischargeDepth := 12) [*]
  · split
    · simp (maxDischargeDepth := 12) [*]
    · rename_i t h
      have ht : t.held s₀ := State.logToken_held _ _ _ h (by simp (maxDischargeDepth := 12) [*])
      simp (maxDischargeDepth := 12) [*]

@[simp] theorem State.logDrop_held {s₀ : State} (s : State) (r : LogRec) (hs : s.held s₀) : (State.logDrop s r).held s₀ := by
  unfold State.logDrop
  (try simp (maxDischargeDepth := 12) +contextual [*])

@[simp] theorem State.logReclaimed_held {s₀ : State} (s : State) (p : LogPage) (hs : s.held s₀) :
    (State.logReclaimed s p).held s₀ := by
  unfold State.logReclaimed
  (try simp (maxDischargeDepth := 12) +contextual [*])

@[simp] theorem State.logDropReport_held {s₀ : State} (s : State) (hs : s.held s₀) : (State.logDropReport s).held s₀ := by
  unfold State.logDropReport
  (try simp (maxDischargeDepth := 12) +contextual [*])

@[simp] theorem State.logOpenPage_held {s₀ : State} (s : State) (r : LogRec) (hs : s.held s₀) :
    (State.logOpenPage s r).held s₀ := by
  unfold State.logOpenPage
  (try simp (maxDischargeDepth := 12) +contextual [*])
  all_goals (repeat' split) <;> (try simp (maxDischargeDepth := 12) +contextual [*])

@[simp] theorem State.logBadPage_held {s₀ : State} (s : State) (k : Nat) (hs : s.held s₀) : (State.logBadPage s k).held s₀ := by
  unfold State.logBadPage
  (try simp (maxDischargeDepth := 12) +contextual [*])

@[simp] theorem State.logReadBack_held {s₀ : State} (n : Nat) (s : State) (r : LogRec) (hs : s.held s₀) :
    (State.logReadBack n s r).held s₀ := by
  induction n generalizing s with
  | zero => exact hs
  | succ n ih =>
    unfold State.logReadBack
    split
    · exact hs
    · exact ih _ (by simp (maxDischargeDepth := 12) [*])

@[simp] theorem State.logVerify_held {s₀ : State} (s : State) (r : LogRec) (hs : s.held s₀) : (State.logVerify s r).held s₀ := by
  unfold State.logVerify
  (try simp (maxDischargeDepth := 12) +contextual [*])

@[simp] theorem State.logProgramRec_held {s₀ : State} (s : State) (r : LogRec) (hs : s.held s₀) :
    (State.logProgramRec s r).held s₀ := by
  unfold State.logProgramRec
  (try simp (maxDischargeDepth := 12) +contextual [*])
  all_goals (repeat' split) <;> (try simp (maxDischargeDepth := 12) +contextual [*])

@[simp] theorem State.logProgramN_held {s₀ : State} (fuel : Nat) (s : State) (hs : s.held s₀) :
    (State.logProgramN fuel s).held s₀ := by
  induction fuel generalizing s with
  | zero => unfold State.logProgramN; exact hs
  | succ n ih =>
    unfold State.logProgramN
    split
    · exact hs
    · exact hs
    · rename_i f r rs h1 h2
      cases h1
      exact ih _ (by simp (maxDischargeDepth := 12) [*])

@[simp] theorem State.logProgramAll_held {s₀ : State} (s : State) (hs : s.held s₀) : (State.logProgramAll s).held s₀ := by
  unfold State.logProgramAll
  (try simp (maxDischargeDepth := 12) +contextual [*])

@[simp] theorem State.logProgramNow_held {s₀ : State} (s : State) (hs : s.held s₀) : (State.logProgramNow s).held s₀ := by
  unfold State.logProgramNow
  (try simp (maxDischargeDepth := 12) +contextual [*])

@[simp] theorem State.logFlush_held {s₀ : State} (s : State) (reason : Nat) (hs : s.held s₀) :
    (State.logFlush s reason).held s₀ := by
  unfold State.logFlush
  (try simp (maxDischargeDepth := 12) +contextual [*])

@[simp] theorem State.logClearRun_held {s₀ : State} (s : State) (node : Nat) (link : Nat) (hs : s.held s₀) :
    (State.logClearRun s node link).held s₀ := by
  unfold State.logClearRun
  (try simp (maxDischargeDepth := 12) +contextual [*])
  all_goals (repeat' split) <;> (try simp (maxDischargeDepth := 12) +contextual [*])

@[simp] theorem State.logScan_held {s₀ : State} (s : State) (powerOn : Bool) (torn : List (Nat × Nat)) (hs : s.held s₀) :
    (State.logScan s powerOn torn).held s₀ := by
  unfold State.logScan
  (try simp (maxDischargeDepth := 12) +contextual [*])

theorem execLogRecordSealTimeout_held {s₀ : State} (s : State) (hs : s.held s₀) :
    nextSat (execLogRecordSealTimeout s) fun t => t.held s₀ := by
  unfold execLogRecordSealTimeout
  all_goals (repeat' split) <;> (try simp (maxDischargeDepth := 12) +contextual [*])

theorem execLogProgram_held {s₀ : State} (failing : List (Fin 256)) (s : State) (hs : s.held s₀) :
    nextSat (execLogProgram failing s) fun t => t.held s₀ := by
  unfold execLogProgram
  (try simp (maxDischargeDepth := 12) +contextual [*])

theorem execLogSuppressedReport_held {s₀ : State} (s : State) (hs : s.held s₀) :
    nextSat (execLogSuppressedReport s) fun t => t.held s₀ := by
  unfold execLogSuppressedReport
  (try simp (maxDischargeDepth := 12) +contextual [*])

theorem execLogFlushLevel_held {s₀ : State} (vauxMv : Nat) (s : State) (hs : s.held s₀) :
    nextSat (execLogFlushLevel vauxMv s) fun t => t.held s₀ := by
  unfold execLogFlushLevel
  (try simp (maxDischargeDepth := 12) +contextual [*])

@[simp] theorem State.txDrop_held {s₀ : State} (s : State) (link : Nat) (hs : s.held s₀) : (State.txDrop s link).held s₀ := by
  unfold State.txDrop
  (try simp (maxDischargeDepth := 12) +contextual [*])

@[simp] theorem State.highWater_held {s₀ : State} (s : State) (ch : Nat) (hs : s.held s₀) : (State.highWater s ch).held s₀ := by
  unfold State.highWater
  (try simp (maxDischargeDepth := 12) +contextual [*])

@[simp] theorem State.txPush_held {s₀ : State} (s : State) (link : Nat) (o : Out) (hs : s.held s₀) :
    (State.txPush s link o).held s₀ := by
  unfold State.txPush
  (try simp (maxDischargeDepth := 12) +contextual [*])

@[simp] theorem State.txOrDrop_held {s₀ : State} (s : State) (link : Nat) (o : Out) (hs : s.held s₀) :
    ((State.txOrDrop s link o)).1.held s₀ := by
  unfold State.txOrDrop
  (try simp (maxDischargeDepth := 12) +contextual [*])

@[simp] theorem State.txResponse_held {s₀ : State} (s : State) (link : Nat) (o : Out) (hs : s.held s₀) :
    (State.txResponse s link o).held s₀ := by
  unfold State.txResponse
  (try simp (maxDischargeDepth := 12) +contextual [*])

@[simp] theorem State.txSafety_held {s₀ : State} (s : State) (link : Nat) (o : Out) (hs : s.held s₀) :
    ((State.txSafety s link o)).1.held s₀ := by
  unfold State.txSafety
  (try simp (maxDischargeDepth := 12) +contextual [*])

@[simp] theorem State.eventRoom_held {s₀ : State} (s : State) (link : Nat) (hs : s.held s₀) :
    ((State.eventRoom s link)).1.held s₀ := by
  unfold State.eventRoom
  (try simp (maxDischargeDepth := 12) +contextual [*])

@[simp] theorem State.backlog_held {s₀ : State} (s : State) (r : List Int) (hs : s.held s₀) : (State.backlog s r).held s₀ := by
  unfold State.backlog
  (try simp (maxDischargeDepth := 12) +contextual [*])

@[simp] theorem State.noteOut_held {s₀ : State} (s : State) (link : Nat) (cls : Nat) (o : Out) (hs : s.held s₀) :
    (State.noteOut s link cls o).held s₀ := by
  unfold State.noteOut
  (try simp (maxDischargeDepth := 12) +contextual [*])

@[simp] theorem State.noteOn_held {s₀ : State} (s : State) (link cls : Nat) (addrs : List Nat) (o : Out) (hs : s.held s₀) :
    (s.noteOn link cls addrs o).held s₀ := by
  unfold State.noteOn
  split
  · exact hs
  extract_lets r
  have h : r.1.held s₀ := by
    simp only [r]
    split <;> simp (maxDischargeDepth := 12) [*]
  clear_value r
  split
  · exact forEach_held _ _ _ h fun s a hs => by simp [hs]
  · simp [h]

@[simp] theorem State.notify_held {s₀ : State} (s : State) (cls : Nat) (time : Nat) (code : Nat) (source : Nat) (sev : Nat) (flags : Nat) (seq : Nat) (data : List Byte) (hs : s.held s₀) :
    (State.notify s cls time code source sev flags seq data).held s₀ := by
  unfold State.notify
  (try simp (maxDischargeDepth := 12) +contextual [*])

@[simp] theorem State.respond_held {s₀ : State} (s : State) (req : Req) (r : Reply) (hs : s.held s₀) :
    (State.respond s req r).held s₀ := by
  unfold State.respond
  (try simp (maxDischargeDepth := 12) +contextual [*])

@[simp] theorem State.answerW_held {s₀ : State} (s : State) (req : Req) (i : Nat) (sub : Nat) (status : Nat) (hs : s.held s₀) :
    (State.answerW s req i sub status).held s₀ := by
  unfold State.answerW
  (try simp (maxDischargeDepth := 12) +contextual [*])

@[simp] theorem State.keep_held {s₀ : State} (s : State) (k : KeptResp) (hs : s.held s₀) : (State.keep s k).held s₀ := by
  unfold State.keep
  (try simp (maxDischargeDepth := 12) +contextual [*])

@[simp] theorem State.answerLate_held {s₀ : State} (s : State) (req : Req) (msg : List Byte) (i : Nat) (status : Nat) (hs : s.held s₀) :
    (State.answerLate s req msg i status).held s₀ := by
  unfold State.answerLate
  (try simp (maxDischargeDepth := 12) +contextual [*])

@[simp] theorem State.tagSeen_held {s₀ : State} (s : State) (req : Req) (hs : s.held s₀) : (State.tagSeen s req).held s₀ := by
  unfold State.tagSeen
  (try simp (maxDischargeDepth := 12) +contextual [*])
  all_goals (repeat' split) <;> (try simp (maxDischargeDepth := 12) +contextual [*])

@[simp] theorem State.request_held {s₀ : State} (s : State) (req : Req) (i sub : Nat) (op : State → State × Nat) (hs : s.held s₀)
    (ho : ∀ s : State, s.held s₀ → (op s).1.held s₀) : nextSat (s.request req i sub op) fun t => t.held s₀ := by
  have h1 := ho (s.tagSeen req) (by simp [*])
  unfold State.request
  simp only
  repeat' split
  all_goals refine next_held _ ?_
  all_goals simp (maxDischargeDepth := 12) [*]

@[simp] theorem State.block_held {s₀ : State} (s : State) (t : Transfer) (kind : Nat) (number : Nat) (data : List Byte) (hs : s.held s₀) :
    (State.block s t kind number data).held s₀ := by
  unfold State.block
  (try simp (maxDischargeDepth := 12) +contextual [*])

@[simp] theorem State.abortTransfers_held {s₀ : State} (s : State) (status : Nat) (p : Transfer → Bool) (hs : s.held s₀) :
    (State.abortTransfers s status p).held s₀ := by
  unfold State.abortTransfers
  (try simp (maxDischargeDepth := 12) +contextual [*])

@[simp] theorem State.sessionEnd_held {s₀ : State} (s : State) (hs : s.held s₀) : (State.sessionEnd s).held s₀ := by
  unfold State.sessionEnd
  (try simp (maxDischargeDepth := 12) +contextual [*])
  all_goals (repeat' split) <;> (try simp (maxDischargeDepth := 12) +contextual [*])

@[simp] theorem State.aliasEnd_held {s₀ : State} (s : State) (hs : s.held s₀) : (State.aliasEnd s).held s₀ := by
  unfold State.aliasEnd
  (try simp (maxDischargeDepth := 12) +contextual [*])
  all_goals (repeat' split) <;> (try simp (maxDischargeDepth := 12) +contextual [*])

end Sys2Proof.Machine
end

