-- ==== Sys2Proof/Laws/HeldOutputs.lean ====
section
/-! SUPPORT. Sys2Proof/Laws/HeldOutputs.lean: the operations and commands of `leavesOutputs` leave the power die's outputs as they are (`State.held`)
(outputs, contactors, safety functions, resets). -/

namespace Sys2Proof.Machine

@[simp] theorem State.mdStartDuty_held {s₀ : State} (s : State) (n : Nat) (hs : s.held s₀) : (State.mdStartDuty s n).held s₀ := by
  unfold State.mdStartDuty
  (try simp (maxDischargeDepth := 12) +contextual [*])

@[simp] theorem State.readSupplies_held {s₀ : State} (s : State) (vauxMv : Nat) (sw : Nat) (x : Supplies) (hs : s.held s₀) :
    (State.readSupplies s vauxMv sw x).held s₀ := by
  unfold State.readSupplies
  (try simp (maxDischargeDepth := 12) +contextual [*])

@[simp] theorem State.countBreak_held {s₀ : State} (s : State) (d : Nat) (hs : s.held s₀) : (State.countBreak s d).held s₀ := by
  unfold State.countBreak
  (try simp (maxDischargeDepth := 12) +contextual [*])

@[simp] theorem State.shotStart_held {s₀ : State} (s : State) (k : Nat) (seq : Nat) (target : Nat) (hs : s.held s₀) :
    (State.shotStart s k seq target).held s₀ := by
  unfold State.shotStart
  (try simp (maxDischargeDepth := 12) +contextual [*])

@[simp] theorem State.shotDone_held {s₀ : State} (s : State) (k : Nat) (result : Nat) (members : List Int) (hs : s.held s₀) :
    (State.shotDone s k result members).held s₀ := by
  unfold State.shotDone
  all_goals (repeat' split) <;> (try simp (maxDischargeDepth := 12) +contextual [*])

@[simp] theorem State.shotNotRun_held {s₀ : State} (s : State) (k : Nat) (result : Nat) (zeros : Nat) (hs : s.held s₀) :
    (State.shotNotRun s k result zeros).held s₀ := by
  unfold State.shotNotRun
  all_goals (repeat' split) <;> (try simp (maxDischargeDepth := 12) +contextual [*])

@[simp] theorem State.testNotRun_held {s₀ : State} (s : State) (hs : s.held s₀) : (State.testNotRun s).held s₀ := by
  unfold State.testNotRun
  (try simp (maxDischargeDepth := 12) +contextual [*])

@[simp] theorem State.testEnd_held {s₀ : State} (s : State) (status : Nat) (hs : s.held s₀) :
    (State.testEnd s status).held s₀ := by
  unfold State.testEnd
  (try simp (maxDischargeDepth := 12) +contextual [*])

@[simp] theorem State.setAppliedOf_held {s₀ : State} (s : State) (n : Nat) (hs : s.held s₀) :
    (State.setAppliedOf s n).held s₀ := by
  unfold State.setAppliedOf
  (try simp (maxDischargeDepth := 12) +contextual [*])

@[simp] theorem State.setApplied_held {s₀ : State} (s : State) (hs : s.held s₀) : (State.setApplied s).held s₀ := by
  unfold State.setApplied
  (try simp (maxDischargeDepth := 12) +contextual [*])

@[simp] theorem State.busLimits_held {s₀ : State} (s : State) (hs : s.held s₀) : (State.busLimits s).held s₀ := by
  unfold State.busLimits
  (try simp (maxDischargeDepth := 12) +contextual [*])

@[simp] theorem State.setLimits_held {s₀ : State} (s : State) (hs : s.held s₀) : (State.setLimits s).held s₀ := by
  unfold State.setLimits
  (try simp (maxDischargeDepth := 12) +contextual [*])

@[simp] theorem State.enterSeq_held {s₀ : State} (s : State) (n : Nat) (st : Nat) (hs : s.held s₀) :
    (State.enterSeq s n st).held s₀ := by
  unfold State.enterSeq
  (try simp (maxDischargeDepth := 12) +contextual [*])

@[simp] theorem State.enterOpen_held {s₀ : State} (s : State) (n : Nat) (st : Nat) (hs : s.held s₀) :
    (State.enterOpen s n st).held s₀ := by
  unfold State.enterOpen
  (try simp (maxDischargeDepth := 12) +contextual [*])

@[simp] theorem State.setDeltas_held {s₀ : State} (s : State) (hs : s.held s₀) : (State.setDeltas s).held s₀ := by
  unfold State.setDeltas
  (try simp (maxDischargeDepth := 12) +contextual [*])

@[simp] theorem State.failSafeTrip_held {s₀ : State} (s : State) (n : Nat) (src : Nat) (inst : Nat) (hs : s.held s₀) :
    (State.failSafeTrip s n src inst).held s₀ := by
  unfold State.failSafeTrip
  (try simp (maxDischargeDepth := 12) +contextual [*])

@[simp] theorem State.failSafeStrings_held {s₀ : State} (s : State) (src : Nat) (hs : s.held s₀) :
    (State.failSafeStrings s src).held s₀ := by
  unfold State.failSafeStrings
  (try simp (maxDischargeDepth := 12) +contextual [*])

@[simp] theorem State.dropCause_held {s₀ : State} (s : State) (n : Nat) (code : Nat) (hs : s.held s₀) :
    (State.dropCause s n code).held s₀ := by
  unfold State.dropCause
  (try simp (maxDischargeDepth := 12) +contextual [*])

@[simp] theorem State.setDerate_held {s₀ : State} (s : State) (n : Nat) (l : List Nat) (code : Nat) (cleared : Bool) (hs : s.held s₀) :
    (State.setDerate s n l code cleared).held s₀ := by
  unfold State.setDerate
  (try simp (maxDischargeDepth := 12) +contextual [*])

@[simp] theorem State.derateEnter_held {s₀ : State} (s : State) (n : Nat) (code : Nat) (hs : s.held s₀) :
    (State.derateEnter s n code).held s₀ := by
  unfold State.derateEnter
  (try simp (maxDischargeDepth := 12) +contextual [*])

@[simp] theorem State.derateTally_held {s₀ : State} (s : State) (hs : s.held s₀) : (State.derateTally s).held s₀ := by
  unfold State.derateTally
  (try simp (maxDischargeDepth := 12) +contextual [*])

@[simp] theorem State.derateAbsent_held {s₀ : State} (s : State) (n : Nat) (code : Nat) (hs : s.held s₀) :
    (State.derateAbsent s n code).held s₀ := by
  unfold State.derateAbsent
  (try simp (maxDischargeDepth := 12) +contextual [*])

@[simp] theorem State.derateLeave_held {s₀ : State} (s : State) (n : Nat) (code : Nat) (hs : s.held s₀) :
    (State.derateLeave s n code).held s₀ := by
  unfold State.derateLeave
  (try simp (maxDischargeDepth := 12) +contextual [*])

theorem execDeratingClear_held {s₀ : State} (string : Fin 4) (code : Fin 9) (s : State) (hs : s.held s₀) :
    nextSat (execDeratingClear string code s) fun t => t.held s₀ := by
  unfold execDeratingClear
  (try simp (maxDischargeDepth := 12) +contextual [*])

@[simp] theorem State.logCurrents_held {s₀ : State} (s : State) (hs : s.held s₀) : (State.logCurrents s).held s₀ := by
  unfold State.logCurrents
  (try simp (maxDischargeDepth := 12) +contextual [*])

@[simp] theorem State.judgeOver_held {s₀ : State} (s : State) (n : Nat) (hs : s.held s₀) : (State.judgeOver s n).held s₀ := by
  unfold State.judgeOver
  (try simp (maxDischargeDepth := 12) +contextual [*])

@[simp] theorem State.closeCommand_held {s₀ : State} (s : State) (n : Nat) (hs : s.held s₀) :
    ((State.closeCommand s n)).1.held s₀ := by
  unfold State.closeCommand
  (try simp (maxDischargeDepth := 12) +contextual [*])

theorem execStringClose_held {s₀ : State} (req : Req) (string : Fin 4) (s : State) (hs : s.held s₀) :
    nextSat (execStringClose req string s) fun t => t.held s₀ := by
  unfold execStringClose
  (try simp (maxDischargeDepth := 12) +contextual [*])

theorem execPrechargeCooldownEnd_held {s₀ : State} (string : Fin 4) (s : State) (hs : s.held s₀) :
    nextSat (execPrechargeCooldownEnd string s) fun t => t.held s₀ := by
  unfold execPrechargeCooldownEnd
  (try simp (maxDischargeDepth := 12) +contextual [*])

theorem execClosingDropTimeElapsed_held {s₀ : State} (string : Fin 4) (s : State) (hs : s.held s₀) :
    nextSat (execClosingDropTimeElapsed string s) fun t => t.held s₀ := by
  unfold execClosingDropTimeElapsed
  (try simp (maxDischargeDepth := 12) +contextual [*])

theorem execJoinWaitTimeout_held {s₀ : State} (string : Fin 4) (s : State) (hs : s.held s₀) :
    nextSat (execJoinWaitTimeout string s) fun t => t.held s₀ := by
  unfold execJoinWaitTimeout
  (try simp (maxDischargeDepth := 12) +contextual [*])

theorem execBreakMaxRepeat_held {s₀ : State} (string : Fin 4) (s : State) (hs : s.held s₀) :
    nextSat (execBreakMaxRepeat string s) fun t => t.held s₀ := by
  unfold execBreakMaxRepeat
  (try simp (maxDischargeDepth := 12) +contextual [*])

theorem execOpeningDropElapsed_held {s₀ : State} (string : Fin 4) (s : State) (hs : s.held s₀) :
    nextSat (execOpeningDropElapsed string s) fun t => t.held s₀ := by
  unfold execOpeningDropElapsed
  (try simp (maxDischargeDepth := 12) +contextual [*])

@[simp] theorem State.pairReleased_held {s₀ : State} (s : State) (p : Nat) (hs : s.held s₀) :
    (State.pairReleased s p).held s₀ := by
  unfold State.pairReleased
  (try simp (maxDischargeDepth := 12) +contextual [*])

@[simp] theorem State.resetString_held {s₀ : State} (s : State) (n : Nat) (hs : s.held s₀) : (State.resetString s n).held s₀ := by
  unfold State.resetString
  (try simp (maxDischargeDepth := 12) +contextual [*])

@[simp] theorem State.tripReset_held {s₀ : State} (s : State) (mask : Nat) (hs : s.held s₀) :
    ((State.tripReset s mask)).1.held s₀ := by
  unfold State.tripReset
  (try simp (maxDischargeDepth := 12) +contextual [*])

theorem execTripReset_held {s₀ : State} (req : Req) (mask : Byte) (s : State) (hs : s.held s₀) :
    nextSat (execTripReset req mask s) fun t => t.held s₀ := by
  unfold execTripReset
  (try simp (maxDischargeDepth := 12) +contextual [*])

@[simp] theorem State.openTestRequest_held {s₀ : State} (s : State) (value : Nat) (hs : s.held s₀) :
    ((State.openTestRequest s value)).1.held s₀ := by
  unfold State.openTestRequest
  (try simp (maxDischargeDepth := 12) +contextual [*])
  all_goals (repeat' split) <;> (try simp (maxDischargeDepth := 12) +contextual [*])

theorem execContactorOpenTestRequest_held {s₀ : State} (req : Req) (value : BitVec 32) (s : State) (hs : s.held s₀) :
    nextSat (execContactorOpenTestRequest req value s) fun t => t.held s₀ := by
  unfold execContactorOpenTestRequest
  (try simp (maxDischargeDepth := 12) +contextual [*])

@[simp] theorem State.pairSay_held {s₀ : State} (s : State) (p : Nat) (asserted : Bool) (hs : s.held s₀) :
    (State.pairSay s p asserted).held s₀ := by
  unfold State.pairSay
  (try simp (maxDischargeDepth := 12) +contextual [*])

@[simp] theorem State.upsetCopy_held {s₀ : State} (s : State) (key : Nat) (v : Nat) (hs : s.held s₀) :
    (State.upsetCopy s key v).held s₀ := by
  unfold State.upsetCopy
  (try simp (maxDischargeDepth := 12) +contextual [*])

@[simp] theorem State.copySafety_held {s₀ : State} (s : State) (i : Nat) (subs : List Nat) (hs : s.held s₀) :
    (State.copySafety s i subs).held s₀ := by
  unfold State.copySafety
  (try simp (maxDischargeDepth := 12) +contextual [*])

@[simp] theorem State.readback_held {s₀ : State} (s : State) (hs : s.held s₀) : (State.readback s).held s₀ := by
  unfold State.readback
  (try simp (maxDischargeDepth := 12) +contextual [*])

theorem execSafetyConfigReadback_held {s₀ : State} (upset : Option CopyUpset) (s : State) (hs : s.held s₀) :
    nextSat (execSafetyConfigReadback upset s) fun t => t.held s₀ := by
  unfold execSafetyConfigReadback
  (try simp (maxDischargeDepth := 12) +contextual [*])
  all_goals (repeat' split) <;> (try simp (maxDischargeDepth := 12) +contextual [*])

@[simp] theorem State.cdReset_held {s₀ : State} (s : State) (cause : Nat) (hs : s.held s₀) : (State.cdReset s cause).held s₀ := by
  unfold State.cdReset
  (try simp (maxDischargeDepth := 12) +contextual [*])

@[simp] theorem State.cdResetFor_held {s₀ : State} (s : State) (cause : Nat) (src : Nat) (inst : Nat) (hs : s.held s₀) :
    (State.cdResetFor s cause src inst).held s₀ := by
  unfold State.cdResetFor
  (try simp (maxDischargeDepth := 12) +contextual [*])

@[simp] theorem State.activateNow_held {s₀ : State} (s : State) (hs : s.held s₀) : (State.activateNow s).held s₀ := by
  unfold State.activateNow
  (try simp (maxDischargeDepth := 12) +contextual [*])

theorem execLockstepMismatch_held {s₀ : State} (s : State) (hs : s.held s₀) :
    nextSat (execLockstepMismatch s) fun t => t.held s₀ := by
  unfold execLockstepMismatch
  (try simp (maxDischargeDepth := 12) +contextual [*])

@[simp] theorem State.gateBy_held {s₀ : State} (s : State) (byDomain8 : Bool) (hs : s.held s₀) :
    (State.gateBy s byDomain8).held s₀ := by
  unfold State.gateBy
  (try simp (maxDischargeDepth := 12) +contextual [*])

@[simp] theorem State.holdForClock_held {s₀ : State} (s : State) (hs : s.held s₀) : (State.holdForClock s).held s₀ := by
  unfold State.holdForClock
  (try simp (maxDischargeDepth := 12) +contextual [*])

@[simp] theorem State.judgeGate_held {s₀ : State} (s : State) (bad : List Nat) (hs : s.held s₀) :
    (State.judgeGate s bad).held s₀ := by
  unfold State.judgeGate
  (try simp (maxDischargeDepth := 12) +contextual [*])

theorem execClockMonitorGate_held {s₀ : State} (count1 : Nat) (count5 : Nat) (byDomain8 : Bool) (s : State) (hs : s.held s₀) :
    nextSat (execClockMonitorGate count1 count5 byDomain8 s) fun t => t.held s₀ := by
  unfold execClockMonitorGate
  (try simp (maxDischargeDepth := 12) +contextual [*])

theorem execDomain8Loss_held {s₀ : State} (s : State) (hs : s.held s₀) : nextSat (execDomain8Loss s) fun t => t.held s₀ := by
  unfold execDomain8Loss
  (try simp (maxDischargeDepth := 12) +contextual [*])

@[simp] theorem State.powerLinkLost_held {s₀ : State} (s : State) (hs : s.held s₀) : (State.powerLinkLost s).held s₀ := by
  unfold State.powerLinkLost
  (try simp (maxDischargeDepth := 12) +contextual [*])

@[simp] theorem State.computeLinkLost_held {s₀ : State} (s : State) (inst : Nat) (hs : s.held s₀) :
    (State.computeLinkLost s inst).held s₀ := by
  unfold State.computeLinkLost
  (try simp (maxDischargeDepth := 12) +contextual [*])

theorem execInterdieFrameReceived_held {s₀ : State} (atPower : Bool) (f : LinkFrame) (s : State) (hs : s.held s₀) :
    nextSat (execInterdieFrameReceived atPower f s) fun t => t.held s₀ := by
  unfold execInterdieFrameReceived
  (try simp (maxDischargeDepth := 12) +contextual [*])
  all_goals (repeat' split) <;> (try simp (maxDischargeDepth := 12) +contextual [*])

theorem execInterdieLinkTimeout_held {s₀ : State} (atPower : Bool) (s : State) (hs : s.held s₀) :
    nextSat (execInterdieLinkTimeout atPower s) fun t => t.held s₀ := by
  unfold execInterdieLinkTimeout
  all_goals (repeat' split) <;> (try simp (maxDischargeDepth := 12) +contextual [*])

@[simp] theorem State.linkUs_held {s₀ : State} (s : State) (hs : s.held s₀) : (State.linkUs s).held s₀ := by
  unfold State.linkUs
  (try simp (maxDischargeDepth := 12) +contextual [*])

theorem execInterdieIdleSend_held {s₀ : State} (fromPower : Bool) (s : State) (hs : s.held s₀) :
    nextSat (execInterdieIdleSend fromPower s) fun t => t.held s₀ := by
  unfold execInterdieIdleSend
  all_goals (repeat' split) <;> (try simp (maxDischargeDepth := 12) +contextual [*])

@[simp] theorem State.newWindow_held {s₀ : State} (s : State) (hs : s.held s₀) : (State.newWindow s).held s₀ := by
  unfold State.newWindow
  (try simp (maxDischargeDepth := 12) +contextual [*])

@[simp] theorem State.goodWindow_held {s₀ : State} (s : State) (hs : s.held s₀) : (State.goodWindow s).held s₀ := by
  unfold State.goodWindow
  (try simp (maxDischargeDepth := 12) +contextual [*])

theorem execWatchdogEscalation_held {s₀ : State} (s : State) (hs : s.held s₀) :
    nextSat (execWatchdogEscalation s) fun t => t.held s₀ := by
  unfold execWatchdogEscalation
  (try simp (maxDischargeDepth := 12) +contextual [*])

@[simp] theorem State.captureTrigger_held {s₀ : State} (s : State) (src : Nat) (time : Nat) (hs : s.held s₀) :
    (State.captureTrigger s src time).held s₀ := by
  unfold State.captureTrigger
  (try simp (maxDischargeDepth := 12) +contextual [*])

@[simp] theorem State.matrixRoute_held {s₀ : State} (s : State) (a : Act) (hs : s.held s₀) : (s.matrixRoute a).held s₀ := by
  unfold State.matrixRoute
  extract_lets w s1 s2 r s3 code sev flags send
  have h1 : s1.held s₀ := by
    simp only [s1]
    split <;> simp (maxDischargeDepth := 12) [*]
  clear_value s1
  have h2 : s2.held s₀ := by
    simp only [s2]
    split <;> simp (maxDischargeDepth := 12) [*]
  clear_value s2
  have hr : r.1.held s₀ := by
    simp only [r]
    repeat' split
    all_goals simp (maxDischargeDepth := 12) [*]
  have hsend : ∀ (s : State) b cls, s.held s₀ → (send s b cls).held s₀ := by
    intro s b cls h
    simp only [send]
    split <;> simp (maxDischargeDepth := 12) [*]
  clear_value send
  exact hsend _ _ _ (hsend _ _ _ (hsend _ _ _ hr))

@[simp] theorem State.routeWrite_held {s₀ : State} (s : State) (source : Nat) (v : Nat) (hs : s.held s₀) :
    ((State.routeWrite s source v)).1.held s₀ := by
  unfold State.routeWrite
  (try simp (maxDischargeDepth := 12) +contextual [*])

theorem execEventRouteWrite_held {s₀ : State} (req : Req) (source : Byte) (value : BitVec 32) (s : State) (hs : s.held s₀) :
    nextSat (execEventRouteWrite req source value s) fun t => t.held s₀ := by
  unfold execEventRouteWrite
  (try simp (maxDischargeDepth := 12) +contextual [*])

@[simp] theorem State.acknowledge_held {s₀ : State} (s : State) (v : Nat) (hs : s.held s₀) :
    ((State.acknowledge s v)).1.held s₀ := by
  unfold State.acknowledge
  (try simp (maxDischargeDepth := 12) +contextual [*])

theorem execEventAcknowledge_held {s₀ : State} (req : Req) (value : BitVec 16) (s : State) (hs : s.held s₀) :
    nextSat (execEventAcknowledge req value s) fun t => t.held s₀ := by
  unfold execEventAcknowledge
  (try simp (maxDischargeDepth := 12) +contextual [*])

end Sys2Proof.Machine
end

