-- ==== Sys2Proof/Laws/HeldEstimation.lean ====
section
/-! SUPPORT. Sys2Proof/Laws/HeldEstimation.lean: the operations and commands of `leavesOutputs` leave the power die's outputs as they are (`State.held`)
(the estimation fabric and the saved values). -/

namespace Sys2Proof.Machine

@[simp] theorem State.sendBalance_held {s₀ : State} (s : State) (r : Nat) (b : Bool) (order : Nat) (first : Nat) (last : Nat) (timer : Nat) (hs : s.held s₀) :
    (State.sendBalance s r b order first last timer).held s₀ := by
  unfold State.sendBalance
  (try simp (maxDischargeDepth := 12) +contextual [*])

@[simp] theorem State.balanceRing_held {s₀ : State} (s : State) (r : Nat) (timer : Nat) (hs : s.held s₀) :
    (State.balanceRing s r timer).held s₀ := by
  unfold State.balanceRing
  (try simp (maxDischargeDepth := 12) +contextual [*])

@[simp] theorem State.balanceOne_held {s₀ : State} (s : State) (r : Nat) (p : Nat) (order : Nat) (hs : s.held s₀) :
    (State.balanceOne s r p order).held s₀ := by
  unfold State.balanceOne
  (try simp (maxDischargeDepth := 12) +contextual [*])
  all_goals (repeat' split) <;> (try simp (maxDischargeDepth := 12) +contextual [*])

@[simp] theorem State.pollRemoved_held {s₀ : State} (s : State) (r : Nat) (hs : s.held s₀) : (State.pollRemoved s r).held s₀ := by
  unfold State.pollRemoved
  (try simp (maxDischargeDepth := 12) +contextual [*])

@[simp] theorem State.planBalance_held {s₀ : State} (s : State) (hs : s.held s₀) : (State.planBalance s).held s₀ := by
  unfold State.planBalance
  (try simp (maxDischargeDepth := 12) +contextual [*])

theorem execBalancePlan_held {s₀ : State} (s : State) (hs : s.held s₀) : nextSat (execBalancePlan s) fun t => t.held s₀ := by
  unfold execBalancePlan
  (try simp (maxDischargeDepth := 12) +contextual [*])

@[simp] theorem State.balanceInhibit_held {s₀ : State} (s : State) (r : Nat) (hs : s.held s₀) :
    (State.balanceInhibit s r).held s₀ := by
  unfold State.balanceInhibit
  (try simp (maxDischargeDepth := 12) +contextual [*])

@[simp] theorem State.takeBalAck_held {s₀ : State} (s : State) (r : Nat) (p : Nat) (b : Bool) (frame : List Byte) (hs : s.held s₀) :
    (State.takeBalAck s r p b frame).held s₀ := by
  unfold State.takeBalAck
  (try simp (maxDischargeDepth := 12) +contextual [*])

theorem execBalAck_held {s₀ : State} (ring : Fin 4) (bEnd : Bool) (frame : List Byte) (s : State) (hs : s.held s₀) :
    nextSat (execBalAck ring bEnd frame s) fun t => t.held s₀ := by
  unfold execBalAck
  (try simp (maxDischargeDepth := 12) +contextual [*])

@[simp] theorem State.estBoth_held {s₀ : State} (s : State) (c : Nat) (f : CellEst → CellEst) (hs : s.held s₀) :
    (State.estBoth s c f).held s₀ := by
  unfold State.estBoth
  (try simp (maxDischargeDepth := 12) +contextual [*])

@[simp] theorem State.dispatch_held {s₀ : State} (s : State) (n : Nat) (hs : s.held s₀) : (State.dispatch s n).held s₀ := by
  unfold State.dispatch
  (try simp (maxDischargeDepth := 12) +contextual [*])

@[simp] theorem State.cellTables_held {s₀ : State} (s : State) (n : Nat) (c : Nat) (hs : s.held s₀) :
    (State.cellTables s n c).held s₀ := by
  unfold State.cellTables
  (try simp (maxDischargeDepth := 12) +contextual [*])

@[simp] theorem State.publishCell_held {s₀ : State} (s : State) (n : Nat) (c : Nat) (hs : s.held s₀) :
    (State.publishCell s n c).held s₀ := by
  unfold State.publishCell
  (try simp (maxDischargeDepth := 12) +contextual [*])

@[simp] theorem State.publishSoc_held {s₀ : State} (s : State) (n : Nat) (hs : s.held s₀) : (State.publishSoc s n).held s₀ := by
  unfold State.publishSoc
  (try simp (maxDischargeDepth := 12) +contextual [*])

@[simp] theorem State.publishInferred_held {s₀ : State} (s : State) (n : Nat) (hs : s.held s₀) :
    (State.publishInferred s n).held s₀ := by
  unfold State.publishInferred
  (try simp (maxDischargeDepth := 12) +contextual [*])

@[simp] theorem State.publishLimit_held {s₀ : State} (s : State) (n : Nat) (charge : Bool) (h : Nat) (hs : s.held s₀) :
    (State.publishLimit s n charge h).held s₀ := by
  unfold State.publishLimit
  (try simp (maxDischargeDepth := 12) +contextual [*])

@[simp] theorem State.judgeMedian_held {s₀ : State} (s : State) (n : Nat) (hs : s.held s₀) : (State.judgeMedian s n).held s₀ := by
  unfold State.judgeMedian
  (try simp (maxDischargeDepth := 12) +contextual [*])

@[simp] theorem State.publishJudged_held {s₀ : State} (s : State) (n : Nat) (hs : s.held s₀) :
    (State.publishJudged s n).held s₀ := by
  unfold State.publishJudged
  (try simp (maxDischargeDepth := 12) +contextual [*])

@[simp] theorem State.signatures_held {s₀ : State} (s : State) (n : Nat) (hs : s.held s₀) : (State.signatures s n).held s₀ := by
  unfold State.signatures
  (try simp (maxDischargeDepth := 12) +contextual [*])

@[simp] theorem State.addOps_held {s₀ : State} (s : State) (g : Nat) (n : Nat) (hs : s.held s₀) :
    (State.addOps s g n).held s₀ := by
  unfold State.addOps
  (try simp (maxDischargeDepth := 12) +contextual [*])

@[simp] theorem State.throughput_held {s₀ : State} (s : State) (hs : s.held s₀) : (State.throughput s).held s₀ := by
  unfold State.throughput
  (try simp (maxDischargeDepth := 12) +contextual [*])

@[simp] theorem State.publishEpoch_held {s₀ : State} (s : State) (n : Nat) (hs : s.held s₀) : (s.publishEpoch n).held s₀ := by
  unfold State.publishEpoch
  extract_lets ep cells dur s1 fb s2 durs s3 slow s4 l s5 s6 s7 s8 s9
  have h1 : s1.held s₀ := forEach_held _ _ _ hs fun s c h => by simp [h]
  clear_value s1
  have h2 : s2.held s₀ := by simp [s2, *]
  clear_value s2
  have h3 : s3.held s₀ := by simp [s3, *]
  clear_value s3
  have h4 : s4.held s₀ := by simp [s4, *]
  clear_value s4
  have h5 : s5.held s₀ := forEach_held _ _ _ h4 fun s c h => by simp [h]
  clear_value s5
  have h6 : s6.held s₀ := by
    simp only [s6]
    split <;> simp [h5]
  clear_value s6
  have h7 : s7.held s₀ := forEach_held _ _ _ h6 fun s c h => by simp [h]
  clear_value s7
  have h8 : s8.held s₀ := State.publishJudged_held _ _
    (State.judgeMedian_held _ _ (State.publishInferred_held _ _ (State.publishSoc_held _ _ h7)))
  clear_value s8
  have h9 : s9.held s₀ := forEach_held _ _ _ h8 fun s c h => by simp [h]
  clear_value s9
  simp (maxDischargeDepth := 12) [*]

@[simp] theorem State.drained_held {s₀ : State} (s : State) (n : Nat) (hs : s.held s₀) : (State.drained s n).held s₀ := by
  unfold State.drained
  (try simp (maxDischargeDepth := 12) +contextual [*])

@[simp] theorem State.endEpoch_held {s₀ : State} (s : State) (n : Nat) (why : Ending) (hs : s.held s₀) :
    (State.endEpoch s n why).held s₀ := by
  unfold State.endEpoch
  (try simp (maxDischargeDepth := 12) +contextual [*])

@[simp] theorem State.dropItems_held {s₀ : State} (s : State) (n : Nat) (hs : s.held s₀) : (State.dropItems s n).held s₀ := by
  unfold State.dropItems
  (try simp (maxDischargeDepth := 12) +contextual [*])

@[simp] theorem State.pauseEpochs_held {s₀ : State} (s : State) (hs : s.held s₀) : (State.pauseEpochs s).held s₀ := by
  unfold State.pauseEpochs
  (try simp (maxDischargeDepth := 12) +contextual [*])

theorem execEuWorkItemClaim_held {s₀ : State} (eu : Fin 64) (s : State) (hs : s.held s₀) :
    nextSat (execEuWorkItemClaim eu s) fun t => t.held s₀ := by
  unfold execEuWorkItemClaim
  (try simp (maxDischargeDepth := 12) +contextual [*])
  all_goals (repeat' split) <;> (try simp (maxDischargeDepth := 12) +contextual [*])

@[simp] theorem State.retireEu_held {s₀ : State} (s : State) (e : Nat) (hs : s.held s₀) : (State.retireEu s e).held s₀ := by
  unfold State.retireEu
  (try simp (maxDischargeDepth := 12) +contextual [*])
  all_goals (repeat' split) <;> (try simp (maxDischargeDepth := 12) +contextual [*])

@[simp] theorem State.writeBack_held {s₀ : State} (s : State) (e : Nat) (n : Nat) (c : Nat) (hs : s.held s₀) :
    (State.writeBack s e n c).held s₀ := by
  unfold State.writeBack
  (try simp (maxDischargeDepth := 12) +contextual [*])

theorem execEuUpdateComplete_held {s₀ : State} (eu : Fin 64) (residueOk : Bool) (s : State) (hs : s.held s₀) :
    nextSat (execEuUpdateComplete eu residueOk s) fun t => t.held s₀ := by
  unfold execEuUpdateComplete
  (try simp (maxDischargeDepth := 12) +contextual [*])
  all_goals (repeat' split) <;> (try simp (maxDischargeDepth := 12) +contextual [*])

theorem execEuHandshakeTimeout_held {s₀ : State} (eu : Fin 64) (s : State) (hs : s.held s₀) :
    nextSat (execEuHandshakeTimeout eu s) fun t => t.held s₀ := by
  unfold execEuHandshakeTimeout
  (try simp (maxDischargeDepth := 12) +contextual [*])

theorem execFabricKnownAnswerTest_held {s₀ : State} (eu : Fin 64) (pass : Bool) (s : State) (hs : s.held s₀) :
    nextSat (execFabricKnownAnswerTest eu pass s) fun t => t.held s₀ := by
  unfold execFabricKnownAnswerTest
  (try simp (maxDischargeDepth := 12) +contextual [*])

theorem execEpochDeadline_held {s₀ : State} (string : Fin 4) (s : State) (hs : s.held s₀) :
    nextSat (execEpochDeadline string s) fun t => t.held s₀ := by
  unfold execEpochDeadline
  (try simp (maxDischargeDepth := 12) +contextual [*])

theorem execEstimationHeld_held {s₀ : State} (string : Fin 4) (s : State) (hs : s.held s₀) :
    nextSat (execEstimationHeld string s) fun t => t.held s₀ := by
  unfold execEstimationHeld
  (try simp (maxDischargeDepth := 12) +contextual [*])

theorem execRateStepUp_held {s₀ : State} (region : Fin 2) (s : State) (hs : s.held s₀) :
    nextSat (execRateStepUp region s) fun t => t.held s₀ := by
  unfold execRateStepUp
  (try simp (maxDischargeDepth := 12) +contextual [*])

@[simp] theorem State.selfTested_held {s₀ : State} (s : State) (q : Nat) (st : Nat) (bad : List Nat) (hs : s.held s₀) :
    (State.selfTested s q st bad).held s₀ := by
  unfold State.selfTested
  (try simp (maxDischargeDepth := 12) +contextual [*])

@[simp] theorem State.fabricTest_held {s₀ : State} (s : State) (v : Nat) (hs : s.held s₀) :
    ((State.fabricTest s v)).1.held s₀ := by
  unfold State.fabricTest
  (try simp (maxDischargeDepth := 12) +contextual [*])
  all_goals (repeat' split) <;> (try simp (maxDischargeDepth := 12) +contextual [*])

theorem execFabricSelfTestRequest_held {s₀ : State} (req : Req) (value : BitVec 32) (s : State) (hs : s.held s₀) :
    nextSat (execFabricSelfTestRequest req value s) fun t => t.held s₀ := by
  unfold execFabricSelfTestRequest
  (try simp (maxDischargeDepth := 12) +contextual [*])

@[simp] theorem State.checkEus_held {s₀ : State} (s : State) (bad : List Nat) (hs : s.held s₀) :
    (State.checkEus s bad).held s₀ := by
  unfold State.checkEus
  (try simp (maxDischargeDepth := 12) +contextual [*])

theorem execFabricSelfTestDone_held {s₀ : State} (failed : BitVec 64) (s : State) (hs : s.held s₀) :
    nextSat (execFabricSelfTestDone failed s) fun t => t.held s₀ := by
  unfold execFabricSelfTestDone
  (try simp (maxDischargeDepth := 12) +contextual [*])
  all_goals (repeat' split) <;> (try simp (maxDischargeDepth := 12) +contextual [*])

@[simp] theorem State.cellTally_held {s₀ : State} (s : State) (c : Nat) (hs : s.held s₀) : (State.cellTally s c).held s₀ := by
  unfold State.cellTally
  (try simp (maxDischargeDepth := 12) +contextual [*])

@[simp] theorem State.restTally_held {s₀ : State} (s : State) (n : Nat) (hs : s.held s₀) : (State.restTally s n).held s₀ := by
  unfold State.restTally
  (try simp (maxDischargeDepth := 12) +contextual [*])

@[simp] theorem State.windowTally_held {s₀ : State} (s : State) (n : Nat) (hs : s.held s₀) : (State.windowTally s n).held s₀ := by
  unfold State.windowTally
  (try simp (maxDischargeDepth := 12) +contextual [*])

@[simp] theorem State.snapshot_held {s₀ : State} (s : State) (n : Nat) (di : Int) (l : List (Nat × ℚ)) (hs : s.held s₀) :
    (State.snapshot s n di l).held s₀ := by
  unfold State.snapshot
  (try simp (maxDischargeDepth := 12) +contextual [*])
  all_goals (repeat' split) <;> (try simp (maxDischargeDepth := 12) +contextual [*])

@[simp] theorem State.stepTally_held {s₀ : State} (s : State) (n : Nat) (hs : s.held s₀) : (State.stepTally s n).held s₀ := by
  unfold State.stepTally
  (try simp (maxDischargeDepth := 12) +contextual [*])
  all_goals (repeat' split) <;> (try simp (maxDischargeDepth := 12) +contextual [*])

@[simp] theorem State.estTally_held {s₀ : State} (s : State) (n : Nat) (hs : s.held s₀) : (State.estTally s n).held s₀ := by
  unfold State.estTally
  (try simp (maxDischargeDepth := 12) +contextual [*])

@[simp] theorem State.implausible_held {s₀ : State} (s : State) (k : Nat) (hs : s.held s₀) : (State.implausible s k).held s₀ := by
  unfold State.implausible
  (try simp (maxDischargeDepth := 12) +contextual [*])

@[simp] theorem State.windowChannel_held {s₀ : State} (s : State) (n : Nat) (k : Nat) (hs : s.held s₀) :
    (State.windowChannel s n k).held s₀ := by
  unfold State.windowChannel
  (try simp (maxDischargeDepth := 12) +contextual [*])

@[simp] theorem State.plausibilityWindow_held {s₀ : State} (s : State) (n : Nat) (hs : s.held s₀) :
    (State.plausibilityWindow s n).held s₀ := by
  unfold State.plausibilityWindow
  (try simp (maxDischargeDepth := 12) +contextual [*])

theorem execCurrentPlausibilityWindow_held {s₀ : State} (string : Fin 4) (s : State) (hs : s.held s₀) :
    nextSat (execCurrentPlausibilityWindow string s) fun t => t.held s₀ := by
  unfold execCurrentPlausibilityWindow
  (try simp (maxDischargeDepth := 12) +contextual [*])

@[simp] theorem State.channelAudit_held {s₀ : State} (s : State) (n : Nat) (hs : s.held s₀) :
    (State.channelAudit s n).held s₀ := by
  unfold State.channelAudit
  (try simp (maxDischargeDepth := 12) +contextual [*])

@[simp] theorem State.enterDisagreement_held {s₀ : State} (s : State) (n : Nat) (hs : s.held s₀) :
    (State.enterDisagreement s n).held s₀ := by
  unfold State.enterDisagreement
  (try simp (maxDischargeDepth := 12) +contextual [*])

theorem execStringDisagreementEnter_held {s₀ : State} (string : Fin 4) (s : State) (hs : s.held s₀) :
    nextSat (execStringDisagreementEnter string s) fun t => t.held s₀ := by
  unfold execStringDisagreementEnter
  (try simp (maxDischargeDepth := 12) +contextual [*])

theorem execChannelAuditRepeat_held {s₀ : State} (string : Fin 4) (s : State) (hs : s.held s₀) :
    nextSat (execChannelAuditRepeat string s) fun t => t.held s₀ := by
  unfold execChannelAuditRepeat
  (try simp (maxDischargeDepth := 12) +contextual [*])

@[simp] theorem State.learnCell_held {s₀ : State} (s : State) (n : Nat) (b : RestPoint) (c : Nat) (hs : s.held s₀) :
    (s.learnCell n b c).held s₀ := by
  unfold State.learnCell
  split
  · exact hs
  · refine foldl_first_held _ _ (fun r a hr => ?_) _ hs
    simp only
    repeat' split
    all_goals simp (maxDischargeDepth := 12) [*]

@[simp] theorem State.judgeShort_held {s₀ : State} (s : State) (n : Nat) (c : Nat) (hs : s.held s₀) :
    (State.judgeShort s n c).held s₀ := by
  unfold State.judgeShort
  (try simp (maxDischargeDepth := 12) +contextual [*])

@[simp] theorem State.judgeShorts_held {s₀ : State} (s : State) (n : Nat) (b : RestPoint) (hs : s.held s₀) :
    (State.judgeShorts s n b).held s₀ := by
  unfold State.judgeShorts
  (try simp (maxDischargeDepth := 12) +contextual [*])

@[simp] theorem State.formPoint_held {s₀ : State} (s : State) (n : Nat) (hs : s.held s₀) : (State.formPoint s n).held s₀ := by
  unfold State.formPoint
  (try simp (maxDischargeDepth := 12) +contextual [*])

theorem execRestPointFormed_held {s₀ : State} (string : Fin 4) (s : State) (hs : s.held s₀) :
    nextSat (execRestPointFormed string s) fun t => t.held s₀ := by
  unfold execRestPointFormed
  (try simp (maxDischargeDepth := 12) +contextual [*])

@[simp] theorem State.stringShot_held {s₀ : State} (s : State) (k : Nat) (value : Nat) (result : Nat) (zeros : Nat) (hs : s.held s₀) :
    ((State.stringShot s k value result zeros)).1.held s₀ := by
  unfold State.stringShot
  (try simp (maxDischargeDepth := 12) +contextual [*])
  all_goals (repeat' split) <;> (try simp (maxDischargeDepth := 12) +contextual [*])

theorem execCapLearnReportRequest_held {s₀ : State} (req : Req) (value : BitVec 32) (s : State) (hs : s.held s₀) :
    nextSat (execCapLearnReportRequest req value s) fun t => t.held s₀ := by
  unfold execCapLearnReportRequest
  (try simp (maxDischargeDepth := 12) +contextual [*])

theorem execCapLearnReportDone_held {s₀ : State} (s : State) (hs : s.held s₀) :
    nextSat (execCapLearnReportDone s) fun t => t.held s₀ := by
  unfold execCapLearnReportDone
  all_goals (repeat' split) <;> (try simp (maxDischargeDepth := 12) +contextual [*])

theorem execImpedanceSnapshotRequest_held {s₀ : State} (req : Req) (value : BitVec 32) (s : State) (hs : s.held s₀) :
    nextSat (execImpedanceSnapshotRequest req value s) fun t => t.held s₀ := by
  unfold execImpedanceSnapshotRequest
  (try simp (maxDischargeDepth := 12) +contextual [*])

theorem execImpedanceSnapshotTimeout_held {s₀ : State} (s : State) (hs : s.held s₀) :
    nextSat (execImpedanceSnapshotTimeout s) fun t => t.held s₀ := by
  unfold execImpedanceSnapshotTimeout
  split
  · exact done_held _ hs
  · refine doneIf_held _ _ _ (fun _ => ?_) hs
    split
    · exact State.shotDone_held _ _ _ _ hs
    · exact State.shotNotRun_held _ _ _ _ hs

@[simp] theorem State.publishWord_held {s₀ : State} (s : State) (c : Nat) (hs : s.held s₀) : (State.publishWord s c).held s₀ := by
  unfold State.publishWord
  (try simp (maxDischargeDepth := 12) +contextual [*])

@[simp] theorem State.derateJudged_held {s₀ : State} (s : State) (n code : Nat) (j : Judged) (hs : s.held s₀) :
    (s.derateJudged n code j).held s₀ := by
  unfold State.derateJudged
  split <;> simp (maxDischargeDepth := 12) [*]

@[simp] theorem State.judgeDerating_held {s₀ : State} (s : State) (n : Nat) (hs : s.held s₀) : (s.judgeDerating n).held s₀ := by
  unfold State.judgeDerating
  extract_lets cells temps step s1 s2 s3 s4 lost s5
  have hstep : ∀ (s : State) code j, s.held s₀ → (step s code j).held s₀ := by
    intro s code j h
    simp only [step]
    split <;> simp (maxDischargeDepth := 12) [*]
  have h1 : s1.held s₀ := hstep _ _ _ hs
  have h2 : s2.held s₀ := hstep _ _ _ h1
  have h3 : s3.held s₀ := hstep _ _ _ h2
  have h4 : s4.held s₀ := hstep _ _ _ h3
  clear_value s4
  have h5 : s5.held s₀ := by
    simp only [s5]
    split <;> simp (maxDischargeDepth := 12) [*]
  clear_value s5
  split <;> simp (maxDischargeDepth := 12) [*]

@[simp] theorem State.enumFinish_held {s₀ : State} (s : State) (r : Nat) (hs : s.held s₀) : (State.enumFinish s r).held s₀ := by
  unfold State.enumFinish
  (try simp (maxDischargeDepth := 12) +contextual [*])
  all_goals (repeat' split) <;> (try simp (maxDischargeDepth := 12) +contextual [*])

@[simp] theorem State.publishAcq_held {s₀ : State} (s : State) (r : Nat) (hs : s.held s₀) : (s.publishAcq r).held s₀ := by
  unfold State.publishAcq
  extract_lets s1 s2 s3 s4 s5 s6
  have h1 : s1.held s₀ := forEach_held _ _ _ hs fun s c h => by simp [h]
  clear_value s1
  have h2 : s2.held s₀ := forEach_held _ _ _ h1 fun s c h => by simp [h]
  clear_value s2
  have h3 : s3.held s₀ := by simp [s3, *]
  clear_value s3
  have h4 : s4.held s₀ := by simp [s4, *]
  clear_value s4
  have h5 : s5.held s₀ := forEach_held _ _ _ h4 fun s c h => by simp [h]
  clear_value s5
  have h6 : s6.held s₀ := by simp [s6, *]
  clear_value s6
  have h7 : (((s6.refreshEst r).estTally r).dispatch r).held s₀ := by simp (maxDischargeDepth := 12) [*]
  simp (maxDischargeDepth := 12) [*]

@[simp] theorem State.sweepComplete_held {s₀ : State} (s : State) (r : Nat) (hs : s.held s₀) :
    (State.sweepComplete s r).held s₀ := by
  unfold State.sweepComplete
  (try simp (maxDischargeDepth := 12) +contextual [*])

theorem execSweepComplete_held {s₀ : State} (ring : Fin 4) (s : State) (hs : s.held s₀) :
    nextSat (execSweepComplete ring s) fun t => t.held s₀ := by
  unfold execSweepComplete
  (try simp (maxDischargeDepth := 12) +contextual [*])

theorem execStaleTrip_held {s₀ : State} (ring : Fin 4) (cell : Fin 512) (s : State) (hs : s.held s₀) :
    nextSat (execStaleTrip ring cell s) fun t => t.held s₀ := by
  unfold execStaleTrip
  (try simp (maxDischargeDepth := 12) +contextual [*])

@[simp] theorem State.endTrains_held {s₀ : State} (s : State) (r : Nat) (hs : s.held s₀) : (s.endTrains r).held s₀ := by
  unfold State.endTrains
  refine forEach_held _ _ _ hs fun s b h => ?_
  split <;> simp [h]

@[simp] theorem State.sweepStart_held {s₀ : State} (s : State) (r : Nat) (hs : s.held s₀) : (State.sweepStart s r).held s₀ := by
  unfold State.sweepStart
  (try simp (maxDischargeDepth := 12) +contextual [*])

@[simp] theorem State.sweepFrom_held {s₀ : State} (s : State) (r : Nat) (b : Bool) (last : Nat) (hs : s.held s₀) :
    (State.sweepFrom s r b last).held s₀ := by
  unfold State.sweepFrom
  (try simp (maxDischargeDepth := 12) +contextual [*])

@[simp] theorem State.sweepRing_held {s₀ : State} (s : State) (r : Nat) (hs : s.held s₀) : (s.sweepRing r).held s₀ := by
  unfold State.sweepRing
  extract_lets s1 s2 x
  have h1 : s1.held s₀ := by
    simp only [s1]
    split <;> simp (maxDischargeDepth := 12) [*]
  clear_value s1
  split
  · exact h1
  have h2 : s2.held s₀ := by
    simp only [s2]
    simp (maxDischargeDepth := 12) [h1]
  clear_value x s2
  split
  · exact h2
  split
  · exact State.sweepFrom_held _ _ _ _ h2
  split
  · exact State.sweepFrom_held _ _ _ _ h2
  · refine forEach_held _ _ _ h2 fun s b h => ?_
    split
    · exact State.sweepFrom_held _ _ _ _ h
    · exact h

@[simp] theorem State.trigger_held {s₀ : State} (s : State) (hs : s.held s₀) : (State.trigger s).held s₀ := by
  unfold State.trigger
  (try simp (maxDischargeDepth := 12) +contextual [*])

theorem execTallyTrigger_held {s₀ : State} (s : State) (hs : s.held s₀) : nextSat (execTallyTrigger s) fun t => t.held s₀ := by
  unfold execTallyTrigger
  (try simp (maxDischargeDepth := 12) +contextual [*])

theorem execTallyPeriodApply_held {s₀ : State} (s : State) (hs : s.held s₀) :
    nextSat (execTallyPeriodApply s) fun t => t.held s₀ := by
  unfold execTallyPeriodApply
  (try simp (maxDischargeDepth := 12) +contextual [*])
  all_goals (repeat' split) <;> (try simp (maxDischargeDepth := 12) +contextual [*])

@[simp] theorem State.fillModule_held {s₀ : State} (s : State) (r : Nat) (p : Nat) (m : ModuleRec) (first : Nat) (hs : s.held s₀) :
    (State.fillModule s r p m first).held s₀ := by
  unfold State.fillModule
  (try simp (maxDischargeDepth := 12) +contextual [*])

@[simp] theorem State.fillRing_held {s₀ : State} (f : List Byte) (s : State) (r : Nat) (hs : s.held s₀) :
    (State.fillRing f s r).held s₀ := by
  unfold State.fillRing
  (try simp (maxDischargeDepth := 12) +contextual [*])

@[simp] theorem State.keepLearned_held {s₀ : State} (old new : State) (hn : new.held s₀) :
    (old.keepLearned new).held s₀ := hn

@[simp] theorem State.trimEus_held {s₀ : State} (s : State) (hs : s.held s₀) : (State.trimEus s).held s₀ := by
  unfold State.trimEus
  (try simp (maxDischargeDepth := 12) +contextual [*])

@[simp] theorem State.setManifest_held {s₀ : State} (s : State) (f : List Byte) (hs : s.held s₀) :
    (State.setManifest s f).held s₀ := by
  unfold State.setManifest
  (try simp (maxDischargeDepth := 12) +contextual [*])

@[simp] theorem State.configRaise_held {s₀ : State} (s : State) (inst : Nat) (hs : s.held s₀) :
    (State.configRaise s inst).held s₀ := by
  unfold State.configRaise
  (try simp (maxDischargeDepth := 12) +contextual [*])

@[simp] theorem State.saveImage_held {s₀ : State} (s : State) (hs : s.held s₀) : (State.saveImage s).held s₀ := by
  unfold State.saveImage
  (try simp (maxDischargeDepth := 12) +contextual [*])

@[simp] theorem State.periodChange_held {s₀ : State} (s : State) (hs : s.held s₀) : (State.periodChange s).held s₀ := by
  unfold State.periodChange
  (try simp (maxDischargeDepth := 12) +contextual [*])

@[simp] theorem State.timingChange_held {s₀ : State} (s : State) (ch : Nat) (k : Nat) (hs : s.held s₀) :
    (State.timingChange s ch k).held s₀ := by
  unfold State.timingChange
  (try simp (maxDischargeDepth := 12) +contextual [*])

@[simp] theorem State.streamStart_held {s₀ : State} (s : State) (k : Nat) (hs : s.held s₀) : (State.streamStart s k).held s₀ := by
  unfold State.streamStart
  (try simp (maxDischargeDepth := 12) +contextual [*])

@[simp] theorem State.savedDefaults_held {s₀ : State} (s : State) (hs : s.held s₀) : (State.savedDefaults s).held s₀ := by
  unfold State.savedDefaults
  (try simp (maxDischargeDepth := 12) +contextual [*])

@[simp] theorem State.storeValue_held {s₀ : State} (s : State) (i : Nat) (sub : Nat) (v : List Int) (hs : s.held s₀) :
    (State.storeValue s i sub v).held s₀ := by
  unfold State.storeValue
  (try simp (maxDischargeDepth := 12) +contextual [*])

@[simp] theorem State.applyEntries_held {s₀ : State} (s : State) (l : List ImageEntry) (hs : s.held s₀) :
    (State.applyEntries s l).held s₀ := by
  unfold State.applyEntries
  (try simp (maxDischargeDepth := 12) +contextual [*])

@[simp] theorem withNode_held {s₀ : State} (s : State) (o : Host.Outcome State Fault Refusal) (ho :
    nextSat o fun t => t.held s₀) :
    nextSat (withNode s o) fun t => t.held s₀ := by
  unfold withNode
  split
  · have := ho _ rfl
    refine next_held _ ?_
    split <;> simp [*]
  · exact ho

@[simp] theorem State.commitManifest_held {s₀ : State} (s : State) (f : List Byte) (hs : s.held s₀) :
    (State.commitManifest s f).held s₀ := by
  unfold State.commitManifest
  (try simp (maxDischargeDepth := 12) +contextual [*])

@[simp] theorem State.manifestWrite_held {s₀ : State} (s : State) (f : List Byte) (hs : s.held s₀) :
    ((State.manifestWrite s f)).1.held s₀ := by
  unfold State.manifestWrite
  (try simp (maxDischargeDepth := 12) +contextual [*])

theorem execManifestFileWrite_held {s₀ : State} (req : Req) (file : List Byte) (s : State) (hs : s.held s₀) :
    nextSat (execManifestFileWrite req file s) fun t => t.held s₀ := by
  unfold execManifestFileWrite
  (try simp (maxDischargeDepth := 12) +contextual [*])

@[simp] theorem State.commitUids_held {s₀ : State} (s : State) (mask : Nat) (hs : s.held s₀) :
    (State.commitUids s mask).held s₀ := by
  unfold State.commitUids
  (try simp (maxDischargeDepth := 12) +contextual [*])

@[simp] theorem State.adoptUids_held {s₀ : State} (s : State) (mask : Nat) (hs : s.held s₀) :
    ((State.adoptUids s mask)).1.held s₀ := by
  unfold State.adoptUids
  (try simp (maxDischargeDepth := 12) +contextual [*])

theorem execManifestAdoptUids_held {s₀ : State} (req : Req) (mask : Byte) (s : State) (hs : s.held s₀) :
    nextSat (execManifestAdoptUids req mask s) fun t => t.held s₀ := by
  unfold execManifestAdoptUids
  (try simp (maxDischargeDepth := 12) +contextual [*])

@[simp] theorem State.configSave_held {s₀ : State} (s : State) (hs : s.held s₀) : ((State.configSave s)).1.held s₀ := by
  unfold State.configSave
  (try simp (maxDischargeDepth := 12) +contextual [*])

theorem execConfigSave_held {s₀ : State} (req : Req) (s : State) (hs : s.held s₀) :
    nextSat (execConfigSave req s) fun t => t.held s₀ := by
  unfold execConfigSave
  (try simp (maxDischargeDepth := 12) +contextual [*])

end Sys2Proof.Machine
end

