-- ==== Sys2Proof/Laws/HeldSystem.lean ====
section
/-! SUPPORT. Sys2Proof/Laws/HeldSystem.lean: the operations and commands of `leavesOutputs` leave the power die's outputs as they are (`State.held`)
(duplex, storage, life-cycle, thermal, QLP). -/

namespace Sys2Proof.Machine

@[simp] theorem State.cyclesStart_held {s₀ : State} (s : State) (hs : s.held s₀) : (State.cyclesStart s).held s₀ := by
  unfold State.cyclesStart
  (try simp (maxDischargeDepth := 12) +contextual [*])

@[simp] theorem State.endHolding_held {s₀ : State} (s : State) (hs : s.held s₀) : (State.endHolding s).held s₀ := by
  unfold State.endHolding
  (try simp (maxDischargeDepth := 12) +contextual [*])

@[simp] theorem State.activateWaiting_held {s₀ : State} (s : State) (hs : s.held s₀) : (State.activateWaiting s).held s₀ := by
  unfold State.activateWaiting
  (try simp (maxDischargeDepth := 12) +contextual [*])
  all_goals (repeat' split) <;> (try simp (maxDischargeDepth := 12) +contextual [*])

@[simp] theorem State.activateRefused_held {s₀ : State} (s : State) (hs : s.held s₀) : (State.activateRefused s).held s₀ := by
  unfold State.activateRefused
  (try simp (maxDischargeDepth := 12) +contextual [*])
  all_goals (repeat' split) <;> (try simp (maxDischargeDepth := 12) +contextual [*])

theorem execArmingRefreshTimeout_held {s₀ : State} (s : State) (hs : s.held s₀) :
    nextSat (execArmingRefreshTimeout s) fun t => t.held s₀ := by
  unfold execArmingRefreshTimeout
  (try simp (maxDischargeDepth := 12) +contextual [*])

@[simp] theorem State.sendMirror_held {s₀ : State} (s : State) (hs : s.held s₀) : (State.sendMirror s).held s₀ := by
  unfold State.sendMirror
  (try simp (maxDischargeDepth := 12) +contextual [*])

@[simp] theorem State.mirrorOutputs_held {s₀ : State} (s : State) (hs : s.held s₀) : (State.mirrorOutputs s).held s₀ := by
  unfold State.mirrorOutputs
  (try simp (maxDischargeDepth := 12) +contextual [*])

@[simp] theorem State.adoptString_held {s₀ : State} (s : State) (n : Nat) (m : MirrorString) (hs : s.held s₀) :
    (State.adoptString s n m).held s₀ := by
  unfold State.adoptString
  (try simp (maxDischargeDepth := 12) +contextual [*])

@[simp] theorem State.dupFrame_held {s₀ : State} (s : State) (crcOk : Bool) (f : State → State) (hs : s.held s₀)
    (hf : ∀ s : State, s.held s₀ → (f s).held s₀) : nextSat (s.dupFrame crcOk f) fun t => t.held s₀ := by
  unfold State.dupFrame
  split
  · exact done_held _ hs
  split
  · exact done_held _ (by simp [*])
  · exact done_held _ (hf _ (by simp [*]))

theorem execDuplexLinkDown_held {s₀ : State} (s : State) (hs : s.held s₀) :
    nextSat (execDuplexLinkDown s) fun t => t.held s₀ := by
  unfold execDuplexLinkDown
  (try simp (maxDischargeDepth := 12) +contextual [*])

theorem execDuplexLinkUp_held {s₀ : State} (s : State) (hs : s.held s₀) : nextSat (execDuplexLinkUp s) fun t => t.held s₀ := by
  unfold execDuplexLinkUp
  (try simp (maxDischargeDepth := 12) +contextual [*])

@[simp] theorem State.helloSend_held {s₀ : State} (s : State) (hs : s.held s₀) : (State.helloSend s).held s₀ := by
  unfold State.helloSend
  (try simp (maxDischargeDepth := 12) +contextual [*])

theorem execDuplexHelloSend_held {s₀ : State} (s : State) (hs : s.held s₀) :
    nextSat (execDuplexHelloSend s) fun t => t.held s₀ := by
  unfold execDuplexHelloSend
  (try simp (maxDischargeDepth := 12) +contextual [*])

@[simp] theorem State.takeHello_held {s₀ : State} (s : State) (h : Hello) (hs : s.held s₀) : (State.takeHello s h).held s₀ := by
  unfold State.takeHello
  (try simp (maxDischargeDepth := 12) +contextual [*])

theorem execHello_held {s₀ : State} (h : Hello) (tail : DupTail) (s : State) (hs : s.held s₀) :
    nextSat (execHello h tail s) fun t => t.held s₀ := by
  unfold execHello
  (try simp (maxDischargeDepth := 12) +contextual [*])

@[simp] theorem State.takeTally_held {s₀ : State} (s : State) (index : Nat) (period : Nat) (time : Nat) (hs : s.held s₀) :
    (State.takeTally s index period time).held s₀ := by
  unfold State.takeTally
  (try simp (maxDischargeDepth := 12) +contextual [*])

theorem execDuplexTally_held {s₀ : State} (index : BitVec 32) (period : Nat) (time : Nat) (tail : DupTail) (s : State) (hs : s.held s₀) :
    nextSat (execDuplexTally index period time tail s) fun t => t.held s₀ := by
  unfold execDuplexTally
  (try simp (maxDischargeDepth := 12) +contextual [*])

@[simp] theorem State.closeTail_held {s₀ : State} (s : State) (r : Nat) (hs : s.held s₀) : (State.closeTail s r).held s₀ := by
  unfold State.closeTail
  (try simp (maxDischargeDepth := 12) +contextual [*])

@[simp] theorem State.takeDelays_held {s₀ : State} (s : State) (p : List Byte) (hs : s.held s₀) :
    (State.takeDelays s p).held s₀ := by
  unfold State.takeDelays
  (try simp (maxDischargeDepth := 12) +contextual [*])

theorem execRingDelays_held {s₀ : State} (payload : List Byte) (tail : DupTail) (s : State) (hs : s.held s₀) :
    nextSat (execRingDelays payload tail s) fun t => t.held s₀ := by
  unfold execRingDelays
  (try simp (maxDischargeDepth := 12) +contextual [*])

@[simp] theorem State.takeChainReq_held {s₀ : State} (s : State) (r : Nat) (f : List Byte) (latest : Nat) (hs : s.held s₀) :
    (State.takeChainReq s r f latest).held s₀ := by
  unfold State.takeChainReq
  (try simp (maxDischargeDepth := 12) +contextual [*])

theorem execChainReq_held {s₀ : State} (ring : Fin 4) (command : List Byte) (latest : Nat) (tail : DupTail) (s : State) (hs : s.held s₀) :
    nextSat (execChainReq ring command latest tail s) fun t => t.held s₀ := by
  unfold execChainReq
  (try simp (maxDischargeDepth := 12) +contextual [*])

theorem after_held {s₀ : State} (s : State) (o : Host.Outcome State Fault Refusal) (hs : s.held s₀) (ho :
    nextSat o fun t => t.held s₀) :
    (after s o).held s₀ := by
  unfold after
  split
  · exact ho _ rfl
  · exact hs

@[simp] theorem State.takeForward_held {s₀ : State} (s : State) (ring : Fin 4) (f : List Byte) (hs : s.held s₀) :
    (s.takeForward ring f).held s₀ := by
  unfold State.takeForward
  extract_lets port go t
  have hgo : ∀ m : Fin 4 → Bool → List Byte → State → Host.Outcome State Fault Refusal,
      (nextSat (m ring port f s) fun t => t.held s₀) → (go m).held s₀ := fun m hm => after_held _ _ hs hm
  clear_value go t
  refine held_ite _ _ _ (fun _ => hs) fun _ => ?_
  refine held_ite _ _ _ (fun _ => hgo _ (execReturnPathCheck_held _ _ _ hs)) fun _ => ?_
  refine held_ite _ _ _ (fun _ => hgo _ (execIdent_held _ _ _ _ hs)) fun _ => ?_
  refine held_ite _ _ _ (fun _ => hgo _ (execEchoBack_held _ _ _ _ _ _ hs)) fun _ => ?_
  refine held_ite _ _ _ (fun _ => hgo _ (execConfigAck_held _ _ _ _ hs)) fun _ => ?_
  refine held_ite _ _ _ (fun _ => hgo _ (execStatus_held _ _ _ _ hs)) fun _ => ?_
  refine held_ite _ _ _ (fun _ => hgo _ (execSample_held _ _ _ _ hs)) fun _ => ?_
  refine held_ite _ _ _ (fun _ => hgo _ (execBalAck_held _ _ _ _ hs)) fun _ => ?_
  refine held_ite _ _ _ (fun _ => hgo _ (execOpenWireResult_held _ _ _ _ hs)) fun _ => ?_
  refine held_ite _ _ _ (fun _ => hgo _ (execAuthResult_held _ _ _ _ hs)) fun _ => ?_
  refine held_ite _ _ _ (fun _ => hgo _ (execAuthMac_held _ _ _ _ hs)) fun _ => ?_
  refine held_ite _ _ _ (fun _ => hgo _ (execRejoinResult_held _ _ _ _ hs)) fun _ => ?_
  exact hgo _ (execIdent_held _ _ _ _ hs)

theorem execChainFwd_held {s₀ : State} (ring : Fin 4) (decodedAt : Nat) (frame : List Byte) (tail : DupTail) (s : State) (hs : s.held s₀) :
    nextSat (execChainFwd ring decodedAt frame tail s) fun t => t.held s₀ := by
  unfold execChainFwd
  (try simp (maxDischargeDepth := 12) +contextual [*])

theorem execStandbyTakeoverSweep_held {s₀ : State} (ring : Fin 4) (s : State) (hs : s.held s₀) :
    nextSat (execStandbyTakeoverSweep ring s) fun t => t.held s₀ := by
  unfold execStandbyTakeoverSweep
  (try simp (maxDischargeDepth := 12) +contextual [*])

@[simp] theorem State.handoverStart_held {s₀ : State} (s : State) (hs : s.held s₀) : (State.handoverStart s).held s₀ := by
  unfold State.handoverStart
  (try simp (maxDischargeDepth := 12) +contextual [*])

@[simp] theorem State.handOver_held {s₀ : State} (s : State) (hs : s.held s₀) : ((State.handOver s)).1.held s₀ := by
  unfold State.handOver
  (try simp (maxDischargeDepth := 12) +contextual [*])

theorem execBerthHandOver_held {s₀ : State} (req : Req) (s : State) (hs : s.held s₀) :
    nextSat (execBerthHandOver req s) fun t => t.held s₀ := by
  unfold execBerthHandOver
  (try simp (maxDischargeDepth := 12) +contextual [*])

@[simp] theorem State.askHandover_held {s₀ : State} (s : State) (revert : Bool) (hs : s.held s₀) :
    (State.askHandover s revert).held s₀ := by
  unfold State.askHandover
  (try simp (maxDischargeDepth := 12) +contextual [*])

@[simp] theorem State.take_held {s₀ : State} (s : State) (hs : s.held s₀) : ((State.take s)).1.held s₀ := by
  unfold State.take
  (try simp (maxDischargeDepth := 12) +contextual [*])

theorem execBerthTake_held {s₀ : State} (req : Req) (s : State) (hs : s.held s₀) :
    nextSat (execBerthTake req s) fun t => t.held s₀ := by
  unfold execBerthTake
  (try simp (maxDischargeDepth := 12) +contextual [*])

theorem execBerthRevert_held {s₀ : State} (s : State) (hs : s.held s₀) : nextSat (execBerthRevert s) fun t => t.held s₀ := by
  unfold execBerthRevert
  (try simp (maxDischargeDepth := 12) +contextual [*])

@[simp] theorem State.takeOffer_held {s₀ : State} (s : State) (tally : Nat) (hs : s.held s₀) :
    (State.takeOffer s tally).held s₀ := by
  unfold State.takeOffer
  (try simp (maxDischargeDepth := 12) +contextual [*])

theorem execHandoverOffer_held {s₀ : State} (tally : BitVec 32) (tail : DupTail) (s : State) (hs : s.held s₀) :
    nextSat (execHandoverOffer tally tail s) fun t => t.held s₀ := by
  unfold execHandoverOffer
  (try simp (maxDischargeDepth := 12) +contextual [*])

theorem execHandoverRefuse_held {s₀ : State} (tally : BitVec 32) (tail : DupTail) (s : State) (hs : s.held s₀) :
    nextSat (execHandoverRefuse tally tail s) fun t => t.held s₀ := by
  unfold execHandoverRefuse
  (try simp (maxDischargeDepth := 12) +contextual [*])

theorem execHandoverTaken_held {s₀ : State} (tally : BitVec 32) (tail : DupTail) (s : State) (hs : s.held s₀) :
    nextSat (execHandoverTaken tally tail s) fun t => t.held s₀ := by
  unfold execHandoverTaken
  (try simp (maxDischargeDepth := 12) +contextual [*])

@[simp] theorem State.takeLapse_held {s₀ : State} (s : State) (hs : s.held s₀) : (State.takeLapse s).held s₀ := by
  unfold State.takeLapse
  (try simp (maxDischargeDepth := 12) +contextual [*])

@[simp] theorem State.standbyRefresh_held {s₀ : State} (s : State) (hs : s.held s₀) : (State.standbyRefresh s).held s₀ := by
  unfold State.standbyRefresh
  (try simp (maxDischargeDepth := 12) +contextual [*])

@[simp] theorem State.offerEnd_held {s₀ : State} (s : State) (h : Nat) (hs : s.held s₀) : (State.offerEnd s h).held s₀ := by
  unfold State.offerEnd
  (try simp (maxDischargeDepth := 12) +contextual [*])

@[simp] theorem State.darkWatch_held {s₀ : State} (s : State) (hs : s.held s₀) : (State.darkWatch s).held s₀ := by
  unfold State.darkWatch
  (try simp (maxDischargeDepth := 12) +contextual [*])

@[simp] theorem State.storeTable_held {s₀ : State} (s : State) (k : Nat) (f : List Byte) (hs : s.held s₀) :
    (State.storeTable s k f).held s₀ := by
  unfold State.storeTable
  (try simp (maxDischargeDepth := 12) +contextual [*])

@[simp] theorem State.loadTable_held {s₀ : State} (s : State) (k : Nat) (hs : s.held s₀) : (State.loadTable s k).held s₀ := by
  unfold State.loadTable
  (try simp (maxDischargeDepth := 12) +contextual [*])
  all_goals (repeat' split) <;> (try simp (maxDischargeDepth := 12) +contextual [*])

@[simp] theorem State.pauseSet_held {s₀ : State} (s : State) (k : Nat) (hs : s.held s₀) : (State.pauseSet s k).held s₀ := by
  unfold State.pauseSet
  (try simp (maxDischargeDepth := 12) +contextual [*])

@[simp] theorem State.tableWrite_held {s₀ : State} (s : State) (k : Nat) (f : List Byte) (hs : s.held s₀) :
    ((State.tableWrite s k f)).1.held s₀ := by
  unfold State.tableWrite
  (try simp (maxDischargeDepth := 12) +contextual [*])

theorem execModelTableFileWrite_held {s₀ : State} (req : Req) (set : Fin 4) (file : List Byte) (s : State) (hs : s.held s₀) :
    nextSat (execModelTableFileWrite req set file s) fun t => t.held s₀ := by
  unfold execModelTableFileWrite
  (try simp (maxDischargeDepth := 12) +contextual [*])

theorem execTableSetLoadDone_held {s₀ : State} (set : Fin 4) (s : State) (hs : s.held s₀) :
    nextSat (execTableSetLoadDone set s) fun t => t.held s₀ := by
  unfold execTableSetLoadDone
  (try simp (maxDischargeDepth := 12) +contextual [*])

theorem execTableSetReloadDone_held {s₀ : State} (set : Fin 4) (s : State) (hs : s.held s₀) :
    nextSat (execTableSetReloadDone set s) fun t => t.held s₀ := by
  unfold execTableSetReloadDone
  (try simp (maxDischargeDepth := 12) +contextual [*])

@[simp] theorem State.loseStaging_held {s₀ : State} (s : State) (hs : s.held s₀) : (State.loseStaging s).held s₀ := by
  unfold State.loseStaging
  (try simp (maxDischargeDepth := 12) +contextual [*])

theorem execLearnedDataCommit_held {s₀ : State} (string : Fin 4) (worn : Bool) (s : State) (hs : s.held s₀) :
    nextSat (execLearnedDataCommit string worn s) fun t => t.held s₀ := by
  unfold execLearnedDataCommit
  (try simp (maxDischargeDepth := 12) +contextual [*])

theorem execWeldStateCommit_held {s₀ : State} (string : Fin 4) (worn : Bool) (s : State) (hs : s.held s₀) :
    nextSat (execWeldStateCommit string worn s) fun t => t.held s₀ := by
  unfold execWeldStateCommit
  (try simp (maxDischargeDepth := 12) +contextual [*])

@[simp] theorem State.applyLearned_held {s₀ : State} (s : State) (n : Nat) (hs : s.held s₀) :
    (State.applyLearned s n).held s₀ := by
  unfold State.applyLearned
  (try simp (maxDischargeDepth := 12) +contextual [*])
  all_goals (repeat' split) <;> (try simp (maxDischargeDepth := 12) +contextual [*])

@[simp] theorem State.withVaux_held {s₀ : State} (s : State) (mv : Nat) (hs : s.held s₀) : (State.withVaux s mv).held s₀ := by
  unfold State.withVaux
  (try simp (maxDischargeDepth := 12) +contextual [*])

@[simp] theorem State.supplyBack_held {s₀ : State} (s : State) (mv : Nat) (hs : s.held s₀) : (State.supplyBack s mv).held s₀ := by
  unfold State.supplyBack
  (try simp (maxDischargeDepth := 12) +contextual [*])

theorem execSupplyRecovery_held {s₀ : State} (vauxMv : Nat) (s : State) (hs : s.held s₀) :
    nextSat (execSupplyRecovery vauxMv s) fun t => t.held s₀ := by
  unfold execSupplyRecovery
  (try simp (maxDischargeDepth := 12) +contextual [*])

theorem execPowerOn_held {s₀ : State} (vauxMv : Nat) (s : State) (hs : s.held s₀) :
    nextSat (execPowerOn vauxMv s) fun t => t.held s₀ := by
  unfold execPowerOn
  (try simp (maxDischargeDepth := 12) +contextual [*])

@[simp] theorem State.bootNote_held {s₀ : State} (s : State) (inst : Nat) (hs : s.held s₀) : (State.bootNote s inst).held s₀ := by
  unfold State.bootNote
  (try simp (maxDischargeDepth := 12) +contextual [*])

@[simp] theorem State.boot_held {s₀ : State} (s : State) (k : Option Nat) (hs : s.held s₀) : (State.boot s k).held s₀ := by
  unfold State.boot
  (try simp (maxDischargeDepth := 12) +contextual [*])
  all_goals (repeat' split) <;> (try simp (maxDischargeDepth := 12) +contextual [*])

@[simp] theorem State.slotProgram_held {s₀ : State} (s : State) (k : Nat) (f : FwSlot → FwSlot) (hs : s.held s₀) :
    (State.slotProgram s k f).held s₀ := by
  unfold State.slotProgram
  (try simp (maxDischargeDepth := 12) +contextual [*])

@[simp] theorem State.bootActive_held {s₀ : State} (s : State) (hs : s.held s₀) : (State.bootActive s).held s₀ := by
  unfold State.bootActive
  (try simp (maxDischargeDepth := 12) +contextual [*])

@[simp] theorem State.bootSlot_held {s₀ : State} (s : State) (hs : s.held s₀) : (State.bootSlot s).held s₀ := by
  unfold State.bootSlot
  (try simp (maxDischargeDepth := 12) +contextual [*])
  all_goals (repeat' split) <;> (try simp (maxDischargeDepth := 12) +contextual [*])

@[simp] theorem State.cdRelease_held {s₀ : State} (s : State) (hs : s.held s₀) : (State.cdRelease s).held s₀ := by
  unfold State.cdRelease
  (try simp (maxDischargeDepth := 12) +contextual [*])

theorem execComputeDieResetRelease_held {s₀ : State} (s : State) (hs : s.held s₀) :
    nextSat (execComputeDieResetRelease s) fun t => t.held s₀ := by
  unfold execComputeDieResetRelease
  (try simp (maxDischargeDepth := 12) +contextual [*])

@[simp] theorem State.releaseIfFree_held {s₀ : State} (s : State) (hs : s.held s₀) : (State.releaseIfFree s).held s₀ := by
  unfold State.releaseIfFree
  (try simp (maxDischargeDepth := 12) +contextual [*])

theorem execClockFaultRelease_held {s₀ : State} (s : State) (hs : s.held s₀) :
    nextSat (execClockFaultRelease s) fun t => t.held s₀ := by
  unfold execClockFaultRelease
  (try simp (maxDischargeDepth := 12) +contextual [*])
  all_goals (repeat' split) <;> (try simp (maxDischargeDepth := 12) +contextual [*])

theorem execResetNAssert_held {s₀ : State} (s : State) (hs : s.held s₀) : nextSat (execResetNAssert s) fun t => t.held s₀ := by
  unfold execResetNAssert
  (try simp (maxDischargeDepth := 12) +contextual [*])

theorem execResetNRelease_held {s₀ : State} (s : State) (hs : s.held s₀) : nextSat (execResetNRelease s) fun t => t.held s₀ := by
  unfold execResetNRelease
  (try simp (maxDischargeDepth := 12) +contextual [*])

@[simp] theorem State.resetCommand_held {s₀ : State} (s : State) (v : Nat) (hs : s.held s₀) :
    ((State.resetCommand s v)).1.held s₀ := by
  unfold State.resetCommand
  (try simp (maxDischargeDepth := 12) +contextual [*])

@[simp] theorem following_held {s₀ : State} (f : State → State) (o : Host.Outcome State Fault Refusal)
    (hf : ∀ s : State, s.held s₀ → (f s).held s₀) (ho : nextSat o fun t => t.held s₀) :
    nextSat (following f o) fun t => t.held s₀ := by
  unfold following
  split
  · have := ho _ rfl
    refine next_held _ ?_
    repeat' split
    · exact hf _ this
    · exact this
    · exact this
  · exact ho

theorem execDeviceResetCommand_held {s₀ : State} (req : Req) (value : Nat) (s : State) (hs : s.held s₀) :
    nextSat (execDeviceResetCommand req value s) fun t => t.held s₀ := by
  unfold execDeviceResetCommand
  (try simp (maxDischargeDepth := 12) +contextual [*])
  all_goals (repeat' split) <;> (try simp (maxDischargeDepth := 12) +contextual [*])

@[simp] theorem State.ringMoor_held {s₀ : State} (s : State) (r : Nat) (hs : s.held s₀) : (State.ringMoor s r).held s₀ := by
  unfold State.ringMoor
  (try simp (maxDischargeDepth := 12) +contextual [*])

@[simp] theorem State.moorCommit_held {s₀ : State} (s : State) (hs : s.held s₀) : (State.moorCommit s).held s₀ := by
  unfold State.moorCommit
  (try simp (maxDischargeDepth := 12) +contextual [*])

@[simp] theorem State.moorWork_held {s₀ : State} (s : State) (hs : s.held s₀) : (State.moorWork s).held s₀ := by
  unfold State.moorWork
  (try simp (maxDischargeDepth := 12) +contextual [*])

@[simp] theorem State.moorDone_held {s₀ : State} (s : State) (hs : s.held s₀) : (State.moorDone s).held s₀ := by
  unfold State.moorDone
  (try simp (maxDischargeDepth := 12) +contextual [*])

theorem execMooredEntryComplete_held {s₀ : State} (s : State) (hs : s.held s₀) :
    nextSat (execMooredEntryComplete s) fun t => t.held s₀ := by
  unfold execMooredEntryComplete
  (try simp (maxDischargeDepth := 12) +contextual [*])

@[simp] theorem State.retireTomb_held {s₀ : State} (s : State) (hs : s.held s₀) : (State.retireTomb s).held s₀ := by
  unfold State.retireTomb
  (try simp (maxDischargeDepth := 12) +contextual [*])

@[simp] theorem State.retireKeys_held {s₀ : State} (s : State) (hs : s.held s₀) : (State.retireKeys s).held s₀ := by
  unfold State.retireKeys
  (try simp (maxDischargeDepth := 12) +contextual [*])

@[simp] theorem State.retireWipe_held {s₀ : State} (s : State) (hs : s.held s₀) : (State.retireWipe s).held s₀ := by
  unfold State.retireWipe
  (try simp (maxDischargeDepth := 12) +contextual [*])

@[simp] theorem State.scanRecord_held {s₀ : State} (s : State) (key : Nat) (bs : List Byte) (hs : s.held s₀) :
    (State.scanRecord s key bs).held s₀ := by
  unfold State.scanRecord
  (try simp (maxDischargeDepth := 12) +contextual [*])

@[simp] theorem State.journalResume_held {s₀ : State} (s : State) (hs : s.held s₀) : (State.journalResume s).held s₀ := by
  unfold State.journalResume
  (try simp (maxDischargeDepth := 12) +contextual [*])

@[simp] theorem State.scanJournal_held {s₀ : State} (s : State) (read : List (Nat × List Byte)) (hs : s.held s₀) :
    (State.scanJournal s read).held s₀ := by
  unfold State.scanJournal
  (try simp (maxDischargeDepth := 12) +contextual [*])

@[simp] theorem State.resumeTime_held {s₀ : State} (s : State) (hs : s.held s₀) : (State.resumeTime s).held s₀ := by
  unfold State.resumeTime
  (try simp (maxDischargeDepth := 12) +contextual [*])
  all_goals (repeat' split) <;> (try simp (maxDischargeDepth := 12) +contextual [*])

@[simp] theorem State.startLog_held {s₀ : State} (s : State) (torn : List (Nat × Nat)) (hs : s.held s₀) :
    (State.startLog s torn).held s₀ := by
  unfold State.startLog
  (try simp (maxDischargeDepth := 12) +contextual [*])

@[simp] theorem State.startConfig_held {s₀ : State} (s : State) (hs : s.held s₀) : (State.startConfig s).held s₀ := by
  unfold State.startConfig
  (try simp (maxDischargeDepth := 12) +contextual [*])
  all_goals (repeat' split) <;> (try simp (maxDischargeDepth := 12) +contextual [*])

@[simp] theorem State.startRings_held {s₀ : State} (s : State) (hs : s.held s₀) : (State.startRings s).held s₀ := by
  unfold State.startRings
  (try simp (maxDischargeDepth := 12) +contextual [*])

@[simp] theorem State.startString_held {s₀ : State} (s : State) (n : Nat) (hs : s.held s₀) : (State.startString s n).held s₀ := by
  unfold State.startString
  (try simp (maxDischargeDepth := 12) +contextual [*])

@[simp] theorem State.raiseKept_held {s₀ : State} (s : State) (hs : s.held s₀) : (State.raiseKept s).held s₀ := by
  unfold State.raiseKept
  (try simp (maxDischargeDepth := 12) +contextual [*])

@[simp] theorem State.startEnd_held {s₀ : State} (s : State) (c : StartupChecks) (hs : s.held s₀) :
    (State.startEnd s c).held s₀ := by
  unfold State.startEnd
  (try simp (maxDischargeDepth := 12) +contextual [*])

@[simp] theorem State.logClear_held {s₀ : State} (s : State) (auth : Bool) (node : Nat) (link : Nat) (v : Nat) (hs : s.held s₀) :
    ((State.logClear s auth node link v)).1.held s₀ := by
  unfold State.logClear
  (try simp (maxDischargeDepth := 12) +contextual [*])

theorem execLogClear_held {s₀ : State} (req : Req) (code : BitVec 32) (s : State) (hs : s.held s₀) :
    nextSat (execLogClear req code s) fun t => t.held s₀ := by
  unfold execLogClear
  (try simp (maxDischargeDepth := 12) +contextual [*])

@[simp] theorem State.keyRefused_held {s₀ : State} (s : State) (link : Nat) (st : Nat) (hs : s.held s₀) :
    ((State.keyRefused s link st)).1.held s₀ := by
  unfold State.keyRefused
  (try simp (maxDischargeDepth := 12) +contextual [*])

@[simp] theorem State.enterLife_held {s₀ : State} (s : State) (st : Nat) (hs : s.held s₀) : (State.enterLife s st).held s₀ := by
  unfold State.enterLife
  (try simp (maxDischargeDepth := 12) +contextual [*])

@[simp] theorem State.tamperAck_held {s₀ : State} (s : State) (mask : Nat) (hs : s.held s₀) :
    ((State.tamperAck s mask)).1.held s₀ := by
  unfold State.tamperAck
  (try simp (maxDischargeDepth := 12) +contextual [*])

theorem execTamperAcknowledge_held {s₀ : State} (req : Req) (mask : BitVec 32) (s : State) (hs : s.held s₀) :
    nextSat (execTamperAcknowledge req mask s) fun t => t.held s₀ := by
  unfold execTamperAcknowledge
  (try simp (maxDischargeDepth := 12) +contextual [*])

@[simp] theorem State.fwBegin_held {s₀ : State} (s : State) (hs : s.held s₀) : ((State.fwBegin s)).1.held s₀ := by
  unfold State.fwBegin
  (try simp (maxDischargeDepth := 12) +contextual [*])

theorem execFirmwareBegin_held {s₀ : State} (req : Req) (s : State) (hs : s.held s₀) :
    nextSat (execFirmwareBegin req s) fun t => t.held s₀ := by
  unfold execFirmwareBegin
  (try simp (maxDischargeDepth := 12) +contextual [*])

theorem execFirmwareEraseDone_held {s₀ : State} (s : State) (hs : s.held s₀) :
    nextSat (execFirmwareEraseDone s) fun t => t.held s₀ := by
  unfold execFirmwareEraseDone
  (try simp (maxDischargeDepth := 12) +contextual [*])

@[simp] theorem State.fwChunk_held {s₀ : State} (s : State) (c : Nat) (bs : List Byte) (hs : s.held s₀) :
    ((State.fwChunk s c bs)).1.held s₀ := by
  unfold State.fwChunk
  (try simp (maxDischargeDepth := 12) +contextual [*])

theorem execFirmwareChunkWrite_held {s₀ : State} (req : Req) (chunk : Fin 64) (bytes : List Byte) (s : State) (hs : s.held s₀) :
    nextSat (execFirmwareChunkWrite req chunk bytes s) fun t => t.held s₀ := by
  unfold execFirmwareChunkWrite
  (try simp (maxDischargeDepth := 12) +contextual [*])

@[simp] theorem State.fwVerify_held {s₀ : State} (s : State) (hs : s.held s₀) : ((State.fwVerify s)).1.held s₀ := by
  unfold State.fwVerify
  (try simp (maxDischargeDepth := 12) +contextual [*])

theorem execFirmwareVerify_held {s₀ : State} (req : Req) (s : State) (hs : s.held s₀) :
    nextSat (execFirmwareVerify req s) fun t => t.held s₀ := by
  unfold execFirmwareVerify
  (try simp (maxDischargeDepth := 12) +contextual [*])

@[simp] theorem State.fwActivate_held {s₀ : State} (s : State) (hs : s.held s₀) : ((State.fwActivate s)).1.held s₀ := by
  unfold State.fwActivate
  (try simp (maxDischargeDepth := 12) +contextual [*])

@[simp] theorem State.activateLater_held {s₀ : State} (s : State) (req : Req) (msg : List Byte) (hs : s.held s₀) :
    (State.activateLater s req msg).held s₀ := by
  unfold State.activateLater
  (try simp (maxDischargeDepth := 12) +contextual [*])

theorem execFirmwareActivate_held {s₀ : State} (req : Req) (s : State) (hs : s.held s₀) :
    nextSat (execFirmwareActivate req s) fun t => t.held s₀ := by
  unfold execFirmwareActivate
  (try simp (maxDischargeDepth := 12) +contextual [*])
  all_goals (repeat' split) <;> (try simp (maxDischargeDepth := 12) +contextual [*])

@[simp] theorem State.fwAbort_held {s₀ : State} (s : State) (hs : s.held s₀) : ((State.fwAbort s)).1.held s₀ := by
  unfold State.fwAbort
  (try simp (maxDischargeDepth := 12) +contextual [*])

theorem execFirmwareAbort_held {s₀ : State} (req : Req) (s : State) (hs : s.held s₀) :
    nextSat (execFirmwareAbort req s) fun t => t.held s₀ := by
  unfold execFirmwareAbort
  (try simp (maxDischargeDepth := 12) +contextual [*])

@[simp] theorem State.deriveTemps_held {s₀ : State} (s : State) (hs : s.held s₀) : (State.deriveTemps s).held s₀ := by
  unfold State.deriveTemps
  (try simp (maxDischargeDepth := 12) +contextual [*])

@[simp] theorem State.judgeScope_held {s₀ : State} (s : State) (k : Nat) (hs : s.held s₀) : (State.judgeScope s k).held s₀ := by
  unfold State.judgeScope
  (try simp (maxDischargeDepth := 12) +contextual [*])

@[simp] theorem State.judgeDeviation_held {s₀ : State} (s : State) (k : Nat) (hs : s.held s₀) :
    (State.judgeDeviation s k).held s₀ := by
  unfold State.judgeDeviation
  (try simp (maxDischargeDepth := 12) +contextual [*])

@[simp] theorem State.sensorBreak_held {s₀ : State} (s : State) (k : Nat) (hs : s.held s₀) : (State.sensorBreak s k).held s₀ := by
  unfold State.sensorBreak
  (try simp (maxDischargeDepth := 12) +contextual [*])

@[simp] theorem State.sensorRead_held {s₀ : State} (s : State) (k : Nat) (v : Int) (hs : s.held s₀) :
    (State.sensorRead s k v).held s₀ := by
  unfold State.sensorRead
  (try simp (maxDischargeDepth := 12) +contextual [*])

@[simp] theorem State.sensorsRead_held {s₀ : State} (s : State) (v : List Int) (hs : s.held s₀) : (s.sensorsRead v).held s₀ := by
  unfold State.sensorsRead
  extract_lets live s1 s2 s3
  have h1 : s1.held s₀ := forEach_held _ _ _ hs fun s k h => by split <;> simp [h]
  clear_value s1
  have h2 : s2.held s₀ := forEach_held _ _ _ h1 fun s k h => by simp [h]
  clear_value s2
  have h3 : s3.held s₀ := by simp [s3, h2]
  clear_value s3
  exact forEach_held _ _ _ h3 fun s k h => by simp [h]

theorem execDieSensorConversion_held {s₀ : State} (readings : List Int) (s : State) (hs : s.held s₀) :
    nextSat (execDieSensorConversion readings s) fun t => t.held s₀ := by
  unfold execDieSensorConversion
  (try simp (maxDischargeDepth := 12) +contextual [*])

theorem execDieSensorBroken_held {s₀ : State} (sensor : Fin 12) (late : Bool) (s : State) (hs : s.held s₀) :
    nextSat (execDieSensorBroken sensor late s) fun t => t.held s₀ := by
  unfold execDieSensorBroken
  (try simp (maxDischargeDepth := 12) +contextual [*])

theorem execDieTempFrameTimeout_held {s₀ : State} (s : State) (hs : s.held s₀) :
    nextSat (execDieTempFrameTimeout s) fun t => t.held s₀ := by
  unfold execDieTempFrameTimeout
  (try simp (maxDischargeDepth := 12) +contextual [*])

@[simp] theorem State.setStage_held {s₀ : State} (s : State) (k : Nat) (g : Nat) (hs : s.held s₀) :
    (State.setStage s k g).held s₀ := by
  unfold State.setStage
  (try simp (maxDischargeDepth := 12) +contextual [*])

@[simp] theorem State.stageLeave_held {s₀ : State} (s : State) (k : Nat) (g : Nat) (hs : s.held s₀) :
    (State.stageLeave s k g).held s₀ := by
  unfold State.stageLeave
  (try simp (maxDischargeDepth := 12) +contextual [*])

theorem execThrottleStageLeave_held {s₀ : State} (scope : Fin 4) (stage : Fin 5) (s : State) (hs : s.held s₀) :
    nextSat (execThrottleStageLeave scope stage s) fun t => t.held s₀ := by
  unfold execThrottleStageLeave
  (try simp (maxDischargeDepth := 12) +contextual [*])

theorem execScrubPass_held {s₀ : State} (corrected : Nat) (s : State) (hs : s.held s₀) :
    nextSat (execScrubPass corrected s) fun t => t.held s₀ := by
  unfold execScrubPass
  (try simp (maxDischargeDepth := 12) +contextual [*])

@[simp] theorem State.calibrated_held {s₀ : State} (s : State) (k : Nat) (ppm : Int) (hs : s.held s₀) :
    (State.calibrated s k ppm).held s₀ := by
  unfold State.calibrated
  (try simp (maxDischargeDepth := 12) +contextual [*])

theorem execConverterCalibration_held {s₀ : State} (conv : Fin 8) (ppm : Int) (s : State) (hs : s.held s₀) :
    nextSat (execConverterCalibration conv ppm s) fun t => t.held s₀ := by
  unfold execConverterCalibration
  (try simp (maxDischargeDepth := 12) +contextual [*])

@[simp] theorem State.damageCopy_held {s₀ : State} (s : State) (k : Nat) (hs : s.held s₀) : (State.damageCopy s k).held s₀ := by
  unfold State.damageCopy
  (try simp (maxDischargeDepth := 12) +contextual [*])

@[simp] theorem State.badCopy_held {s₀ : State} (s : State) (repair : Bool) (k : Nat) (hs : s.held s₀) :
    (State.badCopy s repair k).held s₀ := by
  unfold State.badCopy
  (try simp (maxDischargeDepth := 12) +contextual [*])

@[simp] theorem State.slotCheck_held {s₀ : State} (s : State) (bs : List (Nat × Byte)) (hs : s.held s₀) :
    (State.slotCheck s bs).held s₀ := by
  unfold State.slotCheck
  (try simp (maxDischargeDepth := 12) +contextual [*])
  all_goals (repeat' split) <;> (try simp (maxDischargeDepth := 12) +contextual [*])

@[simp] theorem State.configDamaged_held {s₀ : State} (s : State) (hs : s.held s₀) : (State.configDamaged s).held s₀ := by
  unfold State.configDamaged
  (try simp (maxDischargeDepth := 12) +contextual [*])

@[simp] theorem State.integrity_held {s₀ : State} (s : State) (c : Integrity) (repair : Bool) (hs : s.held s₀) :
    (State.integrity s c repair).held s₀ := by
  unfold State.integrity
  (try simp (maxDischargeDepth := 12) +contextual [*])

theorem execIntegrityCheck_held {s₀ : State} (c : Integrity) (s : State) (hs : s.held s₀) :
    nextSat (execIntegrityCheck c s) fun t => t.held s₀ := by
  unfold execIntegrityCheck
  (try simp (maxDischargeDepth := 12) +contextual [*])

@[simp] theorem State.selfTestTrains_held {s₀ : State} (s : State) (t : Nat) (hs : s.held s₀) :
    (State.selfTestTrains s t).held s₀ := by
  unfold State.selfTestTrains
  (try simp (maxDischargeDepth := 12) +contextual [*])

@[simp] theorem State.selfTest_held {s₀ : State} (s : State) (v : Nat) (hs : s.held s₀) : ((State.selfTest s v)).1.held s₀ := by
  unfold State.selfTest
  (try simp (maxDischargeDepth := 12) +contextual [*])
  all_goals (repeat' split) <;> (try simp (maxDischargeDepth := 12) +contextual [*])

theorem execDeviceSelfTestRequest_held {s₀ : State} (req : Req) (value : BitVec 32) (s : State) (hs : s.held s₀) :
    nextSat (execDeviceSelfTestRequest req value s) fun t => t.held s₀ := by
  unfold execDeviceSelfTestRequest
  (try simp (maxDischargeDepth := 12) +contextual [*])

@[simp] theorem State.firmwareTests_held {s₀ : State} (s : State) (t : Nat) (x : TestFound) (hs : s.held s₀) :
    (State.firmwareTests s t x).held s₀ := by
  unfold State.firmwareTests
  (try simp (maxDischargeDepth := 12) +contextual [*])

@[simp] theorem State.deviceTested_held {s₀ : State} (s : State) (q : Nat) (t : Nat) (x : TestFound) (hs : s.held s₀) :
    (State.deviceTested s q t x).held s₀ := by
  unfold State.deviceTested
  (try simp (maxDischargeDepth := 12) +contextual [*])
  all_goals (repeat' split) <;> (try simp (maxDischargeDepth := 12) +contextual [*])

theorem execDeviceSelfTestDone_held {s₀ : State} (found : TestFound) (s : State) (hs : s.held s₀) :
    nextSat (execDeviceSelfTestDone found s) fun t => t.held s₀ := by
  unfold execDeviceSelfTestDone
  all_goals (repeat' split) <;> (try simp (maxDischargeDepth := 12) +contextual [*])

@[simp] theorem State.countIn_held {s₀ : State} (s : State) (f : QlpFrame) (hs : s.held s₀) : (State.countIn s f).held s₀ := by
  unfold State.countIn
  (try simp (maxDischargeDepth := 12) +contextual [*])

@[simp] theorem State.strange_held {s₀ : State} (s : State) (f : QlpFrame) (hs : s.held s₀) : (State.strange s f).held s₀ := by
  unfold State.strange
  (try simp (maxDischargeDepth := 12) +contextual [*])

@[simp] theorem State.violation_held {s₀ : State} (s : State) (link : Nat) (cat : Nat) (hs : s.held s₀) :
    (State.violation s link cat).held s₀ := by
  unfold State.violation
  (try simp (maxDischargeDepth := 12) +contextual [*])

@[simp] theorem State.accepts_held {s₀ : State} (s : State) (f : QlpFrame) (hs : s.held s₀) :
    ((State.accepts s f)).1.held s₀ := by
  unfold State.accepts
  (try simp (maxDischargeDepth := 12) +contextual [*])

@[simp] theorem State.receive_held {s₀ : State} (s : State) (f : QlpFrame) (cls : Nat) (op : State → State) (hs : s.held s₀)
    (ho : ∀ s : State, s.held s₀ → (op s).held s₀) : nextSat (s.receive f cls op) fun t => t.held s₀ := by
  unfold State.receive
  extract_lets l r
  have h1 : r.1.held s₀ := by simp (maxDischargeDepth := 12) [r, *]
  clear_value r
  split
  · exact next_held _ hs
  split
  · exact next_held _ (by simp [hs])
  split
  · exact next_held _ (by simp (maxDischargeDepth := 12) [hs])
  · refine next_held _ ?_
    split
    · exact ho _ h1
    · exact h1

@[simp] theorem State.keepResponse_held {s₀ : State} (s : State) (f : QlpFrame) (r : Reply) (sent : List Byte) (hs : s.held s₀) :
    (State.keepResponse s f r sent).held s₀ := by
  unfold State.keepResponse
  (try simp (maxDischargeDepth := 12) +contextual [*])

@[simp] theorem State.sendResponse_held {s₀ : State} (s : State) (f : QlpFrame) (payload : List Byte) (hs : s.held s₀) :
    (State.sendResponse s f payload).held s₀ := by
  unfold State.sendResponse
  (try simp (maxDischargeDepth := 12) +contextual [*])

@[simp] theorem State.answer_held {s₀ : State} (s : State) (f : QlpFrame) (status : Nat) (sub : Nat) (stamps : (List (Nat × Nat))) (data : (List Byte)) (hs : s.held s₀) :
    (State.answer s f status sub stamps data).held s₀ := by
  unfold State.answer
  (try simp (maxDischargeDepth := 12) +contextual [*])

@[simp] theorem State.setTransfer_held {s₀ : State} (s : State) (t : Transfer) (hs : s.held s₀) :
    (State.setTransfer s t).held s₀ := by
  unfold State.setTransfer
  (try simp (maxDischargeDepth := 12) +contextual [*])

@[simp] theorem State.endTransfer_held {s₀ : State} (s : State) (t : Transfer) (hs : s.held s₀) :
    (State.endTransfer s t).held s₀ := by
  unfold State.endTransfer
  (try simp (maxDischargeDepth := 12) +contextual [*])

@[simp] theorem State.burst_held {s₀ : State} (s : State) (t : Transfer) (n : Nat) (hs : s.held s₀) :
    (State.burst s t n).held s₀ := by
  unfold State.burst
  (try simp (maxDischargeDepth := 12) +contextual [*])

@[simp] theorem State.answerData_held {s₀ : State} (s : State) (f : QlpFrame) (status : Nat) (stamps : List (Nat × Nat)) (data : List Byte) (hs : s.held s₀) :
    (State.answerData s f status stamps data).held s₀ := by
  unfold State.answerData
  (try simp (maxDischargeDepth := 12) +contextual [*])

@[simp] theorem State.countRate_held {s₀ : State} (s : State) (f : QlpFrame) (hs : s.held s₀) :
    ((State.countRate s f)).1.held s₀ := by
  unfold State.countRate
  (try simp (maxDischargeDepth := 12) +contextual [*])

@[simp] theorem State.ask_held {s₀ : State} (s : State) (f : QlpFrame) (op : Nat) (run : State → State) (hs : s.held s₀)
    (ho : ∀ s : State, s.held s₀ → (run s).held s₀) : nextSat (s.ask f op run) fun t => t.held s₀ := by
  unfold State.ask
  split
  · exact next_held _ hs
  refine State.receive_held _ _ _ _ hs fun s hs => ?_
  have h1 : (s.countRate f).1.held s₀ := by simp [*]
  extract_lets r s1
  change s1.held s₀ at h1
  clear_value s1
  iterate 3
    split
    · simp (maxDischargeDepth := 12) [h1]
  split
  · simp [h1]
  repeat' split
  · simp [h1]
  · simp [h1]
  · exact ho _ h1

@[simp] theorem State.readRun_held {s₀ : State} (s : State) (f : QlpFrame) (hs : s.held s₀) : (State.readRun s f).held s₀ := by
  unfold State.readRun
  (try simp (maxDischargeDepth := 12) +contextual [*])
  all_goals (repeat' split) <;> (try simp (maxDischargeDepth := 12) +contextual [*])

theorem execQlpRead_held {s₀ : State} (f : QlpFrame) (s : State) (hs : s.held s₀) :
    nextSat (execQlpRead f s) fun t => t.held s₀ := by
  unfold execQlpRead
  (try simp (maxDischargeDepth := 12) +contextual [*])

@[simp] theorem State.tagCheck_held {s₀ : State} (s : State) (f : QlpFrame) (data : List Byte) (short : Nat) (ok : Session → Bool) (hs : s.held s₀) :
    ((State.tagCheck s f data short ok)).1.held s₀ := by
  unfold State.tagCheck
  (try simp (maxDischargeDepth := 12) +contextual [*])
  all_goals (repeat' split) <;> (try simp (maxDischargeDepth := 12) +contextual [*])

@[simp] theorem allOrNone_held {s₀ : State} (n : Nat) (s : State) (r : State × Nat × Nat) (hs : s.held s₀) (hr : r.1.held s₀) :
    (allOrNone n s r).1.held s₀ := by
  unfold allOrNone
  split
  · exact hs
  · exact hr

@[simp] theorem State.afterWrite_held {s₀ : State} (s : State) (i : Nat) (v : Nat) (hs : s.held s₀) :
    (State.afterWrite s i v).held s₀ := by
  unfold State.afterWrite
  (try simp (maxDischargeDepth := 12) +contextual [*])

@[simp] theorem State.openRun_held {s₀ : State} (s : State) (f : QlpFrame) (hs : s.held s₀) : (State.openRun s f).held s₀ := by
  unfold State.openRun
  (try simp (maxDischargeDepth := 12) +contextual [*])

theorem execSessionOpen_held {s₀ : State} (f : QlpFrame) (s : State) (hs : s.held s₀) :
    nextSat (execSessionOpen f s) fun t => t.held s₀ := by
  unfold execSessionOpen
  (try simp (maxDischargeDepth := 12) +contextual [*])

@[simp] theorem State.authRun_held {s₀ : State} (s : State) (f : QlpFrame) (hs : s.held s₀) : (State.authRun s f).held s₀ := by
  unfold State.authRun
  (try simp (maxDischargeDepth := 12) +contextual [*])
  all_goals (repeat' split) <;> (try simp (maxDischargeDepth := 12) +contextual [*])

theorem execSessionAuth_held {s₀ : State} (f : QlpFrame) (s : State) (hs : s.held s₀) :
    nextSat (execSessionAuth f s) fun t => t.held s₀ := by
  unfold execSessionAuth
  (try simp (maxDischargeDepth := 12) +contextual [*])

@[simp] theorem State.taggedRun_held {s₀ : State} (s : State) (f : QlpFrame) (n : Nat) (op : State → State) (hs : s.held s₀)
    (ho : ∀ s : State, s.held s₀ → (op s).held s₀) : (s.taggedRun f n op).held s₀ := by
  unfold State.taggedRun
  split
  · simp (maxDischargeDepth := 12) [*]
  · simp only
    repeat' split
    · simp (maxDischargeDepth := 12) [*]
    · simp (maxDischargeDepth := 12) [*]
    · exact ho _ (by simp (maxDischargeDepth := 12) [*])

theorem execSessionClose_held {s₀ : State} (f : QlpFrame) (s : State) (hs : s.held s₀) :
    nextSat (execSessionClose f s) fun t => t.held s₀ := by
  unfold execSessionClose
  (try simp (maxDischargeDepth := 12) +contextual [*])

@[simp] theorem State.timeSetRun_held {s₀ : State} (s : State) (f : QlpFrame) (ageUs : Nat) (hs : s.held s₀) :
    (State.timeSetRun s f ageUs).held s₀ := by
  unfold State.timeSetRun
  (try simp (maxDischargeDepth := 12) +contextual [*])

theorem execTimeSet_held {s₀ : State} (f : QlpFrame) (ageUs : Nat) (s : State) (hs : s.held s₀) :
    nextSat (execTimeSet f ageUs s) fun t => t.held s₀ := by
  unfold execTimeSet
  (try simp (maxDischargeDepth := 12) +contextual [*])

@[simp] theorem State.abortTo_held {s₀ : State} (s : State) (f : QlpFrame) (status : Nat) (hs : s.held s₀) :
    (State.abortTo s f status).held s₀ := by
  unfold State.abortTo
  (try simp (maxDischargeDepth := 12) +contextual [*])

@[simp] theorem State.blockFrame_held {s₀ : State} (s : State) (f : QlpFrame) (kind : Nat) (op : State → State) (hs : s.held s₀)
    (ho : ∀ s : State, s.held s₀ → (op s).held s₀) : nextSat (s.blockFrame f kind op) fun t => t.held s₀ := by
  unfold State.blockFrame
  split
  · exact next_held _ hs
  refine State.receive_held _ _ _ _ hs fun s hs => ?_
  split
  · simp (maxDischargeDepth := 12) [*]
  · exact ho _ hs

@[simp] theorem State.strayed_held {s₀ : State} (s : State) (f : QlpFrame) (hs : s.held s₀) : (State.strayed s f).held s₀ := by
  unfold State.strayed
  (try simp (maxDischargeDepth := 12) +contextual [*])

@[simp] theorem State.ackSegments_held {s₀ : State} (s : State) (t : Transfer) (hs : s.held s₀) :
    (State.ackSegments s t).held s₀ := by
  unfold State.ackSegments
  (try simp (maxDischargeDepth := 12) +contextual [*])

@[simp] theorem State.blockAck_held {s₀ : State} (s : State) (f : QlpFrame) (hs : s.held s₀) : (State.blockAck s f).held s₀ := by
  unfold State.blockAck
  (try simp (maxDischargeDepth := 12) +contextual [*])
  all_goals (repeat' split) <;> (try simp (maxDischargeDepth := 12) +contextual [*])

theorem execBlockAck_held {s₀ : State} (f : QlpFrame) (s : State) (hs : s.held s₀) :
    nextSat (execBlockAck f s) fun t => t.held s₀ := by
  unfold execBlockAck
  (try simp (maxDischargeDepth := 12) +contextual [*])

theorem execBlockAbort_held {s₀ : State} (f : QlpFrame) (s : State) (hs : s.held s₀) :
    nextSat (execBlockAbort f s) fun t => t.held s₀ := by
  unfold execBlockAbort
  refine State.blockFrame_held _ _ _ _ hs fun s hs => ?_
  split <;> simp [hs]

@[simp] theorem State.transferLate_held {s₀ : State} (s : State) (t : Transfer) (hs : s.held s₀) :
    (State.transferLate s t).held s₀ := by
  unfold State.transferLate
  (try simp (maxDischargeDepth := 12) +contextual [*])

theorem execSegmentTimeout_held {s₀ : State} (link : Fin 3) (src : Nat) (s : State) (hs : s.held s₀) :
    nextSat (execSegmentTimeout link src s) fun t => t.held s₀ := by
  unfold execSegmentTimeout
  all_goals (repeat' split) <;> (try simp (maxDischargeDepth := 12) +contextual [*])

@[simp] theorem State.refill_held {s₀ : State} (s : State) (link : Nat) (hs : s.held s₀) : (State.refill s link).held s₀ := by
  unfold State.refill
  (try simp (maxDischargeDepth := 12) +contextual [*])

@[simp] theorem State.txDone_held {s₀ : State} (s : State) (ch : Nat) (won : Bool) (sofDelay : Nat) (tdcNs : Nat) (hs : s.held s₀) :
    (State.txDone s ch won sofDelay tdcNs).held s₀ := by
  unfold State.txDone
  (try simp (maxDischargeDepth := 12) +contextual [*])

theorem execCanTxDone_held {s₀ : State} (ch : Fin 2) (won : Bool) (sofDelay : Nat) (tdcNs : Nat) (s : State) (hs : s.held s₀) :
    nextSat (execCanTxDone ch won sofDelay tdcNs s) fun t => t.held s₀ := by
  unfold execCanTxDone
  (try simp (maxDischargeDepth := 12) +contextual [*])

theorem execResponseQueueTimeout_held {s₀ : State} (link : Fin 3) (s : State) (hs : s.held s₀) :
    nextSat (execResponseQueueTimeout link s) fun t => t.held s₀ := by
  unfold execResponseQueueTimeout
  (try simp (maxDischargeDepth := 12) +contextual [*])

theorem execCanBusOff_held {s₀ : State} (ch : Fin 2) (txErr : Nat) (rxErr : Nat) (busOff : Bool) (s : State) (hs : s.held s₀) :
    nextSat (execCanBusOff ch txErr rxErr busOff s) fun t => t.held s₀ := by
  unfold execCanBusOff
  (try simp (maxDischargeDepth := 12) +contextual [*])

theorem execCanBusOffRecovery_held {s₀ : State} (ch : Fin 2) (s : State) (hs : s.held s₀) :
    nextSat (execCanBusOffRecovery ch s) fun t => t.held s₀ := by
  unfold execCanBusOffRecovery
  (try simp (maxDischargeDepth := 12) +contextual [*])

theorem execCanTimingApply_held {s₀ : State} (ch : Fin 2) (s : State) (hs : s.held s₀) :
    nextSat (execCanTimingApply ch s) fun t => t.held s₀ := by
  unfold execCanTimingApply
  (try simp (maxDischargeDepth := 12) +contextual [*])

@[simp] theorem State.lighthouse_held {s₀ : State} (s : State) (ch : Nat) (hs : s.held s₀) : (State.lighthouse s ch).held s₀ := by
  unfold State.lighthouse
  (try simp (maxDischargeDepth := 12) +contextual [*])

theorem execLighthouseDue_held {s₀ : State} (ch : Fin 2) (s : State) (hs : s.held s₀) :
    nextSat (execLighthouseDue ch s) fun t => t.held s₀ := by
  unfold execLighthouseDue
  (try simp (maxDischargeDepth := 12) +contextual [*])

@[simp] theorem State.sendFragments_held {s₀ : State} (link : Nat) (l : List Out) (s : State) (hs : s.held s₀) :
    (State.sendFragments link l s).held s₀ := by
  induction l generalizing s with
  | nil => exact hs
  | cons o l ih =>
    unfold State.sendFragments
    simp only
    split
    · exact ih _ (by simp (maxDischargeDepth := 12) [*])
    · simp (maxDischargeDepth := 12) [*]

@[simp] theorem State.streamSend_held {s₀ : State} (s : State) (k : Nat) (hs : s.held s₀) : (s.streamSend k).held s₀ := by
  unfold State.streamSend
  extract_lets link dest body sseq q s1 parts outs
  have h1 : s1.held s₀ := by simp [s1, *]
  clear_value s1
  split <;> simp (maxDischargeDepth := 12) [*]

theorem execStreamSnapshotDue_held {s₀ : State} (stream : Fin 8) (s : State) (hs : s.held s₀) :
    nextSat (execStreamSnapshotDue stream s) fun t => t.held s₀ := by
  unfold execStreamSnapshotDue
  (try simp (maxDischargeDepth := 12) +contextual [*])

@[simp] theorem State.ethGone_held {s₀ : State} (s : State) (o : Out) (hs : s.held s₀) : (State.ethGone s o).held s₀ := by
  unfold State.ethGone
  (try simp (maxDischargeDepth := 12) +contextual [*])

@[simp] theorem State.ethSend_held {s₀ : State} (s : State) (hs : s.held s₀) : (State.ethSend s).held s₀ := by
  unfold State.ethSend
  (try simp (maxDischargeDepth := 12) +contextual [*])
  all_goals (repeat' split) <;> (try simp (maxDischargeDepth := 12) +contextual [*])

@[simp] theorem State.stackFrame_held {s₀ : State} (s : State) (cls : Nat) (addr : Nat) (payload : List Byte) (hs : s.held s₀) :
    (State.stackFrame s cls addr payload).held s₀ := by
  unfold State.stackFrame
  (try simp (maxDischargeDepth := 12) +contextual [*])

theorem execEthLinkUp_held {s₀ : State} (fast : Bool) (full : Bool) (s : State) (hs : s.held s₀) :
    nextSat (execEthLinkUp fast full s) fun t => t.held s₀ := by
  unfold execEthLinkUp
  (try simp (maxDischargeDepth := 12) +contextual [*])

theorem execArpRequest_held {s₀ : State} (targetIp : Nat) (sender : Nat) (s : State) (hs : s.held s₀) :
    nextSat (execArpRequest targetIp sender s) fun t => t.held s₀ := by
  unfold execArpRequest
  (try simp (maxDischargeDepth := 12) +contextual [*])

theorem execIcmpEchoRequest_held {s₀ : State} (len : Nat) (fragment : Bool) (sender : Nat) (s : State) (hs : s.held s₀) :
    nextSat (execIcmpEchoRequest len fragment sender s) fun t => t.held s₀ := by
  unfold execIcmpEchoRequest
  (try simp (maxDischargeDepth := 12) +contextual [*])

theorem execEthLinkDown_held {s₀ : State} (s : State) (hs : s.held s₀) : nextSat (execEthLinkDown s) fun t => t.held s₀ := by
  unfold execEthLinkDown
  (try simp (maxDischargeDepth := 12) +contextual [*])

@[simp] theorem State.dupTransmit_held {s₀ : State} (s : State) (hs : s.held s₀) : (State.dupTransmit s).held s₀ := by
  unfold State.dupTransmit
  (try simp (maxDischargeDepth := 12) +contextual [*])

@[simp] theorem State.stageTime_held {s₀ : State} (s : State) (hs : s.held s₀) : (State.stageTime s).held s₀ := by
  unfold State.stageTime
  (try simp (maxDischargeDepth := 12) +contextual [*])

@[simp] theorem State.fabricRuns_held {s₀ : State} (s : State) (hs : s.held s₀) : (State.fabricRuns s).held s₀ := by
  unfold State.fabricRuns
  (try simp (maxDischargeDepth := 12) +contextual [*])

@[simp] theorem State.tamperCommit_held {s₀ : State} (s : State) (hs : s.held s₀) : (State.tamperCommit s).held s₀ := by
  unfold State.tamperCommit
  (try simp (maxDischargeDepth := 12) +contextual [*])

@[simp] theorem State.tick_held {s₀ : State} (s : State) (hs : s.held s₀) : (State.tick s).held s₀ := by
  unfold State.tick
  (try simp (maxDischargeDepth := 12) +contextual [*])

end Sys2Proof.Machine
end

