-- ==== Sys2Proof/Laws/Onwards.lean ====
section
/-! SUPPORT. Sys2Proof/Laws/Onwards.lean: no operation and no command undoes what `State.onwards` says stays: the variant, the OTP bits, local time, the queue
(the base, the shared operations, the log and the queues). -/

namespace Sys2Proof.Machine

def onVariant (s₀ : State) (v : Variant) : Prop := v = s₀.variant

def onOtp (s₀ : State) (o : Otp) : Prop := s₀.otp.keeps o

def onClock (s₀ : State) (c : Clock) : Prop := s₀.clk.mono ≤ c.mono ∧ s₀.clk.now ≤ c.now

def onPending (s₀ : State) (p : List Instr) : Prop := p = s₀.pending

@[simp] theorem State.onwards.mk_iff {s₀ : State} (pending variant objs otp clk pwr wd linkP linkC refused drivers ls motors
    vmot gov pairs strs rings monitors cells temps chans capture ev fab shots otest qlp log flash dup th fw) :
  State.onwards ⟨pending, variant, objs, otp, clk, pwr, wd, linkP, linkC, refused, drivers, ls, motors, vmot, gov, pairs, strs, rings, monitors, cells, temps, chans, capture, ev, fab, shots, otest, qlp, log, flash, dup, th, fw⟩ s₀ ↔ (onVariant s₀ variant ∧ onOtp s₀ otp ∧ onClock s₀ clk ∧ onPending s₀ pending) := Iff.rfl

@[simp] theorem ow_variant {s s₀ : State} (h : s.onwards s₀) : onVariant s₀ s.variant := h.1

@[simp] theorem ow_otp {s s₀ : State} (h : s.onwards s₀) : onOtp s₀ s.otp := h.2.1

@[simp] theorem ow_clk {s s₀ : State} (h : s.onwards s₀) : onClock s₀ s.clk := h.2.2.1

@[simp] theorem ow_pending {s s₀ : State} (h : s.onwards s₀) : onPending s₀ s.pending := h.2.2.2

@[simp] theorem ow_mono {s s₀ : State} (h : s.onwards s₀) : s₀.clk.mono ≤ s.clk.mono := h.2.2.1.1

@[simp] theorem ow_mono1 {s s₀ : State} (h : s.onwards s₀) : s₀.clk.mono ≤ s.clk.mono + 1 := le_trans h.2.2.1.1 (Nat.le_succ _)

@[simp] theorem ow_now {s s₀ : State} (h : s.onwards s₀) : s₀.clk.now ≤ s.clk.now := h.2.2.1.2

@[simp] theorem ow_later {s s₀ : State} (n : Nat) (h : s.onwards s₀) : s₀.clk.now ≤ s.clk.now + n := le_trans h.2.2.1.2
    (Nat.le_add_right _ _)

@[simp] theorem onClock.mk_iff {s₀ : State} (mono now frac slewNs rateHold stepNs everSynced measured resumed ahead timeSetAt
    lastSync syncInterval16 goodSyncs rtcRunning fallback8 clockGoodSince faulty1 faulty5 markAt) :
  onClock s₀ ⟨mono, now, frac, slewNs, rateHold, stepNs, everSynced, measured, resumed, ahead, timeSetAt, lastSync, syncInterval16, goodSyncs, rtcRunning, fallback8, clockGoodSince, faulty1, faulty5, markAt⟩ ↔ s₀.clk.mono ≤ mono ∧ s₀.clk.now ≤ now := Iff.rfl

theorem State.onwards_refl (s : State) : s.onwards s := by
  refine ⟨rfl, ⟨?_, ?_, fun _ _ h => h, le_refl _, id, id, rfl, rfl, rfl, rfl⟩, ⟨le_refl _, le_refl _⟩, rfl⟩ <;> intros <;> simp

theorem and_trans {a b c : Byte} (h : a &&& b = a) (h' : b &&& c = b) : a &&& c = a := by
  rw [← h, BitVec.and_assoc, h']

theorem Otp.keeps_trans {a b c : Otp} (h : a.keeps b) (h' : b.keeps c) : a.keeps c := by
  obtain ⟨h1, h2, h3, h4, h5, h6, h7, h8, h9, h10⟩ := h
  obtain ⟨g1, g2, g3, g4, g5, g6, g7, g8, g9, g10⟩ := h'
  exact ⟨fun k hk i hi => and_trans (h1 k hk i hi) (g1 k hk i hi), fun k hk i hi => and_trans (h2 k hk i hi) (g2 k hk i hi),
    fun k hk h => g3 k hk (h3 k hk h), le_trans h4 g4, fun h => g5 (h5 h), fun h => g6 (h6 h), g7.trans h7, g8.trans h8,
    g9.trans h9, g10.trans h10⟩

theorem Otp.keeps_refl (o : Otp) : o.keeps o := by
  refine ⟨?_, ?_, fun _ _ h => h, le_refl _, id, id, rfl, rfl, rfl, rfl⟩ <;> intros <;> simp

/-- A step of the OTP store alone. -/
theorem State.onwards_otp {s s₀ : State} {o : Otp} (hs : s.onwards s₀) (h : s.otp.keeps o) :
    State.onwards { s with otp := o } s₀ := ⟨hs.1, Otp.keeps_trans hs.2.1 h, hs.2.2⟩

theorem mget_unlisted {α : Type} (d : α) (m : SMap α) (k : Nat) (h : mhas m k = false) : mget d m k = d := by
  induction m with
  | nil => rfl
  | cons e m ih =>
    obtain ⟨a, v⟩ := e
    simp [mhas] at h
    rw [mget_cons, if_neg h.1]
    exact ih (by simpa [mhas] using h.2)

theorem keeps_site (o : Otp) (k : Nat) (key : List Byte) (hk : mhas o.siteKeys k = false) :
    o.keeps { o with siteKeys := mins o.siteKeys k key } := by
  refine ⟨fun j hj i hi => ?_, fun _ _ _ _ => by simp, fun _ _ h => h, le_refl _, id, id, rfl, rfl, rfl, rfl⟩
  by_cases h : j = k
  · subst h; rw [mget_unlisted _ _ _ hk]; simp [byteAt]
  · rw [mget_mins_other _ _ _ _ _ h]; simp

theorem keeps_module (o : Otp) (k : Nat) (key : List Byte) (hk : mhas o.moduleKeys k = false) :
    o.keeps { o with moduleKeys := mins o.moduleKeys k key } := by
  refine ⟨fun _ _ _ _ => by simp, fun j hj i hi => ?_, fun _ _ h => h, le_refl _, id, id, rfl, rfl, rfl, rfl⟩
  by_cases h : j = k
  · subst h; rw [mget_unlisted _ _ _ hk]; simp [byteAt]
  · rw [mget_mins_other _ _ _ _ _ h]; simp

theorem keeps_commissioned (o : Otp) : o.keeps { o with commissioned := true } := by
  refine ⟨?_, ?_, fun _ _ h => h, le_refl _, id, fun _ => rfl, rfl, rfl, rfl, rfl⟩ <;> intros <;> simp

theorem keeps_retired (o : Otp) : o.keeps { o with retired := true } := by
  refine ⟨?_, ?_, fun _ _ h => h, le_refl _, fun _ => rfl, id, rfl, rfl, rfl, rfl⟩ <;> intros <;> simp

theorem keeps_floor (o : Otp) (n : Nat) (h : o.floor ≤ n) : o.keeps { o with floor := n } := by
  refine ⟨?_, ?_, fun _ _ h => h, h, id, id, rfl, rfl, rfl, rfl⟩ <;> intros <;> simp

theorem byteAt_ones (n i : Nat) (h : i < n) : byteAt (ones n) i = 0xFF#8 := by
  simp [byteAt, ones, h]

theorem keeps_zeroised (o : Otp) : o.keeps { o with
    siteKeys := (List.range 4).map fun k => (k, ones 32), moduleKeys := (List.range 16).map fun k => (k, ones 16)
    revoked := List.range 20 } := by
  have h4 : ∀ k < 4, mget [] ((List.range 4).map fun k => (k, ones 32)) k = ones 32 := by
    intro k hk; interval_cases k <;> rfl
  have h16 : ∀ k < 16, mget [] ((List.range 16).map fun k => (k, ones 16)) k = ones 16 := by
    intro k hk; interval_cases k <;> rfl
  have hf : ∀ x : Byte, x &&& 0xFF#8 = x := by decide
  refine ⟨fun k hk i hi => ?_, fun k hk i hi => ?_, fun k hk _ => by simpa using hk, le_refl _, id, id, rfl, rfl, rfl, rfl⟩
  · simp only [h4 k hk, byteAt_ones 32 i hi, hf]
  · simp only [h16 k hk, byteAt_ones 16 i hi, hf]

@[simp] theorem forEach_onwards {s₀ : State} {α : Type} (l : List α) (s : State) (f : State → α → State) (h : s.onwards s₀)
    (hf : ∀ s a, s.onwards s₀ → (f s a).onwards s₀) :
    (forEach l s f).onwards s₀ := by
  unfold forEach
  induction l generalizing s with
  | nil => exact h
  | cons a l ih => exact ih _ (hf s a h)

@[simp] theorem onwards_ite {s₀ : State} (c : Prop) [Decidable c] (a b : State) (ha : c → a.onwards s₀) (hb : ¬c → b.onwards s₀) : (if c then a else b).onwards s₀ := by split <;> simp_all

@[simp] theorem onwards_ite1 {s₀ : State} {α : Type} (c : Prop) [Decidable c] (a b : State × α) (ha : c → a.1.onwards s₀) (hb : ¬c → b.1.onwards s₀) : (if c then a else b).1.onwards s₀ := by split <;> simp_all

theorem next_onwards {s₀ : State} (s : State) (hs : s.onwards s₀) : nextSat (.next s) fun t => t.onwards s₀ := by
  intro t h; cases h; exact hs

@[simp] theorem nextSat_onwards {s₀ : State} (s : State) : (nextSat (.next s) fun t => t.onwards s₀) ↔ s.onwards s₀ :=
  ⟨fun h => h _ rfl, next_onwards s⟩

@[simp] theorem refuse_onwards {s₀ : State} (s : State) (n : Nat) (h : s.onwards s₀) : (refuse s n).1.onwards s₀ := h

@[simp] theorem accept_onwards {s₀ : State} (s : State) (h : s.onwards s₀) : (accept s).1.onwards s₀ := h

theorem fst_ite_onwards {s₀ : State} {α : Type} (c : Prop) [Decidable c] (a b : State × α) (ha : a.1.onwards s₀) (hb :
    b.1.onwards s₀) :
    (if c then a else b).1.onwards s₀ := by
  split
  · exact ha
  · exact hb

theorem foldl_first_onwards {s₀ : State} {α β : Type} (f : State × β → α → State × β) (l : List α) (h : ∀ r a, r.1.onwards s₀
    → (f r a).1.onwards s₀)
    (r : State × β) (hr : r.1.onwards s₀) : (l.foldl f r).1.onwards s₀ := by
  induction l generalizing r with
  | nil => exact hr
  | cons a l ih => exact ih _ (h _ _ hr)

@[simp] theorem done_onwards {s₀ : State} (s : State) (hs : s.onwards s₀) : nextSat (done s) fun t => t.onwards s₀ := by
  intro t h; cases h; exact hs

@[simp] theorem doneIf_onwards {s₀ : State} (c : Bool) (t s : State) (ht : c = true → t.onwards s₀) (hs : s.onwards s₀) :
    nextSat (doneIf c t s) fun t => t.onwards s₀ := by
  intro u h
  cases h
  split
  · exact ht ‹_›
  · exact hs

@[simp] theorem State.drvUpd_onwards {s₀ : State} (s : State) (k : Nat) (f : Driver → Driver) (hs : s.onwards s₀) :
    (State.drvUpd s k f).onwards s₀ := by
  unfold State.drvUpd
  (try simp (maxDischargeDepth := 12) +contextual [*])

@[simp] theorem State.lswUpd_onwards {s₀ : State} (s : State) (k : Nat) (f : LoadSw → LoadSw) (hs : s.onwards s₀) :
    (State.lswUpd s k f).onwards s₀ := by
  unfold State.lswUpd
  (try simp (maxDischargeDepth := 12) +contextual [*])

@[simp] theorem State.motUpd_onwards {s₀ : State} (s : State) (k : Nat) (f : Motor → Motor) (hs : s.onwards s₀) :
    (State.motUpd s k f).onwards s₀ := by
  unfold State.motUpd
  (try simp (maxDischargeDepth := 12) +contextual [*])

@[simp] theorem State.pairUpd_onwards {s₀ : State} (s : State) (k : Nat) (f : Pair → Pair) (hs : s.onwards s₀) :
    (State.pairUpd s k f).onwards s₀ := by
  unfold State.pairUpd
  (try simp (maxDischargeDepth := 12) +contextual [*])

@[simp] theorem State.strUpd_onwards {s₀ : State} (s : State) (k : Nat) (f : Str → Str) (hs : s.onwards s₀) :
    (State.strUpd s k f).onwards s₀ := by
  unfold State.strUpd
  (try simp (maxDischargeDepth := 12) +contextual [*])

@[simp] theorem State.ringUpd_onwards {s₀ : State} (s : State) (k : Nat) (f : Ring → Ring) (hs : s.onwards s₀) :
    (State.ringUpd s k f).onwards s₀ := by
  unfold State.ringUpd
  (try simp (maxDischargeDepth := 12) +contextual [*])

@[simp] theorem State.monUpd_onwards {s₀ : State} (s : State) (k : Nat) (f : Monitor → Monitor) (hs : s.onwards s₀) :
    (State.monUpd s k f).onwards s₀ := by
  unfold State.monUpd
  (try simp (maxDischargeDepth := 12) +contextual [*])

@[simp] theorem State.cellUpd_onwards {s₀ : State} (s : State) (k : Nat) (f : CellAcq → CellAcq) (hs : s.onwards s₀) :
    (State.cellUpd s k f).onwards s₀ := by
  unfold State.cellUpd
  (try simp (maxDischargeDepth := 12) +contextual [*])

@[simp] theorem State.tempUpd_onwards {s₀ : State} (s : State) (k : Nat) (f : TempAcq → TempAcq) (hs : s.onwards s₀) :
    (State.tempUpd s k f).onwards s₀ := by
  unfold State.tempUpd
  (try simp (maxDischargeDepth := 12) +contextual [*])

@[simp] theorem State.chanUpd_onwards {s₀ : State} (s : State) (k : Nat) (f : Chan → Chan) (hs : s.onwards s₀) :
    (State.chanUpd s k f).onwards s₀ := by
  unfold State.chanUpd
  (try simp (maxDischargeDepth := 12) +contextual [*])

@[simp] theorem State.shotUpd_onwards {s₀ : State} (s : State) (k : Nat) (f : OneShot → OneShot) (hs : s.onwards s₀) :
    (State.shotUpd s k f).onwards s₀ := by
  unfold State.shotUpd
  (try simp (maxDischargeDepth := 12) +contextual [*])

@[simp] theorem State.euUpd_onwards {s₀ : State} (s : State) (k : Nat) (f : Eu → Eu) (hs : s.onwards s₀) :
    (State.euUpd s k f).onwards s₀ := by
  unfold State.euUpd
  (try simp (maxDischargeDepth := 12) +contextual [*])

@[simp] theorem State.epochUpd_onwards {s₀ : State} (s : State) (k : Nat) (f : Epoch → Epoch) (hs : s.onwards s₀) :
    (State.epochUpd s k f).onwards s₀ := by
  unfold State.epochUpd
  (try simp (maxDischargeDepth := 12) +contextual [*])

@[simp] theorem State.regionUpd_onwards {s₀ : State} (s : State) (k : Nat) (f : Region → Region) (hs : s.onwards s₀) :
    (State.regionUpd s k f).onwards s₀ := by
  unfold State.regionUpd
  (try simp (maxDischargeDepth := 12) +contextual [*])

@[simp] theorem State.resumes_onwards {s₀ : State} (s : State) (k : Nat) (hs : s.onwards s₀) :
    (State.resumes s k).onwards s₀ := by
  unfold State.resumes
  (try simp (maxDischargeDepth := 12) +contextual [*])

@[simp] theorem State.pubUpd_onwards {s₀ : State} (s : State) (k : Nat) (f : CellEst → CellEst) (hs : s.onwards s₀) :
    (State.pubUpd s k f).onwards s₀ := by
  unfold State.pubUpd
  (try simp (maxDischargeDepth := 12) +contextual [*])

@[simp] theorem State.estUpd_onwards {s₀ : State} (s : State) (k : Nat) (f : CellEst → CellEst) (hs : s.onwards s₀) :
    (State.estUpd s k f).onwards s₀ := by
  unfold State.estUpd
  (try simp (maxDischargeDepth := 12) +contextual [*])

@[simp] theorem State.restUpd_onwards {s₀ : State} (s : State) (k : Nat) (f : Rest → Rest) (hs : s.onwards s₀) :
    (State.restUpd s k f).onwards s₀ := by
  unfold State.restUpd
  (try simp (maxDischargeDepth := 12) +contextual [*])

@[simp] theorem State.canUpd_onwards {s₀ : State} (s : State) (k : Nat) (f : CanTx → CanTx) (hs : s.onwards s₀) :
    (State.canUpd s k f).onwards s₀ := by
  unfold State.canUpd
  (try simp (maxDischargeDepth := 12) +contextual [*])

@[simp] theorem State.slotUpd_onwards {s₀ : State} (s : State) (k : Nat) (f : FwSlot → FwSlot) (hs : s.onwards s₀) :
    (State.slotUpd s k f).onwards s₀ := by
  unfold State.slotUpd
  (try simp (maxDischargeDepth := 12) +contextual [*])

@[simp] theorem State.scopeUpd_onwards {s₀ : State} (s : State) (k : Nat) (f : Scope → Scope) (hs : s.onwards s₀) :
    (State.scopeUpd s k f).onwards s₀ := by
  unfold State.scopeUpd
  (try simp (maxDischargeDepth := 12) +contextual [*])

@[simp] theorem State.putL_onwards {s₀ : State} (s : State) (i : Nat) (sub : Nat) (v : List Int) (hs : s.onwards s₀) :
    (State.putL s i sub v).onwards s₀ := by
  unfold State.putL
  (try simp (maxDischargeDepth := 12) +contextual [*])

@[simp] theorem State.put_onwards {s₀ : State} (s : State) (i : Nat) (sub : Nat) (v : Int) (hs : s.onwards s₀) :
    (State.put s i sub v).onwards s₀ := by
  unfold State.put
  (try simp (maxDischargeDepth := 12) +contextual [*])

@[simp] theorem State.putM_onwards {s₀ : State} (s : State) (i : Nat) (sub : Nat) (k : Nat) (v : Int) (hs : s.onwards s₀) :
    (State.putM s i sub k v).onwards s₀ := by
  unfold State.putM
  (try simp (maxDischargeDepth := 12) +contextual [*])

@[simp] theorem State.bump_onwards {s₀ : State} (s : State) (i : Nat) (sub : Nat) (hs : s.onwards s₀) :
    (State.bump s i sub).onwards s₀ := by
  unfold State.bump
  (try simp (maxDischargeDepth := 12) +contextual [*])

@[simp] theorem State.undo_onwards {s₀ : State} (s : State) (i : Nat) (sub : Nat) (hs : s.onwards s₀) :
    (State.undo s i sub).onwards s₀ := by
  unfold State.undo
  (try simp (maxDischargeDepth := 12) +contextual [*])

@[simp] theorem State.ranWork_onwards {s₀ : State} (s : State) (k : Nat) (hs : s.onwards s₀) :
    (State.ranWork s k).onwards s₀ := by
  unfold State.ranWork
  (try simp (maxDischargeDepth := 12) +contextual [*])

@[simp] theorem State.raise_onwards {s₀ : State} (s : State) (src : Nat) (inst : Nat) (payload : (List Byte)) (hs : s.onwards s₀) :
    (State.raise s src inst payload).onwards s₀ := by
  unfold State.raise
  (try simp (maxDischargeDepth := 12) +contextual [*])

@[simp] theorem State.raiseLater_onwards {s₀ : State} (s : State) (src : Nat) (inst : Nat) (hs : s.onwards s₀) :
    (State.raiseLater s src inst).onwards s₀ := by
  unfold State.raiseLater
  (try simp (maxDischargeDepth := 12) +contextual [*])

@[simp] theorem State.keepReason_onwards {s₀ : State} (s : State) (src : Nat) (inst : Nat) (hs : s.onwards s₀) :
    (State.keepReason s src inst).onwards s₀ := by
  unfold State.keepReason
  (try simp (maxDischargeDepth := 12) +contextual [*])

@[simp] theorem State.latch_onwards {s₀ : State} (s : State) (l : Latch) (hs : s.onwards s₀) : (State.latch s l).onwards s₀ := by
  unfold State.latch
  (try simp (maxDischargeDepth := 12) +contextual [*])

@[simp] theorem State.unlatch_onwards {s₀ : State} (s : State) (p : Latch → Bool) (hs : s.onwards s₀) :
    (State.unlatch s p).onwards s₀ := by
  unfold State.unlatch
  (try simp (maxDischargeDepth := 12) +contextual [*])

@[simp] theorem State.sayP_onwards {s₀ : State} (s : State) (cls : Nat) (content : Nat) (hs : s.onwards s₀) :
    (State.sayP s cls content).onwards s₀ := by
  unfold State.sayP
  (try simp (maxDischargeDepth := 12) +contextual [*])

@[simp] theorem State.sayC_onwards {s₀ : State} (s : State) (cls : Nat) (content : Nat) (hs : s.onwards s₀) :
    (State.sayC s cls content).onwards s₀ := by
  unfold State.sayC
  (try simp (maxDischargeDepth := 12) +contextual [*])

@[simp] theorem State.refuseOut_onwards {s₀ : State} (s : State) (r : OutReq) (hs : s.onwards s₀) :
    (State.refuseOut s r).onwards s₀ := by
  unfold State.refuseOut
  (try simp (maxDischargeDepth := 12) +contextual [*])

@[simp] theorem State.replaceSectors_onwards {s₀ : State} (s : State) (area : Nat) (n : Nat) (hs : s.onwards s₀) :
    (State.replaceSectors s area n).onwards s₀ := by
  unfold State.replaceSectors
  (try simp (maxDischargeDepth := 12) +contextual [*])

@[simp] theorem State.erase_onwards {s₀ : State} (s : State) (unit : Nat) (n : Nat) (hs : s.onwards s₀) :
    (State.erase s unit n).onwards s₀ := by
  unfold State.erase
  (try simp (maxDischargeDepth := 12) +contextual [*])

@[simp] theorem State.eraseAll_onwards {s₀ : State} (s : State) (unit : Nat) (hs : s.onwards s₀) :
    (State.eraseAll s unit).onwards s₀ := by
  unfold State.eraseAll
  (try simp (maxDischargeDepth := 12) +contextual [*])

@[simp] theorem State.eraseAreas_onwards {s₀ : State} (s : State) (hs : s.onwards s₀) : (State.eraseAreas s).onwards s₀ := by
  unfold State.eraseAreas
  (try simp (maxDischargeDepth := 12) +contextual [*])

@[simp] theorem State.journalPut_onwards {s₀ : State} (s : State) (key : Nat) (payload : List Byte) (hs : s.onwards s₀) :
    (State.journalPut s key payload).onwards s₀ := by
  unfold State.journalPut
  (try simp (maxDischargeDepth := 12) +contextual [*])

@[simp] theorem State.journalMove_onwards {s₀ : State} (s : State) (key : Nat) (hs : s.onwards s₀) :
    (State.journalMove s key).onwards s₀ := by
  unfold State.journalMove
  (try simp (maxDischargeDepth := 12) +contextual [*])
  all_goals (repeat' split) <;> (try simp (maxDischargeDepth := 12) +contextual [*])

@[simp] theorem State.journalRoom_onwards {s₀ : State} (s : State) (n k : Nat) (hs : s.onwards s₀) :
    (s.journalRoom n k).onwards s₀ := by
  induction k generalizing s with
  | zero => exact hs
  | succ k ih =>
    unfold State.journalRoom
    split
    · exact hs
    · exact ih _ (by simp [hs])

@[simp] theorem State.journal_onwards {s₀ : State} (s : State) (kind : Nat) (inst : Nat) (payload : List Byte) (worn : Bool) (hs : s.onwards s₀) :
    (State.journal s kind inst payload worn).onwards s₀ := by
  unfold State.journal
  (try simp (maxDischargeDepth := 12) +contextual [*])

@[simp] theorem State.outputDone_onwards {s₀ : State} (s : State) (hs : s.onwards s₀) : (State.outputDone s).onwards s₀ := by
  unfold State.outputDone
  (try simp (maxDischargeDepth := 12) +contextual [*])

@[simp] theorem State.tell_onwards {s₀ : State} (s : State) (src : Nat) (inst : Nat) (hs : s.onwards s₀) :
    (State.tell s src inst).onwards s₀ := by
  unfold State.tell
  (try simp (maxDischargeDepth := 12) +contextual [*])

@[simp] theorem State.readVaux_onwards {s₀ : State} (s : State) (mv : Nat) (hs : s.onwards s₀) :
    (State.readVaux s mv).onwards s₀ := by
  unfold State.readVaux
  (try simp (maxDischargeDepth := 12) +contextual [*])

@[simp] theorem State.logStage_onwards {s₀ : State} (s : State) (r : LogRec) (hs : s.onwards s₀) :
    (State.logStage s r).onwards s₀ := by
  unfold State.logStage
  (try simp (maxDischargeDepth := 12) +contextual [*])

@[simp] theorem State.logSeal_onwards {s₀ : State} (s : State) (hs : s.onwards s₀) : (State.logSeal s).onwards s₀ := by
  unfold State.logSeal
  (try simp (maxDischargeDepth := 12) +contextual [*])
  all_goals (repeat' split) <;> (try simp (maxDischargeDepth := 12) +contextual [*])

@[simp] theorem State.logSeq_onwards {s₀ : State} (s : State) (hs : s.onwards s₀) : ((State.logSeq s)).1.onwards s₀ := by
  unfold State.logSeq
  (try simp (maxDischargeDepth := 12) +contextual [*])

@[simp] theorem State.logInternal_onwards {s₀ : State} (s : State) (code : Nat) (sev : Nat) (payload : List Byte) (hs : s.onwards s₀) :
    (State.logInternal s code sev payload).onwards s₀ := by
  unfold State.logInternal
  (try simp (maxDischargeDepth := 12) +contextual [*])

@[simp] theorem State.logRefill_onwards {s₀ : State} (s : State) (hs : s.onwards s₀) : (State.logRefill s).onwards s₀ := by
  unfold State.logRefill
  (try simp (maxDischargeDepth := 12) +contextual [*])

@[simp] theorem State.logSuppress_onwards {s₀ : State} (s : State) (sev : Nat) (hs : s.onwards s₀) :
    (State.logSuppress s sev).onwards s₀ := by
  unfold State.logSuppress
  (try simp (maxDischargeDepth := 12) +contextual [*])

theorem State.logToken_onwards {s₀ : State} (s t : State) (sev : Nat) (h : s.logToken sev = some t) (hs :
    s.onwards s₀) : t.onwards s₀ := by
  unfold State.logToken at h
  revert h
  simp only
  repeat' split
  all_goals intro h; cases h
  all_goals simp (maxDischargeDepth := 12) [*]

@[simp] theorem State.logActivation_onwards {s₀ : State} (s : State) (a : Act) (word : Nat) (hs : s.onwards s₀) :
    (s.logActivation a word).1.onwards s₀ := by
  unfold State.logActivation
  simp only
  split
  · simp only
    split <;> simp (maxDischargeDepth := 12) [*]
  · split
    · simp (maxDischargeDepth := 12) [*]
    · rename_i t h
      have ht : t.onwards s₀ := State.logToken_onwards _ _ _ h (by simp (maxDischargeDepth := 12) [*])
      simp (maxDischargeDepth := 12) [*]

@[simp] theorem State.logDrop_onwards {s₀ : State} (s : State) (r : LogRec) (hs : s.onwards s₀) :
    (State.logDrop s r).onwards s₀ := by
  unfold State.logDrop
  (try simp (maxDischargeDepth := 12) +contextual [*])

@[simp] theorem State.logReclaimed_onwards {s₀ : State} (s : State) (p : LogPage) (hs : s.onwards s₀) :
    (State.logReclaimed s p).onwards s₀ := by
  unfold State.logReclaimed
  (try simp (maxDischargeDepth := 12) +contextual [*])

@[simp] theorem State.logDropReport_onwards {s₀ : State} (s : State) (hs : s.onwards s₀) :
    (State.logDropReport s).onwards s₀ := by
  unfold State.logDropReport
  (try simp (maxDischargeDepth := 12) +contextual [*])

@[simp] theorem State.logOpenPage_onwards {s₀ : State} (s : State) (r : LogRec) (hs : s.onwards s₀) :
    (State.logOpenPage s r).onwards s₀ := by
  unfold State.logOpenPage
  (try simp (maxDischargeDepth := 12) +contextual [*])
  all_goals (repeat' split) <;> (try simp (maxDischargeDepth := 12) +contextual [*])

@[simp] theorem State.logBadPage_onwards {s₀ : State} (s : State) (k : Nat) (hs : s.onwards s₀) :
    (State.logBadPage s k).onwards s₀ := by
  unfold State.logBadPage
  (try simp (maxDischargeDepth := 12) +contextual [*])

@[simp] theorem State.logReadBack_onwards {s₀ : State} (n : Nat) (s : State) (r : LogRec) (hs : s.onwards s₀) :
    (State.logReadBack n s r).onwards s₀ := by
  induction n generalizing s with
  | zero => exact hs
  | succ n ih =>
    unfold State.logReadBack
    split
    · exact hs
    · exact ih _ (by simp (maxDischargeDepth := 12) [*])

@[simp] theorem State.logVerify_onwards {s₀ : State} (s : State) (r : LogRec) (hs : s.onwards s₀) :
    (State.logVerify s r).onwards s₀ := by
  unfold State.logVerify
  (try simp (maxDischargeDepth := 12) +contextual [*])

@[simp] theorem State.logProgramRec_onwards {s₀ : State} (s : State) (r : LogRec) (hs : s.onwards s₀) :
    (State.logProgramRec s r).onwards s₀ := by
  unfold State.logProgramRec
  (try simp (maxDischargeDepth := 12) +contextual [*])
  all_goals (repeat' split) <;> (try simp (maxDischargeDepth := 12) +contextual [*])

@[simp] theorem State.logProgramN_onwards {s₀ : State} (fuel : Nat) (s : State) (hs : s.onwards s₀) :
    (State.logProgramN fuel s).onwards s₀ := by
  induction fuel generalizing s with
  | zero => unfold State.logProgramN; exact hs
  | succ n ih =>
    unfold State.logProgramN
    split
    · exact hs
    · exact hs
    · rename_i f r rs h1 h2
      cases h1
      exact ih _ (by simp (maxDischargeDepth := 12) [*])

@[simp] theorem State.logProgramAll_onwards {s₀ : State} (s : State) (hs : s.onwards s₀) :
    (State.logProgramAll s).onwards s₀ := by
  unfold State.logProgramAll
  (try simp (maxDischargeDepth := 12) +contextual [*])

@[simp] theorem State.logProgramNow_onwards {s₀ : State} (s : State) (hs : s.onwards s₀) :
    (State.logProgramNow s).onwards s₀ := by
  unfold State.logProgramNow
  (try simp (maxDischargeDepth := 12) +contextual [*])

@[simp] theorem State.logFlush_onwards {s₀ : State} (s : State) (reason : Nat) (hs : s.onwards s₀) :
    (State.logFlush s reason).onwards s₀ := by
  unfold State.logFlush
  (try simp (maxDischargeDepth := 12) +contextual [*])

@[simp] theorem State.logClearRun_onwards {s₀ : State} (s : State) (node : Nat) (link : Nat) (hs : s.onwards s₀) :
    (State.logClearRun s node link).onwards s₀ := by
  unfold State.logClearRun
  (try simp (maxDischargeDepth := 12) +contextual [*])
  all_goals (repeat' split) <;> (try simp (maxDischargeDepth := 12) +contextual [*])

@[simp] theorem State.logScan_onwards {s₀ : State} (s : State) (powerOn : Bool) (torn : List (Nat × Nat)) (hs : s.onwards s₀) :
    (State.logScan s powerOn torn).onwards s₀ := by
  unfold State.logScan
  (try simp (maxDischargeDepth := 12) +contextual [*])

theorem execLogRecordSealTimeout_onwards {s₀ : State} (s : State) (hs : s.onwards s₀) :
    nextSat (execLogRecordSealTimeout s) fun t => t.onwards s₀ := by
  unfold execLogRecordSealTimeout
  all_goals (repeat' split) <;> (try simp (maxDischargeDepth := 12) +contextual [*])

theorem execLogProgram_onwards {s₀ : State} (failing : List (Fin 256)) (s : State) (hs : s.onwards s₀) :
    nextSat (execLogProgram failing s) fun t => t.onwards s₀ := by
  unfold execLogProgram
  (try simp (maxDischargeDepth := 12) +contextual [*])

theorem execLogSuppressedReport_onwards {s₀ : State} (s : State) (hs : s.onwards s₀) :
    nextSat (execLogSuppressedReport s) fun t => t.onwards s₀ := by
  unfold execLogSuppressedReport
  (try simp (maxDischargeDepth := 12) +contextual [*])

theorem execLogFlushLevel_onwards {s₀ : State} (vauxMv : Nat) (s : State) (hs : s.onwards s₀) :
    nextSat (execLogFlushLevel vauxMv s) fun t => t.onwards s₀ := by
  unfold execLogFlushLevel
  (try simp (maxDischargeDepth := 12) +contextual [*])

@[simp] theorem State.txDrop_onwards {s₀ : State} (s : State) (link : Nat) (hs : s.onwards s₀) :
    (State.txDrop s link).onwards s₀ := by
  unfold State.txDrop
  (try simp (maxDischargeDepth := 12) +contextual [*])

@[simp] theorem State.highWater_onwards {s₀ : State} (s : State) (ch : Nat) (hs : s.onwards s₀) :
    (State.highWater s ch).onwards s₀ := by
  unfold State.highWater
  (try simp (maxDischargeDepth := 12) +contextual [*])

@[simp] theorem State.txPush_onwards {s₀ : State} (s : State) (link : Nat) (o : Out) (hs : s.onwards s₀) :
    (State.txPush s link o).onwards s₀ := by
  unfold State.txPush
  (try simp (maxDischargeDepth := 12) +contextual [*])

@[simp] theorem State.txOrDrop_onwards {s₀ : State} (s : State) (link : Nat) (o : Out) (hs : s.onwards s₀) :
    ((State.txOrDrop s link o)).1.onwards s₀ := by
  unfold State.txOrDrop
  (try simp (maxDischargeDepth := 12) +contextual [*])

@[simp] theorem State.txResponse_onwards {s₀ : State} (s : State) (link : Nat) (o : Out) (hs : s.onwards s₀) :
    (State.txResponse s link o).onwards s₀ := by
  unfold State.txResponse
  (try simp (maxDischargeDepth := 12) +contextual [*])

@[simp] theorem State.txSafety_onwards {s₀ : State} (s : State) (link : Nat) (o : Out) (hs : s.onwards s₀) :
    ((State.txSafety s link o)).1.onwards s₀ := by
  unfold State.txSafety
  (try simp (maxDischargeDepth := 12) +contextual [*])

@[simp] theorem State.eventRoom_onwards {s₀ : State} (s : State) (link : Nat) (hs : s.onwards s₀) :
    ((State.eventRoom s link)).1.onwards s₀ := by
  unfold State.eventRoom
  (try simp (maxDischargeDepth := 12) +contextual [*])

@[simp] theorem State.backlog_onwards {s₀ : State} (s : State) (r : List Int) (hs : s.onwards s₀) :
    (State.backlog s r).onwards s₀ := by
  unfold State.backlog
  (try simp (maxDischargeDepth := 12) +contextual [*])

@[simp] theorem State.noteOut_onwards {s₀ : State} (s : State) (link : Nat) (cls : Nat) (o : Out) (hs : s.onwards s₀) :
    (State.noteOut s link cls o).onwards s₀ := by
  unfold State.noteOut
  (try simp (maxDischargeDepth := 12) +contextual [*])

@[simp] theorem State.noteOn_onwards {s₀ : State} (s : State) (link cls : Nat) (addrs : List Nat) (o : Out) (hs : s.onwards s₀) :
    (s.noteOn link cls addrs o).onwards s₀ := by
  unfold State.noteOn
  split
  · exact hs
  extract_lets r
  have h : r.1.onwards s₀ := by
    simp only [r]
    split <;> simp (maxDischargeDepth := 12) [*]
  clear_value r
  split
  · exact forEach_onwards _ _ _ h fun s a hs => by simp [hs]
  · simp [h]

@[simp] theorem State.notify_onwards {s₀ : State} (s : State) (cls : Nat) (time : Nat) (code : Nat) (source : Nat) (sev : Nat) (flags : Nat) (seq : Nat) (data : List Byte) (hs : s.onwards s₀) :
    (State.notify s cls time code source sev flags seq data).onwards s₀ := by
  unfold State.notify
  (try simp (maxDischargeDepth := 12) +contextual [*])

@[simp] theorem State.respond_onwards {s₀ : State} (s : State) (req : Req) (r : Reply) (hs : s.onwards s₀) :
    (State.respond s req r).onwards s₀ := by
  unfold State.respond
  (try simp (maxDischargeDepth := 12) +contextual [*])

@[simp] theorem State.answerW_onwards {s₀ : State} (s : State) (req : Req) (i : Nat) (sub : Nat) (status : Nat) (hs : s.onwards s₀) :
    (State.answerW s req i sub status).onwards s₀ := by
  unfold State.answerW
  (try simp (maxDischargeDepth := 12) +contextual [*])

@[simp] theorem State.keep_onwards {s₀ : State} (s : State) (k : KeptResp) (hs : s.onwards s₀) : (State.keep s k).onwards s₀ := by
  unfold State.keep
  (try simp (maxDischargeDepth := 12) +contextual [*])

@[simp] theorem State.answerLate_onwards {s₀ : State} (s : State) (req : Req) (msg : List Byte) (i : Nat) (status : Nat) (hs : s.onwards s₀) :
    (State.answerLate s req msg i status).onwards s₀ := by
  unfold State.answerLate
  (try simp (maxDischargeDepth := 12) +contextual [*])

@[simp] theorem State.tagSeen_onwards {s₀ : State} (s : State) (req : Req) (hs : s.onwards s₀) :
    (State.tagSeen s req).onwards s₀ := by
  unfold State.tagSeen
  (try simp (maxDischargeDepth := 12) +contextual [*])
  all_goals (repeat' split) <;> (try simp (maxDischargeDepth := 12) +contextual [*])

@[simp] theorem State.request_onwards {s₀ : State} (s : State) (req : Req) (i sub : Nat) (op : State → State × Nat) (hs :
    s.onwards s₀)
    (ho : ∀ s : State, s.onwards s₀ → (op s).1.onwards s₀) : nextSat (s.request req i sub op) fun t => t.onwards s₀ := by
  have h1 := ho (s.tagSeen req) (by simp [*])
  unfold State.request
  simp only
  repeat' split
  all_goals refine next_onwards _ ?_
  all_goals simp (maxDischargeDepth := 12) [*]

@[simp] theorem State.block_onwards {s₀ : State} (s : State) (t : Transfer) (kind : Nat) (number : Nat) (data : List Byte) (hs : s.onwards s₀) :
    (State.block s t kind number data).onwards s₀ := by
  unfold State.block
  (try simp (maxDischargeDepth := 12) +contextual [*])

@[simp] theorem State.abortTransfers_onwards {s₀ : State} (s : State) (status : Nat) (p : Transfer → Bool) (hs : s.onwards s₀) :
    (State.abortTransfers s status p).onwards s₀ := by
  unfold State.abortTransfers
  (try simp (maxDischargeDepth := 12) +contextual [*])

@[simp] theorem State.sessionEnd_onwards {s₀ : State} (s : State) (hs : s.onwards s₀) : (State.sessionEnd s).onwards s₀ := by
  unfold State.sessionEnd
  (try simp (maxDischargeDepth := 12) +contextual [*])
  all_goals (repeat' split) <;> (try simp (maxDischargeDepth := 12) +contextual [*])

@[simp] theorem State.aliasEnd_onwards {s₀ : State} (s : State) (hs : s.onwards s₀) : (State.aliasEnd s).onwards s₀ := by
  unfold State.aliasEnd
  (try simp (maxDischargeDepth := 12) +contextual [*])
  all_goals (repeat' split) <;> (try simp (maxDischargeDepth := 12) +contextual [*])

end Sys2Proof.Machine
end

