-- ==== Sys2Proof/Laws/OnwardsOutputs.lean ====
section
/-! SUPPORT. Sys2Proof/Laws/OnwardsOutputs.lean: no operation and no command undoes what `State.onwards` says stays: the variant, the OTP bits, local time, the queue
(outputs, contactors, safety functions, resets). -/

namespace Sys2Proof.Machine

@[simp] theorem State.lsOn_onwards {s₀ : State} (s : State) (n : Nat) (hs : s.onwards s₀) : (State.lsOn s n).onwards s₀ := by
  unfold State.lsOn
  (try simp (maxDischargeDepth := 12) +contextual [*])

@[simp] theorem State.lsOff_onwards {s₀ : State} (s : State) (n : Nat) (hs : s.onwards s₀) : (State.lsOff s n).onwards s₀ := by
  unfold State.lsOff
  (try simp (maxDischargeDepth := 12) +contextual [*])

@[simp] theorem State.lsFollow_onwards {s₀ : State} (s : State) (n : Nat) (hs : s.onwards s₀) :
    (State.lsFollow s n).onwards s₀ := by
  unfold State.lsFollow
  (try simp (maxDischargeDepth := 12) +contextual [*])

@[simp] theorem State.lsTrip_onwards {s₀ : State} (s : State) (n : Nat) (kind : Nat) (hs : s.onwards s₀) :
    (State.lsTrip s n kind).onwards s₀ := by
  unfold State.lsTrip
  (try simp (maxDischargeDepth := 12) +contextual [*])

@[simp] theorem State.lsApply_onwards {s₀ : State} (s : State) (n : Nat) (mode : Nat) (duty : Nat) (freq : Nat) (hs : s.onwards s₀) :
    (State.lsApply s n mode duty freq).onwards s₀ := by
  unfold State.lsApply
  (try simp (maxDischargeDepth := 12) +contextual [*])

@[simp] theorem State.lsFailSafe_onwards {s₀ : State} (s : State) (n : Nat) (hs : s.onwards s₀) :
    (State.lsFailSafe s n).onwards s₀ := by
  unfold State.lsFailSafe
  (try simp (maxDischargeDepth := 12) +contextual [*])

@[simp] theorem State.lsRequest_onwards {s₀ : State} (s : State) (n : Nat) (mode : Nat) (duty : Nat) (freq : Nat) (hs : s.onwards s₀) :
    (State.lsRequest s n mode duty freq).onwards s₀ := by
  unfold State.lsRequest
  (try simp (maxDischargeDepth := 12) +contextual [*])

@[simp] theorem State.pwmSend_onwards {s₀ : State} (s : State) (n : Nat) (hs : s.onwards s₀) :
    (State.pwmSend s n).onwards s₀ := by
  unfold State.pwmSend
  (try simp (maxDischargeDepth := 12) +contextual [*])

@[simp] theorem State.pwmFollow_onwards {s₀ : State} (s : State) (n : Nat) (hs : s.onwards s₀) :
    (State.pwmFollow s n).onwards s₀ := by
  unfold State.pwmFollow
  (try simp (maxDischargeDepth := 12) +contextual [*])

@[simp] theorem State.lsCommand_onwards {s₀ : State} (s : State) (n : Nat) (mode : Nat) (hs : s.onwards s₀) :
    ((State.lsCommand s n mode)).1.onwards s₀ := by
  unfold State.lsCommand
  (try simp (maxDischargeDepth := 12) +contextual [*])

theorem execLoadSwitchCmdOff_onwards {s₀ : State} (req : Req) (ls : Fin 16) (s : State) (hs : s.onwards s₀) :
    nextSat (execLoadSwitchCmdOff req ls s) fun t => t.onwards s₀ := by
  unfold execLoadSwitchCmdOff
  (try simp (maxDischargeDepth := 12) +contextual [*])

theorem execLoadSwitchCmdOn_onwards {s₀ : State} (req : Req) (ls : Fin 16) (s : State) (hs : s.onwards s₀) :
    nextSat (execLoadSwitchCmdOn req ls s) fun t => t.onwards s₀ := by
  unfold execLoadSwitchCmdOn
  (try simp (maxDischargeDepth := 12) +contextual [*])

theorem execLoadSwitchCmdPwm_onwards {s₀ : State} (req : Req) (ls : Fin 16) (s : State) (hs : s.onwards s₀) :
    nextSat (execLoadSwitchCmdPwm req ls s) fun t => t.onwards s₀ := by
  unfold execLoadSwitchCmdPwm
  (try simp (maxDischargeDepth := 12) +contextual [*])

theorem execLsLimiting_onwards {s₀ : State} (ls : Fin 16) (reached : Bool) (s : State) (hs : s.onwards s₀) :
    nextSat (execLsLimiting ls reached s) fun t => t.onwards s₀ := by
  unfold execLsLimiting
  (try simp (maxDischargeDepth := 12) +contextual [*])

theorem execLsOvercurrentTrip_onwards {s₀ : State} (ls : Fin 16) (s : State) (hs : s.onwards s₀) :
    nextSat (execLsOvercurrentTrip ls s) fun t => t.onwards s₀ := by
  unfold execLsOvercurrentTrip
  (try simp (maxDischargeDepth := 12) +contextual [*])

theorem execLsThermalLatchSet_onwards {s₀ : State} (ls : Fin 16) (s : State) (hs : s.onwards s₀) :
    nextSat (execLsThermalLatchSet ls s) fun t => t.onwards s₀ := by
  unfold execLsThermalLatchSet
  (try simp (maxDischargeDepth := 12) +contextual [*])

@[simp] theorem State.lsRestart_onwards {s₀ : State} (s : State) (n : Nat) (hs : s.onwards s₀) :
    (State.lsRestart s n).onwards s₀ := by
  unfold State.lsRestart
  (try simp (maxDischargeDepth := 12) +contextual [*])

theorem execLsThermalLatchClear_onwards {s₀ : State} (ls : Fin 16) (s : State) (hs : s.onwards s₀) :
    nextSat (execLsThermalLatchClear ls s) fun t => t.onwards s₀ := by
  unfold execLsThermalLatchClear
  (try simp (maxDischargeDepth := 12) +contextual [*])

theorem execLsRetryRestart_onwards {s₀ : State} (ls : Fin 16) (s : State) (hs : s.onwards s₀) :
    nextSat (execLsRetryRestart ls s) fun t => t.onwards s₀ := by
  unfold execLsRetryRestart
  (try simp (maxDischargeDepth := 12) +contextual [*])

theorem execLsRetryCountReset_onwards {s₀ : State} (ls : Fin 16) (s : State) (hs : s.onwards s₀) :
    nextSat (execLsRetryCountReset ls s) fun t => t.onwards s₀ := by
  unfold execLsRetryCountReset
  (try simp (maxDischargeDepth := 12) +contextual [*])

@[simp] theorem State.lsClear_onwards {s₀ : State} (s : State) (n : Nat) (hs : s.onwards s₀) :
    (State.lsClear s n).onwards s₀ := by
  unfold State.lsClear
  (try simp (maxDischargeDepth := 12) +contextual [*])

@[simp] theorem State.lsClearRequest_onwards {s₀ : State} (s : State) (n : Nat) (hs : s.onwards s₀) :
    (State.lsClearRequest s n).onwards s₀ := by
  unfold State.lsClearRequest
  (try simp (maxDischargeDepth := 12) +contextual [*])

@[simp] theorem State.lsFaultClear_onwards {s₀ : State} (s : State) (mask : Nat) (hs : s.onwards s₀) :
    ((State.lsFaultClear s mask)).1.onwards s₀ := by
  unfold State.lsFaultClear
  (try simp (maxDischargeDepth := 12) +contextual [*])

theorem execLsFaultClear_onwards {s₀ : State} (req : Req) (mask : BitVec 16) (s : State) (hs : s.onwards s₀) :
    nextSat (execLsFaultClear req mask s) fun t => t.onwards s₀ := by
  unfold execLsFaultClear
  (try simp (maxDischargeDepth := 12) +contextual [*])

theorem execLsOnOpenLoad_onwards {s₀ : State} (ls : Fin 16) (low : Bool) (s : State) (hs : s.onwards s₀) :
    nextSat (execLsOnOpenLoad ls low s) fun t => t.onwards s₀ := by
  unfold execLsOnOpenLoad
  (try simp (maxDischargeDepth := 12) +contextual [*])

theorem execLsOffStateDiag_onwards {s₀ : State} (ls : Fin 16) (c : OffStateLevel) (s : State) (hs : s.onwards s₀) :
    nextSat (execLsOffStateDiag ls c s) fun t => t.onwards s₀ := by
  unfold execLsOffStateDiag
  (try simp (maxDischargeDepth := 12) +contextual [*])
  all_goals (repeat' split) <;> (try simp (maxDischargeDepth := 12) +contextual [*])

@[simp] theorem State.lsBrownOut_onwards {s₀ : State} (s : State) (hs : s.onwards s₀) : (State.lsBrownOut s).onwards s₀ := by
  unfold State.lsBrownOut
  (try simp (maxDischargeDepth := 12) +contextual [*])

@[simp] theorem State.lsBrownOutEnd_onwards {s₀ : State} (s : State) (hs : s.onwards s₀) :
    (State.lsBrownOutEnd s).onwards s₀ := by
  unfold State.lsBrownOutEnd
  (try simp (maxDischargeDepth := 12) +contextual [*])

@[simp] theorem State.mdEnter_onwards {s₀ : State} (s : State) (n : Nat) (st : Nat) (hs : s.onwards s₀) :
    (State.mdEnter s n st).onwards s₀ := by
  unfold State.mdEnter
  (try simp (maxDischargeDepth := 12) +contextual [*])

@[simp] theorem State.mdConsume_onwards {s₀ : State} (s : State) (n : Nat) (hs : s.onwards s₀) :
    (State.mdConsume s n).onwards s₀ := by
  unfold State.mdConsume
  (try simp (maxDischargeDepth := 12) +contextual [*])

@[simp] theorem State.mdCoast_onwards {s₀ : State} (s : State) (n : Nat) (st : Nat) (hs : s.onwards s₀) :
    (State.mdCoast s n st).onwards s₀ := by
  unfold State.mdCoast
  (try simp (maxDischargeDepth := 12) +contextual [*])

@[simp] theorem State.mdStep_onwards {s₀ : State} (s : State) (n : Nat) (step : Nat) (hs : s.onwards s₀) :
    (State.mdStep s n step).onwards s₀ := by
  unfold State.mdStep
  (try simp (maxDischargeDepth := 12) +contextual [*])

@[simp] theorem State.mdLock_onwards {s₀ : State} (s : State) (n : Nat) (hs : s.onwards s₀) : (State.mdLock s n).onwards s₀ := by
  unfold State.mdLock
  (try simp (maxDischargeDepth := 12) +contextual [*])

@[simp] theorem State.mdAttempt_onwards {s₀ : State} (s : State) (n : Nat) (step : Nat) (hs : s.onwards s₀) :
    (State.mdAttempt s n step).onwards s₀ := by
  unfold State.mdAttempt
  (try simp (maxDischargeDepth := 12) +contextual [*])

@[simp] theorem State.mdRetryLater_onwards {s₀ : State} (s : State) (n : Nat) (step : Nat) (hs : s.onwards s₀) :
    (State.mdRetryLater s n step).onwards s₀ := by
  unfold State.mdRetryLater
  (try simp (maxDischargeDepth := 12) +contextual [*])

@[simp] theorem State.mdResume_onwards {s₀ : State} (s : State) (n : Nat) (hs : s.onwards s₀) :
    (State.mdResume s n).onwards s₀ := by
  unfold State.mdResume
  (try simp (maxDischargeDepth := 12) +contextual [*])

@[simp] theorem State.mdLoss_onwards {s₀ : State} (s : State) (n : Nat) (hs : s.onwards s₀) : (State.mdLoss s n).onwards s₀ := by
  unfold State.mdLoss
  (try simp (maxDischargeDepth := 12) +contextual [*])

@[simp] theorem State.mdApply_onwards {s₀ : State} (s : State) (n : Nat) (rpm : Nat) (hs : s.onwards s₀) :
    (State.mdApply s n rpm).onwards s₀ := by
  unfold State.mdApply
  (try simp (maxDischargeDepth := 12) +contextual [*])

@[simp] theorem State.mdRequest_onwards {s₀ : State} (s : State) (n : Nat) (rpm : Nat) (hs : s.onwards s₀) :
    (State.mdRequest s n rpm).onwards s₀ := by
  unfold State.mdRequest
  (try simp (maxDischargeDepth := 12) +contextual [*])

@[simp] theorem State.mdFailSafe_onwards {s₀ : State} (s : State) (n : Nat) (hs : s.onwards s₀) :
    (State.mdFailSafe s n).onwards s₀ := by
  unfold State.mdFailSafe
  (try simp (maxDischargeDepth := 12) +contextual [*])

@[simp] theorem State.mdTrip_onwards {s₀ : State} (s : State) (n : Nat) (kind : Nat) (hs : s.onwards s₀) :
    (State.mdTrip s n kind).onwards s₀ := by
  unfold State.mdTrip
  (try simp (maxDischargeDepth := 12) +contextual [*])

@[simp] theorem State.mdWait_onwards {s₀ : State} (s : State) (n : Nat) (hs : s.onwards s₀) : (State.mdWait s n).onwards s₀ := by
  unfold State.mdWait
  (try simp (maxDischargeDepth := 12) +contextual [*])

@[simp] theorem State.mdSyncLost_onwards {s₀ : State} (s : State) (n : Nat) (kind : Nat) (hs : s.onwards s₀) :
    (State.mdSyncLost s n kind).onwards s₀ := by
  unfold State.mdSyncLost
  (try simp (maxDischargeDepth := 12) +contextual [*])

@[simp] theorem State.mdCommand_onwards {s₀ : State} (s : State) (n : Nat) (rpm : Nat) (hs : s.onwards s₀) :
    ((State.mdCommand s n rpm)).1.onwards s₀ := by
  unfold State.mdCommand
  (try simp (maxDischargeDepth := 12) +contextual [*])

theorem execMotorSpeedCommand_onwards {s₀ : State} (req : Req) (md : Fin 4) (rpm : Nat) (s : State) (hs : s.onwards s₀) :
    nextSat (execMotorSpeedCommand req md rpm s) fun t => t.onwards s₀ := by
  unfold execMotorSpeedCommand
  (try simp (maxDischargeDepth := 12) +contextual [*])

@[simp] theorem State.mdStartDuty_onwards {s₀ : State} (s : State) (n : Nat) (hs : s.onwards s₀) :
    (State.mdStartDuty s n).onwards s₀ := by
  unfold State.mdStartDuty
  (try simp (maxDischargeDepth := 12) +contextual [*])

@[simp] theorem State.mdSpeedLoop_onwards {s₀ : State} (s : State) (n : Nat) (shuntMa : Int) (hs : s.onwards s₀) :
    (s.mdSpeedLoop n shuntMa).onwards s₀ := by
  unfold State.mdSpeedLoop
  extract_lets s1 s2 m ref s3 d s4 dev
  have h2 : s2.onwards s₀ := by
    simp only [s2]
    split <;> simp (maxDischargeDepth := 12) [s1, hs]
  clear_value s2
  have h3 : s3.onwards s₀ := by simp [s3, h2]
  have h4 : s4.onwards s₀ := by simp [s4, h3]
  repeat' split
  all_goals simp (maxDischargeDepth := 12) [h2, h3, h4]

theorem execMotorSpeedLoop_onwards {s₀ : State} (md : Fin 4) (shuntMa : Int) (s : State) (hs : s.onwards s₀) :
    nextSat (execMotorSpeedLoop md shuntMa s) fun t => t.onwards s₀ := by
  unfold execMotorSpeedLoop
  (try simp (maxDischargeDepth := 12) +contextual [*])

@[simp] theorem State.mdCrossed_onwards {s₀ : State} (s : State) (n : Nat) (ns : Nat) (ago : Nat) (hs : s.onwards s₀) :
    (State.mdCrossed s n ns ago).onwards s₀ := by
  unfold State.mdCrossed
  (try simp (maxDischargeDepth := 12) +contextual [*])

theorem execMotorZeroCrossing_onwards {s₀ : State} (md : Fin 4) (x : Crossing) (s : State) (hs : s.onwards s₀) :
    nextSat (execMotorZeroCrossing md x s) fun t => t.onwards s₀ := by
  unfold execMotorZeroCrossing
  (try simp (maxDischargeDepth := 12) +contextual [*])

theorem execMotorCommutation_onwards {s₀ : State} (md : Fin 4) (s : State) (hs : s.onwards s₀) :
    nextSat (execMotorCommutation md s) fun t => t.onwards s₀ := by
  unfold execMotorCommutation
  (try simp (maxDischargeDepth := 12) +contextual [*])

theorem execMotorCrossingTimeout_onwards {s₀ : State} (md : Fin 4) (s : State) (hs : s.onwards s₀) :
    nextSat (execMotorCrossingTimeout md s) fun t => t.onwards s₀ := by
  unfold execMotorCrossingTimeout
  (try simp (maxDischargeDepth := 12) +contextual [*])

theorem execMotorCoastWaitEnd_onwards {s₀ : State} (md : Fin 4) (s : State) (hs : s.onwards s₀) :
    nextSat (execMotorCoastWaitEnd md s) fun t => t.onwards s₀ := by
  unfold execMotorCoastWaitEnd
  (try simp (maxDischargeDepth := 12) +contextual [*])

theorem execMotorCatchSpinEnd_onwards {s₀ : State} (md : Fin 4) (intervals : List Nat) (bemfMv : Nat) (s : State) (hs : s.onwards s₀) :
    nextSat (execMotorCatchSpinEnd md intervals bemfMv s) fun t => t.onwards s₀ := by
  unfold execMotorCatchSpinEnd
  (try simp (maxDischargeDepth := 12) +contextual [*])

theorem execMotorStopped_onwards {s₀ : State} (md : Fin 4) (s : State) (hs : s.onwards s₀) :
    nextSat (execMotorStopped md s) fun t => t.onwards s₀ := by
  unfold execMotorStopped
  (try simp (maxDischargeDepth := 12) +contextual [*])

theorem execMotorAlignEnd_onwards {s₀ : State} (md : Fin 4) (s : State) (hs : s.onwards s₀) :
    nextSat (execMotorAlignEnd md s) fun t => t.onwards s₀ := by
  unfold execMotorAlignEnd
  (try simp (maxDischargeDepth := 12) +contextual [*])

theorem execMotorStartHandover_onwards {s₀ : State} (md : Fin 4) (intervals : List Nat) (s : State) (hs : s.onwards s₀) :
    nextSat (execMotorStartHandover md intervals s) fun t => t.onwards s₀ := by
  unfold execMotorStartHandover
  (try simp (maxDischargeDepth := 12) +contextual [*])

theorem execMotorStartTimeout_onwards {s₀ : State} (md : Fin 4) (s : State) (hs : s.onwards s₀) :
    nextSat (execMotorStartTimeout md s) fun t => t.onwards s₀ := by
  unfold execMotorStartTimeout
  (try simp (maxDischargeDepth := 12) +contextual [*])

@[simp] theorem State.mdRetry_onwards {s₀ : State} (s : State) (n : Nat) (hs : s.onwards s₀) :
    (State.mdRetry s n).onwards s₀ := by
  unfold State.mdRetry
  (try simp (maxDischargeDepth := 12) +contextual [*])

theorem execMotorRetryDelay_onwards {s₀ : State} (md : Fin 4) (s : State) (hs : s.onwards s₀) :
    nextSat (execMotorRetryDelay md s) fun t => t.onwards s₀ := by
  unfold execMotorRetryDelay
  (try simp (maxDischargeDepth := 12) +contextual [*])

theorem execMotorCurrentLimit_onwards {s₀ : State} (md : Fin 4) (hit : LimitHit) (s : State) (hs : s.onwards s₀) :
    nextSat (execMotorCurrentLimit md hit s) fun t => t.onwards s₀ := by
  unfold execMotorCurrentLimit
  (try simp (maxDischargeDepth := 12) +contextual [*])

theorem execMotorLimitTimeTrip_onwards {s₀ : State} (md : Fin 4) (s : State) (hs : s.onwards s₀) :
    nextSat (execMotorLimitTimeTrip md s) fun t => t.onwards s₀ := by
  unfold execMotorLimitTimeTrip
  (try simp (maxDischargeDepth := 12) +contextual [*])

theorem execMotorVdsTrip_onwards {s₀ : State} (md : Fin 4) (lowSide : Bool) (s : State) (hs : s.onwards s₀) :
    nextSat (execMotorVdsTrip md lowSide s) fun t => t.onwards s₀ := by
  unfold execMotorVdsTrip
  (try simp (maxDischargeDepth := 12) +contextual [*])

theorem execMotorThermalLatch_onwards {s₀ : State} (md : Fin 4) (set : Bool) (s : State) (hs : s.onwards s₀) :
    nextSat (execMotorThermalLatch md set s) fun t => t.onwards s₀ := by
  unfold execMotorThermalLatch
  (try simp (maxDischargeDepth := 12) +contextual [*])

theorem execMotorGateUv_onwards {s₀ : State} (md : Fin 4) (s : State) (hs : s.onwards s₀) :
    nextSat (execMotorGateUv md s) fun t => t.onwards s₀ := by
  unfold execMotorGateUv
  (try simp (maxDischargeDepth := 12) +contextual [*])

theorem execGateSupplyRecovered_onwards {s₀ : State} (md : Fin 4) (s : State) (hs : s.onwards s₀) :
    nextSat (execGateSupplyRecovered md s) fun t => t.onwards s₀ := by
  unfold execGateSupplyRecovered
  (try simp (maxDischargeDepth := 12) +contextual [*])

theorem execMotorClockLoss_onwards {s₀ : State} (s : State) (hs : s.onwards s₀) :
    nextSat (execMotorClockLoss s) fun t => t.onwards s₀ := by
  unfold execMotorClockLoss
  (try simp (maxDischargeDepth := 12) +contextual [*])

@[simp] theorem State.mdClear_onwards {s₀ : State} (s : State) (n : Nat) (hs : s.onwards s₀) :
    (State.mdClear s n).onwards s₀ := by
  unfold State.mdClear
  (try simp (maxDischargeDepth := 12) +contextual [*])

@[simp] theorem State.mdClearRequest_onwards {s₀ : State} (s : State) (n : Nat) (hs : s.onwards s₀) :
    (State.mdClearRequest s n).onwards s₀ := by
  unfold State.mdClearRequest
  (try simp (maxDischargeDepth := 12) +contextual [*])

@[simp] theorem State.mdFaultClear_onwards {s₀ : State} (s : State) (mask : Nat) (hs : s.onwards s₀) :
    ((State.mdFaultClear s mask)).1.onwards s₀ := by
  unfold State.mdFaultClear
  (try simp (maxDischargeDepth := 12) +contextual [*])

theorem execMotorFaultClear_onwards {s₀ : State} (req : Req) (mask : Byte) (s : State) (hs : s.onwards s₀) :
    nextSat (execMotorFaultClear req mask s) fun t => t.onwards s₀ := by
  unfold execMotorFaultClear
  (try simp (maxDischargeDepth := 12) +contextual [*])

theorem execMotorRetryCountReset_onwards {s₀ : State} (md : Fin 4) (s : State) (hs : s.onwards s₀) :
    nextSat (execMotorRetryCountReset md s) fun t => t.onwards s₀ := by
  unfold execMotorRetryCountReset
  (try simp (maxDischargeDepth := 12) +contextual [*])

@[simp] theorem State.vmotCoastAll_onwards {s₀ : State} (s : State) (all : Bool) (hs : s.onwards s₀) :
    (State.vmotCoastAll s all).onwards s₀ := by
  unfold State.vmotCoastAll
  (try simp (maxDischargeDepth := 12) +contextual [*])

@[simp] theorem State.vmotUnder_onwards {s₀ : State} (s : State) (mV : Nat) (hs : s.onwards s₀) :
    (State.vmotUnder s mV).onwards s₀ := by
  unfold State.vmotUnder
  (try simp (maxDischargeDepth := 12) +contextual [*])

@[simp] theorem State.vmotHold_onwards {s₀ : State} (s : State) (mV : Nat) (hs : s.onwards s₀) :
    (State.vmotHold s mV).onwards s₀ := by
  unfold State.vmotHold
  (try simp (maxDischargeDepth := 12) +contextual [*])

@[simp] theorem State.vmotBrake_onwards {s₀ : State} (s : State) (mV : Nat) (hs : s.onwards s₀) :
    (State.vmotBrake s mV).onwards s₀ := by
  unfold State.vmotBrake
  (try simp (maxDischargeDepth := 12) +contextual [*])

@[simp] theorem State.mdBrake_onwards {s₀ : State} (s : State) (n : Nat) (hs : s.onwards s₀) :
    (State.mdBrake s n).onwards s₀ := by
  unfold State.mdBrake
  (try simp (maxDischargeDepth := 12) +contextual [*])

@[simp] theorem State.mdBrakeEnd_onwards {s₀ : State} (s : State) (n : Nat) (hs : s.onwards s₀) :
    (State.mdBrakeEnd s n).onwards s₀ := by
  unfold State.mdBrakeEnd
  (try simp (maxDischargeDepth := 12) +contextual [*])

@[simp] theorem State.vmotZero_onwards {s₀ : State} (s : State) (mV : Nat) (hs : s.onwards s₀) :
    (State.vmotZero s mV).onwards s₀ := by
  unfold State.vmotZero
  (try simp (maxDischargeDepth := 12) +contextual [*])

@[simp] theorem State.vmotAbs_onwards {s₀ : State} (s : State) (mV : Nat) (hs : s.onwards s₀) :
    (State.vmotAbs s mV).onwards s₀ := by
  unfold State.vmotAbs
  (try simp (maxDischargeDepth := 12) +contextual [*])

@[simp] theorem State.vmotGood_onwards {s₀ : State} (s : State) (mV : Nat) (hs : s.onwards s₀) :
    (State.vmotGood s mV).onwards s₀ := by
  unfold State.vmotGood
  (try simp (maxDischargeDepth := 12) +contextual [*])

@[simp] theorem State.vmotTake_onwards {s₀ : State} (s : State) (mV : Nat) (hs : s.onwards s₀) :
    (State.vmotTake s mV).onwards s₀ := by
  unfold State.vmotTake
  (try simp (maxDischargeDepth := 12) +contextual [*])

theorem execVmotSample_onwards {s₀ : State} (mV : Nat) (s : State) (hs : s.onwards s₀) :
    nextSat (execVmotSample mV s) fun t => t.onwards s₀ := by
  unfold execVmotSample
  (try simp (maxDischargeDepth := 12) +contextual [*])

theorem execVmotRecovery_onwards {s₀ : State} (s : State) (hs : s.onwards s₀) :
    nextSat (execVmotRecovery s) fun t => t.onwards s₀ := by
  unfold execVmotRecovery
  (try simp (maxDischargeDepth := 12) +contextual [*])

theorem execBrakeFaultCheck_onwards {s₀ : State} (inst : Fin 2) (vmotMv : Nat) (brkMa : Nat) (s : State) (hs : s.onwards s₀) :
    nextSat (execBrakeFaultCheck inst vmotMv brkMa s) fun t => t.onwards s₀ := by
  unfold execBrakeFaultCheck
  (try simp (maxDischargeDepth := 12) +contextual [*])

@[simp] theorem State.brakeClearRequest_onwards {s₀ : State} (s : State) (hs : s.onwards s₀) :
    (State.brakeClearRequest s).onwards s₀ := by
  unfold State.brakeClearRequest
  (try simp (maxDischargeDepth := 12) +contextual [*])

@[simp] theorem State.brakeClear_onwards {s₀ : State} (s : State) (value : Nat) (hs : s.onwards s₀) :
    ((State.brakeClear s value)).1.onwards s₀ := by
  unfold State.brakeClear
  (try simp (maxDischargeDepth := 12) +contextual [*])

theorem execBrakeFaultClear_onwards {s₀ : State} (req : Req) (value : Nat) (s : State) (hs : s.onwards s₀) :
    nextSat (execBrakeFaultClear req value s) fun t => t.onwards s₀ := by
  unfold execBrakeFaultClear
  (try simp (maxDischargeDepth := 12) +contextual [*])

@[simp] theorem State.readSupplies_onwards {s₀ : State} (s : State) (vauxMv : Nat) (sw : Nat) (x : Supplies) (hs : s.onwards s₀) :
    (State.readSupplies s vauxMv sw x).onwards s₀ := by
  unfold State.readSupplies
  (try simp (maxDischargeDepth := 12) +contextual [*])

@[simp] theorem State.dissipate_onwards {s₀ : State} (s : State) (m : Dissipation) (hs : s.onwards s₀) :
    (State.dissipate s m).onwards s₀ := by
  unfold State.dissipate
  (try simp (maxDischargeDepth := 12) +contextual [*])

theorem execDissipationEstimate_onwards {s₀ : State} (m : Dissipation) (s : State) (hs : s.onwards s₀) :
    nextSat (execDissipationEstimate m s) fun t => t.onwards s₀ := by
  unfold execDissipationEstimate
  (try simp (maxDischargeDepth := 12) +contextual [*])

@[simp] theorem State.shedOne_onwards {s₀ : State} (s : State) (c : Nat × Bool × Nat) (thermal : Bool) (hs : s.onwards s₀) :
    (State.shedOne s c thermal).onwards s₀ := by
  unfold State.shedOne
  (try simp (maxDischargeDepth := 12) +contextual [*])

@[simp] theorem State.restoreOne_onwards {s₀ : State} (s : State) (c : Nat × Bool × Nat) (thermal : Bool) (hs : s.onwards s₀) :
    (State.restoreOne s c thermal).onwards s₀ := by
  unfold State.restoreOne
  (try simp (maxDischargeDepth := 12) +contextual [*])

@[simp] theorem State.governorShed_onwards {s₀ : State} (s : State) (hs : s.onwards s₀) : (State.governorShed s).onwards s₀ := by
  unfold State.governorShed
  (try simp (maxDischargeDepth := 12) +contextual [*])
  all_goals (repeat' split) <;> (try simp (maxDischargeDepth := 12) +contextual [*])

theorem execGovernorShed_onwards {s₀ : State} (s : State) (hs : s.onwards s₀) :
    nextSat (execGovernorShed s) fun t => t.onwards s₀ := by
  unfold execGovernorShed
  (try simp (maxDischargeDepth := 12) +contextual [*])

@[simp] theorem State.governorRestore_onwards {s₀ : State} (s : State) (hs : s.onwards s₀) :
    (State.governorRestore s).onwards s₀ := by
  unfold State.governorRestore
  (try simp (maxDischargeDepth := 12) +contextual [*])
  all_goals (repeat' split) <;> (try simp (maxDischargeDepth := 12) +contextual [*])

theorem execGovernorRestore_onwards {s₀ : State} (s : State) (hs : s.onwards s₀) :
    nextSat (execGovernorRestore s) fun t => t.onwards s₀ := by
  unfold execGovernorRestore
  (try simp (maxDischargeDepth := 12) +contextual [*])

@[simp] theorem State.drvOn_onwards {s₀ : State} (s : State) (d : Nat) (hs : s.onwards s₀) : (State.drvOn s d).onwards s₀ := by
  unfold State.drvOn
  (try simp (maxDischargeDepth := 12) +contextual [*])

@[simp] theorem State.drvHold_onwards {s₀ : State} (s : State) (d : Nat) (hs : s.onwards s₀) :
    (State.drvHold s d).onwards s₀ := by
  unfold State.drvHold
  (try simp (maxDischargeDepth := 12) +contextual [*])

@[simp] theorem State.holdSet_onwards {s₀ : State} (s : State) (d : Nat) (hs : s.onwards s₀) :
    (State.holdSet s d).onwards s₀ := by
  unfold State.holdSet
  (try simp (maxDischargeDepth := 12) +contextual [*])

@[simp] theorem State.countBreak_onwards {s₀ : State} (s : State) (d : Nat) (hs : s.onwards s₀) :
    (State.countBreak s d).onwards s₀ := by
  unfold State.countBreak
  (try simp (maxDischargeDepth := 12) +contextual [*])

@[simp] theorem State.drvSwitch_onwards {s₀ : State} (s : State) (d : Nat) (a b : Bool) (h : s.onwards s₀) :
    (s.drvSwitch d a b).onwards s₀ := by
  unfold State.drvSwitch
  repeat' split
  all_goals simp [*]

@[simp] theorem State.drvOff_onwards {s₀ : State} (s : State) (d : Nat) (hs : s.onwards s₀) : (State.drvOff s d).onwards s₀ := by
  unfold State.drvOff
  (try simp (maxDischargeDepth := 12) +contextual [*])

@[simp] theorem State.drvCut_onwards {s₀ : State} (s : State) (d : Nat) (hs : s.onwards s₀) : (State.drvCut s d).onwards s₀ := by
  unfold State.drvCut
  (try simp (maxDischargeDepth := 12) +contextual [*])

@[simp] theorem State.stringOff_onwards {s₀ : State} (s : State) (n : Nat) (hs : s.onwards s₀) :
    (State.stringOff s n).onwards s₀ := by
  unfold State.stringOff
  (try simp (maxDischargeDepth := 12) +contextual [*])

@[simp] theorem State.requestOn_onwards {s₀ : State} (s : State) (d : Nat) (hs : s.onwards s₀) :
    (State.requestOn s d).onwards s₀ := by
  unfold State.requestOn
  (try simp (maxDischargeDepth := 12) +contextual [*])

@[simp] theorem State.requestOff_onwards {s₀ : State} (s : State) (d : Nat) (hs : s.onwards s₀) :
    (State.requestOff s d).onwards s₀ := by
  unfold State.requestOff
  (try simp (maxDischargeDepth := 12) +contextual [*])

@[simp] theorem State.tripOff_onwards {s₀ : State} (s : State) (d : Nat) (hs : s.onwards s₀) :
    (State.tripOff s d).onwards s₀ := by
  unfold State.tripOff
  (try simp (maxDischargeDepth := 12) +contextual [*])

@[simp] theorem State.askOff_onwards {s₀ : State} (s : State) (n : Nat) (hs : s.onwards s₀) : (State.askOff s n).onwards s₀ := by
  unfold State.askOff
  (try simp (maxDischargeDepth := 12) +contextual [*])

@[simp] theorem State.tripStringOff_onwards {s₀ : State} (s : State) (n : Nat) (hs : s.onwards s₀) :
    (State.tripStringOff s n).onwards s₀ := by
  unfold State.tripStringOff
  (try simp (maxDischargeDepth := 12) +contextual [*])

@[simp] theorem State.commandOn_onwards {s₀ : State} (s : State) (d : Nat) (hs : s.onwards s₀) :
    (State.commandOn s d).onwards s₀ := by
  unfold State.commandOn
  (try simp (maxDischargeDepth := 12) +contextual [*])

@[simp] theorem State.commandOff_onwards {s₀ : State} (s : State) (d : Nat) (hs : s.onwards s₀) :
    (State.commandOff s d).onwards s₀ := by
  unfold State.commandOff
  (try simp (maxDischargeDepth := 12) +contextual [*])

@[simp] theorem State.roleOn_onwards {s₀ : State} (s : State) (n : Nat) (role : Nat) (hs : s.onwards s₀) :
    (State.roleOn s n role).onwards s₀ := by
  unfold State.roleOn
  (try simp (maxDischargeDepth := 12) +contextual [*])

@[simp] theorem State.roleOff_onwards {s₀ : State} (s : State) (n : Nat) (role : Nat) (hs : s.onwards s₀) :
    (State.roleOff s n role).onwards s₀ := by
  unfold State.roleOff
  (try simp (maxDischargeDepth := 12) +contextual [*])

@[simp] theorem State.shotStart_onwards {s₀ : State} (s : State) (k : Nat) (seq : Nat) (target : Nat) (hs : s.onwards s₀) :
    (State.shotStart s k seq target).onwards s₀ := by
  unfold State.shotStart
  (try simp (maxDischargeDepth := 12) +contextual [*])

@[simp] theorem State.shotDone_onwards {s₀ : State} (s : State) (k : Nat) (result : Nat) (members : List Int) (hs : s.onwards s₀) :
    (State.shotDone s k result members).onwards s₀ := by
  unfold State.shotDone
  all_goals (repeat' split) <;> (try simp (maxDischargeDepth := 12) +contextual [*])

@[simp] theorem State.shotNotRun_onwards {s₀ : State} (s : State) (k : Nat) (result : Nat) (zeros : Nat) (hs : s.onwards s₀) :
    (State.shotNotRun s k result zeros).onwards s₀ := by
  unfold State.shotNotRun
  all_goals (repeat' split) <;> (try simp (maxDischargeDepth := 12) +contextual [*])

@[simp] theorem State.testNotRun_onwards {s₀ : State} (s : State) (hs : s.onwards s₀) : (State.testNotRun s).onwards s₀ := by
  unfold State.testNotRun
  (try simp (maxDischargeDepth := 12) +contextual [*])

@[simp] theorem State.testEnd_onwards {s₀ : State} (s : State) (status : Nat) (hs : s.onwards s₀) :
    (State.testEnd s status).onwards s₀ := by
  unfold State.testEnd
  (try simp (maxDischargeDepth := 12) +contextual [*])

@[simp] theorem State.testCut_onwards {s₀ : State} (s : State) (hs : s.onwards s₀) : (State.testCut s).onwards s₀ := by
  unfold State.testCut
  all_goals (repeat' split) <;> (try simp (maxDischargeDepth := 12) +contextual [*])

@[simp] theorem State.drvFailSafe_onwards {s₀ : State} (s : State) (d : Nat) (hs : s.onwards s₀) :
    (State.drvFailSafe s d).onwards s₀ := by
  unfold State.drvFailSafe
  (try simp (maxDischargeDepth := 12) +contextual [*])

@[simp] theorem State.applyFailSafe_onwards {s₀ : State} (s : State) (inst : Nat) (hs : s.onwards s₀) :
    (State.applyFailSafe s inst).onwards s₀ := by
  unfold State.applyFailSafe
  (try simp (maxDischargeDepth := 12) +contextual [*])

@[simp] theorem State.outputsOff_onwards {s₀ : State} (s : State) (hs : s.onwards s₀) : (State.outputsOff s).onwards s₀ := by
  unfold State.outputsOff
  (try simp (maxDischargeDepth := 12) +contextual [*])

@[simp] theorem State.withdraw_onwards {s₀ : State} (s : State) (reason : Nat) (lock : Bool) (hs : s.onwards s₀) :
    (State.withdraw s reason lock).onwards s₀ := by
  unfold State.withdraw
  (try simp (maxDischargeDepth := 12) +contextual [*])

@[simp] theorem State.trustEnd_onwards {s₀ : State} (s : State) (inst : Nat) (hs : s.onwards s₀) :
    (State.trustEnd s inst).onwards s₀ := by
  unfold State.trustEnd
  (try simp (maxDischargeDepth := 12) +contextual [*])

theorem execOutputRequest_onwards {s₀ : State} (r : OutReq) (s : State) (hs : s.onwards s₀) :
    nextSat (execOutputRequest r s) fun t => t.onwards s₀ := by
  unfold execOutputRequest
  all_goals (repeat' split) <;> (try simp (maxDischargeDepth := 12) +contextual [*])

theorem execPullInEnd_onwards {s₀ : State} (driver : Fin 12) (s : State) (hs : s.onwards s₀) :
    nextSat (execPullInEnd driver s) fun t => t.onwards s₀ := by
  unfold execPullInEnd
  (try simp (maxDischargeDepth := 12) +contextual [*])

@[simp] theorem State.coilFault_onwards {s₀ : State} (s : State) (d : Nat) (c : CoilFault) (hs : s.onwards s₀) :
    (State.coilFault s d c).onwards s₀ := by
  unfold State.coilFault
  (try simp (maxDischargeDepth := 12) +contextual [*])

@[simp] theorem State.coilCleared_onwards {s₀ : State} (s : State) (d : Nat) (c : CoilFault) (hs : s.onwards s₀) :
    (State.coilCleared s d c).onwards s₀ := by
  unfold State.coilCleared
  (try simp (maxDischargeDepth := 12) +contextual [*])

theorem execCoilFaultDetected_onwards {s₀ : State} (driver : Fin 12) (c : CoilEvent) (s : State) (hs : s.onwards s₀) :
    nextSat (execCoilFaultDetected driver c s) fun t => t.onwards s₀ := by
  unfold execCoilFaultDetected
  (try simp (maxDischargeDepth := 12) +contextual [*])
  all_goals (repeat' split) <;> (try simp (maxDischargeDepth := 12) +contextual [*])

@[simp] theorem State.setAppliedOf_onwards {s₀ : State} (s : State) (n : Nat) (hs : s.onwards s₀) :
    (State.setAppliedOf s n).onwards s₀ := by
  unfold State.setAppliedOf
  (try simp (maxDischargeDepth := 12) +contextual [*])

@[simp] theorem State.setApplied_onwards {s₀ : State} (s : State) (hs : s.onwards s₀) : (State.setApplied s).onwards s₀ := by
  unfold State.setApplied
  (try simp (maxDischargeDepth := 12) +contextual [*])

@[simp] theorem State.busLimits_onwards {s₀ : State} (s : State) (hs : s.onwards s₀) : (State.busLimits s).onwards s₀ := by
  unfold State.busLimits
  (try simp (maxDischargeDepth := 12) +contextual [*])

@[simp] theorem State.setLimits_onwards {s₀ : State} (s : State) (hs : s.onwards s₀) : (State.setLimits s).onwards s₀ := by
  unfold State.setLimits
  (try simp (maxDischargeDepth := 12) +contextual [*])

@[simp] theorem State.enterSeq_onwards {s₀ : State} (s : State) (n : Nat) (st : Nat) (hs : s.onwards s₀) :
    (State.enterSeq s n st).onwards s₀ := by
  unfold State.enterSeq
  (try simp (maxDischargeDepth := 12) +contextual [*])

@[simp] theorem State.enterOpen_onwards {s₀ : State} (s : State) (n : Nat) (st : Nat) (hs : s.onwards s₀) :
    (State.enterOpen s n st).onwards s₀ := by
  unfold State.enterOpen
  (try simp (maxDischargeDepth := 12) +contextual [*])

@[simp] theorem State.setWeld_onwards {s₀ : State} (s : State) (d : Nat) (w : Nat) (hs : s.onwards s₀) :
    (State.setWeld s d w).onwards s₀ := by
  unfold State.setWeld
  (try simp (maxDischargeDepth := 12) +contextual [*])

@[simp] theorem State.setDeltas_onwards {s₀ : State} (s : State) (hs : s.onwards s₀) : (State.setDeltas s).onwards s₀ := by
  unfold State.setDeltas
  (try simp (maxDischargeDepth := 12) +contextual [*])

@[simp] theorem State.testAbort_onwards {s₀ : State} (s : State) (n : Nat) (hs : s.onwards s₀) :
    (State.testAbort s n).onwards s₀ := by
  unfold State.testAbort
  (try simp (maxDischargeDepth := 12) +contextual [*])

@[simp] theorem State.weldRole_onwards {s₀ : State} (s : State) (n : Nat) (role : Nat) (w : Nat) (hs : s.onwards s₀) :
    (State.weldRole s n role w).onwards s₀ := by
  unfold State.weldRole
  (try simp (maxDischargeDepth := 12) +contextual [*])

@[simp] theorem State.testWelded_onwards {s₀ : State} (s : State) (n : Nat) (role : Nat) (tripped : Bool) (hs : s.onwards s₀) :
    (State.testWelded s n role tripped).onwards s₀ := by
  unfold State.testWelded
  (try simp (maxDischargeDepth := 12) +contextual [*])

@[simp] theorem State.testStep_onwards {s₀ : State} (s : State) (n : Nat) (step : Nat) (hs : s.onwards s₀) :
    (State.testStep s n step).onwards s₀ := by
  unfold State.testStep
  (try simp (maxDischargeDepth := 12) +contextual [*])

@[simp] theorem State.tripString_onwards {s₀ : State} (s : State) (n src inst : Nat) (fast : Bool) (hs : s.onwards s₀) :
    (s.tripString n src inst fast).onwards s₀ := by
  unfold State.tripString
  extract_lets st i s1 s2 x s3 s4 s5
  have h1 : s1.onwards s₀ := by simp [s1, *]
  clear_value s1
  split
  · exact h1
  have h2 : s2.onwards s₀ := by simp [s2, *]
  clear_value s2
  have h3 : s3.onwards s₀ := by
    simp only [s3]
    split <;> simp (maxDischargeDepth := 12) [*]
  clear_value s3
  have h4 : s4.onwards s₀ := by
    simp only [s4]
    repeat' split
    all_goals simp (maxDischargeDepth := 12) [*]
  clear_value s4
  have h5 : s5.onwards s₀ := by
    simp only [s5]
    repeat' split
    all_goals simp (maxDischargeDepth := 12) [*]
  clear_value s5
  simp (maxDischargeDepth := 12) [*]

@[simp] theorem State.failSafeTrip_onwards {s₀ : State} (s : State) (n : Nat) (src : Nat) (inst : Nat) (hs : s.onwards s₀) :
    (State.failSafeTrip s n src inst).onwards s₀ := by
  unfold State.failSafeTrip
  (try simp (maxDischargeDepth := 12) +contextual [*])

@[simp] theorem State.failSafeStrings_onwards {s₀ : State} (s : State) (src : Nat) (hs : s.onwards s₀) :
    (State.failSafeStrings s src).onwards s₀ := by
  unfold State.failSafeStrings
  (try simp (maxDischargeDepth := 12) +contextual [*])

theorem execTripOpenRequest_onwards {s₀ : State} (string : Fin 4) (s : State) (hs : s.onwards s₀) :
    nextSat (execTripOpenRequest string s) fun t => t.onwards s₀ := by
  unfold execTripOpenRequest
  (try simp (maxDischargeDepth := 12) +contextual [*])
  all_goals (repeat' split) <;> (try simp (maxDischargeDepth := 12) +contextual [*])

@[simp] theorem State.abortClose_onwards {s₀ : State} (s : State) (n : Nat) (hs : s.onwards s₀) :
    (State.abortClose s n).onwards s₀ := by
  unfold State.abortClose
  (try simp (maxDischargeDepth := 12) +contextual [*])

@[simp] theorem State.openCause_onwards {s₀ : State} (s : State) (n : Nat) (code : Nat) (hs : s.onwards s₀) :
    (State.openCause s n code).onwards s₀ := by
  unfold State.openCause
  (try simp (maxDischargeDepth := 12) +contextual [*])

@[simp] theorem State.dropCause_onwards {s₀ : State} (s : State) (n : Nat) (code : Nat) (hs : s.onwards s₀) :
    (State.dropCause s n code).onwards s₀ := by
  unfold State.dropCause
  (try simp (maxDischargeDepth := 12) +contextual [*])

@[simp] theorem State.setDerate_onwards {s₀ : State} (s : State) (n : Nat) (l : List Nat) (code : Nat) (cleared : Bool) (hs : s.onwards s₀) :
    (State.setDerate s n l code cleared).onwards s₀ := by
  unfold State.setDerate
  (try simp (maxDischargeDepth := 12) +contextual [*])

@[simp] theorem State.derateEnter_onwards {s₀ : State} (s : State) (n : Nat) (code : Nat) (hs : s.onwards s₀) :
    (State.derateEnter s n code).onwards s₀ := by
  unfold State.derateEnter
  (try simp (maxDischargeDepth := 12) +contextual [*])

@[simp] theorem State.derateTally_onwards {s₀ : State} (s : State) (hs : s.onwards s₀) : (State.derateTally s).onwards s₀ := by
  unfold State.derateTally
  (try simp (maxDischargeDepth := 12) +contextual [*])

@[simp] theorem State.derateAbsent_onwards {s₀ : State} (s : State) (n : Nat) (code : Nat) (hs : s.onwards s₀) :
    (State.derateAbsent s n code).onwards s₀ := by
  unfold State.derateAbsent
  (try simp (maxDischargeDepth := 12) +contextual [*])

@[simp] theorem State.derateLeave_onwards {s₀ : State} (s : State) (n : Nat) (code : Nat) (hs : s.onwards s₀) :
    (State.derateLeave s n code).onwards s₀ := by
  unfold State.derateLeave
  (try simp (maxDischargeDepth := 12) +contextual [*])

theorem execDeratingClear_onwards {s₀ : State} (string : Fin 4) (code : Fin 9) (s : State) (hs : s.onwards s₀) :
    nextSat (execDeratingClear string code s) fun t => t.onwards s₀ := by
  unfold execDeratingClear
  (try simp (maxDischargeDepth := 12) +contextual [*])

@[simp] theorem State.logCurrents_onwards {s₀ : State} (s : State) (hs : s.onwards s₀) : (State.logCurrents s).onwards s₀ := by
  unfold State.logCurrents
  (try simp (maxDischargeDepth := 12) +contextual [*])

@[simp] theorem State.judgeOver_onwards {s₀ : State} (s : State) (n : Nat) (hs : s.onwards s₀) :
    (State.judgeOver s n).onwards s₀ := by
  unfold State.judgeOver
  (try simp (maxDischargeDepth := 12) +contextual [*])

@[simp] theorem State.prechargeFail_onwards {s₀ : State} (s : State) (n : Nat) (code : Nat) (hs : s.onwards s₀) :
    (State.prechargeFail s n code).onwards s₀ := by
  unfold State.prechargeFail
  (try simp (maxDischargeDepth := 12) +contextual [*])

@[simp] theorem State.prechargeDone_onwards {s₀ : State} (s : State) (n : Nat) (hs : s.onwards s₀) :
    (State.prechargeDone s n).onwards s₀ := by
  unfold State.prechargeDone
  (try simp (maxDischargeDepth := 12) +contextual [*])

@[simp] theorem State.prechargeChecked_onwards {s₀ : State} (s : State) (n : Nat) (hs : s.onwards s₀) :
    (s.prechargeChecked n).onwards s₀ := by
  unfold State.prechargeChecked
  extract_lets i s1 x
  have h1 : s1.onwards s₀ := by
    simp only [s1]
    split <;> simp (maxDischargeDepth := 12) [*]
  split
  · split <;> simp (maxDischargeDepth := 12) [*]
  · split
    · simp (maxDischargeDepth := 12) [*]
    split
    · simp (maxDischargeDepth := 12) [*]
    extract_lets s2 m
    have h2 : s2.onwards s₀ := by
      simp only [s2]
      split <;> simp (maxDischargeDepth := 12) [*]
    clear_value s2
    repeat' split
    all_goals simp (maxDischargeDepth := 12) [*]

@[simp] theorem State.prechargeUnchecked_onwards {s₀ : State} (s : State) (n : Nat) (hs : s.onwards s₀) :
    (State.prechargeUnchecked s n).onwards s₀ := by
  unfold State.prechargeUnchecked
  (try simp (maxDischargeDepth := 12) +contextual [*])

@[simp] theorem State.prechargeCheck_onwards {s₀ : State} (s : State) (n : Nat) (hs : s.onwards s₀) :
    (State.prechargeCheck s n).onwards s₀ := by
  unfold State.prechargeCheck
  (try simp (maxDischargeDepth := 12) +contextual [*])

@[simp] theorem State.release_onwards {s₀ : State} (s : State) (n : Nat) (hs : s.onwards s₀) :
    (State.release s n).onwards s₀ := by
  unfold State.release
  (try simp (maxDischargeDepth := 12) +contextual [*])

@[simp] theorem State.stepString_onwards {s₀ : State} (s : State) (n : Nat) (hs : s.onwards s₀) :
    (State.stepString s n).onwards s₀ := by
  unfold State.stepString
  (try simp (maxDischargeDepth := 12) +contextual [*])

@[simp] theorem State.testWatch_onwards {s₀ : State} (s : State) (hs : s.onwards s₀) : (State.testWatch s).onwards s₀ := by
  unfold State.testWatch
  (try simp (maxDischargeDepth := 12) +contextual [*])
  all_goals (repeat' split) <;> (try simp (maxDischargeDepth := 12) +contextual [*])

@[simp] theorem State.closeCommand_onwards {s₀ : State} (s : State) (n : Nat) (hs : s.onwards s₀) :
    ((State.closeCommand s n)).1.onwards s₀ := by
  unfold State.closeCommand
  (try simp (maxDischargeDepth := 12) +contextual [*])

@[simp] theorem State.openCommand_onwards {s₀ : State} (s : State) (n : Nat) (hs : s.onwards s₀) :
    ((State.openCommand s n)).1.onwards s₀ := by
  unfold State.openCommand
  (try simp (maxDischargeDepth := 12) +contextual [*])

theorem execStringClose_onwards {s₀ : State} (req : Req) (string : Fin 4) (s : State) (hs : s.onwards s₀) :
    nextSat (execStringClose req string s) fun t => t.onwards s₀ := by
  unfold execStringClose
  (try simp (maxDischargeDepth := 12) +contextual [*])

theorem execStringOpen_onwards {s₀ : State} (req : Req) (string : Fin 4) (s : State) (hs : s.onwards s₀) :
    nextSat (execStringOpen req string s) fun t => t.onwards s₀ := by
  unfold execStringOpen
  (try simp (maxDischargeDepth := 12) +contextual [*])

@[simp] theorem State.grantTurn_onwards {s₀ : State} (s : State) (n : Nat) (hs : s.onwards s₀) :
    (State.grantTurn s n).onwards s₀ := by
  unfold State.grantTurn
  (try simp (maxDischargeDepth := 12) +contextual [*])

theorem execCloseTurnGranted_onwards {s₀ : State} (string : Fin 4) (s : State) (hs : s.onwards s₀) :
    nextSat (execCloseTurnGranted string s) fun t => t.onwards s₀ := by
  unfold execCloseTurnGranted
  (try simp (maxDischargeDepth := 12) +contextual [*])

@[simp] theorem State.weldCheck_onwards {s₀ : State} (s : State) (n : Nat) (hs : s.onwards s₀) :
    (State.weldCheck s n).onwards s₀ := by
  unfold State.weldCheck
  (try simp (maxDischargeDepth := 12) +contextual [*])

theorem execWeldCheckElapsed_onwards {s₀ : State} (string : Fin 4) (s : State) (hs : s.onwards s₀) :
    nextSat (execWeldCheckElapsed string s) fun t => t.onwards s₀ := by
  unfold execWeldCheckElapsed
  (try simp (maxDischargeDepth := 12) +contextual [*])

theorem execPrechargeDeadline_onwards {s₀ : State} (string : Fin 4) (s : State) (hs : s.onwards s₀) :
    nextSat (execPrechargeDeadline string s) fun t => t.onwards s₀ := by
  unfold execPrechargeDeadline
  (try simp (maxDischargeDepth := 12) +contextual [*])

theorem execPrechargeCooldownEnd_onwards {s₀ : State} (string : Fin 4) (s : State) (hs : s.onwards s₀) :
    nextSat (execPrechargeCooldownEnd string s) fun t => t.onwards s₀ := by
  unfold execPrechargeCooldownEnd
  (try simp (maxDischargeDepth := 12) +contextual [*])

theorem execClosingCloseTimeElapsed_onwards {s₀ : State} (string : Fin 4) (s : State) (hs : s.onwards s₀) :
    nextSat (execClosingCloseTimeElapsed string s) fun t => t.onwards s₀ := by
  unfold execClosingCloseTimeElapsed
  (try simp (maxDischargeDepth := 12) +contextual [*])

theorem execClosingDropTimeElapsed_onwards {s₀ : State} (string : Fin 4) (s : State) (hs : s.onwards s₀) :
    nextSat (execClosingDropTimeElapsed string s) fun t => t.onwards s₀ := by
  unfold execClosingDropTimeElapsed
  (try simp (maxDischargeDepth := 12) +contextual [*])

theorem execJoinWaitTimeout_onwards {s₀ : State} (string : Fin 4) (s : State) (hs : s.onwards s₀) :
    nextSat (execJoinWaitTimeout string s) fun t => t.onwards s₀ := by
  unfold execJoinWaitTimeout
  (try simp (maxDischargeDepth := 12) +contextual [*])

theorem execOpenRampTimeout_onwards {s₀ : State} (string : Fin 4) (s : State) (hs : s.onwards s₀) :
    nextSat (execOpenRampTimeout string s) fun t => t.onwards s₀ := by
  unfold execOpenRampTimeout
  (try simp (maxDischargeDepth := 12) +contextual [*])

theorem execBreakMaxRepeat_onwards {s₀ : State} (string : Fin 4) (s : State) (hs : s.onwards s₀) :
    nextSat (execBreakMaxRepeat string s) fun t => t.onwards s₀ := by
  unfold execBreakMaxRepeat
  (try simp (maxDischargeDepth := 12) +contextual [*])

theorem execOpeningWeldTest_onwards {s₀ : State} (string : Fin 4) (s : State) (hs : s.onwards s₀) :
    nextSat (execOpeningWeldTest string s) fun t => t.onwards s₀ := by
  unfold execOpeningWeldTest
  (try simp (maxDischargeDepth := 12) +contextual [*])

theorem execOpeningDropElapsed_onwards {s₀ : State} (string : Fin 4) (s : State) (hs : s.onwards s₀) :
    nextSat (execOpeningDropElapsed string s) fun t => t.onwards s₀ := by
  unfold execOpeningDropElapsed
  (try simp (maxDischargeDepth := 12) +contextual [*])

theorem execPostTripWeldCheck_onwards {s₀ : State} (string : Fin 4) (s : State) (hs : s.onwards s₀) :
    nextSat (execPostTripWeldCheck string s) fun t => t.onwards s₀ := by
  unfold execPostTripWeldCheck
  (try simp (maxDischargeDepth := 12) +contextual [*])
  all_goals (repeat' split) <;> (try simp (maxDischargeDepth := 12) +contextual [*])

@[simp] theorem State.pairReleased_onwards {s₀ : State} (s : State) (p : Nat) (hs : s.onwards s₀) :
    (State.pairReleased s p).onwards s₀ := by
  unfold State.pairReleased
  (try simp (maxDischargeDepth := 12) +contextual [*])

@[simp] theorem State.resetString_onwards {s₀ : State} (s : State) (n : Nat) (hs : s.onwards s₀) :
    (State.resetString s n).onwards s₀ := by
  unfold State.resetString
  (try simp (maxDischargeDepth := 12) +contextual [*])

@[simp] theorem State.tripReset_onwards {s₀ : State} (s : State) (mask : Nat) (hs : s.onwards s₀) :
    ((State.tripReset s mask)).1.onwards s₀ := by
  unfold State.tripReset
  (try simp (maxDischargeDepth := 12) +contextual [*])

theorem execTripReset_onwards {s₀ : State} (req : Req) (mask : Byte) (s : State) (hs : s.onwards s₀) :
    nextSat (execTripReset req mask s) fun t => t.onwards s₀ := by
  unfold execTripReset
  (try simp (maxDischargeDepth := 12) +contextual [*])

@[simp] theorem State.makeDue_onwards {s₀ : State} (s : State) (d : Nat) (hs : s.onwards s₀) :
    (State.makeDue s d).onwards s₀ := by
  unfold State.makeDue
  (try simp (maxDischargeDepth := 12) +contextual [*])

@[simp] theorem State.weldsCleared_onwards {s₀ : State} (s : State) (mask : Nat) (hs : s.onwards s₀) :
    (State.weldsCleared s mask).onwards s₀ := by
  unfold State.weldsCleared
  (try simp (maxDischargeDepth := 12) +contextual [*])

@[simp] theorem State.weldClear_onwards {s₀ : State} (s : State) (mask : Nat) (hs : s.onwards s₀) :
    ((State.weldClear s mask)).1.onwards s₀ := by
  unfold State.weldClear
  (try simp (maxDischargeDepth := 12) +contextual [*])

theorem execWeldClear_onwards {s₀ : State} (req : Req) (mask : BitVec 16) (s : State) (hs : s.onwards s₀) :
    nextSat (execWeldClear req mask s) fun t => t.onwards s₀ := by
  unfold execWeldClear
  (try simp (maxDischargeDepth := 12) +contextual [*])

theorem execCurrentSourceNoneTimeout_onwards {s₀ : State} (string : Fin 4) (s : State) (hs : s.onwards s₀) :
    nextSat (execCurrentSourceNoneTimeout string s) fun t => t.onwards s₀ := by
  unfold execCurrentSourceNoneTimeout
  (try simp (maxDischargeDepth := 12) +contextual [*])

theorem execTempInputLossTimeout_onwards {s₀ : State} (ring : Fin 4) (pos : Fin 32) (s : State) (hs : s.onwards s₀) :
    nextSat (execTempInputLossTimeout ring pos s) fun t => t.onwards s₀ := by
  unfold execTempInputLossTimeout
  (try simp (maxDischargeDepth := 12) +contextual [*])
  all_goals (repeat' split) <;> (try simp (maxDischargeDepth := 12) +contextual [*])

theorem execOverLimitTimeout_onwards {s₀ : State} (string : Fin 4) (s : State) (hs : s.onwards s₀) :
    nextSat (execOverLimitTimeout string s) fun t => t.onwards s₀ := by
  unfold execOverLimitTimeout
  (try simp (maxDischargeDepth := 12) +contextual [*])

@[simp] theorem State.openTestRequest_onwards {s₀ : State} (s : State) (value : Nat) (hs : s.onwards s₀) :
    ((State.openTestRequest s value)).1.onwards s₀ := by
  unfold State.openTestRequest
  (try simp (maxDischargeDepth := 12) +contextual [*])
  all_goals (repeat' split) <;> (try simp (maxDischargeDepth := 12) +contextual [*])

theorem execContactorOpenTestRequest_onwards {s₀ : State} (req : Req) (value : BitVec 32) (s : State) (hs : s.onwards s₀) :
    nextSat (execContactorOpenTestRequest req value s) fun t => t.onwards s₀ := by
  unfold execContactorOpenTestRequest
  (try simp (maxDischargeDepth := 12) +contextual [*])

@[simp] theorem State.testCheck_onwards {s₀ : State} (s : State) (n : Nat) (hs : s.onwards s₀) :
    (State.testCheck s n).onwards s₀ := by
  unfold State.testCheck
  (try simp (maxDischargeDepth := 12) +contextual [*])

theorem execOpenTestStepCheck_onwards {s₀ : State} (s : State) (hs : s.onwards s₀) :
    nextSat (execOpenTestStepCheck s) fun t => t.onwards s₀ := by
  unfold execOpenTestStepCheck
  all_goals (repeat' split) <;> (try simp (maxDischargeDepth := 12) +contextual [*])

@[simp] theorem State.testDropped_onwards {s₀ : State} (s : State) (n : Nat) (hs : s.onwards s₀) :
    (State.testDropped s n).onwards s₀ := by
  unfold State.testDropped
  (try simp (maxDischargeDepth := 12) +contextual [*])

theorem execOpenTestStepDropDone_onwards {s₀ : State} (s : State) (hs : s.onwards s₀) :
    nextSat (execOpenTestStepDropDone s) fun t => t.onwards s₀ := by
  unfold execOpenTestStepDropDone
  all_goals (repeat' split) <;> (try simp (maxDischargeDepth := 12) +contextual [*])

@[simp] theorem State.safeOffApply_onwards {s₀ : State} (s : State) (hs : s.onwards s₀) : (State.safeOffApply s).onwards s₀ := by
  unfold State.safeOffApply
  (try simp (maxDischargeDepth := 12) +contextual [*])

@[simp] theorem State.pairSay_onwards {s₀ : State} (s : State) (p : Nat) (asserted : Bool) (hs : s.onwards s₀) :
    (State.pairSay s p asserted).onwards s₀ := by
  unfold State.pairSay
  (try simp (maxDischargeDepth := 12) +contextual [*])

@[simp] theorem State.pairAssert_onwards {s₀ : State} (s : State) (p : Nat) (st : Nat) (hs : s.onwards s₀) :
    (State.pairAssert s p st).onwards s₀ := by
  unfold State.pairAssert
  (try simp (maxDischargeDepth := 12) +contextual [*])

@[simp] theorem State.pairRelease_onwards {s₀ : State} (s : State) (p : Nat) (hs : s.onwards s₀) :
    (State.pairRelease s p).onwards s₀ := by
  unfold State.pairRelease
  (try simp (maxDischargeDepth := 12) +contextual [*])

@[simp] theorem State.pairFault_onwards {s₀ : State} (s : State) (p : Nat) (hs : s.onwards s₀) :
    (State.pairFault s p).onwards s₀ := by
  unfold State.pairFault
  (try simp (maxDischargeDepth := 12) +contextual [*])

@[simp] theorem State.pairInFault_onwards {s₀ : State} (s : State) (p : Nat) (before : Nat) (hs : s.onwards s₀) :
    (State.pairInFault s p before).onwards s₀ := by
  unfold State.pairInFault
  (try simp (maxDischargeDepth := 12) +contextual [*])
  all_goals (repeat' split) <;> (try simp (maxDischargeDepth := 12) +contextual [*])

@[simp] theorem State.pairStep_onwards {s₀ : State} (s : State) (p : Nat) (before : Nat) (hs : s.onwards s₀) :
    (State.pairStep s p before).onwards s₀ := by
  unfold State.pairStep
  (try simp (maxDischargeDepth := 12) +contextual [*])
  all_goals (repeat' split) <;> (try simp (maxDischargeDepth := 12) +contextual [*])

@[simp] theorem State.pairStart_onwards {s₀ : State} (s : State) (p : Nat) (hs : s.onwards s₀) :
    (State.pairStart s p).onwards s₀ := by
  unfold State.pairStart
  (try simp (maxDischargeDepth := 12) +contextual [*])

@[simp] theorem State.pairWake_onwards {s₀ : State} (s : State) (p : Nat) (hs : s.onwards s₀) :
    (State.pairWake s p).onwards s₀ := by
  unfold State.pairWake
  (try simp (maxDischargeDepth := 12) +contextual [*])

@[simp] theorem State.countLevel_onwards {s₀ : State} (s : State) (p : Nat) (chB : Bool) (level : Bool) (hs : s.onwards s₀) :
    (State.countLevel s p chB level).onwards s₀ := by
  unfold State.countLevel
  (try simp (maxDischargeDepth := 12) +contextual [*])

theorem execSafetyInputChange_onwards {s₀ : State} (pair : Fin 4) (chB : Bool) (level : Bool) (s : State) (hs : s.onwards s₀) :
    nextSat (execSafetyInputChange pair chB level s) fun t => t.onwards s₀ := by
  unfold execSafetyInputChange
  (try simp (maxDischargeDepth := 12) +contextual [*])

theorem execSafetyDiscrepancyTimeout_onwards {s₀ : State} (pair : Fin 4) (s : State) (hs : s.onwards s₀) :
    nextSat (execSafetyDiscrepancyTimeout pair s) fun t => t.onwards s₀ := by
  unfold execSafetyDiscrepancyTimeout
  (try simp (maxDischargeDepth := 12) +contextual [*])

theorem execSafeOffReport_onwards {s₀ : State} (pair : Fin 4) (asserted : Bool) (s : State) (hs : s.onwards s₀) :
    nextSat (execSafeOffReport pair asserted s) fun t => t.onwards s₀ := by
  unfold execSafeOffReport
  (try simp (maxDischargeDepth := 12) +contextual [*])
  all_goals (repeat' split) <;> (try simp (maxDischargeDepth := 12) +contextual [*])

@[simp] theorem State.receiverTest_onwards {s₀ : State} (s : State) (k : Nat) (follows : Bool) (hs : s.onwards s₀) :
    (State.receiverTest s k follows).onwards s₀ := by
  unfold State.receiverTest
  (try simp (maxDischargeDepth := 12) +contextual [*])

theorem execSafetyInputSelfTest_onwards {s₀ : State} (follows : BitVec 8) (s : State) (hs : s.onwards s₀) :
    nextSat (execSafetyInputSelfTest follows s) fun t => t.onwards s₀ := by
  unfold execSafetyInputSelfTest
  (try simp (maxDischargeDepth := 12) +contextual [*])

theorem execOscillatorCrossCheck_onwards {s₀ : State} (count7 : Nat) (count9 : Nat) (s : State) (hs : s.onwards s₀) :
    nextSat (execOscillatorCrossCheck count7 count9 s) fun t => t.onwards s₀ := by
  unfold execOscillatorCrossCheck
  all_goals (repeat' split) <;> (try simp (maxDischargeDepth := 12) +contextual [*])

@[simp] theorem State.pulseFail_onwards {s₀ : State} (s : State) (d : Nat) (kind : Nat) (hs : s.onwards s₀) :
    (State.pulseFail s d kind).onwards s₀ := by
  unfold State.pulseFail
  (try simp (maxDischargeDepth := 12) +contextual [*])

theorem execOffPulseStart_onwards {s₀ : State} (driver : Fin 12) (highSide : Bool) (s : State) (hs : s.onwards s₀) :
    nextSat (execOffPulseStart driver highSide s) fun t => t.onwards s₀ := by
  unfold execOffPulseStart
  (try simp (maxDischargeDepth := 12) +contextual [*])

theorem execOffPulseCheck_onwards {s₀ : State} (driver : Fin 12) (mA : Nat) (s : State) (hs : s.onwards s₀) :
    nextSat (execOffPulseCheck driver mA s) fun t => t.onwards s₀ := by
  unfold execOffPulseCheck
  (try simp (maxDischargeDepth := 12) +contextual [*])

theorem execOffPulseEnd_onwards {s₀ : State} (driver : Fin 12) (s : State) (hs : s.onwards s₀) :
    nextSat (execOffPulseEnd driver s) fun t => t.onwards s₀ := by
  unfold execOffPulseEnd
  (try simp (maxDischargeDepth := 12) +contextual [*])

theorem execOffStateCheck_onwards {s₀ : State} (driver : Fin 12) (hsMa : Nat) (lsMa : Nat) (coilMa : Nat) (s : State) (hs : s.onwards s₀) :
    nextSat (execOffStateCheck driver hsMa lsMa coilMa s) fun t => t.onwards s₀ := by
  unfold execOffStateCheck
  (try simp (maxDischargeDepth := 12) +contextual [*])

theorem execOpeningProofDue_onwards {s₀ : State} (driver : Fin 12) (s : State) (hs : s.onwards s₀) :
    nextSat (execOpeningProofDue driver s) fun t => t.onwards s₀ := by
  unfold execOpeningProofDue
  (try simp (maxDischargeDepth := 12) +contextual [*])

theorem execOpeningProofOverdue_onwards {s₀ : State} (driver : Fin 12) (s : State) (hs : s.onwards s₀) :
    nextSat (execOpeningProofOverdue driver s) fun t => t.onwards s₀ := by
  unfold execOpeningProofOverdue
  (try simp (maxDischargeDepth := 12) +contextual [*])

@[simp] theorem State.upsetCopy_onwards {s₀ : State} (s : State) (key : Nat) (v : Nat) (hs : s.onwards s₀) :
    (State.upsetCopy s key v).onwards s₀ := by
  unfold State.upsetCopy
  (try simp (maxDischargeDepth := 12) +contextual [*])

@[simp] theorem State.copySafety_onwards {s₀ : State} (s : State) (i : Nat) (subs : List Nat) (hs : s.onwards s₀) :
    (State.copySafety s i subs).onwards s₀ := by
  unfold State.copySafety
  (try simp (maxDischargeDepth := 12) +contextual [*])

@[simp] theorem State.readback_onwards {s₀ : State} (s : State) (hs : s.onwards s₀) : (State.readback s).onwards s₀ := by
  unfold State.readback
  (try simp (maxDischargeDepth := 12) +contextual [*])

theorem execSafetyConfigReadback_onwards {s₀ : State} (upset : Option CopyUpset) (s : State) (hs : s.onwards s₀) :
    nextSat (execSafetyConfigReadback upset s) fun t => t.onwards s₀ := by
  unfold execSafetyConfigReadback
  (try simp (maxDischargeDepth := 12) +contextual [*])
  all_goals (repeat' split) <;> (try simp (maxDischargeDepth := 12) +contextual [*])

@[simp] theorem State.cdReset_onwards {s₀ : State} (s : State) (cause : Nat) (hs : s.onwards s₀) :
    (State.cdReset s cause).onwards s₀ := by
  unfold State.cdReset
  (try simp (maxDischargeDepth := 12) +contextual [*])

@[simp] theorem State.cdResetFor_onwards {s₀ : State} (s : State) (cause : Nat) (src : Nat) (inst : Nat) (hs : s.onwards s₀) :
    (State.cdResetFor s cause src inst).onwards s₀ := by
  unfold State.cdResetFor
  (try simp (maxDischargeDepth := 12) +contextual [*])

@[simp] theorem State.activateNow_onwards {s₀ : State} (s : State) (hs : s.onwards s₀) : (State.activateNow s).onwards s₀ := by
  unfold State.activateNow
  (try simp (maxDischargeDepth := 12) +contextual [*])

@[simp] theorem State.keepDue_onwards {s₀ : State} (s : State) (t : State) (hs : s.onwards s₀) (ht : t.onwards s₀) :
    (State.keepDue s t).onwards s₀ := by
  unfold State.keepDue
  (try simp (maxDischargeDepth := 12) +contextual [*])

@[simp] theorem State.pdReset_onwards {s₀ : State} (s : State) (hs : s.onwards s₀) : (State.pdReset s).onwards s₀ := by
  unfold State.pdReset
  (try simp (maxDischargeDepth := 12) +contextual [*])

theorem execLockstepMismatch_onwards {s₀ : State} (s : State) (hs : s.onwards s₀) :
    nextSat (execLockstepMismatch s) fun t => t.onwards s₀ := by
  unfold execLockstepMismatch
  (try simp (maxDischargeDepth := 12) +contextual [*])

@[simp] theorem State.gateBy_onwards {s₀ : State} (s : State) (byDomain8 : Bool) (hs : s.onwards s₀) :
    (State.gateBy s byDomain8).onwards s₀ := by
  unfold State.gateBy
  (try simp (maxDischargeDepth := 12) +contextual [*])

@[simp] theorem State.holdForClock_onwards {s₀ : State} (s : State) (hs : s.onwards s₀) : (State.holdForClock s).onwards s₀ := by
  unfold State.holdForClock
  (try simp (maxDischargeDepth := 12) +contextual [*])

@[simp] theorem State.judgeGate_onwards {s₀ : State} (s : State) (bad : List Nat) (hs : s.onwards s₀) :
    (State.judgeGate s bad).onwards s₀ := by
  unfold State.judgeGate
  (try simp (maxDischargeDepth := 12) +contextual [*])

theorem execClockMonitorGate_onwards {s₀ : State} (count1 : Nat) (count5 : Nat) (byDomain8 : Bool) (s : State) (hs : s.onwards s₀) :
    nextSat (execClockMonitorGate count1 count5 byDomain8 s) fun t => t.onwards s₀ := by
  unfold execClockMonitorGate
  (try simp (maxDischargeDepth := 12) +contextual [*])

theorem execDomain8Loss_onwards {s₀ : State} (s : State) (hs : s.onwards s₀) :
    nextSat (execDomain8Loss s) fun t => t.onwards s₀ := by
  unfold execDomain8Loss
  (try simp (maxDischargeDepth := 12) +contextual [*])

@[simp] theorem State.powerLinkLost_onwards {s₀ : State} (s : State) (hs : s.onwards s₀) :
    (State.powerLinkLost s).onwards s₀ := by
  unfold State.powerLinkLost
  (try simp (maxDischargeDepth := 12) +contextual [*])

@[simp] theorem State.computeLinkLost_onwards {s₀ : State} (s : State) (inst : Nat) (hs : s.onwards s₀) :
    (State.computeLinkLost s inst).onwards s₀ := by
  unfold State.computeLinkLost
  (try simp (maxDischargeDepth := 12) +contextual [*])

theorem execInterdieFrameReceived_onwards {s₀ : State} (atPower : Bool) (f : LinkFrame) (s : State) (hs : s.onwards s₀) :
    nextSat (execInterdieFrameReceived atPower f s) fun t => t.onwards s₀ := by
  unfold execInterdieFrameReceived
  (try simp (maxDischargeDepth := 12) +contextual [*])
  all_goals (repeat' split) <;> (try simp (maxDischargeDepth := 12) +contextual [*])

theorem execInterdieLinkTimeout_onwards {s₀ : State} (atPower : Bool) (s : State) (hs : s.onwards s₀) :
    nextSat (execInterdieLinkTimeout atPower s) fun t => t.onwards s₀ := by
  unfold execInterdieLinkTimeout
  all_goals (repeat' split) <;> (try simp (maxDischargeDepth := 12) +contextual [*])

@[simp] theorem State.linkUs_onwards {s₀ : State} (s : State) (hs : s.onwards s₀) : (State.linkUs s).onwards s₀ := by
  unfold State.linkUs
  (try simp (maxDischargeDepth := 12) +contextual [*])

theorem execInterdieIdleSend_onwards {s₀ : State} (fromPower : Bool) (s : State) (hs : s.onwards s₀) :
    nextSat (execInterdieIdleSend fromPower s) fun t => t.onwards s₀ := by
  unfold execInterdieIdleSend
  all_goals (repeat' split) <;> (try simp (maxDischargeDepth := 12) +contextual [*])

@[simp] theorem State.trustLost_onwards {s₀ : State} (s : State) (inst : Nat) (hs : s.onwards s₀) :
    (State.trustLost s inst).onwards s₀ := by
  unfold State.trustLost
  (try simp (maxDischargeDepth := 12) +contextual [*])

theorem execWatchdogAnswer_onwards {s₀ : State} (k : Fin 4) (value : Byte) (at9 : Nat) (s : State) (hs : s.onwards s₀) :
    nextSat (execWatchdogAnswer k value at9 s) fun t => t.onwards s₀ := by
  unfold execWatchdogAnswer
  (try simp (maxDischargeDepth := 12) +contextual [*])

@[simp] theorem State.newWindow_onwards {s₀ : State} (s : State) (hs : s.onwards s₀) : (State.newWindow s).onwards s₀ := by
  unfold State.newWindow
  (try simp (maxDischargeDepth := 12) +contextual [*])

@[simp] theorem State.goodWindow_onwards {s₀ : State} (s : State) (hs : s.onwards s₀) : (State.goodWindow s).onwards s₀ := by
  unfold State.goodWindow
  (try simp (maxDischargeDepth := 12) +contextual [*])

theorem execWatchdogWindowEnd_onwards {s₀ : State} (s : State) (hs : s.onwards s₀) :
    nextSat (execWatchdogWindowEnd s) fun t => t.onwards s₀ := by
  unfold execWatchdogWindowEnd
  (try simp (maxDischargeDepth := 12) +contextual [*])

theorem execWatchdogEscalation_onwards {s₀ : State} (s : State) (hs : s.onwards s₀) :
    nextSat (execWatchdogEscalation s) fun t => t.onwards s₀ := by
  unfold execWatchdogEscalation
  (try simp (maxDischargeDepth := 12) +contextual [*])

@[simp] theorem State.captureTrigger_onwards {s₀ : State} (s : State) (src : Nat) (time : Nat) (hs : s.onwards s₀) :
    (State.captureTrigger s src time).onwards s₀ := by
  unfold State.captureTrigger
  (try simp (maxDischargeDepth := 12) +contextual [*])

@[simp] theorem State.matrixTrips_onwards {s₀ : State} (s : State) (acts : List Act) (hs : s.onwards s₀) :
    (s.matrixTrips acts).onwards s₀ := by
  unfold State.matrixTrips
  split
  · refine forEach_onwards _ _ _ hs fun t n ht => ?_
    repeat' split
    all_goals simp (maxDischargeDepth := 12) [*]
  · exact hs

@[simp] theorem State.matrixRoute_onwards {s₀ : State} (s : State) (a : Act) (hs : s.onwards s₀) :
    (s.matrixRoute a).onwards s₀ := by
  unfold State.matrixRoute
  extract_lets w s1 s2 r s3 code sev flags send
  have h1 : s1.onwards s₀ := by
    simp only [s1]
    split <;> simp (maxDischargeDepth := 12) [*]
  clear_value s1
  have h2 : s2.onwards s₀ := by
    simp only [s2]
    split <;> simp (maxDischargeDepth := 12) [*]
  clear_value s2
  have hr : r.1.onwards s₀ := by
    simp only [r]
    repeat' split
    all_goals simp (maxDischargeDepth := 12) [*]
  have hsend : ∀ (s : State) b cls, s.onwards s₀ → (send s b cls).onwards s₀ := by
    intro s b cls h
    simp only [send]
    split <;> simp (maxDischargeDepth := 12) [*]
  clear_value send
  exact hsend _ _ _ (hsend _ _ _ (hsend _ _ _ hr))

@[simp] theorem State.matrixEvaluate_onwards {s₀ : State} (s : State) (hs : s.onwards s₀) :
    (State.matrixEvaluate s).onwards s₀ := by
  unfold State.matrixEvaluate
  (try simp (maxDischargeDepth := 12) +contextual [*])

theorem execEventMatrixEvaluate_onwards {s₀ : State} (s : State) (hs : s.onwards s₀) :
    nextSat (execEventMatrixEvaluate s) fun t => t.onwards s₀ := by
  unfold execEventMatrixEvaluate
  (try simp (maxDischargeDepth := 12) +contextual [*])

@[simp] theorem State.routeWrite_onwards {s₀ : State} (s : State) (source : Nat) (v : Nat) (hs : s.onwards s₀) :
    ((State.routeWrite s source v)).1.onwards s₀ := by
  unfold State.routeWrite
  (try simp (maxDischargeDepth := 12) +contextual [*])

theorem execEventRouteWrite_onwards {s₀ : State} (req : Req) (source : Byte) (value : BitVec 32) (s : State) (hs : s.onwards s₀) :
    nextSat (execEventRouteWrite req source value s) fun t => t.onwards s₀ := by
  unfold execEventRouteWrite
  (try simp (maxDischargeDepth := 12) +contextual [*])

@[simp] theorem State.acknowledge_onwards {s₀ : State} (s : State) (v : Nat) (hs : s.onwards s₀) :
    ((State.acknowledge s v)).1.onwards s₀ := by
  unfold State.acknowledge
  (try simp (maxDischargeDepth := 12) +contextual [*])

theorem execEventAcknowledge_onwards {s₀ : State} (req : Req) (value : BitVec 16) (s : State) (hs : s.onwards s₀) :
    nextSat (execEventAcknowledge req value s) fun t => t.onwards s₀ := by
  unfold execEventAcknowledge
  (try simp (maxDischargeDepth := 12) +contextual [*])

end Sys2Proof.Machine
end

