-- ==== Sys2Proof/Laws/OnwardsChain.lean ====
section
/-! SUPPORT. Sys2Proof/Laws/OnwardsChain.lean: no operation and no command undoes what `State.onwards` says stays: the variant, the OTP bits, local time, the queue
(the chain, currents, time, the tally). -/

namespace Sys2Proof.Machine

@[simp] theorem State.assignClusters_onwards {s₀ : State} (s : State) (hs : s.onwards s₀) :
    (State.assignClusters s).onwards s₀ := by
  unfold State.assignClusters
  (try simp (maxDischargeDepth := 12) +contextual [*])

@[simp] theorem State.refreshEst_onwards {s₀ : State} (s : State) (n : Nat) (hs : s.onwards s₀) :
    (State.refreshEst s n).onwards s₀ := by
  unfold State.refreshEst
  (try simp (maxDischargeDepth := 12) +contextual [*])

@[simp] theorem State.readyNow_onwards {s₀ : State} (s : State) (hs : s.onwards s₀) : (State.readyNow s).onwards s₀ := by
  unfold State.readyNow
  (try simp (maxDischargeDepth := 12) +contextual [*])

@[simp] theorem State.dupSend_onwards {s₀ : State} (s : State) (f : DupFrame) (hs : s.onwards s₀) :
    (State.dupSend s f).onwards s₀ := by
  unfold State.dupSend
  (try simp (maxDischargeDepth := 12) +contextual [*])

@[simp] theorem State.setTrain_onwards {s₀ : State} (s : State) (r : Nat) (b : Bool) (t : Option Train) (hs : s.onwards s₀) :
    (State.setTrain s r b t).onwards s₀ := by
  unfold State.setTrain
  (try simp (maxDischargeDepth := 12) +contextual [*])

@[simp] theorem State.setQueue_onwards {s₀ : State} (s : State) (r : Nat) (b : Bool) (q : List Train) (hs : s.onwards s₀) :
    (State.setQueue s r b q).onwards s₀ := by
  unfold State.setQueue
  (try simp (maxDischargeDepth := 12) +contextual [*])

@[simp] theorem State.queueTrain_onwards {s₀ : State} (s : State) (r : Nat) (b : Bool) (t : Train) (hs : s.onwards s₀) :
    (State.queueTrain s r b t).onwards s₀ := by
  unfold State.queueTrain
  (try simp (maxDischargeDepth := 12) +contextual [*])

@[simp] theorem State.queueTo_onwards {s₀ : State} (s : State) (r : Nat) (p : Nat) (order : Nat) (type : Nat) (payload : List Byte) (hs : s.onwards s₀) :
    (State.queueTo s r p order type payload).onwards s₀ := by
  unfold State.queueTo
  (try simp (maxDischargeDepth := 12) +contextual [*])
  all_goals (repeat' split) <;> (try simp (maxDischargeDepth := 12) +contextual [*])

@[simp] theorem State.identifyAll_onwards {s₀ : State} (s : State) (r : Nat) (hs : s.onwards s₀) :
    (State.identifyAll s r).onwards s₀ := by
  unfold State.identifyAll
  (try simp (maxDischargeDepth := 12) +contextual [*])

@[simp] theorem State.errorRate_onwards {s₀ : State} (s : State) (r : Nat) (p : Nat) (hs : s.onwards s₀) :
    (State.errorRate s r p).onwards s₀ := by
  unfold State.errorRate
  (try simp (maxDischargeDepth := 12) +contextual [*])

@[simp] theorem State.chainError_onwards {s₀ : State} (s : State) (r : Nat) (cat : Nat) (off : Option Nat) (p : Nat) (hs : s.onwards s₀) :
    (State.chainError s r cat off p).onwards s₀ := by
  unfold State.chainError
  (try simp (maxDischargeDepth := 12) +contextual [*])
  all_goals (repeat' split) <;> (try simp (maxDischargeDepth := 12) +contextual [*])

@[simp] theorem State.linkBroken_onwards {s₀ : State} (s : State) (r : Nat) (l : Nat) (hs : s.onwards s₀) :
    (State.linkBroken s r l).onwards s₀ := by
  unfold State.linkBroken
  (try simp (maxDischargeDepth := 12) +contextual [*])

@[simp] theorem State.owInconclusive_onwards {s₀ : State} (s : State) (r : Nat) (p : Nat) (hs : s.onwards s₀) :
    (State.owInconclusive s r p).onwards s₀ := by
  unfold State.owInconclusive
  (try simp (maxDischargeDepth := 12) +contextual [*])

@[simp] theorem State.rehomed_onwards {s₀ : State} (s : State) (r : Nat) (b : Bool) (t : Train) (hs : s.onwards s₀) :
    (State.rehomed s r b t).onwards s₀ := by
  unfold State.rehomed
  (try simp (maxDischargeDepth := 12) +contextual [*])
  all_goals (repeat' split) <;> (try simp (maxDischargeDepth := 12) +contextual [*])

@[simp] theorem State.rehome_onwards {s₀ : State} (s : State) (r : Nat) (hs : s.onwards s₀) : (s.rehome r).onwards s₀ := by
  unfold State.rehome
  refine forEach_onwards _ _ _ hs fun s b h => ?_
  extract_lets q
  exact forEach_onwards _ _ _ (by simp [h]) fun s t h => by simp [h]

@[simp] theorem State.requeue_onwards {s₀ : State} (s : State) (r : Nat) (b : Bool) (t : Train) (hs : s.onwards s₀) :
    (State.requeue s r b t).onwards s₀ := by
  unfold State.requeue
  (try simp (maxDischargeDepth := 12) +contextual [*])

@[simp] theorem State.splitAt_onwards {s₀ : State} (s : State) (r : Nat) (ls : List Nat) (hs : s.onwards s₀) :
    (State.splitAt s r ls).onwards s₀ := by
  unfold State.splitAt
  (try simp (maxDischargeDepth := 12) +contextual [*])

@[simp] theorem State.noteReply_onwards {s₀ : State} (s : State) (r : Nat) (port : Bool) (key : Nat) (f : List Byte) (hs : s.onwards s₀) :
    (State.noteReply s r port key f).onwards s₀ := by
  unfold State.noteReply
  (try simp (maxDischargeDepth := 12) +contextual [*])

@[simp] theorem State.reply_onwards {s₀ : State} (s : State) (r : Nat) (port : Bool) (f : List Byte) (act : State → Nat → Bool → State)
    (hs : s.onwards s₀) (ha : ∀ (s : State) p b, s.onwards s₀ → (act s p b).onwards s₀) : (s.reply r port f act).onwards s₀ := by
  unfold State.reply
  split
  · exact ha _ _ _ (by simp (maxDischargeDepth := 12) [*])
  · simp (maxDischargeDepth := 12) [*]
  · simp (maxDischargeDepth := 12) [*]
  · simp only
    split <;> simp (maxDischargeDepth := 12) [*]

@[simp] theorem State.forward_onwards {s₀ : State} (s : State) (r : Nat) (port : Bool) (f : List Byte) (hs : s.onwards s₀) :
    (State.forward s r port f).onwards s₀ := by
  unfold State.forward
  (try simp (maxDischargeDepth := 12) +contextual [*])

@[simp] theorem State.onReply_onwards {s₀ : State} (s : State) (r : Nat) (port : Bool) (f : List Byte) (act : State → Nat → Bool → State)
    (hs : s.onwards s₀) (ha : ∀ (s : State) p b, s.onwards s₀ → (act s p b).onwards s₀) :
    nextSat (s.onReply r port f act) fun t => t.onwards s₀ := by
  unfold State.onReply
  refine doneIf_onwards _ _ _ (fun _ => ?_) hs
  split
  · exact State.reply_onwards _ _ _ _ _ hs ha
  · simp [*]

@[simp] theorem State.queueConfigure_onwards {s₀ : State} (s : State) (r : Nat) (p : Nat) (hs : s.onwards s₀) :
    (State.queueConfigure s r p).onwards s₀ := by
  unfold State.queueConfigure
  (try simp (maxDischargeDepth := 12) +contextual [*])

@[simp] theorem State.reconfigure_onwards {s₀ : State} (s : State) (r : Nat) (hs : s.onwards s₀) :
    (State.reconfigure s r).onwards s₀ := by
  unfold State.reconfigure
  (try simp (maxDischargeDepth := 12) +contextual [*])

theorem State.newChallenge_onwards {s₀ : State} (s : State) (t : State × List Byte) (h : s.newChallenge = some t) (hs :
    s.onwards s₀) :
    t.1.onwards s₀ := by
  unfold State.newChallenge at h
  simp only [Option.map_eq_some_iff] at h
  obtain ⟨u, hu, rfl⟩ := h
  have : u.onwards s₀ := by
    revert hu
    repeat' split
    all_goals intro h; cases h
    all_goals simp (maxDischargeDepth := 12) [*]
  simp (maxDischargeDepth := 12) [*]

@[simp] theorem State.authStart_onwards {s₀ : State} (s : State) (r p : Nat) (hs : s.onwards s₀) :
    (s.authStart r p).onwards s₀ := by
  unfold State.authStart
  split
  · rename_i h
    have := State.newChallenge_onwards _ _ h hs
    simp (maxDischargeDepth := 12) [*]
  · simp [hs]
  · simp [hs]

@[simp] theorem State.authResume_onwards {s₀ : State} (s : State) (hs : s.onwards s₀) : (State.authResume s).onwards s₀ := by
  unfold State.authResume
  (try simp (maxDischargeDepth := 12) +contextual [*])

@[simp] theorem State.tamper_onwards {s₀ : State} (s : State) (b : Nat) (hs : s.onwards s₀) : (State.tamper s b).onwards s₀ := by
  unfold State.tamper
  (try simp (maxDischargeDepth := 12) +contextual [*])

@[simp] theorem State.setAuth_onwards {s₀ : State} (s : State) (r : Nat) (p : Nat) (v : Nat) (hs : s.onwards s₀) :
    (State.setAuth s r p v).onwards s₀ := by
  unfold State.setAuth
  (try simp (maxDischargeDepth := 12) +contextual [*])

@[simp] theorem State.authNone_onwards {s₀ : State} (s : State) (r : Nat) (p : Nat) (b : Bool) (t : Train) (hs : s.onwards s₀) :
    (State.authNone s r p b t).onwards s₀ := by
  unfold State.authNone
  (try simp (maxDischargeDepth := 12) +contextual [*])

@[simp] theorem State.owNotRun_onwards {s₀ : State} (s : State) (hs : s.onwards s₀) : (State.owNotRun s).onwards s₀ := by
  unfold State.owNotRun
  all_goals (repeat' split) <;> (try simp (maxDischargeDepth := 12) +contextual [*])

@[simp] theorem State.dropDeviceTest_onwards {s₀ : State} (s : State) (hs : s.onwards s₀) :
    (State.dropDeviceTest s).onwards s₀ := by
  unfold State.dropDeviceTest
  all_goals (repeat' split) <;> (try simp (maxDischargeDepth := 12) +contextual [*])

@[simp] theorem State.dropShots_onwards {s₀ : State} (s : State) (r : Nat) (hs : s.onwards s₀) :
    (State.dropShots s r).onwards s₀ := by
  unfold State.dropShots
  (try simp (maxDischargeDepth := 12) +contextual [*])

@[simp] theorem State.dropWork_onwards {s₀ : State} (s : State) (r : Nat) (hs : s.onwards s₀) :
    (State.dropWork s r).onwards s₀ := by
  unfold State.dropWork
  (try simp (maxDischargeDepth := 12) +contextual [*])

@[simp] theorem State.enumFail_onwards {s₀ : State} (s : State) (r : Nat) (p : Nat) (hs : s.onwards s₀) :
    (State.enumFail s r p).onwards s₀ := by
  unfold State.enumFail
  (try simp (maxDischargeDepth := 12) +contextual [*])

@[simp] theorem State.enumEnter_onwards {s₀ : State} (s : State) (r : Nat) (step : Nat) (hs : s.onwards s₀) :
    (State.enumEnter s r step).onwards s₀ := by
  unfold State.enumEnter
  (try simp (maxDischargeDepth := 12) +contextual [*])

@[simp] theorem State.enumStart_onwards {s₀ : State} (s : State) (r : Nat) (hs : s.onwards s₀) :
    (State.enumStart s r).onwards s₀ := by
  unfold State.enumStart
  (try simp (maxDischargeDepth := 12) +contextual [*])

@[simp] theorem State.enumerateFrom_onwards {s₀ : State} (s : State) (r : Nat) (b : Bool) (hs : s.onwards s₀) :
    (State.enumerateFrom s r b).onwards s₀ := by
  unfold State.enumerateFrom
  (try simp (maxDischargeDepth := 12) +contextual [*])

@[simp] theorem State.noteMismatch_onwards {s₀ : State} (s : State) (r : Nat) (code : Nat) (p : Nat) (hs : s.onwards s₀) :
    (State.noteMismatch s r code p).onwards s₀ := by
  unfold State.noteMismatch
  (try simp (maxDischargeDepth := 12) +contextual [*])

@[simp] theorem State.enumCheck_onwards {s₀ : State} (s : State) (r : Nat) (hs : s.onwards s₀) :
    (State.enumCheck s r).onwards s₀ := by
  unfold State.enumCheck
  (try simp (maxDischargeDepth := 12) +contextual [*])
  all_goals (repeat' split) <;> (try simp (maxDischargeDepth := 12) +contextual [*])

@[simp] theorem State.echoTaken_onwards {s₀ : State} (s : State) (r : Nat) (key : Nat) (dt : Nat) (hs : s.onwards s₀) :
    (State.echoTaken s r key dt).onwards s₀ := by
  unfold State.echoTaken
  (try simp (maxDischargeDepth := 12) +contextual [*])

@[simp] theorem State.echoForwarded_onwards {s₀ : State} (s : State) (r : Nat) (key : Nat) (hs : s.onwards s₀) :
    (State.echoForwarded s r key).onwards s₀ := by
  unfold State.echoForwarded
  (try simp (maxDischargeDepth := 12) +contextual [*])

@[simp] theorem State.enumDelays_onwards {s₀ : State} (s : State) (r : Nat) (hs : s.onwards s₀) :
    (State.enumDelays s r).onwards s₀ := by
  unfold State.enumDelays
  (try simp (maxDischargeDepth := 12) +contextual [*])
  all_goals (repeat' split) <;> (try simp (maxDischargeDepth := 12) +contextual [*])

@[simp] theorem State.enumAuth_onwards {s₀ : State} (s : State) (r : Nat) (hs : s.onwards s₀) :
    (State.enumAuth s r).onwards s₀ := by
  unfold State.enumAuth
  (try simp (maxDischargeDepth := 12) +contextual [*])

@[simp] theorem State.enumAdvance_onwards {s₀ : State} (s : State) (r : Nat) (hs : s.onwards s₀) :
    (State.enumAdvance s r).onwards s₀ := by
  unfold State.enumAdvance
  (try simp (maxDischargeDepth := 12) +contextual [*])

theorem execEnumerationStart_onwards {s₀ : State} (ring : Fin 4) (s : State) (hs : s.onwards s₀) :
    nextSat (execEnumerationStart ring s) fun t => t.onwards s₀ := by
  unfold execEnumerationStart
  (try simp (maxDischargeDepth := 12) +contextual [*])

theorem execEnumerationWaitDone_onwards {s₀ : State} (ring : Fin 4) (aIdle : Bool) (bIdle : Bool) (s : State) (hs : s.onwards s₀) :
    nextSat (execEnumerationWaitDone ring aIdle bIdle s) fun t => t.onwards s₀ := by
  unfold execEnumerationWaitDone
  (try simp (maxDischargeDepth := 12) +contextual [*])

theorem execManifestMismatchReenumerate_onwards {s₀ : State} (ring : Fin 4) (s : State) (hs : s.onwards s₀) :
    nextSat (execManifestMismatchReenumerate ring s) fun t => t.onwards s₀ := by
  unfold execManifestMismatchReenumerate
  (try simp (maxDischargeDepth := 12) +contextual [*])

@[simp] theorem State.portBroken_onwards {s₀ : State} (s : State) (r : Nat) (l : Nat) (hs : s.onwards s₀) :
    (State.portBroken s r l).onwards s₀ := by
  unfold State.portBroken
  (try simp (maxDischargeDepth := 12) +contextual [*])

theorem execLaneLost_onwards {s₀ : State} (ring : Fin 4) (loss : LaneLoss) (s : State) (hs : s.onwards s₀) :
    nextSat (execLaneLost ring loss s) fun t => t.onwards s₀ := by
  unfold execLaneLost
  (try simp (maxDischargeDepth := 12) +contextual [*])

@[simp] theorem State.rejoin_onwards {s₀ : State} (s : State) (r : Nat) (hs : s.onwards s₀) : (s.rejoin r).onwards s₀ := by
  unfold State.rejoin
  split
  · exact hs
  · extract_lets s1 s2
    have h1 : s1.onwards s₀ := by simp [s1, hs]
    clear_value s1
    have h2 : s2.onwards s₀ := by
      simp only [s2]
      split <;> simp (maxDischargeDepth := 12) [*]
    clear_value s2
    split <;> simp (maxDischargeDepth := 12) [*]

@[simp] theorem State.rejoinEnds_onwards {s₀ : State} (s : State) (r : Nat) (l : Nat) (hs : s.onwards s₀) :
    (State.rejoinEnds s r l).onwards s₀ := by
  unfold State.rejoinEnds
  (try simp (maxDischargeDepth := 12) +contextual [*])

@[simp] theorem State.pollBreaks_onwards {s₀ : State} (s : State) (r : Nat) (hs : s.onwards s₀) :
    (State.pollBreaks s r).onwards s₀ := by
  unfold State.pollBreaks
  (try simp (maxDischargeDepth := 12) +contextual [*])

theorem execLaneRestored_onwards {s₀ : State} (ring : Fin 4) (valid : LaneValid) (s : State) (hs : s.onwards s₀) :
    nextSat (execLaneRestored ring valid s) fun t => t.onwards s₀ := by
  unfold execLaneRestored
  (try simp (maxDischargeDepth := 12) +contextual [*])

@[simp] theorem State.rejoined_onwards {s₀ : State} (s : State) (r : Nat) (l : Nat) (hs : s.onwards s₀) :
    (State.rejoined s r l).onwards s₀ := by
  unfold State.rejoined
  (try simp (maxDischargeDepth := 12) +contextual [*])

@[simp] theorem State.noteSent_onwards {s₀ : State} (s : State) (r : Nat) (b : Bool) (t : Train) (hs : s.onwards s₀) :
    (State.noteSent s r b t).onwards s₀ := by
  unfold State.noteSent
  (try simp (maxDischargeDepth := 12) +contextual [*])

@[simp] theorem State.slept_onwards {s₀ : State} (s : State) (r : Nat) (hs : s.onwards s₀) : (State.slept s r).onwards s₀ := by
  unfold State.slept
  (try simp (maxDischargeDepth := 12) +contextual [*])

@[simp] theorem State.launch_onwards {s₀ : State} (s : State) (r : Nat) (b : Bool) (t : Train) (hs : s.onwards s₀) :
    (State.launch s r b t).onwards s₀ := by
  unfold State.launch
  (try simp (maxDischargeDepth := 12) +contextual [*])

@[simp] theorem State.launchQueued_onwards {s₀ : State} (s : State) (r : Nat) (b : Bool) (t : Train) (hs : s.onwards s₀) :
    (State.launchQueued s r b t).onwards s₀ := by
  unfold State.launchQueued
  (try simp (maxDischargeDepth := 12) +contextual [*])

@[simp] theorem State.launchSlot_onwards {s₀ : State} (s : State) (r : Nat) (b : Bool) (t : Train) (queued : Bool) (hs : s.onwards s₀) :
    (State.launchSlot s r b t queued).onwards s₀ := by
  unfold State.launchSlot
  (try simp (maxDischargeDepth := 12) +contextual [*])
  all_goals (repeat' split) <;> (try simp (maxDischargeDepth := 12) +contextual [*])

theorem execIdleSlotLaunch_onwards {s₀ : State} (ring : Fin 4) (bEnd : Bool) (s : State) (hs : s.onwards s₀) :
    nextSat (execIdleSlotLaunch ring bEnd s) fun t => t.onwards s₀ := by
  unfold execIdleSlotLaunch
  (try simp (maxDischargeDepth := 12) +contextual [*])
  all_goals (repeat' split) <;> (try simp (maxDischargeDepth := 12) +contextual [*])

@[simp] theorem State.unanswered_onwards {s₀ : State} (s : State) (r : Nat) (p : Nat) (t : Train) (hs : s.onwards s₀) :
    (State.unanswered s r p t).onwards s₀ := by
  unfold State.unanswered
  (try simp (maxDischargeDepth := 12) +contextual [*])

@[simp] theorem State.dropLateTests_onwards {s₀ : State} (s : State) (r : Nat) (hs : s.onwards s₀) :
    (State.dropLateTests s r).onwards s₀ := by
  unfold State.dropLateTests
  (try simp (maxDischargeDepth := 12) +contextual [*])

@[simp] theorem State.repliesMissing_onwards {s₀ : State} (s : State) (r : Nat) (b : Bool) (t : Train) (silent : List Nat) (hs : s.onwards s₀) :
    (State.repliesMissing s r b t silent).onwards s₀ := by
  unfold State.repliesMissing
  (try simp (maxDischargeDepth := 12) +contextual [*])
  all_goals (repeat' split) <;> (try simp (maxDischargeDepth := 12) +contextual [*])

@[simp] theorem State.remeasured_onwards {s₀ : State} (s : State) (r : Nat) (hs : s.onwards s₀) :
    (State.remeasured s r).onwards s₀ := by
  unfold State.remeasured
  (try simp (maxDischargeDepth := 12) +contextual [*])
  all_goals (repeat' split) <;> (try simp (maxDischargeDepth := 12) +contextual [*])

@[simp] theorem State.trainDone_onwards {s₀ : State} (s : State) (r : Nat) (b : Bool) (t : Train) (hs : s.onwards s₀) :
    (State.trainDone s r b t).onwards s₀ := by
  unfold State.trainDone
  (try simp (maxDischargeDepth := 12) +contextual [*])

theorem execTrainEotReturned_onwards {s₀ : State} (ring : Fin 4) (bEnd : Bool) (s : State) (hs : s.onwards s₀) :
    nextSat (execTrainEotReturned ring bEnd s) fun t => t.onwards s₀ := by
  unfold execTrainEotReturned
  all_goals (repeat' split) <;> (try simp (maxDischargeDepth := 12) +contextual [*])

theorem execTrainTimeout_onwards {s₀ : State} (ring : Fin 4) (bEnd : Bool) (s : State) (hs : s.onwards s₀) :
    nextSat (execTrainTimeout ring bEnd s) fun t => t.onwards s₀ := by
  unfold execTrainTimeout
  (try simp (maxDischargeDepth := 12) +contextual [*])
  all_goals (repeat' split) <;> (try simp (maxDischargeDepth := 12) +contextual [*])

@[simp] theorem State.measureR_onwards {s₀ : State} (s : State) (r : Nat) (ns : Nat) (hs : s.onwards s₀) :
    (State.measureR s r ns).onwards s₀ := by
  unfold State.measureR
  (try simp (maxDischargeDepth := 12) +contextual [*])

@[simp] theorem State.triggerBack_onwards {s₀ : State} (s : State) (r : Nat) (ns : Nat) (hs : s.onwards s₀) :
    (State.triggerBack s r ns).onwards s₀ := by
  unfold State.triggerBack
  (try simp (maxDischargeDepth := 12) +contextual [*])

@[simp] theorem State.wholeAgain_onwards {s₀ : State} (s : State) (r : Nat) (hs : s.onwards s₀) :
    (State.wholeAgain s r).onwards s₀ := by
  unfold State.wholeAgain
  (try simp (maxDischargeDepth := 12) +contextual [*])

@[simp] theorem State.holderHeard_onwards {s₀ : State} (s : State) (r : Nat) (hs : s.onwards s₀) :
    (State.holderHeard s r).onwards s₀ := by
  unfold State.holderHeard
  (try simp (maxDischargeDepth := 12) +contextual [*])

@[simp] theorem State.returnCompare_onwards {s₀ : State} (s : State) (r : Nat) (rp : ReturnPath) (hs : s.onwards s₀) :
    (State.returnCompare s r rp).onwards s₀ := by
  unfold State.returnCompare
  (try simp (maxDischargeDepth := 12) +contextual [*])

@[simp] theorem State.returned_onwards {s₀ : State} (s : State) (r : Nat) (rp : ReturnPath) (hs : s.onwards s₀) :
    (State.returned s r rp).onwards s₀ := by
  unfold State.returned
  (try simp (maxDischargeDepth := 12) +contextual [*])
  all_goals (repeat' split) <;> (try simp (maxDischargeDepth := 12) +contextual [*])

@[simp] theorem State.returnedFar_onwards {s₀ : State} (s : State) (r : Nat) (rp : ReturnPath) (hs : s.onwards s₀) :
    (State.returnedFar s r rp).onwards s₀ := by
  unfold State.returnedFar
  all_goals (repeat' split) <;> (try simp (maxDischargeDepth := 12) +contextual [*])

theorem execReturnPathCheck_onwards {s₀ : State} (ring : Fin 4) (rp : ReturnPath) (s : State) (hs : s.onwards s₀) :
    nextSat (execReturnPathCheck ring rp s) fun t => t.onwards s₀ := by
  unfold execReturnPathCheck
  (try simp (maxDischargeDepth := 12) +contextual [*])
  all_goals (repeat' split) <;> (try simp (maxDischargeDepth := 12) +contextual [*])

@[simp] theorem State.identified_onwards {s₀ : State} (s : State) (r : Nat) (p : Nat) (uid : Nat) (hs : s.onwards s₀) :
    (State.identified s r p uid).onwards s₀ := by
  unfold State.identified
  (try simp (maxDischargeDepth := 12) +contextual [*])
  all_goals (repeat' split) <;> (try simp (maxDischargeDepth := 12) +contextual [*])

@[simp] theorem State.takeIdent_onwards {s₀ : State} (s : State) (r : Nat) (p : Nat) (b : Bool) (frame : List Byte) (hs : s.onwards s₀) :
    (State.takeIdent s r p b frame).onwards s₀ := by
  unfold State.takeIdent
  (try simp (maxDischargeDepth := 12) +contextual [*])

theorem execIdent_onwards {s₀ : State} (ring : Fin 4) (bEnd : Bool) (frame : List Byte) (s : State) (hs : s.onwards s₀) :
    nextSat (execIdent ring bEnd frame s) fun t => t.onwards s₀ := by
  unfold execIdent
  (try simp (maxDischargeDepth := 12) +contextual [*])

@[simp] theorem State.takeEcho_onwards {s₀ : State} (s : State) (r : Nat) (p : Nat) (b : Bool) (frame : List Byte) (t0 : Nat) (t1 : Nat) (hs : s.onwards s₀) :
    (State.takeEcho s r p b frame t0 t1).onwards s₀ := by
  unfold State.takeEcho
  (try simp (maxDischargeDepth := 12) +contextual [*])

theorem execEchoBack_onwards {s₀ : State} (ring : Fin 4) (bEnd : Bool) (frame : List Byte) (t0 : Nat) (t1 : Nat) (s : State) (hs : s.onwards s₀) :
    nextSat (execEchoBack ring bEnd frame t0 t1 s) fun t => t.onwards s₀ := by
  unfold execEchoBack
  (try simp (maxDischargeDepth := 12) +contextual [*])
  all_goals (repeat' split) <;> (try simp (maxDischargeDepth := 12) +contextual [*])

@[simp] theorem State.takeConfigAck_onwards {s₀ : State} (s : State) (r : Nat) (p : Nat) (b : Bool) (frame : List Byte) (hs : s.onwards s₀) :
    (State.takeConfigAck s r p b frame).onwards s₀ := by
  unfold State.takeConfigAck
  (try simp (maxDischargeDepth := 12) +contextual [*])

theorem execConfigAck_onwards {s₀ : State} (ring : Fin 4) (bEnd : Bool) (frame : List Byte) (s : State) (hs : s.onwards s₀) :
    nextSat (execConfigAck ring bEnd frame s) fun t => t.onwards s₀ := by
  unfold execConfigAck
  (try simp (maxDischargeDepth := 12) +contextual [*])

@[simp] theorem State.takeStatus_onwards {s₀ : State} (s : State) (r : Nat) (p : Nat) (frame : List Byte) (hs : s.onwards s₀) :
    (State.takeStatus s r p frame).onwards s₀ := by
  unfold State.takeStatus
  (try simp (maxDischargeDepth := 12) +contextual [*])

theorem execStatus_onwards {s₀ : State} (ring : Fin 4) (bEnd : Bool) (frame : List Byte) (s : State) (hs : s.onwards s₀) :
    nextSat (execStatus ring bEnd frame s) fun t => t.onwards s₀ := by
  unfold execStatus
  (try simp (maxDischargeDepth := 12) +contextual [*])

@[simp] theorem State.takeAuthResult_onwards {s₀ : State} (s : State) (r : Nat) (p : Nat) (frame : List Byte) (hs : s.onwards s₀) :
    (State.takeAuthResult s r p frame).onwards s₀ := by
  unfold State.takeAuthResult
  (try simp (maxDischargeDepth := 12) +contextual [*])

theorem execAuthResult_onwards {s₀ : State} (ring : Fin 4) (bEnd : Bool) (frame : List Byte) (s : State) (hs : s.onwards s₀) :
    nextSat (execAuthResult ring bEnd frame s) fun t => t.onwards s₀ := by
  unfold execAuthResult
  (try simp (maxDischargeDepth := 12) +contextual [*])

theorem execAuthReadDue_onwards {s₀ : State} (ring : Fin 4) (pos : Fin 32) (s : State) (hs : s.onwards s₀) :
    nextSat (execAuthReadDue ring pos s) fun t => t.onwards s₀ := by
  unfold execAuthReadDue
  (try simp (maxDischargeDepth := 12) +contextual [*])

@[simp] theorem State.takeAuthMac_onwards {s₀ : State} (s : State) (r p : Nat) (b : Bool) (frame : List Byte) (hs :
    s.onwards s₀) :
    (State.takeAuthMac s r p b frame).onwards s₀ := by
  unfold State.takeAuthMac
  extract_lets d k m s1
  have h1 : s1.onwards s₀ := by
    simp only [s1]
    repeat' split
    all_goals simp [*]
  clear_value s1
  simp [h1]

theorem execAuthMac_onwards {s₀ : State} (ring : Fin 4) (bEnd : Bool) (frame : List Byte) (s : State) (hs : s.onwards s₀) :
    nextSat (execAuthMac ring bEnd frame s) fun t => t.onwards s₀ := by
  unfold execAuthMac
  (try simp (maxDischargeDepth := 12) +contextual [*])

theorem execAuthRetry_onwards {s₀ : State} (ring : Fin 4) (pos : Fin 32) (s : State) (hs : s.onwards s₀) :
    nextSat (execAuthRetry ring pos s) fun t => t.onwards s₀ := by
  unfold execAuthRetry
  (try simp (maxDischargeDepth := 12) +contextual [*])

theorem execModuleAuthDue_onwards {s₀ : State} (ring : Fin 4) (pos : Fin 32) (s : State) (hs : s.onwards s₀) :
    nextSat (execModuleAuthDue ring pos s) fun t => t.onwards s₀ := by
  unfold execModuleAuthDue
  (try simp (maxDischargeDepth := 12) +contextual [*])

@[simp] theorem State.takeRejoinResult_onwards {s₀ : State} (s : State) (r : Nat) (p : Nat) (b : Bool) (frame : List Byte) (hs : s.onwards s₀) :
    (State.takeRejoinResult s r p b frame).onwards s₀ := by
  unfold State.takeRejoinResult
  (try simp (maxDischargeDepth := 12) +contextual [*])

theorem execRejoinResult_onwards {s₀ : State} (ring : Fin 4) (bEnd : Bool) (frame : List Byte) (s : State) (hs : s.onwards s₀) :
    nextSat (execRejoinResult ring bEnd frame s) fun t => t.onwards s₀ := by
  unfold execRejoinResult
  (try simp (maxDischargeDepth := 12) +contextual [*])

theorem execChainWakeEnd_onwards {s₀ : State} (ring : Fin 4) (s : State) (hs : s.onwards s₀) :
    nextSat (execChainWakeEnd ring s) fun t => t.onwards s₀ := by
  unfold execChainWakeEnd
  (try simp (maxDischargeDepth := 12) +contextual [*])

@[simp] theorem State.addOutput_onwards {s₀ : State} (s : State) (k : Nat) (v : Int) (sign : Int) (hs : s.onwards s₀) :
    (State.addOutput s k v sign).onwards s₀ := by
  unfold State.addOutput
  (try simp (maxDischargeDepth := 12) +contextual [*])

@[simp] theorem State.fastPath_onwards {s₀ : State} (s : State) (k : Nat) (hs : s.onwards s₀) :
    (State.fastPath s k).onwards s₀ := by
  unfold State.fastPath
  (try simp (maxDischargeDepth := 12) +contextual [*])

@[simp] theorem State.takeCurrent_onwards {s₀ : State} (s : State) (n : Nat) (dsiBits : BitVec 20) (isaCode : BitVec 16)
    (hs : s.onwards s₀) : (State.takeCurrent s n dsiBits isaCode).onwards s₀ := by
  unfold State.takeCurrent
  extract_lets d a s1 s2 x s3
  have h1 : s1.onwards s₀ := by simp [s1, hs]
  clear_value s1
  have h2 : s2.onwards s₀ := by simp [s2, h1]
  clear_value s2
  have h3 : s3.onwards s₀ := by simp [s3, h2]
  clear_value s3
  simp [h3]

theorem execCurrentOutput_onwards {s₀ : State} (string : Fin 4) (dsiBits : BitVec 20) (isaCode : BitVec 16) (s : State) (hs : s.onwards s₀) :
    nextSat (execCurrentOutput string dsiBits isaCode s) fun t => t.onwards s₀ := by
  unfold execCurrentOutput
  (try simp (maxDischargeDepth := 12) +contextual [*])

theorem execFastPathDebounceExpiry_onwards {s₀ : State} (string : Fin 4) (s : State) (hs : s.onwards s₀) :
    nextSat (execFastPathDebounceExpiry string s) fun t => t.onwards s₀ := by
  unfold execFastPathDebounceExpiry
  (try simp (maxDischargeDepth := 12) +contextual [*])

theorem execCurrentSampleDelivered_onwards {s₀ : State} (string : Fin 4) (ch : Fin 2) (s : State) (hs : s.onwards s₀) :
    nextSat (execCurrentSampleDelivered string ch s) fun t => t.onwards s₀ := by
  unfold execCurrentSampleDelivered
  (try simp (maxDischargeDepth := 12) +contextual [*])
  all_goals (repeat' split) <;> (try simp (maxDischargeDepth := 12) +contextual [*])

@[simp] theorem State.chanFault_onwards {s₀ : State} (s : State) (k : Nat) (src : Nat) (hs : s.onwards s₀) :
    (State.chanFault s k src).onwards s₀ := by
  unfold State.chanFault
  (try simp (maxDischargeDepth := 12) +contextual [*])

theorem execDsiStuckFault_onwards {s₀ : State} (string : Fin 4) (s : State) (hs : s.onwards s₀) :
    nextSat (execDsiStuckFault string s) fun t => t.onwards s₀ := by
  unfold execDsiStuckFault
  (try simp (maxDischargeDepth := 12) +contextual [*])

theorem execIsaRangeFault_onwards {s₀ : State} (string : Fin 4) (s : State) (hs : s.onwards s₀) :
    nextSat (execIsaRangeFault string s) fun t => t.onwards s₀ := by
  unfold execIsaRangeFault
  (try simp (maxDischargeDepth := 12) +contextual [*])

theorem execCurrentFaultClear_onwards {s₀ : State} (string : Fin 4) (ch : Fin 2) (s : State) (hs : s.onwards s₀) :
    nextSat (execCurrentFaultClear string ch s) fun t => t.onwards s₀ := by
  unfold execCurrentFaultClear
  (try simp (maxDischargeDepth := 12) +contextual [*])

@[simp] theorem State.crossCount_onwards {s₀ : State} (s : State) (n : Nat) (hs : s.onwards s₀) :
    (State.crossCount s n).onwards s₀ := by
  unfold State.crossCount
  (try simp (maxDischargeDepth := 12) +contextual [*])

theorem execCrossCheckDisagree_onwards {s₀ : State} (string : Fin 4) (s : State) (hs : s.onwards s₀) :
    nextSat (execCrossCheckDisagree string s) fun t => t.onwards s₀ := by
  unfold execCrossCheckDisagree
  (try simp (maxDischargeDepth := 12) +contextual [*])

@[simp] theorem State.publishChannel_onwards {s₀ : State} (s : State) (k : Nat) (hs : s.onwards s₀) :
    (State.publishChannel s k).onwards s₀ := by
  unfold State.publishChannel
  (try simp (maxDischargeDepth := 12) +contextual [*])

@[simp] theorem State.countTally_onwards {s₀ : State} (s : State) (n : Nat) (hs : s.onwards s₀) :
    (State.countTally s n).onwards s₀ := by
  unfold State.countTally
  (try simp (maxDischargeDepth := 12) +contextual [*])

@[simp] theorem State.publishCurrent_onwards {s₀ : State} (s : State) (n : Nat) (hs : s.onwards s₀) :
    (State.publishCurrent s n).onwards s₀ := by
  unfold State.publishCurrent
  (try simp (maxDischargeDepth := 12) +contextual [*])

@[simp] theorem State.judgeGroup_onwards {s₀ : State} (s : State) (g : List Nat) (hs : s.onwards s₀) :
    (State.judgeGroup s g).onwards s₀ := by
  unfold State.judgeGroup
  (try simp (maxDischargeDepth := 12) +contextual [*])

theorem execComparatorSourceRaise_onwards {s₀ : State} (ring : Fin 4) (kind : Fin 4) (number : Nat) (s : State) (hs : s.onwards s₀) :
    nextSat (execComparatorSourceRaise ring kind number s) fun t => t.onwards s₀ := by
  unfold execComparatorSourceRaise
  (try simp (maxDischargeDepth := 12) +contextual [*])
  all_goals (repeat' split) <;> (try simp (maxDischargeDepth := 12) +contextual [*])

@[simp] theorem State.tempFlag_onwards {s₀ : State} (s : State) (k : Nat) (i : Nat) (v : Bool) (hs : s.onwards s₀) :
    (State.tempFlag s k i v).onwards s₀ := by
  unfold State.tempFlag
  (try simp (maxDischargeDepth := 12) +contextual [*])

@[simp] theorem State.tempReading_onwards {s₀ : State} (s : State) (k : Nat) (v : Int) (viaB : Bool) (hs : s.onwards s₀) :
    (State.tempReading s k v viaB).onwards s₀ := by
  unfold State.tempReading
  (try simp (maxDischargeDepth := 12) +contextual [*])

@[simp] theorem State.monitorHealth_onwards {s₀ : State} (s : State) (r : Nat) (p : Nat) (fault : Bool) (ref : Option Nat) (hs : s.onwards s₀) :
    (State.monitorHealth s r p fault ref).onwards s₀ := by
  unfold State.monitorHealth
  (try simp (maxDischargeDepth := 12) +contextual [*])

theorem execTempDwellEnd_onwards {s₀ : State} (ring : Fin 4) (pos : Fin 32) (slot : Fin 10) (s : State) (hs : s.onwards s₀) :
    nextSat (execTempDwellEnd ring pos slot s) fun t => t.onwards s₀ := by
  unfold execTempDwellEnd
  (try simp (maxDischargeDepth := 12) +contextual [*])

theorem execTempStaleTimeout_onwards {s₀ : State} (ring : Fin 4) (pos : Fin 32) (input : Fin 8) (s : State) (hs : s.onwards s₀) :
    nextSat (execTempStaleTimeout ring pos input s) fun t => t.onwards s₀ := by
  unfold execTempStaleTimeout
  (try simp (maxDischargeDepth := 12) +contextual [*])

@[simp] theorem State.takeWord_onwards {s₀ : State} (s : State) (c : Nat) (w : Nat) (viaB : Bool) (bleed : Bool) (hs : s.onwards s₀) :
    (State.takeWord s c w viaB bleed).onwards s₀ := by
  unfold State.takeWord
  (try simp (maxDischargeDepth := 12) +contextual [*])

@[simp] theorem State.dropWords_onwards {s₀ : State} (s : State) (r : Nat) (p : Nat) (hs : s.onwards s₀) :
    (State.dropWords s r p).onwards s₀ := by
  unfold State.dropWords
  (try simp (maxDischargeDepth := 12) +contextual [*])

@[simp] theorem State.accept'_onwards {s₀ : State} (s : State) (r : Nat) (p : Nat) (f : List Byte) (hs : s.onwards s₀) :
    (State.accept' s r p f).onwards s₀ := by
  unfold State.accept'
  (try simp (maxDischargeDepth := 12) +contextual [*])

@[simp] theorem State.unconfigured_onwards {s₀ : State} (s : State) (r : Nat) (p : Nat) (hs : s.onwards s₀) :
    (State.unconfigured s r p).onwards s₀ := by
  unfold State.unconfigured
  (try simp (maxDischargeDepth := 12) +contextual [*])

@[simp] theorem State.takeSample_onwards {s₀ : State} (s : State) (r : Nat) (port b : Bool) (hop p : Nat) (f : List Byte) (hs :
    s.onwards s₀) :
    (s.takeSample r port b hop p f).onwards s₀ := by
  unfold State.takeSample
  extract_lets d st slot none' k x retry s1 s2 viaB cells raw v s3 s4 s5 s6
  split
  · simp (maxDischargeDepth := 12) [*]
  have h1 : s1.onwards s₀ := by simp [s1, *]
  clear_value s1
  have h2 : s2.onwards s₀ := by
    simp only [s2]
    split <;> simp (maxDischargeDepth := 12) [*]
  clear_value s2
  split
  · exact h2
  split
  · simp (maxDischargeDepth := 12) [*]
  split
  · simp (maxDischargeDepth := 12) [*]
  have h3 : s3.onwards s₀ := forEach_onwards _ _ _ h2 fun s e h => by simp [h]
  clear_value s3
  have h4 : s4.onwards s₀ := forEach_onwards _ _ _ h3 fun s e h => by simp [h]
  clear_value s4
  have h5 : s5.onwards s₀ := by
    simp only [s5]
    split <;> simp (maxDischargeDepth := 12) [*]
  clear_value s5
  have h6 : s6.onwards s₀ := by simp [s6, *]
  clear_value s6
  simp (maxDischargeDepth := 12) [*]

theorem execSample_onwards {s₀ : State} (ring : Fin 4) (bEnd : Bool) (frame : List Byte) (s : State) (hs : s.onwards s₀) :
    nextSat (execSample ring bEnd frame s) fun t => t.onwards s₀ := by
  unfold execSample
  (try simp (maxDischargeDepth := 12) +contextual [*])
  all_goals (repeat' split) <;> (try simp (maxDischargeDepth := 12) +contextual [*])

@[simp] theorem State.hopMissing_onwards {s₀ : State} (s : State) (r : Nat) (b : Bool) (hop : Nat) (hs : s.onwards s₀) :
    (s.hopMissing r b hop).onwards s₀ := by
  unfold State.hopMissing
  extract_lets x p came later recovery tried mark s1 first o last s2
  have hm : ∀ (s : State) l, s.onwards s₀ → (mark s l).onwards s₀ := fun s l h => by simp [mark, h]
  have h1 : s1.onwards s₀ := by simp [s1, hs]
  have h2 : s2.onwards s₀ := hm _ _ h1
  clear_value mark s1 s2 recovery tried later o last first
  split
  · simp [h1]
  split
  · simp [h1]
  split
  · simp (maxDischargeDepth := 12) [h2]
  · exact State.queueTrain_onwards _ _ _ _ (State.chainError_onwards _ _ _ _ _ (hm _ _ h1))

theorem execHopMissing_onwards {s₀ : State} (ring : Fin 4) (bEnd : Bool) (hop : Fin 32) (s : State) (hs : s.onwards s₀) :
    nextSat (execHopMissing ring bEnd hop s) fun t => t.onwards s₀ := by
  unfold execHopMissing
  (try simp (maxDischargeDepth := 12) +contextual [*])

@[simp] theorem State.captureWrite_onwards {s₀ : State} (s : State) (hs : s.onwards s₀) : (State.captureWrite s).onwards s₀ := by
  unfold State.captureWrite
  (try simp (maxDischargeDepth := 12) +contextual [*])

theorem execCaptureFreeze_onwards {s₀ : State} (s : State) (hs : s.onwards s₀) :
    nextSat (execCaptureFreeze s) fun t => t.onwards s₀ := by
  unfold execCaptureFreeze
  (try simp (maxDischargeDepth := 12) +contextual [*])

@[simp] theorem State.captureArm_onwards {s₀ : State} (s : State) (value : Nat) (hs : s.onwards s₀) :
    ((State.captureArm s value)).1.onwards s₀ := by
  unfold State.captureArm
  (try simp (maxDischargeDepth := 12) +contextual [*])

theorem execCaptureArm_onwards {s₀ : State} (req : Req) (value : Nat) (s : State) (hs : s.onwards s₀) :
    nextSat (execCaptureArm req value s) fun t => t.onwards s₀ := by
  unfold execCaptureArm
  (try simp (maxDischargeDepth := 12) +contextual [*])

@[simp] theorem State.captureForce_onwards {s₀ : State} (s : State) (value : Nat) (hs : s.onwards s₀) :
    ((State.captureForce s value)).1.onwards s₀ := by
  unfold State.captureForce
  (try simp (maxDischargeDepth := 12) +contextual [*])

theorem execCaptureTrigger_onwards {s₀ : State} (req : Req) (value : Nat) (s : State) (hs : s.onwards s₀) :
    nextSat (execCaptureTrigger req value s) fun t => t.onwards s₀ := by
  unfold execCaptureTrigger
  (try simp (maxDischargeDepth := 12) +contextual [*])

@[simp] theorem State.regionStep_onwards {s₀ : State} (s : State) (g : Nat) (hs : s.onwards s₀) :
    (State.regionStep s g).onwards s₀ := by
  unfold State.regionStep
  (try simp (maxDischargeDepth := 12) +contextual [*])

@[simp] theorem State.tallyInstant_onwards {s₀ : State} (s : State) (uv : Nat) (hs : s.onwards s₀) :
    (State.tallyInstant s uv).onwards s₀ := by
  unfold State.tallyInstant
  (try simp (maxDischargeDepth := 12) +contextual [*])

theorem execTallyInstant_onwards {s₀ : State} (busdetUv : Nat) (s : State) (hs : s.onwards s₀) :
    nextSat (execTallyInstant busdetUv s) fun t => t.onwards s₀ := by
  unfold execTallyInstant
  (try simp (maxDischargeDepth := 12) +contextual [*])

@[simp] theorem State.judgeWire_onwards {s₀ : State} (s : State) (r : Nat) (hs : s.onwards s₀) :
    (State.judgeWire s r).onwards s₀ := by
  unfold State.judgeWire
  (try simp (maxDischargeDepth := 12) +contextual [*])

@[simp] theorem State.queueTest_onwards {s₀ : State} (s : State) (r : Nat) (p : Nat) (purpose : Nat) (todo : List Nat) (hs : s.onwards s₀) :
    (State.queueTest s r p purpose todo).onwards s₀ := by
  unfold State.queueTest
  (try simp (maxDischargeDepth := 12) +contextual [*])

@[simp] theorem State.suspectWire_onwards {s₀ : State} (s : State) (r : Nat) (cell : Nat) (hs : s.onwards s₀) :
    (State.suspectWire s r cell).onwards s₀ := by
  unfold State.suspectWire
  (try simp (maxDischargeDepth := 12) +contextual [*])

theorem execOpenWireSuspect_onwards {s₀ : State} (ring : Fin 4) (cell : Fin 512) (s : State) (hs : s.onwards s₀) :
    nextSat (execOpenWireSuspect ring cell s) fun t => t.onwards s₀ := by
  unfold execOpenWireSuspect
  (try simp (maxDischargeDepth := 12) +contextual [*])

theorem execOpenWireTestStart_onwards {s₀ : State} (ring : Fin 4) (pos : Fin 32) (channel : Fin 18) (s : State) (hs : s.onwards s₀) :
    nextSat (execOpenWireTestStart ring pos channel s) fun t => t.onwards s₀ := by
  unfold execOpenWireTestStart
  (try simp (maxDischargeDepth := 12) +contextual [*])

@[simp] theorem State.takeOwResult_onwards {s₀ : State} (s : State) (r : Nat) (p : Nat) (frame : List Byte) (hs : s.onwards s₀) :
    (State.takeOwResult s r p frame).onwards s₀ := by
  unfold State.takeOwResult
  (try simp (maxDischargeDepth := 12) +contextual [*])

theorem execOpenWireResult_onwards {s₀ : State} (ring : Fin 4) (bEnd : Bool) (frame : List Byte) (s : State) (hs : s.onwards s₀) :
    nextSat (execOpenWireResult ring bEnd frame s) fun t => t.onwards s₀ := by
  unfold execOpenWireResult
  (try simp (maxDischargeDepth := 12) +contextual [*])

@[simp] theorem State.owCollect_onwards {s₀ : State} (s : State) (r : Nat) (p : Nat) (hs : s.onwards s₀) :
    (State.owCollect s r p).onwards s₀ := by
  unfold State.owCollect
  (try simp (maxDischargeDepth := 12) +contextual [*])

@[simp] theorem State.owOpen_onwards {s₀ : State} (s : State) (r : Nat) (p : Nat) (j : Nat) (hs : s.onwards s₀) :
    (State.owOpen s r p j).onwards s₀ := by
  unfold State.owOpen
  (try simp (maxDischargeDepth := 12) +contextual [*])

@[simp] theorem State.owIntact_onwards {s₀ : State} (s : State) (node : Nat) (hs : s.onwards s₀) :
    (State.owIntact s node).onwards s₀ := by
  unfold State.owIntact
  (try simp (maxDischargeDepth := 12) +contextual [*])

@[simp] theorem State.owEvaluate_onwards {s₀ : State} (s : State) (r : Nat) (p : Nat) (hs : s.onwards s₀) :
    (State.owEvaluate s r p).onwards s₀ := by
  unfold State.owEvaluate
  (try simp (maxDischargeDepth := 12) +contextual [*])
  all_goals (repeat' split) <;> (try simp (maxDischargeDepth := 12) +contextual [*])

theorem execOpenWireTestEvaluate_onwards {s₀ : State} (ring : Fin 4) (pos : Fin 32) (s : State) (hs : s.onwards s₀) :
    nextSat (execOpenWireTestEvaluate ring pos s) fun t => t.onwards s₀ := by
  unfold execOpenWireTestEvaluate
  (try simp (maxDischargeDepth := 12) +contextual [*])

theorem execOpenWireRetest_onwards {s₀ : State} (ring : Fin 4) (pos : Fin 32) (s : State) (hs : s.onwards s₀) :
    nextSat (execOpenWireRetest ring pos s) fun t => t.onwards s₀ := by
  unfold execOpenWireRetest
  (try simp (maxDischargeDepth := 12) +contextual [*])
  all_goals (repeat' split) <;> (try simp (maxDischargeDepth := 12) +contextual [*])

theorem execOpenWireRotation_onwards {s₀ : State} (ring : Fin 4) (pos : Fin 32) (channel : Fin 18) (s : State) (hs : s.onwards s₀) :
    nextSat (execOpenWireRotation ring pos channel s) fun t => t.onwards s₀ := by
  unfold execOpenWireRotation
  (try simp (maxDischargeDepth := 12) +contextual [*])

@[simp] theorem State.openWireRequest_onwards {s₀ : State} (s : State) (value : Nat) (hs : s.onwards s₀) :
    ((State.openWireRequest s value)).1.onwards s₀ := by
  unfold State.openWireRequest
  (try simp (maxDischargeDepth := 12) +contextual [*])
  all_goals (repeat' split) <;> (try simp (maxDischargeDepth := 12) +contextual [*])

theorem execOpenWireRequest_onwards {s₀ : State} (req : Req) (value : BitVec 32) (s : State) (hs : s.onwards s₀) :
    nextSat (execOpenWireRequest req value s) fun t => t.onwards s₀ := by
  unfold execOpenWireRequest
  (try simp (maxDischargeDepth := 12) +contextual [*])

@[simp] theorem State.owRequestStart_onwards {s₀ : State} (s : State) (hs : s.onwards s₀) :
    (State.owRequestStart s).onwards s₀ := by
  unfold State.owRequestStart
  (try simp (maxDischargeDepth := 12) +contextual [*])
  all_goals (repeat' split) <;> (try simp (maxDischargeDepth := 12) +contextual [*])

theorem execOpenWireRequestDone_onwards {s₀ : State} (s : State) (hs : s.onwards s₀) :
    nextSat (execOpenWireRequestDone s) fun t => t.onwards s₀ := by
  unfold execOpenWireRequestDone
  (try simp (maxDischargeDepth := 12) +contextual [*])
  all_goals (repeat' split) <;> (try simp (maxDischargeDepth := 12) +contextual [*])

@[simp] theorem State.judgeSuspects_onwards {s₀ : State} (s : State) (n : Nat) (hs : s.onwards s₀) :
    (State.judgeSuspects s n).onwards s₀ := by
  unfold State.judgeSuspects
  (try simp (maxDischargeDepth := 12) +contextual [*])

@[simp] theorem State.passUs_onwards {s₀ : State} (s : State) (hs : s.onwards s₀) : (State.passUs s).onwards s₀ := by
  unfold State.passUs
  (try simp (maxDischargeDepth := 12) +contextual [*])

@[simp] theorem State.applyOffset_onwards {s₀ : State} (s : State) (d : Int) (hs : s.onwards s₀) :
    (State.applyOffset s d).onwards s₀ := by
  unfold State.applyOffset
  (try simp (maxDischargeDepth := 12) +contextual [*])

@[simp] theorem State.freeRun_onwards {s₀ : State} (s : State) (hs : s.onwards s₀) : (State.freeRun s).onwards s₀ := by
  unfold State.freeRun
  (try simp (maxDischargeDepth := 12) +contextual [*])

@[simp] theorem State.syncLocked_onwards {s₀ : State} (s : State) (hs : s.onwards s₀) : (State.syncLocked s).onwards s₀ := by
  unfold State.syncLocked
  (try simp (maxDischargeDepth := 12) +contextual [*])

@[simp] theorem State.ptpSync_onwards {s₀ : State} (s : State) (offsetNs : Int) (interval16 : Nat) (master : Nat) (utcOffset : Int) (hs : s.onwards s₀) :
    (State.ptpSync s offsetNs interval16 master utcOffset).onwards s₀ := by
  unfold State.ptpSync
  (try simp (maxDischargeDepth := 12) +contextual [*])

@[simp] theorem State.ethIn_onwards {s₀ : State} (s : State) (octets : Nat) (hs : s.onwards s₀) :
    (State.ethIn s octets).onwards s₀ := by
  unfold State.ethIn
  (try simp (maxDischargeDepth := 12) +contextual [*])

@[simp] theorem State.ptpFrames_onwards {s₀ : State} (s : State) (x : PtpSync) (hs : s.onwards s₀) :
    (State.ptpFrames s x).onwards s₀ := by
  unfold State.ptpFrames
  (try simp (maxDischargeDepth := 12) +contextual [*])

theorem execPtpSyncReceived_onwards {s₀ : State} (sync : PtpSync) (interval16 : Nat) (master : PtpAnnounce) (utcOffset : Int) (s : State) (hs : s.onwards s₀) :
    nextSat (execPtpSyncReceived sync interval16 master utcOffset s) fun t => t.onwards s₀ := by
  unfold execPtpSyncReceived
  (try simp (maxDischargeDepth := 12) +contextual [*])

theorem execPtpHoldoverTimeout_onwards {s₀ : State} (s : State) (hs : s.onwards s₀) :
    nextSat (execPtpHoldoverTimeout s) fun t => t.onwards s₀ := by
  unfold execPtpHoldoverTimeout
  (try simp (maxDischargeDepth := 12) +contextual [*])

@[simp] theorem State.stepApply_onwards {s₀ : State} (s : State) (ns : Nat) (hs : s.onwards s₀) :
    (State.stepApply s ns).onwards s₀ := by
  unfold State.stepApply
  (try simp (maxDischargeDepth := 12) +contextual [*])

theorem execTimeStepApply_onwards {s₀ : State} (s : State) (hs : s.onwards s₀) :
    nextSat (execTimeStepApply s) fun t => t.onwards s₀ := by
  unfold execTimeStepApply
  all_goals (repeat' split) <;> (try simp (maxDischargeDepth := 12) +contextual [*])

@[simp] theorem State.timeMark_onwards {s₀ : State} (s : State) (worn : Bool) (hs : s.onwards s₀) :
    (State.timeMark s worn).onwards s₀ := by
  unfold State.timeMark
  (try simp (maxDischargeDepth := 12) +contextual [*])

theorem execTimeMarkCommit_onwards {s₀ : State} (worn : Bool) (s : State) (hs : s.onwards s₀) :
    nextSat (execTimeMarkCommit worn s) fun t => t.onwards s₀ := by
  unfold execTimeMarkCommit
  (try simp (maxDischargeDepth := 12) +contextual [*])

theorem execTimeSetLockExpiry_onwards {s₀ : State} (s : State) (hs : s.onwards s₀) :
    nextSat (execTimeSetLockExpiry s) fun t => t.onwards s₀ := by
  unfold execTimeSetLockExpiry
  (try simp (maxDischargeDepth := 12) +contextual [*])

@[simp] theorem State.authFailure_onwards {s₀ : State} (s : State) (link : Nat) (hs : s.onwards s₀) :
    (State.authFailure s link).onwards s₀ := by
  unfold State.authFailure
  (try simp (maxDischargeDepth := 12) +contextual [*])

theorem execAuthLockoutEnd_onwards {s₀ : State} (s : State) (hs : s.onwards s₀) :
    nextSat (execAuthLockoutEnd s) fun t => t.onwards s₀ := by
  unfold execAuthLockoutEnd
  (try simp (maxDischargeDepth := 12) +contextual [*])
  all_goals (repeat' split) <;> (try simp (maxDischargeDepth := 12) +contextual [*])

theorem execSessionTimeout_onwards {s₀ : State} (s : State) (hs : s.onwards s₀) :
    nextSat (execSessionTimeout s) fun t => t.onwards s₀ := by
  unfold execSessionTimeout
  all_goals (repeat' split) <;> (try simp (maxDischargeDepth := 12) +contextual [*])

theorem execNonceExpiry_onwards {s₀ : State} (link : Fin 3) (src : Nat) (s : State) (hs : s.onwards s₀) :
    nextSat (execNonceExpiry link src s) fun t => t.onwards s₀ := by
  unfold execNonceExpiry
  (try simp (maxDischargeDepth := 12) +contextual [*])

@[simp] theorem State.nodeChange_onwards {s₀ : State} (s : State) (hs : s.onwards s₀) : (State.nodeChange s).onwards s₀ := by
  unfold State.nodeChange
  (try simp (maxDischargeDepth := 12) +contextual [*])

theorem execQlpNodeIdWrite_onwards {s₀ : State} (req : Req) (value : Nat) (s : State) (hs : s.onwards s₀) :
    nextSat (execQlpNodeIdWrite req value s) fun t => t.onwards s₀ := by
  unfold execQlpNodeIdWrite
  (try simp (maxDischargeDepth := 12) +contextual [*])
  all_goals (repeat' split) <;> (try simp (maxDischargeDepth := 12) +contextual [*])

end Sys2Proof.Machine
end

