-- ==== Sys2Proof/Laws/OnwardsEstimation.lean ====
section
/-! SUPPORT. Sys2Proof/Laws/OnwardsEstimation.lean: no operation and no command undoes what `State.onwards` says stays: the variant, the OTP bits, local time, the queue
(the estimation fabric and the saved values). -/

namespace Sys2Proof.Machine

@[simp] theorem State.sendBalance_onwards {s₀ : State} (s : State) (r : Nat) (b : Bool) (order : Nat) (first : Nat) (last : Nat) (timer : Nat) (hs : s.onwards s₀) :
    (State.sendBalance s r b order first last timer).onwards s₀ := by
  unfold State.sendBalance
  (try simp (maxDischargeDepth := 12) +contextual [*])

@[simp] theorem State.balanceRing_onwards {s₀ : State} (s : State) (r : Nat) (timer : Nat) (hs : s.onwards s₀) :
    (State.balanceRing s r timer).onwards s₀ := by
  unfold State.balanceRing
  (try simp (maxDischargeDepth := 12) +contextual [*])

@[simp] theorem State.balanceOne_onwards {s₀ : State} (s : State) (r : Nat) (p : Nat) (order : Nat) (hs : s.onwards s₀) :
    (State.balanceOne s r p order).onwards s₀ := by
  unfold State.balanceOne
  (try simp (maxDischargeDepth := 12) +contextual [*])
  all_goals (repeat' split) <;> (try simp (maxDischargeDepth := 12) +contextual [*])

@[simp] theorem State.pollRemoved_onwards {s₀ : State} (s : State) (r : Nat) (hs : s.onwards s₀) :
    (State.pollRemoved s r).onwards s₀ := by
  unfold State.pollRemoved
  (try simp (maxDischargeDepth := 12) +contextual [*])

@[simp] theorem State.planBalance_onwards {s₀ : State} (s : State) (hs : s.onwards s₀) : (State.planBalance s).onwards s₀ := by
  unfold State.planBalance
  (try simp (maxDischargeDepth := 12) +contextual [*])

theorem execBalancePlan_onwards {s₀ : State} (s : State) (hs : s.onwards s₀) :
    nextSat (execBalancePlan s) fun t => t.onwards s₀ := by
  unfold execBalancePlan
  (try simp (maxDischargeDepth := 12) +contextual [*])

@[simp] theorem State.balanceInhibit_onwards {s₀ : State} (s : State) (r : Nat) (hs : s.onwards s₀) :
    (State.balanceInhibit s r).onwards s₀ := by
  unfold State.balanceInhibit
  (try simp (maxDischargeDepth := 12) +contextual [*])

@[simp] theorem State.takeBalAck_onwards {s₀ : State} (s : State) (r : Nat) (p : Nat) (b : Bool) (frame : List Byte) (hs : s.onwards s₀) :
    (State.takeBalAck s r p b frame).onwards s₀ := by
  unfold State.takeBalAck
  (try simp (maxDischargeDepth := 12) +contextual [*])

theorem execBalAck_onwards {s₀ : State} (ring : Fin 4) (bEnd : Bool) (frame : List Byte) (s : State) (hs : s.onwards s₀) :
    nextSat (execBalAck ring bEnd frame s) fun t => t.onwards s₀ := by
  unfold execBalAck
  (try simp (maxDischargeDepth := 12) +contextual [*])

@[simp] theorem State.estBoth_onwards {s₀ : State} (s : State) (c : Nat) (f : CellEst → CellEst) (hs : s.onwards s₀) :
    (State.estBoth s c f).onwards s₀ := by
  unfold State.estBoth
  (try simp (maxDischargeDepth := 12) +contextual [*])

@[simp] theorem State.dispatch_onwards {s₀ : State} (s : State) (n : Nat) (hs : s.onwards s₀) :
    (State.dispatch s n).onwards s₀ := by
  unfold State.dispatch
  (try simp (maxDischargeDepth := 12) +contextual [*])

@[simp] theorem State.cellTables_onwards {s₀ : State} (s : State) (n : Nat) (c : Nat) (hs : s.onwards s₀) :
    (State.cellTables s n c).onwards s₀ := by
  unfold State.cellTables
  (try simp (maxDischargeDepth := 12) +contextual [*])

@[simp] theorem State.publishCell_onwards {s₀ : State} (s : State) (n : Nat) (c : Nat) (hs : s.onwards s₀) :
    (State.publishCell s n c).onwards s₀ := by
  unfold State.publishCell
  (try simp (maxDischargeDepth := 12) +contextual [*])

@[simp] theorem State.publishSoc_onwards {s₀ : State} (s : State) (n : Nat) (hs : s.onwards s₀) :
    (State.publishSoc s n).onwards s₀ := by
  unfold State.publishSoc
  (try simp (maxDischargeDepth := 12) +contextual [*])

@[simp] theorem State.publishInferred_onwards {s₀ : State} (s : State) (n : Nat) (hs : s.onwards s₀) :
    (State.publishInferred s n).onwards s₀ := by
  unfold State.publishInferred
  (try simp (maxDischargeDepth := 12) +contextual [*])

@[simp] theorem State.publishLimit_onwards {s₀ : State} (s : State) (n : Nat) (charge : Bool) (h : Nat) (hs : s.onwards s₀) :
    (State.publishLimit s n charge h).onwards s₀ := by
  unfold State.publishLimit
  (try simp (maxDischargeDepth := 12) +contextual [*])

@[simp] theorem State.judgeMedian_onwards {s₀ : State} (s : State) (n : Nat) (hs : s.onwards s₀) :
    (State.judgeMedian s n).onwards s₀ := by
  unfold State.judgeMedian
  (try simp (maxDischargeDepth := 12) +contextual [*])

@[simp] theorem State.publishJudged_onwards {s₀ : State} (s : State) (n : Nat) (hs : s.onwards s₀) :
    (State.publishJudged s n).onwards s₀ := by
  unfold State.publishJudged
  (try simp (maxDischargeDepth := 12) +contextual [*])

@[simp] theorem State.signatures_onwards {s₀ : State} (s : State) (n : Nat) (hs : s.onwards s₀) :
    (State.signatures s n).onwards s₀ := by
  unfold State.signatures
  (try simp (maxDischargeDepth := 12) +contextual [*])

@[simp] theorem State.addOps_onwards {s₀ : State} (s : State) (g : Nat) (n : Nat) (hs : s.onwards s₀) :
    (State.addOps s g n).onwards s₀ := by
  unfold State.addOps
  (try simp (maxDischargeDepth := 12) +contextual [*])

@[simp] theorem State.throughput_onwards {s₀ : State} (s : State) (hs : s.onwards s₀) : (State.throughput s).onwards s₀ := by
  unfold State.throughput
  (try simp (maxDischargeDepth := 12) +contextual [*])

@[simp] theorem State.publishEpoch_onwards {s₀ : State} (s : State) (n : Nat) (hs : s.onwards s₀) :
    (s.publishEpoch n).onwards s₀ := by
  unfold State.publishEpoch
  extract_lets ep cells dur s1 fb s2 durs s3 slow s4 l s5 s6 s7 s8 s9
  have h1 : s1.onwards s₀ := forEach_onwards _ _ _ hs fun s c h => by simp [h]
  clear_value s1
  have h2 : s2.onwards s₀ := by simp [s2, *]
  clear_value s2
  have h3 : s3.onwards s₀ := by simp [s3, *]
  clear_value s3
  have h4 : s4.onwards s₀ := by simp [s4, *]
  clear_value s4
  have h5 : s5.onwards s₀ := forEach_onwards _ _ _ h4 fun s c h => by simp [h]
  clear_value s5
  have h6 : s6.onwards s₀ := by
    simp only [s6]
    split <;> simp [h5]
  clear_value s6
  have h7 : s7.onwards s₀ := forEach_onwards _ _ _ h6 fun s c h => by simp [h]
  clear_value s7
  have h8 : s8.onwards s₀ := State.publishJudged_onwards _ _
    (State.judgeMedian_onwards _ _ (State.publishInferred_onwards _ _ (State.publishSoc_onwards _ _ h7)))
  clear_value s8
  have h9 : s9.onwards s₀ := forEach_onwards _ _ _ h8 fun s c h => by simp [h]
  clear_value s9
  simp (maxDischargeDepth := 12) [*]

@[simp] theorem State.drained_onwards {s₀ : State} (s : State) (n : Nat) (hs : s.onwards s₀) :
    (State.drained s n).onwards s₀ := by
  unfold State.drained
  (try simp (maxDischargeDepth := 12) +contextual [*])

@[simp] theorem State.endEpoch_onwards {s₀ : State} (s : State) (n : Nat) (why : Ending) (hs : s.onwards s₀) :
    (State.endEpoch s n why).onwards s₀ := by
  unfold State.endEpoch
  (try simp (maxDischargeDepth := 12) +contextual [*])

@[simp] theorem State.dropItems_onwards {s₀ : State} (s : State) (n : Nat) (hs : s.onwards s₀) :
    (State.dropItems s n).onwards s₀ := by
  unfold State.dropItems
  (try simp (maxDischargeDepth := 12) +contextual [*])

@[simp] theorem State.pauseEpochs_onwards {s₀ : State} (s : State) (hs : s.onwards s₀) : (State.pauseEpochs s).onwards s₀ := by
  unfold State.pauseEpochs
  (try simp (maxDischargeDepth := 12) +contextual [*])

theorem execEuWorkItemClaim_onwards {s₀ : State} (eu : Fin 64) (s : State) (hs : s.onwards s₀) :
    nextSat (execEuWorkItemClaim eu s) fun t => t.onwards s₀ := by
  unfold execEuWorkItemClaim
  (try simp (maxDischargeDepth := 12) +contextual [*])
  all_goals (repeat' split) <;> (try simp (maxDischargeDepth := 12) +contextual [*])

@[simp] theorem State.retireEu_onwards {s₀ : State} (s : State) (e : Nat) (hs : s.onwards s₀) :
    (State.retireEu s e).onwards s₀ := by
  unfold State.retireEu
  (try simp (maxDischargeDepth := 12) +contextual [*])
  all_goals (repeat' split) <;> (try simp (maxDischargeDepth := 12) +contextual [*])

@[simp] theorem State.writeBack_onwards {s₀ : State} (s : State) (e : Nat) (n : Nat) (c : Nat) (hs : s.onwards s₀) :
    (State.writeBack s e n c).onwards s₀ := by
  unfold State.writeBack
  (try simp (maxDischargeDepth := 12) +contextual [*])

theorem execEuUpdateComplete_onwards {s₀ : State} (eu : Fin 64) (residueOk : Bool) (s : State) (hs : s.onwards s₀) :
    nextSat (execEuUpdateComplete eu residueOk s) fun t => t.onwards s₀ := by
  unfold execEuUpdateComplete
  (try simp (maxDischargeDepth := 12) +contextual [*])
  all_goals (repeat' split) <;> (try simp (maxDischargeDepth := 12) +contextual [*])

theorem execEuHandshakeTimeout_onwards {s₀ : State} (eu : Fin 64) (s : State) (hs : s.onwards s₀) :
    nextSat (execEuHandshakeTimeout eu s) fun t => t.onwards s₀ := by
  unfold execEuHandshakeTimeout
  (try simp (maxDischargeDepth := 12) +contextual [*])

theorem execFabricKnownAnswerTest_onwards {s₀ : State} (eu : Fin 64) (pass : Bool) (s : State) (hs : s.onwards s₀) :
    nextSat (execFabricKnownAnswerTest eu pass s) fun t => t.onwards s₀ := by
  unfold execFabricKnownAnswerTest
  (try simp (maxDischargeDepth := 12) +contextual [*])

theorem execEpochDeadline_onwards {s₀ : State} (string : Fin 4) (s : State) (hs : s.onwards s₀) :
    nextSat (execEpochDeadline string s) fun t => t.onwards s₀ := by
  unfold execEpochDeadline
  (try simp (maxDischargeDepth := 12) +contextual [*])

theorem execEstimationHeld_onwards {s₀ : State} (string : Fin 4) (s : State) (hs : s.onwards s₀) :
    nextSat (execEstimationHeld string s) fun t => t.onwards s₀ := by
  unfold execEstimationHeld
  (try simp (maxDischargeDepth := 12) +contextual [*])

theorem execRateStepUp_onwards {s₀ : State} (region : Fin 2) (s : State) (hs : s.onwards s₀) :
    nextSat (execRateStepUp region s) fun t => t.onwards s₀ := by
  unfold execRateStepUp
  (try simp (maxDischargeDepth := 12) +contextual [*])

@[simp] theorem State.selfTested_onwards {s₀ : State} (s : State) (q : Nat) (st : Nat) (bad : List Nat) (hs : s.onwards s₀) :
    (State.selfTested s q st bad).onwards s₀ := by
  unfold State.selfTested
  (try simp (maxDischargeDepth := 12) +contextual [*])

@[simp] theorem State.fabricTest_onwards {s₀ : State} (s : State) (v : Nat) (hs : s.onwards s₀) :
    ((State.fabricTest s v)).1.onwards s₀ := by
  unfold State.fabricTest
  (try simp (maxDischargeDepth := 12) +contextual [*])
  all_goals (repeat' split) <;> (try simp (maxDischargeDepth := 12) +contextual [*])

theorem execFabricSelfTestRequest_onwards {s₀ : State} (req : Req) (value : BitVec 32) (s : State) (hs : s.onwards s₀) :
    nextSat (execFabricSelfTestRequest req value s) fun t => t.onwards s₀ := by
  unfold execFabricSelfTestRequest
  (try simp (maxDischargeDepth := 12) +contextual [*])

@[simp] theorem State.checkEus_onwards {s₀ : State} (s : State) (bad : List Nat) (hs : s.onwards s₀) :
    (State.checkEus s bad).onwards s₀ := by
  unfold State.checkEus
  (try simp (maxDischargeDepth := 12) +contextual [*])

theorem execFabricSelfTestDone_onwards {s₀ : State} (failed : BitVec 64) (s : State) (hs : s.onwards s₀) :
    nextSat (execFabricSelfTestDone failed s) fun t => t.onwards s₀ := by
  unfold execFabricSelfTestDone
  (try simp (maxDischargeDepth := 12) +contextual [*])
  all_goals (repeat' split) <;> (try simp (maxDischargeDepth := 12) +contextual [*])

@[simp] theorem State.cellTally_onwards {s₀ : State} (s : State) (c : Nat) (hs : s.onwards s₀) :
    (State.cellTally s c).onwards s₀ := by
  unfold State.cellTally
  (try simp (maxDischargeDepth := 12) +contextual [*])

@[simp] theorem State.restTally_onwards {s₀ : State} (s : State) (n : Nat) (hs : s.onwards s₀) :
    (State.restTally s n).onwards s₀ := by
  unfold State.restTally
  (try simp (maxDischargeDepth := 12) +contextual [*])

@[simp] theorem State.windowTally_onwards {s₀ : State} (s : State) (n : Nat) (hs : s.onwards s₀) :
    (State.windowTally s n).onwards s₀ := by
  unfold State.windowTally
  (try simp (maxDischargeDepth := 12) +contextual [*])

@[simp] theorem State.snapshot_onwards {s₀ : State} (s : State) (n : Nat) (di : Int) (l : List (Nat × ℚ)) (hs : s.onwards s₀) :
    (State.snapshot s n di l).onwards s₀ := by
  unfold State.snapshot
  (try simp (maxDischargeDepth := 12) +contextual [*])
  all_goals (repeat' split) <;> (try simp (maxDischargeDepth := 12) +contextual [*])

@[simp] theorem State.stepTally_onwards {s₀ : State} (s : State) (n : Nat) (hs : s.onwards s₀) :
    (State.stepTally s n).onwards s₀ := by
  unfold State.stepTally
  (try simp (maxDischargeDepth := 12) +contextual [*])
  all_goals (repeat' split) <;> (try simp (maxDischargeDepth := 12) +contextual [*])

@[simp] theorem State.estTally_onwards {s₀ : State} (s : State) (n : Nat) (hs : s.onwards s₀) :
    (State.estTally s n).onwards s₀ := by
  unfold State.estTally
  (try simp (maxDischargeDepth := 12) +contextual [*])

@[simp] theorem State.implausible_onwards {s₀ : State} (s : State) (k : Nat) (hs : s.onwards s₀) :
    (State.implausible s k).onwards s₀ := by
  unfold State.implausible
  (try simp (maxDischargeDepth := 12) +contextual [*])

@[simp] theorem State.windowChannel_onwards {s₀ : State} (s : State) (n : Nat) (k : Nat) (hs : s.onwards s₀) :
    (State.windowChannel s n k).onwards s₀ := by
  unfold State.windowChannel
  (try simp (maxDischargeDepth := 12) +contextual [*])

@[simp] theorem State.plausibilityWindow_onwards {s₀ : State} (s : State) (n : Nat) (hs : s.onwards s₀) :
    (State.plausibilityWindow s n).onwards s₀ := by
  unfold State.plausibilityWindow
  (try simp (maxDischargeDepth := 12) +contextual [*])

theorem execCurrentPlausibilityWindow_onwards {s₀ : State} (string : Fin 4) (s : State) (hs : s.onwards s₀) :
    nextSat (execCurrentPlausibilityWindow string s) fun t => t.onwards s₀ := by
  unfold execCurrentPlausibilityWindow
  (try simp (maxDischargeDepth := 12) +contextual [*])

@[simp] theorem State.channelAudit_onwards {s₀ : State} (s : State) (n : Nat) (hs : s.onwards s₀) :
    (State.channelAudit s n).onwards s₀ := by
  unfold State.channelAudit
  (try simp (maxDischargeDepth := 12) +contextual [*])

@[simp] theorem State.enterDisagreement_onwards {s₀ : State} (s : State) (n : Nat) (hs : s.onwards s₀) :
    (State.enterDisagreement s n).onwards s₀ := by
  unfold State.enterDisagreement
  (try simp (maxDischargeDepth := 12) +contextual [*])

theorem execStringDisagreementEnter_onwards {s₀ : State} (string : Fin 4) (s : State) (hs : s.onwards s₀) :
    nextSat (execStringDisagreementEnter string s) fun t => t.onwards s₀ := by
  unfold execStringDisagreementEnter
  (try simp (maxDischargeDepth := 12) +contextual [*])

theorem execChannelAuditRepeat_onwards {s₀ : State} (string : Fin 4) (s : State) (hs : s.onwards s₀) :
    nextSat (execChannelAuditRepeat string s) fun t => t.onwards s₀ := by
  unfold execChannelAuditRepeat
  (try simp (maxDischargeDepth := 12) +contextual [*])

@[simp] theorem State.learnCell_onwards {s₀ : State} (s : State) (n : Nat) (b : RestPoint) (c : Nat) (hs : s.onwards s₀) :
    (s.learnCell n b c).onwards s₀ := by
  unfold State.learnCell
  split
  · exact hs
  · refine foldl_first_onwards _ _ (fun r a hr => ?_) _ hs
    simp only
    repeat' split
    all_goals simp (maxDischargeDepth := 12) [*]

@[simp] theorem State.judgeShort_onwards {s₀ : State} (s : State) (n : Nat) (c : Nat) (hs : s.onwards s₀) :
    (State.judgeShort s n c).onwards s₀ := by
  unfold State.judgeShort
  (try simp (maxDischargeDepth := 12) +contextual [*])

@[simp] theorem State.judgeShorts_onwards {s₀ : State} (s : State) (n : Nat) (b : RestPoint) (hs : s.onwards s₀) :
    (State.judgeShorts s n b).onwards s₀ := by
  unfold State.judgeShorts
  (try simp (maxDischargeDepth := 12) +contextual [*])

@[simp] theorem State.formPoint_onwards {s₀ : State} (s : State) (n : Nat) (hs : s.onwards s₀) :
    (State.formPoint s n).onwards s₀ := by
  unfold State.formPoint
  (try simp (maxDischargeDepth := 12) +contextual [*])

theorem execRestPointFormed_onwards {s₀ : State} (string : Fin 4) (s : State) (hs : s.onwards s₀) :
    nextSat (execRestPointFormed string s) fun t => t.onwards s₀ := by
  unfold execRestPointFormed
  (try simp (maxDischargeDepth := 12) +contextual [*])

@[simp] theorem State.stringShot_onwards {s₀ : State} (s : State) (k : Nat) (value : Nat) (result : Nat) (zeros : Nat) (hs : s.onwards s₀) :
    ((State.stringShot s k value result zeros)).1.onwards s₀ := by
  unfold State.stringShot
  (try simp (maxDischargeDepth := 12) +contextual [*])
  all_goals (repeat' split) <;> (try simp (maxDischargeDepth := 12) +contextual [*])

theorem execCapLearnReportRequest_onwards {s₀ : State} (req : Req) (value : BitVec 32) (s : State) (hs : s.onwards s₀) :
    nextSat (execCapLearnReportRequest req value s) fun t => t.onwards s₀ := by
  unfold execCapLearnReportRequest
  (try simp (maxDischargeDepth := 12) +contextual [*])

theorem execCapLearnReportDone_onwards {s₀ : State} (s : State) (hs : s.onwards s₀) :
    nextSat (execCapLearnReportDone s) fun t => t.onwards s₀ := by
  unfold execCapLearnReportDone
  all_goals (repeat' split) <;> (try simp (maxDischargeDepth := 12) +contextual [*])

theorem execImpedanceSnapshotRequest_onwards {s₀ : State} (req : Req) (value : BitVec 32) (s : State) (hs : s.onwards s₀) :
    nextSat (execImpedanceSnapshotRequest req value s) fun t => t.onwards s₀ := by
  unfold execImpedanceSnapshotRequest
  (try simp (maxDischargeDepth := 12) +contextual [*])

theorem execImpedanceSnapshotTimeout_onwards {s₀ : State} (s : State) (hs : s.onwards s₀) :
    nextSat (execImpedanceSnapshotTimeout s) fun t => t.onwards s₀ := by
  unfold execImpedanceSnapshotTimeout
  split
  · exact done_onwards _ hs
  · refine doneIf_onwards _ _ _ (fun _ => ?_) hs
    split
    · exact State.shotDone_onwards _ _ _ _ hs
    · exact State.shotNotRun_onwards _ _ _ _ hs

@[simp] theorem State.publishWord_onwards {s₀ : State} (s : State) (c : Nat) (hs : s.onwards s₀) :
    (State.publishWord s c).onwards s₀ := by
  unfold State.publishWord
  (try simp (maxDischargeDepth := 12) +contextual [*])

@[simp] theorem State.derateJudged_onwards {s₀ : State} (s : State) (n code : Nat) (j : Judged) (hs : s.onwards s₀) :
    (s.derateJudged n code j).onwards s₀ := by
  unfold State.derateJudged
  split <;> simp (maxDischargeDepth := 12) [*]

@[simp] theorem State.judgeDerating_onwards {s₀ : State} (s : State) (n : Nat) (hs : s.onwards s₀) :
    (s.judgeDerating n).onwards s₀ := by
  unfold State.judgeDerating
  extract_lets cells temps step s1 s2 s3 s4 lost s5
  have hstep : ∀ (s : State) code j, s.onwards s₀ → (step s code j).onwards s₀ := by
    intro s code j h
    simp only [step]
    split <;> simp (maxDischargeDepth := 12) [*]
  have h1 : s1.onwards s₀ := hstep _ _ _ hs
  have h2 : s2.onwards s₀ := hstep _ _ _ h1
  have h3 : s3.onwards s₀ := hstep _ _ _ h2
  have h4 : s4.onwards s₀ := hstep _ _ _ h3
  clear_value s4
  have h5 : s5.onwards s₀ := by
    simp only [s5]
    split <;> simp (maxDischargeDepth := 12) [*]
  clear_value s5
  split <;> simp (maxDischargeDepth := 12) [*]

@[simp] theorem State.enumFinish_onwards {s₀ : State} (s : State) (r : Nat) (hs : s.onwards s₀) :
    (State.enumFinish s r).onwards s₀ := by
  unfold State.enumFinish
  (try simp (maxDischargeDepth := 12) +contextual [*])
  all_goals (repeat' split) <;> (try simp (maxDischargeDepth := 12) +contextual [*])

@[simp] theorem State.publishAcq_onwards {s₀ : State} (s : State) (r : Nat) (hs : s.onwards s₀) :
    (s.publishAcq r).onwards s₀ := by
  unfold State.publishAcq
  extract_lets s1 s2 s3 s4 s5 s6
  have h1 : s1.onwards s₀ := forEach_onwards _ _ _ hs fun s c h => by simp [h]
  clear_value s1
  have h2 : s2.onwards s₀ := forEach_onwards _ _ _ h1 fun s c h => by simp [h]
  clear_value s2
  have h3 : s3.onwards s₀ := by simp [s3, *]
  clear_value s3
  have h4 : s4.onwards s₀ := by simp [s4, *]
  clear_value s4
  have h5 : s5.onwards s₀ := forEach_onwards _ _ _ h4 fun s c h => by simp [h]
  clear_value s5
  have h6 : s6.onwards s₀ := by simp [s6, *]
  clear_value s6
  have h7 : (((s6.refreshEst r).estTally r).dispatch r).onwards s₀ := by simp (maxDischargeDepth := 12) [*]
  simp (maxDischargeDepth := 12) [*]

@[simp] theorem State.sweepComplete_onwards {s₀ : State} (s : State) (r : Nat) (hs : s.onwards s₀) :
    (State.sweepComplete s r).onwards s₀ := by
  unfold State.sweepComplete
  (try simp (maxDischargeDepth := 12) +contextual [*])

theorem execSweepComplete_onwards {s₀ : State} (ring : Fin 4) (s : State) (hs : s.onwards s₀) :
    nextSat (execSweepComplete ring s) fun t => t.onwards s₀ := by
  unfold execSweepComplete
  (try simp (maxDischargeDepth := 12) +contextual [*])

theorem execStaleTrip_onwards {s₀ : State} (ring : Fin 4) (cell : Fin 512) (s : State) (hs : s.onwards s₀) :
    nextSat (execStaleTrip ring cell s) fun t => t.onwards s₀ := by
  unfold execStaleTrip
  (try simp (maxDischargeDepth := 12) +contextual [*])

@[simp] theorem State.endTrains_onwards {s₀ : State} (s : State) (r : Nat) (hs : s.onwards s₀) : (s.endTrains r).onwards s₀ := by
  unfold State.endTrains
  refine forEach_onwards _ _ _ hs fun s b h => ?_
  split <;> simp [h]

@[simp] theorem State.sweepStart_onwards {s₀ : State} (s : State) (r : Nat) (hs : s.onwards s₀) :
    (State.sweepStart s r).onwards s₀ := by
  unfold State.sweepStart
  (try simp (maxDischargeDepth := 12) +contextual [*])

@[simp] theorem State.sweepFrom_onwards {s₀ : State} (s : State) (r : Nat) (b : Bool) (last : Nat) (hs : s.onwards s₀) :
    (State.sweepFrom s r b last).onwards s₀ := by
  unfold State.sweepFrom
  (try simp (maxDischargeDepth := 12) +contextual [*])

@[simp] theorem State.sweepRing_onwards {s₀ : State} (s : State) (r : Nat) (hs : s.onwards s₀) : (s.sweepRing r).onwards s₀ := by
  unfold State.sweepRing
  extract_lets s1 s2 x
  have h1 : s1.onwards s₀ := by
    simp only [s1]
    split <;> simp (maxDischargeDepth := 12) [*]
  clear_value s1
  split
  · exact h1
  have h2 : s2.onwards s₀ := by
    simp only [s2]
    simp (maxDischargeDepth := 12) [h1]
  clear_value x s2
  split
  · exact h2
  split
  · exact State.sweepFrom_onwards _ _ _ _ h2
  split
  · exact State.sweepFrom_onwards _ _ _ _ h2
  · refine forEach_onwards _ _ _ h2 fun s b h => ?_
    split
    · exact State.sweepFrom_onwards _ _ _ _ h
    · exact h

@[simp] theorem State.trigger_onwards {s₀ : State} (s : State) (hs : s.onwards s₀) : (State.trigger s).onwards s₀ := by
  unfold State.trigger
  (try simp (maxDischargeDepth := 12) +contextual [*])

theorem execTallyTrigger_onwards {s₀ : State} (s : State) (hs : s.onwards s₀) :
    nextSat (execTallyTrigger s) fun t => t.onwards s₀ := by
  unfold execTallyTrigger
  (try simp (maxDischargeDepth := 12) +contextual [*])

theorem execTallyPeriodApply_onwards {s₀ : State} (s : State) (hs : s.onwards s₀) :
    nextSat (execTallyPeriodApply s) fun t => t.onwards s₀ := by
  unfold execTallyPeriodApply
  (try simp (maxDischargeDepth := 12) +contextual [*])
  all_goals (repeat' split) <;> (try simp (maxDischargeDepth := 12) +contextual [*])

@[simp] theorem State.fillModule_onwards {s₀ : State} (s : State) (r : Nat) (p : Nat) (m : ModuleRec) (first : Nat) (hs : s.onwards s₀) :
    (State.fillModule s r p m first).onwards s₀ := by
  unfold State.fillModule
  (try simp (maxDischargeDepth := 12) +contextual [*])

@[simp] theorem State.fillRing_onwards {s₀ : State} (f : List Byte) (s : State) (r : Nat) (hs : s.onwards s₀) :
    (State.fillRing f s r).onwards s₀ := by
  unfold State.fillRing
  (try simp (maxDischargeDepth := 12) +contextual [*])

@[simp] theorem State.keepLearned_onwards {s₀ : State} (old new : State) (hn : new.onwards s₀) :
    (old.keepLearned new).onwards s₀ := hn

@[simp] theorem State.trimEus_onwards {s₀ : State} (s : State) (hs : s.onwards s₀) : (State.trimEus s).onwards s₀ := by
  unfold State.trimEus
  (try simp (maxDischargeDepth := 12) +contextual [*])

@[simp] theorem State.setManifest_onwards {s₀ : State} (s : State) (f : List Byte) (hs : s.onwards s₀) :
    (State.setManifest s f).onwards s₀ := by
  unfold State.setManifest
  (try simp (maxDischargeDepth := 12) +contextual [*])

@[simp] theorem State.configRaise_onwards {s₀ : State} (s : State) (inst : Nat) (hs : s.onwards s₀) :
    (State.configRaise s inst).onwards s₀ := by
  unfold State.configRaise
  (try simp (maxDischargeDepth := 12) +contextual [*])

@[simp] theorem State.saveImage_onwards {s₀ : State} (s : State) (hs : s.onwards s₀) : (State.saveImage s).onwards s₀ := by
  unfold State.saveImage
  (try simp (maxDischargeDepth := 12) +contextual [*])

@[simp] theorem State.periodChange_onwards {s₀ : State} (s : State) (hs : s.onwards s₀) : (State.periodChange s).onwards s₀ := by
  unfold State.periodChange
  (try simp (maxDischargeDepth := 12) +contextual [*])

@[simp] theorem State.timingChange_onwards {s₀ : State} (s : State) (ch : Nat) (k : Nat) (hs : s.onwards s₀) :
    (State.timingChange s ch k).onwards s₀ := by
  unfold State.timingChange
  (try simp (maxDischargeDepth := 12) +contextual [*])

@[simp] theorem State.roleSet_onwards {s₀ : State} (s : State) (d : Nat) (hs : s.onwards s₀) :
    (State.roleSet s d).onwards s₀ := by
  unfold State.roleSet
  (try simp (maxDischargeDepth := 12) +contextual [*])

@[simp] theorem State.streamStart_onwards {s₀ : State} (s : State) (k : Nat) (hs : s.onwards s₀) :
    (State.streamStart s k).onwards s₀ := by
  unfold State.streamStart
  (try simp (maxDischargeDepth := 12) +contextual [*])

@[simp] theorem State.effects_onwards {s₀ : State} (s t : State) (hs : s.onwards s₀) (ht : t.onwards s₀) :
    (s.effects t).onwards s₀ := by
  unfold State.effects
  extract_lets u1 u2 u3 u4 u5 u6 u7 u8 u9 u10 u11
  have h1 : u1.onwards s₀ := forEach_onwards _ _ _ ht fun s c h => by simp [h]
  clear_value u1
  have h2 : u2.onwards s₀ := forEach_onwards _ _ _ h1 fun s c h => by simp [h]
  clear_value u2
  have h3 : u3.onwards s₀ := forEach_onwards _ _ _ h2 fun s c h => by simp [h]
  clear_value u3
  have h4 : u4.onwards s₀ := forEach_onwards _ _ _ h3 fun s c h => by simp [h]
  clear_value u4
  have h5 : u5.onwards s₀ := forEach_onwards _ _ _ h4 fun s c h => by simp [h]
  clear_value u5
  have h6 : u6.onwards s₀ := forEach_onwards _ _ _ h5 fun s c h => by
    repeat' split
    all_goals simp [h]
  clear_value u6
  have h7 : u7.onwards s₀ := by
    simp only [u7]
    split <;> simp [h6]
  clear_value u7
  have h8 : u8.onwards s₀ := forEach_onwards _ _ _ h7 fun s c h => forEach_onwards _ _ _ h fun s c h => by simp [h]
  clear_value u8
  have h9 : u9.onwards s₀ := by
    simp only [u9]
    split <;> simp [h8]
  clear_value u9
  have h10 : u10.onwards s₀ := by
    simp only [u10]
    split <;> simp [h9]
  clear_value u10
  have h11 : u11.onwards s₀ := forEach_onwards _ _ _ h10 fun s c h => by simp [h]
  clear_value u11
  split <;> simp [h11]

@[simp] theorem State.storing_onwards {s₀ : State} (s : State) (covered : Bool) (op : State → State) (hs : s.onwards s₀)
    (ho : (op s).onwards s₀) : (s.storing covered op).1.onwards s₀ := by
  unfold State.storing
  split
  · simp (maxDischargeDepth := 12) [*]
  split
  · simp (maxDischargeDepth := 12) [*]
  · show (if covered then ((s.effects (op s)).saveImage.configRaise 0) else s.effects (op s)).onwards s₀
    split <;> simp (maxDischargeDepth := 12) [*]

@[simp] theorem State.savedDefaults_onwards {s₀ : State} (s : State) (hs : s.onwards s₀) :
    (State.savedDefaults s).onwards s₀ := by
  unfold State.savedDefaults
  (try simp (maxDischargeDepth := 12) +contextual [*])

@[simp] theorem State.storeValue_onwards {s₀ : State} (s : State) (i : Nat) (sub : Nat) (v : List Int) (hs : s.onwards s₀) :
    (State.storeValue s i sub v).onwards s₀ := by
  unfold State.storeValue
  (try simp (maxDischargeDepth := 12) +contextual [*])

@[simp] theorem State.applyEntries_onwards {s₀ : State} (s : State) (l : List ImageEntry) (hs : s.onwards s₀) :
    (State.applyEntries s l).onwards s₀ := by
  unfold State.applyEntries
  (try simp (maxDischargeDepth := 12) +contextual [*])

@[simp] theorem State.adopt_onwards {s₀ : State} (s : State) (t : State) (manifest : List Byte) (commit : Bool) (hs : s.onwards s₀) (ht : t.onwards s₀) :
    (State.adopt s t manifest commit).onwards s₀ := by
  unfold State.adopt
  (try simp (maxDischargeDepth := 12) +contextual [*])

@[simp] theorem withNode_onwards {s₀ : State} (s : State) (o : Host.Outcome State Fault Refusal) (ho :
    nextSat o fun t => t.onwards s₀) :
    nextSat (withNode s o) fun t => t.onwards s₀ := by
  unfold withNode
  split
  · have := ho _ rfl
    refine next_onwards _ ?_
    split <;> simp [*]
  · exact ho

@[simp] theorem State.commitManifest_onwards {s₀ : State} (s : State) (f : List Byte) (hs : s.onwards s₀) :
    (State.commitManifest s f).onwards s₀ := by
  unfold State.commitManifest
  (try simp (maxDischargeDepth := 12) +contextual [*])

@[simp] theorem State.manifestWrite_onwards {s₀ : State} (s : State) (f : List Byte) (hs : s.onwards s₀) :
    ((State.manifestWrite s f)).1.onwards s₀ := by
  unfold State.manifestWrite
  (try simp (maxDischargeDepth := 12) +contextual [*])

theorem execManifestFileWrite_onwards {s₀ : State} (req : Req) (file : List Byte) (s : State) (hs : s.onwards s₀) :
    nextSat (execManifestFileWrite req file s) fun t => t.onwards s₀ := by
  unfold execManifestFileWrite
  (try simp (maxDischargeDepth := 12) +contextual [*])

@[simp] theorem State.commitUids_onwards {s₀ : State} (s : State) (mask : Nat) (hs : s.onwards s₀) :
    (State.commitUids s mask).onwards s₀ := by
  unfold State.commitUids
  (try simp (maxDischargeDepth := 12) +contextual [*])

@[simp] theorem State.adoptUids_onwards {s₀ : State} (s : State) (mask : Nat) (hs : s.onwards s₀) :
    ((State.adoptUids s mask)).1.onwards s₀ := by
  unfold State.adoptUids
  (try simp (maxDischargeDepth := 12) +contextual [*])

theorem execManifestAdoptUids_onwards {s₀ : State} (req : Req) (mask : Byte) (s : State) (hs : s.onwards s₀) :
    nextSat (execManifestAdoptUids req mask s) fun t => t.onwards s₀ := by
  unfold execManifestAdoptUids
  (try simp (maxDischargeDepth := 12) +contextual [*])

@[simp] theorem State.configSave_onwards {s₀ : State} (s : State) (hs : s.onwards s₀) : ((State.configSave s)).1.onwards s₀ := by
  unfold State.configSave
  (try simp (maxDischargeDepth := 12) +contextual [*])

theorem execConfigSave_onwards {s₀ : State} (req : Req) (s : State) (hs : s.onwards s₀) :
    nextSat (execConfigSave req s) fun t => t.onwards s₀ := by
  unfold execConfigSave
  (try simp (maxDischargeDepth := 12) +contextual [*])

@[simp] theorem State.configDefaults_onwards {s₀ : State} (s : State) (hs : s.onwards s₀) :
    ((State.configDefaults s)).1.onwards s₀ := by
  unfold State.configDefaults
  (try simp (maxDischargeDepth := 12) +contextual [*])

theorem execConfigFactoryDefaults_onwards {s₀ : State} (req : Req) (s : State) (hs : s.onwards s₀) :
    nextSat (execConfigFactoryDefaults req s) fun t => t.onwards s₀ := by
  unfold execConfigFactoryDefaults
  (try simp (maxDischargeDepth := 12) +contextual [*])

@[simp] theorem State.configDiscard_onwards {s₀ : State} (s : State) (hs : s.onwards s₀) :
    ((State.configDiscard s)).1.onwards s₀ := by
  unfold State.configDiscard
  (try simp (maxDischargeDepth := 12) +contextual [*])
  all_goals (repeat' split) <;> (try simp (maxDischargeDepth := 12) +contextual [*])

theorem execConfigDiscard_onwards {s₀ : State} (req : Req) (s : State) (hs : s.onwards s₀) :
    nextSat (execConfigDiscard req s) fun t => t.onwards s₀ := by
  unfold execConfigDiscard
  (try simp (maxDischargeDepth := 12) +contextual [*])

@[simp] theorem State.importImage_onwards {s₀ : State} (s : State) (img : List Byte) (hs : s.onwards s₀) :
    (State.importImage s img).onwards s₀ := by
  unfold State.importImage
  (try simp (maxDischargeDepth := 12) +contextual [*])

@[simp] theorem State.imageImport_onwards {s₀ : State} (s : State) (img : List Byte) (hs : s.onwards s₀) :
    ((State.imageImport s img)).1.onwards s₀ := by
  unfold State.imageImport
  (try simp (maxDischargeDepth := 12) +contextual [*])

theorem execConfigImageImport_onwards {s₀ : State} (req : Req) (image : List Byte) (s : State) (hs : s.onwards s₀) :
    nextSat (execConfigImageImport req image s) fun t => t.onwards s₀ := by
  unfold execConfigImageImport
  (try simp (maxDischargeDepth := 12) +contextual [*])

@[simp] theorem State.tallyPeriod_onwards {s₀ : State} (s : State) (v : Nat) (hs : s.onwards s₀) :
    ((State.tallyPeriod s v)).1.onwards s₀ := by
  unfold State.tallyPeriod
  (try simp (maxDischargeDepth := 12) +contextual [*])

theorem execTallyPeriodWrite_onwards {s₀ : State} (req : Req) (value : Nat) (s : State) (hs : s.onwards s₀) :
    nextSat (execTallyPeriodWrite req value s) fun t => t.onwards s₀ := by
  unfold execTallyPeriodWrite
  (try simp (maxDischargeDepth := 12) +contextual [*])

end Sys2Proof.Machine
end

