-- ==== Sys2Proof/Laws/OnwardsSystem.lean ====
section
/-! SUPPORT. Sys2Proof/Laws/OnwardsSystem.lean: no operation and no command undoes what `State.onwards` says stays: the variant, the OTP bits, local time, the queue
(duplex, storage, life-cycle, thermal, QLP). -/

namespace Sys2Proof.Machine

@[simp] theorem State.releaseOutputs_onwards {s₀ : State} (s : State) (hs : s.onwards s₀) :
    (State.releaseOutputs s).onwards s₀ := by
  unfold State.releaseOutputs
  (try simp (maxDischargeDepth := 12) +contextual [*])

@[simp] theorem State.driveDriver_onwards {s₀ : State} (s : State) (d : Nat) (m : MirrorDriver) (hs : s.onwards s₀) :
    (State.driveDriver s d m).onwards s₀ := by
  unfold State.driveDriver
  (try simp (maxDischargeDepth := 12) +contextual [*])

@[simp] theorem State.driveShadow_onwards {s₀ : State} (s : State) (hs : s.onwards s₀) : (State.driveShadow s).onwards s₀ := by
  unfold State.driveShadow
  (try simp (maxDischargeDepth := 12) +contextual [*])
  all_goals (repeat' split) <;> (try simp (maxDischargeDepth := 12) +contextual [*])

@[simp] theorem State.berthTrips_onwards {s₀ : State} (s : State) (hs : s.onwards s₀) : (State.berthTrips s).onwards s₀ := by
  unfold State.berthTrips
  (try simp (maxDischargeDepth := 12) +contextual [*])

@[simp] theorem State.cyclesStart_onwards {s₀ : State} (s : State) (hs : s.onwards s₀) : (State.cyclesStart s).onwards s₀ := by
  unfold State.cyclesStart
  (try simp (maxDischargeDepth := 12) +contextual [*])

@[simp] theorem State.claimNow_onwards {s₀ : State} (s : State) (inst : Nat) (hs : s.onwards s₀) :
    (State.claimNow s inst).onwards s₀ := by
  unfold State.claimNow
  (try simp (maxDischargeDepth := 12) +contextual [*])

@[simp] theorem State.claimTrips_onwards {s₀ : State} (s : State) (hs : s.onwards s₀) : (State.claimTrips s).onwards s₀ := by
  unfold State.claimTrips
  (try simp (maxDischargeDepth := 12) +contextual [*])

@[simp] theorem State.berthChange_onwards {s₀ : State} (s : State) (level : Bool) (hs : s.onwards s₀) :
    (State.berthChange s level).onwards s₀ := by
  unfold State.berthChange
  (try simp (maxDischargeDepth := 12) +contextual [*])

theorem execBerthInChange_onwards {s₀ : State} (level : Bool) (s : State) (hs : s.onwards s₀) :
    nextSat (execBerthInChange level s) fun t => t.onwards s₀ := by
  unfold execBerthInChange
  (try simp (maxDischargeDepth := 12) +contextual [*])

theorem execClaimWaitExpiry_onwards {s₀ : State} (s : State) (hs : s.onwards s₀) :
    nextSat (execClaimWaitExpiry s) fun t => t.onwards s₀ := by
  unfold execClaimWaitExpiry
  (try simp (maxDischargeDepth := 12) +contextual [*])

@[simp] theorem State.conflictWithdraw_onwards {s₀ : State} (s : State) (hs : s.onwards s₀) :
    (State.conflictWithdraw s).onwards s₀ := by
  unfold State.conflictWithdraw
  (try simp (maxDischargeDepth := 12) +contextual [*])

theorem execClaimConflictWithdraw_onwards {s₀ : State} (s : State) (hs : s.onwards s₀) :
    nextSat (execClaimConflictWithdraw s) fun t => t.onwards s₀ := by
  unfold execClaimConflictWithdraw
  (try simp (maxDischargeDepth := 12) +contextual [*])

theorem execClaimRefreshTimeout_onwards {s₀ : State} (s : State) (hs : s.onwards s₀) :
    nextSat (execClaimRefreshTimeout s) fun t => t.onwards s₀ := by
  unfold execClaimRefreshTimeout
  (try simp (maxDischargeDepth := 12) +contextual [*])

@[simp] theorem State.endHolding_onwards {s₀ : State} (s : State) (hs : s.onwards s₀) : (State.endHolding s).onwards s₀ := by
  unfold State.endHolding
  (try simp (maxDischargeDepth := 12) +contextual [*])

@[simp] theorem State.activateWaiting_onwards {s₀ : State} (s : State) (hs : s.onwards s₀) :
    (State.activateWaiting s).onwards s₀ := by
  unfold State.activateWaiting
  (try simp (maxDischargeDepth := 12) +contextual [*])
  all_goals (repeat' split) <;> (try simp (maxDischargeDepth := 12) +contextual [*])

@[simp] theorem State.activateRefused_onwards {s₀ : State} (s : State) (hs : s.onwards s₀) :
    (State.activateRefused s).onwards s₀ := by
  unfold State.activateRefused
  (try simp (maxDischargeDepth := 12) +contextual [*])
  all_goals (repeat' split) <;> (try simp (maxDischargeDepth := 12) +contextual [*])

theorem execHoldingRelease_onwards {s₀ : State} (s : State) (hs : s.onwards s₀) :
    nextSat (execHoldingRelease s) fun t => t.onwards s₀ := by
  unfold execHoldingRelease
  (try simp (maxDischargeDepth := 12) +contextual [*])

@[simp] theorem State.noTaker_onwards {s₀ : State} (s : State) (hs : s.onwards s₀) : (State.noTaker s).onwards s₀ := by
  unfold State.noTaker
  (try simp (maxDischargeDepth := 12) +contextual [*])

theorem execHoldingTimeout_onwards {s₀ : State} (s : State) (hs : s.onwards s₀) :
    nextSat (execHoldingTimeout s) fun t => t.onwards s₀ := by
  unfold execHoldingTimeout
  (try simp (maxDischargeDepth := 12) +contextual [*])

theorem execArmingRefreshTimeout_onwards {s₀ : State} (s : State) (hs : s.onwards s₀) :
    nextSat (execArmingRefreshTimeout s) fun t => t.onwards s₀ := by
  unfold execArmingRefreshTimeout
  (try simp (maxDischargeDepth := 12) +contextual [*])

@[simp] theorem State.sendMirror_onwards {s₀ : State} (s : State) (hs : s.onwards s₀) : (State.sendMirror s).onwards s₀ := by
  unfold State.sendMirror
  (try simp (maxDischargeDepth := 12) +contextual [*])

@[simp] theorem State.mirrorOutputs_onwards {s₀ : State} (s : State) (hs : s.onwards s₀) :
    (State.mirrorOutputs s).onwards s₀ := by
  unfold State.mirrorOutputs
  (try simp (maxDischargeDepth := 12) +contextual [*])

@[simp] theorem State.adoptDriver_onwards {s₀ : State} (s : State) (d : Nat) (m : MirrorDriver) (hs : s.onwards s₀) :
    (State.adoptDriver s d m).onwards s₀ := by
  unfold State.adoptDriver
  (try simp (maxDischargeDepth := 12) +contextual [*])

@[simp] theorem State.adoptString_onwards {s₀ : State} (s : State) (n : Nat) (m : MirrorString) (hs : s.onwards s₀) :
    (State.adoptString s n m).onwards s₀ := by
  unfold State.adoptString
  (try simp (maxDischargeDepth := 12) +contextual [*])

@[simp] theorem State.adoptMirror_onwards {s₀ : State} (s : State) (m : Mirror) (hs : s.onwards s₀) :
    (State.adoptMirror s m).onwards s₀ := by
  unfold State.adoptMirror
  (try simp (maxDischargeDepth := 12) +contextual [*])

@[simp] theorem State.dupFrame_onwards {s₀ : State} (s : State) (crcOk : Bool) (f : State → State) (hs : s.onwards s₀)
    (hf : ∀ s : State, s.onwards s₀ → (f s).onwards s₀) : nextSat (s.dupFrame crcOk f) fun t => t.onwards s₀ := by
  unfold State.dupFrame
  split
  · exact done_onwards _ hs
  split
  · exact done_onwards _ (by simp [*])
  · exact done_onwards _ (hf _ (by simp [*]))

theorem execDuplexLinkDown_onwards {s₀ : State} (s : State) (hs : s.onwards s₀) :
    nextSat (execDuplexLinkDown s) fun t => t.onwards s₀ := by
  unfold execDuplexLinkDown
  (try simp (maxDischargeDepth := 12) +contextual [*])

theorem execDuplexLinkUp_onwards {s₀ : State} (s : State) (hs : s.onwards s₀) :
    nextSat (execDuplexLinkUp s) fun t => t.onwards s₀ := by
  unfold execDuplexLinkUp
  (try simp (maxDischargeDepth := 12) +contextual [*])

@[simp] theorem State.helloSend_onwards {s₀ : State} (s : State) (hs : s.onwards s₀) : (State.helloSend s).onwards s₀ := by
  unfold State.helloSend
  (try simp (maxDischargeDepth := 12) +contextual [*])

theorem execDuplexHelloSend_onwards {s₀ : State} (s : State) (hs : s.onwards s₀) :
    nextSat (execDuplexHelloSend s) fun t => t.onwards s₀ := by
  unfold execDuplexHelloSend
  (try simp (maxDischargeDepth := 12) +contextual [*])

@[simp] theorem State.takeHello_onwards {s₀ : State} (s : State) (h : Hello) (hs : s.onwards s₀) :
    (State.takeHello s h).onwards s₀ := by
  unfold State.takeHello
  (try simp (maxDischargeDepth := 12) +contextual [*])

theorem execHello_onwards {s₀ : State} (h : Hello) (tail : DupTail) (s : State) (hs : s.onwards s₀) :
    nextSat (execHello h tail s) fun t => t.onwards s₀ := by
  unfold execHello
  (try simp (maxDischargeDepth := 12) +contextual [*])

theorem execMirror_onwards {s₀ : State} (m : Mirror) (tail : DupTail) (s : State) (hs : s.onwards s₀) :
    nextSat (execMirror m tail s) fun t => t.onwards s₀ := by
  unfold execMirror
  (try simp (maxDischargeDepth := 12) +contextual [*])

@[simp] theorem State.takeTally_onwards {s₀ : State} (s : State) (index : Nat) (period : Nat) (time : Nat) (hs : s.onwards s₀) :
    (State.takeTally s index period time).onwards s₀ := by
  unfold State.takeTally
  (try simp (maxDischargeDepth := 12) +contextual [*])

theorem execDuplexTally_onwards {s₀ : State} (index : BitVec 32) (period : Nat) (time : Nat) (tail : DupTail) (s : State) (hs : s.onwards s₀) :
    nextSat (execDuplexTally index period time tail s) fun t => t.onwards s₀ := by
  unfold execDuplexTally
  (try simp (maxDischargeDepth := 12) +contextual [*])

@[simp] theorem State.closeTail_onwards {s₀ : State} (s : State) (r : Nat) (hs : s.onwards s₀) :
    (State.closeTail s r).onwards s₀ := by
  unfold State.closeTail
  (try simp (maxDischargeDepth := 12) +contextual [*])

@[simp] theorem State.takeDelays_onwards {s₀ : State} (s : State) (p : List Byte) (hs : s.onwards s₀) :
    (State.takeDelays s p).onwards s₀ := by
  unfold State.takeDelays
  (try simp (maxDischargeDepth := 12) +contextual [*])

theorem execRingDelays_onwards {s₀ : State} (payload : List Byte) (tail : DupTail) (s : State) (hs : s.onwards s₀) :
    nextSat (execRingDelays payload tail s) fun t => t.onwards s₀ := by
  unfold execRingDelays
  (try simp (maxDischargeDepth := 12) +contextual [*])

@[simp] theorem State.takeChainReq_onwards {s₀ : State} (s : State) (r : Nat) (f : List Byte) (latest : Nat) (hs : s.onwards s₀) :
    (State.takeChainReq s r f latest).onwards s₀ := by
  unfold State.takeChainReq
  (try simp (maxDischargeDepth := 12) +contextual [*])

theorem execChainReq_onwards {s₀ : State} (ring : Fin 4) (command : List Byte) (latest : Nat) (tail : DupTail) (s : State) (hs : s.onwards s₀) :
    nextSat (execChainReq ring command latest tail s) fun t => t.onwards s₀ := by
  unfold execChainReq
  (try simp (maxDischargeDepth := 12) +contextual [*])

theorem after_onwards {s₀ : State} (s : State) (o : Host.Outcome State Fault Refusal) (hs : s.onwards s₀) (ho :
    nextSat o fun t => t.onwards s₀) :
    (after s o).onwards s₀ := by
  unfold after
  split
  · exact ho _ rfl
  · exact hs

@[simp] theorem State.takeForward_onwards {s₀ : State} (s : State) (ring : Fin 4) (f : List Byte) (hs : s.onwards s₀) :
    (s.takeForward ring f).onwards s₀ := by
  unfold State.takeForward
  extract_lets port go t
  have hgo : ∀ m : Fin 4 → Bool → List Byte → State → Host.Outcome State Fault Refusal,
      (nextSat (m ring port f s) fun t => t.onwards s₀) → (go m).onwards s₀ := fun m hm => after_onwards _ _ hs hm
  clear_value go t
  refine onwards_ite _ _ _ (fun _ => hs) fun _ => ?_
  refine onwards_ite _ _ _ (fun _ => hgo _ (execReturnPathCheck_onwards _ _ _ hs)) fun _ => ?_
  refine onwards_ite _ _ _ (fun _ => hgo _ (execIdent_onwards _ _ _ _ hs)) fun _ => ?_
  refine onwards_ite _ _ _ (fun _ => hgo _ (execEchoBack_onwards _ _ _ _ _ _ hs)) fun _ => ?_
  refine onwards_ite _ _ _ (fun _ => hgo _ (execConfigAck_onwards _ _ _ _ hs)) fun _ => ?_
  refine onwards_ite _ _ _ (fun _ => hgo _ (execStatus_onwards _ _ _ _ hs)) fun _ => ?_
  refine onwards_ite _ _ _ (fun _ => hgo _ (execSample_onwards _ _ _ _ hs)) fun _ => ?_
  refine onwards_ite _ _ _ (fun _ => hgo _ (execBalAck_onwards _ _ _ _ hs)) fun _ => ?_
  refine onwards_ite _ _ _ (fun _ => hgo _ (execOpenWireResult_onwards _ _ _ _ hs)) fun _ => ?_
  refine onwards_ite _ _ _ (fun _ => hgo _ (execAuthResult_onwards _ _ _ _ hs)) fun _ => ?_
  refine onwards_ite _ _ _ (fun _ => hgo _ (execAuthMac_onwards _ _ _ _ hs)) fun _ => ?_
  refine onwards_ite _ _ _ (fun _ => hgo _ (execRejoinResult_onwards _ _ _ _ hs)) fun _ => ?_
  exact hgo _ (execIdent_onwards _ _ _ _ hs)

theorem execChainFwd_onwards {s₀ : State} (ring : Fin 4) (decodedAt : Nat) (frame : List Byte) (tail : DupTail) (s : State) (hs : s.onwards s₀) :
    nextSat (execChainFwd ring decodedAt frame tail s) fun t => t.onwards s₀ := by
  unfold execChainFwd
  (try simp (maxDischargeDepth := 12) +contextual [*])

theorem execStandbyTakeoverSweep_onwards {s₀ : State} (ring : Fin 4) (s : State) (hs : s.onwards s₀) :
    nextSat (execStandbyTakeoverSweep ring s) fun t => t.onwards s₀ := by
  unfold execStandbyTakeoverSweep
  (try simp (maxDischargeDepth := 12) +contextual [*])

@[simp] theorem State.handoverStart_onwards {s₀ : State} (s : State) (hs : s.onwards s₀) :
    (State.handoverStart s).onwards s₀ := by
  unfold State.handoverStart
  (try simp (maxDischargeDepth := 12) +contextual [*])

@[simp] theorem State.handOver_onwards {s₀ : State} (s : State) (hs : s.onwards s₀) : ((State.handOver s)).1.onwards s₀ := by
  unfold State.handOver
  (try simp (maxDischargeDepth := 12) +contextual [*])

theorem execBerthHandOver_onwards {s₀ : State} (req : Req) (s : State) (hs : s.onwards s₀) :
    nextSat (execBerthHandOver req s) fun t => t.onwards s₀ := by
  unfold execBerthHandOver
  (try simp (maxDischargeDepth := 12) +contextual [*])

@[simp] theorem State.askHandover_onwards {s₀ : State} (s : State) (revert : Bool) (hs : s.onwards s₀) :
    (State.askHandover s revert).onwards s₀ := by
  unfold State.askHandover
  (try simp (maxDischargeDepth := 12) +contextual [*])

@[simp] theorem State.take_onwards {s₀ : State} (s : State) (hs : s.onwards s₀) : ((State.take s)).1.onwards s₀ := by
  unfold State.take
  (try simp (maxDischargeDepth := 12) +contextual [*])

theorem execBerthTake_onwards {s₀ : State} (req : Req) (s : State) (hs : s.onwards s₀) :
    nextSat (execBerthTake req s) fun t => t.onwards s₀ := by
  unfold execBerthTake
  (try simp (maxDischargeDepth := 12) +contextual [*])

theorem execBerthRevert_onwards {s₀ : State} (s : State) (hs : s.onwards s₀) :
    nextSat (execBerthRevert s) fun t => t.onwards s₀ := by
  unfold execBerthRevert
  (try simp (maxDischargeDepth := 12) +contextual [*])

@[simp] theorem State.takeOffer_onwards {s₀ : State} (s : State) (tally : Nat) (hs : s.onwards s₀) :
    (State.takeOffer s tally).onwards s₀ := by
  unfold State.takeOffer
  (try simp (maxDischargeDepth := 12) +contextual [*])

theorem execHandoverOffer_onwards {s₀ : State} (tally : BitVec 32) (tail : DupTail) (s : State) (hs : s.onwards s₀) :
    nextSat (execHandoverOffer tally tail s) fun t => t.onwards s₀ := by
  unfold execHandoverOffer
  (try simp (maxDischargeDepth := 12) +contextual [*])

theorem execHandoverAccept_onwards {s₀ : State} (tally : BitVec 32) (tail : DupTail) (s : State) (hs : s.onwards s₀) :
    nextSat (execHandoverAccept tally tail s) fun t => t.onwards s₀ := by
  unfold execHandoverAccept
  (try simp (maxDischargeDepth := 12) +contextual [*])

theorem execHandoverRefuse_onwards {s₀ : State} (tally : BitVec 32) (tail : DupTail) (s : State) (hs : s.onwards s₀) :
    nextSat (execHandoverRefuse tally tail s) fun t => t.onwards s₀ := by
  unfold execHandoverRefuse
  (try simp (maxDischargeDepth := 12) +contextual [*])

theorem execHandoverTaken_onwards {s₀ : State} (tally : BitVec 32) (tail : DupTail) (s : State) (hs : s.onwards s₀) :
    nextSat (execHandoverTaken tally tail s) fun t => t.onwards s₀ := by
  unfold execHandoverTaken
  (try simp (maxDischargeDepth := 12) +contextual [*])

@[simp] theorem State.failureString_onwards {s₀ : State} (s : State) (n : Nat) (hs : s.onwards s₀) :
    (State.failureString s n).onwards s₀ := by
  unfold State.failureString
  (try simp (maxDischargeDepth := 12) +contextual [*])

@[simp] theorem State.takenStep_onwards {s₀ : State} (s : State) (hs : s.onwards s₀) : (State.takenStep s).onwards s₀ := by
  unfold State.takenStep
  (try simp (maxDischargeDepth := 12) +contextual [*])

@[simp] theorem State.sequenceStep_onwards {s₀ : State} (s : State) (hs : s.onwards s₀) : (State.sequenceStep s).onwards s₀ := by
  unfold State.sequenceStep
  (try simp (maxDischargeDepth := 12) +contextual [*])

@[simp] theorem State.takeLapse_onwards {s₀ : State} (s : State) (hs : s.onwards s₀) : (State.takeLapse s).onwards s₀ := by
  unfold State.takeLapse
  (try simp (maxDischargeDepth := 12) +contextual [*])

@[simp] theorem State.standbyRefresh_onwards {s₀ : State} (s : State) (hs : s.onwards s₀) :
    (State.standbyRefresh s).onwards s₀ := by
  unfold State.standbyRefresh
  (try simp (maxDischargeDepth := 12) +contextual [*])

@[simp] theorem State.offerEnd_onwards {s₀ : State} (s : State) (h : Nat) (hs : s.onwards s₀) :
    (State.offerEnd s h).onwards s₀ := by
  unfold State.offerEnd
  (try simp (maxDischargeDepth := 12) +contextual [*])

@[simp] theorem State.holderStep_onwards {s₀ : State} (s : State) (hs : s.onwards s₀) : (State.holderStep s).onwards s₀ := by
  unfold State.holderStep
  (try simp (maxDischargeDepth := 12) +contextual [*])

@[simp] theorem State.darkWatch_onwards {s₀ : State} (s : State) (hs : s.onwards s₀) : (State.darkWatch s).onwards s₀ := by
  unfold State.darkWatch
  (try simp (maxDischargeDepth := 12) +contextual [*])

@[simp] theorem State.contactorStep_onwards {s₀ : State} (s : State) (hs : s.onwards s₀) :
    (State.contactorStep s).onwards s₀ := by
  unfold State.contactorStep
  (try simp (maxDischargeDepth := 12) +contextual [*])

theorem execContactorStep_onwards {s₀ : State} (s : State) (hs : s.onwards s₀) :
    nextSat (execContactorStep s) fun t => t.onwards s₀ := by
  unfold execContactorStep
  (try simp (maxDischargeDepth := 12) +contextual [*])

@[simp] theorem State.storeTable_onwards {s₀ : State} (s : State) (k : Nat) (f : List Byte) (hs : s.onwards s₀) :
    (State.storeTable s k f).onwards s₀ := by
  unfold State.storeTable
  (try simp (maxDischargeDepth := 12) +contextual [*])

@[simp] theorem State.loadTable_onwards {s₀ : State} (s : State) (k : Nat) (hs : s.onwards s₀) :
    (State.loadTable s k).onwards s₀ := by
  unfold State.loadTable
  (try simp (maxDischargeDepth := 12) +contextual [*])
  all_goals (repeat' split) <;> (try simp (maxDischargeDepth := 12) +contextual [*])

@[simp] theorem State.pauseSet_onwards {s₀ : State} (s : State) (k : Nat) (hs : s.onwards s₀) :
    (State.pauseSet s k).onwards s₀ := by
  unfold State.pauseSet
  (try simp (maxDischargeDepth := 12) +contextual [*])

@[simp] theorem State.tableWrite_onwards {s₀ : State} (s : State) (k : Nat) (f : List Byte) (hs : s.onwards s₀) :
    ((State.tableWrite s k f)).1.onwards s₀ := by
  unfold State.tableWrite
  (try simp (maxDischargeDepth := 12) +contextual [*])

theorem execModelTableFileWrite_onwards {s₀ : State} (req : Req) (set : Fin 4) (file : List Byte) (s : State) (hs : s.onwards s₀) :
    nextSat (execModelTableFileWrite req set file s) fun t => t.onwards s₀ := by
  unfold execModelTableFileWrite
  (try simp (maxDischargeDepth := 12) +contextual [*])

theorem execTableSetLoadDone_onwards {s₀ : State} (set : Fin 4) (s : State) (hs : s.onwards s₀) :
    nextSat (execTableSetLoadDone set s) fun t => t.onwards s₀ := by
  unfold execTableSetLoadDone
  (try simp (maxDischargeDepth := 12) +contextual [*])

theorem execTableSetReloadDone_onwards {s₀ : State} (set : Fin 4) (s : State) (hs : s.onwards s₀) :
    nextSat (execTableSetReloadDone set s) fun t => t.onwards s₀ := by
  unfold execTableSetReloadDone
  (try simp (maxDischargeDepth := 12) +contextual [*])

@[simp] theorem State.loseStaging_onwards {s₀ : State} (s : State) (hs : s.onwards s₀) : (State.loseStaging s).onwards s₀ := by
  unfold State.loseStaging
  (try simp (maxDischargeDepth := 12) +contextual [*])

@[simp] theorem State.reloadConfig_onwards {s₀ : State} (s : State) (hs : s.onwards s₀) : (State.reloadConfig s).onwards s₀ := by
  unfold State.reloadConfig
  (try simp (maxDischargeDepth := 12) +contextual [*])

@[simp] theorem State.eccAction_onwards {s₀ : State} (s : State) (area : Nat) (item : Nat) (hs : s.onwards s₀) :
    (State.eccAction s area item).onwards s₀ := by
  unfold State.eccAction
  (try simp (maxDischargeDepth := 12) +contextual [*])

theorem execSramEccError_onwards {s₀ : State} (area : Fin 7) (uncorrectable : Bool) (item : Nat) (s : State) (hs : s.onwards s₀) :
    nextSat (execSramEccError area uncorrectable item s) fun t => t.onwards s₀ := by
  unfold execSramEccError
  (try simp (maxDischargeDepth := 12) +contextual [*])

theorem execLearnedDataCommit_onwards {s₀ : State} (string : Fin 4) (worn : Bool) (s : State) (hs : s.onwards s₀) :
    nextSat (execLearnedDataCommit string worn s) fun t => t.onwards s₀ := by
  unfold execLearnedDataCommit
  (try simp (maxDischargeDepth := 12) +contextual [*])

theorem execWeldStateCommit_onwards {s₀ : State} (string : Fin 4) (worn : Bool) (s : State) (hs : s.onwards s₀) :
    nextSat (execWeldStateCommit string worn s) fun t => t.onwards s₀ := by
  unfold execWeldStateCommit
  (try simp (maxDischargeDepth := 12) +contextual [*])

@[simp] theorem State.applyLearned_onwards {s₀ : State} (s : State) (n : Nat) (hs : s.onwards s₀) :
    (State.applyLearned s n).onwards s₀ := by
  unfold State.applyLearned
  (try simp (maxDischargeDepth := 12) +contextual [*])
  all_goals (repeat' split) <;> (try simp (maxDischargeDepth := 12) +contextual [*])

@[simp] theorem State.withVaux_onwards {s₀ : State} (s : State) (mv : Nat) (hs : s.onwards s₀) :
    (State.withVaux s mv).onwards s₀ := by
  unfold State.withVaux
  (try simp (maxDischargeDepth := 12) +contextual [*])

@[simp] theorem State.supplyBack_onwards {s₀ : State} (s : State) (mv : Nat) (hs : s.onwards s₀) :
    (State.supplyBack s mv).onwards s₀ := by
  unfold State.supplyBack
  (try simp (maxDischargeDepth := 12) +contextual [*])

theorem execSupplyRecovery_onwards {s₀ : State} (vauxMv : Nat) (s : State) (hs : s.onwards s₀) :
    nextSat (execSupplyRecovery vauxMv s) fun t => t.onwards s₀ := by
  unfold execSupplyRecovery
  (try simp (maxDischargeDepth := 12) +contextual [*])

@[simp] theorem State.warn_onwards {s₀ : State} (s : State) (mv : Nat) (hs : s.onwards s₀) : (State.warn s mv).onwards s₀ := by
  unfold State.warn
  (try simp (maxDischargeDepth := 12) +contextual [*])

theorem execBrownOutWarning_onwards {s₀ : State} (vauxMv : Nat) (s : State) (hs : s.onwards s₀) :
    nextSat (execBrownOutWarning vauxMv s) fun t => t.onwards s₀ := by
  unfold execBrownOutWarning
  (try simp (maxDischargeDepth := 12) +contextual [*])

theorem execBrownOutClear_onwards {s₀ : State} (vauxMv : Nat) (s : State) (hs : s.onwards s₀) :
    nextSat (execBrownOutClear vauxMv s) fun t => t.onwards s₀ := by
  unfold execBrownOutClear
  (try simp (maxDischargeDepth := 12) +contextual [*])

theorem execPowerDieReset_onwards {s₀ : State} (vauxMv : Nat) (s : State) (hs : s.onwards s₀) :
    nextSat (execPowerDieReset vauxMv s) fun t => t.onwards s₀ := by
  unfold execPowerDieReset
  (try simp (maxDischargeDepth := 12) +contextual [*])

theorem execRegulatorFault_onwards {s₀ : State} (vddcMv : Nat) (vddioMv : Nat) (s : State) (hs : s.onwards s₀) :
    nextSat (execRegulatorFault vddcMv vddioMv s) fun t => t.onwards s₀ := by
  unfold execRegulatorFault
  (try simp (maxDischargeDepth := 12) +contextual [*])

theorem execPowerOn_onwards {s₀ : State} (vauxMv : Nat) (s : State) (hs : s.onwards s₀) :
    nextSat (execPowerOn vauxMv s) fun t => t.onwards s₀ := by
  unfold execPowerOn
  (try simp (maxDischargeDepth := 12) +contextual [*])

@[simp] theorem State.pdRelease_onwards {s₀ : State} (s : State) (pref : Bool) (hs : s.onwards s₀) :
    (State.pdRelease s pref).onwards s₀ := by
  unfold State.pdRelease
  (try simp (maxDischargeDepth := 12) +contextual [*])

theorem execPowerDieResetRelease_onwards {s₀ : State} (berthPref : Bool) (s : State) (hs : s.onwards s₀) :
    nextSat (execPowerDieResetRelease berthPref s) fun t => t.onwards s₀ := by
  unfold execPowerDieResetRelease
  (try simp (maxDischargeDepth := 12) +contextual [*])

@[simp] theorem State.bootNote_onwards {s₀ : State} (s : State) (inst : Nat) (hs : s.onwards s₀) :
    (State.bootNote s inst).onwards s₀ := by
  unfold State.bootNote
  (try simp (maxDischargeDepth := 12) +contextual [*])

@[simp] theorem State.boot_onwards {s₀ : State} (s : State) (k : Option Nat) (hs : s.onwards s₀) :
    (State.boot s k).onwards s₀ := by
  unfold State.boot
  (try simp (maxDischargeDepth := 12) +contextual [*])
  all_goals (repeat' split) <;> (try simp (maxDischargeDepth := 12) +contextual [*])

@[simp] theorem State.slotProgram_onwards {s₀ : State} (s : State) (k : Nat) (f : FwSlot → FwSlot) (hs : s.onwards s₀) :
    (State.slotProgram s k f).onwards s₀ := by
  unfold State.slotProgram
  (try simp (maxDischargeDepth := 12) +contextual [*])

@[simp] theorem State.bootActive_onwards {s₀ : State} (s : State) (hs : s.onwards s₀) : (State.bootActive s).onwards s₀ := by
  unfold State.bootActive
  (try simp (maxDischargeDepth := 12) +contextual [*])

@[simp] theorem State.bootSlot_onwards {s₀ : State} (s : State) (hs : s.onwards s₀) : (State.bootSlot s).onwards s₀ := by
  unfold State.bootSlot
  (try simp (maxDischargeDepth := 12) +contextual [*])
  all_goals (repeat' split) <;> (try simp (maxDischargeDepth := 12) +contextual [*])

@[simp] theorem State.cdRelease_onwards {s₀ : State} (s : State) (hs : s.onwards s₀) : (State.cdRelease s).onwards s₀ := by
  unfold State.cdRelease
  (try simp (maxDischargeDepth := 12) +contextual [*])

theorem execComputeDieResetRelease_onwards {s₀ : State} (s : State) (hs : s.onwards s₀) :
    nextSat (execComputeDieResetRelease s) fun t => t.onwards s₀ := by
  unfold execComputeDieResetRelease
  (try simp (maxDischargeDepth := 12) +contextual [*])

@[simp] theorem State.releaseIfFree_onwards {s₀ : State} (s : State) (hs : s.onwards s₀) :
    (State.releaseIfFree s).onwards s₀ := by
  unfold State.releaseIfFree
  (try simp (maxDischargeDepth := 12) +contextual [*])

theorem execClockFaultRelease_onwards {s₀ : State} (s : State) (hs : s.onwards s₀) :
    nextSat (execClockFaultRelease s) fun t => t.onwards s₀ := by
  unfold execClockFaultRelease
  (try simp (maxDischargeDepth := 12) +contextual [*])
  all_goals (repeat' split) <;> (try simp (maxDischargeDepth := 12) +contextual [*])

theorem execResetNAssert_onwards {s₀ : State} (s : State) (hs : s.onwards s₀) :
    nextSat (execResetNAssert s) fun t => t.onwards s₀ := by
  unfold execResetNAssert
  (try simp (maxDischargeDepth := 12) +contextual [*])

theorem execResetNRelease_onwards {s₀ : State} (s : State) (hs : s.onwards s₀) :
    nextSat (execResetNRelease s) fun t => t.onwards s₀ := by
  unfold execResetNRelease
  (try simp (maxDischargeDepth := 12) +contextual [*])

@[simp] theorem State.resetCommand_onwards {s₀ : State} (s : State) (v : Nat) (hs : s.onwards s₀) :
    ((State.resetCommand s v)).1.onwards s₀ := by
  unfold State.resetCommand
  (try simp (maxDischargeDepth := 12) +contextual [*])

@[simp] theorem following_onwards {s₀ : State} (f : State → State) (o : Host.Outcome State Fault Refusal)
    (hf : ∀ s : State, s.onwards s₀ → (f s).onwards s₀) (ho : nextSat o fun t => t.onwards s₀) :
    nextSat (following f o) fun t => t.onwards s₀ := by
  unfold following
  split
  · have := ho _ rfl
    refine next_onwards _ ?_
    repeat' split
    · exact hf _ this
    · exact this
    · exact this
  · exact ho

theorem execDeviceResetCommand_onwards {s₀ : State} (req : Req) (value : Nat) (s : State) (hs : s.onwards s₀) :
    nextSat (execDeviceResetCommand req value s) fun t => t.onwards s₀ := by
  unfold execDeviceResetCommand
  (try simp (maxDischargeDepth := 12) +contextual [*])
  all_goals (repeat' split) <;> (try simp (maxDischargeDepth := 12) +contextual [*])

@[simp] theorem State.ringMoor_onwards {s₀ : State} (s : State) (r : Nat) (hs : s.onwards s₀) :
    (State.ringMoor s r).onwards s₀ := by
  unfold State.ringMoor
  (try simp (maxDischargeDepth := 12) +contextual [*])

@[simp] theorem State.moorCommit_onwards {s₀ : State} (s : State) (hs : s.onwards s₀) : (State.moorCommit s).onwards s₀ := by
  unfold State.moorCommit
  (try simp (maxDischargeDepth := 12) +contextual [*])

@[simp] theorem State.moorWork_onwards {s₀ : State} (s : State) (hs : s.onwards s₀) : (State.moorWork s).onwards s₀ := by
  unfold State.moorWork
  (try simp (maxDischargeDepth := 12) +contextual [*])

@[simp] theorem State.moorStart_onwards {s₀ : State} (s : State) (m : Mooring) (inst : Nat) (hs : s.onwards s₀) :
    (State.moorStart s m inst).onwards s₀ := by
  unfold State.moorStart
  (try simp (maxDischargeDepth := 12) +contextual [*])

@[simp] theorem State.moor_onwards {s₀ : State} (s : State) (v : Nat) (hs : s.onwards s₀) : ((State.moor s v)).1.onwards s₀ := by
  unfold State.moor
  (try simp (maxDischargeDepth := 12) +contextual [*])

theorem execMooredWatchCommand_onwards {s₀ : State} (req : Req) (s : State) (hs : s.onwards s₀) :
    nextSat (execMooredWatchCommand req s) fun t => t.onwards s₀ := by
  unfold execMooredWatchCommand
  (try simp (maxDischargeDepth := 12) +contextual [*])

theorem execMooredDarkCommand_onwards {s₀ : State} (req : Req) (s : State) (hs : s.onwards s₀) :
    nextSat (execMooredDarkCommand req s) fun t => t.onwards s₀ := by
  unfold execMooredDarkCommand
  (try simp (maxDischargeDepth := 12) +contextual [*])

theorem execMooredDarkAuto_onwards {s₀ : State} (s : State) (hs : s.onwards s₀) :
    nextSat (execMooredDarkAuto s) fun t => t.onwards s₀ := by
  unfold execMooredDarkAuto
  (try simp (maxDischargeDepth := 12) +contextual [*])

@[simp] theorem State.moorDone_onwards {s₀ : State} (s : State) (hs : s.onwards s₀) : (State.moorDone s).onwards s₀ := by
  unfold State.moorDone
  (try simp (maxDischargeDepth := 12) +contextual [*])

theorem execMooredEntryComplete_onwards {s₀ : State} (s : State) (hs : s.onwards s₀) :
    nextSat (execMooredEntryComplete s) fun t => t.onwards s₀ := by
  unfold execMooredEntryComplete
  (try simp (maxDischargeDepth := 12) +contextual [*])

theorem execMooredWake_onwards {s₀ : State} (w : WakeSource) (s : State) (hs : s.onwards s₀) :
    nextSat (execMooredWake w s) fun t => t.onwards s₀ := by
  unfold execMooredWake
  (try simp (maxDischargeDepth := 12) +contextual [*])

@[simp] theorem State.retireQuiet_onwards {s₀ : State} (s : State) (hs : s.onwards s₀) : (State.retireQuiet s).onwards s₀ := by
  unfold State.retireQuiet
  (try simp (maxDischargeDepth := 12) +contextual [*])

@[simp] theorem State.retireTomb_onwards {s₀ : State} (s : State) (hs : s.onwards s₀) : (State.retireTomb s).onwards s₀ := by
  unfold State.retireTomb
  (try simp (maxDischargeDepth := 12) +contextual [*])

@[simp] theorem State.retireKeys_onwards {s₀ : State} (s : State) (hs : s.onwards s₀) : s.retireKeys.onwards s₀ :=
  ⟨hs.1, Otp.keeps_trans hs.2.1 (keeps_zeroised s.otp), hs.2.2⟩

@[simp] theorem State.retireWipe_onwards {s₀ : State} (s : State) (hs : s.onwards s₀) : (State.retireWipe s).onwards s₀ := by
  unfold State.retireWipe
  (try simp (maxDischargeDepth := 12) +contextual [*])

@[simp] theorem State.retireSteps_onwards {s₀ : State} (s : State) (hs : s.onwards s₀) : (State.retireSteps s).onwards s₀ := by
  unfold State.retireSteps
  (try simp (maxDischargeDepth := 12) +contextual [*])

@[simp] theorem State.scanRecord_onwards {s₀ : State} (s : State) (key : Nat) (bs : List Byte) (hs : s.onwards s₀) :
    (State.scanRecord s key bs).onwards s₀ := by
  unfold State.scanRecord
  (try simp (maxDischargeDepth := 12) +contextual [*])

@[simp] theorem State.journalResume_onwards {s₀ : State} (s : State) (hs : s.onwards s₀) :
    (State.journalResume s).onwards s₀ := by
  unfold State.journalResume
  (try simp (maxDischargeDepth := 12) +contextual [*])

@[simp] theorem State.scanJournal_onwards {s₀ : State} (s : State) (read : List (Nat × List Byte)) (hs : s.onwards s₀) :
    (State.scanJournal s read).onwards s₀ := by
  unfold State.scanJournal
  (try simp (maxDischargeDepth := 12) +contextual [*])

@[simp] theorem State.startLog_onwards {s₀ : State} (s : State) (torn : List (Nat × Nat)) (hs : s.onwards s₀) :
    (State.startLog s torn).onwards s₀ := by
  unfold State.startLog
  (try simp (maxDischargeDepth := 12) +contextual [*])

@[simp] theorem State.startConfig_onwards {s₀ : State} (s : State) (hs : s.onwards s₀) : (State.startConfig s).onwards s₀ := by
  unfold State.startConfig
  (try simp (maxDischargeDepth := 12) +contextual [*])
  all_goals (repeat' split) <;> (try simp (maxDischargeDepth := 12) +contextual [*])

@[simp] theorem State.startValues_onwards {s₀ : State} (s : State) (hs : s.onwards s₀) : (State.startValues s).onwards s₀ := by
  unfold State.startValues
  (try simp (maxDischargeDepth := 12) +contextual [*])

@[simp] theorem State.startRings_onwards {s₀ : State} (s : State) (hs : s.onwards s₀) : (State.startRings s).onwards s₀ := by
  unfold State.startRings
  (try simp (maxDischargeDepth := 12) +contextual [*])

@[simp] theorem State.startString_onwards {s₀ : State} (s : State) (n : Nat) (hs : s.onwards s₀) :
    (State.startString s n).onwards s₀ := by
  unfold State.startString
  (try simp (maxDischargeDepth := 12) +contextual [*])

@[simp] theorem State.startOutputs_onwards {s₀ : State} (s : State) (hs : s.onwards s₀) : (State.startOutputs s).onwards s₀ := by
  unfold State.startOutputs
  (try simp (maxDischargeDepth := 12) +contextual [*])

@[simp] theorem State.startChecks_onwards {s₀ : State} (s : State) (c : StartupChecks) (hs : s.onwards s₀) :
    (State.startChecks s c).onwards s₀ := by
  unfold State.startChecks
  (try simp (maxDischargeDepth := 12) +contextual [*])

@[simp] theorem State.raiseKept_onwards {s₀ : State} (s : State) (hs : s.onwards s₀) : (State.raiseKept s).onwards s₀ := by
  unfold State.raiseKept
  (try simp (maxDischargeDepth := 12) +contextual [*])

@[simp] theorem State.startEnd_onwards {s₀ : State} (s : State) (c : StartupChecks) (hs : s.onwards s₀) :
    (State.startEnd s c).onwards s₀ := by
  unfold State.startEnd
  (try simp (maxDischargeDepth := 12) +contextual [*])

/-- As `State.raise_clk` of Laws/State.lean, whose simp set would slow the proofs of this file. -/
theorem State.raise_clock (s : State) (n i : Nat) (p : List Byte) : (s.raise n i p).clk = s.clk := by
  unfold State.raise
  repeat' split
  all_goals rfl

theorem State.replaceSectors_clk (s : State) (area n : Nat) : (s.replaceSectors area n).clk = s.clk := by
  unfold State.replaceSectors forEach
  induction List.range n generalizing s with
  | nil => rfl
  | cons a l ih => exact (ih _).trans (State.raise_clock _ _ _ _)

theorem State.erase_clk (s : State) (unit n : Nat) : (s.erase unit n).clk = s.clk := by
  unfold State.erase
  split
  · rfl
  · exact State.replaceSectors_clk _ _ _

theorem State.journalPut_clk (s : State) (key : Nat) (p : List Byte) : (s.journalPut key p).clk = s.clk := State.erase_clk _ _ _

theorem State.journalMove_keeps (P : State → Prop) (hput : ∀ s k p, P s → P (s.journalPut k p))
    (hset : ∀ (s : State) j, P s → P { s with flash := { s.flash with journal := j } }) (s : State) (key : Nat) (hs : P s) :
    P (s.journalMove key) := by
  unfold State.journalMove
  extract_lets e t1 t2
  have h1 : P t1 := by
    simp only [t1]
    split
    · exact hput _ _ _ hs
    · exact hs
  clear_value t1
  have h2 : P t2 := hput _ _ _ h1
  clear_value t2
  split
  · exact h2
  · exact hset _ _ h2

theorem State.journalMove_clk (s : State) (key : Nat) : (s.journalMove key).clk = s.clk :=
  State.journalMove_keeps (fun t => t.clk = s.clk) (fun t k p h => (State.journalPut_clk t k p).trans h) (fun _ _ h => h) s key rfl

theorem State.journalRoom_clk (n k : Nat) (s : State) : (s.journalRoom n k).clk = s.clk := by
  induction k generalizing s with
  | zero => rfl
  | succ k ih =>
    unfold State.journalRoom
    split
    · rfl
    · exact (ih _).trans (State.journalMove_clk _ _)

theorem State.journal_clk (s : State) (kind i : Nat) (p : List Byte) (w : Bool) : (s.journal kind i p w).clk = s.clk :=
  (State.replaceSectors_clk _ _ _).trans ((State.journalPut_clk _ _ _).trans (State.journalRoom_clk _ _ _))

theorem State.tamper_clk (s : State) (b : Nat) : (s.tamper b).clk = s.clk := by
  unfold State.tamper
  split
  · rfl
  · extract_lets fw s1 s2
    have h : s2.clk = s.clk := State.raise_clock _ _ _ _
    split
    · exact (State.journal_clk _ _ _ _ _).trans h
    · exact h

theorem State.scanRecord_clk (s : State) (key : Nat) (bs : List Byte) : (s.scanRecord key bs).clk = s.clk := by
  unfold State.scanRecord
  simp only
  repeat' split
  all_goals first | rfl | exact State.raise_clock _ _ _ _

theorem State.scanJournal_clk (s : State) (read : List (Nat × List Byte)) : (s.scanJournal read).clk = s.clk := by
  have h : ∀ (l : List (Nat × List Byte)) (s : State), (forEach l s fun s e => s.scanRecord e.1 e.2).clk = s.clk := by
    intro l
    unfold forEach
    induction l with
    | nil => exact fun _ => rfl
    | cons a l ih => exact fun s => (ih _).trans (State.scanRecord_clk _ _ _)
  unfold State.scanJournal
  extract_lets s1 num fl fw s2 s3
  have h1 : s1.clk = s.clk := h _ _
  have h2 : s3.clk = s.clk := by
    simp only [s3]
    split <;> exact h1
  split
  · exact (State.tamper_clk _ _).trans h2
  · exact h2
/-- R303: a start that resumes ahead of device time does not set it back. -/

theorem State.resumeTime_ahead (s : State) (c : StartupChecks) (h : s.resumesAhead c) :
    s.clk.now ≤ (s.scanJournal c.records).resumeTime.clk.now := by
  have hc := State.scanJournal_clk s c.records
  unfold State.resumeTime
  by_cases hr : s.clk.rtcRunning = true
  · simp [hc, hr]
  · obtain ⟨j, hj, hn⟩ := h.resolve_left hr
    simp [hc, hr, hj, hn]

theorem State.resumeTime_onwards {s s₀ : State} (hs : s.onwards s₀) (h : s₀.clk.now ≤ s.resumeTime.clk.now) :
    s.resumeTime.onwards s₀ := by
  refine ⟨?_, ?_, ⟨?_, h⟩, ?_⟩ <;> unfold State.resumeTime <;> repeat' split
  all_goals first | exact hs.1 | exact hs.2.1 | exact hs.2.2.1.1 | exact hs.2.2.2

theorem State.startUp_onwards {s₀ : State} (s : State) (c : StartupChecks) (hs : s.onwards s₀)
    (h : s₀.clk.now ≤ (s.scanJournal c.records).resumeTime.clk.now) : (s.startUp c).onwards s₀ := by
  unfold State.startUp
  extract_lets s1 s2 s3 s4
  have h1 : s1.onwards s₀ :=
    State.startLog_onwards _ _ (State.resumeTime_onwards (State.scanJournal_onwards _ _ hs) h)
  clear_value s1
  have h2 : s2.onwards s₀ := by
    simp only [s2]
    repeat' split
    all_goals simp (maxDischargeDepth := 12) [h1]
  clear_value s2
  have h3 : s3.onwards s₀ := forEach_onwards _ _ _ h2 fun s k h => by simp [h]
  clear_value s3
  have h4 : s4.onwards s₀ := by simp (maxDischargeDepth := 12) [s4, h3]
  clear_value s4
  simp (maxDischargeDepth := 12) [h4]

/-- R29, R303: a start puts device time where its resumption puts it, or later. -/

theorem execStartupComplete_onwards {s₀ : State} (c : StartupChecks) (s : State) (hs : s.onwards s₀)
    (h : s₀.clk.now ≤ (s.scanJournal c.records).resumeTime.clk.now) : nextSat (execStartupComplete c s) fun t => t.onwards s₀ :=
  doneIf_onwards _ _ _ (fun _ => State.startUp_onwards _ _ hs h) hs

@[simp] theorem State.logClear_onwards {s₀ : State} (s : State) (auth : Bool) (node : Nat) (link : Nat) (v : Nat) (hs : s.onwards s₀) :
    ((State.logClear s auth node link v)).1.onwards s₀ := by
  unfold State.logClear
  (try simp (maxDischargeDepth := 12) +contextual [*])

theorem execLogClear_onwards {s₀ : State} (req : Req) (code : BitVec 32) (s : State) (hs : s.onwards s₀) :
    nextSat (execLogClear req code s) fun t => t.onwards s₀ := by
  unfold execLogClear
  (try simp (maxDischargeDepth := 12) +contextual [*])

@[simp] theorem State.keyRefused_onwards {s₀ : State} (s : State) (link : Nat) (st : Nat) (hs : s.onwards s₀) :
    ((State.keyRefused s link st)).1.onwards s₀ := by
  unfold State.keyRefused
  (try simp (maxDischargeDepth := 12) +contextual [*])

theorem keyCheck_none (s : State) (auth : Bool) (len : Nat) (b : List Byte) : s.keyCheck auth len none b ≠ 0 := by
  unfold State.keyCheck
  repeat' split
  all_goals simp_all

@[simp] theorem State.siteKeyWrite_onwards {s₀ : State} (s : State) (auth : Bool) (link : Nat) (b : List Byte)
    (hs : s.onwards s₀) : (s.siteKeyWrite auth link b).1.onwards s₀ := by
  unfold State.siteKeyWrite
  extract_lets k st key s1
  split
  · simp [hs]
  · rename_i hst
    have hk : mhas s.otp.siteKeys (k.getD 0) = false := by
      cases hk : k with
      | none => exact absurd (by simpa [st, hk] using hst) (keyCheck_none s auth 32 b)
      | some j => simpa using List.find?_some hk
    exact State.sessionEnd_onwards _ (State.onwards_otp hs (keeps_site _ _ _ hk))

theorem execSiteKeyWrite_onwards {s₀ : State} (req : Req) (blob : List Byte) (s : State) (hs : s.onwards s₀) :
    nextSat (execSiteKeyWrite req blob s) fun t => t.onwards s₀ := by
  unfold execSiteKeyWrite
  (try simp (maxDischargeDepth := 12) +contextual [*])

@[simp] theorem State.moduleKeyWrite_onwards {s₀ : State} (s : State) (auth : Bool) (link r : Nat) (b : List Byte)
    (hs : s.onwards s₀) : (s.moduleKeyWrite auth link r b).1.onwards s₀ := by
  unfold State.moduleKeyWrite
  extract_lets k st key ot s1
  split
  · simp [hs]
  · rename_i hst
    have hk : mhas s.otp.moduleKeys (k.getD 0) = false := by
      cases hk : k with
      | none => exact absurd (by simpa [st, hk] using hst) (keyCheck_none s auth 16 b)
      | some j => simpa using List.find?_some hk
    have h1 : s1.onwards s₀ := State.onwards_otp hs (keeps_module _ _ _ hk)
    clear_value s1
    refine accept_onwards _ ?_
    split
    · exact forEach_onwards _ _ _ h1 fun s p h => by simp [h]
    · exact h1

theorem execModuleKeyWrite_onwards {s₀ : State} (req : Req) (ring : Fin 4) (blob : List Byte) (s : State) (hs : s.onwards s₀) :
    nextSat (execModuleKeyWrite req ring blob s) fun t => t.onwards s₀ := by
  unfold execModuleKeyWrite
  (try simp (maxDischargeDepth := 12) +contextual [*])

@[simp] theorem State.enterLife_onwards {s₀ : State} (s : State) (st : Nat) (hs : s.onwards s₀) :
    (State.enterLife s st).onwards s₀ := by
  unfold State.enterLife
  (try simp (maxDischargeDepth := 12) +contextual [*])

@[simp] theorem State.commission_onwards {s₀ : State} (s : State) (hs : s.onwards s₀) : s.commission.onwards s₀ := by
  unfold State.commission
  extract_lets lg fl s1 s2 s3
  have h1 : s1.onwards s₀ := by simp [s1, hs]
  clear_value s1
  have h2 : s2.onwards s₀ := by simp [s2, h1]
  clear_value s2
  have h3 : s3.onwards s₀ := by simp [s3, h2]
  clear_value s3
  exact State.onwards_otp h3 (keeps_commissioned _)

@[simp] theorem State.retire_onwards {s₀ : State} (s : State) (hs : s.onwards s₀) : s.retire.onwards s₀ := by
  unfold State.retire
  extract_lets s1 ot s2
  have h1 : s1.onwards s₀ :=
    State.logProgramAll_onwards _ (State.logSeal_onwards _ (State.journal_onwards _ _ _ _ _ hs))
  clear_value s1
  have h2 : s2.onwards s₀ := State.onwards_otp h1 (keeps_retired _)
  clear_value s2
  simp (maxDischargeDepth := 12) [h2]

@[simp] theorem State.lifeCommand_onwards {s₀ : State} (s : State) (target : Nat) (up : Nat) (hs : s.onwards s₀) :
    ((State.lifeCommand s target up)).1.onwards s₀ := by
  unfold State.lifeCommand
  (try simp (maxDischargeDepth := 12) +contextual [*])

theorem execLifecycleCommission_onwards {s₀ : State} (req : Req) (value : BitVec 32) (s : State) (hs : s.onwards s₀) :
    nextSat (execLifecycleCommission req value s) fun t => t.onwards s₀ := by
  unfold execLifecycleCommission
  (try simp (maxDischargeDepth := 12) +contextual [*])

theorem execLifecycleInService_onwards {s₀ : State} (req : Req) (value : BitVec 32) (s : State) (hs : s.onwards s₀) :
    nextSat (execLifecycleInService req value s) fun t => t.onwards s₀ := by
  unfold execLifecycleInService
  (try simp (maxDischargeDepth := 12) +contextual [*])

theorem execLifecycleMaintenance_onwards {s₀ : State} (req : Req) (value : BitVec 32) (s : State) (hs : s.onwards s₀) :
    nextSat (execLifecycleMaintenance req value s) fun t => t.onwards s₀ := by
  unfold execLifecycleMaintenance
  (try simp (maxDischargeDepth := 12) +contextual [*])

theorem execLifecycleRetire_onwards {s₀ : State} (req : Req) (value : BitVec 32) (s : State) (hs : s.onwards s₀) :
    nextSat (execLifecycleRetire req value s) fun t => t.onwards s₀ := by
  unfold execLifecycleRetire
  (try simp (maxDischargeDepth := 12) +contextual [*])

@[simp] theorem State.tamperAck_onwards {s₀ : State} (s : State) (mask : Nat) (hs : s.onwards s₀) :
    ((State.tamperAck s mask)).1.onwards s₀ := by
  unfold State.tamperAck
  (try simp (maxDischargeDepth := 12) +contextual [*])

theorem execTamperAcknowledge_onwards {s₀ : State} (req : Req) (mask : BitVec 32) (s : State) (hs : s.onwards s₀) :
    nextSat (execTamperAcknowledge req mask s) fun t => t.onwards s₀ := by
  unfold execTamperAcknowledge
  (try simp (maxDischargeDepth := 12) +contextual [*])

@[simp] theorem State.fwBegin_onwards {s₀ : State} (s : State) (hs : s.onwards s₀) : ((State.fwBegin s)).1.onwards s₀ := by
  unfold State.fwBegin
  (try simp (maxDischargeDepth := 12) +contextual [*])

theorem execFirmwareBegin_onwards {s₀ : State} (req : Req) (s : State) (hs : s.onwards s₀) :
    nextSat (execFirmwareBegin req s) fun t => t.onwards s₀ := by
  unfold execFirmwareBegin
  (try simp (maxDischargeDepth := 12) +contextual [*])

theorem execFirmwareEraseDone_onwards {s₀ : State} (s : State) (hs : s.onwards s₀) :
    nextSat (execFirmwareEraseDone s) fun t => t.onwards s₀ := by
  unfold execFirmwareEraseDone
  (try simp (maxDischargeDepth := 12) +contextual [*])

@[simp] theorem State.fwChunk_onwards {s₀ : State} (s : State) (c : Nat) (bs : List Byte) (hs : s.onwards s₀) :
    ((State.fwChunk s c bs)).1.onwards s₀ := by
  unfold State.fwChunk
  (try simp (maxDischargeDepth := 12) +contextual [*])

theorem execFirmwareChunkWrite_onwards {s₀ : State} (req : Req) (chunk : Fin 64) (bytes : List Byte) (s : State) (hs : s.onwards s₀) :
    nextSat (execFirmwareChunkWrite req chunk bytes s) fun t => t.onwards s₀ := by
  unfold execFirmwareChunkWrite
  (try simp (maxDischargeDepth := 12) +contextual [*])

@[simp] theorem State.fwVerify_onwards {s₀ : State} (s : State) (hs : s.onwards s₀) : ((State.fwVerify s)).1.onwards s₀ := by
  unfold State.fwVerify
  (try simp (maxDischargeDepth := 12) +contextual [*])

theorem execFirmwareVerify_onwards {s₀ : State} (req : Req) (s : State) (hs : s.onwards s₀) :
    nextSat (execFirmwareVerify req s) fun t => t.onwards s₀ := by
  unfold execFirmwareVerify
  (try simp (maxDischargeDepth := 12) +contextual [*])

@[simp] theorem State.fwActivate_onwards {s₀ : State} (s : State) (hs : s.onwards s₀) : ((State.fwActivate s)).1.onwards s₀ := by
  unfold State.fwActivate
  (try simp (maxDischargeDepth := 12) +contextual [*])

@[simp] theorem State.activateLater_onwards {s₀ : State} (s : State) (req : Req) (msg : List Byte) (hs : s.onwards s₀) :
    (State.activateLater s req msg).onwards s₀ := by
  unfold State.activateLater
  (try simp (maxDischargeDepth := 12) +contextual [*])

theorem execFirmwareActivate_onwards {s₀ : State} (req : Req) (s : State) (hs : s.onwards s₀) :
    nextSat (execFirmwareActivate req s) fun t => t.onwards s₀ := by
  unfold execFirmwareActivate
  (try simp (maxDischargeDepth := 12) +contextual [*])
  all_goals (repeat' split) <;> (try simp (maxDischargeDepth := 12) +contextual [*])

@[simp] theorem State.fwAbort_onwards {s₀ : State} (s : State) (hs : s.onwards s₀) : ((State.fwAbort s)).1.onwards s₀ := by
  unfold State.fwAbort
  (try simp (maxDischargeDepth := 12) +contextual [*])

theorem execFirmwareAbort_onwards {s₀ : State} (req : Req) (s : State) (hs : s.onwards s₀) :
    nextSat (execFirmwareAbort req s) fun t => t.onwards s₀ := by
  unfold execFirmwareAbort
  (try simp (maxDischargeDepth := 12) +contextual [*])

@[simp] theorem State.trialConfirm_onwards {s₀ : State} (s : State) (k : Nat) (hs : s.onwards s₀) :
    (s.trialConfirm k).onwards s₀ := by
  unfold State.trialConfirm
  extract_lets s1 s2
  have h1 : s1.onwards s₀ := by simp [s1, hs]
  clear_value s1
  have h2 : s2.onwards s₀ := by simp [s2, h1]
  clear_value s2
  refine State.raise_onwards _ _ _ _ ?_
  exact ⟨h2.1, Otp.keeps_trans h2.2.1 (keeps_floor _ _ (le_max_left _ _)), h2.2.2⟩

theorem execFirmwareTrialConfirm_onwards {s₀ : State} (s : State) (hs : s.onwards s₀) :
    nextSat (execFirmwareTrialConfirm s) fun t => t.onwards s₀ := by
  unfold execFirmwareTrialConfirm
  all_goals (repeat' split) <;> (try simp (maxDischargeDepth := 12) +contextual [*])

@[simp] theorem State.deriveTemps_onwards {s₀ : State} (s : State) (hs : s.onwards s₀) : (State.deriveTemps s).onwards s₀ := by
  unfold State.deriveTemps
  (try simp (maxDischargeDepth := 12) +contextual [*])

@[simp] theorem State.judgeScope_onwards {s₀ : State} (s : State) (k : Nat) (hs : s.onwards s₀) :
    (State.judgeScope s k).onwards s₀ := by
  unfold State.judgeScope
  (try simp (maxDischargeDepth := 12) +contextual [*])

@[simp] theorem State.judgeDeviation_onwards {s₀ : State} (s : State) (k : Nat) (hs : s.onwards s₀) :
    (State.judgeDeviation s k).onwards s₀ := by
  unfold State.judgeDeviation
  (try simp (maxDischargeDepth := 12) +contextual [*])

@[simp] theorem State.sensorBreak_onwards {s₀ : State} (s : State) (k : Nat) (hs : s.onwards s₀) :
    (State.sensorBreak s k).onwards s₀ := by
  unfold State.sensorBreak
  (try simp (maxDischargeDepth := 12) +contextual [*])

@[simp] theorem State.sensorRead_onwards {s₀ : State} (s : State) (k : Nat) (v : Int) (hs : s.onwards s₀) :
    (State.sensorRead s k v).onwards s₀ := by
  unfold State.sensorRead
  (try simp (maxDischargeDepth := 12) +contextual [*])

@[simp] theorem State.sensorsRead_onwards {s₀ : State} (s : State) (v : List Int) (hs : s.onwards s₀) :
    (s.sensorsRead v).onwards s₀ := by
  unfold State.sensorsRead
  extract_lets live s1 s2 s3
  have h1 : s1.onwards s₀ := forEach_onwards _ _ _ hs fun s k h => by split <;> simp [h]
  clear_value s1
  have h2 : s2.onwards s₀ := forEach_onwards _ _ _ h1 fun s k h => by simp [h]
  clear_value s2
  have h3 : s3.onwards s₀ := by simp [s3, h2]
  clear_value s3
  exact forEach_onwards _ _ _ h3 fun s k h => by simp [h]

theorem execDieSensorConversion_onwards {s₀ : State} (readings : List Int) (s : State) (hs : s.onwards s₀) :
    nextSat (execDieSensorConversion readings s) fun t => t.onwards s₀ := by
  unfold execDieSensorConversion
  (try simp (maxDischargeDepth := 12) +contextual [*])

theorem execDieSensorBroken_onwards {s₀ : State} (sensor : Fin 12) (late : Bool) (s : State) (hs : s.onwards s₀) :
    nextSat (execDieSensorBroken sensor late s) fun t => t.onwards s₀ := by
  unfold execDieSensorBroken
  (try simp (maxDischargeDepth := 12) +contextual [*])

theorem execDieTempFrameTimeout_onwards {s₀ : State} (s : State) (hs : s.onwards s₀) :
    nextSat (execDieTempFrameTimeout s) fun t => t.onwards s₀ := by
  unfold execDieTempFrameTimeout
  (try simp (maxDischargeDepth := 12) +contextual [*])

@[simp] theorem State.setStage_onwards {s₀ : State} (s : State) (k : Nat) (g : Nat) (hs : s.onwards s₀) :
    (State.setStage s k g).onwards s₀ := by
  unfold State.setStage
  (try simp (maxDischargeDepth := 12) +contextual [*])

@[simp] theorem State.stageEnter_onwards {s₀ : State} (s : State) (k : Nat) (g : Nat) (hs : s.onwards s₀) :
    (State.stageEnter s k g).onwards s₀ := by
  unfold State.stageEnter
  (try simp (maxDischargeDepth := 12) +contextual [*])

theorem execThrottleStageEnter_onwards {s₀ : State} (scope : Fin 4) (stage : Fin 5) (s : State) (hs : s.onwards s₀) :
    nextSat (execThrottleStageEnter scope stage s) fun t => t.onwards s₀ := by
  unfold execThrottleStageEnter
  (try simp (maxDischargeDepth := 12) +contextual [*])

@[simp] theorem State.stageLeave_onwards {s₀ : State} (s : State) (k : Nat) (g : Nat) (hs : s.onwards s₀) :
    (State.stageLeave s k g).onwards s₀ := by
  unfold State.stageLeave
  (try simp (maxDischargeDepth := 12) +contextual [*])

theorem execThrottleStageLeave_onwards {s₀ : State} (scope : Fin 4) (stage : Fin 5) (s : State) (hs : s.onwards s₀) :
    nextSat (execThrottleStageLeave scope stage s) fun t => t.onwards s₀ := by
  unfold execThrottleStageLeave
  (try simp (maxDischargeDepth := 12) +contextual [*])

@[simp] theorem State.thermalShed_onwards {s₀ : State} (s : State) (hs : s.onwards s₀) : (State.thermalShed s).onwards s₀ := by
  unfold State.thermalShed
  (try simp (maxDischargeDepth := 12) +contextual [*])
  all_goals (repeat' split) <;> (try simp (maxDischargeDepth := 12) +contextual [*])

theorem execThermalShed_onwards {s₀ : State} (s : State) (hs : s.onwards s₀) :
    nextSat (execThermalShed s) fun t => t.onwards s₀ := by
  unfold execThermalShed
  (try simp (maxDischargeDepth := 12) +contextual [*])

theorem execThermalRestore_onwards {s₀ : State} (s : State) (hs : s.onwards s₀) :
    nextSat (execThermalRestore s) fun t => t.onwards s₀ := by
  unfold execThermalRestore
  (try simp (maxDischargeDepth := 12) +contextual [*])
  all_goals (repeat' split) <;> (try simp (maxDischargeDepth := 12) +contextual [*])

theorem execScrubPass_onwards {s₀ : State} (corrected : Nat) (s : State) (hs : s.onwards s₀) :
    nextSat (execScrubPass corrected s) fun t => t.onwards s₀ := by
  unfold execScrubPass
  (try simp (maxDischargeDepth := 12) +contextual [*])

@[simp] theorem State.calibrated_onwards {s₀ : State} (s : State) (k : Nat) (ppm : Int) (hs : s.onwards s₀) :
    (State.calibrated s k ppm).onwards s₀ := by
  unfold State.calibrated
  (try simp (maxDischargeDepth := 12) +contextual [*])

theorem execConverterCalibration_onwards {s₀ : State} (conv : Fin 8) (ppm : Int) (s : State) (hs : s.onwards s₀) :
    nextSat (execConverterCalibration conv ppm s) fun t => t.onwards s₀ := by
  unfold execConverterCalibration
  (try simp (maxDischargeDepth := 12) +contextual [*])

@[simp] theorem State.damageCopy_onwards {s₀ : State} (s : State) (k : Nat) (hs : s.onwards s₀) :
    (State.damageCopy s k).onwards s₀ := by
  unfold State.damageCopy
  (try simp (maxDischargeDepth := 12) +contextual [*])

@[simp] theorem State.badCopy_onwards {s₀ : State} (s : State) (repair : Bool) (k : Nat) (hs : s.onwards s₀) :
    (State.badCopy s repair k).onwards s₀ := by
  unfold State.badCopy
  (try simp (maxDischargeDepth := 12) +contextual [*])

@[simp] theorem State.slotCheck_onwards {s₀ : State} (s : State) (bs : List (Nat × Byte)) (hs : s.onwards s₀) :
    (State.slotCheck s bs).onwards s₀ := by
  unfold State.slotCheck
  (try simp (maxDischargeDepth := 12) +contextual [*])
  all_goals (repeat' split) <;> (try simp (maxDischargeDepth := 12) +contextual [*])

@[simp] theorem State.configDamaged_onwards {s₀ : State} (s : State) (hs : s.onwards s₀) :
    (State.configDamaged s).onwards s₀ := by
  unfold State.configDamaged
  (try simp (maxDischargeDepth := 12) +contextual [*])

@[simp] theorem State.integrity_onwards {s₀ : State} (s : State) (c : Integrity) (repair : Bool) (hs : s.onwards s₀) :
    (State.integrity s c repair).onwards s₀ := by
  unfold State.integrity
  (try simp (maxDischargeDepth := 12) +contextual [*])

theorem execIntegrityCheck_onwards {s₀ : State} (c : Integrity) (s : State) (hs : s.onwards s₀) :
    nextSat (execIntegrityCheck c s) fun t => t.onwards s₀ := by
  unfold execIntegrityCheck
  (try simp (maxDischargeDepth := 12) +contextual [*])

@[simp] theorem State.selfTestTrains_onwards {s₀ : State} (s : State) (t : Nat) (hs : s.onwards s₀) :
    (State.selfTestTrains s t).onwards s₀ := by
  unfold State.selfTestTrains
  (try simp (maxDischargeDepth := 12) +contextual [*])

@[simp] theorem State.selfTest_onwards {s₀ : State} (s : State) (v : Nat) (hs : s.onwards s₀) :
    ((State.selfTest s v)).1.onwards s₀ := by
  unfold State.selfTest
  (try simp (maxDischargeDepth := 12) +contextual [*])
  all_goals (repeat' split) <;> (try simp (maxDischargeDepth := 12) +contextual [*])

theorem execDeviceSelfTestRequest_onwards {s₀ : State} (req : Req) (value : BitVec 32) (s : State) (hs : s.onwards s₀) :
    nextSat (execDeviceSelfTestRequest req value s) fun t => t.onwards s₀ := by
  unfold execDeviceSelfTestRequest
  (try simp (maxDischargeDepth := 12) +contextual [*])

@[simp] theorem State.firmwareTests_onwards {s₀ : State} (s : State) (t : Nat) (x : TestFound) (hs : s.onwards s₀) :
    (State.firmwareTests s t x).onwards s₀ := by
  unfold State.firmwareTests
  (try simp (maxDischargeDepth := 12) +contextual [*])

@[simp] theorem State.deviceTested_onwards {s₀ : State} (s : State) (q : Nat) (t : Nat) (x : TestFound) (hs : s.onwards s₀) :
    (State.deviceTested s q t x).onwards s₀ := by
  unfold State.deviceTested
  (try simp (maxDischargeDepth := 12) +contextual [*])
  all_goals (repeat' split) <;> (try simp (maxDischargeDepth := 12) +contextual [*])

theorem execDeviceSelfTestDone_onwards {s₀ : State} (found : TestFound) (s : State) (hs : s.onwards s₀) :
    nextSat (execDeviceSelfTestDone found s) fun t => t.onwards s₀ := by
  unfold execDeviceSelfTestDone
  all_goals (repeat' split) <;> (try simp (maxDischargeDepth := 12) +contextual [*])

@[simp] theorem State.countIn_onwards {s₀ : State} (s : State) (f : QlpFrame) (hs : s.onwards s₀) :
    (State.countIn s f).onwards s₀ := by
  unfold State.countIn
  (try simp (maxDischargeDepth := 12) +contextual [*])

@[simp] theorem State.strange_onwards {s₀ : State} (s : State) (f : QlpFrame) (hs : s.onwards s₀) :
    (State.strange s f).onwards s₀ := by
  unfold State.strange
  (try simp (maxDischargeDepth := 12) +contextual [*])

@[simp] theorem State.violation_onwards {s₀ : State} (s : State) (link : Nat) (cat : Nat) (hs : s.onwards s₀) :
    (State.violation s link cat).onwards s₀ := by
  unfold State.violation
  (try simp (maxDischargeDepth := 12) +contextual [*])

@[simp] theorem State.accepts_onwards {s₀ : State} (s : State) (f : QlpFrame) (hs : s.onwards s₀) :
    ((State.accepts s f)).1.onwards s₀ := by
  unfold State.accepts
  (try simp (maxDischargeDepth := 12) +contextual [*])

@[simp] theorem State.receive_onwards {s₀ : State} (s : State) (f : QlpFrame) (cls : Nat) (op : State → State) (hs : s.onwards s₀)
    (ho : ∀ s : State, s.onwards s₀ → (op s).onwards s₀) : nextSat (s.receive f cls op) fun t => t.onwards s₀ := by
  unfold State.receive
  extract_lets l r
  have h1 : r.1.onwards s₀ := by simp (maxDischargeDepth := 12) [r, *]
  clear_value r
  split
  · exact next_onwards _ hs
  split
  · exact next_onwards _ (by simp [hs])
  split
  · exact next_onwards _ (by simp (maxDischargeDepth := 12) [hs])
  · refine next_onwards _ ?_
    split
    · exact ho _ h1
    · exact h1

@[simp] theorem State.keepResponse_onwards {s₀ : State} (s : State) (f : QlpFrame) (r : Reply) (sent : List Byte) (hs : s.onwards s₀) :
    (State.keepResponse s f r sent).onwards s₀ := by
  unfold State.keepResponse
  (try simp (maxDischargeDepth := 12) +contextual [*])

@[simp] theorem State.sendResponse_onwards {s₀ : State} (s : State) (f : QlpFrame) (payload : List Byte) (hs : s.onwards s₀) :
    (State.sendResponse s f payload).onwards s₀ := by
  unfold State.sendResponse
  (try simp (maxDischargeDepth := 12) +contextual [*])

@[simp] theorem State.answer_onwards {s₀ : State} (s : State) (f : QlpFrame) (status : Nat) (sub : Nat) (stamps : (List (Nat × Nat))) (data : (List Byte)) (hs : s.onwards s₀) :
    (State.answer s f status sub stamps data).onwards s₀ := by
  unfold State.answer
  (try simp (maxDischargeDepth := 12) +contextual [*])

@[simp] theorem State.setTransfer_onwards {s₀ : State} (s : State) (t : Transfer) (hs : s.onwards s₀) :
    (State.setTransfer s t).onwards s₀ := by
  unfold State.setTransfer
  (try simp (maxDischargeDepth := 12) +contextual [*])

@[simp] theorem State.endTransfer_onwards {s₀ : State} (s : State) (t : Transfer) (hs : s.onwards s₀) :
    (State.endTransfer s t).onwards s₀ := by
  unfold State.endTransfer
  (try simp (maxDischargeDepth := 12) +contextual [*])

@[simp] theorem State.burst_onwards {s₀ : State} (s : State) (t : Transfer) (n : Nat) (hs : s.onwards s₀) :
    (State.burst s t n).onwards s₀ := by
  unfold State.burst
  (try simp (maxDischargeDepth := 12) +contextual [*])

@[simp] theorem State.answerData_onwards {s₀ : State} (s : State) (f : QlpFrame) (status : Nat) (stamps : List (Nat × Nat)) (data : List Byte) (hs : s.onwards s₀) :
    (State.answerData s f status stamps data).onwards s₀ := by
  unfold State.answerData
  (try simp (maxDischargeDepth := 12) +contextual [*])

@[simp] theorem State.countRate_onwards {s₀ : State} (s : State) (f : QlpFrame) (hs : s.onwards s₀) :
    ((State.countRate s f)).1.onwards s₀ := by
  unfold State.countRate
  (try simp (maxDischargeDepth := 12) +contextual [*])

@[simp] theorem State.ask_onwards {s₀ : State} (s : State) (f : QlpFrame) (op : Nat) (run : State → State) (hs : s.onwards s₀)
    (ho : ∀ s : State, s.onwards s₀ → (run s).onwards s₀) : nextSat (s.ask f op run) fun t => t.onwards s₀ := by
  unfold State.ask
  split
  · exact next_onwards _ hs
  refine State.receive_onwards _ _ _ _ hs fun s hs => ?_
  have h1 : (s.countRate f).1.onwards s₀ := by simp [*]
  extract_lets r s1
  change s1.onwards s₀ at h1
  clear_value s1
  iterate 3
    split
    · simp (maxDischargeDepth := 12) [h1]
  split
  · simp [h1]
  repeat' split
  · simp [h1]
  · simp [h1]
  · exact ho _ h1

@[simp] theorem State.readRun_onwards {s₀ : State} (s : State) (f : QlpFrame) (hs : s.onwards s₀) :
    (State.readRun s f).onwards s₀ := by
  unfold State.readRun
  (try simp (maxDischargeDepth := 12) +contextual [*])
  all_goals (repeat' split) <;> (try simp (maxDischargeDepth := 12) +contextual [*])

theorem execQlpRead_onwards {s₀ : State} (f : QlpFrame) (s : State) (hs : s.onwards s₀) :
    nextSat (execQlpRead f s) fun t => t.onwards s₀ := by
  unfold execQlpRead
  (try simp (maxDischargeDepth := 12) +contextual [*])

@[simp] theorem State.tagCheck_onwards {s₀ : State} (s : State) (f : QlpFrame) (data : List Byte) (short : Nat) (ok : Session → Bool) (hs : s.onwards s₀) :
    ((State.tagCheck s f data short ok)).1.onwards s₀ := by
  unfold State.tagCheck
  (try simp (maxDischargeDepth := 12) +contextual [*])
  all_goals (repeat' split) <;> (try simp (maxDischargeDepth := 12) +contextual [*])

@[simp] theorem State.pwmWrite_onwards {s₀ : State} (s : State) (i : Nat) (n : Nat) (v : Nat) (hs : s.onwards s₀) :
    ((State.pwmWrite s i n v)).1.onwards s₀ := by
  unfold State.pwmWrite
  (try simp (maxDischargeDepth := 12) +contextual [*])
  all_goals (repeat' split) <;> (try simp (maxDischargeDepth := 12) +contextual [*])

@[simp] theorem State.command_onwards {s₀ : State} (s : State) (req : Req) (i k : Nat) (bs : List Byte) (hs : s.onwards s₀) :
    (s.command req i k bs).1.onwards s₀ := by
  unfold State.command
  extract_lets v
  repeat' with_reducible refine fst_ite_onwards _ _ _ ?_ ?_
  all_goals simp only [hs, refuse_onwards,
    State.closeCommand_onwards, State.openCommand_onwards, State.tripReset_onwards,
    State.weldClear_onwards, State.openTestRequest_onwards, State.lsCommand_onwards,
    State.pwmWrite_onwards, State.lsFaultClear_onwards, State.mdCommand_onwards,
    State.mdFaultClear_onwards, State.brakeClear_onwards, State.captureArm_onwards,
    State.captureForce_onwards, State.configSave_onwards, State.configDiscard_onwards,
    State.configDefaults_onwards, State.imageImport_onwards, State.manifestWrite_onwards,
    State.adoptUids_onwards, State.openWireRequest_onwards, State.fabricTest_onwards,
    State.tableWrite_onwards, State.stringShot_onwards, State.routeWrite_onwards,
    State.acknowledge_onwards, State.handOver_onwards, State.take_onwards, State.logClear_onwards,
    State.lifeCommand_onwards, State.siteKeyWrite_onwards, State.moduleKeyWrite_onwards,
    State.tamperAck_onwards, State.resetCommand_onwards, State.moor_onwards, State.fwBegin_onwards,
    State.fwVerify_onwards, State.fwActivate_onwards, State.fwAbort_onwards, State.fwChunk_onwards,
    State.selfTest_onwards]

@[simp] theorem State.commands_onwards {s₀ : State} (req : Req) (i : Nat) (l : List (Nat × List Byte)) (s : State) (hs :
    s.onwards s₀) :
    (State.commands req i l s).1.onwards s₀ := by
  induction l generalizing s with
  | nil => exact hs
  | cons e l ih =>
    obtain ⟨k, bs⟩ := e
    unfold State.commands
    simp only
    split
    · exact hs
    · split
      · simp (maxDischargeDepth := 12) [*]
      · exact ih _ (by simp (maxDischargeDepth := 12) [*])

@[simp] theorem State.storeElems_onwards {s₀ : State} (s : State) (o : Obj) (auth : Bool) (lenBad : Bool) (l : List (Nat × List Int)) (hs : s.onwards s₀) :
    ((State.storeElems s o auth lenBad l)).1.onwards s₀ := by
  unfold State.storeElems
  (try simp (maxDischargeDepth := 12) +contextual [*])
  all_goals (repeat' split) <;> (try simp (maxDischargeDepth := 12) +contextual [*])

@[simp] theorem allOrNone_onwards {s₀ : State} (n : Nat) (s : State) (r : State × Nat × Nat) (hs :
    s.onwards s₀) (hr : r.1.onwards s₀) :
    (allOrNone n s r).1.onwards s₀ := by
  unfold allOrNone
  split
  · exact hs
  · exact hr

@[simp] theorem State.writeData_onwards {s₀ : State} (s : State) (req : Req) (i : Nat) (sub : Nat) (count : Nat) (data : List Byte) (hs : s.onwards s₀) :
    ((State.writeData s req i sub count data)).1.onwards s₀ := by
  unfold State.writeData
  (try simp (maxDischargeDepth := 12) +contextual [*])
  all_goals (repeat' split) <;> (try simp (maxDischargeDepth := 12) +contextual [*])

@[simp] theorem State.afterWrite_onwards {s₀ : State} (s : State) (i : Nat) (v : Nat) (hs : s.onwards s₀) :
    (State.afterWrite s i v).onwards s₀ := by
  unfold State.afterWrite
  (try simp (maxDischargeDepth := 12) +contextual [*])

@[simp] theorem State.writeRun_onwards {s₀ : State} (s : State) (f : QlpFrame) (data : List Byte) (ok : Session → Bool) (hs : s.onwards s₀) :
    (State.writeRun s f data ok).onwards s₀ := by
  unfold State.writeRun
  (try simp (maxDischargeDepth := 12) +contextual [*])

@[simp] theorem State.writeStart_onwards {s₀ : State} (s : State) (f : QlpFrame) (hs : s.onwards s₀) :
    (State.writeStart s f).onwards s₀ := by
  unfold State.writeStart
  (try simp (maxDischargeDepth := 12) +contextual [*])

theorem execQlpWrite_onwards {s₀ : State} (f : QlpFrame) (s : State) (hs : s.onwards s₀) :
    nextSat (execQlpWrite f s) fun t => t.onwards s₀ := by
  unfold execQlpWrite
  (try simp (maxDischargeDepth := 12) +contextual [*])

@[simp] theorem State.openRun_onwards {s₀ : State} (s : State) (f : QlpFrame) (hs : s.onwards s₀) :
    (State.openRun s f).onwards s₀ := by
  unfold State.openRun
  (try simp (maxDischargeDepth := 12) +contextual [*])

theorem execSessionOpen_onwards {s₀ : State} (f : QlpFrame) (s : State) (hs : s.onwards s₀) :
    nextSat (execSessionOpen f s) fun t => t.onwards s₀ := by
  unfold execSessionOpen
  (try simp (maxDischargeDepth := 12) +contextual [*])

@[simp] theorem State.authRun_onwards {s₀ : State} (s : State) (f : QlpFrame) (hs : s.onwards s₀) :
    (State.authRun s f).onwards s₀ := by
  unfold State.authRun
  (try simp (maxDischargeDepth := 12) +contextual [*])
  all_goals (repeat' split) <;> (try simp (maxDischargeDepth := 12) +contextual [*])

theorem execSessionAuth_onwards {s₀ : State} (f : QlpFrame) (s : State) (hs : s.onwards s₀) :
    nextSat (execSessionAuth f s) fun t => t.onwards s₀ := by
  unfold execSessionAuth
  (try simp (maxDischargeDepth := 12) +contextual [*])

@[simp] theorem State.taggedRun_onwards {s₀ : State} (s : State) (f : QlpFrame) (n : Nat) (op : State → State) (hs : s.onwards s₀)
    (ho : ∀ s : State, s.onwards s₀ → (op s).onwards s₀) : (s.taggedRun f n op).onwards s₀ := by
  unfold State.taggedRun
  split
  · simp (maxDischargeDepth := 12) [*]
  · simp only
    repeat' split
    · simp (maxDischargeDepth := 12) [*]
    · simp (maxDischargeDepth := 12) [*]
    · exact ho _ (by simp (maxDischargeDepth := 12) [*])

theorem execSessionClose_onwards {s₀ : State} (f : QlpFrame) (s : State) (hs : s.onwards s₀) :
    nextSat (execSessionClose f s) fun t => t.onwards s₀ := by
  unfold execSessionClose
  (try simp (maxDischargeDepth := 12) +contextual [*])

@[simp] theorem State.timeSetRun_onwards {s₀ : State} (s : State) (f : QlpFrame) (ageUs : Nat) (hs : s.onwards s₀) :
    (State.timeSetRun s f ageUs).onwards s₀ := by
  unfold State.timeSetRun
  (try simp (maxDischargeDepth := 12) +contextual [*])

theorem execTimeSet_onwards {s₀ : State} (f : QlpFrame) (ageUs : Nat) (s : State) (hs : s.onwards s₀) :
    nextSat (execTimeSet f ageUs s) fun t => t.onwards s₀ := by
  unfold execTimeSet
  (try simp (maxDischargeDepth := 12) +contextual [*])

@[simp] theorem State.abortTo_onwards {s₀ : State} (s : State) (f : QlpFrame) (status : Nat) (hs : s.onwards s₀) :
    (State.abortTo s f status).onwards s₀ := by
  unfold State.abortTo
  (try simp (maxDischargeDepth := 12) +contextual [*])

@[simp] theorem State.blockFrame_onwards {s₀ : State} (s : State) (f : QlpFrame) (kind : Nat) (op : State → State) (hs :
    s.onwards s₀)
    (ho : ∀ s : State, s.onwards s₀ → (op s).onwards s₀) : nextSat (s.blockFrame f kind op) fun t => t.onwards s₀ := by
  unfold State.blockFrame
  split
  · exact next_onwards _ hs
  refine State.receive_onwards _ _ _ _ hs fun s hs => ?_
  split
  · simp (maxDischargeDepth := 12) [*]
  · exact ho _ hs

@[simp] theorem State.strayed_onwards {s₀ : State} (s : State) (f : QlpFrame) (hs : s.onwards s₀) :
    (State.strayed s f).onwards s₀ := by
  unfold State.strayed
  (try simp (maxDischargeDepth := 12) +contextual [*])

@[simp] theorem State.ackSegments_onwards {s₀ : State} (s : State) (t : Transfer) (hs : s.onwards s₀) :
    (State.ackSegments s t).onwards s₀ := by
  unfold State.ackSegments
  (try simp (maxDischargeDepth := 12) +contextual [*])

@[simp] theorem State.segment_onwards {s₀ : State} (s : State) (f : QlpFrame) (hs : s.onwards s₀) :
    (State.segment s f).onwards s₀ := by
  unfold State.segment
  (try simp (maxDischargeDepth := 12) +contextual [*])
  all_goals (repeat' split) <;> (try simp (maxDischargeDepth := 12) +contextual [*])

theorem execBlockSegment_onwards {s₀ : State} (f : QlpFrame) (s : State) (hs : s.onwards s₀) :
    nextSat (execBlockSegment f s) fun t => t.onwards s₀ := by
  unfold execBlockSegment
  (try simp (maxDischargeDepth := 12) +contextual [*])

@[simp] theorem State.blockAck_onwards {s₀ : State} (s : State) (f : QlpFrame) (hs : s.onwards s₀) :
    (State.blockAck s f).onwards s₀ := by
  unfold State.blockAck
  (try simp (maxDischargeDepth := 12) +contextual [*])
  all_goals (repeat' split) <;> (try simp (maxDischargeDepth := 12) +contextual [*])

theorem execBlockAck_onwards {s₀ : State} (f : QlpFrame) (s : State) (hs : s.onwards s₀) :
    nextSat (execBlockAck f s) fun t => t.onwards s₀ := by
  unfold execBlockAck
  (try simp (maxDischargeDepth := 12) +contextual [*])

theorem execBlockAbort_onwards {s₀ : State} (f : QlpFrame) (s : State) (hs : s.onwards s₀) :
    nextSat (execBlockAbort f s) fun t => t.onwards s₀ := by
  unfold execBlockAbort
  refine State.blockFrame_onwards _ _ _ _ hs fun s hs => ?_
  split <;> simp [hs]

@[simp] theorem State.transferLate_onwards {s₀ : State} (s : State) (t : Transfer) (hs : s.onwards s₀) :
    (State.transferLate s t).onwards s₀ := by
  unfold State.transferLate
  (try simp (maxDischargeDepth := 12) +contextual [*])

theorem execSegmentTimeout_onwards {s₀ : State} (link : Fin 3) (src : Nat) (s : State) (hs : s.onwards s₀) :
    nextSat (execSegmentTimeout link src s) fun t => t.onwards s₀ := by
  unfold execSegmentTimeout
  all_goals (repeat' split) <;> (try simp (maxDischargeDepth := 12) +contextual [*])

@[simp] theorem State.refill_onwards {s₀ : State} (s : State) (link : Nat) (hs : s.onwards s₀) :
    (State.refill s link).onwards s₀ := by
  unfold State.refill
  (try simp (maxDischargeDepth := 12) +contextual [*])

@[simp] theorem State.txDone_onwards {s₀ : State} (s : State) (ch : Nat) (won : Bool) (sofDelay : Nat) (tdcNs : Nat) (hs : s.onwards s₀) :
    (State.txDone s ch won sofDelay tdcNs).onwards s₀ := by
  unfold State.txDone
  (try simp (maxDischargeDepth := 12) +contextual [*])

theorem execCanTxDone_onwards {s₀ : State} (ch : Fin 2) (won : Bool) (sofDelay : Nat) (tdcNs : Nat) (s : State) (hs : s.onwards s₀) :
    nextSat (execCanTxDone ch won sofDelay tdcNs s) fun t => t.onwards s₀ := by
  unfold execCanTxDone
  (try simp (maxDischargeDepth := 12) +contextual [*])

theorem execResponseQueueTimeout_onwards {s₀ : State} (link : Fin 3) (s : State) (hs : s.onwards s₀) :
    nextSat (execResponseQueueTimeout link s) fun t => t.onwards s₀ := by
  unfold execResponseQueueTimeout
  (try simp (maxDischargeDepth := 12) +contextual [*])

theorem execCanBusOff_onwards {s₀ : State} (ch : Fin 2) (txErr : Nat) (rxErr : Nat) (busOff : Bool) (s : State) (hs : s.onwards s₀) :
    nextSat (execCanBusOff ch txErr rxErr busOff s) fun t => t.onwards s₀ := by
  unfold execCanBusOff
  (try simp (maxDischargeDepth := 12) +contextual [*])

theorem execCanBusOffRecovery_onwards {s₀ : State} (ch : Fin 2) (s : State) (hs : s.onwards s₀) :
    nextSat (execCanBusOffRecovery ch s) fun t => t.onwards s₀ := by
  unfold execCanBusOffRecovery
  (try simp (maxDischargeDepth := 12) +contextual [*])

theorem execCanTimingApply_onwards {s₀ : State} (ch : Fin 2) (s : State) (hs : s.onwards s₀) :
    nextSat (execCanTimingApply ch s) fun t => t.onwards s₀ := by
  unfold execCanTimingApply
  (try simp (maxDischargeDepth := 12) +contextual [*])

@[simp] theorem State.lighthouse_onwards {s₀ : State} (s : State) (ch : Nat) (hs : s.onwards s₀) :
    (State.lighthouse s ch).onwards s₀ := by
  unfold State.lighthouse
  (try simp (maxDischargeDepth := 12) +contextual [*])

theorem execLighthouseDue_onwards {s₀ : State} (ch : Fin 2) (s : State) (hs : s.onwards s₀) :
    nextSat (execLighthouseDue ch s) fun t => t.onwards s₀ := by
  unfold execLighthouseDue
  (try simp (maxDischargeDepth := 12) +contextual [*])

@[simp] theorem State.sendFragments_onwards {s₀ : State} (link : Nat) (l : List Out) (s : State) (hs : s.onwards s₀) :
    (State.sendFragments link l s).onwards s₀ := by
  induction l generalizing s with
  | nil => exact hs
  | cons o l ih =>
    unfold State.sendFragments
    simp only
    split
    · exact ih _ (by simp (maxDischargeDepth := 12) [*])
    · simp (maxDischargeDepth := 12) [*]

@[simp] theorem State.streamSend_onwards {s₀ : State} (s : State) (k : Nat) (hs : s.onwards s₀) :
    (s.streamSend k).onwards s₀ := by
  unfold State.streamSend
  extract_lets link dest body sseq q s1 parts outs
  have h1 : s1.onwards s₀ := by simp [s1, *]
  clear_value s1
  split <;> simp (maxDischargeDepth := 12) [*]

theorem execStreamSnapshotDue_onwards {s₀ : State} (stream : Fin 8) (s : State) (hs : s.onwards s₀) :
    nextSat (execStreamSnapshotDue stream s) fun t => t.onwards s₀ := by
  unfold execStreamSnapshotDue
  (try simp (maxDischargeDepth := 12) +contextual [*])

@[simp] theorem State.ethGone_onwards {s₀ : State} (s : State) (o : Out) (hs : s.onwards s₀) :
    (State.ethGone s o).onwards s₀ := by
  unfold State.ethGone
  (try simp (maxDischargeDepth := 12) +contextual [*])

@[simp] theorem State.ethSend_onwards {s₀ : State} (s : State) (hs : s.onwards s₀) : (State.ethSend s).onwards s₀ := by
  unfold State.ethSend
  (try simp (maxDischargeDepth := 12) +contextual [*])
  all_goals (repeat' split) <;> (try simp (maxDischargeDepth := 12) +contextual [*])

@[simp] theorem State.stackFrame_onwards {s₀ : State} (s : State) (cls : Nat) (addr : Nat) (payload : List Byte) (hs : s.onwards s₀) :
    (State.stackFrame s cls addr payload).onwards s₀ := by
  unfold State.stackFrame
  (try simp (maxDischargeDepth := 12) +contextual [*])

theorem execEthLinkUp_onwards {s₀ : State} (fast : Bool) (full : Bool) (s : State) (hs : s.onwards s₀) :
    nextSat (execEthLinkUp fast full s) fun t => t.onwards s₀ := by
  unfold execEthLinkUp
  (try simp (maxDischargeDepth := 12) +contextual [*])

theorem execArpRequest_onwards {s₀ : State} (targetIp : Nat) (sender : Nat) (s : State) (hs : s.onwards s₀) :
    nextSat (execArpRequest targetIp sender s) fun t => t.onwards s₀ := by
  unfold execArpRequest
  (try simp (maxDischargeDepth := 12) +contextual [*])

theorem execIcmpEchoRequest_onwards {s₀ : State} (len : Nat) (fragment : Bool) (sender : Nat) (s : State) (hs : s.onwards s₀) :
    nextSat (execIcmpEchoRequest len fragment sender s) fun t => t.onwards s₀ := by
  unfold execIcmpEchoRequest
  (try simp (maxDischargeDepth := 12) +contextual [*])

theorem execEthLinkDown_onwards {s₀ : State} (s : State) (hs : s.onwards s₀) :
    nextSat (execEthLinkDown s) fun t => t.onwards s₀ := by
  unfold execEthLinkDown
  (try simp (maxDischargeDepth := 12) +contextual [*])

@[simp] theorem State.dupTransmit_onwards {s₀ : State} (s : State) (hs : s.onwards s₀) : (State.dupTransmit s).onwards s₀ := by
  unfold State.dupTransmit
  (try simp (maxDischargeDepth := 12) +contextual [*])

@[simp] theorem State.stageTime_onwards {s₀ : State} (s : State) (hs : s.onwards s₀) : (State.stageTime s).onwards s₀ := by
  unfold State.stageTime
  (try simp (maxDischargeDepth := 12) +contextual [*])

@[simp] theorem State.fabricRuns_onwards {s₀ : State} (s : State) (hs : s.onwards s₀) : (State.fabricRuns s).onwards s₀ := by
  unfold State.fabricRuns
  (try simp (maxDischargeDepth := 12) +contextual [*])

@[simp] theorem State.tamperCommit_onwards {s₀ : State} (s : State) (hs : s.onwards s₀) : (State.tamperCommit s).onwards s₀ := by
  unfold State.tamperCommit
  (try simp (maxDischargeDepth := 12) +contextual [*])

@[simp] theorem State.tick_onwards {s₀ : State} (s : State) (hs : s.onwards s₀) : (State.tick s).onwards s₀ := by
  unfold State.tick
  (try simp (maxDischargeDepth := 12) +contextual [*])

end Sys2Proof.Machine
end

