-- ==== Sys2Proof/Laws/Requests.lean ====
section
/-! SUPPORT. Sys2Proof/Laws/Requests.lean: a write request with a row of its own that passes the checks of every request
answers what its operation answers; refreshing the session (R298) leaves everything but the session as it is. -/

namespace Sys2Proof.Machine

/-- Everything that an accepted write does: its operation on the state whose session has been refreshed, then the response. -/
theorem State.request_next (s t : State) (req : Req) (i k st : Nat) (op : State → State × Nat) (h : s.takesWrite req i k)
    (ho : op (s.tagSeen req) = (t, st)) : s.request req i k op = .next (t.answerW req i k st) := by
  obtain ⟨h1, h2, h3⟩ := h
  simp [State.request, h1, h2, h3, ho]

/-- R298: a tagged request changes nothing but the time in the open session. -/
theorem State.tagSeen_eq (s : State) (req : Req) : s.tagSeen req = { s with qlp := { s.qlp with session := (s.tagSeen req).qlp.session } } := by
  unfold State.tagSeen
  split
  · split <;> rfl
  · rfl

@[simp] theorem State.tagSeen_pending (s : State) (req : Req) : (s.tagSeen req).pending = s.pending := by rw [State.tagSeen_eq]
@[simp] theorem State.tagSeen_variant (s : State) (req : Req) : (s.tagSeen req).variant = s.variant := by rw [State.tagSeen_eq]
@[simp] theorem State.tagSeen_objs (s : State) (req : Req) : (s.tagSeen req).objs = s.objs := by rw [State.tagSeen_eq]
@[simp] theorem State.tagSeen_otp (s : State) (req : Req) : (s.tagSeen req).otp = s.otp := by rw [State.tagSeen_eq]
@[simp] theorem State.tagSeen_clk (s : State) (req : Req) : (s.tagSeen req).clk = s.clk := by rw [State.tagSeen_eq]
@[simp] theorem State.tagSeen_pwr (s : State) (req : Req) : (s.tagSeen req).pwr = s.pwr := by rw [State.tagSeen_eq]
@[simp] theorem State.tagSeen_wd (s : State) (req : Req) : (s.tagSeen req).wd = s.wd := by rw [State.tagSeen_eq]
@[simp] theorem State.tagSeen_linkP (s : State) (req : Req) : (s.tagSeen req).linkP = s.linkP := by rw [State.tagSeen_eq]
@[simp] theorem State.tagSeen_linkC (s : State) (req : Req) : (s.tagSeen req).linkC = s.linkC := by rw [State.tagSeen_eq]
@[simp] theorem State.tagSeen_refused (s : State) (req : Req) : (s.tagSeen req).refused = s.refused := by rw [State.tagSeen_eq]
@[simp] theorem State.tagSeen_drivers (s : State) (req : Req) : (s.tagSeen req).drivers = s.drivers := by rw [State.tagSeen_eq]
@[simp] theorem State.tagSeen_ls (s : State) (req : Req) : (s.tagSeen req).ls = s.ls := by rw [State.tagSeen_eq]
@[simp] theorem State.tagSeen_motors (s : State) (req : Req) : (s.tagSeen req).motors = s.motors := by rw [State.tagSeen_eq]
@[simp] theorem State.tagSeen_vmot (s : State) (req : Req) : (s.tagSeen req).vmot = s.vmot := by rw [State.tagSeen_eq]
@[simp] theorem State.tagSeen_gov (s : State) (req : Req) : (s.tagSeen req).gov = s.gov := by rw [State.tagSeen_eq]
@[simp] theorem State.tagSeen_pairs (s : State) (req : Req) : (s.tagSeen req).pairs = s.pairs := by rw [State.tagSeen_eq]
@[simp] theorem State.tagSeen_strs (s : State) (req : Req) : (s.tagSeen req).strs = s.strs := by rw [State.tagSeen_eq]
@[simp] theorem State.tagSeen_rings (s : State) (req : Req) : (s.tagSeen req).rings = s.rings := by rw [State.tagSeen_eq]
@[simp] theorem State.tagSeen_monitors (s : State) (req : Req) : (s.tagSeen req).monitors = s.monitors := by rw [State.tagSeen_eq]
@[simp] theorem State.tagSeen_cells (s : State) (req : Req) : (s.tagSeen req).cells = s.cells := by rw [State.tagSeen_eq]
@[simp] theorem State.tagSeen_temps (s : State) (req : Req) : (s.tagSeen req).temps = s.temps := by rw [State.tagSeen_eq]
@[simp] theorem State.tagSeen_chans (s : State) (req : Req) : (s.tagSeen req).chans = s.chans := by rw [State.tagSeen_eq]
@[simp] theorem State.tagSeen_capture (s : State) (req : Req) : (s.tagSeen req).capture = s.capture := by rw [State.tagSeen_eq]
@[simp] theorem State.tagSeen_ev (s : State) (req : Req) : (s.tagSeen req).ev = s.ev := by rw [State.tagSeen_eq]
@[simp] theorem State.tagSeen_fab (s : State) (req : Req) : (s.tagSeen req).fab = s.fab := by rw [State.tagSeen_eq]
@[simp] theorem State.tagSeen_shots (s : State) (req : Req) : (s.tagSeen req).shots = s.shots := by rw [State.tagSeen_eq]
@[simp] theorem State.tagSeen_otest (s : State) (req : Req) : (s.tagSeen req).otest = s.otest := by rw [State.tagSeen_eq]
@[simp] theorem State.tagSeen_log (s : State) (req : Req) : (s.tagSeen req).log = s.log := by rw [State.tagSeen_eq]
@[simp] theorem State.tagSeen_flash (s : State) (req : Req) : (s.tagSeen req).flash = s.flash := by rw [State.tagSeen_eq]
@[simp] theorem State.tagSeen_dup (s : State) (req : Req) : (s.tagSeen req).dup = s.dup := by rw [State.tagSeen_eq]
@[simp] theorem State.tagSeen_th (s : State) (req : Req) : (s.tagSeen req).th = s.th := by rw [State.tagSeen_eq]
@[simp] theorem State.tagSeen_fw (s : State) (req : Req) : (s.tagSeen req).fw = s.fw := by rw [State.tagSeen_eq]

@[simp] theorem State.tagSeen_running (s : State) (req : Req) : (s.tagSeen req).running = s.running := by
  rw [State.tagSeen_eq]; rfl
@[simp] theorem State.tagSeen_mono (s : State) (req : Req) : (s.tagSeen req).mono = s.mono := by
  rw [State.tagSeen_eq]; rfl
@[simp] theorem State.tagSeen_now (s : State) (req : Req) : (s.tagSeen req).now = s.now := by
  rw [State.tagSeen_eq]; rfl
@[simp] theorem State.tagSeen_lifecycle (s : State) (req : Req) : (s.tagSeen req).lifecycle = s.lifecycle := by
  rw [State.tagSeen_eq]; rfl
@[simp] theorem State.tagSeen_allOpen (s : State) (req : Req) : (s.tagSeen req).allOpen = s.allOpen := by
  rw [State.tagSeen_eq]; rfl
@[simp] theorem State.tagSeen_flashOk (s : State) (req : Req) : (s.tagSeen req).flashOk = s.flashOk := by
  rw [State.tagSeen_eq]; rfl
@[simp] theorem State.tagSeen_ready (s : State) (req : Req) : (s.tagSeen req).ready = s.ready := by
  rw [State.tagSeen_eq]; rfl
@[simp] theorem State.tagSeen_trusts (s : State) (req : Req) : (s.tagSeen req).trusts = s.trusts := by
  rw [State.tagSeen_eq]; rfl
@[simp] theorem State.tagSeen_berthOk (s : State) (req : Req) : (s.tagSeen req).berthOk = s.berthOk := by
  rw [State.tagSeen_eq]; rfl
@[simp] theorem State.tagSeen_nodeId (s : State) (req : Req) : (s.tagSeen req).nodeId = s.nodeId := by
  rw [State.tagSeen_eq]; rfl
@[simp] theorem State.tagSeen_anyEnergised (s : State) (req : Req) :
    (s.tagSeen req).anyEnergised = s.anyEnergised := by
  rw [State.tagSeen_eq]; rfl
@[simp] theorem State.tagSeen_configLife (s : State) (req : Req) : (s.tagSeen req).configLife = s.configLife := by
  rw [State.tagSeen_eq]; rfl
@[simp] theorem State.tagSeen_newestImage (s : State) (req : Req) :
    (s.tagSeen req).newestImage = s.newestImage := by
  rw [State.tagSeen_eq]; rfl
@[simp] theorem State.tagSeen_manifestGate (s : State) (req : Req) :
    (s.tagSeen req).manifestGate = s.manifestGate := by
  rw [State.tagSeen_eq]; rfl
@[simp] theorem State.tagSeen_fwGate (s : State) (req : Req) : (s.tagSeen req).fwGate = s.fwGate := by
  rw [State.tagSeen_eq]; rfl
@[simp] theorem State.tagSeen_otherSlot (s : State) (req : Req) : (s.tagSeen req).otherSlot = s.otherSlot := by
  rw [State.tagSeen_eq]; rfl
@[simp] theorem State.tagSeen_handoverInhibit (s : State) (req : Req) :
    (s.tagSeen req).handoverInhibit = s.handoverInhibit := by
  rw [State.tagSeen_eq]; rfl
@[simp] theorem State.tagSeen_berthState (s : State) (req : Req) : (s.tagSeen req).berthState = s.berthState := by
  rw [State.tagSeen_eq]; rfl
@[simp] theorem State.tagSeen_logClearCode (s : State) (req : Req) :
    (s.tagSeen req).logClearCode = s.logClearCode := by
  rw [State.tagSeen_eq]; rfl
@[simp] theorem State.tagSeen_lifeCycleBlock (s : State) (req : Req) :
    (s.tagSeen req).lifeCycleBlock = s.lifeCycleBlock := by
  rw [State.tagSeen_eq]; rfl
@[simp] theorem State.tagSeen_retireCode (s : State) (req : Req) : (s.tagSeen req).retireCode = s.retireCode := by
  rw [State.tagSeen_eq]; rfl
@[simp] theorem State.tagSeen_gn (s : State) (req : Req) (i k : Nat) : (s.tagSeen req).gn i k = s.gn i k := by
  rw [State.tagSeen_eq]; rfl
@[simp] theorem State.tagSeen_gi (s : State) (req : Req) (i k : Nat) : (s.tagSeen req).gi i k = s.gi i k := by
  rw [State.tagSeen_eq]; rfl
@[simp] theorem State.tagSeen_gb (s : State) (req : Req) (i k : Nat) : (s.tagSeen req).gb i k = s.gb i k := by
  rw [State.tagSeen_eq]; rfl
@[simp] theorem State.tagSeen_has (s : State) (req : Req) (n : Nat) : (s.tagSeen req).has n = s.has n := by
  rw [State.tagSeen_eq]; rfl
@[simp] theorem State.tagSeen_nMon (s : State) (req : Req) (n : Nat) : (s.tagSeen req).nMon n = s.nMon n := by
  rw [State.tagSeen_eq]; rfl
@[simp] theorem State.tagSeen_seqState (s : State) (req : Req) (n : Nat) :
    (s.tagSeen req).seqState n = s.seqState n := by
  rw [State.tagSeen_eq]; rfl
@[simp] theorem State.tagSeen_closeBlock (s : State) (req : Req) (n : Nat) :
    (s.tagSeen req).closeBlock n = s.closeBlock n := by
  rw [State.tagSeen_eq]; rfl
@[simp] theorem State.tagSeen_safeOff (s : State) (req : Req) (n : Nat) :
    (s.tagSeen req).safeOff n = s.safeOff n := by
  rw [State.tagSeen_eq]; rfl
@[simp] theorem State.tagSeen_conclusive (s : State) (req : Req) (n : Nat) :
    (s.tagSeen req).conclusive n = s.conclusive n := by
  rw [State.tagSeen_eq]; rfl
@[simp] theorem State.tagSeen_slot (s : State) (req : Req) (k : Nat) : (s.tagSeen req).slot k = s.slot k := by
  rw [State.tagSeen_eq]; rfl
@[simp] theorem State.tagSeen_shotGate (s : State) (req : Req) (k v : Nat) (bad : Bool) :
    (s.tagSeen req).shotGate k v bad = s.shotGate k v bad := by
  rw [State.tagSeen_eq]; rfl
@[simp] theorem State.tagSeen_uidsFound (s : State) (req : Req) (r : Nat) :
    (s.tagSeen req).uidsFound r = s.uidsFound r := by
  rw [State.tagSeen_eq]; rfl
@[simp] theorem State.tagSeen_tripCausePresent (s : State) (req : Req) (n : Nat) :
    (s.tagSeen req).tripCausePresent n = s.tripCausePresent n := by
  rw [State.tagSeen_eq]; rfl
@[simp] theorem State.tagSeen_route (s : State) (req : Req) (src : Nat) :
    (s.tagSeen req).route src = s.route src := by
  rw [State.tagSeen_eq]; rfl
@[simp] theorem State.tagSeen_periodOk (s : State) (req : Req) (v : Nat) :
    (s.tagSeen req).periodOk v = s.periodOk v := by
  rw [State.tagSeen_eq]; rfl
@[simp] theorem State.tagSeen_keyCheck (s : State) (req : Req) (auth : Bool) (len : Nat) (id : Option Nat) (b : List Byte) :
    (s.tagSeen req).keyCheck auth len id b = s.keyCheck auth len id b := by
  rw [State.tagSeen_eq]; rfl
@[simp] theorem State.tagSeen_unwrap (s : State) (req : Req) (a b : List Byte) :
    (s.tagSeen req).unwrap a b = s.unwrap a b := by
  rw [State.tagSeen_eq]; rfl
@[simp] theorem State.tagSeen_past (s : State) (req : Req) (t d : Nat) :
    (s.tagSeen req).past t d = s.past t d := by
  rw [State.tagSeen_eq]; rfl
@[simp] theorem State.tagSeen_tripField (s : State) (req : Req) (src : Nat) :
    (s.tagSeen req).tripField src = s.tripField src := by
  rw [State.tagSeen_eq]; rfl
@[simp] theorem State.tagSeen_testRuns (s : State) (req : Req) (n : Nat) :
    (s.tagSeen req).testRuns n = s.testRuns n := by
  rw [State.tagSeen_eq]; rfl
@[simp] theorem State.tagSeen_selfTestRuns (s : State) (req : Req) :
    (s.tagSeen req).selfTestRuns = s.selfTestRuns := by
  rw [State.tagSeen_eq]; rfl
@[simp] theorem State.tagSeen_quiet (s : State) (req : Req) : (s.tagSeen req).quiet = s.quiet := by
  rw [State.tagSeen_eq]; rfl
@[simp] theorem State.tagSeen_shotRuns (s : State) (req : Req) (t : Nat) :
    (s.tagSeen req).shotRuns t = s.shotRuns t := by
  rw [State.tagSeen_eq]; rfl

end Sys2Proof.Machine
end

