-- ==== Sys2Proof/Laws/State.lean ====
section
/-! SUPPORT. Sys2Proof/Laws/State.lean: what each update of the state leaves as it is, one lemma per field, and what is read
back after it. -/

namespace Sys2Proof.Machine

/-! #### `State.drvUpd` -/

@[simp] theorem State.drvUpd_pending (s : State) (k : Nat) (f : Driver → Driver) : (s.drvUpd k f).pending = s.pending := rfl
@[simp] theorem State.drvUpd_variant (s : State) (k : Nat) (f : Driver → Driver) : (s.drvUpd k f).variant = s.variant := rfl
@[simp] theorem State.drvUpd_objs (s : State) (k : Nat) (f : Driver → Driver) : (s.drvUpd k f).objs = s.objs := rfl
@[simp] theorem State.drvUpd_otp (s : State) (k : Nat) (f : Driver → Driver) : (s.drvUpd k f).otp = s.otp := rfl
@[simp] theorem State.drvUpd_clk (s : State) (k : Nat) (f : Driver → Driver) : (s.drvUpd k f).clk = s.clk := rfl
@[simp] theorem State.drvUpd_pwr (s : State) (k : Nat) (f : Driver → Driver) : (s.drvUpd k f).pwr = s.pwr := rfl
@[simp] theorem State.drvUpd_wd (s : State) (k : Nat) (f : Driver → Driver) : (s.drvUpd k f).wd = s.wd := rfl
@[simp] theorem State.drvUpd_linkP (s : State) (k : Nat) (f : Driver → Driver) : (s.drvUpd k f).linkP = s.linkP := rfl
@[simp] theorem State.drvUpd_linkC (s : State) (k : Nat) (f : Driver → Driver) : (s.drvUpd k f).linkC = s.linkC := rfl
@[simp] theorem State.drvUpd_refused (s : State) (k : Nat) (f : Driver → Driver) : (s.drvUpd k f).refused = s.refused := rfl
@[simp] theorem State.drvUpd_ls (s : State) (k : Nat) (f : Driver → Driver) : (s.drvUpd k f).ls = s.ls := rfl
@[simp] theorem State.drvUpd_motors (s : State) (k : Nat) (f : Driver → Driver) : (s.drvUpd k f).motors = s.motors := rfl
@[simp] theorem State.drvUpd_vmot (s : State) (k : Nat) (f : Driver → Driver) : (s.drvUpd k f).vmot = s.vmot := rfl
@[simp] theorem State.drvUpd_gov (s : State) (k : Nat) (f : Driver → Driver) : (s.drvUpd k f).gov = s.gov := rfl
@[simp] theorem State.drvUpd_pairs (s : State) (k : Nat) (f : Driver → Driver) : (s.drvUpd k f).pairs = s.pairs := rfl
@[simp] theorem State.drvUpd_strs (s : State) (k : Nat) (f : Driver → Driver) : (s.drvUpd k f).strs = s.strs := rfl
@[simp] theorem State.drvUpd_rings (s : State) (k : Nat) (f : Driver → Driver) : (s.drvUpd k f).rings = s.rings := rfl
@[simp] theorem State.drvUpd_monitors (s : State) (k : Nat) (f : Driver → Driver) : (s.drvUpd k f).monitors = s.monitors := rfl
@[simp] theorem State.drvUpd_cells (s : State) (k : Nat) (f : Driver → Driver) : (s.drvUpd k f).cells = s.cells := rfl
@[simp] theorem State.drvUpd_temps (s : State) (k : Nat) (f : Driver → Driver) : (s.drvUpd k f).temps = s.temps := rfl
@[simp] theorem State.drvUpd_chans (s : State) (k : Nat) (f : Driver → Driver) : (s.drvUpd k f).chans = s.chans := rfl
@[simp] theorem State.drvUpd_capture (s : State) (k : Nat) (f : Driver → Driver) : (s.drvUpd k f).capture = s.capture := rfl
@[simp] theorem State.drvUpd_ev (s : State) (k : Nat) (f : Driver → Driver) : (s.drvUpd k f).ev = s.ev := rfl
@[simp] theorem State.drvUpd_fab (s : State) (k : Nat) (f : Driver → Driver) : (s.drvUpd k f).fab = s.fab := rfl
@[simp] theorem State.drvUpd_shots (s : State) (k : Nat) (f : Driver → Driver) : (s.drvUpd k f).shots = s.shots := rfl
@[simp] theorem State.drvUpd_otest (s : State) (k : Nat) (f : Driver → Driver) : (s.drvUpd k f).otest = s.otest := rfl
@[simp] theorem State.drvUpd_qlp (s : State) (k : Nat) (f : Driver → Driver) : (s.drvUpd k f).qlp = s.qlp := rfl
@[simp] theorem State.drvUpd_log (s : State) (k : Nat) (f : Driver → Driver) : (s.drvUpd k f).log = s.log := rfl
@[simp] theorem State.drvUpd_flash (s : State) (k : Nat) (f : Driver → Driver) : (s.drvUpd k f).flash = s.flash := rfl
@[simp] theorem State.drvUpd_dup (s : State) (k : Nat) (f : Driver → Driver) : (s.drvUpd k f).dup = s.dup := rfl
@[simp] theorem State.drvUpd_th (s : State) (k : Nat) (f : Driver → Driver) : (s.drvUpd k f).th = s.th := rfl
@[simp] theorem State.drvUpd_fw (s : State) (k : Nat) (f : Driver → Driver) : (s.drvUpd k f).fw = s.fw := rfl
@[simp] theorem State.drvUpd_el (s : State) (k : Nat) (f : Driver → Driver) (i j : Nat) : (s.drvUpd k f).el i j = s.el i j := rfl
@[simp] theorem State.drvUpd_gi (s : State) (k : Nat) (f : Driver → Driver) (i j : Nat) : (s.drvUpd k f).gi i j = s.gi i j := rfl
@[simp] theorem State.drvUpd_gn (s : State) (k : Nat) (f : Driver → Driver) (i j : Nat) : (s.drvUpd k f).gn i j = s.gn i j := rfl
theorem State.drvUpd_drv_same (s : State) (k : Nat) (f : Driver → Driver) (h : s.canonical) : (s.drvUpd k f).drv k = f (s.drv k) :=
  mget_mset_same (fun _ => ({} : Driver)) s.drivers k (f (s.drv k)) h.2.1
theorem State.drvUpd_drv_other (s : State) (k : Nat) (f : Driver → Driver) (j : Nat) (h : j ≠ k) : (s.drvUpd k f).drv j = s.drv j :=
  mget_mset_other _ _ _ _ _ _ h

/-! #### `State.lswUpd` -/

@[simp] theorem State.lswUpd_pending (s : State) (k : Nat) (f : LoadSw → LoadSw) : (s.lswUpd k f).pending = s.pending := rfl
@[simp] theorem State.lswUpd_variant (s : State) (k : Nat) (f : LoadSw → LoadSw) : (s.lswUpd k f).variant = s.variant := rfl
@[simp] theorem State.lswUpd_objs (s : State) (k : Nat) (f : LoadSw → LoadSw) : (s.lswUpd k f).objs = s.objs := rfl
@[simp] theorem State.lswUpd_otp (s : State) (k : Nat) (f : LoadSw → LoadSw) : (s.lswUpd k f).otp = s.otp := rfl
@[simp] theorem State.lswUpd_clk (s : State) (k : Nat) (f : LoadSw → LoadSw) : (s.lswUpd k f).clk = s.clk := rfl
@[simp] theorem State.lswUpd_pwr (s : State) (k : Nat) (f : LoadSw → LoadSw) : (s.lswUpd k f).pwr = s.pwr := rfl
@[simp] theorem State.lswUpd_wd (s : State) (k : Nat) (f : LoadSw → LoadSw) : (s.lswUpd k f).wd = s.wd := rfl
@[simp] theorem State.lswUpd_linkP (s : State) (k : Nat) (f : LoadSw → LoadSw) : (s.lswUpd k f).linkP = s.linkP := rfl
@[simp] theorem State.lswUpd_linkC (s : State) (k : Nat) (f : LoadSw → LoadSw) : (s.lswUpd k f).linkC = s.linkC := rfl
@[simp] theorem State.lswUpd_refused (s : State) (k : Nat) (f : LoadSw → LoadSw) : (s.lswUpd k f).refused = s.refused := rfl
@[simp] theorem State.lswUpd_drivers (s : State) (k : Nat) (f : LoadSw → LoadSw) : (s.lswUpd k f).drivers = s.drivers := rfl
@[simp] theorem State.lswUpd_motors (s : State) (k : Nat) (f : LoadSw → LoadSw) : (s.lswUpd k f).motors = s.motors := rfl
@[simp] theorem State.lswUpd_vmot (s : State) (k : Nat) (f : LoadSw → LoadSw) : (s.lswUpd k f).vmot = s.vmot := rfl
@[simp] theorem State.lswUpd_gov (s : State) (k : Nat) (f : LoadSw → LoadSw) : (s.lswUpd k f).gov = s.gov := rfl
@[simp] theorem State.lswUpd_pairs (s : State) (k : Nat) (f : LoadSw → LoadSw) : (s.lswUpd k f).pairs = s.pairs := rfl
@[simp] theorem State.lswUpd_strs (s : State) (k : Nat) (f : LoadSw → LoadSw) : (s.lswUpd k f).strs = s.strs := rfl
@[simp] theorem State.lswUpd_rings (s : State) (k : Nat) (f : LoadSw → LoadSw) : (s.lswUpd k f).rings = s.rings := rfl
@[simp] theorem State.lswUpd_monitors (s : State) (k : Nat) (f : LoadSw → LoadSw) : (s.lswUpd k f).monitors = s.monitors := rfl
@[simp] theorem State.lswUpd_cells (s : State) (k : Nat) (f : LoadSw → LoadSw) : (s.lswUpd k f).cells = s.cells := rfl
@[simp] theorem State.lswUpd_temps (s : State) (k : Nat) (f : LoadSw → LoadSw) : (s.lswUpd k f).temps = s.temps := rfl
@[simp] theorem State.lswUpd_chans (s : State) (k : Nat) (f : LoadSw → LoadSw) : (s.lswUpd k f).chans = s.chans := rfl
@[simp] theorem State.lswUpd_capture (s : State) (k : Nat) (f : LoadSw → LoadSw) : (s.lswUpd k f).capture = s.capture := rfl
@[simp] theorem State.lswUpd_ev (s : State) (k : Nat) (f : LoadSw → LoadSw) : (s.lswUpd k f).ev = s.ev := rfl
@[simp] theorem State.lswUpd_fab (s : State) (k : Nat) (f : LoadSw → LoadSw) : (s.lswUpd k f).fab = s.fab := rfl
@[simp] theorem State.lswUpd_shots (s : State) (k : Nat) (f : LoadSw → LoadSw) : (s.lswUpd k f).shots = s.shots := rfl
@[simp] theorem State.lswUpd_otest (s : State) (k : Nat) (f : LoadSw → LoadSw) : (s.lswUpd k f).otest = s.otest := rfl
@[simp] theorem State.lswUpd_qlp (s : State) (k : Nat) (f : LoadSw → LoadSw) : (s.lswUpd k f).qlp = s.qlp := rfl
@[simp] theorem State.lswUpd_log (s : State) (k : Nat) (f : LoadSw → LoadSw) : (s.lswUpd k f).log = s.log := rfl
@[simp] theorem State.lswUpd_flash (s : State) (k : Nat) (f : LoadSw → LoadSw) : (s.lswUpd k f).flash = s.flash := rfl
@[simp] theorem State.lswUpd_dup (s : State) (k : Nat) (f : LoadSw → LoadSw) : (s.lswUpd k f).dup = s.dup := rfl
@[simp] theorem State.lswUpd_th (s : State) (k : Nat) (f : LoadSw → LoadSw) : (s.lswUpd k f).th = s.th := rfl
@[simp] theorem State.lswUpd_fw (s : State) (k : Nat) (f : LoadSw → LoadSw) : (s.lswUpd k f).fw = s.fw := rfl
@[simp] theorem State.lswUpd_el (s : State) (k : Nat) (f : LoadSw → LoadSw) (i j : Nat) : (s.lswUpd k f).el i j = s.el i j := rfl
@[simp] theorem State.lswUpd_gi (s : State) (k : Nat) (f : LoadSw → LoadSw) (i j : Nat) : (s.lswUpd k f).gi i j = s.gi i j := rfl
@[simp] theorem State.lswUpd_gn (s : State) (k : Nat) (f : LoadSw → LoadSw) (i j : Nat) : (s.lswUpd k f).gn i j = s.gn i j := rfl
theorem State.lswUpd_lsw_same (s : State) (k : Nat) (f : LoadSw → LoadSw) (h : s.canonical) : (s.lswUpd k f).lsw k = f (s.lsw k) :=
  mget_mset_same (fun _ => ({} : LoadSw)) s.ls k (f (s.lsw k)) h.2.2.1
theorem State.lswUpd_lsw_other (s : State) (k : Nat) (f : LoadSw → LoadSw) (j : Nat) (h : j ≠ k) : (s.lswUpd k f).lsw j = s.lsw j :=
  mget_mset_other _ _ _ _ _ _ h

/-! #### `State.motUpd` -/

@[simp] theorem State.motUpd_pending (s : State) (k : Nat) (f : Motor → Motor) : (s.motUpd k f).pending = s.pending := rfl
@[simp] theorem State.motUpd_variant (s : State) (k : Nat) (f : Motor → Motor) : (s.motUpd k f).variant = s.variant := rfl
@[simp] theorem State.motUpd_objs (s : State) (k : Nat) (f : Motor → Motor) : (s.motUpd k f).objs = s.objs := rfl
@[simp] theorem State.motUpd_otp (s : State) (k : Nat) (f : Motor → Motor) : (s.motUpd k f).otp = s.otp := rfl
@[simp] theorem State.motUpd_clk (s : State) (k : Nat) (f : Motor → Motor) : (s.motUpd k f).clk = s.clk := rfl
@[simp] theorem State.motUpd_pwr (s : State) (k : Nat) (f : Motor → Motor) : (s.motUpd k f).pwr = s.pwr := rfl
@[simp] theorem State.motUpd_wd (s : State) (k : Nat) (f : Motor → Motor) : (s.motUpd k f).wd = s.wd := rfl
@[simp] theorem State.motUpd_linkP (s : State) (k : Nat) (f : Motor → Motor) : (s.motUpd k f).linkP = s.linkP := rfl
@[simp] theorem State.motUpd_linkC (s : State) (k : Nat) (f : Motor → Motor) : (s.motUpd k f).linkC = s.linkC := rfl
@[simp] theorem State.motUpd_refused (s : State) (k : Nat) (f : Motor → Motor) : (s.motUpd k f).refused = s.refused := rfl
@[simp] theorem State.motUpd_drivers (s : State) (k : Nat) (f : Motor → Motor) : (s.motUpd k f).drivers = s.drivers := rfl
@[simp] theorem State.motUpd_ls (s : State) (k : Nat) (f : Motor → Motor) : (s.motUpd k f).ls = s.ls := rfl
@[simp] theorem State.motUpd_vmot (s : State) (k : Nat) (f : Motor → Motor) : (s.motUpd k f).vmot = s.vmot := rfl
@[simp] theorem State.motUpd_gov (s : State) (k : Nat) (f : Motor → Motor) : (s.motUpd k f).gov = s.gov := rfl
@[simp] theorem State.motUpd_pairs (s : State) (k : Nat) (f : Motor → Motor) : (s.motUpd k f).pairs = s.pairs := rfl
@[simp] theorem State.motUpd_strs (s : State) (k : Nat) (f : Motor → Motor) : (s.motUpd k f).strs = s.strs := rfl
@[simp] theorem State.motUpd_rings (s : State) (k : Nat) (f : Motor → Motor) : (s.motUpd k f).rings = s.rings := rfl
@[simp] theorem State.motUpd_monitors (s : State) (k : Nat) (f : Motor → Motor) : (s.motUpd k f).monitors = s.monitors := rfl
@[simp] theorem State.motUpd_cells (s : State) (k : Nat) (f : Motor → Motor) : (s.motUpd k f).cells = s.cells := rfl
@[simp] theorem State.motUpd_temps (s : State) (k : Nat) (f : Motor → Motor) : (s.motUpd k f).temps = s.temps := rfl
@[simp] theorem State.motUpd_chans (s : State) (k : Nat) (f : Motor → Motor) : (s.motUpd k f).chans = s.chans := rfl
@[simp] theorem State.motUpd_capture (s : State) (k : Nat) (f : Motor → Motor) : (s.motUpd k f).capture = s.capture := rfl
@[simp] theorem State.motUpd_ev (s : State) (k : Nat) (f : Motor → Motor) : (s.motUpd k f).ev = s.ev := rfl
@[simp] theorem State.motUpd_fab (s : State) (k : Nat) (f : Motor → Motor) : (s.motUpd k f).fab = s.fab := rfl
@[simp] theorem State.motUpd_shots (s : State) (k : Nat) (f : Motor → Motor) : (s.motUpd k f).shots = s.shots := rfl
@[simp] theorem State.motUpd_otest (s : State) (k : Nat) (f : Motor → Motor) : (s.motUpd k f).otest = s.otest := rfl
@[simp] theorem State.motUpd_qlp (s : State) (k : Nat) (f : Motor → Motor) : (s.motUpd k f).qlp = s.qlp := rfl
@[simp] theorem State.motUpd_log (s : State) (k : Nat) (f : Motor → Motor) : (s.motUpd k f).log = s.log := rfl
@[simp] theorem State.motUpd_flash (s : State) (k : Nat) (f : Motor → Motor) : (s.motUpd k f).flash = s.flash := rfl
@[simp] theorem State.motUpd_dup (s : State) (k : Nat) (f : Motor → Motor) : (s.motUpd k f).dup = s.dup := rfl
@[simp] theorem State.motUpd_th (s : State) (k : Nat) (f : Motor → Motor) : (s.motUpd k f).th = s.th := rfl
@[simp] theorem State.motUpd_fw (s : State) (k : Nat) (f : Motor → Motor) : (s.motUpd k f).fw = s.fw := rfl
@[simp] theorem State.motUpd_el (s : State) (k : Nat) (f : Motor → Motor) (i j : Nat) : (s.motUpd k f).el i j = s.el i j := rfl
@[simp] theorem State.motUpd_gi (s : State) (k : Nat) (f : Motor → Motor) (i j : Nat) : (s.motUpd k f).gi i j = s.gi i j := rfl
@[simp] theorem State.motUpd_gn (s : State) (k : Nat) (f : Motor → Motor) (i j : Nat) : (s.motUpd k f).gn i j = s.gn i j := rfl
theorem State.motUpd_mot_same (s : State) (k : Nat) (f : Motor → Motor) (h : s.canonical) : (s.motUpd k f).mot k = f (s.mot k) :=
  mget_mset_same (fun _ => ({} : Motor)) s.motors k (f (s.mot k)) h.2.2.2.1
theorem State.motUpd_mot_other (s : State) (k : Nat) (f : Motor → Motor) (j : Nat) (h : j ≠ k) : (s.motUpd k f).mot j = s.mot j :=
  mget_mset_other _ _ _ _ _ _ h

/-! #### `State.pairUpd` -/

@[simp] theorem State.pairUpd_pending (s : State) (k : Nat) (f : Pair → Pair) : (s.pairUpd k f).pending = s.pending := rfl
@[simp] theorem State.pairUpd_variant (s : State) (k : Nat) (f : Pair → Pair) : (s.pairUpd k f).variant = s.variant := rfl
@[simp] theorem State.pairUpd_objs (s : State) (k : Nat) (f : Pair → Pair) : (s.pairUpd k f).objs = s.objs := rfl
@[simp] theorem State.pairUpd_otp (s : State) (k : Nat) (f : Pair → Pair) : (s.pairUpd k f).otp = s.otp := rfl
@[simp] theorem State.pairUpd_clk (s : State) (k : Nat) (f : Pair → Pair) : (s.pairUpd k f).clk = s.clk := rfl
@[simp] theorem State.pairUpd_pwr (s : State) (k : Nat) (f : Pair → Pair) : (s.pairUpd k f).pwr = s.pwr := rfl
@[simp] theorem State.pairUpd_wd (s : State) (k : Nat) (f : Pair → Pair) : (s.pairUpd k f).wd = s.wd := rfl
@[simp] theorem State.pairUpd_linkP (s : State) (k : Nat) (f : Pair → Pair) : (s.pairUpd k f).linkP = s.linkP := rfl
@[simp] theorem State.pairUpd_linkC (s : State) (k : Nat) (f : Pair → Pair) : (s.pairUpd k f).linkC = s.linkC := rfl
@[simp] theorem State.pairUpd_refused (s : State) (k : Nat) (f : Pair → Pair) : (s.pairUpd k f).refused = s.refused := rfl
@[simp] theorem State.pairUpd_drivers (s : State) (k : Nat) (f : Pair → Pair) : (s.pairUpd k f).drivers = s.drivers := rfl
@[simp] theorem State.pairUpd_ls (s : State) (k : Nat) (f : Pair → Pair) : (s.pairUpd k f).ls = s.ls := rfl
@[simp] theorem State.pairUpd_motors (s : State) (k : Nat) (f : Pair → Pair) : (s.pairUpd k f).motors = s.motors := rfl
@[simp] theorem State.pairUpd_vmot (s : State) (k : Nat) (f : Pair → Pair) : (s.pairUpd k f).vmot = s.vmot := rfl
@[simp] theorem State.pairUpd_gov (s : State) (k : Nat) (f : Pair → Pair) : (s.pairUpd k f).gov = s.gov := rfl
@[simp] theorem State.pairUpd_strs (s : State) (k : Nat) (f : Pair → Pair) : (s.pairUpd k f).strs = s.strs := rfl
@[simp] theorem State.pairUpd_rings (s : State) (k : Nat) (f : Pair → Pair) : (s.pairUpd k f).rings = s.rings := rfl
@[simp] theorem State.pairUpd_monitors (s : State) (k : Nat) (f : Pair → Pair) : (s.pairUpd k f).monitors = s.monitors := rfl
@[simp] theorem State.pairUpd_cells (s : State) (k : Nat) (f : Pair → Pair) : (s.pairUpd k f).cells = s.cells := rfl
@[simp] theorem State.pairUpd_temps (s : State) (k : Nat) (f : Pair → Pair) : (s.pairUpd k f).temps = s.temps := rfl
@[simp] theorem State.pairUpd_chans (s : State) (k : Nat) (f : Pair → Pair) : (s.pairUpd k f).chans = s.chans := rfl
@[simp] theorem State.pairUpd_capture (s : State) (k : Nat) (f : Pair → Pair) : (s.pairUpd k f).capture = s.capture := rfl
@[simp] theorem State.pairUpd_ev (s : State) (k : Nat) (f : Pair → Pair) : (s.pairUpd k f).ev = s.ev := rfl
@[simp] theorem State.pairUpd_fab (s : State) (k : Nat) (f : Pair → Pair) : (s.pairUpd k f).fab = s.fab := rfl
@[simp] theorem State.pairUpd_shots (s : State) (k : Nat) (f : Pair → Pair) : (s.pairUpd k f).shots = s.shots := rfl
@[simp] theorem State.pairUpd_otest (s : State) (k : Nat) (f : Pair → Pair) : (s.pairUpd k f).otest = s.otest := rfl
@[simp] theorem State.pairUpd_qlp (s : State) (k : Nat) (f : Pair → Pair) : (s.pairUpd k f).qlp = s.qlp := rfl
@[simp] theorem State.pairUpd_log (s : State) (k : Nat) (f : Pair → Pair) : (s.pairUpd k f).log = s.log := rfl
@[simp] theorem State.pairUpd_flash (s : State) (k : Nat) (f : Pair → Pair) : (s.pairUpd k f).flash = s.flash := rfl
@[simp] theorem State.pairUpd_dup (s : State) (k : Nat) (f : Pair → Pair) : (s.pairUpd k f).dup = s.dup := rfl
@[simp] theorem State.pairUpd_th (s : State) (k : Nat) (f : Pair → Pair) : (s.pairUpd k f).th = s.th := rfl
@[simp] theorem State.pairUpd_fw (s : State) (k : Nat) (f : Pair → Pair) : (s.pairUpd k f).fw = s.fw := rfl
@[simp] theorem State.pairUpd_el (s : State) (k : Nat) (f : Pair → Pair) (i j : Nat) : (s.pairUpd k f).el i j = s.el i j := rfl
@[simp] theorem State.pairUpd_gi (s : State) (k : Nat) (f : Pair → Pair) (i j : Nat) : (s.pairUpd k f).gi i j = s.gi i j := rfl
@[simp] theorem State.pairUpd_gn (s : State) (k : Nat) (f : Pair → Pair) (i j : Nat) : (s.pairUpd k f).gn i j = s.gn i j := rfl
theorem State.pairUpd_pair_same (s : State) (k : Nat) (f : Pair → Pair) (h : s.canonical) : (s.pairUpd k f).pair k = f (s.pair k) :=
  mget_mset_same (fun _ => ({} : Pair)) s.pairs k (f (s.pair k)) h.2.2.2.2.1
theorem State.pairUpd_pair_other (s : State) (k : Nat) (f : Pair → Pair) (j : Nat) (h : j ≠ k) : (s.pairUpd k f).pair j = s.pair j :=
  mget_mset_other _ _ _ _ _ _ h

/-! #### `State.strUpd` -/

@[simp] theorem State.strUpd_pending (s : State) (k : Nat) (f : Str → Str) : (s.strUpd k f).pending = s.pending := rfl
@[simp] theorem State.strUpd_variant (s : State) (k : Nat) (f : Str → Str) : (s.strUpd k f).variant = s.variant := rfl
@[simp] theorem State.strUpd_objs (s : State) (k : Nat) (f : Str → Str) : (s.strUpd k f).objs = s.objs := rfl
@[simp] theorem State.strUpd_otp (s : State) (k : Nat) (f : Str → Str) : (s.strUpd k f).otp = s.otp := rfl
@[simp] theorem State.strUpd_clk (s : State) (k : Nat) (f : Str → Str) : (s.strUpd k f).clk = s.clk := rfl
@[simp] theorem State.strUpd_pwr (s : State) (k : Nat) (f : Str → Str) : (s.strUpd k f).pwr = s.pwr := rfl
@[simp] theorem State.strUpd_wd (s : State) (k : Nat) (f : Str → Str) : (s.strUpd k f).wd = s.wd := rfl
@[simp] theorem State.strUpd_linkP (s : State) (k : Nat) (f : Str → Str) : (s.strUpd k f).linkP = s.linkP := rfl
@[simp] theorem State.strUpd_linkC (s : State) (k : Nat) (f : Str → Str) : (s.strUpd k f).linkC = s.linkC := rfl
@[simp] theorem State.strUpd_refused (s : State) (k : Nat) (f : Str → Str) : (s.strUpd k f).refused = s.refused := rfl
@[simp] theorem State.strUpd_drivers (s : State) (k : Nat) (f : Str → Str) : (s.strUpd k f).drivers = s.drivers := rfl
@[simp] theorem State.strUpd_ls (s : State) (k : Nat) (f : Str → Str) : (s.strUpd k f).ls = s.ls := rfl
@[simp] theorem State.strUpd_motors (s : State) (k : Nat) (f : Str → Str) : (s.strUpd k f).motors = s.motors := rfl
@[simp] theorem State.strUpd_vmot (s : State) (k : Nat) (f : Str → Str) : (s.strUpd k f).vmot = s.vmot := rfl
@[simp] theorem State.strUpd_gov (s : State) (k : Nat) (f : Str → Str) : (s.strUpd k f).gov = s.gov := rfl
@[simp] theorem State.strUpd_pairs (s : State) (k : Nat) (f : Str → Str) : (s.strUpd k f).pairs = s.pairs := rfl
@[simp] theorem State.strUpd_rings (s : State) (k : Nat) (f : Str → Str) : (s.strUpd k f).rings = s.rings := rfl
@[simp] theorem State.strUpd_monitors (s : State) (k : Nat) (f : Str → Str) : (s.strUpd k f).monitors = s.monitors := rfl
@[simp] theorem State.strUpd_cells (s : State) (k : Nat) (f : Str → Str) : (s.strUpd k f).cells = s.cells := rfl
@[simp] theorem State.strUpd_temps (s : State) (k : Nat) (f : Str → Str) : (s.strUpd k f).temps = s.temps := rfl
@[simp] theorem State.strUpd_chans (s : State) (k : Nat) (f : Str → Str) : (s.strUpd k f).chans = s.chans := rfl
@[simp] theorem State.strUpd_capture (s : State) (k : Nat) (f : Str → Str) : (s.strUpd k f).capture = s.capture := rfl
@[simp] theorem State.strUpd_ev (s : State) (k : Nat) (f : Str → Str) : (s.strUpd k f).ev = s.ev := rfl
@[simp] theorem State.strUpd_fab (s : State) (k : Nat) (f : Str → Str) : (s.strUpd k f).fab = s.fab := rfl
@[simp] theorem State.strUpd_shots (s : State) (k : Nat) (f : Str → Str) : (s.strUpd k f).shots = s.shots := rfl
@[simp] theorem State.strUpd_otest (s : State) (k : Nat) (f : Str → Str) : (s.strUpd k f).otest = s.otest := rfl
@[simp] theorem State.strUpd_qlp (s : State) (k : Nat) (f : Str → Str) : (s.strUpd k f).qlp = s.qlp := rfl
@[simp] theorem State.strUpd_log (s : State) (k : Nat) (f : Str → Str) : (s.strUpd k f).log = s.log := rfl
@[simp] theorem State.strUpd_flash (s : State) (k : Nat) (f : Str → Str) : (s.strUpd k f).flash = s.flash := rfl
@[simp] theorem State.strUpd_dup (s : State) (k : Nat) (f : Str → Str) : (s.strUpd k f).dup = s.dup := rfl
@[simp] theorem State.strUpd_th (s : State) (k : Nat) (f : Str → Str) : (s.strUpd k f).th = s.th := rfl
@[simp] theorem State.strUpd_fw (s : State) (k : Nat) (f : Str → Str) : (s.strUpd k f).fw = s.fw := rfl
@[simp] theorem State.strUpd_el (s : State) (k : Nat) (f : Str → Str) (i j : Nat) : (s.strUpd k f).el i j = s.el i j := rfl
@[simp] theorem State.strUpd_gi (s : State) (k : Nat) (f : Str → Str) (i j : Nat) : (s.strUpd k f).gi i j = s.gi i j := rfl
@[simp] theorem State.strUpd_gn (s : State) (k : Nat) (f : Str → Str) (i j : Nat) : (s.strUpd k f).gn i j = s.gn i j := rfl
theorem State.strUpd_str_same (s : State) (k : Nat) (f : Str → Str) (h : s.canonical) : (s.strUpd k f).str k = f (s.str k) :=
  mget_mset_same (fun _ => ({} : Str)) s.strs k (f (s.str k)) h.2.2.2.2.2.1
theorem State.strUpd_str_other (s : State) (k : Nat) (f : Str → Str) (j : Nat) (h : j ≠ k) : (s.strUpd k f).str j = s.str j :=
  mget_mset_other _ _ _ _ _ _ h

/-! #### `State.ringUpd` -/

@[simp] theorem State.ringUpd_pending (s : State) (k : Nat) (f : Ring → Ring) : (s.ringUpd k f).pending = s.pending := rfl
@[simp] theorem State.ringUpd_variant (s : State) (k : Nat) (f : Ring → Ring) : (s.ringUpd k f).variant = s.variant := rfl
@[simp] theorem State.ringUpd_objs (s : State) (k : Nat) (f : Ring → Ring) : (s.ringUpd k f).objs = s.objs := rfl
@[simp] theorem State.ringUpd_otp (s : State) (k : Nat) (f : Ring → Ring) : (s.ringUpd k f).otp = s.otp := rfl
@[simp] theorem State.ringUpd_clk (s : State) (k : Nat) (f : Ring → Ring) : (s.ringUpd k f).clk = s.clk := rfl
@[simp] theorem State.ringUpd_pwr (s : State) (k : Nat) (f : Ring → Ring) : (s.ringUpd k f).pwr = s.pwr := rfl
@[simp] theorem State.ringUpd_wd (s : State) (k : Nat) (f : Ring → Ring) : (s.ringUpd k f).wd = s.wd := rfl
@[simp] theorem State.ringUpd_linkP (s : State) (k : Nat) (f : Ring → Ring) : (s.ringUpd k f).linkP = s.linkP := rfl
@[simp] theorem State.ringUpd_linkC (s : State) (k : Nat) (f : Ring → Ring) : (s.ringUpd k f).linkC = s.linkC := rfl
@[simp] theorem State.ringUpd_refused (s : State) (k : Nat) (f : Ring → Ring) : (s.ringUpd k f).refused = s.refused := rfl
@[simp] theorem State.ringUpd_drivers (s : State) (k : Nat) (f : Ring → Ring) : (s.ringUpd k f).drivers = s.drivers := rfl
@[simp] theorem State.ringUpd_ls (s : State) (k : Nat) (f : Ring → Ring) : (s.ringUpd k f).ls = s.ls := rfl
@[simp] theorem State.ringUpd_motors (s : State) (k : Nat) (f : Ring → Ring) : (s.ringUpd k f).motors = s.motors := rfl
@[simp] theorem State.ringUpd_vmot (s : State) (k : Nat) (f : Ring → Ring) : (s.ringUpd k f).vmot = s.vmot := rfl
@[simp] theorem State.ringUpd_gov (s : State) (k : Nat) (f : Ring → Ring) : (s.ringUpd k f).gov = s.gov := rfl
@[simp] theorem State.ringUpd_pairs (s : State) (k : Nat) (f : Ring → Ring) : (s.ringUpd k f).pairs = s.pairs := rfl
@[simp] theorem State.ringUpd_strs (s : State) (k : Nat) (f : Ring → Ring) : (s.ringUpd k f).strs = s.strs := rfl
@[simp] theorem State.ringUpd_monitors (s : State) (k : Nat) (f : Ring → Ring) : (s.ringUpd k f).monitors = s.monitors := rfl
@[simp] theorem State.ringUpd_cells (s : State) (k : Nat) (f : Ring → Ring) : (s.ringUpd k f).cells = s.cells := rfl
@[simp] theorem State.ringUpd_temps (s : State) (k : Nat) (f : Ring → Ring) : (s.ringUpd k f).temps = s.temps := rfl
@[simp] theorem State.ringUpd_chans (s : State) (k : Nat) (f : Ring → Ring) : (s.ringUpd k f).chans = s.chans := rfl
@[simp] theorem State.ringUpd_capture (s : State) (k : Nat) (f : Ring → Ring) : (s.ringUpd k f).capture = s.capture := rfl
@[simp] theorem State.ringUpd_ev (s : State) (k : Nat) (f : Ring → Ring) : (s.ringUpd k f).ev = s.ev := rfl
@[simp] theorem State.ringUpd_fab (s : State) (k : Nat) (f : Ring → Ring) : (s.ringUpd k f).fab = s.fab := rfl
@[simp] theorem State.ringUpd_shots (s : State) (k : Nat) (f : Ring → Ring) : (s.ringUpd k f).shots = s.shots := rfl
@[simp] theorem State.ringUpd_otest (s : State) (k : Nat) (f : Ring → Ring) : (s.ringUpd k f).otest = s.otest := rfl
@[simp] theorem State.ringUpd_qlp (s : State) (k : Nat) (f : Ring → Ring) : (s.ringUpd k f).qlp = s.qlp := rfl
@[simp] theorem State.ringUpd_log (s : State) (k : Nat) (f : Ring → Ring) : (s.ringUpd k f).log = s.log := rfl
@[simp] theorem State.ringUpd_flash (s : State) (k : Nat) (f : Ring → Ring) : (s.ringUpd k f).flash = s.flash := rfl
@[simp] theorem State.ringUpd_dup (s : State) (k : Nat) (f : Ring → Ring) : (s.ringUpd k f).dup = s.dup := rfl
@[simp] theorem State.ringUpd_th (s : State) (k : Nat) (f : Ring → Ring) : (s.ringUpd k f).th = s.th := rfl
@[simp] theorem State.ringUpd_fw (s : State) (k : Nat) (f : Ring → Ring) : (s.ringUpd k f).fw = s.fw := rfl
@[simp] theorem State.ringUpd_el (s : State) (k : Nat) (f : Ring → Ring) (i j : Nat) : (s.ringUpd k f).el i j = s.el i j := rfl
@[simp] theorem State.ringUpd_gi (s : State) (k : Nat) (f : Ring → Ring) (i j : Nat) : (s.ringUpd k f).gi i j = s.gi i j := rfl
@[simp] theorem State.ringUpd_gn (s : State) (k : Nat) (f : Ring → Ring) (i j : Nat) : (s.ringUpd k f).gn i j = s.gn i j := rfl
theorem State.ringUpd_ring_same (s : State) (k : Nat) (f : Ring → Ring) (h : s.canonical) : (s.ringUpd k f).ring k = f (s.ring k) :=
  mget_mset_same (fun _ => ({} : Ring)) s.rings k (f (s.ring k)) h.2.2.2.2.2.2.1
theorem State.ringUpd_ring_other (s : State) (k : Nat) (f : Ring → Ring) (j : Nat) (h : j ≠ k) : (s.ringUpd k f).ring j = s.ring j :=
  mget_mset_other _ _ _ _ _ _ h

/-! #### `State.monUpd` -/

@[simp] theorem State.monUpd_pending (s : State) (k : Nat) (f : Monitor → Monitor) : (s.monUpd k f).pending = s.pending := rfl
@[simp] theorem State.monUpd_variant (s : State) (k : Nat) (f : Monitor → Monitor) : (s.monUpd k f).variant = s.variant := rfl
@[simp] theorem State.monUpd_objs (s : State) (k : Nat) (f : Monitor → Monitor) : (s.monUpd k f).objs = s.objs := rfl
@[simp] theorem State.monUpd_otp (s : State) (k : Nat) (f : Monitor → Monitor) : (s.monUpd k f).otp = s.otp := rfl
@[simp] theorem State.monUpd_clk (s : State) (k : Nat) (f : Monitor → Monitor) : (s.monUpd k f).clk = s.clk := rfl
@[simp] theorem State.monUpd_pwr (s : State) (k : Nat) (f : Monitor → Monitor) : (s.monUpd k f).pwr = s.pwr := rfl
@[simp] theorem State.monUpd_wd (s : State) (k : Nat) (f : Monitor → Monitor) : (s.monUpd k f).wd = s.wd := rfl
@[simp] theorem State.monUpd_linkP (s : State) (k : Nat) (f : Monitor → Monitor) : (s.monUpd k f).linkP = s.linkP := rfl
@[simp] theorem State.monUpd_linkC (s : State) (k : Nat) (f : Monitor → Monitor) : (s.monUpd k f).linkC = s.linkC := rfl
@[simp] theorem State.monUpd_refused (s : State) (k : Nat) (f : Monitor → Monitor) : (s.monUpd k f).refused = s.refused := rfl
@[simp] theorem State.monUpd_drivers (s : State) (k : Nat) (f : Monitor → Monitor) : (s.monUpd k f).drivers = s.drivers := rfl
@[simp] theorem State.monUpd_ls (s : State) (k : Nat) (f : Monitor → Monitor) : (s.monUpd k f).ls = s.ls := rfl
@[simp] theorem State.monUpd_motors (s : State) (k : Nat) (f : Monitor → Monitor) : (s.monUpd k f).motors = s.motors := rfl
@[simp] theorem State.monUpd_vmot (s : State) (k : Nat) (f : Monitor → Monitor) : (s.monUpd k f).vmot = s.vmot := rfl
@[simp] theorem State.monUpd_gov (s : State) (k : Nat) (f : Monitor → Monitor) : (s.monUpd k f).gov = s.gov := rfl
@[simp] theorem State.monUpd_pairs (s : State) (k : Nat) (f : Monitor → Monitor) : (s.monUpd k f).pairs = s.pairs := rfl
@[simp] theorem State.monUpd_strs (s : State) (k : Nat) (f : Monitor → Monitor) : (s.monUpd k f).strs = s.strs := rfl
@[simp] theorem State.monUpd_rings (s : State) (k : Nat) (f : Monitor → Monitor) : (s.monUpd k f).rings = s.rings := rfl
@[simp] theorem State.monUpd_cells (s : State) (k : Nat) (f : Monitor → Monitor) : (s.monUpd k f).cells = s.cells := rfl
@[simp] theorem State.monUpd_temps (s : State) (k : Nat) (f : Monitor → Monitor) : (s.monUpd k f).temps = s.temps := rfl
@[simp] theorem State.monUpd_chans (s : State) (k : Nat) (f : Monitor → Monitor) : (s.monUpd k f).chans = s.chans := rfl
@[simp] theorem State.monUpd_capture (s : State) (k : Nat) (f : Monitor → Monitor) : (s.monUpd k f).capture = s.capture := rfl
@[simp] theorem State.monUpd_ev (s : State) (k : Nat) (f : Monitor → Monitor) : (s.monUpd k f).ev = s.ev := rfl
@[simp] theorem State.monUpd_fab (s : State) (k : Nat) (f : Monitor → Monitor) : (s.monUpd k f).fab = s.fab := rfl
@[simp] theorem State.monUpd_shots (s : State) (k : Nat) (f : Monitor → Monitor) : (s.monUpd k f).shots = s.shots := rfl
@[simp] theorem State.monUpd_otest (s : State) (k : Nat) (f : Monitor → Monitor) : (s.monUpd k f).otest = s.otest := rfl
@[simp] theorem State.monUpd_qlp (s : State) (k : Nat) (f : Monitor → Monitor) : (s.monUpd k f).qlp = s.qlp := rfl
@[simp] theorem State.monUpd_log (s : State) (k : Nat) (f : Monitor → Monitor) : (s.monUpd k f).log = s.log := rfl
@[simp] theorem State.monUpd_flash (s : State) (k : Nat) (f : Monitor → Monitor) : (s.monUpd k f).flash = s.flash := rfl
@[simp] theorem State.monUpd_dup (s : State) (k : Nat) (f : Monitor → Monitor) : (s.monUpd k f).dup = s.dup := rfl
@[simp] theorem State.monUpd_th (s : State) (k : Nat) (f : Monitor → Monitor) : (s.monUpd k f).th = s.th := rfl
@[simp] theorem State.monUpd_fw (s : State) (k : Nat) (f : Monitor → Monitor) : (s.monUpd k f).fw = s.fw := rfl
@[simp] theorem State.monUpd_el (s : State) (k : Nat) (f : Monitor → Monitor) (i j : Nat) : (s.monUpd k f).el i j = s.el i j := rfl
@[simp] theorem State.monUpd_gi (s : State) (k : Nat) (f : Monitor → Monitor) (i j : Nat) : (s.monUpd k f).gi i j = s.gi i j := rfl
@[simp] theorem State.monUpd_gn (s : State) (k : Nat) (f : Monitor → Monitor) (i j : Nat) : (s.monUpd k f).gn i j = s.gn i j := rfl
theorem State.monUpd_mon_same (s : State) (k : Nat) (f : Monitor → Monitor) (h : s.canonical) : (s.monUpd k f).mon k = f (s.mon k) :=
  mget_mset_same (fun _ => ({} : Monitor)) s.monitors k (f (s.mon k)) h.2.2.2.2.2.2.2.1
theorem State.monUpd_mon_other (s : State) (k : Nat) (f : Monitor → Monitor) (j : Nat) (h : j ≠ k) : (s.monUpd k f).mon j = s.mon j :=
  mget_mset_other _ _ _ _ _ _ h

/-! #### `State.cellUpd` -/

@[simp] theorem State.cellUpd_pending (s : State) (k : Nat) (f : CellAcq → CellAcq) : (s.cellUpd k f).pending = s.pending := rfl
@[simp] theorem State.cellUpd_variant (s : State) (k : Nat) (f : CellAcq → CellAcq) : (s.cellUpd k f).variant = s.variant := rfl
@[simp] theorem State.cellUpd_objs (s : State) (k : Nat) (f : CellAcq → CellAcq) : (s.cellUpd k f).objs = s.objs := rfl
@[simp] theorem State.cellUpd_otp (s : State) (k : Nat) (f : CellAcq → CellAcq) : (s.cellUpd k f).otp = s.otp := rfl
@[simp] theorem State.cellUpd_clk (s : State) (k : Nat) (f : CellAcq → CellAcq) : (s.cellUpd k f).clk = s.clk := rfl
@[simp] theorem State.cellUpd_pwr (s : State) (k : Nat) (f : CellAcq → CellAcq) : (s.cellUpd k f).pwr = s.pwr := rfl
@[simp] theorem State.cellUpd_wd (s : State) (k : Nat) (f : CellAcq → CellAcq) : (s.cellUpd k f).wd = s.wd := rfl
@[simp] theorem State.cellUpd_linkP (s : State) (k : Nat) (f : CellAcq → CellAcq) : (s.cellUpd k f).linkP = s.linkP := rfl
@[simp] theorem State.cellUpd_linkC (s : State) (k : Nat) (f : CellAcq → CellAcq) : (s.cellUpd k f).linkC = s.linkC := rfl
@[simp] theorem State.cellUpd_refused (s : State) (k : Nat) (f : CellAcq → CellAcq) : (s.cellUpd k f).refused = s.refused := rfl
@[simp] theorem State.cellUpd_drivers (s : State) (k : Nat) (f : CellAcq → CellAcq) : (s.cellUpd k f).drivers = s.drivers := rfl
@[simp] theorem State.cellUpd_ls (s : State) (k : Nat) (f : CellAcq → CellAcq) : (s.cellUpd k f).ls = s.ls := rfl
@[simp] theorem State.cellUpd_motors (s : State) (k : Nat) (f : CellAcq → CellAcq) : (s.cellUpd k f).motors = s.motors := rfl
@[simp] theorem State.cellUpd_vmot (s : State) (k : Nat) (f : CellAcq → CellAcq) : (s.cellUpd k f).vmot = s.vmot := rfl
@[simp] theorem State.cellUpd_gov (s : State) (k : Nat) (f : CellAcq → CellAcq) : (s.cellUpd k f).gov = s.gov := rfl
@[simp] theorem State.cellUpd_pairs (s : State) (k : Nat) (f : CellAcq → CellAcq) : (s.cellUpd k f).pairs = s.pairs := rfl
@[simp] theorem State.cellUpd_strs (s : State) (k : Nat) (f : CellAcq → CellAcq) : (s.cellUpd k f).strs = s.strs := rfl
@[simp] theorem State.cellUpd_rings (s : State) (k : Nat) (f : CellAcq → CellAcq) : (s.cellUpd k f).rings = s.rings := rfl
@[simp] theorem State.cellUpd_monitors (s : State) (k : Nat) (f : CellAcq → CellAcq) : (s.cellUpd k f).monitors = s.monitors := rfl
@[simp] theorem State.cellUpd_temps (s : State) (k : Nat) (f : CellAcq → CellAcq) : (s.cellUpd k f).temps = s.temps := rfl
@[simp] theorem State.cellUpd_chans (s : State) (k : Nat) (f : CellAcq → CellAcq) : (s.cellUpd k f).chans = s.chans := rfl
@[simp] theorem State.cellUpd_capture (s : State) (k : Nat) (f : CellAcq → CellAcq) : (s.cellUpd k f).capture = s.capture := rfl
@[simp] theorem State.cellUpd_ev (s : State) (k : Nat) (f : CellAcq → CellAcq) : (s.cellUpd k f).ev = s.ev := rfl
@[simp] theorem State.cellUpd_fab (s : State) (k : Nat) (f : CellAcq → CellAcq) : (s.cellUpd k f).fab = s.fab := rfl
@[simp] theorem State.cellUpd_shots (s : State) (k : Nat) (f : CellAcq → CellAcq) : (s.cellUpd k f).shots = s.shots := rfl
@[simp] theorem State.cellUpd_otest (s : State) (k : Nat) (f : CellAcq → CellAcq) : (s.cellUpd k f).otest = s.otest := rfl
@[simp] theorem State.cellUpd_qlp (s : State) (k : Nat) (f : CellAcq → CellAcq) : (s.cellUpd k f).qlp = s.qlp := rfl
@[simp] theorem State.cellUpd_log (s : State) (k : Nat) (f : CellAcq → CellAcq) : (s.cellUpd k f).log = s.log := rfl
@[simp] theorem State.cellUpd_flash (s : State) (k : Nat) (f : CellAcq → CellAcq) : (s.cellUpd k f).flash = s.flash := rfl
@[simp] theorem State.cellUpd_dup (s : State) (k : Nat) (f : CellAcq → CellAcq) : (s.cellUpd k f).dup = s.dup := rfl
@[simp] theorem State.cellUpd_th (s : State) (k : Nat) (f : CellAcq → CellAcq) : (s.cellUpd k f).th = s.th := rfl
@[simp] theorem State.cellUpd_fw (s : State) (k : Nat) (f : CellAcq → CellAcq) : (s.cellUpd k f).fw = s.fw := rfl
@[simp] theorem State.cellUpd_el (s : State) (k : Nat) (f : CellAcq → CellAcq) (i j : Nat) : (s.cellUpd k f).el i j = s.el i j := rfl
@[simp] theorem State.cellUpd_gi (s : State) (k : Nat) (f : CellAcq → CellAcq) (i j : Nat) : (s.cellUpd k f).gi i j = s.gi i j := rfl
@[simp] theorem State.cellUpd_gn (s : State) (k : Nat) (f : CellAcq → CellAcq) (i j : Nat) : (s.cellUpd k f).gn i j = s.gn i j := rfl
theorem State.cellUpd_cell_same (s : State) (k : Nat) (f : CellAcq → CellAcq) (h : s.canonical) : (s.cellUpd k f).cell k = f (s.cell k) :=
  mget_mset_same (fun _ => ({} : CellAcq)) s.cells k (f (s.cell k)) h.2.2.2.2.2.2.2.2.1
theorem State.cellUpd_cell_other (s : State) (k : Nat) (f : CellAcq → CellAcq) (j : Nat) (h : j ≠ k) : (s.cellUpd k f).cell j = s.cell j :=
  mget_mset_other _ _ _ _ _ _ h

/-! #### `State.tempUpd` -/

@[simp] theorem State.tempUpd_pending (s : State) (k : Nat) (f : TempAcq → TempAcq) : (s.tempUpd k f).pending = s.pending := rfl
@[simp] theorem State.tempUpd_variant (s : State) (k : Nat) (f : TempAcq → TempAcq) : (s.tempUpd k f).variant = s.variant := rfl
@[simp] theorem State.tempUpd_objs (s : State) (k : Nat) (f : TempAcq → TempAcq) : (s.tempUpd k f).objs = s.objs := rfl
@[simp] theorem State.tempUpd_otp (s : State) (k : Nat) (f : TempAcq → TempAcq) : (s.tempUpd k f).otp = s.otp := rfl
@[simp] theorem State.tempUpd_clk (s : State) (k : Nat) (f : TempAcq → TempAcq) : (s.tempUpd k f).clk = s.clk := rfl
@[simp] theorem State.tempUpd_pwr (s : State) (k : Nat) (f : TempAcq → TempAcq) : (s.tempUpd k f).pwr = s.pwr := rfl
@[simp] theorem State.tempUpd_wd (s : State) (k : Nat) (f : TempAcq → TempAcq) : (s.tempUpd k f).wd = s.wd := rfl
@[simp] theorem State.tempUpd_linkP (s : State) (k : Nat) (f : TempAcq → TempAcq) : (s.tempUpd k f).linkP = s.linkP := rfl
@[simp] theorem State.tempUpd_linkC (s : State) (k : Nat) (f : TempAcq → TempAcq) : (s.tempUpd k f).linkC = s.linkC := rfl
@[simp] theorem State.tempUpd_refused (s : State) (k : Nat) (f : TempAcq → TempAcq) : (s.tempUpd k f).refused = s.refused := rfl
@[simp] theorem State.tempUpd_drivers (s : State) (k : Nat) (f : TempAcq → TempAcq) : (s.tempUpd k f).drivers = s.drivers := rfl
@[simp] theorem State.tempUpd_ls (s : State) (k : Nat) (f : TempAcq → TempAcq) : (s.tempUpd k f).ls = s.ls := rfl
@[simp] theorem State.tempUpd_motors (s : State) (k : Nat) (f : TempAcq → TempAcq) : (s.tempUpd k f).motors = s.motors := rfl
@[simp] theorem State.tempUpd_vmot (s : State) (k : Nat) (f : TempAcq → TempAcq) : (s.tempUpd k f).vmot = s.vmot := rfl
@[simp] theorem State.tempUpd_gov (s : State) (k : Nat) (f : TempAcq → TempAcq) : (s.tempUpd k f).gov = s.gov := rfl
@[simp] theorem State.tempUpd_pairs (s : State) (k : Nat) (f : TempAcq → TempAcq) : (s.tempUpd k f).pairs = s.pairs := rfl
@[simp] theorem State.tempUpd_strs (s : State) (k : Nat) (f : TempAcq → TempAcq) : (s.tempUpd k f).strs = s.strs := rfl
@[simp] theorem State.tempUpd_rings (s : State) (k : Nat) (f : TempAcq → TempAcq) : (s.tempUpd k f).rings = s.rings := rfl
@[simp] theorem State.tempUpd_monitors (s : State) (k : Nat) (f : TempAcq → TempAcq) : (s.tempUpd k f).monitors = s.monitors := rfl
@[simp] theorem State.tempUpd_cells (s : State) (k : Nat) (f : TempAcq → TempAcq) : (s.tempUpd k f).cells = s.cells := rfl
@[simp] theorem State.tempUpd_chans (s : State) (k : Nat) (f : TempAcq → TempAcq) : (s.tempUpd k f).chans = s.chans := rfl
@[simp] theorem State.tempUpd_capture (s : State) (k : Nat) (f : TempAcq → TempAcq) : (s.tempUpd k f).capture = s.capture := rfl
@[simp] theorem State.tempUpd_ev (s : State) (k : Nat) (f : TempAcq → TempAcq) : (s.tempUpd k f).ev = s.ev := rfl
@[simp] theorem State.tempUpd_fab (s : State) (k : Nat) (f : TempAcq → TempAcq) : (s.tempUpd k f).fab = s.fab := rfl
@[simp] theorem State.tempUpd_shots (s : State) (k : Nat) (f : TempAcq → TempAcq) : (s.tempUpd k f).shots = s.shots := rfl
@[simp] theorem State.tempUpd_otest (s : State) (k : Nat) (f : TempAcq → TempAcq) : (s.tempUpd k f).otest = s.otest := rfl
@[simp] theorem State.tempUpd_qlp (s : State) (k : Nat) (f : TempAcq → TempAcq) : (s.tempUpd k f).qlp = s.qlp := rfl
@[simp] theorem State.tempUpd_log (s : State) (k : Nat) (f : TempAcq → TempAcq) : (s.tempUpd k f).log = s.log := rfl
@[simp] theorem State.tempUpd_flash (s : State) (k : Nat) (f : TempAcq → TempAcq) : (s.tempUpd k f).flash = s.flash := rfl
@[simp] theorem State.tempUpd_dup (s : State) (k : Nat) (f : TempAcq → TempAcq) : (s.tempUpd k f).dup = s.dup := rfl
@[simp] theorem State.tempUpd_th (s : State) (k : Nat) (f : TempAcq → TempAcq) : (s.tempUpd k f).th = s.th := rfl
@[simp] theorem State.tempUpd_fw (s : State) (k : Nat) (f : TempAcq → TempAcq) : (s.tempUpd k f).fw = s.fw := rfl
@[simp] theorem State.tempUpd_el (s : State) (k : Nat) (f : TempAcq → TempAcq) (i j : Nat) : (s.tempUpd k f).el i j = s.el i j := rfl
@[simp] theorem State.tempUpd_gi (s : State) (k : Nat) (f : TempAcq → TempAcq) (i j : Nat) : (s.tempUpd k f).gi i j = s.gi i j := rfl
@[simp] theorem State.tempUpd_gn (s : State) (k : Nat) (f : TempAcq → TempAcq) (i j : Nat) : (s.tempUpd k f).gn i j = s.gn i j := rfl
theorem State.tempUpd_temp_same (s : State) (k : Nat) (f : TempAcq → TempAcq) (h : s.canonical) : (s.tempUpd k f).temp k = f (s.temp k) :=
  mget_mset_same (fun _ => ({} : TempAcq)) s.temps k (f (s.temp k)) h.2.2.2.2.2.2.2.2.2.1
theorem State.tempUpd_temp_other (s : State) (k : Nat) (f : TempAcq → TempAcq) (j : Nat) (h : j ≠ k) : (s.tempUpd k f).temp j = s.temp j :=
  mget_mset_other _ _ _ _ _ _ h

/-! #### `State.chanUpd` -/

@[simp] theorem State.chanUpd_pending (s : State) (k : Nat) (f : Chan → Chan) : (s.chanUpd k f).pending = s.pending := rfl
@[simp] theorem State.chanUpd_variant (s : State) (k : Nat) (f : Chan → Chan) : (s.chanUpd k f).variant = s.variant := rfl
@[simp] theorem State.chanUpd_objs (s : State) (k : Nat) (f : Chan → Chan) : (s.chanUpd k f).objs = s.objs := rfl
@[simp] theorem State.chanUpd_otp (s : State) (k : Nat) (f : Chan → Chan) : (s.chanUpd k f).otp = s.otp := rfl
@[simp] theorem State.chanUpd_clk (s : State) (k : Nat) (f : Chan → Chan) : (s.chanUpd k f).clk = s.clk := rfl
@[simp] theorem State.chanUpd_pwr (s : State) (k : Nat) (f : Chan → Chan) : (s.chanUpd k f).pwr = s.pwr := rfl
@[simp] theorem State.chanUpd_wd (s : State) (k : Nat) (f : Chan → Chan) : (s.chanUpd k f).wd = s.wd := rfl
@[simp] theorem State.chanUpd_linkP (s : State) (k : Nat) (f : Chan → Chan) : (s.chanUpd k f).linkP = s.linkP := rfl
@[simp] theorem State.chanUpd_linkC (s : State) (k : Nat) (f : Chan → Chan) : (s.chanUpd k f).linkC = s.linkC := rfl
@[simp] theorem State.chanUpd_refused (s : State) (k : Nat) (f : Chan → Chan) : (s.chanUpd k f).refused = s.refused := rfl
@[simp] theorem State.chanUpd_drivers (s : State) (k : Nat) (f : Chan → Chan) : (s.chanUpd k f).drivers = s.drivers := rfl
@[simp] theorem State.chanUpd_ls (s : State) (k : Nat) (f : Chan → Chan) : (s.chanUpd k f).ls = s.ls := rfl
@[simp] theorem State.chanUpd_motors (s : State) (k : Nat) (f : Chan → Chan) : (s.chanUpd k f).motors = s.motors := rfl
@[simp] theorem State.chanUpd_vmot (s : State) (k : Nat) (f : Chan → Chan) : (s.chanUpd k f).vmot = s.vmot := rfl
@[simp] theorem State.chanUpd_gov (s : State) (k : Nat) (f : Chan → Chan) : (s.chanUpd k f).gov = s.gov := rfl
@[simp] theorem State.chanUpd_pairs (s : State) (k : Nat) (f : Chan → Chan) : (s.chanUpd k f).pairs = s.pairs := rfl
@[simp] theorem State.chanUpd_strs (s : State) (k : Nat) (f : Chan → Chan) : (s.chanUpd k f).strs = s.strs := rfl
@[simp] theorem State.chanUpd_rings (s : State) (k : Nat) (f : Chan → Chan) : (s.chanUpd k f).rings = s.rings := rfl
@[simp] theorem State.chanUpd_monitors (s : State) (k : Nat) (f : Chan → Chan) : (s.chanUpd k f).monitors = s.monitors := rfl
@[simp] theorem State.chanUpd_cells (s : State) (k : Nat) (f : Chan → Chan) : (s.chanUpd k f).cells = s.cells := rfl
@[simp] theorem State.chanUpd_temps (s : State) (k : Nat) (f : Chan → Chan) : (s.chanUpd k f).temps = s.temps := rfl
@[simp] theorem State.chanUpd_capture (s : State) (k : Nat) (f : Chan → Chan) : (s.chanUpd k f).capture = s.capture := rfl
@[simp] theorem State.chanUpd_ev (s : State) (k : Nat) (f : Chan → Chan) : (s.chanUpd k f).ev = s.ev := rfl
@[simp] theorem State.chanUpd_fab (s : State) (k : Nat) (f : Chan → Chan) : (s.chanUpd k f).fab = s.fab := rfl
@[simp] theorem State.chanUpd_shots (s : State) (k : Nat) (f : Chan → Chan) : (s.chanUpd k f).shots = s.shots := rfl
@[simp] theorem State.chanUpd_otest (s : State) (k : Nat) (f : Chan → Chan) : (s.chanUpd k f).otest = s.otest := rfl
@[simp] theorem State.chanUpd_qlp (s : State) (k : Nat) (f : Chan → Chan) : (s.chanUpd k f).qlp = s.qlp := rfl
@[simp] theorem State.chanUpd_log (s : State) (k : Nat) (f : Chan → Chan) : (s.chanUpd k f).log = s.log := rfl
@[simp] theorem State.chanUpd_flash (s : State) (k : Nat) (f : Chan → Chan) : (s.chanUpd k f).flash = s.flash := rfl
@[simp] theorem State.chanUpd_dup (s : State) (k : Nat) (f : Chan → Chan) : (s.chanUpd k f).dup = s.dup := rfl
@[simp] theorem State.chanUpd_th (s : State) (k : Nat) (f : Chan → Chan) : (s.chanUpd k f).th = s.th := rfl
@[simp] theorem State.chanUpd_fw (s : State) (k : Nat) (f : Chan → Chan) : (s.chanUpd k f).fw = s.fw := rfl
@[simp] theorem State.chanUpd_el (s : State) (k : Nat) (f : Chan → Chan) (i j : Nat) : (s.chanUpd k f).el i j = s.el i j := rfl
@[simp] theorem State.chanUpd_gi (s : State) (k : Nat) (f : Chan → Chan) (i j : Nat) : (s.chanUpd k f).gi i j = s.gi i j := rfl
@[simp] theorem State.chanUpd_gn (s : State) (k : Nat) (f : Chan → Chan) (i j : Nat) : (s.chanUpd k f).gn i j = s.gn i j := rfl
theorem State.chanUpd_chan_same (s : State) (k : Nat) (f : Chan → Chan) (h : s.canonical) : (s.chanUpd k f).chan k = f (s.chan k) :=
  mget_mset_same (fun _ => ({} : Chan)) s.chans k (f (s.chan k)) h.2.2.2.2.2.2.2.2.2.2.1
theorem State.chanUpd_chan_other (s : State) (k : Nat) (f : Chan → Chan) (j : Nat) (h : j ≠ k) : (s.chanUpd k f).chan j = s.chan j :=
  mget_mset_other _ _ _ _ _ _ h

/-! #### `State.shotUpd` -/

@[simp] theorem State.shotUpd_pending (s : State) (k : Nat) (f : OneShot → OneShot) : (s.shotUpd k f).pending = s.pending := rfl
@[simp] theorem State.shotUpd_variant (s : State) (k : Nat) (f : OneShot → OneShot) : (s.shotUpd k f).variant = s.variant := rfl
@[simp] theorem State.shotUpd_objs (s : State) (k : Nat) (f : OneShot → OneShot) : (s.shotUpd k f).objs = s.objs := rfl
@[simp] theorem State.shotUpd_otp (s : State) (k : Nat) (f : OneShot → OneShot) : (s.shotUpd k f).otp = s.otp := rfl
@[simp] theorem State.shotUpd_clk (s : State) (k : Nat) (f : OneShot → OneShot) : (s.shotUpd k f).clk = s.clk := rfl
@[simp] theorem State.shotUpd_pwr (s : State) (k : Nat) (f : OneShot → OneShot) : (s.shotUpd k f).pwr = s.pwr := rfl
@[simp] theorem State.shotUpd_wd (s : State) (k : Nat) (f : OneShot → OneShot) : (s.shotUpd k f).wd = s.wd := rfl
@[simp] theorem State.shotUpd_linkP (s : State) (k : Nat) (f : OneShot → OneShot) : (s.shotUpd k f).linkP = s.linkP := rfl
@[simp] theorem State.shotUpd_linkC (s : State) (k : Nat) (f : OneShot → OneShot) : (s.shotUpd k f).linkC = s.linkC := rfl
@[simp] theorem State.shotUpd_refused (s : State) (k : Nat) (f : OneShot → OneShot) : (s.shotUpd k f).refused = s.refused := rfl
@[simp] theorem State.shotUpd_drivers (s : State) (k : Nat) (f : OneShot → OneShot) : (s.shotUpd k f).drivers = s.drivers := rfl
@[simp] theorem State.shotUpd_ls (s : State) (k : Nat) (f : OneShot → OneShot) : (s.shotUpd k f).ls = s.ls := rfl
@[simp] theorem State.shotUpd_motors (s : State) (k : Nat) (f : OneShot → OneShot) : (s.shotUpd k f).motors = s.motors := rfl
@[simp] theorem State.shotUpd_vmot (s : State) (k : Nat) (f : OneShot → OneShot) : (s.shotUpd k f).vmot = s.vmot := rfl
@[simp] theorem State.shotUpd_gov (s : State) (k : Nat) (f : OneShot → OneShot) : (s.shotUpd k f).gov = s.gov := rfl
@[simp] theorem State.shotUpd_pairs (s : State) (k : Nat) (f : OneShot → OneShot) : (s.shotUpd k f).pairs = s.pairs := rfl
@[simp] theorem State.shotUpd_strs (s : State) (k : Nat) (f : OneShot → OneShot) : (s.shotUpd k f).strs = s.strs := rfl
@[simp] theorem State.shotUpd_rings (s : State) (k : Nat) (f : OneShot → OneShot) : (s.shotUpd k f).rings = s.rings := rfl
@[simp] theorem State.shotUpd_monitors (s : State) (k : Nat) (f : OneShot → OneShot) : (s.shotUpd k f).monitors = s.monitors := rfl
@[simp] theorem State.shotUpd_cells (s : State) (k : Nat) (f : OneShot → OneShot) : (s.shotUpd k f).cells = s.cells := rfl
@[simp] theorem State.shotUpd_temps (s : State) (k : Nat) (f : OneShot → OneShot) : (s.shotUpd k f).temps = s.temps := rfl
@[simp] theorem State.shotUpd_chans (s : State) (k : Nat) (f : OneShot → OneShot) : (s.shotUpd k f).chans = s.chans := rfl
@[simp] theorem State.shotUpd_capture (s : State) (k : Nat) (f : OneShot → OneShot) : (s.shotUpd k f).capture = s.capture := rfl
@[simp] theorem State.shotUpd_ev (s : State) (k : Nat) (f : OneShot → OneShot) : (s.shotUpd k f).ev = s.ev := rfl
@[simp] theorem State.shotUpd_fab (s : State) (k : Nat) (f : OneShot → OneShot) : (s.shotUpd k f).fab = s.fab := rfl
@[simp] theorem State.shotUpd_otest (s : State) (k : Nat) (f : OneShot → OneShot) : (s.shotUpd k f).otest = s.otest := rfl
@[simp] theorem State.shotUpd_qlp (s : State) (k : Nat) (f : OneShot → OneShot) : (s.shotUpd k f).qlp = s.qlp := rfl
@[simp] theorem State.shotUpd_log (s : State) (k : Nat) (f : OneShot → OneShot) : (s.shotUpd k f).log = s.log := rfl
@[simp] theorem State.shotUpd_flash (s : State) (k : Nat) (f : OneShot → OneShot) : (s.shotUpd k f).flash = s.flash := rfl
@[simp] theorem State.shotUpd_dup (s : State) (k : Nat) (f : OneShot → OneShot) : (s.shotUpd k f).dup = s.dup := rfl
@[simp] theorem State.shotUpd_th (s : State) (k : Nat) (f : OneShot → OneShot) : (s.shotUpd k f).th = s.th := rfl
@[simp] theorem State.shotUpd_fw (s : State) (k : Nat) (f : OneShot → OneShot) : (s.shotUpd k f).fw = s.fw := rfl
@[simp] theorem State.shotUpd_el (s : State) (k : Nat) (f : OneShot → OneShot) (i j : Nat) : (s.shotUpd k f).el i j = s.el i j := rfl
@[simp] theorem State.shotUpd_gi (s : State) (k : Nat) (f : OneShot → OneShot) (i j : Nat) : (s.shotUpd k f).gi i j = s.gi i j := rfl
@[simp] theorem State.shotUpd_gn (s : State) (k : Nat) (f : OneShot → OneShot) (i j : Nat) : (s.shotUpd k f).gn i j = s.gn i j := rfl
theorem State.shotUpd_shot_same (s : State) (k : Nat) (f : OneShot → OneShot) (h : s.canonical) : (s.shotUpd k f).shot k = f (s.shot k) :=
  mget_mset_same (fun _ => ({} : OneShot)) s.shots k (f (s.shot k)) h.2.2.2.2.2.2.2.2.2.2.2
theorem State.shotUpd_shot_other (s : State) (k : Nat) (f : OneShot → OneShot) (j : Nat) (h : j ≠ k) : (s.shotUpd k f).shot j = s.shot j :=
  mget_mset_other _ _ _ _ _ _ h

/-! #### `State.euUpd` -/

@[simp] theorem State.euUpd_pending (s : State) (k : Nat) (f : Eu → Eu) : (s.euUpd k f).pending = s.pending := rfl
@[simp] theorem State.euUpd_variant (s : State) (k : Nat) (f : Eu → Eu) : (s.euUpd k f).variant = s.variant := rfl
@[simp] theorem State.euUpd_objs (s : State) (k : Nat) (f : Eu → Eu) : (s.euUpd k f).objs = s.objs := rfl
@[simp] theorem State.euUpd_otp (s : State) (k : Nat) (f : Eu → Eu) : (s.euUpd k f).otp = s.otp := rfl
@[simp] theorem State.euUpd_clk (s : State) (k : Nat) (f : Eu → Eu) : (s.euUpd k f).clk = s.clk := rfl
@[simp] theorem State.euUpd_pwr (s : State) (k : Nat) (f : Eu → Eu) : (s.euUpd k f).pwr = s.pwr := rfl
@[simp] theorem State.euUpd_wd (s : State) (k : Nat) (f : Eu → Eu) : (s.euUpd k f).wd = s.wd := rfl
@[simp] theorem State.euUpd_linkP (s : State) (k : Nat) (f : Eu → Eu) : (s.euUpd k f).linkP = s.linkP := rfl
@[simp] theorem State.euUpd_linkC (s : State) (k : Nat) (f : Eu → Eu) : (s.euUpd k f).linkC = s.linkC := rfl
@[simp] theorem State.euUpd_refused (s : State) (k : Nat) (f : Eu → Eu) : (s.euUpd k f).refused = s.refused := rfl
@[simp] theorem State.euUpd_drivers (s : State) (k : Nat) (f : Eu → Eu) : (s.euUpd k f).drivers = s.drivers := rfl
@[simp] theorem State.euUpd_ls (s : State) (k : Nat) (f : Eu → Eu) : (s.euUpd k f).ls = s.ls := rfl
@[simp] theorem State.euUpd_motors (s : State) (k : Nat) (f : Eu → Eu) : (s.euUpd k f).motors = s.motors := rfl
@[simp] theorem State.euUpd_vmot (s : State) (k : Nat) (f : Eu → Eu) : (s.euUpd k f).vmot = s.vmot := rfl
@[simp] theorem State.euUpd_gov (s : State) (k : Nat) (f : Eu → Eu) : (s.euUpd k f).gov = s.gov := rfl
@[simp] theorem State.euUpd_pairs (s : State) (k : Nat) (f : Eu → Eu) : (s.euUpd k f).pairs = s.pairs := rfl
@[simp] theorem State.euUpd_strs (s : State) (k : Nat) (f : Eu → Eu) : (s.euUpd k f).strs = s.strs := rfl
@[simp] theorem State.euUpd_rings (s : State) (k : Nat) (f : Eu → Eu) : (s.euUpd k f).rings = s.rings := rfl
@[simp] theorem State.euUpd_monitors (s : State) (k : Nat) (f : Eu → Eu) : (s.euUpd k f).monitors = s.monitors := rfl
@[simp] theorem State.euUpd_cells (s : State) (k : Nat) (f : Eu → Eu) : (s.euUpd k f).cells = s.cells := rfl
@[simp] theorem State.euUpd_temps (s : State) (k : Nat) (f : Eu → Eu) : (s.euUpd k f).temps = s.temps := rfl
@[simp] theorem State.euUpd_chans (s : State) (k : Nat) (f : Eu → Eu) : (s.euUpd k f).chans = s.chans := rfl
@[simp] theorem State.euUpd_capture (s : State) (k : Nat) (f : Eu → Eu) : (s.euUpd k f).capture = s.capture := rfl
@[simp] theorem State.euUpd_ev (s : State) (k : Nat) (f : Eu → Eu) : (s.euUpd k f).ev = s.ev := rfl
@[simp] theorem State.euUpd_shots (s : State) (k : Nat) (f : Eu → Eu) : (s.euUpd k f).shots = s.shots := rfl
@[simp] theorem State.euUpd_otest (s : State) (k : Nat) (f : Eu → Eu) : (s.euUpd k f).otest = s.otest := rfl
@[simp] theorem State.euUpd_qlp (s : State) (k : Nat) (f : Eu → Eu) : (s.euUpd k f).qlp = s.qlp := rfl
@[simp] theorem State.euUpd_log (s : State) (k : Nat) (f : Eu → Eu) : (s.euUpd k f).log = s.log := rfl
@[simp] theorem State.euUpd_flash (s : State) (k : Nat) (f : Eu → Eu) : (s.euUpd k f).flash = s.flash := rfl
@[simp] theorem State.euUpd_dup (s : State) (k : Nat) (f : Eu → Eu) : (s.euUpd k f).dup = s.dup := rfl
@[simp] theorem State.euUpd_th (s : State) (k : Nat) (f : Eu → Eu) : (s.euUpd k f).th = s.th := rfl
@[simp] theorem State.euUpd_fw (s : State) (k : Nat) (f : Eu → Eu) : (s.euUpd k f).fw = s.fw := rfl
@[simp] theorem State.euUpd_el (s : State) (k : Nat) (f : Eu → Eu) (i j : Nat) : (s.euUpd k f).el i j = s.el i j := rfl
@[simp] theorem State.euUpd_gi (s : State) (k : Nat) (f : Eu → Eu) (i j : Nat) : (s.euUpd k f).gi i j = s.gi i j := rfl
@[simp] theorem State.euUpd_gn (s : State) (k : Nat) (f : Eu → Eu) (i j : Nat) : (s.euUpd k f).gn i j = s.gn i j := rfl
theorem State.euUpd_eu_other (s : State) (k : Nat) (f : Eu → Eu) (j : Nat) (h : j ≠ k) : (s.euUpd k f).eu j = s.eu j :=
  mget_mset_other _ _ _ _ _ _ h

/-! #### `State.epochUpd` -/

@[simp] theorem State.epochUpd_pending (s : State) (k : Nat) (f : Epoch → Epoch) : (s.epochUpd k f).pending = s.pending := rfl
@[simp] theorem State.epochUpd_variant (s : State) (k : Nat) (f : Epoch → Epoch) : (s.epochUpd k f).variant = s.variant := rfl
@[simp] theorem State.epochUpd_objs (s : State) (k : Nat) (f : Epoch → Epoch) : (s.epochUpd k f).objs = s.objs := rfl
@[simp] theorem State.epochUpd_otp (s : State) (k : Nat) (f : Epoch → Epoch) : (s.epochUpd k f).otp = s.otp := rfl
@[simp] theorem State.epochUpd_clk (s : State) (k : Nat) (f : Epoch → Epoch) : (s.epochUpd k f).clk = s.clk := rfl
@[simp] theorem State.epochUpd_pwr (s : State) (k : Nat) (f : Epoch → Epoch) : (s.epochUpd k f).pwr = s.pwr := rfl
@[simp] theorem State.epochUpd_wd (s : State) (k : Nat) (f : Epoch → Epoch) : (s.epochUpd k f).wd = s.wd := rfl
@[simp] theorem State.epochUpd_linkP (s : State) (k : Nat) (f : Epoch → Epoch) : (s.epochUpd k f).linkP = s.linkP := rfl
@[simp] theorem State.epochUpd_linkC (s : State) (k : Nat) (f : Epoch → Epoch) : (s.epochUpd k f).linkC = s.linkC := rfl
@[simp] theorem State.epochUpd_refused (s : State) (k : Nat) (f : Epoch → Epoch) : (s.epochUpd k f).refused = s.refused := rfl
@[simp] theorem State.epochUpd_drivers (s : State) (k : Nat) (f : Epoch → Epoch) : (s.epochUpd k f).drivers = s.drivers := rfl
@[simp] theorem State.epochUpd_ls (s : State) (k : Nat) (f : Epoch → Epoch) : (s.epochUpd k f).ls = s.ls := rfl
@[simp] theorem State.epochUpd_motors (s : State) (k : Nat) (f : Epoch → Epoch) : (s.epochUpd k f).motors = s.motors := rfl
@[simp] theorem State.epochUpd_vmot (s : State) (k : Nat) (f : Epoch → Epoch) : (s.epochUpd k f).vmot = s.vmot := rfl
@[simp] theorem State.epochUpd_gov (s : State) (k : Nat) (f : Epoch → Epoch) : (s.epochUpd k f).gov = s.gov := rfl
@[simp] theorem State.epochUpd_pairs (s : State) (k : Nat) (f : Epoch → Epoch) : (s.epochUpd k f).pairs = s.pairs := rfl
@[simp] theorem State.epochUpd_strs (s : State) (k : Nat) (f : Epoch → Epoch) : (s.epochUpd k f).strs = s.strs := rfl
@[simp] theorem State.epochUpd_rings (s : State) (k : Nat) (f : Epoch → Epoch) : (s.epochUpd k f).rings = s.rings := rfl
@[simp] theorem State.epochUpd_monitors (s : State) (k : Nat) (f : Epoch → Epoch) : (s.epochUpd k f).monitors = s.monitors := rfl
@[simp] theorem State.epochUpd_cells (s : State) (k : Nat) (f : Epoch → Epoch) : (s.epochUpd k f).cells = s.cells := rfl
@[simp] theorem State.epochUpd_temps (s : State) (k : Nat) (f : Epoch → Epoch) : (s.epochUpd k f).temps = s.temps := rfl
@[simp] theorem State.epochUpd_chans (s : State) (k : Nat) (f : Epoch → Epoch) : (s.epochUpd k f).chans = s.chans := rfl
@[simp] theorem State.epochUpd_capture (s : State) (k : Nat) (f : Epoch → Epoch) : (s.epochUpd k f).capture = s.capture := rfl
@[simp] theorem State.epochUpd_ev (s : State) (k : Nat) (f : Epoch → Epoch) : (s.epochUpd k f).ev = s.ev := rfl
@[simp] theorem State.epochUpd_shots (s : State) (k : Nat) (f : Epoch → Epoch) : (s.epochUpd k f).shots = s.shots := rfl
@[simp] theorem State.epochUpd_otest (s : State) (k : Nat) (f : Epoch → Epoch) : (s.epochUpd k f).otest = s.otest := rfl
@[simp] theorem State.epochUpd_qlp (s : State) (k : Nat) (f : Epoch → Epoch) : (s.epochUpd k f).qlp = s.qlp := rfl
@[simp] theorem State.epochUpd_log (s : State) (k : Nat) (f : Epoch → Epoch) : (s.epochUpd k f).log = s.log := rfl
@[simp] theorem State.epochUpd_flash (s : State) (k : Nat) (f : Epoch → Epoch) : (s.epochUpd k f).flash = s.flash := rfl
@[simp] theorem State.epochUpd_dup (s : State) (k : Nat) (f : Epoch → Epoch) : (s.epochUpd k f).dup = s.dup := rfl
@[simp] theorem State.epochUpd_th (s : State) (k : Nat) (f : Epoch → Epoch) : (s.epochUpd k f).th = s.th := rfl
@[simp] theorem State.epochUpd_fw (s : State) (k : Nat) (f : Epoch → Epoch) : (s.epochUpd k f).fw = s.fw := rfl
@[simp] theorem State.epochUpd_el (s : State) (k : Nat) (f : Epoch → Epoch) (i j : Nat) : (s.epochUpd k f).el i j = s.el i j := rfl
@[simp] theorem State.epochUpd_gi (s : State) (k : Nat) (f : Epoch → Epoch) (i j : Nat) : (s.epochUpd k f).gi i j = s.gi i j := rfl
@[simp] theorem State.epochUpd_gn (s : State) (k : Nat) (f : Epoch → Epoch) (i j : Nat) : (s.epochUpd k f).gn i j = s.gn i j := rfl
theorem State.epochUpd_epoch_other (s : State) (k : Nat) (f : Epoch → Epoch) (j : Nat) (h : j ≠ k) : (s.epochUpd k f).epoch j = s.epoch j :=
  mget_mset_other _ _ _ _ _ _ h

/-! #### `State.regionUpd` -/

@[simp] theorem State.regionUpd_pending (s : State) (k : Nat) (f : Region → Region) : (s.regionUpd k f).pending = s.pending := rfl
@[simp] theorem State.regionUpd_variant (s : State) (k : Nat) (f : Region → Region) : (s.regionUpd k f).variant = s.variant := rfl
@[simp] theorem State.regionUpd_objs (s : State) (k : Nat) (f : Region → Region) : (s.regionUpd k f).objs = s.objs := rfl
@[simp] theorem State.regionUpd_otp (s : State) (k : Nat) (f : Region → Region) : (s.regionUpd k f).otp = s.otp := rfl
@[simp] theorem State.regionUpd_clk (s : State) (k : Nat) (f : Region → Region) : (s.regionUpd k f).clk = s.clk := rfl
@[simp] theorem State.regionUpd_pwr (s : State) (k : Nat) (f : Region → Region) : (s.regionUpd k f).pwr = s.pwr := rfl
@[simp] theorem State.regionUpd_wd (s : State) (k : Nat) (f : Region → Region) : (s.regionUpd k f).wd = s.wd := rfl
@[simp] theorem State.regionUpd_linkP (s : State) (k : Nat) (f : Region → Region) : (s.regionUpd k f).linkP = s.linkP := rfl
@[simp] theorem State.regionUpd_linkC (s : State) (k : Nat) (f : Region → Region) : (s.regionUpd k f).linkC = s.linkC := rfl
@[simp] theorem State.regionUpd_refused (s : State) (k : Nat) (f : Region → Region) : (s.regionUpd k f).refused = s.refused := rfl
@[simp] theorem State.regionUpd_drivers (s : State) (k : Nat) (f : Region → Region) : (s.regionUpd k f).drivers = s.drivers := rfl
@[simp] theorem State.regionUpd_ls (s : State) (k : Nat) (f : Region → Region) : (s.regionUpd k f).ls = s.ls := rfl
@[simp] theorem State.regionUpd_motors (s : State) (k : Nat) (f : Region → Region) : (s.regionUpd k f).motors = s.motors := rfl
@[simp] theorem State.regionUpd_vmot (s : State) (k : Nat) (f : Region → Region) : (s.regionUpd k f).vmot = s.vmot := rfl
@[simp] theorem State.regionUpd_gov (s : State) (k : Nat) (f : Region → Region) : (s.regionUpd k f).gov = s.gov := rfl
@[simp] theorem State.regionUpd_pairs (s : State) (k : Nat) (f : Region → Region) : (s.regionUpd k f).pairs = s.pairs := rfl
@[simp] theorem State.regionUpd_strs (s : State) (k : Nat) (f : Region → Region) : (s.regionUpd k f).strs = s.strs := rfl
@[simp] theorem State.regionUpd_rings (s : State) (k : Nat) (f : Region → Region) : (s.regionUpd k f).rings = s.rings := rfl
@[simp] theorem State.regionUpd_monitors (s : State) (k : Nat) (f : Region → Region) : (s.regionUpd k f).monitors = s.monitors := rfl
@[simp] theorem State.regionUpd_cells (s : State) (k : Nat) (f : Region → Region) : (s.regionUpd k f).cells = s.cells := rfl
@[simp] theorem State.regionUpd_temps (s : State) (k : Nat) (f : Region → Region) : (s.regionUpd k f).temps = s.temps := rfl
@[simp] theorem State.regionUpd_chans (s : State) (k : Nat) (f : Region → Region) : (s.regionUpd k f).chans = s.chans := rfl
@[simp] theorem State.regionUpd_capture (s : State) (k : Nat) (f : Region → Region) : (s.regionUpd k f).capture = s.capture := rfl
@[simp] theorem State.regionUpd_ev (s : State) (k : Nat) (f : Region → Region) : (s.regionUpd k f).ev = s.ev := rfl
@[simp] theorem State.regionUpd_shots (s : State) (k : Nat) (f : Region → Region) : (s.regionUpd k f).shots = s.shots := rfl
@[simp] theorem State.regionUpd_otest (s : State) (k : Nat) (f : Region → Region) : (s.regionUpd k f).otest = s.otest := rfl
@[simp] theorem State.regionUpd_qlp (s : State) (k : Nat) (f : Region → Region) : (s.regionUpd k f).qlp = s.qlp := rfl
@[simp] theorem State.regionUpd_log (s : State) (k : Nat) (f : Region → Region) : (s.regionUpd k f).log = s.log := rfl
@[simp] theorem State.regionUpd_flash (s : State) (k : Nat) (f : Region → Region) : (s.regionUpd k f).flash = s.flash := rfl
@[simp] theorem State.regionUpd_dup (s : State) (k : Nat) (f : Region → Region) : (s.regionUpd k f).dup = s.dup := rfl
@[simp] theorem State.regionUpd_th (s : State) (k : Nat) (f : Region → Region) : (s.regionUpd k f).th = s.th := rfl
@[simp] theorem State.regionUpd_fw (s : State) (k : Nat) (f : Region → Region) : (s.regionUpd k f).fw = s.fw := rfl
@[simp] theorem State.regionUpd_el (s : State) (k : Nat) (f : Region → Region) (i j : Nat) : (s.regionUpd k f).el i j = s.el i j := rfl
@[simp] theorem State.regionUpd_gi (s : State) (k : Nat) (f : Region → Region) (i j : Nat) : (s.regionUpd k f).gi i j = s.gi i j := rfl
@[simp] theorem State.regionUpd_gn (s : State) (k : Nat) (f : Region → Region) (i j : Nat) : (s.regionUpd k f).gn i j = s.gn i j := rfl
theorem State.regionUpd_region_other (s : State) (k : Nat) (f : Region → Region) (j : Nat) (h : j ≠ k) : (s.regionUpd k f).region j = s.region j :=
  mget_mset_other _ _ _ _ _ _ h

/-! #### `State.pubUpd` -/

@[simp] theorem State.pubUpd_pending (s : State) (k : Nat) (f : CellEst → CellEst) : (s.pubUpd k f).pending = s.pending := rfl
@[simp] theorem State.pubUpd_variant (s : State) (k : Nat) (f : CellEst → CellEst) : (s.pubUpd k f).variant = s.variant := rfl
@[simp] theorem State.pubUpd_objs (s : State) (k : Nat) (f : CellEst → CellEst) : (s.pubUpd k f).objs = s.objs := rfl
@[simp] theorem State.pubUpd_otp (s : State) (k : Nat) (f : CellEst → CellEst) : (s.pubUpd k f).otp = s.otp := rfl
@[simp] theorem State.pubUpd_clk (s : State) (k : Nat) (f : CellEst → CellEst) : (s.pubUpd k f).clk = s.clk := rfl
@[simp] theorem State.pubUpd_pwr (s : State) (k : Nat) (f : CellEst → CellEst) : (s.pubUpd k f).pwr = s.pwr := rfl
@[simp] theorem State.pubUpd_wd (s : State) (k : Nat) (f : CellEst → CellEst) : (s.pubUpd k f).wd = s.wd := rfl
@[simp] theorem State.pubUpd_linkP (s : State) (k : Nat) (f : CellEst → CellEst) : (s.pubUpd k f).linkP = s.linkP := rfl
@[simp] theorem State.pubUpd_linkC (s : State) (k : Nat) (f : CellEst → CellEst) : (s.pubUpd k f).linkC = s.linkC := rfl
@[simp] theorem State.pubUpd_refused (s : State) (k : Nat) (f : CellEst → CellEst) : (s.pubUpd k f).refused = s.refused := rfl
@[simp] theorem State.pubUpd_drivers (s : State) (k : Nat) (f : CellEst → CellEst) : (s.pubUpd k f).drivers = s.drivers := rfl
@[simp] theorem State.pubUpd_ls (s : State) (k : Nat) (f : CellEst → CellEst) : (s.pubUpd k f).ls = s.ls := rfl
@[simp] theorem State.pubUpd_motors (s : State) (k : Nat) (f : CellEst → CellEst) : (s.pubUpd k f).motors = s.motors := rfl
@[simp] theorem State.pubUpd_vmot (s : State) (k : Nat) (f : CellEst → CellEst) : (s.pubUpd k f).vmot = s.vmot := rfl
@[simp] theorem State.pubUpd_gov (s : State) (k : Nat) (f : CellEst → CellEst) : (s.pubUpd k f).gov = s.gov := rfl
@[simp] theorem State.pubUpd_pairs (s : State) (k : Nat) (f : CellEst → CellEst) : (s.pubUpd k f).pairs = s.pairs := rfl
@[simp] theorem State.pubUpd_strs (s : State) (k : Nat) (f : CellEst → CellEst) : (s.pubUpd k f).strs = s.strs := rfl
@[simp] theorem State.pubUpd_rings (s : State) (k : Nat) (f : CellEst → CellEst) : (s.pubUpd k f).rings = s.rings := rfl
@[simp] theorem State.pubUpd_monitors (s : State) (k : Nat) (f : CellEst → CellEst) : (s.pubUpd k f).monitors = s.monitors := rfl
@[simp] theorem State.pubUpd_cells (s : State) (k : Nat) (f : CellEst → CellEst) : (s.pubUpd k f).cells = s.cells := rfl
@[simp] theorem State.pubUpd_temps (s : State) (k : Nat) (f : CellEst → CellEst) : (s.pubUpd k f).temps = s.temps := rfl
@[simp] theorem State.pubUpd_chans (s : State) (k : Nat) (f : CellEst → CellEst) : (s.pubUpd k f).chans = s.chans := rfl
@[simp] theorem State.pubUpd_capture (s : State) (k : Nat) (f : CellEst → CellEst) : (s.pubUpd k f).capture = s.capture := rfl
@[simp] theorem State.pubUpd_ev (s : State) (k : Nat) (f : CellEst → CellEst) : (s.pubUpd k f).ev = s.ev := rfl
@[simp] theorem State.pubUpd_shots (s : State) (k : Nat) (f : CellEst → CellEst) : (s.pubUpd k f).shots = s.shots := rfl
@[simp] theorem State.pubUpd_otest (s : State) (k : Nat) (f : CellEst → CellEst) : (s.pubUpd k f).otest = s.otest := rfl
@[simp] theorem State.pubUpd_qlp (s : State) (k : Nat) (f : CellEst → CellEst) : (s.pubUpd k f).qlp = s.qlp := rfl
@[simp] theorem State.pubUpd_log (s : State) (k : Nat) (f : CellEst → CellEst) : (s.pubUpd k f).log = s.log := rfl
@[simp] theorem State.pubUpd_flash (s : State) (k : Nat) (f : CellEst → CellEst) : (s.pubUpd k f).flash = s.flash := rfl
@[simp] theorem State.pubUpd_dup (s : State) (k : Nat) (f : CellEst → CellEst) : (s.pubUpd k f).dup = s.dup := rfl
@[simp] theorem State.pubUpd_th (s : State) (k : Nat) (f : CellEst → CellEst) : (s.pubUpd k f).th = s.th := rfl
@[simp] theorem State.pubUpd_fw (s : State) (k : Nat) (f : CellEst → CellEst) : (s.pubUpd k f).fw = s.fw := rfl
@[simp] theorem State.pubUpd_el (s : State) (k : Nat) (f : CellEst → CellEst) (i j : Nat) : (s.pubUpd k f).el i j = s.el i j := rfl
@[simp] theorem State.pubUpd_gi (s : State) (k : Nat) (f : CellEst → CellEst) (i j : Nat) : (s.pubUpd k f).gi i j = s.gi i j := rfl
@[simp] theorem State.pubUpd_gn (s : State) (k : Nat) (f : CellEst → CellEst) (i j : Nat) : (s.pubUpd k f).gn i j = s.gn i j := rfl
theorem State.pubUpd_pub_other (s : State) (k : Nat) (f : CellEst → CellEst) (j : Nat) (h : j ≠ k) : (s.pubUpd k f).pub j = s.pub j :=
  mget_mset_other _ _ _ _ _ _ h

/-! #### `State.estUpd` -/

@[simp] theorem State.estUpd_pending (s : State) (k : Nat) (f : CellEst → CellEst) : (s.estUpd k f).pending = s.pending := rfl
@[simp] theorem State.estUpd_variant (s : State) (k : Nat) (f : CellEst → CellEst) : (s.estUpd k f).variant = s.variant := rfl
@[simp] theorem State.estUpd_objs (s : State) (k : Nat) (f : CellEst → CellEst) : (s.estUpd k f).objs = s.objs := rfl
@[simp] theorem State.estUpd_otp (s : State) (k : Nat) (f : CellEst → CellEst) : (s.estUpd k f).otp = s.otp := rfl
@[simp] theorem State.estUpd_clk (s : State) (k : Nat) (f : CellEst → CellEst) : (s.estUpd k f).clk = s.clk := rfl
@[simp] theorem State.estUpd_pwr (s : State) (k : Nat) (f : CellEst → CellEst) : (s.estUpd k f).pwr = s.pwr := rfl
@[simp] theorem State.estUpd_wd (s : State) (k : Nat) (f : CellEst → CellEst) : (s.estUpd k f).wd = s.wd := rfl
@[simp] theorem State.estUpd_linkP (s : State) (k : Nat) (f : CellEst → CellEst) : (s.estUpd k f).linkP = s.linkP := rfl
@[simp] theorem State.estUpd_linkC (s : State) (k : Nat) (f : CellEst → CellEst) : (s.estUpd k f).linkC = s.linkC := rfl
@[simp] theorem State.estUpd_refused (s : State) (k : Nat) (f : CellEst → CellEst) : (s.estUpd k f).refused = s.refused := rfl
@[simp] theorem State.estUpd_drivers (s : State) (k : Nat) (f : CellEst → CellEst) : (s.estUpd k f).drivers = s.drivers := rfl
@[simp] theorem State.estUpd_ls (s : State) (k : Nat) (f : CellEst → CellEst) : (s.estUpd k f).ls = s.ls := rfl
@[simp] theorem State.estUpd_motors (s : State) (k : Nat) (f : CellEst → CellEst) : (s.estUpd k f).motors = s.motors := rfl
@[simp] theorem State.estUpd_vmot (s : State) (k : Nat) (f : CellEst → CellEst) : (s.estUpd k f).vmot = s.vmot := rfl
@[simp] theorem State.estUpd_gov (s : State) (k : Nat) (f : CellEst → CellEst) : (s.estUpd k f).gov = s.gov := rfl
@[simp] theorem State.estUpd_pairs (s : State) (k : Nat) (f : CellEst → CellEst) : (s.estUpd k f).pairs = s.pairs := rfl
@[simp] theorem State.estUpd_strs (s : State) (k : Nat) (f : CellEst → CellEst) : (s.estUpd k f).strs = s.strs := rfl
@[simp] theorem State.estUpd_rings (s : State) (k : Nat) (f : CellEst → CellEst) : (s.estUpd k f).rings = s.rings := rfl
@[simp] theorem State.estUpd_monitors (s : State) (k : Nat) (f : CellEst → CellEst) : (s.estUpd k f).monitors = s.monitors := rfl
@[simp] theorem State.estUpd_cells (s : State) (k : Nat) (f : CellEst → CellEst) : (s.estUpd k f).cells = s.cells := rfl
@[simp] theorem State.estUpd_temps (s : State) (k : Nat) (f : CellEst → CellEst) : (s.estUpd k f).temps = s.temps := rfl
@[simp] theorem State.estUpd_chans (s : State) (k : Nat) (f : CellEst → CellEst) : (s.estUpd k f).chans = s.chans := rfl
@[simp] theorem State.estUpd_capture (s : State) (k : Nat) (f : CellEst → CellEst) : (s.estUpd k f).capture = s.capture := rfl
@[simp] theorem State.estUpd_ev (s : State) (k : Nat) (f : CellEst → CellEst) : (s.estUpd k f).ev = s.ev := rfl
@[simp] theorem State.estUpd_shots (s : State) (k : Nat) (f : CellEst → CellEst) : (s.estUpd k f).shots = s.shots := rfl
@[simp] theorem State.estUpd_otest (s : State) (k : Nat) (f : CellEst → CellEst) : (s.estUpd k f).otest = s.otest := rfl
@[simp] theorem State.estUpd_qlp (s : State) (k : Nat) (f : CellEst → CellEst) : (s.estUpd k f).qlp = s.qlp := rfl
@[simp] theorem State.estUpd_log (s : State) (k : Nat) (f : CellEst → CellEst) : (s.estUpd k f).log = s.log := rfl
@[simp] theorem State.estUpd_flash (s : State) (k : Nat) (f : CellEst → CellEst) : (s.estUpd k f).flash = s.flash := rfl
@[simp] theorem State.estUpd_dup (s : State) (k : Nat) (f : CellEst → CellEst) : (s.estUpd k f).dup = s.dup := rfl
@[simp] theorem State.estUpd_th (s : State) (k : Nat) (f : CellEst → CellEst) : (s.estUpd k f).th = s.th := rfl
@[simp] theorem State.estUpd_fw (s : State) (k : Nat) (f : CellEst → CellEst) : (s.estUpd k f).fw = s.fw := rfl
@[simp] theorem State.estUpd_el (s : State) (k : Nat) (f : CellEst → CellEst) (i j : Nat) : (s.estUpd k f).el i j = s.el i j := rfl
@[simp] theorem State.estUpd_gi (s : State) (k : Nat) (f : CellEst → CellEst) (i j : Nat) : (s.estUpd k f).gi i j = s.gi i j := rfl
@[simp] theorem State.estUpd_gn (s : State) (k : Nat) (f : CellEst → CellEst) (i j : Nat) : (s.estUpd k f).gn i j = s.gn i j := rfl
theorem State.estUpd_est_other (s : State) (k : Nat) (f : CellEst → CellEst) (j : Nat) (h : j ≠ k) : (s.estUpd k f).est j = s.est j :=
  mget_mset_other _ _ _ _ _ _ h

/-! #### `State.restUpd` -/

@[simp] theorem State.restUpd_pending (s : State) (k : Nat) (f : Rest → Rest) : (s.restUpd k f).pending = s.pending := rfl
@[simp] theorem State.restUpd_variant (s : State) (k : Nat) (f : Rest → Rest) : (s.restUpd k f).variant = s.variant := rfl
@[simp] theorem State.restUpd_objs (s : State) (k : Nat) (f : Rest → Rest) : (s.restUpd k f).objs = s.objs := rfl
@[simp] theorem State.restUpd_otp (s : State) (k : Nat) (f : Rest → Rest) : (s.restUpd k f).otp = s.otp := rfl
@[simp] theorem State.restUpd_clk (s : State) (k : Nat) (f : Rest → Rest) : (s.restUpd k f).clk = s.clk := rfl
@[simp] theorem State.restUpd_pwr (s : State) (k : Nat) (f : Rest → Rest) : (s.restUpd k f).pwr = s.pwr := rfl
@[simp] theorem State.restUpd_wd (s : State) (k : Nat) (f : Rest → Rest) : (s.restUpd k f).wd = s.wd := rfl
@[simp] theorem State.restUpd_linkP (s : State) (k : Nat) (f : Rest → Rest) : (s.restUpd k f).linkP = s.linkP := rfl
@[simp] theorem State.restUpd_linkC (s : State) (k : Nat) (f : Rest → Rest) : (s.restUpd k f).linkC = s.linkC := rfl
@[simp] theorem State.restUpd_refused (s : State) (k : Nat) (f : Rest → Rest) : (s.restUpd k f).refused = s.refused := rfl
@[simp] theorem State.restUpd_drivers (s : State) (k : Nat) (f : Rest → Rest) : (s.restUpd k f).drivers = s.drivers := rfl
@[simp] theorem State.restUpd_ls (s : State) (k : Nat) (f : Rest → Rest) : (s.restUpd k f).ls = s.ls := rfl
@[simp] theorem State.restUpd_motors (s : State) (k : Nat) (f : Rest → Rest) : (s.restUpd k f).motors = s.motors := rfl
@[simp] theorem State.restUpd_vmot (s : State) (k : Nat) (f : Rest → Rest) : (s.restUpd k f).vmot = s.vmot := rfl
@[simp] theorem State.restUpd_gov (s : State) (k : Nat) (f : Rest → Rest) : (s.restUpd k f).gov = s.gov := rfl
@[simp] theorem State.restUpd_pairs (s : State) (k : Nat) (f : Rest → Rest) : (s.restUpd k f).pairs = s.pairs := rfl
@[simp] theorem State.restUpd_strs (s : State) (k : Nat) (f : Rest → Rest) : (s.restUpd k f).strs = s.strs := rfl
@[simp] theorem State.restUpd_rings (s : State) (k : Nat) (f : Rest → Rest) : (s.restUpd k f).rings = s.rings := rfl
@[simp] theorem State.restUpd_monitors (s : State) (k : Nat) (f : Rest → Rest) : (s.restUpd k f).monitors = s.monitors := rfl
@[simp] theorem State.restUpd_cells (s : State) (k : Nat) (f : Rest → Rest) : (s.restUpd k f).cells = s.cells := rfl
@[simp] theorem State.restUpd_temps (s : State) (k : Nat) (f : Rest → Rest) : (s.restUpd k f).temps = s.temps := rfl
@[simp] theorem State.restUpd_chans (s : State) (k : Nat) (f : Rest → Rest) : (s.restUpd k f).chans = s.chans := rfl
@[simp] theorem State.restUpd_capture (s : State) (k : Nat) (f : Rest → Rest) : (s.restUpd k f).capture = s.capture := rfl
@[simp] theorem State.restUpd_ev (s : State) (k : Nat) (f : Rest → Rest) : (s.restUpd k f).ev = s.ev := rfl
@[simp] theorem State.restUpd_shots (s : State) (k : Nat) (f : Rest → Rest) : (s.restUpd k f).shots = s.shots := rfl
@[simp] theorem State.restUpd_otest (s : State) (k : Nat) (f : Rest → Rest) : (s.restUpd k f).otest = s.otest := rfl
@[simp] theorem State.restUpd_qlp (s : State) (k : Nat) (f : Rest → Rest) : (s.restUpd k f).qlp = s.qlp := rfl
@[simp] theorem State.restUpd_log (s : State) (k : Nat) (f : Rest → Rest) : (s.restUpd k f).log = s.log := rfl
@[simp] theorem State.restUpd_flash (s : State) (k : Nat) (f : Rest → Rest) : (s.restUpd k f).flash = s.flash := rfl
@[simp] theorem State.restUpd_dup (s : State) (k : Nat) (f : Rest → Rest) : (s.restUpd k f).dup = s.dup := rfl
@[simp] theorem State.restUpd_th (s : State) (k : Nat) (f : Rest → Rest) : (s.restUpd k f).th = s.th := rfl
@[simp] theorem State.restUpd_fw (s : State) (k : Nat) (f : Rest → Rest) : (s.restUpd k f).fw = s.fw := rfl
@[simp] theorem State.restUpd_el (s : State) (k : Nat) (f : Rest → Rest) (i j : Nat) : (s.restUpd k f).el i j = s.el i j := rfl
@[simp] theorem State.restUpd_gi (s : State) (k : Nat) (f : Rest → Rest) (i j : Nat) : (s.restUpd k f).gi i j = s.gi i j := rfl
@[simp] theorem State.restUpd_gn (s : State) (k : Nat) (f : Rest → Rest) (i j : Nat) : (s.restUpd k f).gn i j = s.gn i j := rfl
theorem State.restUpd_rest_other (s : State) (k : Nat) (f : Rest → Rest) (j : Nat) (h : j ≠ k) : (s.restUpd k f).rest j = s.rest j :=
  mget_mset_other _ _ _ _ _ _ h

/-! #### `State.canUpd` -/

@[simp] theorem State.canUpd_pending (s : State) (k : Nat) (f : CanTx → CanTx) : (s.canUpd k f).pending = s.pending := rfl
@[simp] theorem State.canUpd_variant (s : State) (k : Nat) (f : CanTx → CanTx) : (s.canUpd k f).variant = s.variant := rfl
@[simp] theorem State.canUpd_objs (s : State) (k : Nat) (f : CanTx → CanTx) : (s.canUpd k f).objs = s.objs := rfl
@[simp] theorem State.canUpd_otp (s : State) (k : Nat) (f : CanTx → CanTx) : (s.canUpd k f).otp = s.otp := rfl
@[simp] theorem State.canUpd_clk (s : State) (k : Nat) (f : CanTx → CanTx) : (s.canUpd k f).clk = s.clk := rfl
@[simp] theorem State.canUpd_pwr (s : State) (k : Nat) (f : CanTx → CanTx) : (s.canUpd k f).pwr = s.pwr := rfl
@[simp] theorem State.canUpd_wd (s : State) (k : Nat) (f : CanTx → CanTx) : (s.canUpd k f).wd = s.wd := rfl
@[simp] theorem State.canUpd_linkP (s : State) (k : Nat) (f : CanTx → CanTx) : (s.canUpd k f).linkP = s.linkP := rfl
@[simp] theorem State.canUpd_linkC (s : State) (k : Nat) (f : CanTx → CanTx) : (s.canUpd k f).linkC = s.linkC := rfl
@[simp] theorem State.canUpd_refused (s : State) (k : Nat) (f : CanTx → CanTx) : (s.canUpd k f).refused = s.refused := rfl
@[simp] theorem State.canUpd_drivers (s : State) (k : Nat) (f : CanTx → CanTx) : (s.canUpd k f).drivers = s.drivers := rfl
@[simp] theorem State.canUpd_ls (s : State) (k : Nat) (f : CanTx → CanTx) : (s.canUpd k f).ls = s.ls := rfl
@[simp] theorem State.canUpd_motors (s : State) (k : Nat) (f : CanTx → CanTx) : (s.canUpd k f).motors = s.motors := rfl
@[simp] theorem State.canUpd_vmot (s : State) (k : Nat) (f : CanTx → CanTx) : (s.canUpd k f).vmot = s.vmot := rfl
@[simp] theorem State.canUpd_gov (s : State) (k : Nat) (f : CanTx → CanTx) : (s.canUpd k f).gov = s.gov := rfl
@[simp] theorem State.canUpd_pairs (s : State) (k : Nat) (f : CanTx → CanTx) : (s.canUpd k f).pairs = s.pairs := rfl
@[simp] theorem State.canUpd_strs (s : State) (k : Nat) (f : CanTx → CanTx) : (s.canUpd k f).strs = s.strs := rfl
@[simp] theorem State.canUpd_rings (s : State) (k : Nat) (f : CanTx → CanTx) : (s.canUpd k f).rings = s.rings := rfl
@[simp] theorem State.canUpd_monitors (s : State) (k : Nat) (f : CanTx → CanTx) : (s.canUpd k f).monitors = s.monitors := rfl
@[simp] theorem State.canUpd_cells (s : State) (k : Nat) (f : CanTx → CanTx) : (s.canUpd k f).cells = s.cells := rfl
@[simp] theorem State.canUpd_temps (s : State) (k : Nat) (f : CanTx → CanTx) : (s.canUpd k f).temps = s.temps := rfl
@[simp] theorem State.canUpd_chans (s : State) (k : Nat) (f : CanTx → CanTx) : (s.canUpd k f).chans = s.chans := rfl
@[simp] theorem State.canUpd_capture (s : State) (k : Nat) (f : CanTx → CanTx) : (s.canUpd k f).capture = s.capture := rfl
@[simp] theorem State.canUpd_ev (s : State) (k : Nat) (f : CanTx → CanTx) : (s.canUpd k f).ev = s.ev := rfl
@[simp] theorem State.canUpd_fab (s : State) (k : Nat) (f : CanTx → CanTx) : (s.canUpd k f).fab = s.fab := rfl
@[simp] theorem State.canUpd_shots (s : State) (k : Nat) (f : CanTx → CanTx) : (s.canUpd k f).shots = s.shots := rfl
@[simp] theorem State.canUpd_otest (s : State) (k : Nat) (f : CanTx → CanTx) : (s.canUpd k f).otest = s.otest := rfl
@[simp] theorem State.canUpd_log (s : State) (k : Nat) (f : CanTx → CanTx) : (s.canUpd k f).log = s.log := rfl
@[simp] theorem State.canUpd_flash (s : State) (k : Nat) (f : CanTx → CanTx) : (s.canUpd k f).flash = s.flash := rfl
@[simp] theorem State.canUpd_dup (s : State) (k : Nat) (f : CanTx → CanTx) : (s.canUpd k f).dup = s.dup := rfl
@[simp] theorem State.canUpd_th (s : State) (k : Nat) (f : CanTx → CanTx) : (s.canUpd k f).th = s.th := rfl
@[simp] theorem State.canUpd_fw (s : State) (k : Nat) (f : CanTx → CanTx) : (s.canUpd k f).fw = s.fw := rfl
@[simp] theorem State.canUpd_el (s : State) (k : Nat) (f : CanTx → CanTx) (i j : Nat) : (s.canUpd k f).el i j = s.el i j := rfl
@[simp] theorem State.canUpd_gi (s : State) (k : Nat) (f : CanTx → CanTx) (i j : Nat) : (s.canUpd k f).gi i j = s.gi i j := rfl
@[simp] theorem State.canUpd_gn (s : State) (k : Nat) (f : CanTx → CanTx) (i j : Nat) : (s.canUpd k f).gn i j = s.gn i j := rfl
theorem State.canUpd_can_other (s : State) (k : Nat) (f : CanTx → CanTx) (j : Nat) (h : j ≠ k) : (s.canUpd k f).can j = s.can j :=
  mget_mset_other _ _ _ _ _ _ h

/-! #### `State.slotUpd` -/

@[simp] theorem State.slotUpd_pending (s : State) (k : Nat) (f : FwSlot → FwSlot) : (s.slotUpd k f).pending = s.pending := rfl
@[simp] theorem State.slotUpd_variant (s : State) (k : Nat) (f : FwSlot → FwSlot) : (s.slotUpd k f).variant = s.variant := rfl
@[simp] theorem State.slotUpd_objs (s : State) (k : Nat) (f : FwSlot → FwSlot) : (s.slotUpd k f).objs = s.objs := rfl
@[simp] theorem State.slotUpd_otp (s : State) (k : Nat) (f : FwSlot → FwSlot) : (s.slotUpd k f).otp = s.otp := rfl
@[simp] theorem State.slotUpd_clk (s : State) (k : Nat) (f : FwSlot → FwSlot) : (s.slotUpd k f).clk = s.clk := rfl
@[simp] theorem State.slotUpd_pwr (s : State) (k : Nat) (f : FwSlot → FwSlot) : (s.slotUpd k f).pwr = s.pwr := rfl
@[simp] theorem State.slotUpd_wd (s : State) (k : Nat) (f : FwSlot → FwSlot) : (s.slotUpd k f).wd = s.wd := rfl
@[simp] theorem State.slotUpd_linkP (s : State) (k : Nat) (f : FwSlot → FwSlot) : (s.slotUpd k f).linkP = s.linkP := rfl
@[simp] theorem State.slotUpd_linkC (s : State) (k : Nat) (f : FwSlot → FwSlot) : (s.slotUpd k f).linkC = s.linkC := rfl
@[simp] theorem State.slotUpd_refused (s : State) (k : Nat) (f : FwSlot → FwSlot) : (s.slotUpd k f).refused = s.refused := rfl
@[simp] theorem State.slotUpd_drivers (s : State) (k : Nat) (f : FwSlot → FwSlot) : (s.slotUpd k f).drivers = s.drivers := rfl
@[simp] theorem State.slotUpd_ls (s : State) (k : Nat) (f : FwSlot → FwSlot) : (s.slotUpd k f).ls = s.ls := rfl
@[simp] theorem State.slotUpd_motors (s : State) (k : Nat) (f : FwSlot → FwSlot) : (s.slotUpd k f).motors = s.motors := rfl
@[simp] theorem State.slotUpd_vmot (s : State) (k : Nat) (f : FwSlot → FwSlot) : (s.slotUpd k f).vmot = s.vmot := rfl
@[simp] theorem State.slotUpd_gov (s : State) (k : Nat) (f : FwSlot → FwSlot) : (s.slotUpd k f).gov = s.gov := rfl
@[simp] theorem State.slotUpd_pairs (s : State) (k : Nat) (f : FwSlot → FwSlot) : (s.slotUpd k f).pairs = s.pairs := rfl
@[simp] theorem State.slotUpd_strs (s : State) (k : Nat) (f : FwSlot → FwSlot) : (s.slotUpd k f).strs = s.strs := rfl
@[simp] theorem State.slotUpd_rings (s : State) (k : Nat) (f : FwSlot → FwSlot) : (s.slotUpd k f).rings = s.rings := rfl
@[simp] theorem State.slotUpd_monitors (s : State) (k : Nat) (f : FwSlot → FwSlot) : (s.slotUpd k f).monitors = s.monitors := rfl
@[simp] theorem State.slotUpd_cells (s : State) (k : Nat) (f : FwSlot → FwSlot) : (s.slotUpd k f).cells = s.cells := rfl
@[simp] theorem State.slotUpd_temps (s : State) (k : Nat) (f : FwSlot → FwSlot) : (s.slotUpd k f).temps = s.temps := rfl
@[simp] theorem State.slotUpd_chans (s : State) (k : Nat) (f : FwSlot → FwSlot) : (s.slotUpd k f).chans = s.chans := rfl
@[simp] theorem State.slotUpd_capture (s : State) (k : Nat) (f : FwSlot → FwSlot) : (s.slotUpd k f).capture = s.capture := rfl
@[simp] theorem State.slotUpd_ev (s : State) (k : Nat) (f : FwSlot → FwSlot) : (s.slotUpd k f).ev = s.ev := rfl
@[simp] theorem State.slotUpd_fab (s : State) (k : Nat) (f : FwSlot → FwSlot) : (s.slotUpd k f).fab = s.fab := rfl
@[simp] theorem State.slotUpd_shots (s : State) (k : Nat) (f : FwSlot → FwSlot) : (s.slotUpd k f).shots = s.shots := rfl
@[simp] theorem State.slotUpd_otest (s : State) (k : Nat) (f : FwSlot → FwSlot) : (s.slotUpd k f).otest = s.otest := rfl
@[simp] theorem State.slotUpd_qlp (s : State) (k : Nat) (f : FwSlot → FwSlot) : (s.slotUpd k f).qlp = s.qlp := rfl
@[simp] theorem State.slotUpd_log (s : State) (k : Nat) (f : FwSlot → FwSlot) : (s.slotUpd k f).log = s.log := rfl
@[simp] theorem State.slotUpd_dup (s : State) (k : Nat) (f : FwSlot → FwSlot) : (s.slotUpd k f).dup = s.dup := rfl
@[simp] theorem State.slotUpd_th (s : State) (k : Nat) (f : FwSlot → FwSlot) : (s.slotUpd k f).th = s.th := rfl
@[simp] theorem State.slotUpd_fw (s : State) (k : Nat) (f : FwSlot → FwSlot) : (s.slotUpd k f).fw = s.fw := rfl
@[simp] theorem State.slotUpd_el (s : State) (k : Nat) (f : FwSlot → FwSlot) (i j : Nat) : (s.slotUpd k f).el i j = s.el i j := rfl
@[simp] theorem State.slotUpd_gi (s : State) (k : Nat) (f : FwSlot → FwSlot) (i j : Nat) : (s.slotUpd k f).gi i j = s.gi i j := rfl
@[simp] theorem State.slotUpd_gn (s : State) (k : Nat) (f : FwSlot → FwSlot) (i j : Nat) : (s.slotUpd k f).gn i j = s.gn i j := rfl
theorem State.slotUpd_slot_other (s : State) (k : Nat) (f : FwSlot → FwSlot) (j : Nat) (h : j ≠ k) : (s.slotUpd k f).slot j = s.slot j :=
  mget_mset_other _ _ _ _ _ _ h

/-! #### `State.scopeUpd` -/

@[simp] theorem State.scopeUpd_pending (s : State) (k : Nat) (f : Scope → Scope) : (s.scopeUpd k f).pending = s.pending := rfl
@[simp] theorem State.scopeUpd_variant (s : State) (k : Nat) (f : Scope → Scope) : (s.scopeUpd k f).variant = s.variant := rfl
@[simp] theorem State.scopeUpd_objs (s : State) (k : Nat) (f : Scope → Scope) : (s.scopeUpd k f).objs = s.objs := rfl
@[simp] theorem State.scopeUpd_otp (s : State) (k : Nat) (f : Scope → Scope) : (s.scopeUpd k f).otp = s.otp := rfl
@[simp] theorem State.scopeUpd_clk (s : State) (k : Nat) (f : Scope → Scope) : (s.scopeUpd k f).clk = s.clk := rfl
@[simp] theorem State.scopeUpd_pwr (s : State) (k : Nat) (f : Scope → Scope) : (s.scopeUpd k f).pwr = s.pwr := rfl
@[simp] theorem State.scopeUpd_wd (s : State) (k : Nat) (f : Scope → Scope) : (s.scopeUpd k f).wd = s.wd := rfl
@[simp] theorem State.scopeUpd_linkP (s : State) (k : Nat) (f : Scope → Scope) : (s.scopeUpd k f).linkP = s.linkP := rfl
@[simp] theorem State.scopeUpd_linkC (s : State) (k : Nat) (f : Scope → Scope) : (s.scopeUpd k f).linkC = s.linkC := rfl
@[simp] theorem State.scopeUpd_refused (s : State) (k : Nat) (f : Scope → Scope) : (s.scopeUpd k f).refused = s.refused := rfl
@[simp] theorem State.scopeUpd_drivers (s : State) (k : Nat) (f : Scope → Scope) : (s.scopeUpd k f).drivers = s.drivers := rfl
@[simp] theorem State.scopeUpd_ls (s : State) (k : Nat) (f : Scope → Scope) : (s.scopeUpd k f).ls = s.ls := rfl
@[simp] theorem State.scopeUpd_motors (s : State) (k : Nat) (f : Scope → Scope) : (s.scopeUpd k f).motors = s.motors := rfl
@[simp] theorem State.scopeUpd_vmot (s : State) (k : Nat) (f : Scope → Scope) : (s.scopeUpd k f).vmot = s.vmot := rfl
@[simp] theorem State.scopeUpd_gov (s : State) (k : Nat) (f : Scope → Scope) : (s.scopeUpd k f).gov = s.gov := rfl
@[simp] theorem State.scopeUpd_pairs (s : State) (k : Nat) (f : Scope → Scope) : (s.scopeUpd k f).pairs = s.pairs := rfl
@[simp] theorem State.scopeUpd_strs (s : State) (k : Nat) (f : Scope → Scope) : (s.scopeUpd k f).strs = s.strs := rfl
@[simp] theorem State.scopeUpd_rings (s : State) (k : Nat) (f : Scope → Scope) : (s.scopeUpd k f).rings = s.rings := rfl
@[simp] theorem State.scopeUpd_monitors (s : State) (k : Nat) (f : Scope → Scope) : (s.scopeUpd k f).monitors = s.monitors := rfl
@[simp] theorem State.scopeUpd_cells (s : State) (k : Nat) (f : Scope → Scope) : (s.scopeUpd k f).cells = s.cells := rfl
@[simp] theorem State.scopeUpd_temps (s : State) (k : Nat) (f : Scope → Scope) : (s.scopeUpd k f).temps = s.temps := rfl
@[simp] theorem State.scopeUpd_chans (s : State) (k : Nat) (f : Scope → Scope) : (s.scopeUpd k f).chans = s.chans := rfl
@[simp] theorem State.scopeUpd_capture (s : State) (k : Nat) (f : Scope → Scope) : (s.scopeUpd k f).capture = s.capture := rfl
@[simp] theorem State.scopeUpd_ev (s : State) (k : Nat) (f : Scope → Scope) : (s.scopeUpd k f).ev = s.ev := rfl
@[simp] theorem State.scopeUpd_fab (s : State) (k : Nat) (f : Scope → Scope) : (s.scopeUpd k f).fab = s.fab := rfl
@[simp] theorem State.scopeUpd_shots (s : State) (k : Nat) (f : Scope → Scope) : (s.scopeUpd k f).shots = s.shots := rfl
@[simp] theorem State.scopeUpd_otest (s : State) (k : Nat) (f : Scope → Scope) : (s.scopeUpd k f).otest = s.otest := rfl
@[simp] theorem State.scopeUpd_qlp (s : State) (k : Nat) (f : Scope → Scope) : (s.scopeUpd k f).qlp = s.qlp := rfl
@[simp] theorem State.scopeUpd_log (s : State) (k : Nat) (f : Scope → Scope) : (s.scopeUpd k f).log = s.log := rfl
@[simp] theorem State.scopeUpd_flash (s : State) (k : Nat) (f : Scope → Scope) : (s.scopeUpd k f).flash = s.flash := rfl
@[simp] theorem State.scopeUpd_dup (s : State) (k : Nat) (f : Scope → Scope) : (s.scopeUpd k f).dup = s.dup := rfl
@[simp] theorem State.scopeUpd_fw (s : State) (k : Nat) (f : Scope → Scope) : (s.scopeUpd k f).fw = s.fw := rfl
@[simp] theorem State.scopeUpd_el (s : State) (k : Nat) (f : Scope → Scope) (i j : Nat) : (s.scopeUpd k f).el i j = s.el i j := rfl
@[simp] theorem State.scopeUpd_gi (s : State) (k : Nat) (f : Scope → Scope) (i j : Nat) : (s.scopeUpd k f).gi i j = s.gi i j := rfl
@[simp] theorem State.scopeUpd_gn (s : State) (k : Nat) (f : Scope → Scope) (i j : Nat) : (s.scopeUpd k f).gn i j = s.gn i j := rfl
theorem State.scopeUpd_scope_other (s : State) (k : Nat) (f : Scope → Scope) (j : Nat) (h : j ≠ k) : (s.scopeUpd k f).scope j = s.scope j :=
  mget_mset_other _ _ _ _ _ _ h

/-! #### The object dictionary -/

@[simp] theorem State.putL_pending (s : State) (i j : Nat) (v : List Int) : (s.putL i j v).pending = s.pending := rfl
@[simp] theorem State.putL_variant (s : State) (i j : Nat) (v : List Int) : (s.putL i j v).variant = s.variant := rfl
@[simp] theorem State.putL_otp (s : State) (i j : Nat) (v : List Int) : (s.putL i j v).otp = s.otp := rfl
@[simp] theorem State.putL_clk (s : State) (i j : Nat) (v : List Int) : (s.putL i j v).clk = s.clk := rfl
@[simp] theorem State.putL_pwr (s : State) (i j : Nat) (v : List Int) : (s.putL i j v).pwr = s.pwr := rfl
@[simp] theorem State.putL_wd (s : State) (i j : Nat) (v : List Int) : (s.putL i j v).wd = s.wd := rfl
@[simp] theorem State.putL_linkP (s : State) (i j : Nat) (v : List Int) : (s.putL i j v).linkP = s.linkP := rfl
@[simp] theorem State.putL_linkC (s : State) (i j : Nat) (v : List Int) : (s.putL i j v).linkC = s.linkC := rfl
@[simp] theorem State.putL_refused (s : State) (i j : Nat) (v : List Int) : (s.putL i j v).refused = s.refused := rfl
@[simp] theorem State.putL_drivers (s : State) (i j : Nat) (v : List Int) : (s.putL i j v).drivers = s.drivers := rfl
@[simp] theorem State.putL_ls (s : State) (i j : Nat) (v : List Int) : (s.putL i j v).ls = s.ls := rfl
@[simp] theorem State.putL_motors (s : State) (i j : Nat) (v : List Int) : (s.putL i j v).motors = s.motors := rfl
@[simp] theorem State.putL_vmot (s : State) (i j : Nat) (v : List Int) : (s.putL i j v).vmot = s.vmot := rfl
@[simp] theorem State.putL_gov (s : State) (i j : Nat) (v : List Int) : (s.putL i j v).gov = s.gov := rfl
@[simp] theorem State.putL_pairs (s : State) (i j : Nat) (v : List Int) : (s.putL i j v).pairs = s.pairs := rfl
@[simp] theorem State.putL_strs (s : State) (i j : Nat) (v : List Int) : (s.putL i j v).strs = s.strs := rfl
@[simp] theorem State.putL_rings (s : State) (i j : Nat) (v : List Int) : (s.putL i j v).rings = s.rings := rfl
@[simp] theorem State.putL_monitors (s : State) (i j : Nat) (v : List Int) : (s.putL i j v).monitors = s.monitors := rfl
@[simp] theorem State.putL_cells (s : State) (i j : Nat) (v : List Int) : (s.putL i j v).cells = s.cells := rfl
@[simp] theorem State.putL_temps (s : State) (i j : Nat) (v : List Int) : (s.putL i j v).temps = s.temps := rfl
@[simp] theorem State.putL_chans (s : State) (i j : Nat) (v : List Int) : (s.putL i j v).chans = s.chans := rfl
@[simp] theorem State.putL_capture (s : State) (i j : Nat) (v : List Int) : (s.putL i j v).capture = s.capture := rfl
@[simp] theorem State.putL_ev (s : State) (i j : Nat) (v : List Int) : (s.putL i j v).ev = s.ev := rfl
@[simp] theorem State.putL_fab (s : State) (i j : Nat) (v : List Int) : (s.putL i j v).fab = s.fab := rfl
@[simp] theorem State.putL_shots (s : State) (i j : Nat) (v : List Int) : (s.putL i j v).shots = s.shots := rfl
@[simp] theorem State.putL_otest (s : State) (i j : Nat) (v : List Int) : (s.putL i j v).otest = s.otest := rfl
@[simp] theorem State.putL_qlp (s : State) (i j : Nat) (v : List Int) : (s.putL i j v).qlp = s.qlp := rfl
@[simp] theorem State.putL_log (s : State) (i j : Nat) (v : List Int) : (s.putL i j v).log = s.log := rfl
@[simp] theorem State.putL_flash (s : State) (i j : Nat) (v : List Int) : (s.putL i j v).flash = s.flash := rfl
@[simp] theorem State.putL_dup (s : State) (i j : Nat) (v : List Int) : (s.putL i j v).dup = s.dup := rfl
@[simp] theorem State.putL_th (s : State) (i j : Nat) (v : List Int) : (s.putL i j v).th = s.th := rfl
@[simp] theorem State.putL_fw (s : State) (i j : Nat) (v : List Int) : (s.putL i j v).fw = s.fw := rfl
@[simp] theorem State.put_pending (s : State) (i j : Nat) (v : Int) : (s.put i j v).pending = s.pending := State.putL_pending s i j [v]
@[simp] theorem State.put_variant (s : State) (i j : Nat) (v : Int) : (s.put i j v).variant = s.variant := State.putL_variant s i j [v]
@[simp] theorem State.put_otp (s : State) (i j : Nat) (v : Int) : (s.put i j v).otp = s.otp := State.putL_otp s i j [v]
@[simp] theorem State.put_clk (s : State) (i j : Nat) (v : Int) : (s.put i j v).clk = s.clk := State.putL_clk s i j [v]
@[simp] theorem State.put_pwr (s : State) (i j : Nat) (v : Int) : (s.put i j v).pwr = s.pwr := State.putL_pwr s i j [v]
@[simp] theorem State.put_wd (s : State) (i j : Nat) (v : Int) : (s.put i j v).wd = s.wd := State.putL_wd s i j [v]
@[simp] theorem State.put_linkP (s : State) (i j : Nat) (v : Int) : (s.put i j v).linkP = s.linkP := State.putL_linkP s i j [v]
@[simp] theorem State.put_linkC (s : State) (i j : Nat) (v : Int) : (s.put i j v).linkC = s.linkC := State.putL_linkC s i j [v]
@[simp] theorem State.put_refused (s : State) (i j : Nat) (v : Int) : (s.put i j v).refused = s.refused := State.putL_refused s i j [v]
@[simp] theorem State.put_drivers (s : State) (i j : Nat) (v : Int) : (s.put i j v).drivers = s.drivers := State.putL_drivers s i j [v]
@[simp] theorem State.put_ls (s : State) (i j : Nat) (v : Int) : (s.put i j v).ls = s.ls := State.putL_ls s i j [v]
@[simp] theorem State.put_motors (s : State) (i j : Nat) (v : Int) : (s.put i j v).motors = s.motors := State.putL_motors s i j [v]
@[simp] theorem State.put_vmot (s : State) (i j : Nat) (v : Int) : (s.put i j v).vmot = s.vmot := State.putL_vmot s i j [v]
@[simp] theorem State.put_gov (s : State) (i j : Nat) (v : Int) : (s.put i j v).gov = s.gov := State.putL_gov s i j [v]
@[simp] theorem State.put_pairs (s : State) (i j : Nat) (v : Int) : (s.put i j v).pairs = s.pairs := State.putL_pairs s i j [v]
@[simp] theorem State.put_strs (s : State) (i j : Nat) (v : Int) : (s.put i j v).strs = s.strs := State.putL_strs s i j [v]
@[simp] theorem State.put_rings (s : State) (i j : Nat) (v : Int) : (s.put i j v).rings = s.rings := State.putL_rings s i j [v]
@[simp] theorem State.put_monitors (s : State) (i j : Nat) (v : Int) : (s.put i j v).monitors = s.monitors := State.putL_monitors s i j [v]
@[simp] theorem State.put_cells (s : State) (i j : Nat) (v : Int) : (s.put i j v).cells = s.cells := State.putL_cells s i j [v]
@[simp] theorem State.put_temps (s : State) (i j : Nat) (v : Int) : (s.put i j v).temps = s.temps := State.putL_temps s i j [v]
@[simp] theorem State.put_chans (s : State) (i j : Nat) (v : Int) : (s.put i j v).chans = s.chans := State.putL_chans s i j [v]
@[simp] theorem State.put_capture (s : State) (i j : Nat) (v : Int) : (s.put i j v).capture = s.capture := State.putL_capture s i j [v]
@[simp] theorem State.put_ev (s : State) (i j : Nat) (v : Int) : (s.put i j v).ev = s.ev := State.putL_ev s i j [v]
@[simp] theorem State.put_fab (s : State) (i j : Nat) (v : Int) : (s.put i j v).fab = s.fab := State.putL_fab s i j [v]
@[simp] theorem State.put_shots (s : State) (i j : Nat) (v : Int) : (s.put i j v).shots = s.shots := State.putL_shots s i j [v]
@[simp] theorem State.put_otest (s : State) (i j : Nat) (v : Int) : (s.put i j v).otest = s.otest := State.putL_otest s i j [v]
@[simp] theorem State.put_qlp (s : State) (i j : Nat) (v : Int) : (s.put i j v).qlp = s.qlp := State.putL_qlp s i j [v]
@[simp] theorem State.put_log (s : State) (i j : Nat) (v : Int) : (s.put i j v).log = s.log := State.putL_log s i j [v]
@[simp] theorem State.put_flash (s : State) (i j : Nat) (v : Int) : (s.put i j v).flash = s.flash := State.putL_flash s i j [v]
@[simp] theorem State.put_dup (s : State) (i j : Nat) (v : Int) : (s.put i j v).dup = s.dup := State.putL_dup s i j [v]
@[simp] theorem State.put_th (s : State) (i j : Nat) (v : Int) : (s.put i j v).th = s.th := State.putL_th s i j [v]
@[simp] theorem State.put_fw (s : State) (i j : Nat) (v : Int) : (s.put i j v).fw = s.fw := State.putL_fw s i j [v]
@[simp] theorem State.bump_pending (s : State) (i j : Nat) : (s.bump i j).pending = s.pending := State.putL_pending s i j [s.gi i j + 1]
@[simp] theorem State.bump_variant (s : State) (i j : Nat) : (s.bump i j).variant = s.variant := State.putL_variant s i j [s.gi i j + 1]
@[simp] theorem State.bump_otp (s : State) (i j : Nat) : (s.bump i j).otp = s.otp := State.putL_otp s i j [s.gi i j + 1]
@[simp] theorem State.bump_clk (s : State) (i j : Nat) : (s.bump i j).clk = s.clk := State.putL_clk s i j [s.gi i j + 1]
@[simp] theorem State.bump_pwr (s : State) (i j : Nat) : (s.bump i j).pwr = s.pwr := State.putL_pwr s i j [s.gi i j + 1]
@[simp] theorem State.bump_wd (s : State) (i j : Nat) : (s.bump i j).wd = s.wd := State.putL_wd s i j [s.gi i j + 1]
@[simp] theorem State.bump_linkP (s : State) (i j : Nat) : (s.bump i j).linkP = s.linkP := State.putL_linkP s i j [s.gi i j + 1]
@[simp] theorem State.bump_linkC (s : State) (i j : Nat) : (s.bump i j).linkC = s.linkC := State.putL_linkC s i j [s.gi i j + 1]
@[simp] theorem State.bump_refused (s : State) (i j : Nat) : (s.bump i j).refused = s.refused := State.putL_refused s i j [s.gi i j + 1]
@[simp] theorem State.bump_drivers (s : State) (i j : Nat) : (s.bump i j).drivers = s.drivers := State.putL_drivers s i j [s.gi i j + 1]
@[simp] theorem State.bump_ls (s : State) (i j : Nat) : (s.bump i j).ls = s.ls := State.putL_ls s i j [s.gi i j + 1]
@[simp] theorem State.bump_motors (s : State) (i j : Nat) : (s.bump i j).motors = s.motors := State.putL_motors s i j [s.gi i j + 1]
@[simp] theorem State.bump_vmot (s : State) (i j : Nat) : (s.bump i j).vmot = s.vmot := State.putL_vmot s i j [s.gi i j + 1]
@[simp] theorem State.bump_gov (s : State) (i j : Nat) : (s.bump i j).gov = s.gov := State.putL_gov s i j [s.gi i j + 1]
@[simp] theorem State.bump_pairs (s : State) (i j : Nat) : (s.bump i j).pairs = s.pairs := State.putL_pairs s i j [s.gi i j + 1]
@[simp] theorem State.bump_strs (s : State) (i j : Nat) : (s.bump i j).strs = s.strs := State.putL_strs s i j [s.gi i j + 1]
@[simp] theorem State.bump_rings (s : State) (i j : Nat) : (s.bump i j).rings = s.rings := State.putL_rings s i j [s.gi i j + 1]
@[simp] theorem State.bump_monitors (s : State) (i j : Nat) : (s.bump i j).monitors = s.monitors := State.putL_monitors s i j [s.gi i j + 1]
@[simp] theorem State.bump_cells (s : State) (i j : Nat) : (s.bump i j).cells = s.cells := State.putL_cells s i j [s.gi i j + 1]
@[simp] theorem State.bump_temps (s : State) (i j : Nat) : (s.bump i j).temps = s.temps := State.putL_temps s i j [s.gi i j + 1]
@[simp] theorem State.bump_chans (s : State) (i j : Nat) : (s.bump i j).chans = s.chans := State.putL_chans s i j [s.gi i j + 1]
@[simp] theorem State.bump_capture (s : State) (i j : Nat) : (s.bump i j).capture = s.capture := State.putL_capture s i j [s.gi i j + 1]
@[simp] theorem State.bump_ev (s : State) (i j : Nat) : (s.bump i j).ev = s.ev := State.putL_ev s i j [s.gi i j + 1]
@[simp] theorem State.bump_fab (s : State) (i j : Nat) : (s.bump i j).fab = s.fab := State.putL_fab s i j [s.gi i j + 1]
@[simp] theorem State.bump_shots (s : State) (i j : Nat) : (s.bump i j).shots = s.shots := State.putL_shots s i j [s.gi i j + 1]
@[simp] theorem State.bump_otest (s : State) (i j : Nat) : (s.bump i j).otest = s.otest := State.putL_otest s i j [s.gi i j + 1]
@[simp] theorem State.bump_qlp (s : State) (i j : Nat) : (s.bump i j).qlp = s.qlp := State.putL_qlp s i j [s.gi i j + 1]
@[simp] theorem State.bump_log (s : State) (i j : Nat) : (s.bump i j).log = s.log := State.putL_log s i j [s.gi i j + 1]
@[simp] theorem State.bump_flash (s : State) (i j : Nat) : (s.bump i j).flash = s.flash := State.putL_flash s i j [s.gi i j + 1]
@[simp] theorem State.bump_dup (s : State) (i j : Nat) : (s.bump i j).dup = s.dup := State.putL_dup s i j [s.gi i j + 1]
@[simp] theorem State.bump_th (s : State) (i j : Nat) : (s.bump i j).th = s.th := State.putL_th s i j [s.gi i j + 1]
@[simp] theorem State.bump_fw (s : State) (i j : Nat) : (s.bump i j).fw = s.fw := State.putL_fw s i j [s.gi i j + 1]

/-- Different elements have different keys. -/
theorem okey_ne {i j k l : Nat} (hj : j < 65536) (hl : l < 65536) (h : k ≠ i ∨ l ≠ j) : okey k l ≠ okey i j := by
  unfold okey; omega

/-- A stored element reads as stored. -/
theorem State.putL_el_same (s : State) (i j : Nat) (v : List Int) (h : s.canonical) : (s.putL i j v).el i j = v :=
  mget_mset_same _ _ _ _ h.1

/-- A scalar that has been stored reads as stored. -/
theorem State.put_gi_same (s : State) (i j : Nat) (v : Int) (h : s.canonical) : (s.put i j v).gi i j = v := by
  unfold State.gi State.put
  rw [State.putL_el_same _ _ _ _ h]
  rfl

/-- Storing one element leaves the others. -/
theorem State.putL_el_other (s : State) (i j : Nat) (v : List Int) (k l : Nat) (h : okey k l ≠ okey i j) :
    (s.putL i j v).el k l = s.el k l := mget_mset_other _ _ _ _ _ _ h

/-- Storing one scalar leaves the other elements. -/
theorem State.put_el_other (s : State) (i j : Nat) (v : Int) (k l : Nat) (h : okey k l ≠ okey i j) :
    (s.put i j v).el k l = s.el k l := mget_mset_other _ _ _ _ _ _ h

/-- Storing one scalar leaves the other scalars. -/
theorem State.put_gi_other (s : State) (i j : Nat) (v : Int) (k l : Nat) (h : okey k l ≠ okey i j) :
    (s.put i j v).gi k l = s.gi k l := by unfold State.gi; rw [State.put_el_other _ _ _ _ _ _ h]

/-- Storing one scalar leaves the other unsigned scalars. -/
theorem State.put_gn_other (s : State) (i j : Nat) (v : Int) (k l : Nat) (h : okey k l ≠ okey i j) :
    (s.put i j v).gn k l = s.gn k l := by unfold State.gn; rw [State.put_gi_other _ _ _ _ _ _ h]

/-! #### Events -/

/-- R37, R41: an event becoming active changes nothing but the events and what the power die keeps of them. -/
theorem State.raise_eq (s : State) (src inst : Nat) (p : List Byte) :
    s.raise src inst p = { s with ev := (s.raise src inst p).ev, pwr := (s.raise src inst p).pwr } := by
  unfold State.raise
  split
  · rfl
  · split
    · rfl
    · split <;> rfl

@[simp] theorem State.raise_pending (s : State) (src inst : Nat) (p : List Byte) : (s.raise src inst p).pending = s.pending := by rw [State.raise_eq]
@[simp] theorem State.raise_variant (s : State) (src inst : Nat) (p : List Byte) : (s.raise src inst p).variant = s.variant := by rw [State.raise_eq]
@[simp] theorem State.raise_objs (s : State) (src inst : Nat) (p : List Byte) : (s.raise src inst p).objs = s.objs := by rw [State.raise_eq]
@[simp] theorem State.raise_otp (s : State) (src inst : Nat) (p : List Byte) : (s.raise src inst p).otp = s.otp := by rw [State.raise_eq]
@[simp] theorem State.raise_clk (s : State) (src inst : Nat) (p : List Byte) : (s.raise src inst p).clk = s.clk := by rw [State.raise_eq]
@[simp] theorem State.raise_wd (s : State) (src inst : Nat) (p : List Byte) : (s.raise src inst p).wd = s.wd := by rw [State.raise_eq]
@[simp] theorem State.raise_linkP (s : State) (src inst : Nat) (p : List Byte) : (s.raise src inst p).linkP = s.linkP := by rw [State.raise_eq]
@[simp] theorem State.raise_linkC (s : State) (src inst : Nat) (p : List Byte) : (s.raise src inst p).linkC = s.linkC := by rw [State.raise_eq]
@[simp] theorem State.raise_refused (s : State) (src inst : Nat) (p : List Byte) : (s.raise src inst p).refused = s.refused := by rw [State.raise_eq]
@[simp] theorem State.raise_drivers (s : State) (src inst : Nat) (p : List Byte) : (s.raise src inst p).drivers = s.drivers := by rw [State.raise_eq]
@[simp] theorem State.raise_ls (s : State) (src inst : Nat) (p : List Byte) : (s.raise src inst p).ls = s.ls := by rw [State.raise_eq]
@[simp] theorem State.raise_motors (s : State) (src inst : Nat) (p : List Byte) : (s.raise src inst p).motors = s.motors := by rw [State.raise_eq]
@[simp] theorem State.raise_vmot (s : State) (src inst : Nat) (p : List Byte) : (s.raise src inst p).vmot = s.vmot := by rw [State.raise_eq]
@[simp] theorem State.raise_gov (s : State) (src inst : Nat) (p : List Byte) : (s.raise src inst p).gov = s.gov := by rw [State.raise_eq]
@[simp] theorem State.raise_pairs (s : State) (src inst : Nat) (p : List Byte) : (s.raise src inst p).pairs = s.pairs := by rw [State.raise_eq]
@[simp] theorem State.raise_strs (s : State) (src inst : Nat) (p : List Byte) : (s.raise src inst p).strs = s.strs := by rw [State.raise_eq]
@[simp] theorem State.raise_rings (s : State) (src inst : Nat) (p : List Byte) : (s.raise src inst p).rings = s.rings := by rw [State.raise_eq]
@[simp] theorem State.raise_monitors (s : State) (src inst : Nat) (p : List Byte) : (s.raise src inst p).monitors = s.monitors := by rw [State.raise_eq]
@[simp] theorem State.raise_cells (s : State) (src inst : Nat) (p : List Byte) : (s.raise src inst p).cells = s.cells := by rw [State.raise_eq]
@[simp] theorem State.raise_temps (s : State) (src inst : Nat) (p : List Byte) : (s.raise src inst p).temps = s.temps := by rw [State.raise_eq]
@[simp] theorem State.raise_chans (s : State) (src inst : Nat) (p : List Byte) : (s.raise src inst p).chans = s.chans := by rw [State.raise_eq]
@[simp] theorem State.raise_capture (s : State) (src inst : Nat) (p : List Byte) : (s.raise src inst p).capture = s.capture := by rw [State.raise_eq]
@[simp] theorem State.raise_fab (s : State) (src inst : Nat) (p : List Byte) : (s.raise src inst p).fab = s.fab := by rw [State.raise_eq]
@[simp] theorem State.raise_shots (s : State) (src inst : Nat) (p : List Byte) : (s.raise src inst p).shots = s.shots := by rw [State.raise_eq]
@[simp] theorem State.raise_otest (s : State) (src inst : Nat) (p : List Byte) : (s.raise src inst p).otest = s.otest := by rw [State.raise_eq]
@[simp] theorem State.raise_qlp (s : State) (src inst : Nat) (p : List Byte) : (s.raise src inst p).qlp = s.qlp := by rw [State.raise_eq]
@[simp] theorem State.raise_log (s : State) (src inst : Nat) (p : List Byte) : (s.raise src inst p).log = s.log := by rw [State.raise_eq]
@[simp] theorem State.raise_flash (s : State) (src inst : Nat) (p : List Byte) : (s.raise src inst p).flash = s.flash := by rw [State.raise_eq]
@[simp] theorem State.raise_dup (s : State) (src inst : Nat) (p : List Byte) : (s.raise src inst p).dup = s.dup := by rw [State.raise_eq]
@[simp] theorem State.raise_th (s : State) (src inst : Nat) (p : List Byte) : (s.raise src inst p).th = s.th := by rw [State.raise_eq]
@[simp] theorem State.raise_fw (s : State) (src inst : Nat) (p : List Byte) : (s.raise src inst p).fw = s.fw := by rw [State.raise_eq]
@[simp] theorem State.raise_el (s : State) (src inst : Nat) (p : List Byte) (i j : Nat) : (s.raise src inst p).el i j = s.el i j := by rw [State.raise_eq]; rfl
@[simp] theorem State.raise_gi (s : State) (src inst : Nat) (p : List Byte) (i j : Nat) : (s.raise src inst p).gi i j = s.gi i j := by rw [State.raise_eq]; rfl
@[simp] theorem State.raise_gn (s : State) (src inst : Nat) (p : List Byte) (i j : Nat) : (s.raise src inst p).gn i j = s.gn i j := by rw [State.raise_eq]; rfl

end Sys2Proof.Machine
end

