-- ==== Sys2Proof/WellFormed.lean ====
section
/-! DEFINITION. Sys2Proof/WellFormed.lean: which commands can arrive: the field widths of identifiers and datagrams (Table
9-2, Table 9-13), of values and of the frames of the chain and of the duplex link. A command that is not well formed stands
for nothing a link, pin or timer can deliver. -/

namespace Sys2Proof

/-- Table 9-2: the fields of a request. -/
def wfReq (q : Req) : Bool := decide (q.src < 127 ∧ q.dest < 128 ∧ q.seq < 64 ∧ q.prio < 8 ∧ q.addr < 2 ^ 48)

/-- Table 9-2, Table 9-13, R286, R311: the identifier or the datagram header, and the length on the link that carried the
message. -/
def wfFrame (f : QlpFrame) : Bool :=
  if f.link.val < 2 then decide (f.ident < 2 ^ 29 ∧ f.addr = 0 ∧ f.msg.length ≤ 64)
  else decide (f.head.length ≤ 8 ∧ f.addr < 2 ^ 48 ∧ f.port < 65536 ∧ f.msg.length ≤ 1464)

/-- R307: the fields of an announced clock. -/
def wfAnnounce (a : PtpAnnounce) : Bool :=
  decide (a.priority1 < 256 ∧ a.clockClass < 256 ∧ a.accuracy < 256 ∧ a.variance < 65536 ∧ a.priority2 < 256 ∧ a.identity < 2 ^ 64)

/-- A command that can arrive. -/
def wellFormed (i : Instr) : Bool :=
  match i with
  | .lockstepMismatch => true
  | .clockMonitorGate _ _ _ => true
  | .clockFaultRelease => true
  | .domain8Loss => true
  | .interdieFrameReceived _ _ => true
  | .interdieLinkTimeout _ => true
  | .interdieIdleSend _ => true
  | .outputRequest _ => true
  | .tripOpenRequest _ => true
  | .watchdogAnswer _ _ _ => true
  | .watchdogWindowEnd => true
  | .eventMatrixEvaluate => true
  | .eventRouteWrite req _ _ => wfReq req
  | .sramEccError _ _ _ => true
  | .tableSetReloadDone _ => true
  | .learnedDataCommit _ _ => true
  | .weldStateCommit _ _ => true
  | .laneLost _ _ => true
  | .laneRestored _ _ => true
  | .tallyTrigger => true
  | .tallyInstant _ => true
  | .sample _ _ frame => decide (frame.length ≤ 256)
  | .comparatorSourceRaise _ _ number => decide (number < 2048)
  | .hopMissing _ _ _ => true
  | .trainEotReturned _ _ => true
  | .trainTimeout _ _ => true
  | .returnPathCheck _ _ => true
  | .idleSlotLaunch _ _ => true
  | .ident _ _ frame => decide (frame.length ≤ 256)
  | .echoBack _ _ frame _ _ => decide (frame.length ≤ 256)
  | .configAck _ _ frame => decide (frame.length ≤ 256)
  | .status _ _ frame => decide (frame.length ≤ 256)
  | .balAck _ _ frame => decide (frame.length ≤ 256)
  | .openWireResult _ _ frame => decide (frame.length ≤ 256)
  | .authResult _ _ frame => decide (frame.length ≤ 256)
  | .authMac _ _ frame => decide (frame.length ≤ 256)
  | .rejoinResult _ _ frame => decide (frame.length ≤ 256)
  | .authReadDue _ _ => true
  | .authRetry _ _ => true
  | .moduleAuthDue _ _ => true
  | .enumerationStart _ => true
  | .enumerationWaitDone _ _ _ => true
  | .manifestMismatchReenumerate _ => true
  | .tallyPeriodWrite req value => wfReq req && decide (value < 65536)
  | .tallyPeriodApply => true
  | .currentOutput _ _ _ => true
  | .fastPathDebounceExpiry _ => true
  | .currentSampleDelivered _ _ => true
  | .dsiStuckFault _ => true
  | .isaRangeFault _ => true
  | .currentFaultClear _ _ => true
  | .crossCheckDisagree _ => true
  | .tempDwellEnd _ _ _ => true
  | .tempStaleTimeout _ _ _ => true
  | .sweepComplete _ => true
  | .staleTrip _ _ => true
  | .deratingClear _ _ => true
  | .balancePlan => true
  | .openWireSuspect _ _ => true
  | .openWireTestStart _ _ _ => true
  | .openWireTestEvaluate _ _ => true
  | .openWireRetest _ _ => true
  | .openWireRotation _ _ _ => true
  | .openWireRequest req _ => wfReq req
  | .openWireRequestDone => true
  | .captureArm req value => wfReq req && decide (value < 256)
  | .captureTrigger req value => wfReq req && decide (value < 256)
  | .captureFreeze => true
  | .euWorkItemClaim _ => true
  | .euUpdateComplete _ _ => true
  | .euHandshakeTimeout _ => true
  | .epochDeadline _ => true
  | .estimationHeld _ => true
  | .rateStepUp _ => true
  | .fabricKnownAnswerTest _ _ => true
  | .fabricSelfTestRequest req _ => wfReq req
  | .fabricSelfTestDone _ => true
  | .modelTableFileWrite req _ file => wfReq req && decide (file.length ≤ 65535)
  | .tableSetLoadDone _ => true
  | .currentPlausibilityWindow _ => true
  | .restPointFormed _ => true
  | .stringDisagreementEnter _ => true
  | .channelAuditRepeat _ => true
  | .capLearnReportRequest req _ => wfReq req
  | .capLearnReportDone => true
  | .impedanceSnapshotRequest req _ => wfReq req
  | .impedanceSnapshotTimeout => true
  | .stringClose req _ => wfReq req
  | .stringOpen req _ => wfReq req
  | .contactorStep => true
  | .closeTurnGranted _ => true
  | .weldCheckElapsed _ => true
  | .prechargeDeadline _ => true
  | .prechargeCooldownEnd _ => true
  | .closingCloseTimeElapsed _ => true
  | .closingDropTimeElapsed _ => true
  | .joinWaitTimeout _ => true
  | .openRampTimeout _ => true
  | .breakMaxRepeat _ => true
  | .openingWeldTest _ => true
  | .openingDropElapsed _ => true
  | .postTripWeldCheck _ => true
  | .tripReset req _ => wfReq req
  | .weldClear req _ => wfReq req
  | .pullInEnd _ => true
  | .coilFaultDetected _ _ => true
  | .currentSourceNoneTimeout _ => true
  | .tempInputLossTimeout _ _ => true
  | .overLimitTimeout _ => true
  | .safetyInputChange _ _ _ => true
  | .safetyDiscrepancyTimeout _ => true
  | .safeOffReport _ _ => true
  | .safetyInputSelfTest _ => true
  | .oscillatorCrossCheck _ _ => true
  | .offPulseStart _ _ => true
  | .offPulseCheck _ _ => true
  | .offPulseEnd _ => true
  | .offStateCheck _ _ _ _ => true
  | .openingProofDue _ => true
  | .openingProofOverdue _ => true
  | .contactorOpenTestRequest req _ => wfReq req
  | .openTestStepCheck => true
  | .openTestStepDropDone => true
  | .safetyConfigReadback _ => true
  | .loadSwitchCmdOff req _ => wfReq req
  | .loadSwitchCmdOn req _ => wfReq req
  | .loadSwitchCmdPwm req _ => wfReq req
  | .lsOvercurrentTrip _ => true
  | .lsThermalLatchSet _ => true
  | .lsThermalLatchClear _ => true
  | .lsRetryRestart _ => true
  | .lsRetryCountReset _ => true
  | .lsFaultClear req _ => wfReq req
  | .lsOnOpenLoad _ _ => true
  | .lsOffStateDiag _ _ => true
  | .dissipationEstimate m =>
      decide (m.lsMa.length = 16 ∧ m.lsMohm.length = 16 ∧ m.coilMa.length = 12 ∧ m.coilLoad.length = 12 ∧ m.coilMohm.length = 12 ∧
        m.gateMa.length = 4 ∧ m.gateMv.length = 4 ∧ m.supply.vddcMv < 65536 ∧ m.supply.vddcMa < 65536 ∧
        m.supply.vddioMv < 65536 ∧ m.supply.gateMv < 65536 ∧ m.lsTemp.length = 16 ∧ m.mdTemp.length = 4)
  | .governorShed => true
  | .governorRestore => true
  | .motorSpeedCommand req _ rpm => wfReq req && decide (rpm < 65536)
  | .motorSpeedLoop _ _ => true
  | .motorZeroCrossing _ _ => true
  | .motorCommutation _ => true
  | .motorCrossingTimeout _ => true
  | .motorCoastWaitEnd _ => true
  | .motorCatchSpinEnd _ _ _ => true
  | .motorStopped _ => true
  | .motorAlignEnd _ => true
  | .motorStartHandover _ _ => true
  | .motorStartTimeout _ => true
  | .motorRetryDelay _ => true
  | .motorCurrentLimit _ _ => true
  | .motorLimitTimeTrip _ => true
  | .motorVdsTrip _ _ => true
  | .motorThermalLatch _ _ => true
  | .motorGateUv _ => true
  | .motorClockLoss => true
  | .motorFaultClear req _ => wfReq req
  | .vmotSample _ => true
  | .vmotRecovery => true
  | .brakeFaultCheck _ _ _ => true
  | .brakeFaultClear req value => wfReq req && decide (value < 256)
  | .qlpRead f => wfFrame f
  | .qlpWrite f => wfFrame f
  | .sessionOpen f => wfFrame f
  | .sessionAuth f => wfFrame f
  | .sessionClose f => wfFrame f
  | .timeSet f _ => wfFrame f
  | .blockSegment f => wfFrame f
  | .blockAck f => wfFrame f
  | .blockAbort f => wfFrame f
  | .segmentTimeout _ src => decide (src < 127)
  | .sessionTimeout => true
  | .nonceExpiry _ src => decide (src < 127)
  | .authLockoutEnd => true
  | .qlpNodeIdWrite req value => wfReq req && decide (value < 256)
  | .canTxDone _ _ _ tdcNs => decide (tdcNs < 65536)
  | .responseQueueTimeout _ => true
  | .canBusOff _ txErr rxErr _ => decide (txErr < 512 ∧ rxErr < 512)
  | .canBusOffRecovery _ => true
  | .canTimingApply _ => true
  | .lighthouseDue _ => true
  | .ptpSyncReceived sync interval16 master _ =>
    decide (1 ≤ interval16 ∧ interval16 ≤ 32 ∧ sync.domain < 256) && wfAnnounce master && sync.heard.all wfAnnounce
  | .ptpHoldoverTimeout => true
  | .timeStepApply => true
  | .timeMarkCommit _ => true
  | .timeSetLockExpiry => true
  | .eventAcknowledge req _ => wfReq req
  | .streamSnapshotDue _ => true
  | .ethLinkUp _ _ => true
  | .arpRequest targetIp sender => decide (targetIp < 2 ^ 32 ∧ sender < 2 ^ 32)
  | .icmpEchoRequest _ _ sender => decide (sender < 2 ^ 32)
  | .manifestFileWrite req file => wfReq req && decide (file.length ≤ 65535)
  | .manifestAdoptUids req _ => wfReq req
  | .configSave req => wfReq req
  | .configDiscard req => wfReq req
  | .configFactoryDefaults req => wfReq req
  | .configImageImport req image => wfReq req && decide (image.length ≤ 65535)
  | .berthInChange _ => true
  | .claimWaitExpiry => true
  | .claimConflictWithdraw => true
  | .claimRefreshTimeout => true
  | .holdingRelease => true
  | .holdingTimeout => true
  | .handoverOffer _ _ => true
  | .handoverAccept _ _ => true
  | .handoverRefuse _ _ => true
  | .handoverTaken _ _ => true
  | .chainReq _ command _ _ => decide (command.length ≤ 256)
  | .chainFwd _ _ frame _ => decide (frame.length ≤ 256)
  | .duplexTally _ _ _ _ => true
  | .mirror m _ =>
      decide (m.drivers.length = 12 ∧ m.strings.length = 4 ∧ m.ls.length = 16 ∧ m.motors.length = 4 ∧ m.auth.length = 128)
  | .hello h _ => decide (h.duplexMode ≤ 1 ∧ h.nodeId ≤ 126 ∧ h.tableCrcs.length = 4)
  | .ringDelays payload _ => decide (payload.length = 68)
  | .duplexLinkDown => true
  | .duplexLinkUp => true
  | .berthHandOver req => wfReq req
  | .berthTake req => wfReq req
  | .berthRevert => true
  | .standbyTakeoverSweep _ => true
  | .logRecordSealTimeout => true
  | .logProgram _ => true
  | .logSuppressedReport => true
  | .logClear req _ => wfReq req
  | .logFlushLevel _ => true
  | .supplyRecovery _ => true
  | .brownOutWarning _ => true
  | .brownOutClear _ => true
  | .powerDieReset _ => true
  | .regulatorFault _ _ => true
  | .powerOn _ => true
  | .powerDieResetRelease _ => true
  | .computeDieResetRelease => true
  | .startupComplete c =>
    c.records.all (fun e => decide (8 ≤ e.1 ∧ e.1 < 56)) && c.tornPages.all fun e => decide (e.1 < 256 ∧ e.2 < 4096)
  | .chainWakeEnd _ => true
  | .watchdogEscalation => true
  | .resetNAssert => true
  | .resetNRelease => true
  | .deviceResetCommand req value => wfReq req && decide (value < 256)
  | .mooredWatchCommand req => wfReq req
  | .mooredDarkCommand req => wfReq req
  | .mooredEntryComplete => true
  | .mooredWake _ => true
  | .mooredDarkAuto => true
  | .siteKeyWrite req blob => wfReq req && decide (blob.length ≤ 65535)
  | .moduleKeyWrite req _ blob => wfReq req && decide (blob.length ≤ 65535)
  | .lifecycleCommission req _ => wfReq req
  | .lifecycleInService req _ => wfReq req
  | .lifecycleMaintenance req _ => wfReq req
  | .lifecycleRetire req _ => wfReq req
  | .tamperAcknowledge req _ => wfReq req
  | .firmwareBegin req => wfReq req
  | .firmwareEraseDone => true
  | .firmwareChunkWrite req _ bytes => wfReq req && decide (bytes.length ≤ 65535)
  | .firmwareVerify req => wfReq req
  | .firmwareActivate req => wfReq req
  | .firmwareAbort req => wfReq req
  | .firmwareTrialConfirm => true
  | .dieSensorConversion readings => decide (readings.length = 12)
  | .dieSensorBroken _ _ => true
  | .throttleStageEnter _ _ => true
  | .throttleStageLeave _ _ => true
  | .dieTempFrameTimeout => true
  | .thermalShed => true
  | .thermalRestore => true
  | .scrubPass _ => true
  | .converterCalibration _ _ => true
  | .integrityCheck _ => true
  | .deviceSelfTestRequest req _ => wfReq req
  | .deviceSelfTestDone _ => true
  | .lsLimiting _ _ => true
  | .gateSupplyRecovered _ => true
  | .motorRetryCountReset _ => true
  | .ethLinkDown => true
  | .duplexHelloSend => true
  | .armingRefreshTimeout => true

end Sys2Proof
end

