-- ==== Sys2Proof/Tests/Slice0.lean ====
section
/-! SUPPORT. Sys2Proof/Tests/Slice0.lean: the model's own tests: ill-formed commands, known answers, and for every
statement a state and operands that meet its hypotheses. -/

namespace Sys2Proof.Tests

set_option Elab.async false
set_option linter.unusedVariables false

open Sys2Proof.Machine

/-! ### States that the tests start from -/

/-- The device running: VAUX 24 V, both dies out of reset, start-up ended, an hour of local time and more behind it, a
session open on link 0 with node 5. -/
def openSession : Session := { link := 0, node := 5, key := [1, 2, 3] }

/-- The device running. -/
def up : State :=
  { State.reset with
    pwr := { vauxMv := 24000, started := true, pdUp := true, cdUp := true, pll := true }
    clk := { mono := 1000000000000, rtcRunning := true }
    qlp := { session := some openSession }
    pairs := [(0, { st := 0, safeOff := false }), (1, { st := 0, safeOff := false }), (2, { st := 0, safeOff := false }),
              (3, { st := 0, safeOff := false })]
    flash := { State.reset.flash with booted := some 0 }
    fw := { startup := false, scanned := true } }

/-- A tagged request of node 5 on link 0. -/
def rq : Req := { link := 0, src := 5, dest := 0, seq := 1, prio := 4, auth := true }

/-- The power die trusts the compute die. -/
def trusting : State := { up with wd := { up.wd with trusted := true } }

/-- The present off-pulse interval has just begun. -/
def pulsing : State := { up with pwr := { up.pwr with pulseFrom := 1000000000000 } }

/-- Commissioned and in service's sibling state COMMISSIONING. -/
def inService : State :=
  { up with otp := { up.otp with commissioned := true, siteKeys := [(0, [9])] }, fw := { up.fw with lifecycle := some 1 } }

/-- Ring 3 with two modules of two cells each and READY. -/
def ring3 : State :=
  let s : State := { inService with fw := { inService.fw with noManifest := false } }
  let s := ((s.put O.manifestModuleCount 3 2).put O.manifestCellCount 3 4).put O.chainRingState 3 3
  (s.putL O.manifestModule 96 [0, 3, 1, 0, 1536]).putL O.manifestModule 97 [0, 3, 1, 0, 1538]

/-- String 3 of `ring3` may close. -/
def closing : State :=
  let s := ((ring3.put O.moduleAuthState 96 1).put O.moduleAuthState 97 1).put O.estimatorStringState 3 1
  { s with wd := { s.wd with trusted := true } }

/-- A train in flight on ring 3 that asks hops 0 and 1. -/
def answering (cmd : Byte) (payload : List Byte) : State :=
  ring3.ringUpd 3 fun x => { x with
    trainA := some { order := 8, frame := [0, cmd, 1, BitVec.ofNat 8 payload.length] ++ payload, hops := [0, 1] } }

/-- A reply of the monitor at hop 1 with a correct CRC. -/
def reply (type : Byte) (payload : List Byte) : List Byte :=
  let body := [0x41#8, type, 1, BitVec.ofNat 8 payload.length] ++ payload
  body ++ le 4 (crc32 body)

/-- IDENT's payload. -/
def identBytes : List Byte := [1, 2, 3, 4, 5, 6, 7, 8, 1, 0, 1, 0, 0]

/-! ### Frames of the field links -/

/-- A request of node 5 on link 0. -/
def qf (op : Byte) (rest : List Byte) : QlpFrame := { link := 0, ident := canId 4 8 0 5 1, msg := op :: rest }

/-- A block frame of node 5 on link 0. -/
def bf (kind number : Byte) : QlpFrame := { link := 0, ident := canId 4 10 0 5 1, msg := [kind, number, 0, 0xAA] }

/-- A datagram of node 5 with a request. -/
def dgram (prio cls dest src seq : Nat) (msg : List Byte) : QlpFrame :=
  { link := 2, head := datagramHead prio cls dest src seq msg.length, msg := msg }

/-- A tagged request with its trailer. -/
def tagged (op : Byte) (body : List Byte) : QlpFrame :=
  let f := qf op ([1, 0, 0, 0, 0, 0, 0] ++ le 4 (body.length + 12))
  { f with msg := f.msg ++ body ++ le 4 7 ++ reqMac f [1, 2, 3] body 7 }

/-- SESSION_AUTH under site key [7] for the challenge [1, 2]. -/
def authFrame : QlpFrame :=
  let c : List Byte := List.replicate 16 3
  qf 0x11 ([0, 0, 0, 0, 0, 0, 0, 48, 0, 0, 0] ++ c ++ hmac [7] (label 0x43 ++ [1, 2] ++ c ++ le 1 5 ++ le 1 0))

/-- No session, and a site key. -/
def keyed : State := { up with otp := { up.otp with siteKeys := [(0, [7])] }, qlp := {} }

/-- The challenge of `authFrame` is outstanding. -/
def nonced : State := { keyed with qlp := { keyed.qlp with nonces := [{ link := 0, node := 5, value := [1, 2], at' := 1000000000000 }] } }

/-- A segmented write of node 5: 200 bytes, of which none have come. -/
def writing : Transfer :=
  { link := 0, src := 5, dest := 0, seq := 1, prio := 4, read := false, header := [2, 2, 0, 0, 0, 0, 1, 0, 200, 0, 0, 0], data := [] }

/-- A segmented read of node 5: one segment, sent. -/
def reading : Transfer :=
  { link := 0, src := 5, dest := 0, seq := 1, prio := 4, read := true, header := [], data := [1, 2, 3], sent := 1 }

/-- A segmented write is open. -/
def receiving : State := { up with qlp := { up.qlp with transfers := [writing] } }

/-- A segmented read is open. -/
def sending : State := { up with qlp := { up.qlp with transfers := [reading] } }

/-- The Ethernet link is up. -/
def etherUp : State := (up.put O.ethEnable 0 1).put O.ethLinkState 0 2

/-! ### Files -/

/-- Bytes with their CRC-32. -/
def sealed (b : List Byte) : List Byte := b ++ le 4 (crc32 b)

/-- A manifest of one module with one cell on ring 0. -/
def oneModule : List Byte :=
  sealed (le 4 0x314D4251 ++ le 2 1 ++ le 2 48 ++ le 4 84 ++ le 4 1 ++ List.replicate 16 0 ++ [1, 0, 0, 0] ++
    List.replicate 12 0 ++ (le 8 0 ++ le 4 1 ++ [1, 0, 0, 0, 0xF0] ++ List.replicate 8 0xFF ++ List.replicate 7 0))

/-- A configuration image without entries. -/
def emptyImage : List Byte :=
  sealed (le 4 0x31434251 ++ le 2 1 ++ le 2 32 ++ le 4 36 ++ le 2 0x2048 ++ le 2 0 ++ le 4 1 ++ le 4 0 ++ le 8 0)

/-- `emptyImage` is saved. -/
def imaged : State :=
  { inService with flash := { inService.flash with config := [(0, emptyImage)], configSeq := 1, configSlot := 1 } }

/-- A key of `n` zero bytes wrapped under the transport key, for a slot. -/
def keyBlob (id : Byte) (n : Nat) : List Byte :=
  let body := [id, 0, 0, 0] ++ List.replicate (16 + n) 0
  body ++ (cmac (List.replicate 16 0) body).take 8

/-- A site key is written, the device is BLANK. -/
def keyed0 : State := { up with otp := { up.otp with siteKeys := [(0, [7])] } }

/-! ### Duplex -/

/-- In a pair, not holding the berth. -/
def paired : State := { up with dup := { up.dup with mode := 1 } }

/-- In a pair, holding the berth. -/
def holding : State := { up with dup := { up.dup with mode := 1, out := true, claim := .held } }

/-- HELLO of an armed standby. -/
def armedHello : Hello :=
  { preferred := true, duplexMode := 1, berthState := 3, dictVersion := 0x0100, configCrc := 0, tableCrcs := [], nodeId := 0 }

/-- MIRROR of nothing. -/
def noMirror : Mirror := { drivers := [], strings := [], ls := [], motors := [], latched := [], auth := [] }

/-- LEN and CRC of a frame of the duplex link as its sender formed them. -/
def good (f : DupFrame) : DupTail := { len := (dupPayload f).length, crc := crc32 (dupBody f) }

/-! ### Others -/

/-- Every string open and a cell of the manifest low. -/
def low : State :=
  let s := (ring3.put O.mooredDarkAuto 0 1).put O.cellFlags 1536 0
  { s with fw := { s.fw with lowSince := some 5 } }

/-- Inputs assigned on ring 3. -/
def inputs3 : State := ((ring3.put O.cellTempInput 1536 768).put O.cellTempInput 1537 768).put O.cellTempInput 1538 776

/-- A current of 3000 A in string 2. -/
def hot : State := up.put O.stringCurrent 2 3000000

/-- String 3 may be tested. -/
def testable : State := ring3.put O.stringVoltage 3 400000

/-- A table file of two charge levels, two temperatures and one rate, before its CRC. -/
def tableBody : List Byte :=
  let kinds : List (Nat × Nat) :=
    [(1, 1), (2, 1), (5, 2), (0x20, 2), (0x21, 2), (0x22, 2), (0x23, 2), (0x10, 3), (0x11, 3), (0x12, 3), (0x13, 3), (0x14, 3),
     (0x15, 3), (0x16, 3), (0x17, 3), (0x18, 3)]
  let size (d : Nat) : Nat := if d = 1 then 22 else 8
  let entries := (kinds.zipIdx).flatMap fun e =>
    le 2 e.1.1 ++ le 1 e.1.2 ++ le 1 0 ++ le 4 (364 + ((kinds.take e.2).map fun k => size k.2).sum) ++ le 4 0x3A83126F ++ le 4 0
  let arrays := kinds.flatMap fun k =>
    if k.1 = 5 then le 2 1 ++ le 2 2 ++ le 2 1 ++ le 2 2 else (List.replicate (size k.2 / 2) (le 2 1)).flatten
  let one := le 4 0x3F800000
  le 4 0x31544251 ++ le 2 1 ++ le 2 96 ++ le 4 524 ++ le 2 0 ++ [2, 2, 1, 11, 16, 0] ++ List.replicate 16 0 ++ le 4 1000 ++
    le 2 0 ++ le 2 1 ++ le 4 0 ++ one ++ one ++ le 4 0 ++ one ++ one ++ le 4 0 ++ one ++ List.replicate 20 0 ++ le 2 0 ++
    le 2 10000 ++ le 2 0 ++ le 2 2500 ++ le 2 0 ++ le 2 0 ++ entries ++ arrays

/-- The table file with its CRC. -/
def tableFile : List Byte := tableBody ++ le 4 0x6A2D1F60

/-- Ring 3 is answered to the sweep of SEQ 0. -/
def swept : State :=
  ring3.ringUpd 3 fun x => { x with sweeping := true, trainA := some { order := 1, frame := [0, 0x10, 0, 0], hops := [0, 1] } }

/-- The sweep of ring 3 has gone unanswered. -/
def late : State := ring3.ringUpd 3 fun x => { x with sweeping := true, sweeps := [(false, { order := 1, hops := [0, 1] })] }

/-- The row of an object. -/
def rowOf (i : Nat) : Obj := (objRow i).getD { index := i, count := 0, ty := .str, acc := .ro, dflt := [] }

/-- A request that reads the life-cycle state. -/
def readReq : QlpFrame := qf 1 ([0] ++ le 2 O.deviceVariant ++ le 2 0 ++ le 2 1 ++ le 4 0)

/-- A request that writes 100 to `LighthousePeriod`. -/
def writeReq : QlpFrame := qf 2 ([0] ++ le 2 O.lighthousePeriod ++ le 2 0 ++ le 2 1 ++ le 4 1 ++ [100])

/-! ### Ill-formed commands -/

/-- A request of node 127, the broadcast address, which sends nothing. -/
def badReq : Req := { rq with src := 127 }

/-- A message of 65 bytes on a CAN channel. -/
def badFrame : QlpFrame := { readReq with msg := List.replicate 65 0 }

/-- A measurement of nothing. -/
def measured : Dissipation :=
  { lsMa := List.replicate 16 0, lsMohm := List.replicate 16 0, coilMa := List.replicate 12 0, coilLoad := List.replicate 12 0,
    coilMohm := List.replicate 12 0, gateMa := List.replicate 4 0, gateMv := List.replicate 4 0, vauxMv := 24000, slewMvPerUs := 1,
    lsTemp := List.replicate 16 2500, mdTemp := List.replicate 4 2500 }

/-- A startup that found nothing. -/
def passed : StartupChecks := ⟨false, false, false, [], [], [], [], [], []⟩

/-- A sync exchange of domain 0. -/
def synced : PtpSync := { domain := 0, origin := 0, received := 0, requested := 0, answered := 0 }

/-- The announcement of a clock. -/
def clock : PtpAnnounce := { identity := 1 }

/-- An empty tail of a frame of the duplex link. -/
def noTail : DupTail := ⟨0, 0⟩

/-- The check of the request, of the commands up to the tallies. -/
theorem test_ill_formed_requests_1 : ∀ i ∈
    [(.eventRouteWrite badReq 0 0 : Instr), .tallyPeriodWrite badReq 0, .openWireRequest badReq 0, .captureArm badReq 0,
      .captureTrigger badReq 0, .fabricSelfTestRequest badReq 0, .modelTableFileWrite badReq 0 [], .capLearnReportRequest badReq 0,
      .impedanceSnapshotRequest badReq 0, .stringClose badReq 0, .stringOpen badReq 0, .tripReset badReq 0, .weldClear badReq 0,
      .contactorOpenTestRequest badReq 0, .loadSwitchCmdOff badReq 0, .loadSwitchCmdOn badReq 0, .loadSwitchCmdPwm badReq 0,
      .lsFaultClear badReq 0, .motorSpeedCommand badReq 0 0, .motorFaultClear badReq 0, .brakeFaultClear badReq 0,
      .qlpNodeIdWrite badReq 0, .eventAcknowledge badReq 0, .manifestFileWrite badReq []], wellFormed i = false := by
  decide +kernel

/-- The check of the request, of the other commands. -/
theorem test_ill_formed_requests_2 : ∀ i ∈
    [(.manifestAdoptUids badReq 0 : Instr), .configSave badReq, .configDiscard badReq, .configFactoryDefaults badReq,
      .configImageImport badReq [], .berthHandOver badReq, .berthTake badReq, .logClear badReq 0, .deviceResetCommand badReq 0,
      .mooredWatchCommand badReq, .mooredDarkCommand badReq, .siteKeyWrite badReq [], .moduleKeyWrite badReq 0 [],
      .lifecycleCommission badReq 0, .lifecycleInService badReq 0, .lifecycleMaintenance badReq 0, .lifecycleRetire badReq 0,
      .tamperAcknowledge badReq 0, .firmwareBegin badReq, .firmwareChunkWrite badReq 0 [], .firmwareVerify badReq,
      .firmwareActivate badReq, .firmwareAbort badReq, .deviceSelfTestRequest badReq 0], wellFormed i = false := by
  decide +kernel

/-- The check of the message. -/
theorem test_ill_formed_frames : ∀ i ∈
    [(.qlpRead badFrame : Instr), .qlpWrite badFrame, .sessionOpen badFrame, .sessionAuth badFrame, .sessionClose badFrame,
      .timeSet badFrame 0, .blockSegment badFrame, .blockAck badFrame, .blockAbort badFrame], wellFormed i = false := by
  decide +kernel

/-- The checks of values and of short frames. -/
theorem test_ill_formed_values : ∀ i ∈
    [(.sample 0 true (List.replicate 257 0) : Instr), .comparatorSourceRaise 0 0 2048, .ident 0 true (List.replicate 257 0),
      .echoBack 0 true (List.replicate 257 0) 0 0, .configAck 0 true (List.replicate 257 0), .status 0 true (List.replicate 257 0),
      .balAck 0 true (List.replicate 257 0), .openWireResult 0 true (List.replicate 257 0), .authResult 0 true (List.replicate 257 0),
      .authMac 0 true (List.replicate 257 0), .rejoinResult 0 true (List.replicate 257 0), .tallyPeriodWrite rq 65536,
      .captureArm rq 256, .captureTrigger rq 256, .motorSpeedCommand rq 0 65536, .brakeFaultClear rq 256, .segmentTimeout 0 127,
      .nonceExpiry 0 127, .qlpNodeIdWrite rq 256, .canTxDone 0 true 0 65536, .chainReq 0 (List.replicate 257 0) 0 noTail,
      .chainFwd 0 0 (List.replicate 257 0) noTail, .deviceResetCommand rq 256, .canBusOff 0 512 0 true, .canBusOff 0 0 512 true,
      .ptpSyncReceived synced 0 clock 0, .ptpSyncReceived synced 33 clock 0,
      .ptpSyncReceived synced 1 { clock with identity := 2 ^ 64 } 0, .ptpSyncReceived { synced with domain := 256 } 1 clock 0,
      .ptpSyncReceived { synced with heard := [{ clock with priority1 := 256 }] } 1 clock 0, .arpRequest (2 ^ 32) 0,
      .arpRequest 0 (2 ^ 32), .icmpEchoRequest 0 false (2 ^ 32), .mirror noMirror noTail, .ringDelays (List.replicate 67 0) noTail,
      .hello { armedHello with tableCrcs := [0, 0, 0, 0], duplexMode := 2 } noTail,
      .hello { armedHello with tableCrcs := [0, 0, 0, 0], nodeId := 127 } noTail, .hello armedHello noTail, .dieSensorConversion [],
      .dissipationEstimate { measured with coilLoad := [] }, .dissipationEstimate { measured with lsMa := [] },
      .dissipationEstimate { measured with gateMv := [0] }, .dissipationEstimate { measured with lsTemp := [] },
      .dissipationEstimate { measured with mdTemp := [2500] }, .dissipationEstimate { measured with supply := ⟨65536, 0, 0, 0, 0⟩ },
      .startupComplete { passed with records := [(7, [])] }, .startupComplete { passed with tornPages := [(256, 0)] },
      .startupComplete { passed with tornPages := [(0, 4096)] }], wellFormed i = false := by
  decide +kernel

/-- The checks of files. -/
theorem test_ill_formed_files : ∀ i ∈
    [(.modelTableFileWrite rq 0 (List.replicate 65536 0) : Instr), .manifestFileWrite rq (List.replicate 65536 0),
      .configImageImport rq (List.replicate 65536 0), .siteKeyWrite rq (List.replicate 65536 0),
      .moduleKeyWrite rq 0 (List.replicate 65536 0), .firmwareChunkWrite rq 0 (List.replicate 65536 0)], wellFormed i = false := by
  intro i hi
  simp only [List.mem_cons, List.not_mem_nil, or_false] at hi
  rcases hi with rfl | rfl | rfl | rfl | rfl | rfl <;> simp only [wellFormed, List.length_replicate] <;> decide

/-- Every field of a request is checked. -/
theorem test_ill_formed_request_fields : ∀ q ∈ [{ rq with dest := 128 }, { rq with seq := 64 }, { rq with prio := 8 },
    { rq with addr := 2 ^ 48 }], wfReq q = false := by decide +kernel

/-- Every field of a message is checked. -/
theorem test_ill_formed_frame_fields : ∀ f ∈ [{ readReq with ident := 2 ^ 29 }, { readReq with addr := 1 }, badFrame,
    { dgram 4 8 0 5 1 [] with head := List.replicate 9 0 }, { dgram 4 8 0 5 1 [] with addr := 2 ^ 48 },
    { dgram 4 8 0 5 1 [] with port := 65536 }, dgram 4 8 0 5 1 (List.replicate 1465 0)], wfFrame f = false := by decide +kernel

/-- Every field of an announcement is checked. -/
theorem test_ill_formed_announcements : ∀ a ∈ [{ clock with priority1 := 256 }, { clock with clockClass := 256 },
    { clock with accuracy := 256 }, { clock with variance := 65536 }, { clock with priority2 := 256 },
    { clock with identity := 2 ^ 64 }], wfAnnounce a = false := by decide +kernel

/-- The commands that those terms spoil are well formed. -/
theorem test_well_formed : ∀ i ∈ [(.qlpRead readReq : Instr), .stringClose rq 3, .arpRequest 1 2, .hello { armedHello with tableCrcs := [0, 0, 0, 0] } noTail,
    .captureArm rq 255, .qlpRead (dgram 4 8 0 5 1 [1]), .ptpSyncReceived synced 8 clock 37, .dissipationEstimate measured,
    .startupComplete { passed with tornPages := [(255, 4095)] }], wellFormed i = true := by decide +kernel

/-! ### Known answers -/

/-- R56: the check value of CRC-32. -/
theorem test_crc32 : crc32 [0x31, 0x32, 0x33, 0x34, 0x35, 0x36, 0x37, 0x38, 0x39] = 0xCBF43926 := by decide +kernel

/-- FIPS 197, appendix B. -/
theorem test_aes : aes [0x2B, 0x7E, 0x15, 0x16, 0x28, 0xAE, 0xD2, 0xA6, 0xAB, 0xF7, 0x15, 0x88, 0x09, 0xCF, 0x4F, 0x3C]
    [0x32, 0x43, 0xF6, 0xA8, 0x88, 0x5A, 0x30, 0x8D, 0x31, 0x31, 0x98, 0xA2, 0xE0, 0x37, 0x07, 0x34] =
    [0x39, 0x25, 0x84, 0x1D, 0x02, 0xDC, 0x09, 0xFB, 0xDC, 0x11, 0x85, 0x97, 0x19, 0x6A, 0x0B, 0x32] := by decide +kernel

/-- RFC 4493, example 1: the empty message. -/
theorem test_cmac : cmac [0x2B, 0x7E, 0x15, 0x16, 0x28, 0xAE, 0xD2, 0xA6, 0xAB, 0xF7, 0x15, 0x88, 0x09, 0xCF, 0x4F, 0x3C] [] =
    [0xBB, 0x1D, 0x69, 0x29, 0xE9, 0x59, 0x37, 0x28, 0x7F, 0xA3, 0x7D, 0x12, 0x9B, 0x75, 0x67, 0x46] := by decide +kernel

/-- FIPS 180-4's example: "abc". -/
theorem test_sha256 : sha256 [0x61, 0x62, 0x63] =
    [0xBA, 0x78, 0x16, 0xBF, 0x8F, 0x01, 0xCF, 0xEA, 0x41, 0x41, 0x40, 0xDE, 0x5D, 0xAE, 0x22, 0x23, 0xB0, 0x03, 0x61, 0xA3, 0x96,
     0x17, 0x7A, 0x9C, 0xB4, 0x10, 0xFF, 0x61, 0xF2, 0x00, 0x15, 0xAD] := by decide +kernel

/-- RFC 4231, test case 2: key "Jefe". -/
theorem test_hmac : hmac [0x4A, 0x65, 0x66, 0x65]
    [0x77, 0x68, 0x61, 0x74, 0x20, 0x64, 0x6F, 0x20, 0x79, 0x61, 0x20, 0x77, 0x61, 0x6E, 0x74, 0x20, 0x66, 0x6F, 0x72, 0x20, 0x6E,
     0x6F, 0x74, 0x68, 0x69, 0x6E, 0x67, 0x3F] =
    [0x5B, 0xDC, 0xC1, 0x46, 0xBF, 0x60, 0x75, 0x4E, 0x6A, 0x04, 0x24, 0x26, 0x08, 0x95, 0x75, 0xC7, 0x5A, 0x00, 0x3F, 0x08, 0x9D,
     0x27, 0x39, 0x83, 0x9D, 0xEC, 0x58, 0xB9, 0x64, 0xEC, 0x38, 0x43] := by decide +kernel

/-- The table gives no row bits: no word spells a command. -/
theorem test_no_words : decodeTableWord 16 0 = none ∧ State.reset.withFetchWord 16 0 = State.reset := by
  exact ⟨rfl, rfl⟩

/-- R5: the device reads as BLANK with nothing waiting. -/
theorem test_reset : State.reset.lifecycle = 0 ∧ State.reset.pending = [] := by decide +kernel

/-- A step takes the front command and keeps the rest. -/
theorem test_step_front : (match step { up with pending := [.tallyInstant 0, .tallyInstant 1] } with
    | .next t => t.pending
    | _ => []) = [.tallyInstant 1] := by decide +kernel

/-- The CRC register over a part of `tableBody`. -/
theorem tableBody_crc_1 : ((tableBody.drop 0).take 104).foldl crc32Byte 4294967295 = 541245898 := by decide +kernel

theorem tableBody_crc_2 : ((tableBody.drop 104).take 104).foldl crc32Byte 541245898 = 4138646400 := by decide +kernel

theorem tableBody_crc_3 : ((tableBody.drop 208).take 104).foldl crc32Byte 4138646400 = 1558842066 := by decide +kernel

theorem tableBody_crc_4 : ((tableBody.drop 312).take 104).foldl crc32Byte 1558842066 = 3299657008 := by decide +kernel

theorem tableBody_crc_5 : ((tableBody.drop 416).take 104).foldl crc32Byte 3299657008 = 2513625247 := by decide +kernel

/-- The CRC of `tableBody`. -/
theorem tableBody_crc : crc32 tableBody = 0x6A2D1F60 := by
  have h : tableBody = (tableBody.drop 0).take 104 ++ ((tableBody.drop 104).take 104 ++ ((tableBody.drop 208).take 104 ++
      ((tableBody.drop 312).take 104 ++ (tableBody.drop 416).take 104))) := by decide +kernel
  rw [h, crc32]
  simp only [List.foldl_append, tableBody_crc_1, tableBody_crc_2, tableBody_crc_3, tableBody_crc_4, tableBody_crc_5]
  decide +kernel

/-- `tableFile` fails no check. -/
theorem tableFile_check : tableCheck tableFile = 0 := by
  have hl : tableFile.length = 524 := by decide +kernel
  have hb : tableFile.take (524 - 4) = tableBody := by decide +kernel
  have hc : leAt tableFile (524 - 4) 4 = 0x6A2D1F60 := by decide +kernel
  unfold tableCheck
  simp only [hl, hb, hc, tableBody_crc]
  decide +kernel

/-- `inService` with a manifest. -/
def ready0 : State := { inService with fw := { inService.fw with noManifest := false } }

/-- `ready0` with its running configuration saved. -/
def ready1 : State :=
  { ready0 with flash := { ready0.flash with
    config := [(0, List.replicate 32 0 ++ (ready0.runningEntries ++ List.replicate 4 0))], configSlot := 1 } }

/-- Saved: nothing is unsaved. -/
theorem ready1_saved : ready1.unsaved = false := by
  have hr : ready1.runningEntries = ready0.runningEntries := rfl
  have hi : ready1.newestImage = List.replicate 32 0 ++ (ready0.runningEntries ++ List.replicate 4 0) := rfl
  unfold State.unsaved
  simp only [hr, hi]
  simp

/-- Nothing keeps it out of service. -/
theorem ready1_free : ready1.lifeCycleBlock = 0 := by
  unfold State.lifeCycleBlock
  rw [ready1_saved]
  decide +kernel

/-! ### Witnesses for the statements of completion -/

/-- A state and operands that meet the hypotheses of clause 1 of `Obligations.CompletesSupervision`. -/
theorem witness_CompletesSupervision_1 : ∃ (s : State), s.cd :=
  ⟨up, by decide +kernel⟩

/-- A state and operands that meet the hypotheses of clause 2 of `Obligations.CompletesSupervision`. -/
theorem witness_CompletesSupervision_2 : ∃ (s : State) (count1 count5 : Nat) (byDomain8 : Bool), s.pd ∧ s.pwr.pll :=
  ⟨up, 0, 0, false, by decide +kernel⟩

/-- A state and operands that meet the hypotheses of clause 3 of `Obligations.CompletesSupervision`. -/
theorem witness_CompletesSupervision_3 : ∃ (s : State) (count1 count5 : Nat) (byDomain8 : Bool), s.pd ∧ s.pwr.pll ∧
  s.cd ∧ s.pwr.holdClock = false ∧ (s.gateFaults count1 count5 byDomain8 ≠ []) :=
  ⟨up, 0, 0, true, by decide +kernel⟩

/-- A state and operands that meet the hypotheses of clause 4 of `Obligations.CompletesSupervision`. -/
theorem witness_CompletesSupervision_4 : ∃ (s : State) (count1 count5 : Nat), s.pd ∧ s.pwr.pll ∧ (s.gateFaults count1
  count5 true = []) :=
  ⟨up, 48828, 58594, by decide +kernel⟩

/-- A state and operands that meet the hypotheses of clause 5 of `Obligations.CompletesSupervision`. -/
theorem witness_CompletesSupervision_5 : ∃ (s : State) (since : Nat), s.clk.clockGoodSince = some since ∧
  s.pwr.holdClock ∧ s.past since 10000 :=
  ⟨{ up with pwr := { up.pwr with holdClock := true, cdUp := false }, clk := { up.clk with clockGoodSince := some 5 } },
    5, by decide +kernel⟩

/-- A state and operands that meet the hypotheses of clause 6 of `Obligations.CompletesSupervision`. -/
theorem witness_CompletesSupervision_6 : ∃ (s : State), s.pd ∧ s.clk.fallback8 = false :=
  ⟨up, by decide +kernel⟩

/-- A state and operands that meet the hypotheses of clause 7 of `Obligations.CompletesSupervision`. -/
theorem witness_CompletesSupervision_7 : ∃ (s : State) (f : LinkFrame), s.pd ∧ frameIntact f ∧ f.seq = s.linkP.next ∧
  f.type ≠ Config.linkTypeResend := by
  refine ⟨up, { type := Config.linkTypeResend + 1, seq := 0, payload := 0, crc := linkCrc (Config.linkTypeResend + 1) 0 0 }, ?_, ?_, ?_, ?_⟩
  · decide +kernel
  · simp [frameIntact]
  · decide +kernel
  · simp

/-- A state and operands that meet the hypotheses of clause 8 of `Obligations.CompletesSupervision`. -/
theorem witness_CompletesSupervision_8 : ∃ (s : State) (f : LinkFrame), s.cd ∧ frameIntact f ∧ f.seq = s.linkC.next ∧
  f.type ≠ Config.linkTypeResend := by
  refine ⟨up, { type := Config.linkTypeResend + 1, seq := 0, payload := 0, crc := linkCrc (Config.linkTypeResend + 1) 0 0 }, ?_, ?_, ?_, ?_⟩
  · decide +kernel
  · simp [frameIntact]
  · decide +kernel
  · simp

/-- A state and operands that meet the hypotheses of clause 9 of `Obligations.CompletesSupervision`. -/
theorem witness_CompletesSupervision_9 : ∃ (s : State), s.pd ∧ s.past s.linkP.lastValid 50 :=
  ⟨up, by decide +kernel⟩

/-- A state and operands that meet the hypotheses of clause 10 of `Obligations.CompletesSupervision`. -/
theorem witness_CompletesSupervision_10 : ∃ (s : State), s.cd ∧ s.linkC.lost = false ∧ s.past s.linkC.lastValid 50 :=
  ⟨up, by decide +kernel⟩

/-- A state and operands that meet the hypotheses of clause 11 of `Obligations.CompletesSupervision`. -/
theorem witness_CompletesSupervision_11 : ∃ (s : State), s.pd ∧ s.past s.linkP.sentAt 10 :=
  ⟨up, by decide +kernel⟩

/-- A state and operands that meet the hypotheses of clause 12 of `Obligations.CompletesSupervision`. -/
theorem witness_CompletesSupervision_12 : ∃ (s : State), s.cd ∧ s.past s.linkC.sentAt 10 :=
  ⟨up, by decide +kernel⟩

/-- A state and operands that meet the hypotheses of clause 13 of `Obligations.CompletesSupervision`. -/
theorem witness_CompletesSupervision_13 : ∃ (s : State) (k : Fin 4) (value : Byte) (at9 : Nat), s.pd ∧ s.cd ∧
  s.wd.stopped = false ∧ s.linkP.lost = false ∧ s.wd.bad = false ∧ k.val = s.wd.answers ∧ value =
  Config.watchdogAnswer s.wd.question k ∧ ((k.val < 3 ↔ at9 < s.wd.windowMs * 750)) :=
  ⟨up, 0, Config.watchdogAnswer 0 0, 0, by decide +kernel, by decide +kernel, by decide +kernel, by decide +kernel,
    by decide +kernel, by decide +kernel, rfl, by decide +kernel⟩

/-- A state and operands that meet the hypotheses of clause 14 of `Obligations.CompletesSupervision`. -/
theorem witness_CompletesSupervision_14 : ∃ (s : State), s.pd ∧ s.past s.wd.windowAt (s.wd.windowMs * 950) ∧
  s.wd.answers = 4 ∧ s.wd.bad = false :=
  ⟨{ up with wd := { up.wd with answers := 4 } }, by decide +kernel⟩

/-- A state and operands that meet the hypotheses of clause 15 of `Obligations.CompletesSupervision`. -/
theorem witness_CompletesSupervision_15 : ∃ (s : State), s.pd ∧ s.cd ∧ s.wd.trusted = false ∧ s.past (max (max
  s.wd.absentSince s.pwr.cdSince) s.pwr.escalatedAt) 1000000 :=
  ⟨up, by decide +kernel⟩

/-- A state and operands that meet the hypotheses of clause 1 of `Obligations.CompletesPowerDie`. -/
theorem witness_CompletesPowerDie_1 : ∃ (s : State) (d : Fin 12), s.pd ∧ s.mayEnergise d.val ∧ s.yields d.val = false :=
  ⟨trusting, 0, by decide +kernel⟩

/-- A state and operands that meet the hypotheses of clause 2 of `Obligations.CompletesPowerDie`. -/
theorem witness_CompletesPowerDie_2 : ∃ (s : State) (d : Fin 12), s.pd ∧ (s.mayEnergise d.val = false ∨ s.yields
  d.val) :=
  ⟨up, 0, by decide +kernel⟩

/-- A state and operands that meet the hypotheses of clause 3 of `Obligations.CompletesPowerDie`. -/
theorem witness_CompletesPowerDie_3 : ∃ (s : State) (d : Fin 12), s.pd ∧ s.trusts ∧ s.berthOk ∧ s.safeOff (s.stringOf
  d.val) = false ∧ s.nearFrame (s.drv d.val).closeReqAt = false :=
  ⟨trusting, 0, by decide +kernel⟩

/-- A state and operands that meet the hypotheses of clause 4 of `Obligations.CompletesPowerDie`. -/
theorem witness_CompletesPowerDie_4 : ∃ (s : State) (d : Fin 12), s.pd ∧ (s.trusts = false ∨ s.berthOk = false ∨
  s.safeOff (s.stringOf d.val)) :=
  ⟨up, 0, by decide +kernel⟩

/-- A state and operands that meet the hypotheses of clause 5 of `Obligations.CompletesPowerDie`. -/
theorem witness_CompletesPowerDie_5 : ∃ (s : State) (n : Fin 16) (mode duty freq : Nat), s.pd ∧ s.trusts ∧ s.berthOk ∧
  s.quiet = false :=
  ⟨trusting, 3, 1, 500, 100, by decide +kernel⟩

/-- A state and operands that meet the hypotheses of clause 6 of `Obligations.CompletesPowerDie`. -/
theorem witness_CompletesPowerDie_6 : ∃ (s : State) (n : Fin 4) (rpm : Nat), s.pd ∧ s.has n.val ∧ s.trusts ∧ s.berthOk
  ∧ s.quiet = false :=
  ⟨trusting, 3, 30000, by decide +kernel⟩

/-- A state and operands that meet the hypotheses of clause 7 of `Obligations.CompletesPowerDie`. -/
theorem witness_CompletesPowerDie_7 : ∃ (s : State) (n : Fin 16), s.pd ∧ s.trusts ∧ s.berthOk :=
  ⟨trusting, 15, by decide +kernel⟩

/-- A state and operands that meet the hypotheses of clause 8 of `Obligations.CompletesPowerDie`. -/
theorem witness_CompletesPowerDie_8 : ∃ (s : State) (n : Fin 4), s.pd ∧ s.has n.val ∧ s.trusts ∧ s.berthOk :=
  ⟨trusting, 3, by decide +kernel⟩

/-- A state and operands that meet the hypotheses of clause 9 of `Obligations.CompletesPowerDie`. -/
theorem witness_CompletesPowerDie_9 : ∃ (s : State), s.pd ∧ s.trusts ∧ s.berthOk :=
  ⟨trusting, by decide +kernel⟩

/-- A state and operands that meet the hypotheses of clause 10 of `Obligations.CompletesPowerDie`. -/
theorem witness_CompletesPowerDie_10 : ∃ (s : State) (string : Fin 4), s.pd ∧ s.has string.val ∧ s.tripsCount ∧
  ((s.ev.latched.find? fun l => bit l.word (16 + string.val)) = none) :=
  ⟨up, 3, by decide +kernel⟩

/-- A state and operands that meet the hypotheses of clause 11 of `Obligations.CompletesPowerDie`. -/
theorem witness_CompletesPowerDie_11 : ∃ (s : State) (string : Fin 4) (l : Latch), s.pd ∧ s.cd ∧ s.has string.val ∧
  s.tripsCount ∧ ((s.ev.latched.find? fun l => bit l.word (16 + string.val)) = some l) ∧ s.seqState string.val ≠ 9 :=
  ⟨{ up with ev := { up.ev with latched := [{ src := 0x40, inst := 7, word := 0x10000 }] } }, 0,
    { src := 0x40, inst := 7, word := 0x10000 }, by decide +kernel⟩

/-- A state and operands that meet the hypotheses of clause 1 of `Obligations.CompletesEventsAndStores`. -/
theorem witness_CompletesEventsAndStores_1 : ∃ (s : State), s.running :=
  ⟨up, by decide +kernel⟩

/-- A state and operands that meet the hypotheses of clause 2 of `Obligations.CompletesEventsAndStores`. -/
theorem witness_CompletesEventsAndStores_2 : ∃ (s : State) (req : Req) (source : Byte) (value : BitVec 32),
  s.takesWrite req O.eventRoute source.toNat ∧ sourceLocked source.toNat = false ∧ bits value.toNat 31 20 = 0 ∧ bits
  value.toNat 7 1 = 0 ∧ s.allOpen ∧ (s.variant = .qb2048 ∨ bits value.toNat 19 18 = 0) :=
  ⟨up, rq, 0xC8, 0x800, by decide +kernel⟩

/-- A state and operands that meet the hypotheses of clause 3 of `Obligations.CompletesEventsAndStores`. -/
theorem witness_CompletesEventsAndStores_3 : ∃ (s : State) (req : Req) (value : BitVec 16), s.takesWrite req
  O.eventAcknowledge 0 ∧ value.toNat < 256 ∧ s.tripField value.toNat = 0 :=
  ⟨up, rq, 0xC8, by decide +kernel⟩

/-- A state and operands that meet the hypotheses of clause 4 of `Obligations.CompletesEventsAndStores`. -/
theorem witness_CompletesEventsAndStores_4 : ∃ (s : State) (area : Fin 7) (uncorrectable : Bool) (item : Nat),
  s.running ∧ uncorrectable = false :=
  ⟨up, 0, false, 0, by decide +kernel⟩

/-- A state and operands that meet the hypotheses of clause 5 of `Obligations.CompletesEventsAndStores`. -/
theorem witness_CompletesEventsAndStores_5 : ∃ (s : State) (area : Fin 7) (uncorrectable : Bool) (item : Nat),
  s.running ∧ uncorrectable ∧ area.val ≠ 4 :=
  ⟨up, 6, true, 0, by decide +kernel⟩

/-- A state and operands that meet the hypotheses of clause 6 of `Obligations.CompletesEventsAndStores`. -/
theorem witness_CompletesEventsAndStores_6 : ∃ (s : State) (area : Fin 7) (uncorrectable : Bool) (item : Nat),
  s.running ∧ uncorrectable ∧ area.val = 4 :=
  ⟨up, 4, true, 0, by decide +kernel⟩

/-- A state and operands that meet the hypotheses of clause 7 of `Obligations.CompletesEventsAndStores`. -/
theorem witness_CompletesEventsAndStores_7 : ∃ (s : State) (set : Fin 4), s.running ∧ set.val ∈ s.fab.reloading :=
  ⟨{ up with fab := { up.fab with reloading := [2] } }, 2, by decide +kernel⟩

/-- A state and operands that meet the hypotheses of clause 8 of `Obligations.CompletesEventsAndStores`. -/
theorem witness_CompletesEventsAndStores_8 : ∃ (s : State) (set : Fin 4), s.running ∧ set.val ∈ s.fab.reloading :=
  ⟨{ up with fab := { up.fab with reloading := [2] } }, 2, by decide +kernel⟩

/-- A state and operands that meet the hypotheses of clause 9 of `Obligations.CompletesEventsAndStores`. -/
theorem witness_CompletesEventsAndStores_9 : ∃ (s : State) (string : Fin 4) (worn : Bool), s.running ∧ s.inManifest
  string.val ∧ s.flashOk ∧ s.journalDoomed (journalBytes (s.learnedPayload string.val)) = none ∧ s.past (mget 0
  s.flash.learnedAt string.val) 3600000000 :=
  ⟨ring3, 3, false, by decide +kernel⟩

/-- A state and operands that meet the hypotheses of clause 10 of `Obligations.CompletesEventsAndStores`. -/
theorem witness_CompletesEventsAndStores_10 : ∃ (s : State) (string : Fin 4) (worn : Bool), s.running ∧ mhas
  s.flash.weldDirty string.val ∧ s.flashOk ∧ s.journalDoomed (journalBytes (s.learnedPayload string.val)) = none :=
  ⟨{ up with flash := { up.flash with weldDirty := [(1, 1)] } }, 1, true, by decide +kernel⟩

/-- A state and operands that meet the hypotheses of clause 1 of `Obligations.CompletesChainLinks`. -/
theorem witness_CompletesChainLinks_1 : ∃ (s : State) (ring : Fin 4) (loss : LaneLoss), s.cd ∧ s.has ring.val ∧ s.nMon
  ring.val ≠ 0 ∧ s.ownsEnd loss.bEnd ∧ (if loss.bEnd then (s.ring ring.val).lostB else (s.ring ring.val).lostA) =
  false ∧ laneGone loss.seen :=
  ⟨ring3, 3, ⟨true, .violations 4⟩, by decide +kernel⟩

/-- A state and operands that meet the hypotheses of clause 2 of `Obligations.CompletesChainLinks`. -/
theorem witness_CompletesChainLinks_2 : ∃ (s : State) (ring : Fin 4) (v : LaneValid), s.cd ∧ (if v.bEnd then (s.ring
  ring.val).lostB else (s.ring ring.val).lostA) = true ∧ 10000 ≤ v.validUs ∧ s.past (if v.bEnd then (s.ring
  ring.val).lostAtB else (s.ring ring.val).lostAtA) 10000 :=
  ⟨ring3.ringUpd 3 (fun x => { x with lostB := true }), 3, ⟨true, 10000⟩, by decide +kernel⟩

/-- A state and operands that meet the hypotheses of clause 3 of `Obligations.CompletesChainLinks`. -/
theorem witness_CompletesChainLinks_3 : ∃ (s : State) (ring : Fin 4) (bEnd : Bool) (t : Train), s.running ∧ (s.ring
  ring.val).train bEnd = some t :=
  ⟨ring3.ringUpd 3 (fun x => { x with trainB := some {} }), 3, true, {}, by decide +kernel⟩

/-- A state and operands that meet the hypotheses of clause 4 of `Obligations.CompletesChainLinks`. -/
theorem witness_CompletesChainLinks_4 : ∃ (s : State) (ring : Fin 4) (bEnd : Bool) (t : Train), s.running ∧ (s.ring
  ring.val).train bEnd = some t ∧ s.past t.at' (s.trainTime ring.val bEnd t + 50) :=
  ⟨ring3.ringUpd 3 (fun x => { x with trainB := some {} }), 3, true, {}, by decide +kernel⟩

/-- A state and operands that meet the hypotheses of clause 5 of `Obligations.CompletesChainLinks`. -/
theorem witness_CompletesChainLinks_5 : ∃ (s : State) (ring : Fin 4) (b : Bool) (f : List Byte), s.running ∧ s.directs
  ∧ s.has ring.val ∧ (s.gn O.chainRingState ring.val = 2 ∨ s.gn O.chainRingState ring.val = 3 ∨ s.gn O.chainRingState
  ring.val = 4) ∧ s.returnDiffers ring.val (.command b f) :=
  ⟨ring3.ringUpd 3 (fun x => { x with trainA := some {}, trainB := some {} }), 3, true, [1], by decide +kernel⟩

/-- A state and operands that meet the hypotheses of clause 6 of `Obligations.CompletesChainLinks`. -/
theorem witness_CompletesChainLinks_6 : ∃ (s : State) (ring : Fin 4) (ns : Nat) (seq check : Byte), s.running ∧
  s.directs ∧ s.has ring.val ∧ ((s.ring ring.val).broken = []) ∧ (s.gn O.chainRingState ring.val = 2 ∨ s.gn
  O.chainRingState ring.val = 3) ∧ s.returnDiffers ring.val (.trigger s.headB ns seq check) = false :=
  ⟨ring3, 3, 5200, 0, 0xFF, by decide +kernel⟩

/-- A state and operands that meet the hypotheses of clause 7 of `Obligations.CompletesChainLinks`. -/
theorem witness_CompletesChainLinks_7 : ∃ (s : State) (ring : Fin 4) (ns : Nat) (seq check : Byte), s.running ∧
  s.directs ∧ s.has ring.val ∧ ((s.ring ring.val).broken = []) ∧ s.gn O.chainRingState ring.val = 3 ∧ s.returnDiffers
  ring.val (.trigger s.headB ns seq check) = false ∧ (s.ring ring.val).wantR = 0 ∧ (s.ring ring.val).remeasure = .none
  ∧ (ns - s.portNs ring.val s.headB ≤ s.gn O.ringRoundTrip ring.val + 200) ∧ (s.gn O.ringRoundTrip ring.val ≤ ns -
  s.portNs ring.val s.headB + 200) :=
  ⟨ring3.put O.ringRoundTrip 3 5000, 3, 5200, 0, 0xFF, by decide +kernel⟩

/-- A state and operands that meet the hypotheses of clause 8 of `Obligations.CompletesChainLinks`. -/
theorem witness_CompletesChainLinks_8 : ∃ (s : State) (ring : Fin 4), s.running ∧ s.directs = false ∧ s.has ring.val :=
  ⟨{ ring3 with dup := { ring3.dup with mode := 1 } }, 3, by decide +kernel⟩

/-- A state and operands that meet the hypotheses of clause 9 of `Obligations.CompletesChainLinks`. -/
theorem witness_CompletesChainLinks_9 : ∃ (s : State) (ring : Fin 4) (b : Bool) (f : List Byte), s.running ∧ s.directs
  = false ∧ s.has ring.val :=
  ⟨{ ring3 with dup := { ring3.dup with mode := 1 } }, 3, true, [1], by decide +kernel⟩

/-- A state and operands that meet the hypotheses of clause 10 of `Obligations.CompletesChainLinks`. -/
theorem witness_CompletesChainLinks_10 : ∃ (s : State) (ring : Fin 4) (bEnd : Bool) (t : Train) (queued : Bool),
  s.running ∧ s.has ring.val ∧ (s.nextLaunch ring.val bEnd = some (t, queued)) ∧ s.mayLaunch ring.val bEnd t ∧ (∀ u,
  s.rejoinMate ring.val bEnd t = some u → s.mayLaunch ring.val (!bEnd) u = true) :=
  ⟨ring3.ringUpd 3 (fun x => { x with queueA := [{ order := 4 }] }), 3, false, { order := 4 }, true,
    by decide +kernel⟩

/-- A state and operands that meet the hypotheses of clause 11 of `Obligations.CompletesChainLinks`. -/
theorem witness_CompletesChainLinks_11 : ∃ (s : State) (ring : Fin 4) (bEnd : Bool) (hop : Fin 32), s.running ∧ s.has
  ring.val ∧ (s.ring ring.val).sweeping ∧ (s.directs ∨ (s.ring ring.val).takeover) ∧ hop.val < s.nMon ring.val ∧ mhas
  (s.ring ring.val).copies (s.posOf ring.val bEnd hop.val) = false ∧ (s.ring ring.val).declareKey bEnd hop.val ∉
  (s.ring ring.val).declared ∧ s.hopLate ring.val bEnd hop.val :=
  ⟨late, 3, false, 1, by decide +kernel⟩

/-- A state and operands that meet the hypotheses of clause 12 of `Obligations.CompletesChainLinks`. -/
theorem witness_CompletesChainLinks_12 : ∃ (s : State) (ring : Fin 4) (pos : Fin 32), s.running ∧ ((s.mon (monKey
  ring.val pos.val)).challenge ≠ []) ∧ (s.mon (monKey ring.val pos.val)).challengeAt ≠ 0 ∧ s.past (s.mon (monKey
  ring.val pos.val)).challengeAt 1000 ∧ (s.endOf ring.val pos.val).isSome :=
  ⟨ring3.monUpd (monKey 3 1) (fun m => { m with challenge := [1], challengeAt := 7 }), 3, 1, by decide +kernel⟩

/-- A state and operands that meet the hypotheses of clause 13 of `Obligations.CompletesChainLinks`. -/
theorem witness_CompletesChainLinks_13 : ∃ (s : State) (ring : Fin 4) (pos : Fin 32), s.running ∧ ((s.mon (monKey
  ring.val pos.val)).challenge ≠ []) ∧ (s.mon (monKey ring.val pos.val)).challengeAt ≠ 0 ∧ s.past (s.mon (monKey
  ring.val pos.val)).challengeAt 1000 ∧ s.endOf ring.val pos.val = none :=
  ⟨(ring3.monUpd (monKey 3 1) (fun m => { m with challenge := [1], challengeAt := 7 })).ringUpd 3 (fun x =>
    { x with broken := [1, 2] }), 3, 1, by decide +kernel⟩

/-- A state and operands that meet the hypotheses of clause 14 of `Obligations.CompletesChainLinks`. -/
theorem witness_CompletesChainLinks_14 : ∃ (s : State) (ring : Fin 4) (pos : Fin 32) (at' : Nat), s.running ∧ (s.gn
  O.chainRingState ring.val = 2 ∨ s.gn O.chainRingState ring.val = 3 ∨ s.gn O.chainRingState ring.val = 4) ∧ ((s.mon
  (monKey ring.val pos.val)).challenge = []) ∧ (s.mon (monKey ring.val pos.val)).wrongAt = some at' ∧ s.past at'
  1000000 :=
  ⟨ring3.monUpd (monKey 3 1) (fun m => { m with wrongAt := some 7 }), 3, 1, 7, by decide +kernel⟩

/-- A state and operands that meet the hypotheses of clause 15 of `Obligations.CompletesChainLinks`. -/
theorem witness_CompletesChainLinks_15 : ∃ (s : State) (ring : Fin 4) (pos : Fin 32), s.running ∧ (s.gn
  O.chainRingState ring.val = 3 ∨ s.gn O.chainRingState ring.val = 4) ∧ pos.val < s.nMon ring.val ∧ ((s.mon (monKey
  ring.val pos.val)).challenge = []) ∧ turnDue s.fw.startedAt 86400000000 (s.monitorTurn ring.val pos.val).1
  (s.monitorTurn ring.val pos.val).2 (s.mon (monKey ring.val pos.val)).authAt s.mono :=
  ⟨ring3, 3, 1, by decide +kernel⟩

/-- A state and operands that meet the hypotheses of clause 16 of `Obligations.CompletesChainLinks`. -/
theorem witness_CompletesChainLinks_16 : ∃ (s : State) (ring : Fin 4), s.running ∧ s.has ring.val ∧ s.directs ∧ s.nMon
  ring.val ≠ 0 ∧ s.lifecycle ≠ 4 ∧ (s.ring ring.val).asleep = false ∧ s.mooring = false ∧ (s.gn O.chainRingState
  ring.val = 0 ∨ (s.gn O.chainRingState ring.val = 1 ∧ s.past (s.ring ring.val).wakeAt 40000 = true)) :=
  ⟨ring3.put O.chainRingState 3 0, 3, by decide +kernel⟩

/-- A state and operands that meet the hypotheses of clause 17 of `Obligations.CompletesChainLinks`. -/
theorem witness_CompletesChainLinks_17 : ∃ (s : State) (ring : Fin 4) (aIdle bIdle : Bool), s.running ∧ (s.ring
  ring.val).enumStep = 2 ∧ s.past (s.ring ring.val).enumAt 15000 :=
  ⟨ring3.ringUpd 3 (fun x => { x with enumStep := 2 }), 3, true, false, by decide +kernel⟩

/-- A state and operands that meet the hypotheses of clause 18 of `Obligations.CompletesChainLinks`. -/
theorem witness_CompletesChainLinks_18 : ∃ (s : State) (ring : Fin 4), s.running ∧ (s.ring ring.val).mismatch ∧
  (s.seqState ring.val = 0 ∨ s.seqState ring.val = 9 ∨ s.seqState ring.val = 10) :=
  ⟨ring3.ringUpd 3 (fun x => { x with mismatch := true }), 3, by decide +kernel⟩

/-- A state and operands that meet the hypotheses of clause 19 of `Obligations.CompletesChainLinks`. -/
theorem witness_CompletesChainLinks_19 : ∃ (s : State) (ring : Fin 4), s.running ∧ s.directs ∧ s.mooring = false ∧
  s.gn O.chainRingState ring.val = 1 ∧ s.past (s.ring ring.val).wakeAt 40000 :=
  ⟨ring3.put O.chainRingState 3 1, 3, by decide +kernel⟩

/-- A state and operands that meet the hypotheses of clause 1 of `Obligations.CompletesChainReplies`. -/
theorem witness_CompletesChainReplies_1 : ∃ (s : State) (ring : Fin 4) (bEnd : Bool) (frame : List Byte) (hop pos :
  Nat) (b : Bool), s.hearsReply ring.val bEnd frame hop pos b :=
  ⟨answering 0x01 [], 3, false, reply 0x81 identBytes, 1, 1, false, by decide +kernel⟩

/-- A state and operands that meet the hypotheses of clause 2 of `Obligations.CompletesChainReplies`. -/
theorem witness_CompletesChainReplies_2 : ∃ (s : State) (ring : Fin 4) (bEnd : Bool) (frame : List Byte) (t0 t1 hop
  pos : Nat) (b : Bool), s.hearsReply ring.val bEnd frame hop pos b :=
  ⟨answering 0x02 (le 4 1), 3, false, reply 0x82 (le 4 1), 0, 100, 1, 1, false, by decide +kernel⟩

/-- A state and operands that meet the hypotheses of clause 3 of `Obligations.CompletesChainReplies`. -/
theorem witness_CompletesChainReplies_3 : ∃ (s : State) (ring : Fin 4) (bEnd : Bool) (frame : List Byte) (hop pos :
  Nat) (b : Bool), s.hearsReply ring.val bEnd frame hop pos b :=
  ⟨answering 0x03 [], 3, false, reply 0x83 (0 :: le 4 0), 1, 1, false, by decide +kernel⟩

/-- A state and operands that meet the hypotheses of clause 4 of `Obligations.CompletesChainReplies`. -/
theorem witness_CompletesChainReplies_4 : ∃ (s : State) (ring : Fin 4) (bEnd : Bool) (frame : List Byte) (hop pos :
  Nat) (b : Bool), s.hearsReply ring.val bEnd frame hop pos b :=
  ⟨answering 0x04 [], 3, false, reply 0x84 (List.replicate 9 0), 1, 1, false, by decide +kernel⟩

/-- A state and operands that meet the hypotheses of clause 5 of `Obligations.CompletesChainReplies`. -/
theorem witness_CompletesChainReplies_5 : ∃ (s : State) (ring : Fin 4) (bEnd : Bool) (frame : List Byte) (hop pos :
  Nat) (b : Bool), s.hearsReply ring.val bEnd frame hop pos b :=
  ⟨answering 0x20 [], 3, false, reply 0xA0 (List.replicate 4 0), 1, 1, false, by decide +kernel⟩

/-- A state and operands that meet the hypotheses of clause 6 of `Obligations.CompletesChainReplies`. -/
theorem witness_CompletesChainReplies_6 : ∃ (s : State) (ring : Fin 4) (bEnd : Bool) (frame : List Byte) (hop pos :
  Nat) (b : Bool), s.hearsReply ring.val bEnd frame hop pos b :=
  ⟨answering 0x21 [], 3, false, reply 0xA1 [0], 1, 1, false, by decide +kernel⟩

/-- A state and operands that meet the hypotheses of clause 7 of `Obligations.CompletesChainReplies`. -/
theorem witness_CompletesChainReplies_7 : ∃ (s : State) (ring : Fin 4) (bEnd : Bool) (frame : List Byte) (hop pos :
  Nat) (b : Bool), s.hearsReply ring.val bEnd frame hop pos b :=
  ⟨answering 0x30 [], 3, false, reply 0xB0 [0], 1, 1, false, by decide +kernel⟩

/-- A state and operands that meet the hypotheses of clause 8 of `Obligations.CompletesChainReplies`. -/
theorem witness_CompletesChainReplies_8 : ∃ (s : State) (ring : Fin 4) (bEnd : Bool) (frame : List Byte) (hop pos :
  Nat) (b : Bool), s.hearsReply ring.val bEnd frame hop pos b :=
  ⟨answering 0x31 [], 3, false, reply 0xB1 (List.replicate 9 0), 1, 1, false, by decide +kernel⟩

/-- A state and operands that meet the hypotheses of clause 9 of `Obligations.CompletesChainReplies`. -/
theorem witness_CompletesChainReplies_9 : ∃ (s : State) (ring : Fin 4) (bEnd : Bool) (frame : List Byte) (hop pos :
  Nat) (b : Bool), s.hearsReply ring.val bEnd frame hop pos b :=
  ⟨answering 0x41 [], 3, false, reply 0xC1 [0], 1, 1, false, by decide +kernel⟩

/-- A state and operands that meet the hypotheses of clause 10 of `Obligations.CompletesChainReplies`. -/
theorem witness_CompletesChainReplies_10 : ∃ (s : State) (ring : Fin 4) (bEnd : Bool) (frame : List Byte) (hop pos :
  Nat) (b : Bool), s.running ∧ s.has ring.val ∧ s.gn O.chainRingState ring.val ≠ 0 ∧ s.directs ∧ s.judgeReply ring.val
  bEnd frame true = .good hop pos b :=
  ⟨swept, 3, false, reply 0x90 (List.replicate 10 0), 1, 1, false, by decide +kernel⟩

/-- A state and operands that meet the hypotheses of clause 1 of `Obligations.CompletesTally`. -/
theorem witness_CompletesTally_1 : ∃ (s : State), s.running ∧ s.fw.triggered ≠ some s.nextTally ∧ (s.fw.ticking =
  false ∨ s.fw.tallyTime + s.fw.period ≤ s.now + 30) :=
  ⟨up, by decide +kernel⟩

/-- A state and operands that meet the hypotheses of clause 2 of `Obligations.CompletesTally`. -/
theorem witness_CompletesTally_2 : ∃ (s : State) (busdetUv : Nat), s.running ∧ s.instantTime ≤ s.now :=
  ⟨up, 0, by decide +kernel⟩

/-- A state and operands that meet the hypotheses of clause 3 of `Obligations.CompletesTally`. -/
theorem witness_CompletesTally_3 : ∃ (s : State) (ring : Fin 4) (number : Nat), s.running ∧ s.has ring.val ∧ cellRing
  number = ring.val ∧ (s.cell number).ovDue :=
  ⟨ring3.cellUpd 1536 (fun c => { c with ovDue := true }), 3, 1536, by decide +kernel⟩

/-- A state and operands that meet the hypotheses of clause 4 of `Obligations.CompletesTally`. -/
theorem witness_CompletesTally_4 : ∃ (s : State) (ring : Fin 4) (number : Nat), s.running ∧ s.has ring.val ∧ cellRing
  number = ring.val ∧ (s.cell number).uvDue :=
  ⟨ring3.cellUpd 1536 (fun c => { c with uvDue := true }), 3, 1536, by decide +kernel⟩

/-- A state and operands that meet the hypotheses of clause 5 of `Obligations.CompletesTally`. -/
theorem witness_CompletesTally_5 : ∃ (s : State) (ring : Fin 4) (number : Nat), s.running ∧ s.has ring.val ∧ (number /
  256 = ring.val) ∧ (s.temp number).otDue :=
  ⟨ring3.tempUpd 768 (fun c => { c with otDue := true }), 3, 768, by decide +kernel⟩

/-- A state and operands that meet the hypotheses of clause 6 of `Obligations.CompletesTally`. -/
theorem witness_CompletesTally_6 : ∃ (s : State) (ring : Fin 4) (number : Nat), s.running ∧ s.has ring.val ∧ (number /
  256 = ring.val) ∧ (s.temp number).utDue :=
  ⟨ring3.tempUpd 768 (fun c => { c with utDue := true }), 3, 768, by decide +kernel⟩

/-- A state and operands that meet the hypotheses of clause 7 of `Obligations.CompletesTally`. -/
theorem witness_CompletesTally_7 : ∃ (s : State) (req : Req) (value : Nat), s.takesWrite req O.tallyPeriod 0 ∧
  s.allOpen ∧ s.flashOk ∧ s.periodOk value :=
  ⟨up, rq, 10000, by decide +kernel⟩

/-- A state and operands that meet the hypotheses of clause 8 of `Obligations.CompletesTally`. -/
theorem witness_CompletesTally_8 : ∃ (s : State) (v : Nat), s.running ∧ s.fw.newPeriod = some v ∧ (∀ r ∈ s.strings,
  s.gn O.chainRingState r ≠ 3 ∧ s.gn O.chainRingState r ≠ 4 ∨ ∀ p < s.nMon r, s.periodAcked r p = true) ∧ s.fw.ticking
  = false :=
  ⟨{ up with fw := { up.fw with newPeriod := some 9 } }, 9, by decide +kernel⟩

/-- A state and operands that meet the hypotheses of clause 9 of `Obligations.CompletesTally`. -/
theorem witness_CompletesTally_9 : ∃ (s : State) (v : Nat), s.running ∧ s.fw.newPeriod = some v ∧ (∀ r ∈ s.strings,
  s.gn O.chainRingState r ≠ 3 ∧ s.gn O.chainRingState r ≠ 4 ∨ ∀ p < s.nMon r, s.periodAcked r p = true) ∧ s.fw.ticking :=
  ⟨{ up with fw := { up.fw with newPeriod := some 9, ticking := true } }, 9, by decide +kernel⟩

/-- A state and operands that meet the hypotheses of clause 1 of `Obligations.CompletesAcquisition`. -/
theorem witness_CompletesAcquisition_1 : ∃ (s : State) (string : Fin 4) (dsiBits : BitVec 20) (isaCode : BitVec 16),
  s.pd ∧ s.has string.val :=
  ⟨up, 3, 0, 0, by decide +kernel⟩

/-- A state and operands that meet the hypotheses of clause 2 of `Obligations.CompletesAcquisition`. -/
theorem witness_CompletesAcquisition_2 : ∃ (s : State) (string : Fin 4) (since : Nat), s.pd ∧ s.has string.val ∧
  (s.chan (string.val * 2)).chargeSince = some since ∧ (s.chan (string.val * 2)).chargeRaised = false ∧ s.past since
  (s.gn O.fastPathDebounce 0) :=
  ⟨up.chanUpd 6 (fun c => { c with chargeSince := some 1 }), 3, 1, by decide +kernel⟩

/-- A state and operands that meet the hypotheses of clause 3 of `Obligations.CompletesAcquisition`. -/
theorem witness_CompletesAcquisition_3 : ∃ (s : State) (string : Fin 4) (ch : Fin 2) (v : Int), s.running ∧ s.pd ∧
  s.has string.val ∧ s.fw.ticking ∧ s.linkC.lost = false ∧ ((s.chan (string.val * 2 + ch.val)).valueAt
  ((s.fw.tallyTime : Int) * 1000 + s.lag (string.val * 2 + ch.val)) = some v) :=
  ⟨{ up.chanUpd 6 (fun c => { c with outs := [(1, 5, 0), (2, 5, 0)] }) with fw := { up.fw with ticking := true } }, 3,
    0, 5, by decide +kernel⟩

/-- A state and operands that meet the hypotheses of clause 4 of `Obligations.CompletesAcquisition`. -/
theorem witness_CompletesAcquisition_4 : ∃ (s : State) (string : Fin 4), s.pd ∧ s.has string.val ∧ s.chanOn
  (string.val * 2) ∧ ((s.chan (string.val * 2)).stuck ∨ (s.chan (string.val * 2)).run = 128) :=
  ⟨up.chanUpd 6 (fun c => { c with run := 128 }), 3, by decide +kernel⟩

/-- A state and operands that meet the hypotheses of clause 5 of `Obligations.CompletesAcquisition`. -/
theorem witness_CompletesAcquisition_5 : ∃ (s : State) (string : Fin 4), s.pd ∧ s.has string.val ∧ s.chanOn
  (string.val * 2 + 1) :=
  ⟨up.put O.currentChannelEnable 7 1, 3, by decide +kernel⟩

/-- A state and operands that meet the hypotheses of clause 6 of `Obligations.CompletesAcquisition`. -/
theorem witness_CompletesAcquisition_6 : ∃ (s : State) (string : Fin 4) (ch : Fin 2), s.pd ∧ (s.chan (string.val * 2 +
  ch.val)).fault ∧ s.past (s.chan (string.val * 2 + ch.val)).faultAt 100000 :=
  ⟨up.chanUpd 7 (fun c => { c with fault := true }), 3, 1, by decide +kernel⟩

/-- A state and operands that meet the hypotheses of clause 7 of `Obligations.CompletesAcquisition`. -/
theorem witness_CompletesAcquisition_7 : ∃ (s : State) (string : Fin 4), s.running ∧ s.has string.val ∧ mget 0
  s.fab.crossBad string.val = 100 ∧ (s.chan (string.val * 2)).disagree = false :=
  ⟨{ up with fab := { up.fab with crossBad := [(3, 100)] } }, 3, by decide +kernel⟩

/-- A state and operands that meet the hypotheses of clause 8 of `Obligations.CompletesAcquisition`. -/
theorem witness_CompletesAcquisition_8 : ∃ (s : State) (ring : Fin 4) (pos : Fin 32) (slot : Fin 10), s.running ∧
  s.has ring.val ∧ pos.val < s.nMon ring.val ∧ bit (s.slotMask ring.val pos.val) slot.val ∧ slot.val = 8 ∧ (s.mon
  (monKey ring.val pos.val)).dwellOver slot.val (s.slotDwell ring.val pos.val s.fw.period) ∧ ((mget (0, 0) (s.mon
  (monKey ring.val pos.val)).dwell slot.val).2 ≠ 0) :=
  ⟨ring3.monUpd (monKey 3 1) (fun m => { m with dwell := [(8, (500, 2))] }), 3, 1, 8, by decide +kernel⟩

/-- A state and operands that meet the hypotheses of clause 9 of `Obligations.CompletesAcquisition`. -/
theorem witness_CompletesAcquisition_9 : ∃ (s : State) (ring : Fin 4) (pos : Fin 32) (input : Fin 8), s.running ∧
  s.fw.ticking ∧ s.has ring.val ∧ pos.val < s.nMon ring.val ∧ input.val ∈ s.moduleInputs ring.val pos.val ∧ (s.temp
  (tempKey ring.val pos.val input.val)).plausibleAt = none :=
  ⟨{ inputs3 with fw := { inputs3.fw with ticking := true } }, 3, 1, 0, by decide +kernel⟩

/-- A state and operands that meet the hypotheses of clause 10 of `Obligations.CompletesAcquisition`. -/
theorem witness_CompletesAcquisition_10 : ∃ (s : State) (ring : Fin 4), s.running ∧ s.has ring.val ∧ (s.ring
  ring.val).sweeping ∧ s.fw.ticking ∧ s.sweepOver ring.val :=
  ⟨{ (ring3.ringUpd 3 (fun x => { x with sweeping := true, accounted := [0, 1], copies := [(0, []), (1, [])] })) with fw := { ring3.fw with ticking := true } },
    3, by decide +kernel⟩

/-- A state and operands that meet the hypotheses of clause 11 of `Obligations.CompletesAcquisition`. -/
theorem witness_CompletesAcquisition_11 : ∃ (s : State) (ring : Fin 4) (cell : Fin 512), s.running ∧ s.has ring.val ∧
  cell.val < s.gn O.manifestCellCount ring.val ∧ 4 ≤ bits (s.gn O.cellFlags (ring.val * 512 + cell.val)) 14 12 ∧
  (s.cell (ring.val * 512 + cell.val)).staleRaised = false :=
  ⟨ring3.put O.cellFlags 1536 0x4000, 3, 0, by decide +kernel⟩

/-- A state and operands that meet the hypotheses of clause 1 of `Obligations.CompletesDiagnosis`. -/
theorem witness_CompletesDiagnosis_1 : ∃ (s : State), s.running ∧ s.directs ∧ (s.fw.balanceAt = 0 ∨ s.past
  s.fw.balanceAt 1000000 = true) :=
  ⟨up, by decide +kernel⟩

/-- A state and operands that meet the hypotheses of clause 2 of `Obligations.CompletesDiagnosis`. -/
theorem witness_CompletesDiagnosis_2 : ∃ (s : State) (ring : Fin 4) (cell : Fin 512), s.running ∧ 3 ≤ (s.cell
  (ring.val * 512 + cell.val)).signature ∧ s.nodeBad (ring.val * 512 + cell.val) = false ∧ (s.nodeCells (ring.val *
  512 + cell.val)).length = 2 :=
  ⟨ring3.cellUpd 1536 (fun c => { c with signature := 3 }), 3, 0, by decide +kernel⟩

/-- A state and operands that meet the hypotheses of clause 3 of `Obligations.CompletesDiagnosis`. -/
theorem witness_CompletesDiagnosis_3 : ∃ (s : State) (ring : Fin 4) (pos : Fin 32) (channel : Fin 18), s.running ∧
  s.directs ∧ (s.gn O.chainRingState ring.val = 3 ∨ s.gn O.chainRingState ring.val = 4) ∧ (s.mon (monKey ring.val
  pos.val)).ow.active = false ∧ ((s.mon (monKey ring.val pos.val)).ow.todo.head? = some channel.val) ∧ pos.val <
  s.nMon ring.val ∧ (s.endOf ring.val pos.val).isSome :=
  ⟨ring3.monUpd (monKey 3 1) (fun m => { m with ow := { m.ow with todo := [1] } }), 3, 1, 1, by decide +kernel⟩

/-- A state and operands that meet the hypotheses of clause 4 of `Obligations.CompletesDiagnosis`. -/
theorem witness_CompletesDiagnosis_4 : ∃ (s : State) (ring : Fin 4) (pos : Fin 32) (v : Nat), s.running ∧ (s.mon
  (monKey ring.val pos.val)).ow.active ∧ (s.mon (monKey ring.val pos.val)).ow.sent ∧ (s.mon (monKey ring.val
  pos.val)).ow.result = some v ∧ v ≠ 0 :=
  ⟨ring3.monUpd (monKey 3 1) (fun m => { m with ow := { m.ow with active := true, sent := true, result := some 1 } }),
    3, 1, 1, by decide +kernel⟩

/-- A state and operands that meet the hypotheses of clause 5 of `Obligations.CompletesDiagnosis`. -/
theorem witness_CompletesDiagnosis_5 : ∃ (s : State) (ring : Fin 4) (pos : Fin 32), s.running ∧ (s.mon (monKey
  ring.val pos.val)).ow.active ∧ (s.mon (monKey ring.val pos.val)).ow.sent ∧ (s.mon (monKey ring.val
  pos.val)).ow.result = some 0 ∧ 3 + (s.mon (monKey ring.val pos.val)).ow.last ≤ tallyDiff (s.mon (monKey ring.val
  pos.val)).ow.tally (s.gn O.acqTallyIndex ring.val) ∧ (tallyDiff (s.mon (monKey ring.val pos.val)).ow.tally (s.gn
  O.acqTallyIndex ring.val) < 2 ^ 31) :=
  ⟨(ring3.put O.acqTallyIndex 3 9).monUpd (monKey 3 1) (fun m =>
    { m with ow := { m.ow with active := true, sent := true, result := some 0, tally := 5 } }), 3, 1,
    by decide +kernel⟩

/-- A state and operands that meet the hypotheses of clause 6 of `Obligations.CompletesDiagnosis`. -/
theorem witness_CompletesDiagnosis_6 : ∃ (s : State) (ring : Fin 4) (pos : Fin 32), s.running ∧ (s.mon (monKey
  ring.val pos.val)).ow.active ∧ (s.mon (monKey ring.val pos.val)).ow.sent ∧ (s.mon (monKey ring.val
  pos.val)).ow.result = some 0 ∧ 3 + (s.mon (monKey ring.val pos.val)).ow.last ≤ tallyDiff (s.mon (monKey ring.val
  pos.val)).ow.tally (s.gn O.acqTallyIndex ring.val) ∧ (tallyDiff (s.mon (monKey ring.val pos.val)).ow.tally (s.gn
  O.acqTallyIndex ring.val) < 2 ^ 31) ∧ (s.mon (monKey ring.val pos.val)).ow.purpose ≠ 1 ∧ s.owClassify ring.val
  pos.val = .above :=
  ⟨(ring3.put O.acqTallyIndex 3 9).monUpd (monKey 3 1) (fun m =>
    { m with ow := { m.ow with active := true, sent := true, result := some 0, tally := 5, base := [(0, 40000), (1, 20000)], word := [(0, 20000), (1, 40000)] } }),
    3, 1, by decide +kernel⟩

/-- A state and operands that meet the hypotheses of clause 7 of `Obligations.CompletesDiagnosis`. -/
theorem witness_CompletesDiagnosis_7 : ∃ (s : State) (ring : Fin 4) (pos : Fin 32), s.running ∧ (s.retestChannels
  ring.val pos.val ≠ []) ∧ (s.mon (monKey ring.val pos.val)).ow.active = false ∧ ((s.mon (monKey ring.val
  pos.val)).ow.todo = []) ∧ (s.mon (monKey ring.val pos.val)).owAt ≠ 0 ∧ s.past (s.mon (monKey ring.val pos.val)).owAt
  60000000 :=
  ⟨(ring3.cellUpd 1536 (fun c => { c with suspected := true })).monUpd 96 (fun m => { m with owAt := 5 }), 3, 0,
    by decide +kernel⟩

/-- A state and operands that meet the hypotheses of clause 8 of `Obligations.CompletesDiagnosis`. -/
theorem witness_CompletesDiagnosis_8 : ∃ (s : State) (ring : Fin 4) (pos : Fin 32) (channel : Fin 18) (t0 : Nat),
  s.ready ∧ pos.val < s.nMon ring.val ∧ channel.val ∈ s.channels ring.val pos.val ∧ (s.mon (monKey ring.val
  pos.val)).ow.active = false ∧ ((s.mon (monKey ring.val pos.val)).ow.todo = []) ∧ s.fw.readyAt = some t0 ∧ turnDue t0
  (s.gn O.openWirePeriod 0 * 1000000) (s.channelTurn ring.val pos.val channel.val).1 (s.channelTurn ring.val pos.val
  channel.val).2 (mget 0 (s.mon (monKey ring.val pos.val)).rotation channel.val) s.mono :=
  ⟨{ ring3 with fw := { ring3.fw with readyAt := some 0 } }, 3, 1, 1, 0, by decide +kernel⟩

/-- A state and operands that meet the hypotheses of clause 9 of `Obligations.CompletesDiagnosis`. -/
theorem witness_CompletesDiagnosis_9 : ∃ (s : State) (req : Req) (value : BitVec 32), s.takesWrite req
  O.openWireRequest 0 ∧ s.shotGate 0 value.toNat false = none ∧ (value.toNat / 65536 ≠ 0) ∧ (bits (value.toNat %
  65536) 15 7 = 0) ∧ (s.has (bits (value.toNat % 65536) 6 5)) ∧ (bits (value.toNat % 65536) 4 0 < s.nMon (bits
  (value.toNat % 65536) 6 5)) ∧ (s.gn O.chainRingState (bits (value.toNat % 65536) 6 5) ≠ 5) ∧ s.ready :=
  ⟨ring3, rq, 0x00010061, by decide +kernel⟩

/-- A state and operands that meet the hypotheses of clause 10 of `Obligations.CompletesDiagnosis`. -/
theorem witness_CompletesDiagnosis_10 : ∃ (s : State) (q t : Nat), s.running ∧ ((s.shot 0).pending = some (q, t)) ∧
  (s.mon (monKey (bits t 6 5) (bits t 4 0))).ow.purpose = 2 ∧ (s.mon (monKey (bits t 6 5) (bits t 4 0))).ow.active =
  false ∧ ((s.mon (monKey (bits t 6 5) (bits t 4 0))).ow.todo = []) ∧ (s.mon (monKey (bits t 6 5) (bits t 4
  0))).ow.nodes ≠ 0 :=
  ⟨(ring3.monUpd (monKey 3 1) (fun m => { m with ow := { m.ow with purpose := 2, nodes := 6 } })).shotUpd 0 (fun o =>
    { o with pending := some (4, 0x61) }), 4, 0x61, by decide +kernel⟩

/-- A state and operands that meet the hypotheses of clause 11 of `Obligations.CompletesDiagnosis`. -/
theorem witness_CompletesDiagnosis_11 : ∃ (s : State) (req : Req) (value : Nat), s.takesWrite req O.captureArm 0 ∧
  value = 1 :=
  ⟨up, rq, 1, by decide +kernel⟩

/-- A state and operands that meet the hypotheses of clause 12 of `Obligations.CompletesDiagnosis`. -/
theorem witness_CompletesDiagnosis_12 : ∃ (s : State) (req : Req) (value : Nat), s.takesWrite req O.captureTrigger 0 ∧
  value = 1 :=
  ⟨up, rq, 1, by decide +kernel⟩

/-- A state and operands that meet the hypotheses of clause 13 of `Obligations.CompletesDiagnosis`. -/
theorem witness_CompletesDiagnosis_13 : ∃ (s : State), s.running ∧ s.gn O.captureState 0 = 2 ∧ s.capture.left = 0 :=
  ⟨up.put O.captureState 0 2, by decide +kernel⟩

/-- A state and operands that meet the hypotheses of clause 1 of `Obligations.CompletesFabric`. -/
theorem witness_CompletesFabric_1 : ∃ (s : State) (eu : Fin 64) (i : Nat × Nat) (is : List (Nat × Nat)), s.cd ∧ (mget
  [] s.fab.queues (euCluster eu.val) = i :: is) ∧ (s.eu eu.val).retired = false ∧ (s.eu eu.val).item = none :=
  ⟨{ up with fab := { up.fab with queues := [(0, [(0, 5)])] } }, 0, (0, 5), [], by decide +kernel⟩

/-- A state and operands that meet the hypotheses of clause 2 of `Obligations.CompletesFabric`. -/
theorem witness_CompletesFabric_2 : ∃ (s : State) (eu : Fin 64) (residueOk : Bool) (n c : Nat), s.cd ∧ ((s.eu
  eu.val).item = some (n, c)) ∧ (s.eu eu.val).retired = false ∧ residueOk = false :=
  ⟨up.euUpd 5 (fun e => { e with item := some (0, 1) }), 5, false, 0, 1, by decide +kernel⟩

/-- A state and operands that meet the hypotheses of clause 3 of `Obligations.CompletesFabric`. -/
theorem witness_CompletesFabric_3 : ∃ (s : State) (eu : Fin 64) (residueOk : Bool) (n c : Nat), s.cd ∧ ((s.eu
  eu.val).item = some (n, c)) ∧ (s.eu eu.val).retired = false ∧ residueOk ∧ s.euRan eu.val n c :=
  ⟨((up.epochUpd 0 (fun e => { e with left := 2 })).regionUpd 0 fun x => { x with ran := 10000 }).euUpd 5 (fun e =>
    { e with item := some (0, 1) }), 5, true, 0, 1, by decide +kernel⟩

/-- A state and operands that meet the hypotheses of clause 4 of `Obligations.CompletesFabric`. -/
theorem witness_CompletesFabric_4 : ∃ (s : State) (eu : Fin 64), s.cd ∧ (s.eu eu.val).retired = false :=
  ⟨up, 63, by decide +kernel⟩

/-- A state and operands that meet the hypotheses of clause 5 of `Obligations.CompletesFabric`. -/
theorem witness_CompletesFabric_5 : ∃ (s : State) (string : Fin 4), s.running ∧ s.has string.val ∧ s.deadlinePassed
  string.val ∧ (s.epoch string.val).ending = .none :=
  ⟨up.epochUpd 3 (fun e => { e with inFlight := true, divider := 0 }), 3, by decide +kernel⟩

/-- A state and operands that meet the hypotheses of clause 6 of `Obligations.CompletesFabric`. -/
theorem witness_CompletesFabric_6 : ∃ (s : State) (string : Fin 4), s.running ∧ s.has string.val ∧ s.deadlinePassed
  string.val ∧ (s.epoch string.val).ending ≠ .none ∧ s.past (s.epoch string.val).endAt 20 :=
  ⟨up.epochUpd 3 (fun e => { e with inFlight := true, divider := 0, ending := .abandoned }), 3, by decide +kernel⟩

/-- A state and operands that meet the hypotheses of clause 7 of `Obligations.CompletesFabric`. -/
theorem witness_CompletesFabric_7 : ∃ (s : State) (string : Fin 4) (at' : Nat), s.running ∧ s.has string.val ∧ s.gn
  O.estimatorStringState string.val = 1 ∧ (s.epoch string.val).publishedAt = some at' ∧ at' + s.gn O.estimatorMaxAge
  string.val * 1000 < s.mono :=
  ⟨(up.put O.estimatorStringState 3 1).epochUpd 3 (fun e => { e with publishedAt := some 0 }), 3, 0,
    by decide +kernel⟩

/-- A state and operands that meet the hypotheses of clause 8 of `Obligations.CompletesFabric`. -/
theorem witness_CompletesFabric_8 : ∃ (s : State) (region : Fin 2), s.running ∧ (s.region region.val).load ≠ 0 ∧
  s.past (s.region region.val).okSince 10000000 ∧ s.thermalStep region.val < (s.region region.val).load ∧ s.gn
  O.estimatorRateLimit region.val < (s.region region.val).load :=
  ⟨up.regionUpd 1 (fun x => { x with load := 2 }), 1, by decide +kernel⟩

/-- A state and operands that meet the hypotheses of clause 9 of `Obligations.CompletesFabric`. -/
theorem witness_CompletesFabric_9 : ∃ (s : State) (eu : Fin 64) (pass : Bool), s.cd ∧ (s.eu eu.val).retired = false ∧
  (s.eu eu.val).item = none ∧ (mget [] s.fab.queues (euCluster eu.val) = []) ∧ ((s.eu eu.val).katAt = none ∨ s.past
  ((s.eu eu.val).katAt.getD 0) 1000000) :=
  ⟨up, 63, false, by decide +kernel⟩

/-- A state and operands that meet the hypotheses of clause 10 of `Obligations.CompletesFabric`. -/
theorem witness_CompletesFabric_10 : ∃ (s : State) (req : Req) (value : BitVec 32), s.takesWrite req
  O.fabricSelfTestRequest 0 ∧ s.shotGate 1 value.toNat false = none ∧ (value.toNat / 65536 ≠ 0) ∧ (value.toNat % 65536
  = 0) ∧ s.selfTestRuns :=
  ⟨ring3, rq, 0x10000, by decide +kernel⟩

/-- A state and operands that meet the hypotheses of clause 11 of `Obligations.CompletesFabric`. -/
theorem witness_CompletesFabric_11 : ∃ (s : State) (failed : BitVec 64) (q x : Nat), s.running ∧ ((s.shot 1).pending =
  some (q, x)) ∧ s.selfTestRuns ∧ (∀ e ∈ s.testedEus, failed.getLsbD e = false) :=
  ⟨ring3.shotUpd 1 (fun o => { o with pending := some (4, 0) }), 0, 4, 0, by decide +kernel⟩

/-- A state and operands that meet the hypotheses of clause 12 of `Obligations.CompletesFabric`. -/
theorem witness_CompletesFabric_12 : ∃ (s : State) (req : Req) (set : Fin 4) (file : List Byte), s.takesWrite req
  O.modelTableFile set.val ∧ s.allOpen ∧ s.flashOk ∧ tableCheck file = 0 :=
  ⟨up, rq, 3, tableFile, by decide +kernel, by decide +kernel, by decide +kernel, tableFile_check⟩

/-- A state and operands that meet the hypotheses of clause 1 of `Obligations.CompletesEstimation`. -/
theorem witness_CompletesEstimation_1 : ∃ (s : State) (string : Fin 4), s.running ∧ s.has string.val ∧ s.past (s.epoch
  string.val).windowAt 1000000 :=
  ⟨up, 3, by decide +kernel⟩

/-- A state and operands that meet the hypotheses of clause 2 of `Obligations.CompletesEstimation`. -/
theorem witness_CompletesEstimation_2 : ∃ (s : State) (string : Fin 4) (at' : Nat), s.running ∧ s.has string.val ∧
  (s.rest string.val).qualified = some at' ∧ (s.rest string.val).formed = false ∧ ((s.rest string.val).since = none ∨
  s.past at' 14400000000 = true) :=
  ⟨up.restUpd 3 (fun r => { r with qualified := some 1 }), 3, 1, by decide +kernel⟩

/-- A state and operands that meet the hypotheses of clause 3 of `Obligations.CompletesEstimation`. -/
theorem witness_CompletesEstimation_3 : ∃ (s : State) (string : Fin 4) (us : Nat), s.running ∧ s.has string.val ∧
  (s.epoch string.val).medianUs = some us ∧ 60000000 ≤ us ∧ (s.epoch string.val).disagreement = false :=
  ⟨up.epochUpd 3 (fun e => { e with medianUs := some 60000000 }), 3, 60000000, by decide +kernel⟩

/-- A state and operands that meet the hypotheses of clause 4 of `Obligations.CompletesEstimation`. -/
theorem witness_CompletesEstimation_4 : ∃ (s : State) (string : Fin 4), s.running ∧ s.has string.val ∧ (s.epoch
  string.val).disagreement ∧ (s.epoch string.val).auditAgain ∧ s.past (s.epoch string.val).auditAt 60000000 :=
  ⟨up.epochUpd 3 (fun e => { e with disagreement := true, auditAgain := true }), 3, by decide +kernel⟩

/-- A state and operands that meet the hypotheses of clause 5 of `Obligations.CompletesEstimation`. -/
theorem witness_CompletesEstimation_5 : ∃ (s : State) (req : Req) (value : BitVec 32), s.takesWrite req
  O.capLearnReportRequest 0 ∧ s.shotGate 2 value.toNat false = none ∧ (value.toNat / 65536 ≠ 0) ∧ (bits (value.toNat %
  65536) 15 2 = 0) ∧ (s.has (value.toNat % 65536 % 4)) ∧ s.ready ∧ (s.gn O.chainRingState (value.toNat % 65536 % 4) ≠
  5) :=
  ⟨ring3, rq, 0x10003, by decide +kernel⟩

/-- A state and operands that meet the hypotheses of clause 6 of `Obligations.CompletesEstimation`. -/
theorem witness_CompletesEstimation_6 : ∃ (s : State) (q t : Nat), s.running ∧ ((s.shot 2).pending = some (q, t)) ∧
  s.shotRuns t :=
  ⟨ring3.shotUpd 2 (fun o => { o with pending := some (4, 3) }), 4, 3, by decide +kernel⟩

/-- A state and operands that meet the hypotheses of clause 7 of `Obligations.CompletesEstimation`. -/
theorem witness_CompletesEstimation_7 : ∃ (s : State) (req : Req) (value : BitVec 32), s.takesWrite req
  O.impedanceSnapshotRequest 0 ∧ s.shotGate 3 value.toNat false = none ∧ (value.toNat / 65536 ≠ 0) ∧ (bits
  (value.toNat % 65536) 15 2 = 0) ∧ (s.has (value.toNat % 65536 % 4)) ∧ s.ready ∧ (s.gn O.chainRingState (value.toNat
  % 65536 % 4) ≠ 5) :=
  ⟨ring3, rq, 0x10003, by decide +kernel⟩

/-- A state and operands that meet the hypotheses of clause 8 of `Obligations.CompletesEstimation`. -/
theorem witness_CompletesEstimation_8 : ∃ (s : State) (q t : Nat), s.running ∧ ((s.shot 3).pending = some (q, t)) ∧
  s.past (s.shot 3).acceptedAt 600000000 ∧ s.shotRuns t :=
  ⟨ring3.shotUpd 3 (fun o => { o with pending := some (4, 3) }), 4, 3, by decide +kernel⟩

/-- A state and operands that meet the hypotheses of clause 1 of `Obligations.CompletesContactors`. -/
theorem witness_CompletesContactors_1 : ∃ (s : State) (req : Req) (string : Fin 4), s.takesWrite req O.stringCommand
  string.val ∧ s.seqState string.val = 0 ∧ s.closeBlock string.val = 0 :=
  ⟨closing, rq, 3, by decide +kernel⟩

/-- A state and operands that meet the hypotheses of clause 2 of `Obligations.CompletesContactors`. -/
theorem witness_CompletesContactors_2 : ∃ (s : State) (req : Req) (string : Fin 4), s.takesWrite req O.stringCommand
  string.val ∧ 1 ≤ s.seqState string.val ∧ s.seqState string.val ≤ 6 :=
  ⟨up.put O.stringContactorState 3 6, rq, 3, by decide +kernel⟩

/-- A state and operands that meet the hypotheses of clause 3 of `Obligations.CompletesContactors`. -/
theorem witness_CompletesContactors_3 : ∃ (s : State) (req : Req) (string : Fin 4), s.takesWrite req O.stringCommand
  string.val ∧ s.seqState string.val = 6 :=
  ⟨up.put O.stringContactorState 3 6, rq, 3, by decide +kernel⟩

/-- A state and operands that meet the hypotheses of clause 4 of `Obligations.CompletesContactors`. -/
theorem witness_CompletesContactors_4 : ∃ (s : State) (req : Req) (string : Fin 4), s.takesWrite req O.stringCommand
  string.val ∧ 1 ≤ s.seqState string.val ∧ s.seqState string.val ≤ 5 :=
  ⟨up.put O.stringContactorState 3 5, rq, 3, by decide +kernel⟩

/-- A state and operands that meet the hypotheses of clause 5 of `Obligations.CompletesContactors`. -/
theorem witness_CompletesContactors_5 : ∃ (s : State), s.running ∧ s.stepDue :=
  ⟨{ up with fw := { up.fw with ticking := true } }, by decide +kernel⟩

/-- A state and operands that meet the hypotheses of clause 6 of `Obligations.CompletesContactors`. -/
theorem witness_CompletesContactors_6 : ∃ (s : State) (string : Fin 4), s.sequences ∧ s.turnFree ∧ ((s.strings.find?
  fun k => s.waitsTurn k) = some string.val) :=
  ⟨up.put O.stringContactorState 2 1, 2, by decide +kernel⟩

/-- A state and operands that meet the hypotheses of clause 7 of `Obligations.CompletesContactors`. -/
theorem witness_CompletesContactors_7 : ∃ (s : State) (string : Fin 4), s.sequences ∧ s.seqState string.val = 2 ∧
  s.past (s.str string.val).since (s.tallies (s.gn O.contactorCloseTime (s.roleDriver string.val 2) + s.gn
  O.weldCheckTime 0)) :=
  ⟨up.put O.stringContactorState 2 2, 2, by decide +kernel⟩

/-- A state and operands that meet the hypotheses of clause 8 of `Obligations.CompletesContactors`. -/
theorem witness_CompletesContactors_8 : ∃ (s : State) (string : Fin 4), s.sequences ∧ s.seqState string.val = 3 :=
  ⟨up.put O.stringContactorState 2 3, 2, by decide +kernel⟩

/-- A state and operands that meet the hypotheses of clause 9 of `Obligations.CompletesContactors`. -/
theorem witness_CompletesContactors_9 : ∃ (s : State) (string : Fin 4) (e : Nat), s.running ∧ (s.str
  string.val).cooldownEnd = some e ∧ s.reached e :=
  ⟨up.strUpd 2 (fun x => { x with cooldownEnd := some 5 }), 2, 5, by decide +kernel⟩

/-- A state and operands that meet the hypotheses of clause 10 of `Obligations.CompletesContactors`. -/
theorem witness_CompletesContactors_10 : ∃ (s : State) (string : Fin 4), s.sequences ∧ s.seqState string.val = 4 ∧
  (s.str string.val).phase = 0 ∧ s.past (s.str string.val).since (s.tallies (s.gn O.contactorCloseTime (s.roleDriver
  string.val 0))) :=
  ⟨up.put O.stringContactorState 2 4, 2, by decide +kernel⟩

/-- A state and operands that meet the hypotheses of clause 11 of `Obligations.CompletesContactors`. -/
theorem witness_CompletesContactors_11 : ∃ (s : State) (string : Fin 4), s.sequences ∧ s.seqState string.val = 4 ∧
  (s.str string.val).phase = 1 ∧ s.past (s.str string.val).actAt (s.tallies (s.gn O.contactorDropTime (s.roleDriver
  string.val 2))) :=
  ⟨(up.put O.stringContactorState 2 4).strUpd 2 (fun x => { x with phase := 1 }), 2, by decide +kernel⟩

/-- A state and operands that meet the hypotheses of clause 12 of `Obligations.CompletesContactors`. -/
theorem witness_CompletesContactors_12 : ∃ (s : State) (string : Fin 4), s.sequences ∧ s.seqState string.val = 5 ∧
  s.past (s.str string.val).since (s.gn O.joinWaitTimeout 0 * 1000000) :=
  ⟨up.put O.stringContactorState 2 5, 2, by decide +kernel⟩

/-- A state and operands that meet the hypotheses of clause 1 of `Obligations.CompletesContactorOpening`. -/
theorem witness_CompletesContactorOpening_1 : ∃ (s : State) (string : Fin 4), s.sequences ∧ s.seqState string.val = 7
  ∧ s.reached (s.str string.val).rampEnd ∧ s.releaseOk string.val :=
  ⟨up.put O.stringContactorState 2 7, 2, by decide +kernel⟩

/-- A state and operands that meet the hypotheses of clause 2 of `Obligations.CompletesContactorOpening`. -/
theorem witness_CompletesContactorOpening_2 : ∃ (s : State) (string : Fin 4), s.sequences ∧ s.seqState string.val = 7
  ∧ s.reached (s.str string.val).rampEnd ∧ s.releaseOk string.val = false ∧ (s.str string.val).breakAt = none :=
  ⟨hot.put O.stringContactorState 2 7, 2, by decide +kernel⟩

/-- A state and operands that meet the hypotheses of clause 3 of `Obligations.CompletesContactorOpening`. -/
theorem witness_CompletesContactorOpening_3 : ∃ (s : State) (string : Fin 4) (at' : Nat), s.sequences ∧ s.seqState
  string.val = 7 ∧ s.breakMax string.val < s.amps string.val ∧ (s.str string.val).breakAt = some at' ∧ s.past at'
  1000000 :=
  ⟨(hot.put O.stringContactorState 2 7).strUpd 2 (fun x => { x with breakAt := some 5 }), 2, 5, by decide +kernel⟩

/-- A state and operands that meet the hypotheses of clause 4 of `Obligations.CompletesContactorOpening`. -/
theorem witness_CompletesContactorOpening_4 : ∃ (s : State) (string : Fin 4), s.sequences ∧ s.seqState string.val = 8
  ∧ (s.str string.val).phase = 0 ∧ (s.str string.val).openAt = none ∧ s.past (s.str string.val).actAt (s.tallies (s.gn
  O.contactorDropTime (s.roleDriver string.val 0))) ∧ (s.str string.val).openMa < 2 * s.gn O.weldCurrentLimit 0 :=
  ⟨(up.put O.stringContactorState 2 8).put O.weldCurrentLimit 0 1, 2, by decide +kernel⟩

/-- A state and operands that meet the hypotheses of clause 5 of `Obligations.CompletesContactorOpening`. -/
theorem witness_CompletesContactorOpening_5 : ∃ (s : State) (string : Fin 4), s.sequences ∧ s.seqState string.val = 8
  ∧ (s.str string.val).openAt = none ∧ (s.str string.val).phase = 1 ∧ s.past (s.str string.val).actAt (s.tallies (s.gn
  O.contactorDropTime (s.roleDriver string.val 1))) :=
  ⟨(up.put O.stringContactorState 2 8).strUpd 2 (fun x => { x with phase := 1 }), 2, by decide +kernel⟩

/-- A state and operands that meet the hypotheses of clause 6 of `Obligations.CompletesContactorOpening`. -/
theorem witness_CompletesContactorOpening_6 : ∃ (s : State) (string : Fin 4) (i at' : Nat), s.running ∧ ((s.str
  string.val).trip = some (i, at')) ∧ s.past at' (s.tallies (max (s.gn O.contactorDropTime (s.roleDriver string.val
  0)) (s.gn O.contactorDropTime (s.roleDriver string.val 1)))) ∧ s.weldCurrent string.val = false :=
  ⟨(up.put O.weldCurrentLimit 0 5).strUpd 2 (fun x => { x with trip := some (7, 7) }), 2, 7, 7, by decide +kernel⟩

/-- A state and operands that meet the hypotheses of clause 7 of `Obligations.CompletesContactorOpening`. -/
theorem witness_CompletesContactorOpening_7 : ∃ (s : State) (req : Req) (mask : Byte), s.takesWrite req O.tripReset 0
  ∧ mask.toNat < 16 ∧ (∀ n < 4, bit mask.toNat n = true → s.has n = true ∧ s.tripCausePresent n = false) :=
  ⟨up, rq, 0x04, by decide +kernel⟩

/-- A state and operands that meet the hypotheses of clause 8 of `Obligations.CompletesContactorOpening`. -/
theorem witness_CompletesContactorOpening_8 : ∃ (s : State) (req : Req) (mask : BitVec 16), s.takesWrite req
  O.weldClear 0 ∧ mask.toNat < 4096 :=
  ⟨up, rq, 0xFFF, by decide +kernel⟩

/-- A state and operands that meet the hypotheses of clause 9 of `Obligations.CompletesContactorOpening`. -/
theorem witness_CompletesContactorOpening_9 : ∃ (s : State) (string : Fin 4) (at' : Nat), s.running ∧ s.has string.val
  ∧ (s.str string.val).noneSince = some at' ∧ s.past at' 10000000 :=
  ⟨up.strUpd 2 (fun x => { x with noneSince := some 7 }), 2, 7, by decide +kernel⟩

/-- A state and operands that meet the hypotheses of clause 10 of `Obligations.CompletesContactorOpening`. -/
theorem witness_CompletesContactorOpening_10 : ∃ (s : State) (ring : Fin 4) (pos : Fin 32) (t0 : Nat), s.running ∧
  pos.val < s.gn O.manifestModuleCount ring.val ∧ s.moduleLost ring.val pos.val = some t0 ∧ s.past t0 10000000 ∧
  s.past t0 300000000 = false :=
  ⟨(inputs3.tempUpd (tempKey 3 1 0) (fun x => { x with lostSince := some 999990000000 })), 3, 1, 999990000000,
    by decide +kernel⟩

/-- A state and operands that meet the hypotheses of clause 11 of `Obligations.CompletesContactorOpening`. -/
theorem witness_CompletesContactorOpening_11 : ∃ (s : State) (ring : Fin 4) (pos : Fin 32) (t0 : Nat), s.running ∧
  pos.val < s.gn O.manifestModuleCount ring.val ∧ s.moduleLost ring.val pos.val = some t0 ∧ s.past t0 300000000 :=
  ⟨(inputs3.tempUpd (tempKey 3 1 0) (fun x => { x with lostSince := some 999700000000 })), 3, 1, 999700000000,
    by decide +kernel⟩

/-- A state and operands that meet the hypotheses of clause 12 of `Obligations.CompletesContactorOpening`. -/
theorem witness_CompletesContactorOpening_12 : ∃ (s : State) (string : Fin 4) (at' : Nat), s.running ∧ s.has
  string.val ∧ ((s.str string.val).overCharge = some at' ∨ (s.str string.val).overDischarge = some at') ∧ s.past at'
  (s.gn O.overLimitTime string.val * 1000000) :=
  ⟨up.strUpd 3 (fun x => { x with overCharge := some 1 }), 3, 1, by decide +kernel⟩

/-- A state and operands that meet the hypotheses of clause 13 of `Obligations.CompletesContactorOpening`. -/
theorem witness_CompletesContactorOpening_13 : ∃ (s : State) (string : Fin 4) (code : Fin 9), s.running ∧ s.stepDue =
  false ∧ ((s.derateOver string.val).head? = some code.val) :=
  ⟨up.strUpd 2 (fun x => { x with derateOk := [(4, 9)] }), 2, 4, by decide +kernel⟩

/-- A state and operands that meet the hypotheses of clause 1 of `Obligations.CompletesDrivers`. -/
theorem witness_CompletesDrivers_1 : ∃ (s : State) (driver : Fin 12), s.pd ∧ (s.drv driver.val).energised ∧ (s.drv
  driver.val).hold = false ∧ s.past (s.drv driver.val).energisedAt (s.gn O.coilPullInTime driver.val * 1000) :=
  ⟨up.drvUpd 11 (fun v => { v with energised := true }), 11, by decide +kernel⟩

/-- A state and operands that meet the hypotheses of clause 2 of `Obligations.CompletesDrivers`. -/
theorem witness_CompletesDrivers_2 : ∃ (s : State) (driver : Fin 12) (c : CoilEvent), s.pd ∧ c.present ∧ s.coilJudged
  driver.val c.cond ∧ c.cond ≠ .shortHs ∧ c.cond ≠ .overtemp :=
  ⟨up, 11, ⟨.shortLs, true⟩, by decide +kernel⟩

/-- A state and operands that meet the hypotheses of clause 3 of `Obligations.CompletesDrivers`. -/
theorem witness_CompletesDrivers_3 : ∃ (s : State) (driver : Fin 12) (c : CoilEvent), s.pd ∧ c.present ∧ s.coilJudged
  driver.val c.cond :=
  ⟨up, 11, ⟨.overtemp, true⟩, by decide +kernel⟩

/-- A state and operands that meet the hypotheses of clause 4 of `Obligations.CompletesDrivers`. -/
theorem witness_CompletesDrivers_4 : ∃ (s : State) (driver : Fin 12) (c : CoilEvent), s.pd ∧ c.present = false :=
  ⟨up, 11, ⟨.overtemp, false⟩, by decide +kernel⟩

/-- A state and operands that meet the hypotheses of clause 5 of `Obligations.CompletesDrivers`. -/
theorem witness_CompletesDrivers_5 : ∃ (s : State) (driver : Fin 12) (highSide : Bool), s.pd ∧ s.pulsesOk ∧ (s.drv
  driver.val).energised ∧ (s.drv driver.val).hold ∧ (s.drv driver.val).holdAt + 10000 ≤ s.slotAt (pulseSlot driver.val
  false) ∧ (∀ k < 12, (s.drv k).pulse = 0) ∧ s.slotDue driver.val highSide :=
  ⟨pulsing.drvUpd 0 (fun v => { v with energised := true, hold := true }), 0, false, by decide +kernel⟩

/-- A state and operands that meet the hypotheses of clause 6 of `Obligations.CompletesDrivers`. -/
theorem witness_CompletesDrivers_6 : ∃ (s : State) (driver : Fin 12) (mA : Nat), s.pd ∧ (s.drv driver.val).pulse = 1 ∧
  (s.drv driver.val).pulseJudged = false ∧ s.past (s.drv driver.val).pulseAt 50 ∧ mA < 20 :=
  ⟨up.drvUpd 11 (fun v => { v with pulse := 1 }), 11, 19, by decide +kernel⟩

/-- A state and operands that meet the hypotheses of clause 7 of `Obligations.CompletesDrivers`. -/
theorem witness_CompletesDrivers_7 : ∃ (s : State) (driver : Fin 12) (mA : Nat), s.pd ∧ (s.drv driver.val).pulse = 1 ∧
  (s.drv driver.val).pulseJudged = false ∧ s.past (s.drv driver.val).pulseAt 50 ∧ 20 ≤ mA :=
  ⟨up.drvUpd 11 (fun v => { v with pulse := 1 }), 11, 20, by decide +kernel⟩

/-- A state and operands that meet the hypotheses of clause 8 of `Obligations.CompletesDrivers`. -/
theorem witness_CompletesDrivers_8 : ∃ (s : State) (driver : Fin 12), s.pd ∧ (s.drv driver.val).pulse ≠ 0 ∧ s.past
  (s.drv driver.val).pulseAt (s.pn O.offPulseWidth 0) :=
  ⟨up.drvUpd 11 (fun v => { v with pulse := 1 }), 11, by decide +kernel⟩

/-- A state and operands that meet the hypotheses of clause 9 of `Obligations.CompletesDrivers`. -/
theorem witness_CompletesDrivers_9 : ∃ (s : State) (driver : Fin 12) (hsMa lsMa coilMa : Nat), s.pd ∧ s.pulsesOk ∧
  (s.drv driver.val).energised = false ∧ (s.slotDue driver.val true ∨ s.slotDue driver.val false) ∧ hsMa < 20 ∧ lsMa <
  20 ∧ coilMa < 50 :=
  ⟨pulsing, 0, 19, 19, 49, by decide +kernel⟩

/-- A state and operands that meet the hypotheses of clause 10 of `Obligations.CompletesDrivers`. -/
theorem witness_CompletesDrivers_10 : ∃ (s : State) (driver : Fin 12) (hsMa lsMa coilMa : Nat), s.pd ∧ s.pulsesOk ∧
  (s.drv driver.val).energised = false ∧ (s.slotDue driver.val true ∨ s.slotDue driver.val false) ∧ 20 ≤ hsMa :=
  ⟨pulsing, 0, 20, 19, 49, by decide +kernel⟩

/-- A state and operands that meet the hypotheses of clause 11 of `Obligations.CompletesDrivers`. -/
theorem witness_CompletesDrivers_11 : ∃ (s : State) (driver : Fin 12), s.running ∧ s.driverRole driver.val ≠ 3 ∧
  (s.drv driver.val).due = false ∧ s.gn O.openingProofTime driver.val + s.gn O.openingProofInterval 0 * hourUs ≤
  s.elapsed :=
  ⟨{ up with drivers := [], clk := { up.clk with now := 1000000000000000 } }, 11, by decide +kernel⟩

/-- A state and operands that meet the hypotheses of clause 12 of `Obligations.CompletesDrivers`. -/
theorem witness_CompletesDrivers_12 : ∃ (s : State) (driver : Fin 12), s.running ∧ s.driverRole driver.val ≠ 3 ∧
  (s.drv driver.val).due ∧ (s.drv driver.val).overdue = false ∧ (s.drv driver.val).dueAt + s.gn O.openingProofGrace 0
  * hourUs ≤ s.elapsed :=
  ⟨{ up.drvUpd 11 (fun v => { v with due := true }) with clk := { up.clk with now := 1000000000000000 } }, 11,
    by decide +kernel⟩

/-- A state and operands that meet the hypotheses of clause 1 of `Obligations.CompletesSafety`. -/
theorem witness_CompletesSafety_1 : ∃ (s : State) (pair : Fin 4) (chB level : Bool), s.pwr.pdUp ∧ (s.pair
  pair.val).atBall chB level = false :=
  ⟨up, 3, true, true, by decide +kernel⟩

/-- A state and operands that meet the hypotheses of clause 2 of `Obligations.CompletesSafety`. -/
theorem witness_CompletesSafety_2 : ∃ (s : State) (pair : Fin 4) (chB level : Bool), s.pwr.pdUp ∧ (s.pair
  pair.val).atBall chB level ∧ s.moored = false ∧ s.levelCounts pair.val chB level :=
  ⟨up.pairUpd 3 (fun q => { q with ballB := some true, heldB := 5 }), 3, true, true, by decide +kernel⟩

/-- A state and operands that meet the hypotheses of clause 3 of `Obligations.CompletesSafety`. -/
theorem witness_CompletesSafety_3 : ∃ (s : State) (pair : Fin 4), s.pd ∧ s.pairUsed pair.val ∧ (s.pair pair.val).waits
  ∧ s.pairLate pair.val :=
  ⟨up.pairUpd 3 (fun q => { q with st := 2 }), 3, by decide +kernel⟩

/-- A state and operands that meet the hypotheses of clause 4 of `Obligations.CompletesSafety`. -/
theorem witness_CompletesSafety_4 : ∃ (s : State) (pair : Fin 4) (asserted : Bool) (inst : Nat), s.pd ∧ s.cd ∧
  asserted ∧ (s.pair pair.val).report = some inst :=
  ⟨up.pairUpd 3 (fun q => { q with report := some 1 }), 3, true, 1, by decide +kernel⟩

/-- A state and operands that meet the hypotheses of clause 5 of `Obligations.CompletesSafety`. -/
theorem witness_CompletesSafety_5 : ∃ (s : State) (follows : BitVec 8), s.pd :=
  ⟨up, 0, by decide +kernel⟩

/-- A state and operands that meet the hypotheses of clause 6 of `Obligations.CompletesSafety`. -/
theorem witness_CompletesSafety_6 : ∃ (s : State) (count7 count9 : Nat), s.pd ∧ s.ev.oscBad = false ∧ countWithin
  count7 32000 10 ∧ countWithin count9 1000 10 :=
  ⟨up, 32000, 1000, by decide +kernel⟩

/-- A state and operands that meet the hypotheses of clause 7 of `Obligations.CompletesSafety`. -/
theorem witness_CompletesSafety_7 : ∃ (s : State) (count7 count9 : Nat), s.pd ∧ s.ev.oscBad = false ∧ (countWithin
  count7 32000 10 = false ∨ countWithin count9 1000 10 = false) :=
  ⟨up, 0, 1000, by decide +kernel⟩

/-- A state and operands that meet the hypotheses of clause 8 of `Obligations.CompletesSafety`. -/
theorem witness_CompletesSafety_8 : ∃ (s : State), s.running ∧ (s.fw.readbackDue ∨ s.past s.fw.readbackAt 1000000) :=
  ⟨up, by decide +kernel⟩

/-- A state and operands that meet the hypotheses of clause 9 of `Obligations.CompletesSafety`. -/
theorem witness_CompletesSafety_9 : ∃ (s : State) (u : CopyUpset), s.running ∧ (s.fw.readbackDue ∨ s.past
  s.fw.readbackAt 1000000) :=
  ⟨up, { key := O.offPulseWidth * 65536, value := 7 }, by decide +kernel⟩

/-- A state and operands that meet the hypotheses of clause 10 of `Obligations.CompletesSafety`. -/
theorem witness_CompletesSafety_10 : ∃ (s : State) (req : Req) (value : BitVec 32), s.takesWrite req
  O.contactorOpenTestRequest 0 ∧ s.shotGate 4 value.toNat false = none ∧ (value.toNat / 65536 ≠ 0) ∧ bits value.toNat
  15 2 = 0 ∧ (s.has (value.toNat % 4)) ∧ (s.inManifest (value.toNat % 4)) ∧ (s.seqState (value.toNat % 4) = 0) ∧
  (s.safeOff (value.toNat % 4) = false) ∧ s.ready ∧ s.dup.mode = 0 ∧ (s.conclusive (value.toNat % 4)) ∧ (s.gn
  O.chainRingState (value.toNat % 4) ≠ 5) :=
  ⟨testable, rq, 0x10003, by decide +kernel⟩

/-- A state and operands that meet the hypotheses of clause 11 of `Obligations.CompletesSafety`. -/
theorem witness_CompletesSafety_11 : ∃ (s : State) (n : Nat), s.running ∧ s.otest.string = some n ∧ s.otest.dropping =
  false ∧ s.past s.otest.at' (s.testTime n) :=
  ⟨{ up with otest := { string := some 3, step := 1 } }, 3, by decide +kernel⟩

/-- A state and operands that meet the hypotheses of clause 12 of `Obligations.CompletesSafety`. -/
theorem witness_CompletesSafety_12 : ∃ (s : State) (n : Nat), s.running ∧ s.otest.string = some n ∧ s.otest.dropping ∧
  s.past s.otest.at' (s.tallies (s.gn O.contactorDropTime (s.roleDriver n (testRole s.otest.step)))) :=
  ⟨{ up with otest := { string := some 3, step := 4, dropping := true } }, 3, by decide +kernel⟩

/-- A state and operands that meet the hypotheses of clause 1 of `Obligations.CompletesLoadSwitches`. -/
theorem witness_CompletesLoadSwitches_1 : ∃ (s : State) (req : Req) (ls : Fin 16), s.takesWrite req
  O.loadSwitchCommand ls.val :=
  ⟨up, rq, 15, by decide +kernel⟩

/-- A state and operands that meet the hypotheses of clause 2 of `Obligations.CompletesLoadSwitches`. -/
theorem witness_CompletesLoadSwitches_2 : ∃ (s : State) (req : Req) (ls : Fin 16), s.takesWrite req
  O.loadSwitchCommand ls.val :=
  ⟨up, rq, 15, by decide +kernel⟩

/-- A state and operands that meet the hypotheses of clause 3 of `Obligations.CompletesLoadSwitches`. -/
theorem witness_CompletesLoadSwitches_3 : ∃ (s : State) (req : Req) (ls : Fin 16), s.takesWrite req
  O.loadSwitchCommand ls.val :=
  ⟨up, rq, 15, by decide +kernel⟩

/-- A state and operands that meet the hypotheses of clause 4 of `Obligations.CompletesLoadSwitches`. -/
theorem witness_CompletesLoadSwitches_4 : ∃ (s : State) (ls : Fin 16), s.pd ∧ (s.lsw ls.val).on ∧ (s.lsw
  ls.val).limiting ∧ s.past (s.lsw ls.val).limitSince (s.gn O.lsLimitTime ls.val) :=
  ⟨up.lswUpd 15 (fun l => { l with on := true, limiting := true }), 15, by decide +kernel⟩

/-- A state and operands that meet the hypotheses of clause 5 of `Obligations.CompletesLoadSwitches`. -/
theorem witness_CompletesLoadSwitches_5 : ∃ (s : State) (ls : Fin 16), s.pd ∧ (s.lsw ls.val).latch = false ∧ (s.lsw
  ls.val).on :=
  ⟨up.lswUpd 15 (fun l => { l with on := true }), 15, by decide +kernel⟩

/-- A state and operands that meet the hypotheses of clause 6 of `Obligations.CompletesLoadSwitches`. -/
theorem witness_CompletesLoadSwitches_6 : ∃ (s : State) (ls : Fin 16), s.pd ∧ (s.lsw ls.val).latch = false ∧ (s.lsw
  ls.val).on = false :=
  ⟨up, 15, by decide +kernel⟩

/-- A state and operands that meet the hypotheses of clause 7 of `Obligations.CompletesLoadSwitches`. -/
theorem witness_CompletesLoadSwitches_7 : ∃ (s : State) (ls : Fin 16), s.pd ∧ (s.lsw ls.val).latch :=
  ⟨up.lswUpd 15 (fun l => { l with latch := true }), 15, by decide +kernel⟩

/-- A state and operands that meet the hypotheses of clause 8 of `Obligations.CompletesLoadSwitches`. -/
theorem witness_CompletesLoadSwitches_8 : ∃ (s : State) (ls : Fin 16), s.pd :=
  ⟨up, 15, by decide +kernel⟩

/-- A state and operands that meet the hypotheses of clause 9 of `Obligations.CompletesLoadSwitches`. -/
theorem witness_CompletesLoadSwitches_9 : ∃ (s : State) (ls : Fin 16), s.pd ∧ 60000000000 ≤ (s.lsw ls.val).onTime +
  (s.lsw ls.val).segment s.mono :=
  ⟨up.lswUpd 15 (fun l => { l with onTime := 60000000000 }), 15, by decide +kernel⟩

/-- A state and operands that meet the hypotheses of clause 10 of `Obligations.CompletesLoadSwitches`. -/
theorem witness_CompletesLoadSwitches_10 : ∃ (s : State) (req : Req) (mask : BitVec 16), s.takesWrite req
  O.lsFaultClear 0 :=
  ⟨up, rq, 0x8001, by decide +kernel⟩

/-- A state and operands that meet the hypotheses of clause 11 of `Obligations.CompletesLoadSwitches`. -/
theorem witness_CompletesLoadSwitches_11 : ∃ (s : State) (ls : Fin 16) (low : Bool), s.pd ∧ (s.lsw ls.val).on ∧
  100000000 ≤ (s.lsw ls.val).spell + (s.lsw ls.val).segment s.mono ∧ low ∧ (s.lsw ls.val).onOpen = false :=
  ⟨up.lswUpd 15 (fun l => { l with on := true, spell := 100000000 }), 15, true, by decide +kernel⟩

/-- A state and operands that meet the hypotheses of clause 12 of `Obligations.CompletesLoadSwitches`. -/
theorem witness_CompletesLoadSwitches_12 : ∃ (s : State) (ls : Fin 16) (low : Bool), s.pd ∧ (s.lsw ls.val).on ∧
  100000000 ≤ (s.lsw ls.val).spell + (s.lsw ls.val).segment s.mono ∧ low = false ∧ (s.lsw ls.val).onOpen :=
  ⟨up.lswUpd 15 (fun l => { l with on := true, spell := 100000000, onOpen := true }), 15, false, by decide +kernel⟩

/-- A state and operands that meet the hypotheses of clause 13 of `Obligations.CompletesLoadSwitches`. -/
theorem witness_CompletesLoadSwitches_13 : ∃ (s : State) (ls : Fin 16) (c : OffStateLevel), s.pd ∧ s.gb O.lsOffDiag
  ls.val ∧ (s.lsw ls.val).on = false ∧ s.past (s.lsw ls.val).offSince 20000 ∧ s.dup.mode = 0 ∧ c = .low :=
  ⟨up.put O.lsOffDiag 15 1, 15, .low, by decide +kernel⟩

/-- A state and operands that meet the hypotheses of clause 14 of `Obligations.CompletesLoadSwitches`. -/
theorem witness_CompletesLoadSwitches_14 : ∃ (s : State) (ls : Fin 16) (c : OffStateLevel), s.pd ∧ s.gb O.lsOffDiag
  ls.val ∧ (s.lsw ls.val).on = false ∧ s.past (s.lsw ls.val).offSince 20000 ∧ s.dup.mode = 0 ∧ c = .open3V ∧ (s.lsw
  ls.val).offOpen = false :=
  ⟨up.put O.lsOffDiag 15 1, 15, .open3V, by decide +kernel⟩

/-- A state and operands that meet the hypotheses of clause 15 of `Obligations.CompletesLoadSwitches`. -/
theorem witness_CompletesLoadSwitches_15 : ∃ (s : State) (ls : Fin 16) (c : OffStateLevel), s.pd ∧ s.gb O.lsOffDiag
  ls.val ∧ (s.lsw ls.val).on = false ∧ s.past (s.lsw ls.val).offSince 20000 ∧ s.dup.mode = 0 ∧ c = .nearVaux ∧ (s.lsw
  ls.val).offShort = false :=
  ⟨up.put O.lsOffDiag 15 1, 15, .nearVaux, by decide +kernel⟩

/-- A state and operands that meet the hypotheses of clause 16 of `Obligations.CompletesLoadSwitches`. -/
theorem witness_CompletesLoadSwitches_16 : ∃ (s : State) (ls : Fin 16) (reached : Bool), s.pd ∧ (s.lsw ls.val).on ∧
  (s.lsw ls.val).limiting ≠ reached :=
  ⟨up.lswUpd 15 (fun l => { l with on := true }), 15, true, by decide +kernel⟩

/-- A state and operands that meet the hypotheses of clause 17 of `Obligations.CompletesLoadSwitches`. -/
theorem witness_CompletesLoadSwitches_17 : ∃ (s : State) (m : Dissipation), s.pd :=
  ⟨up,
    { lsMa := [], lsMohm := [], coilMa := [], coilLoad := [], coilMohm := [], gateMa := [], gateMv := [], vauxMv := 24000, slewMvPerUs := 1 },
    by decide +kernel⟩

/-- A state and operands that meet the hypotheses of clause 18 of `Obligations.CompletesLoadSwitches`. -/
theorem witness_CompletesLoadSwitches_18 : ∃ (s : State), s.pd ∧ s.gn O.switchDissipationBudget 0 * 1000 <
  s.dissipation ∧ s.past s.gov.boundaryAt 100000 :=
  ⟨{ up with gov := { up.gov with window := [1000000000] } }, by decide +kernel⟩

/-- A state and operands that meet the hypotheses of clause 19 of `Obligations.CompletesLoadSwitches`. -/
theorem witness_CompletesLoadSwitches_19 : ∃ (s : State) (at' : Nat), s.pd ∧ s.gov.okSince = some at' ∧ s.past at'
  10000000 :=
  ⟨{ up with gov := { up.gov with okSince := some 1 } }, 1, by decide +kernel⟩

/-- A state and operands that meet the hypotheses of clause 1 of `Obligations.CompletesMotors`. -/
theorem witness_CompletesMotors_1 : ∃ (s : State) (req : Req) (md : Fin 4) (rpm : Nat), s.takesWrite req
  O.motorSpeedCommand md.val ∧ rpm ≤ 30000 :=
  ⟨up, rq, 3, 30000, by decide +kernel⟩

/-- A state and operands that meet the hypotheses of clause 2 of `Obligations.CompletesMotors`. -/
theorem witness_CompletesMotors_2 : ∃ (s : State) (md : Fin 4) (shuntMa : Int), s.pd ∧ s.has md.val :=
  ⟨up, 3, 0, by decide +kernel⟩

/-- A state and operands that meet the hypotheses of clause 3 of `Obligations.CompletesMotors`. -/
theorem witness_CompletesMotors_3 : ∃ (s : State) (md : Fin 4) (x : Crossing), s.pd ∧ s.has md.val ∧ (s.mot md.val).st
  = 3 ∧ crossingSigns x ∧ (s.mot md.val).sampled x ∧ 0 < crossingNs x ∧ (s.mot md.val).interval = 0 :=
  ⟨up.motUpd 3 (fun m => { m with st := 3 }), 3,
    { beforeNs := 1, afterNs := 2, beforeMv := -1, afterMv := 1, inside := 3, commNs := 0 }, by decide +kernel⟩

/-- A state and operands that meet the hypotheses of clause 4 of `Obligations.CompletesMotors`. -/
theorem witness_CompletesMotors_4 : ∃ (s : State) (md : Fin 4) (x : Crossing), s.pd ∧ s.has md.val ∧ (s.mot md.val).st
  = 3 ∧ crossingSigns x ∧ (s.mot md.val).sampled x ∧ (s.mot md.val).interval ≠ 0 ∧ (s.mot md.val).interval * 5 <
  crossingNs x * 4 :=
  ⟨up.motUpd 3 (fun m => { m with st := 3, interval := 4 }), 3,
    { beforeNs := 6, afterNs := 6, beforeMv := 1, afterMv := 0, inside := 3, commNs := 10 }, by decide +kernel⟩

/-- A state and operands that meet the hypotheses of clause 5 of `Obligations.CompletesMotors`. -/
theorem witness_CompletesMotors_5 : ∃ (s : State) (md : Fin 4), s.pd ∧ s.has md.val ∧ (s.mot md.val).st = 2 ∧ (s.mot
  md.val).forced < s.forcedSteps md.val :=
  ⟨up.motUpd 3 (fun m => { m with st := 2 }), 3, by decide +kernel⟩

/-- A state and operands that meet the hypotheses of clause 6 of `Obligations.CompletesMotors`. -/
theorem witness_CompletesMotors_6 : ∃ (s : State) (md : Fin 4) (at' : Nat), s.pd ∧ s.has md.val ∧ (s.mot md.val).st =
  3 ∧ (s.mot md.val).commAt = some at' ∧ s.reached at' :=
  ⟨up.motUpd 3 (fun m => { m with st := 3, commAt := some 7 }), 3, 7, by decide +kernel⟩

/-- A state and operands that meet the hypotheses of clause 7 of `Obligations.CompletesMotors`. -/
theorem witness_CompletesMotors_7 : ∃ (s : State) (md : Fin 4), s.pd ∧ s.has md.val ∧ (s.mot md.val).st = 3 ∧ (s.mot
  md.val).crossAt * 1000 + 2 * (s.mot md.val).interval ≤ s.mono * 1000 :=
  ⟨up.motUpd 3 (fun m => { m with st := 3 }), 3, by decide +kernel⟩

/-- A state and operands that meet the hypotheses of clause 8 of `Obligations.CompletesMotors`. -/
theorem witness_CompletesMotors_8 : ∃ (s : State) (md : Fin 4), s.pd ∧ s.has md.val ∧ (s.mot md.val).st = 4 ∧ (s.mot
  md.val).recStep = 2 ∧ s.reached (s.mot md.val).waitUntil ∧ (s.mot md.val).barred = false :=
  ⟨up.motUpd 3 (fun m => { m with st := 4, recStep := 2 }), 3, by decide +kernel⟩

/-- A state and operands that meet the hypotheses of clause 9 of `Obligations.CompletesMotors`. -/
theorem witness_CompletesMotors_9 : ∃ (s : State) (md : Fin 4) (intervals : List Nat) (bemfMv : Nat), s.pd ∧ s.has
  md.val ∧ (s.mot md.val).st = 5 ∧ (s.mot md.val).recStep = 3 ∧ intervals.length < 3 ∧ s.past (s.mot md.val).stAt
  500000 :=
  ⟨up.motUpd 3 (fun m => { m with st := 5, recStep := 3 }), 3, [1, 2], 0, by decide +kernel⟩

/-- A state and operands that meet the hypotheses of clause 10 of `Obligations.CompletesMotors`. -/
theorem witness_CompletesMotors_10 : ∃ (s : State) (md : Fin 4), s.pd ∧ s.has md.val ∧ (s.mot md.val).st = 4 ∧ (s.mot
  md.val).recStep = 4 ∧ (s.mot md.val).barred = false ∧ (s.mdModel md.val ≤ (s.gn O.mdStopSpeed md.val : Rat)) := by
  refine ⟨up.motUpd 3 fun m => { m with st := 4, recStep := 4 }, 3, by decide +kernel, by decide +kernel, by decide +kernel, by decide +kernel, by decide +kernel, ?_⟩
  have h : ((up.motUpd 3 fun m => { m with st := 4, recStep := 4 }).mot (3 : Fin 4).val).lossSpeed = 0 := by decide +kernel
  simp only [State.mdModel, h]
  norm_num

/-- A state and operands that meet the hypotheses of clause 11 of `Obligations.CompletesMotors`. -/
theorem witness_CompletesMotors_11 : ∃ (s : State) (md : Fin 4), s.pd ∧ s.has md.val ∧ (s.mot md.val).st = 1 ∧ s.past
  (s.mot md.val).stAt (s.gn O.mdAlignTime md.val * 1000) :=
  ⟨up.motUpd 3 (fun m => { m with st := 1 }), 3, by decide +kernel⟩

/-- A state and operands that meet the hypotheses of clause 12 of `Obligations.CompletesMotors`. -/
theorem witness_CompletesMotors_12 : ∃ (s : State) (md : Fin 4) (intervals : List Nat), s.pd ∧ s.has md.val ∧ (s.mot
  md.val).st = 2 ∧ intervals.length = 6 ∧ steady intervals ∧ (∀ i ∈ intervals, 0 < i ∧ s.gn O.mdHandoverSpeed md.val ≤
  s.mdRpm md.val i) :=
  ⟨up.motUpd 3 (fun m => { m with st := 2 }), 3, [100, 100, 100, 100, 100, 100], by decide +kernel⟩

/-- A state and operands that meet the hypotheses of clause 13 of `Obligations.CompletesMotors`. -/
theorem witness_CompletesMotors_13 : ∃ (s : State) (md : Fin 4), s.pd ∧ s.has md.val ∧ (s.mot md.val).st = 2 ∧ s.past
  (s.mot md.val).stAt (s.gn O.mdStartRampTime md.val * 1000 + 500000) :=
  ⟨up.motUpd 3 (fun m => { m with st := 2 }), 3, by decide +kernel⟩

/-- A state and operands that meet the hypotheses of clause 14 of `Obligations.CompletesMotors`. -/
theorem witness_CompletesMotors_14 : ∃ (s : State) (md : Fin 4), s.pd ∧ s.has md.val :=
  ⟨up, 3, by decide +kernel⟩

/-- A state and operands that meet the hypotheses of clause 1 of `Obligations.CompletesMotorProtection`. -/
theorem witness_CompletesMotorProtection_1 : ∃ (s : State) (md : Fin 4) (hit : LimitHit), s.pd ∧ s.has md.val ∧ (s.mot
  md.val).driven :=
  ⟨up.motUpd 3 (fun m => { m with st := 3 }), 3, { acted := true }, by decide +kernel⟩

/-- A state and operands that meet the hypotheses of clause 2 of `Obligations.CompletesMotorProtection`. -/
theorem witness_CompletesMotorProtection_2 : ∃ (s : State) (md : Fin 4), s.pd ∧ s.has md.val ∧ (s.mot md.val).driven ∧
  (s.mot md.val).currentLimit ∧ s.past (s.mot md.val).limitSince (s.gn O.mdLimitTime md.val * 1000) :=
  ⟨up.motUpd 3 (fun m => { m with st := 3, currentLimit := true }), 3, by decide +kernel⟩

/-- A state and operands that meet the hypotheses of clause 3 of `Obligations.CompletesMotorProtection`. -/
theorem witness_CompletesMotorProtection_3 : ∃ (s : State) (md : Fin 4) (lowSide : Bool), s.pd ∧ s.has md.val ∧ (s.mot
  md.val).driven ∧ ((s.mot md.val).st ≠ 6 ∨ lowSide = false) :=
  ⟨up.motUpd 3 (fun m => { m with st := 3 }), 3, true, by decide +kernel⟩

/-- A state and operands that meet the hypotheses of clause 4 of `Obligations.CompletesMotorProtection`. -/
theorem witness_CompletesMotorProtection_4 : ∃ (s : State) (md : Fin 4) (set : Bool), s.pd ∧ s.has md.val ∧ (s.mot
  md.val).latch = false ∧ set ∧ (s.mot md.val).driven :=
  ⟨up.motUpd 3 (fun m => { m with st := 3 }), 3, true, by decide +kernel⟩

/-- A state and operands that meet the hypotheses of clause 5 of `Obligations.CompletesMotorProtection`. -/
theorem witness_CompletesMotorProtection_5 : ∃ (s : State) (md : Fin 4), s.pd ∧ s.has md.val ∧ (s.mot md.val).gateUv =
  false ∧ (s.mot md.val).driven :=
  ⟨up.motUpd 3 (fun m => { m with st := 3 }), 3, by decide +kernel⟩

/-- A state and operands that meet the hypotheses of clause 6 of `Obligations.CompletesMotorProtection`. -/
theorem witness_CompletesMotorProtection_6 : ∃ (s : State) (md : Fin 4), s.pd ∧ s.has md.val ∧ (s.mot md.val).gateUv :=
  ⟨up.motUpd 3 (fun m => { m with gateUv := true }), 3, by decide +kernel⟩

/-- A state and operands that meet the hypotheses of clause 7 of `Obligations.CompletesMotorProtection`. -/
theorem witness_CompletesMotorProtection_7 : ∃ (s : State) (md : Fin 4), s.pd ∧ s.has md.val ∧ 60000000 ≤ (s.mot
  md.val).ran s.mono :=
  ⟨up.motUpd 3 (fun m => { m with st := 3 }), 3, by decide +kernel⟩

/-- A state and operands that meet the hypotheses of clause 8 of `Obligations.CompletesMotorProtection`. -/
theorem witness_CompletesMotorProtection_8 : ∃ (s : State), s.pd :=
  ⟨up, by decide +kernel⟩

/-- A state and operands that meet the hypotheses of clause 9 of `Obligations.CompletesMotorProtection`. -/
theorem witness_CompletesMotorProtection_9 : ∃ (s : State) (req : Req) (mask : Byte), s.takesWrite req
  O.motorFaultClear 0 ∧ mask.toNat < 16 ∧ ((List.range 4).any (fun n => bit mask.toNat n && !s.has n) = false) :=
  ⟨up, rq, 0x0F, by decide +kernel⟩

/-- A state and operands that meet the hypotheses of clause 10 of `Obligations.CompletesMotorProtection`. -/
theorem witness_CompletesMotorProtection_10 : ∃ (s : State) (mV : Nat), s.pd :=
  ⟨up, 90000, by decide +kernel⟩

/-- A state and operands that meet the hypotheses of clause 11 of `Obligations.CompletesMotorProtection`. -/
theorem witness_CompletesMotorProtection_11 : ∃ (s : State) (at' : Nat), s.pd ∧ (s.vmot.under ∨ s.vmot.absWait) ∧
  s.vmot.goodSince = some at' ∧ s.past at' 100000 :=
  ⟨{ up with vmot := { up.vmot with under := true, goodSince := some 1 } }, 1, by decide +kernel⟩

/-- A state and operands that meet the hypotheses of clause 12 of `Obligations.CompletesMotorProtection`. -/
theorem witness_CompletesMotorProtection_12 : ∃ (s : State) (inst : Fin 2) (vmotMv brkMa : Nat), s.pd ∧ s.vmot.brakeOn
  ∧ s.vmot.faulty = false ∧ inst.val = 0 ∧ s.past s.vmot.onAt 500 ∧ s.vmot.onMv < vmotMv :=
  ⟨{ up with vmot := { up.vmot with brakeOn := true } }, 0, 1, 0, by decide +kernel⟩

/-- A state and operands that meet the hypotheses of clause 13 of `Obligations.CompletesMotorProtection`. -/
theorem witness_CompletesMotorProtection_13 : ∃ (s : State) (req : Req) (value : Nat), s.takesWrite req
  O.brakeFaultClear 0 ∧ value = 1 :=
  ⟨up, rq, 1, by decide +kernel⟩

/-- A state and operands that meet the hypotheses of clause 1 of `Obligations.CompletesRequests`. -/
theorem witness_CompletesRequests_1 : ∃ (s : State) (f : QlpFrame) (o : Obj), s.takesRequest f 1 ∧ ((s.asked
  f).readCheck (reqIndex f) (reqSub f) (reqCount f) ((s.asked f).inSession f)).1 = 0 ∧ objRow (reqIndex f) = some o ∧
  (((s.asked f).readData f o).length ≤ (if f.link.val < 2 then 52 else 1452) - 5 * ((s.asked f).stampsOf o (reqSub f)
  (reqCount f)).length) :=
  ⟨up, readReq, rowOf O.deviceVariant, by decide +kernel⟩

/-- A state and operands that meet the hypotheses of clause 2 of `Obligations.CompletesRequests`. -/
theorem witness_CompletesRequests_2 : ∃ (s : State) (f : QlpFrame), s.takesRequest f 2 ∧ reqTagged f = false ∧
  reqSegmented f = false ∧ reqIndex f ∉ commandObjs ∧ (State.writeData (s.asked f) (reqFrom f false) (reqIndex f)
  (reqSub f) (reqCount f) (reqData f)).2.1 = 0 ∧ (State.answer (State.writeData (s.asked f) (reqFrom f false)
  (reqIndex f) (reqSub f) (reqCount f) (reqData f)).1 f 0 (reqSub f)).nodeId = (s.asked f).nodeId :=
  ⟨up, writeReq, by decide +kernel⟩

/-- A state and operands that meet the hypotheses of clause 3 of `Obligations.CompletesRequests`. -/
theorem witness_CompletesRequests_3 : ∃ (s : State) (f : QlpFrame), s.takesRequest f 16 ∧ (s.asked f).qlp.lockoutAt =
  none ∧ reqLen f = 0 ∧ (s.asked f).siteKey.isSome ∧ (s.asked f).qlp.session = none :=
  ⟨keyed, qf 0x10 [0, 0, 0, 0, 0, 0, 0, 0, 0, 0, 0], by decide +kernel⟩

/-- A state and operands that meet the hypotheses of clause 4 of `Obligations.CompletesRequests`. -/
theorem witness_CompletesRequests_4 : ∃ (s : State) (f : QlpFrame) (d : Nonce) (key : List Byte), s.takesRequest f 17
  ∧ (s.asked f).qlp.lockoutAt = none ∧ reqLen f = 48 ∧ ((s.asked f).qlp.nonces.find? (fun x => x.link == f.link.val &&
  x.node == f.src && !(s.asked f).past x.at' 10000000) = some d) ∧ (s.asked f).siteKey = some key ∧ (s.asked
  f).qlp.session = none ∧ (reqData f).drop 16 = hmac key (label 0x43 ++ d.value ++ (reqData f).take 16 ++ le 1 f.src
  ++ le 1 f.link.val) :=
  ⟨nonced, authFrame, { link := 0, node := 5, value := [1, 2], at' := 1000000000000 }, [7], by decide +kernel⟩

/-- A state and operands that meet the hypotheses of clause 5 of `Obligations.CompletesRequests`. -/
theorem witness_CompletesRequests_5 : ∃ (s : State) (f : QlpFrame), s.takesRequest f 18 ∧ reqTagged f ∧
  ((State.tagCheck (s.asked f) f (reqData f) 0x0204 fun _ => true).2 = 0) ∧ reqLen f = 12 :=
  ⟨up, tagged 0x12 [], by decide +kernel⟩

/-- A state and operands that meet the hypotheses of clause 6 of `Obligations.CompletesRequests`. -/
theorem witness_CompletesRequests_6 : ∃ (s : State) (f : QlpFrame) (ageUs : Nat), s.takesRequest f 32 ∧ reqTagged f ∧
  ((State.tagCheck (s.asked f) f (reqData f) 0x0204 fun _ => true).2 = 0) ∧ reqLen f = 20 ∧ ((State.tagCheck (s.asked
  f) f (reqData f) 0x0204 fun _ => true).1.follows 2) :=
  ⟨up.put O.timeSource 0 2, tagged 0x20 (le 8 77), 5, by decide +kernel⟩

/-- A state and operands that meet the hypotheses of clause 7 of `Obligations.CompletesRequests`. -/
theorem witness_CompletesRequests_7 : ∃ (s : State) (f : QlpFrame) (t : Transfer), s.takesBlock f 1 ∧ (s.countIn
  f).transferFor f false = some t ∧ blockNumber f = t.next ∧ 0 < t.next ∧ t.sent < t.next ∧ t.next < t.sent + 16 ∧
  (t.next < lastSegment t.link (leAt t.header 8 4) (t.header.length - 12)) :=
  ⟨receiving, bf 1 1, writing, by decide +kernel⟩

/-- A state and operands that meet the hypotheses of clause 8 of `Obligations.CompletesRequests`. -/
theorem witness_CompletesRequests_8 : ∃ (s : State) (f : QlpFrame) (t : Transfer), s.takesBlock f 2 ∧ (s.countIn
  f).transferFor f true = some t ∧ blockNumber f = t.segments + 1 ∧ t.segments ≤ t.sent :=
  ⟨sending, bf 2 2, reading, by decide +kernel⟩

/-- A state and operands that meet the hypotheses of clause 9 of `Obligations.CompletesRequests`. -/
theorem witness_CompletesRequests_9 : ∃ (s : State) (f : QlpFrame) (t : Transfer), s.takesBlock f 2 ∧ (s.countIn
  f).transferFor f true = some t ∧ 0 < blockNumber f ∧ blockNumber f ≤ t.sent + 1 ∧ blockNumber f ≠ t.segments + 1 :=
  ⟨sending, bf 2 1, reading, by decide +kernel⟩

/-- A state and operands that meet the hypotheses of clause 10 of `Obligations.CompletesRequests`. -/
theorem witness_CompletesRequests_10 : ∃ (s : State) (f : QlpFrame) (t : Transfer), s.takesBlock f 3 ∧ (s.countIn
  f).transferFor f true = some t :=
  ⟨sending, bf 3 0, reading, by decide +kernel⟩

/-- A state and operands that meet the hypotheses of clause 11 of `Obligations.CompletesRequests`. -/
theorem witness_CompletesRequests_11 : ∃ (s : State) (link : Fin 3) (src : Nat) (t : Transfer), s.running ∧
  (s.qlp.transfers.find? (fun t => t.link == link.val && t.src == src) = some t) ∧ s.past t.at' 100000 :=
  ⟨sending, 0, 5, reading, by decide +kernel⟩

/-- A state and operands that meet the hypotheses of clause 1 of `Obligations.CompletesSessions`. -/
theorem witness_CompletesSessions_1 : ∃ (s : State) (x : Session), s.running ∧ s.qlp.session = some x ∧ s.past
  x.taggedAt 300000000 :=
  ⟨up, openSession, by decide +kernel⟩

/-- A state and operands that meet the hypotheses of clause 2 of `Obligations.CompletesSessions`. -/
theorem witness_CompletesSessions_2 : ∃ (s : State) (link : Fin 3) (src : Nat), s.running :=
  ⟨up, 0, 5, by decide +kernel⟩

/-- A state and operands that meet the hypotheses of clause 3 of `Obligations.CompletesSessions`. -/
theorem witness_CompletesSessions_3 : ∃ (s : State) (at' : Nat), s.running ∧ s.qlp.lockoutAt = some at' ∧ s.reached
  at' :=
  ⟨{ up with qlp := { up.qlp with lockoutAt := some 9 } }, 9, by decide +kernel⟩

/-- A state and operands that meet the hypotheses of clause 4 of `Obligations.CompletesSessions`. -/
theorem witness_CompletesSessions_4 : ∃ (s : State) (req : Req) (value : Nat), s.takesWrite req O.qlpNodeId 0 ∧ value
  ≠ 0 ∧ value ≤ 126 ∧ (s.dup.mode = 0 ∨ value ≠ 1) ∧ value ≠ s.nodeId :=
  ⟨up, rq, 126, by decide +kernel⟩

/-- A state and operands that meet the hypotheses of clause 5 of `Obligations.CompletesSessions`. -/
theorem witness_CompletesSessions_5 : ∃ (s : State) (sync : PtpSync) (sent : Int) (interval16 : Nat) (master :
  PtpAnnounce) (utcOffset : Int), s.running ∧ s.follows 1 ∧ s.ethUp ∧ 1 ≤ interval16 ∧ interval16 ≤ 32 ∧ sync.domain =
  s.gn O.ptpDomain 0 ∧ syncSentAt sync = some sent ∧ (∀ a ∈ sync.heard, betterMaster a master = false) :=
  ⟨(etherUp.put O.timeSource 0 1), { domain := 0, origin := 5, received := 12, requested := 20, answered := 13 }, 5,
    32, { identity := 1 }, 37, by decide +kernel⟩

/-- A state and operands that meet the hypotheses of clause 6 of `Obligations.CompletesSessions`. -/
theorem witness_CompletesSessions_6 : ∃ (s : State) (at' : Nat), s.follows 1 ∧ (s.gn O.timeSyncState 0 = 1 ∨ s.gn
  O.timeSyncState 0 = 2) ∧ s.clk.lastSync = some at' ∧ s.past at' s.syncTimeout :=
  ⟨{ (up.put O.timeSource 0 1).put O.timeSyncState 0 2 with clk := { up.clk with lastSync := some 5 } }, 5,
    by decide +kernel⟩

/-- A state and operands that meet the hypotheses of clause 7 of `Obligations.CompletesSessions`. -/
theorem witness_CompletesSessions_7 : ∃ (s : State) (ns : Nat), s.running ∧ s.clk.stepNs = some ns ∧ s.fw.ticking ∧
  s.mono = s.fw.latchedAt ∧ s.flashOk :=
  ⟨{ up with clk := { up.clk with stepNs := some 20000000 }, fw := { up.fw with ticking := true, latchedAt := 1000000000000 } },
    20000000, by decide +kernel⟩

/-- A state and operands that meet the hypotheses of clause 8 of `Obligations.CompletesSessions`. -/
theorem witness_CompletesSessions_8 : ∃ (s : State) (worn : Bool), s.running ∧ s.flashOk ∧ s.past s.clk.markAt
  60000000 :=
  ⟨up, false, by decide +kernel⟩

/-- A state and operands that meet the hypotheses of clause 9 of `Obligations.CompletesSessions`. -/
theorem witness_CompletesSessions_9 : ∃ (s : State) (at' : Nat), s.follows 2 ∧ s.gn O.timeSyncState 0 = 2 ∧
  s.clk.timeSetAt = some at' ∧ s.past at' 3600000000 :=
  ⟨{ (up.put O.timeSource 0 2).put O.timeSyncState 0 2 with clk := { up.clk with timeSetAt := some 5 } }, 5,
    by decide +kernel⟩

/-- A state and operands that meet the hypotheses of clause 1 of `Obligations.CompletesLinks`. -/
theorem witness_CompletesLinks_1 : ∃ (s : State) (ch : Fin 2) (won : Bool) (sofDelay tdcNs : Nat), s.running ∧
  s.linkUp ch.val ∧ (s.can ch.val).offered ≠ 0 :=
  ⟨(up.canUpd 1 fun c => { c with offered := 3 }), 1, true, 0, 0, by decide +kernel⟩

/-- A state and operands that meet the hypotheses of clause 2 of `Obligations.CompletesLinks`. -/
theorem witness_CompletesLinks_2 : ∃ (s : State) (link : Fin 3), s.running ∧ link.val < 2 :=
  ⟨up, 1, by decide +kernel⟩

/-- A state and operands that meet the hypotheses of clause 3 of `Obligations.CompletesLinks`. -/
theorem witness_CompletesLinks_3 : ∃ (s : State) (link : Fin 3), s.running ∧ link.val = 2 :=
  ⟨up, 2, by decide +kernel⟩

/-- A state and operands that meet the hypotheses of clause 4 of `Obligations.CompletesLinks`. -/
theorem witness_CompletesLinks_4 : ∃ (s : State) (ch : Fin 2) (txErr rxErr : Nat) (busOff : Bool), s.running ∧ s.gb
  O.canEnable ch.val ∧ s.gn O.canErrorState ch.val ≠ 2 ∧ busOff :=
  ⟨up, 1, 256, 0, true, by decide +kernel⟩

/-- A state and operands that meet the hypotheses of clause 5 of `Obligations.CompletesLinks`. -/
theorem witness_CompletesLinks_5 : ∃ (s : State) (ch : Fin 2) (txErr rxErr : Nat) (busOff : Bool), s.running ∧ s.gb
  O.canEnable ch.val ∧ s.gn O.canErrorState ch.val = 0 ∧ busOff = false ∧ (128 ≤ txErr ∨ 128 ≤ rxErr) :=
  ⟨up, 1, 127, 128, false, by decide +kernel⟩

/-- A state and operands that meet the hypotheses of clause 6 of `Obligations.CompletesLinks`. -/
theorem witness_CompletesLinks_6 : ∃ (s : State) (ch : Fin 2), s.running ∧ s.gn O.canErrorState ch.val = 2 ∧ s.past
  (s.can ch.val).busOffAt (s.can ch.val).recoveryUs :=
  ⟨(up.put O.canErrorState 1 2), 1, by decide +kernel⟩

/-- A state and operands that meet the hypotheses of clause 7 of `Obligations.CompletesLinks`. -/
theorem witness_CompletesLinks_7 : ∃ (s : State) (ch : Fin 2), s.running ∧ ([0, 1, 2].filter (s.timingDue ch.val) ≠
  []) :=
  ⟨(up.canUpd 1 fun c => { c with timing := [(0, [1], 4), (2, [3], 5)] }), 1, by decide +kernel⟩

/-- A state and operands that meet the hypotheses of clause 8 of `Obligations.CompletesLinks`. -/
theorem witness_CompletesLinks_8 : ∃ (s : State) (ch : Fin 2), s.leads ∧ s.gb O.canEnable ch.val ∧ s.gb
  O.lighthouseEnable ch.val ∧ (s.now / (s.gn O.lighthousePeriod 0 * 1000) * (s.gn O.lighthousePeriod 0 * 1000) ≠
  (s.can ch.val).sched) :=
  ⟨{ (up.put O.qlpNodeId 0 9).put O.lighthouseEnable 1 1 with clk := { up.clk with now := 1000000000000 } }, 1,
    by decide +kernel⟩

/-- A state and operands that meet the hypotheses of clause 9 of `Obligations.CompletesLinks`. -/
theorem witness_CompletesLinks_9 : ∃ (s : State) (stream : Fin 8), s.leads ∧ s.gm O.streamConfig stream.val 0 ≠ 0 ∧
  s.streamUs stream.val ≠ 0 ∧ (s.now / s.streamUs stream.val * s.streamUs stream.val ≠ mget 0 s.qlp.streamAt
  stream.val) :=
  ⟨{ (up.put O.qlpNodeId 0 9).putL O.streamConfig 7 [1, 0, 0, 5, 10, 0] with clk := { up.clk with now := 1000000000000 } },
    7, by decide +kernel⟩

/-- A state and operands that meet the hypotheses of clause 10 of `Obligations.CompletesLinks`. -/
theorem witness_CompletesLinks_10 : ∃ (s : State) (fast full : Bool), s.running ∧ s.gb O.ethEnable 0 ∧ s.gn
  O.ethLinkState 0 = 0 :=
  ⟨(up.put O.ethEnable 0 1), true, true, by decide +kernel⟩

/-- A state and operands that meet the hypotheses of clause 11 of `Obligations.CompletesLinks`. -/
theorem witness_CompletesLinks_11 : ∃ (s : State) (targetIp sender : Nat), s.running ∧ s.ethUp ∧ targetIp = s.gn
  O.ethIpAddress 0 :=
  ⟨etherUp, etherUp.gn O.ethIpAddress 0, 9, by decide +kernel⟩

/-- A state and operands that meet the hypotheses of clause 12 of `Obligations.CompletesLinks`. -/
theorem witness_CompletesLinks_12 : ∃ (s : State) (len : Nat) (fragment : Bool) (sender : Nat), s.running ∧ s.ethUp ∧
  fragment = false ∧ len ≤ 1472 ∧ ((s.qlp.icmp.filter fun t => decide (s.mono < t + 1000000)).length < 100) :=
  ⟨etherUp, 1472, false, 3, by decide +kernel⟩

/-- A state and operands that meet the hypotheses of clause 13 of `Obligations.CompletesLinks`. -/
theorem witness_CompletesLinks_13 : ∃ (s : State), s.running ∧ s.gn O.ethLinkState 0 ≠ 0 :=
  ⟨etherUp, by decide +kernel⟩

/-- A state and operands that meet the hypotheses of clause 1 of `Obligations.CompletesConfiguration`. -/
theorem witness_CompletesConfiguration_1 : ∃ (s : State) (req : Req) (file : List Byte), s.takesWrite req
  O.manifestFile 0 ∧ s.manifestGate = 0 ∧ (s.tagSeen req).manifestCheck (s.gn O.tallyPeriod 0) file = 0 :=
  ⟨inService.put O.tableSetState 0 1, rq, oneModule, by decide +kernel⟩

/-- A state and operands that meet the hypotheses of clause 2 of `Obligations.CompletesConfiguration`. -/
theorem witness_CompletesConfiguration_2 : ∃ (s : State) (req : Req) (mask : Byte), s.takesWrite req
  O.manifestAdoptUids 0 ∧ mask.toNat < 16 ∧ s.manifestGate = 0 ∧ (((List.range 4).filter fun r => bit mask.toNat
  r).all s.uidsFound) ∧ (((List.range 4).filter fun r => bit mask.toNat r).any (fun r => !s.has r) = false) :=
  ⟨inService, rq, 0, by decide +kernel⟩

/-- A state and operands that meet the hypotheses of clause 3 of `Obligations.CompletesConfiguration`. -/
theorem witness_CompletesConfiguration_3 : ∃ (s : State) (req : Req), s.takesWrite req O.configCommand 0 ∧
  s.configLife ∧ s.flashOk :=
  ⟨inService, rq, by decide +kernel⟩

/-- A state and operands that meet the hypotheses of clause 4 of `Obligations.CompletesConfiguration`. -/
theorem witness_CompletesConfiguration_4 : ∃ (s : State) (req : Req) (k : Nat) (img : List Byte), s.takesWrite req
  O.configCommand 0 ∧ s.configLife ∧ s.allOpen ∧ ((s.tagSeen req).bootImage = some (k, img)) :=
  ⟨imaged, rq, 0, emptyImage, by decide +kernel⟩

/-- A state and operands that meet the hypotheses of clause 5 of `Obligations.CompletesConfiguration`. -/
theorem witness_CompletesConfiguration_5 : ∃ (s : State) (req : Req), s.takesWrite req O.configCommand 0 ∧
  s.configLife ∧ s.allOpen :=
  ⟨inService, rq, by decide +kernel⟩

/-- A state and operands that meet the hypotheses of clause 6 of `Obligations.CompletesConfiguration`. -/
theorem witness_CompletesConfiguration_6 : ∃ (s : State) (req : Req) (image : List Byte), s.takesWrite req
  O.configImage 0 ∧ s.manifestGate = 0 ∧ ((s.tagSeen req).imageCheck image = (0, 0)) :=
  ⟨inService, rq, emptyImage, by decide +kernel⟩

/-- A state and operands that meet the hypotheses of clause 1 of `Obligations.CompletesClaim`. -/
theorem witness_CompletesClaim_1 : ∃ (s : State) (level : Bool), s.pd ∧ s.dup.berthIn ≠ level ∧ s.dup.mode = 0 :=
  ⟨up, true, by decide +kernel⟩

/-- A state and operands that meet the hypotheses of clause 2 of `Obligations.CompletesClaim`. -/
theorem witness_CompletesClaim_2 : ∃ (s : State) (level : Bool), s.pd ∧ s.dup.berthIn ≠ level ∧ s.dup.mode ≠ 0 :=
  ⟨paired, true, by decide +kernel⟩

/-- A state and operands that meet the hypotheses of clause 3 of `Obligations.CompletesClaim`. -/
theorem witness_CompletesClaim_3 : ∃ (s : State), s.pd ∧ s.dup.mode ≠ 0 ∧ s.dup.claim = .released ∧ s.dup.request ∧
  s.trusts ∧ s.dup.berthIn = false ∧ s.quiet = false ∧ s.past s.dup.berthAt (if s.dup.pref then 100000 else 1000000) :=
  ⟨{ paired with wd := { up.wd with trusted := true }, dup := { paired.dup with request := true } },
    by decide +kernel⟩

/-- A state and operands that meet the hypotheses of clause 4 of `Obligations.CompletesClaim`. -/
theorem witness_CompletesClaim_4 : ∃ (s : State), s.pd ∧ s.dup.mode ≠ 0 ∧ s.dup.claim = .held ∧ s.dup.berthIn ∧ s.past
  s.dup.berthAt (if s.dup.pref then 100 else 10) :=
  ⟨{ holding with dup := { holding.dup with berthIn := true } }, by decide +kernel⟩

/-- A state and operands that meet the hypotheses of clause 5 of `Obligations.CompletesClaim`. -/
theorem witness_CompletesClaim_5 : ∃ (s : State), s.pd ∧ s.dup.mode ≠ 0 ∧ s.dup.claim = .held ∧ s.past s.dup.refreshAt
  10000 :=
  ⟨holding, by decide +kernel⟩

/-- A state and operands that meet the hypotheses of clause 6 of `Obligations.CompletesClaim`. -/
theorem witness_CompletesClaim_6 : ∃ (s : State), s.pd ∧ s.dup.mode ≠ 0 ∧ (s.holds ∨ s.dup.noTaker) ∧ s.dup.berthIn ∧
  s.past s.dup.berthAt 2000 :=
  ⟨{ paired with dup := { paired.dup with claim := .holding, berthIn := true } }, by decide +kernel⟩

/-- A state and operands that meet the hypotheses of clause 7 of `Obligations.CompletesClaim`. -/
theorem witness_CompletesClaim_7 : ∃ (s : State), s.pd ∧ s.dup.mode ≠ 0 ∧ s.holds ∧ s.past s.dup.holdAt 20000 ∧
  s.dup.berthIn = false :=
  ⟨{ paired with dup := { paired.dup with claim := .holding } }, by decide +kernel⟩

/-- A state and operands that meet the hypotheses of clause 8 of `Obligations.CompletesClaim`. -/
theorem witness_CompletesClaim_8 : ∃ (s : State), s.pd ∧ s.dup.mode ≠ 0 ∧ s.dup.armed ∧ s.past s.dup.armAt 10001 :=
  ⟨{ paired with dup := { paired.dup with armed := true } }, by decide +kernel⟩

/-- A state and operands that meet the hypotheses of clause 9 of `Obligations.CompletesClaim`. -/
theorem witness_CompletesClaim_9 : ∃ (s : State) (ring : Fin 4), s.running ∧ s.dup.mode ≠ 0 ∧ s.dup.out = false ∧
  s.has ring.val ∧ s.nMon ring.val ≠ 0 ∧ (s.gn O.chainRingState ring.val = 3 ∨ s.gn O.chainRingState ring.val = 4) ∧
  (s.ring ring.val).takeover = false ∧ s.past (s.ring ring.val).holderTrigger (2 * s.fw.period) :=
  ⟨{ ring3 with dup := { ring3.dup with mode := 1 } }, 3, by decide +kernel⟩

/-- A state and operands that meet the hypotheses of clause 10 of `Obligations.CompletesClaim`. -/
theorem witness_CompletesClaim_10 : ∃ (s : State) (req : Req), s.takesWrite req O.berthCommand 0 ∧ s.berthState = 2 ∧
  s.dup.handover = 0 ∧ s.handoverInhibit = false :=
  ⟨{ holding with dup := { holding.dup with hello := some armedHello, up := true } }, rq, by decide +kernel⟩

/-- A state and operands that meet the hypotheses of clause 11 of `Obligations.CompletesClaim`. -/
theorem witness_CompletesClaim_11 : ∃ (s : State) (req : Req), s.takesWrite req O.berthCommand 0 ∧ (s.tagSeen
  req).berthState = 3 ∧ s.dup.up :=
  ⟨{ paired with dup := { paired.dup with armed := true, up := true } }, rq, by decide +kernel⟩

/-- A state and operands that meet the hypotheses of clause 12 of `Obligations.CompletesClaim`. -/
theorem witness_CompletesClaim_12 : ∃ (s : State), s.running ∧ s.dup.mode ≠ 0 ∧ s.dup.pref ∧ s.berthState = 3 ∧
  s.dup.up ∧ s.past s.dup.armedSince (s.gn O.berthRevertTime 0 * 1000000) ∧ s.reached s.dup.notBefore ∧
  s.handoverInhibit = false :=
  ⟨{ paired with dup := { paired.dup with armed := true, up := true, pref := true } }, by decide +kernel⟩

/-- A state and operands that meet the hypotheses of clause 1 of `Obligations.CompletesDuplexLink`. -/
theorem witness_CompletesDuplexLink_1 : ∃ (s : State) (tally : BitVec 32) (tail : DupTail), s.running ∧ s.dup.mode ≠ 0
  ∧ dupIntact (.handover 0 tally.toNat) tail ∧ s.dup.out = false ∧ s.dup.armed ∧ s.dup.shadow.isSome :=
  ⟨{ paired with dup := { paired.dup with armed := true, shadow := some noMirror } }, 7, good (.handover 0 7),
    by decide +kernel⟩

/-- A state and operands that meet the hypotheses of clause 2 of `Obligations.CompletesDuplexLink`. -/
theorem witness_CompletesDuplexLink_2 : ∃ (s : State) (tally : BitVec 32) (tail : DupTail), s.running ∧ s.dup.mode ≠ 0
  ∧ dupIntact (.handover 1 tally.toNat) tail ∧ s.dup.out ∧ s.dup.handover = 2 ∧ s.dup.handoverTally = tally.toNat :=
  ⟨{ holding with dup := { holding.dup with handover := 2, handoverTally := 7 } }, 7, good (.handover 1 7),
    by decide +kernel⟩

/-- A state and operands that meet the hypotheses of clause 3 of `Obligations.CompletesDuplexLink`. -/
theorem witness_CompletesDuplexLink_3 : ∃ (s : State) (tally : BitVec 32) (tail : DupTail), s.running ∧ s.dup.mode ≠ 0
  ∧ dupIntact (.handover 2 tally.toNat) tail ∧ s.dup.out ∧ s.dup.handover = 2 ∧ s.dup.handoverTally = tally.toNat :=
  ⟨{ holding with dup := { holding.dup with handover := 2, handoverTally := 7 } }, 7, good (.handover 2 7),
    by decide +kernel⟩

/-- A state and operands that meet the hypotheses of clause 4 of `Obligations.CompletesDuplexLink`. -/
theorem witness_CompletesDuplexLink_4 : ∃ (s : State) (tally : BitVec 32) (tail : DupTail), s.running ∧ s.dup.mode ≠ 0
  ∧ dupIntact (.handover 2 tally.toNat) tail ∧ s.dup.out = false :=
  ⟨paired, 7, good (.handover 2 7), by decide +kernel⟩

/-- A state and operands that meet the hypotheses of clause 5 of `Obligations.CompletesDuplexLink`. -/
theorem witness_CompletesDuplexLink_5 : ∃ (s : State) (tally : BitVec 32) (tail : DupTail), s.running ∧ s.dup.mode ≠ 0
  ∧ dupIntact (.handover 3 tally.toNat) tail ∧ s.dup.out = false ∧ s.dup.handoverTally = tally.toNat ∧ s.dup.reason =
  0 :=
  ⟨{ paired with dup := { paired.dup with handoverTally := 7 } }, 7, good (.handover 3 7), by decide +kernel⟩

/-- A state and operands that meet the hypotheses of clause 6 of `Obligations.CompletesDuplexLink`. -/
theorem witness_CompletesDuplexLink_6 : ∃ (s : State) (ring : Fin 4) (command : List Byte) (latest : Nat) (tail :
  DupTail), s.running ∧ s.dup.mode ≠ 0 ∧ dupIntact (.chainReq ring.val command latest) tail ∧ s.dup.out = false ∧
  s.now ≤ latest ∧ s.has ring.val ∧ byteAt command 1 ≠ 0x01 :=
  ⟨paired, 3, [0, 0x10], 1000000000000000, good (.chainReq 3 [0, 0x10] 1000000000000000), by decide +kernel⟩

/-- A state and operands that meet the hypotheses of clause 7 of `Obligations.CompletesDuplexLink`. -/
theorem witness_CompletesDuplexLink_7 : ∃ (s : State) (ring : Fin 4) (decodedAt : Nat) (frame : List Byte) (tail :
  DupTail), s.running ∧ s.dup.mode ≠ 0 ∧ dupIntact (.chainFwd ring.val decodedAt frame) tail ∧ s.dup.out ∧ decodedAt ≤
  s.now + s.fw.period ∧ bit (byteAt frame 0).toNat 6 ∧ byteAt frame 1 = 0x84 :=
  ⟨holding, 3, 0, [0x40, 0x84], good (.chainFwd 3 0 [0x40, 0x84]), by decide +kernel⟩

/-- A state and operands that meet the hypotheses of clause 8 of `Obligations.CompletesDuplexLink`. -/
theorem witness_CompletesDuplexLink_8 : ∃ (s : State) (index : BitVec 32) (period time : Nat) (tail : DupTail),
  s.running ∧ s.dup.mode ≠ 0 ∧ dupIntact (.tally index.toNat period time) tail ∧ s.dup.out = false :=
  ⟨paired, 3, 9, 100, good (.tally 3 9 100), by decide +kernel⟩

/-- A state and operands that meet the hypotheses of clause 9 of `Obligations.CompletesDuplexLink`. -/
theorem witness_CompletesDuplexLink_9 : ∃ (s : State) (m : Mirror) (tail : DupTail), s.running ∧ s.dup.mode ≠ 0 ∧
  dupIntact (.mirror m) tail ∧ s.dup.out = false := by
  refine ⟨paired, noMirror, good (.mirror noMirror), by decide +kernel, by decide +kernel, ?_, by decide +kernel⟩
  have h : (dupPayload (.mirror noMirror)).length ≤ 256 := by
    simp only [dupPayload, List.length_take]
    exact Nat.min_le_left _ _
  simp [dupIntact, good, h]

/-- A state and operands that meet the hypotheses of clause 10 of `Obligations.CompletesDuplexLink`. -/
theorem witness_CompletesDuplexLink_10 : ∃ (s : State) (h : Hello) (tail : DupTail), s.running ∧ s.dup.mode ≠ 0 ∧
  dupIntact (.hello h) tail :=
  ⟨paired, armedHello, good (.hello armedHello), by decide +kernel⟩

/-- A state and operands that meet the hypotheses of clause 11 of `Obligations.CompletesDuplexLink`. -/
theorem witness_CompletesDuplexLink_11 : ∃ (s : State) (payload : List Byte) (tail : DupTail), s.running ∧ s.dup.mode
  ≠ 0 ∧ dupIntact (.ringDelays payload) tail ∧ payload.length = 68 :=
  ⟨paired, List.replicate 68 0, good (.ringDelays (List.replicate 68 0)), by decide +kernel⟩

/-- A state and operands that meet the hypotheses of clause 12 of `Obligations.CompletesDuplexLink`. -/
theorem witness_CompletesDuplexLink_12 : ∃ (s : State), s.running ∧ s.dup.mode ≠ 0 ∧ s.dup.up ∧ s.past s.dup.validAt
  1000 :=
  ⟨{ paired with dup := { paired.dup with up := true } }, by decide +kernel⟩

/-- A state and operands that meet the hypotheses of clause 13 of `Obligations.CompletesDuplexLink`. -/
theorem witness_CompletesDuplexLink_13 : ∃ (s : State), s.running ∧ s.dup.mode ≠ 0 ∧ s.dup.up = false ∧ s.dup.validAt
  ≠ 0 ∧ s.past s.dup.validAt 1000 = false ∧ s.past s.dup.validSince 100000 :=
  ⟨{ paired with dup := { paired.dup with validAt := 1000000000000 } }, by decide +kernel⟩

/-- A state and operands that meet the hypotheses of clause 14 of `Obligations.CompletesDuplexLink`. -/
theorem witness_CompletesDuplexLink_14 : ∃ (s : State), s.running ∧ s.dup.mode ≠ 0 ∧ (s.dup.sent = []) ∧ s.past
  s.dup.sentAt 100 :=
  ⟨paired, by decide +kernel⟩

/-- A state and operands that meet the hypotheses of clause 1 of `Obligations.CompletesLog`. -/
theorem witness_CompletesLog_1 : ∃ (s : State) (r : LogRec), s.cd ∧ s.log.open' = some r ∧ s.past r.opened 10000000 :=
  ⟨{ up with log := { up.log with open' := some {} } }, {}, by decide +kernel⟩

/-- A state and operands that meet the hypotheses of clause 2 of `Obligations.CompletesLog`. -/
theorem witness_CompletesLog_2 : ∃ (s : State) (failing : List (Fin 256)), s.running ∧ s.flashOk ∧ s.otp.retired =
  false :=
  ⟨up, [3], by decide +kernel⟩

/-- A state and operands that meet the hypotheses of clause 3 of `Obligations.CompletesLog`. -/
theorem witness_CompletesLog_3 : ∃ (s : State), s.cd ∧ (s.log.supp.all (fun c => c == 0) = false) ∧ s.past
  s.log.suppAt 60000000 :=
  ⟨{ up with log := { up.log with supp := [0, 1, 0, 0] } }, by decide +kernel⟩

/-- A state and operands that meet the hypotheses of clause 4 of `Obligations.CompletesLog`. -/
theorem witness_CompletesLog_4 : ∃ (s : State) (req : Req) (code : BitVec 32), s.takesWrite req O.logClear 0 ∧
  (s.tagSeen req).authOk req ∧ (s.lifecycle = 1 ∨ s.lifecycle = 3) ∧ s.flashOk ∧ code.toNat = s.logClearCode :=
  ⟨inService, rq, BitVec.ofNat 32 inService.logClearCode, by decide +kernel⟩

/-- A state and operands that meet the hypotheses of clause 5 of `Obligations.CompletesLog`. -/
theorem witness_CompletesLog_5 : ∃ (s : State) (vauxMv : Nat), s.running ∧ s.pwr.flushed = false ∧ vauxMv < 17000 :=
  ⟨up, 16999, by decide +kernel⟩

/-- A state and operands that meet the hypotheses of clause 1 of `Obligations.CompletesSupply`. -/
theorem witness_CompletesSupply_1 : ∃ (s : State) (vauxMv : Nat), s.running ∧ s.pwr.flushed ∧ 17000 ≤ vauxMv :=
  ⟨{ up with pwr := { up.pwr with flushed := true } }, 17000, by decide +kernel⟩

/-- A state and operands that meet the hypotheses of clause 2 of `Obligations.CompletesSupply`. -/
theorem witness_CompletesSupply_2 : ∃ (s : State) (vauxMv : Nat), s.pd ∧ s.pwr.warning = false ∧ vauxMv < 15000 :=
  ⟨up, 14999, by decide +kernel⟩

/-- A state and operands that meet the hypotheses of clause 3 of `Obligations.CompletesSupply`. -/
theorem witness_CompletesSupply_3 : ∃ (s : State) (vauxMv : Nat), s.pd ∧ s.pwr.warning ∧ 16000 ≤ vauxMv :=
  ⟨{ up with pwr := { up.pwr with warning := true } }, 16000, by decide +kernel⟩

/-- A state and operands that meet the hypotheses of clause 4 of `Obligations.CompletesSupply`. -/
theorem witness_CompletesSupply_4 : ∃ (s : State) (vauxMv : Nat), s.pwr.started ∧ vauxMv < 11000 :=
  ⟨up, 10999, by decide +kernel⟩

/-- A state and operands that meet the hypotheses of clause 5 of `Obligations.CompletesSupply`. -/
theorem witness_CompletesSupply_5 : ∃ (s : State) (vddcMv vddioMv : Nat), s.pd ∧ (vddcMv < 700 ∨ 900 < vddcMv ∨
  vddioMv < 3000 ∨ 3600 < vddioMv) :=
  ⟨up, 800, 3601, by decide +kernel⟩

/-- A state and operands that meet the hypotheses of clause 6 of `Obligations.CompletesSupply`. -/
theorem witness_CompletesSupply_6 : ∃ (s : State) (vauxMv : Nat), s.pwr.started = false ∧ 16000 ≤ vauxMv :=
  ⟨State.reset, 16000, by decide +kernel⟩

/-- A state and operands that meet the hypotheses of clause 7 of `Obligations.CompletesSupply`. -/
theorem witness_CompletesSupply_7 : ∃ (s : State) (berthPref : Bool), s.pwr.started ∧ s.pwr.pdUp = false ∧ s.past
  s.pwr.startAt 5000 :=
  ⟨{ up with pwr := { up.pwr with pdUp := false } }, true, by decide +kernel⟩

/-- A state and operands that meet the hypotheses of clause 8 of `Obligations.CompletesSupply`. -/
theorem witness_CompletesSupply_8 : ∃ (s : State), s.pd ∧ s.cd = false ∧ s.pwr.holdClock = false ∧ s.pwr.holdResetN =
  false ∧ s.pwr.mooring ≠ .watch ∧ s.pwr.mooring ≠ .dark :=
  ⟨{ up with pwr := { up.pwr with cdUp := false } }, by decide +kernel⟩

/-- A state and operands that meet the hypotheses of clause 9 of `Obligations.CompletesSupply`. -/
theorem witness_CompletesSupply_9 : ∃ (s : State) (c : StartupChecks), s.cd ∧ s.fw.scanned = false :=
  ⟨{ up with fw := { up.fw with scanned := false } }, ⟨false, false, false, [], [], [], [], [], []⟩,
    by decide +kernel⟩

/-- A state and operands that meet the hypotheses of clause 10 of `Obligations.CompletesSupply`. -/
theorem witness_CompletesSupply_10 : ∃ (s : State), s.pd ∧ s.pwr.holdResetN = false ∧ s.cd :=
  ⟨up, by decide +kernel⟩

/-- A state and operands that meet the hypotheses of clause 11 of `Obligations.CompletesSupply`. -/
theorem witness_CompletesSupply_11 : ∃ (s : State), s.pd ∧ s.pwr.holdResetN = false ∧ s.cd = false :=
  ⟨{ up with pwr := { up.pwr with cdUp := false } }, by decide +kernel⟩

/-- A state and operands that meet the hypotheses of clause 12 of `Obligations.CompletesSupply`. -/
theorem witness_CompletesSupply_12 : ∃ (s : State), s.pd ∧ s.pwr.holdResetN :=
  ⟨{ up with pwr := { up.pwr with holdResetN := true } }, by decide +kernel⟩

/-- A state and operands that meet the hypotheses of clause 13 of `Obligations.CompletesSupply`. -/
theorem witness_CompletesSupply_13 : ∃ (s : State) (req : Req) (value : Nat), s.takesWrite req O.deviceResetCommand 0
  ∧ s.anyEnergised = false ∧ value = 1 :=
  ⟨up, rq, 1, by decide +kernel⟩

/-- A state and operands that meet the hypotheses of clause 14 of `Obligations.CompletesSupply`. -/
theorem witness_CompletesSupply_14 : ∃ (s : State) (req : Req), s.takesWrite req O.mooredCommand 0 ∧ s.allOpen ∧
  s.otest.string = none ∧ s.pwr.mooring = .none ∧ (s.dup.mode = 0 ∨ s.dup.out = false ∨ s.dup.up = false) :=
  ⟨up, rq, by decide +kernel⟩

/-- A state and operands that meet the hypotheses of clause 15 of `Obligations.CompletesSupply`. -/
theorem witness_CompletesSupply_15 : ∃ (s : State) (req : Req), s.takesWrite req O.mooredCommand 0 ∧ s.allOpen ∧
  s.otest.string = none ∧ s.pwr.mooring = .none ∧ (s.dup.mode = 0 ∨ s.dup.out = false ∨ s.dup.up = false) :=
  ⟨up, rq, by decide +kernel⟩

/-- A state and operands that meet the hypotheses of clause 16 of `Obligations.CompletesSupply`. -/
theorem witness_CompletesSupply_16 : ∃ (s : State), s.running ∧ s.mooring ∧ s.pwr.moorStep = 2 ∧ (s.ev.pending = []) :=
  ⟨{ (forEach (List.range 4) up fun s r => s.ringUpd r fun x => { x with asleep := true }) with pwr := { up.pwr with mooring := .enterDark, moorStep := 2 } },
    by decide +kernel⟩

/-- A state and operands that meet the hypotheses of clause 17 of `Obligations.CompletesSupply`. -/
theorem witness_CompletesSupply_17 : ∃ (s : State) (w : WakeSource), s.pwr.pdUp ∧ s.pwr.mooring = .watch ∧ bit (s.gn
  O.mooredWakeMask 0) (wakeBit w) ∧ s.wakeMet w :=
  ⟨{ up.put O.mooredWakeMask 0 1 with pwr := { up.pwr with mooring := .watch } }, .wake0 10000, by decide +kernel⟩

/-- A state and operands that meet the hypotheses of clause 18 of `Obligations.CompletesSupply`. -/
theorem witness_CompletesSupply_18 : ∃ (s : State) (at' : Nat), s.running ∧ s.fw.lowSince = some at' ∧ s.past at'
  60000000 ∧ s.darkDue ∧ s.pwr.mooring = .none ∧ s.otest.string = none ∧ (s.dup.mode = 0 ∨ s.dup.out = false ∨
  s.dup.up = false) :=
  ⟨low, 5, by decide +kernel⟩

/-- A state and operands that meet the hypotheses of clause 1 of `Obligations.CompletesLifecycle`. -/
theorem witness_CompletesLifecycle_1 : ∃ (s : State) (req : Req) (blob : List Byte) (k : Nat), s.takesWrite req
  O.siteKeyWrite 0 ∧ ((List.range 4).find? (fun k => !mhas s.otp.siteKeys k) = some k) ∧ s.keyCheck ((s.tagSeen
  req).authOk req) 32 (some k) blob = 0 :=
  ⟨up, rq, keyBlob 0 32, 0, by decide +kernel⟩

/-- A state and operands that meet the hypotheses of clause 2 of `Obligations.CompletesLifecycle`. -/
theorem witness_CompletesLifecycle_2 : ∃ (s : State) (req : Req) (ring : Fin 4) (blob : List Byte) (k : Nat),
  s.takesWrite req O.moduleKeyWrite ring.val ∧ (((List.range 4).map fun g => ring.val * 4 + g).find? (fun k => !mhas
  s.otp.moduleKeys k) = some k) ∧ s.keyCheck ((s.tagSeen req).authOk req) 16 (some (0x10 + k)) blob = 0 ∧ (s.gn
  O.chainRingState ring.val = 3 ∨ s.gn O.chainRingState ring.val = 4) :=
  ⟨{ ring3 with fw := { ring3.fw with lifecycle := none }, otp := {} }, rq, 3, keyBlob 0x1C 16, 12, by decide +kernel⟩

/-- A state and operands that meet the hypotheses of clause 3 of `Obligations.CompletesLifecycle`. -/
theorem witness_CompletesLifecycle_3 : ∃ (s : State) (req : Req) (ring : Fin 4) (blob : List Byte) (k : Nat),
  s.takesWrite req O.moduleKeyWrite ring.val ∧ (((List.range 4).map fun g => ring.val * 4 + g).find? (fun k => !mhas
  s.otp.moduleKeys k) = some k) ∧ s.keyCheck ((s.tagSeen req).authOk req) 16 (some (0x10 + k)) blob = 0 ∧ s.gn
  O.chainRingState ring.val ≠ 3 ∧ s.gn O.chainRingState ring.val ≠ 4 :=
  ⟨up, rq, 3, keyBlob 0x1C 16, 12, by decide +kernel⟩

/-- A state and operands that meet the hypotheses of clause 4 of `Obligations.CompletesLifecycle`. -/
theorem witness_CompletesLifecycle_4 : ∃ (s : State) (req : Req) (value : BitVec 32), s.takesWrite req
  O.lifeCycleCommand 0 ∧ (value.toNat / 256 = 0) ∧ s.lifecycle = 0 ∧ mhas s.otp.siteKeys 0 ∧ s.flashOk :=
  ⟨keyed0, rq, 1, by decide +kernel⟩

/-- A state and operands that meet the hypotheses of clause 5 of `Obligations.CompletesLifecycle`. -/
theorem witness_CompletesLifecycle_5 : ∃ (s : State) (req : Req) (value : BitVec 32), s.takesWrite req
  O.lifeCycleCommand 0 ∧ (value.toNat / 256 = 0) ∧ (s.lifecycle = 1 ∨ s.lifecycle = 3) ∧ s.lifeCycleBlock = 0 ∧
  s.flashOk :=
  ⟨ready1, rq, 2, by decide +kernel, by decide +kernel, by decide +kernel, ready1_free, by decide +kernel⟩

/-- A state and operands that meet the hypotheses of clause 6 of `Obligations.CompletesLifecycle`. -/
theorem witness_CompletesLifecycle_6 : ∃ (s : State) (req : Req) (value : BitVec 32), s.takesWrite req
  O.lifeCycleCommand 0 ∧ (value.toNat / 256 = 0) ∧ s.lifecycle = 2 ∧ s.flashOk :=
  ⟨{ inService with fw := { inService.fw with lifecycle := some 2 } }, rq, 3, by decide +kernel⟩

/-- A state and operands that meet the hypotheses of clause 7 of `Obligations.CompletesLifecycle`. -/
theorem witness_CompletesLifecycle_7 : ∃ (s : State) (req : Req) (value : BitVec 32), s.takesWrite req
  O.lifeCycleCommand 0 ∧ (value.toNat / 256 = s.retireCode) ∧ (s.lifecycle = 1 ∨ s.lifecycle = 2 ∨ s.lifecycle = 3) ∧
  s.allOpen ∧ s.flashOk :=
  ⟨inService, rq, BitVec.ofNat 32 (inService.retireCode * 256 + 4), by decide +kernel⟩

/-- A state and operands that meet the hypotheses of clause 8 of `Obligations.CompletesLifecycle`. -/
theorem witness_CompletesLifecycle_8 : ∃ (s : State) (req : Req) (mask : BitVec 32), s.takesWrite req
  O.tamperAcknowledge 0 ∧ mask.toNat < 512 ∧ (s.lifecycle = 1 ∨ s.lifecycle = 3) ∧ s.flashOk :=
  ⟨inService, rq, 511, by decide +kernel⟩

/-- A state and operands that meet the hypotheses of clause 9 of `Obligations.CompletesLifecycle`. -/
theorem witness_CompletesLifecycle_9 : ∃ (s : State) (req : Req), s.takesWrite req O.firmwareCommand 0 ∧ s.fwGate = 0
  ∧ ((s.slot (1 - s.otherSlot)).st ≠ 6) :=
  ⟨inService, rq, by decide +kernel⟩

/-- A state and operands that meet the hypotheses of clause 10 of `Obligations.CompletesLifecycle`. -/
theorem witness_CompletesLifecycle_10 : ∃ (s : State), s.running ∧ (s.slot s.otherSlot).st = 1 :=
  ⟨(inService.slotUpd inService.otherSlot fun _ => { st := 1 }), by decide +kernel⟩

/-- A state and operands that meet the hypotheses of clause 11 of `Obligations.CompletesLifecycle`. -/
theorem witness_CompletesLifecycle_11 : ∃ (s : State) (req : Req) (chunk : Fin 64) (bytes : List Byte), s.takesWrite
  req O.firmwareChunk chunk.val ∧ s.fwGate = 0 ∧ (s.slot s.otherSlot).st = 2 ∧ (chunk.val = 0 ∨ mhas (s.slot
  s.otherSlot).chunks 0) ∧ (chunk.val ≠ 0 ∨ 12 ≤ bytes.length) ∧ (bytes ≠ []) ∧ bytes.length = chunkLen (if chunk.val
  = 0 then leAt bytes 8 4 else (s.slot s.otherSlot).imageLen) chunk.val ∧ mhas (s.slot s.otherSlot).chunks chunk.val =
  false :=
  ⟨(inService.slotUpd inService.otherSlot fun _ => { st := 2 }), rq, 0, List.replicate 8 0 ++ [12, 0, 0, 0],
    by decide +kernel⟩

/-- A state and operands that meet the hypotheses of clause 12 of `Obligations.CompletesLifecycle`. -/
theorem witness_CompletesLifecycle_12 : ∃ (s : State) (req : Req) (c : Nat), s.takesWrite req O.firmwareCommand 0 ∧
  s.fwGate = 0 ∧ (s.slot s.otherSlot).st = 2 ∧ (s.tagSeen req).fwCheck (s.slot s.otherSlot) = c :=
  ⟨(inService.slotUpd inService.otherSlot fun _ => { st := 2 }), rq, 1, by decide +kernel⟩

/-- A state and operands that meet the hypotheses of clause 13 of `Obligations.CompletesLifecycle`. -/
theorem witness_CompletesLifecycle_13 : ∃ (s : State) (req : Req), s.takesWrite req O.firmwareCommand 0 ∧ s.fwGate = 0
  ∧ (s.slot s.otherSlot).st = 3 ∧ s.dup.mode = 0 ∧ s.anyEnergised = false :=
  ⟨(inService.slotUpd inService.otherSlot fun _ => { st := 3 }), rq, by decide +kernel⟩

/-- A state and operands that meet the hypotheses of clause 14 of `Obligations.CompletesLifecycle`. -/
theorem witness_CompletesLifecycle_14 : ∃ (s : State) (req : Req), s.takesWrite req O.firmwareCommand 0 ∧ s.fwGate = 0
  ∧ (s.slot s.otherSlot).st ≠ 5 ∧ (s.slot s.otherSlot).st ≠ 6 :=
  ⟨inService, rq, by decide +kernel⟩

/-- A state and operands that meet the hypotheses of clause 15 of `Obligations.CompletesLifecycle`. -/
theorem witness_CompletesLifecycle_15 : ∃ (s : State) (k : Nat), s.running ∧ s.flashOk ∧ s.flash.booted = some k ∧
  s.fw.startup = false ∧ (s.slot k).st = 6 ∧ s.past s.fw.startedAt (s.gn O.firmwareTrialTime 0 * 1000000) :=
  ⟨{ (up.slotUpd 1 fun _ => { st := 6 }) with flash := { (up.slotUpd 1 fun _ => { st := 6 }).flash with booted := some 1 }, fw := { up.fw with startup := false } },
    1, by decide +kernel⟩

/-- A state and operands that meet the hypotheses of clause 1 of `Obligations.CompletesThermal`. -/
theorem witness_CompletesThermal_1 : ∃ (s : State) (readings : List Int), s.pd :=
  ⟨up, [2500], by decide +kernel⟩

/-- A state and operands that meet the hypotheses of clause 2 of `Obligations.CompletesThermal`. -/
theorem witness_CompletesThermal_2 : ∃ (s : State) (sensor : Fin 12) (late : Bool), s.pd ∧ (6 ≤ sensor.val ∨ s.cd) ∧
  s.sensorBroken sensor.val = false ∧ s.sensorFails sensor.val late :=
  ⟨up, 11, true, by decide +kernel⟩

/-- A state and operands that meet the hypotheses of clause 3 of `Obligations.CompletesThermal`. -/
theorem witness_CompletesThermal_3 : ∃ (s : State), s.pd ∧ s.th.frameLost = false ∧ s.past s.th.frameAt 10000 :=
  ⟨up, by decide +kernel⟩

/-- A state and operands that meet the hypotheses of clause 4 of `Obligations.CompletesThermal`. -/
theorem witness_CompletesThermal_4 : ∃ (s : State) (scope : Fin 4) (stage : Fin 5), s.pd ∧ (scope.val = 3 ∨ s.cd) ∧
  stage.val ∈ scopeStages scope.val ∧ s.gn O.throttleStage scope.val < stage.val ∧ 3 ≤ mget 0 (s.scope scope.val).hits
  stage.val :=
  ⟨(up.scopeUpd 3 fun x => { x with hits := [(4, 3)] }), 3, 4, by decide +kernel⟩

/-- A state and operands that meet the hypotheses of clause 5 of `Obligations.CompletesThermal`. -/
theorem witness_CompletesThermal_5 : ∃ (s : State) (scope : Fin 4) (stage : Fin 5), s.pd ∧ (scope.val = 3 ∨ s.cd) ∧
  stage.val ∈ scopeStages scope.val ∧ s.gn O.throttleStage scope.val = stage.val ∧ mhas (s.scope scope.val).below
  stage.val ∧ s.past (mget 0 (s.scope scope.val).below stage.val) 100000 :=
  ⟨((up.put O.throttleStage 3 4).scopeUpd 3 fun x => { x with below := [(4, 3)] }), 3, 4, by decide +kernel⟩

/-- A state and operands that meet the hypotheses of clause 6 of `Obligations.CompletesThermal`. -/
theorem witness_CompletesThermal_6 : ∃ (s : State), s.pd ∧ 3 ≤ s.gn O.throttleStage 3 ∧ s.shedDue :=
  ⟨up.put O.throttleStage 3 3, by decide +kernel⟩

/-- A state and operands that meet the hypotheses of clause 7 of `Obligations.CompletesThermal`. -/
theorem witness_CompletesThermal_7 : ∃ (s : State) (c : Nat × Bool × Nat), s.restorePick true = some c ∧ s.pd ∧ s.gn
  O.throttleStage 3 < 3 ∧ s.past s.th.restoreAt 10000000 :=
  ⟨(up.lswUpd 5 fun l => { l with shedThermal := true }), (up.gn O.loadSwitchPriority 5, false, 5), by decide +kernel⟩

/-- A state and operands that meet the hypotheses of clause 8 of `Obligations.CompletesThermal`. -/
theorem witness_CompletesThermal_8 : ∃ (s : State) (corrected : Nat), s.running ∧ s.past (max s.fw.scrubAt
  s.pwr.cdSince) 10000000 :=
  ⟨up, 3, by decide +kernel⟩

/-- A state and operands that meet the hypotheses of clause 9 of `Obligations.CompletesThermal`. -/
theorem witness_CompletesThermal_9 : ∃ (s : State) (conv : Fin 8) (ppm : Int), s.pd ∧ conv.val ∈ s.converters ∧
  s.calDue conv.val ∧ s.latchNear = false :=
  ⟨up, 4, -5000, by decide +kernel⟩

/-- A state and operands that meet the hypotheses of clause 10 of `Obligations.CompletesThermal`. -/
theorem witness_CompletesThermal_10 : ∃ (s : State) (c : Integrity), s.running ∧ s.flashOk ∧ s.past (max
  s.fw.integrityAt s.pwr.cdSince) 86400000000 :=
  ⟨up, ⟨[(0, 1)], true, [], true⟩, by decide +kernel⟩

/-- A state and operands that meet the hypotheses of clause 11 of `Obligations.CompletesThermal`. -/
theorem witness_CompletesThermal_11 : ∃ (s : State) (req : Req) (value : BitVec 32), s.takesWrite req
  O.deviceSelfTestRequest 0 ∧ s.ready ∧ s.shotGate 5 value.toNat false = none ∧ (value.toNat / 65536 ≠ 0) ∧
  (value.toNat % 65536 < 32) ∧ (value.toNat % 65536 ≠ 0) ∧ (s.deviceTestRuns (value.toNat % 65536)) :=
  ⟨ring3, rq, 0x1001F, by decide +kernel⟩

/-- A state and operands that meet the hypotheses of clause 12 of `Obligations.CompletesThermal`. -/
theorem witness_CompletesThermal_12 : ∃ (s : State) (found : TestFound) (q t : Nat), s.running ∧ ((s.shot 5).pending =
  some (q, t)) ∧ s.deviceTestRuns t ∧ s.deviceTestOver t :=
  ⟨(ring3.shotUpd 5 fun x => { x with pending := some (1, 3) }), ⟨true, 0, ⟨[], true, [], true⟩⟩, 1, 3,
    by decide +kernel⟩

/-! ### Witnesses for the statements of the rules -/

/-- The canonical form, computed. -/
def canonicalB (s : State) : Bool :=
  mwfFrom (keyDefault s.variant) none s.objs && mwfFrom (fun _ => {}) none s.drivers && mwfFrom (fun _ => {}) none s.ls &&
    mwfFrom (fun _ => {}) none s.motors && mwfFrom (fun _ => {}) none s.pairs && mwfFrom (fun _ => {}) none s.strs &&
    mwfFrom (fun _ => {}) none s.rings && mwfFrom (fun _ => {}) none s.monitors && mwfFrom (fun _ => {}) none s.cells &&
    mwfFrom (fun _ => {}) none s.temps && mwfFrom (fun _ => {}) none s.chans && mwfFrom (fun _ => {}) none s.shots

/-- What `canonicalB` finds is the canonical form. -/
theorem canonical_of (s : State) (h : canonicalB s = true) : s.canonical := by
  simp only [canonicalB, Bool.and_eq_true, and_assoc] at h
  exact h

/-- An outcome is a next state. -/
def isNext (o : Host.Outcome State Fault Refusal) : Bool :=
  match o with
  | .next _ => true
  | _ => false

/-- What `isNext` finds is a next state. -/
theorem next_of (o : Host.Outcome State Fault Refusal) (h : isNext o = true) : ∃ t, o = .next t := by
  cases o with
  | next t => exact ⟨t, rfl⟩
  | fault _ => exact absurd h Bool.false_ne_true
  | refused _ => exact absurd h Bool.false_ne_true

theorem witness_EmptyQueueTicks : (up.pending = [] ∧ up.pwr.started = true) ∧ State.reset.pending = [] ∧ State.reset.pwr.started = false := by
  decide +kernel

theorem witness_StepKeepsCanonical : ∃ s t : State, s.canonical ∧ step s = .next t := by
  obtain ⟨t, h⟩ := next_of (step { up with pending := [.tallyInstant 0] }) (by decide +kernel)
  exact ⟨_, t, canonical_of _ (by decide +kernel), h⟩

theorem witness_StepGoesOnwards : ∃ s t : State, step s = .next t := by
  obtain ⟨t, h⟩ := next_of (step { up with pending := [.tallyInstant 0] }) (by decide +kernel)
  exact ⟨_, t, h⟩

/-- The checks of a start that find nothing. -/
def quietChecks : StartupChecks :=
  { item0 := false, item1 := false, item2 := false, isaOffset := [], motorOffset := [], euFailed := [] }

/-- A start whose domain 8 ran on, and one that finds a time mark 60 s old. -/
theorem witness_StepGoesOnwards_2 : ∃ (s u : State) (c : StartupChecks), s.pending = [.startupComplete c] ∧
    s.clk.rtcRunning = true ∧ State.resumesAhead { s with pending := [] } c ∧ isNext (step s) = true ∧
    u.pending = [.startupComplete c] ∧ u.clk.rtcRunning = false ∧ State.resumesAhead { u with pending := [] } c ∧
    isNext (step u) = true := by
  refine ⟨{ up with pending := [.startupComplete quietChecks], fw := { up.fw with scanned := false } },
    { up with
      pending := [.startupComplete quietChecks]
      clk := { up.clk with rtcRunning := false, now := 60000005 }
      fw := { up.fw with scanned := false }
      flash := { up.flash with journal := [(16, ({ seq := 1, time := 5, payload := [0, 0, 0, 0] }, none))] } }, _, rfl, rfl, .inl rfl,
    by decide +kernel, rfl, rfl, .inr ⟨{ seq := 1, time := 5, payload := [0, 0, 0, 0] }, by decide +kernel, by decide +kernel⟩,
    by decide +kernel⟩

theorem witness_CommandsLeaveOutputs : ∃ (s t : State) (c : Instr), leavesOutputs c = true ∧ exec c s = .next t := by
  obtain ⟨t, h⟩ := next_of (exec (.tallyInstant 0) up) (by decide +kernel)
  exact ⟨up, t, .tallyInstant 0, by decide +kernel, h⟩

theorem witness_UntrustedOutputsStay : (up.trusts && up.berthOk) = false ∧
    ∀ c ∈ [Sys2Proof.Instr.outputRequest (.energise 0), .loadSwitchCmdOff rq 0, .loadSwitchCmdOn rq 15, .loadSwitchCmdPwm rq 3, .lsFaultClear rq 1,
      .motorSpeedCommand rq 0 500, .motorFaultClear rq 1, .brakeFaultClear rq 1], isNext (exec c up) = true := by
  decide +kernel

theorem witness_LoadSwitchFrame :
    ∀ c ∈ [Sys2Proof.Instr.loadSwitchCmdOff rq 0, .loadSwitchCmdOn rq 15, .loadSwitchCmdPwm rq 3], isNext (exec c trusting) = true := by
  decide +kernel

theorem witness_StoreThenRead : ∃ (s : State) (i sub j k : Nat), s.canonical ∧ sub < 65536 ∧ k < 65536 ∧ (j ≠ i ∨ k ≠ sub) :=
  ⟨ring3, 0x2000, 65535, 0x2001, 0, canonical_of _ (by decide +kernel), by decide, by decide, by decide⟩

theorem witness_RefusedWriteChangesNothing_1 : ∃ (s : State) (c : Instr) (req : Req) (i k : Nat), asWrite c = some (req, i, k) ∧
    s.running = true ∧ s.addressed req.dest = true ∧ s.writeGate i k (s.authOk req) ≠ 0 :=
  ⟨up, .mooredWatchCommand { rq with auth := false }, { rq with auth := false }, O.mooredCommand, 0, by decide +kernel⟩

theorem witness_RefusedWriteChangesNothing_2 : ∃ (s : State) (c : Instr) (req : Req) (i k : Nat), asWrite c = some (req, i, k) ∧
    (s.running = false ∨ s.addressed req.dest = false) :=
  ⟨State.reset, .mooredWatchCommand rq, rq, O.mooredCommand, 0, by decide +kernel⟩

/-- A standby, armed. -/
def standby : State := { paired with dup := { paired.dup with armed := true, up := true } }

theorem witness_StandbyRefusesOutputWrites_1 : ∀ c ∈ [Sys2Proof.Instr.stringClose rq 3, .stringOpen rq 0, .tripReset rq 1, .weldClear rq 1,
    .contactorOpenTestRequest rq 0x10000, .loadSwitchCmdOff rq 15, .loadSwitchCmdOn rq 0, .loadSwitchCmdPwm rq 1, .lsFaultClear rq 1,
    .motorSpeedCommand rq 3 500, .motorFaultClear rq 1, .brakeFaultClear rq 1],
    ∃ w, asWrite c = some w ∧ standby.running = true ∧ standby.addressed w.1.dest = true ∧ standby.lifecycle ≠ 4 ∧
      standby.existCheck w.2.1 w.2.2 = 0 ∧ standby.authOk w.1 = true ∧ standby.berthState = 3 := by
  intro c hc
  simp only [List.mem_cons, List.not_mem_nil, or_false] at hc
  rcases hc with rfl | rfl | rfl | rfl | rfl | rfl | rfl | rfl | rfl | rfl | rfl | rfl <;> exact ⟨_, rfl, by decide +kernel⟩

/-- A standby, not armed, and a device in lockout. -/
theorem witness_StandbyRefusesOutputWrites_2 : paired.berthState = 4 ∧
    State.berthState { paired with dup := { paired.dup with claim := .lockout } } = 5 := by
  decide +kernel

/-- An untagged WRITE of one element. -/
def elementReq (i sub : Nat) (data : List Byte) : QlpFrame :=
  qf 2 ([0] ++ le 2 i ++ le 2 sub ++ le 2 1 ++ le 4 data.length ++ data)

theorem witness_StandbyRefusesOutputWrites_3 : ∀ p ∈ [(O.stringCommand, 3, 1), (O.tripReset, 0, 1), (O.contactorOpenTestRequest, 0, 4),
    (O.loadSwitchCommand, 15, 1), (O.loadSwitchPwmDuty, 0, 2), (O.loadSwitchPwmFrequency, 15, 2), (O.lsFaultClear, 0, 2),
    (O.motorSpeedCommand, 3, 2), (O.motorFaultClear, 0, 1), (O.brakeFaultClear, 0, 1)],
    let f := elementReq p.1 p.2.1 (le p.2.2 1)
    standby.takesRequest f 2 ∧ reqSegmented f = false ∧ reqTagged f = false ∧ reqIndex f = p.1 ∧
      (standby.asked f).rangeExists (reqIndex f) (reqSub f) (reqCount f) = (0, reqSub f) ∧ (standby.asked f).berthState = 3 := by
  decide +kernel

/-- A tagged WRITE of `WeldClear` by the node of the open session, with its MAC. -/
def weldClearReq : QlpFrame :=
  let f := qf 2 ([1] ++ le 2 O.weldClear ++ le 2 0 ++ le 2 1 ++ le 4 14 ++ [1, 0] ++ le 4 1)
  { f with msg := f.msg ++ reqMac f [1, 2, 3] [1, 0] 1 }

theorem witness_StandbyRefusesOutputWrites_4 : standby.takesRequest weldClearReq 2 ∧ reqTagged weldClearReq = true ∧
    (standby.asked weldClearReq).rangeExists O.weldClear 0 1 = (0, 0) ∧
    (State.tagCheck (standby.asked weldClearReq) weldClearReq (reqData weldClearReq) 0x0302 fun _ => true).2 = 0 := by
  decide +kernel

/-- A request for index 0xF000. -/
def testIndex (op : Byte) (flags : Byte) (data : List Byte) : QlpFrame :=
  qf op ([flags, 0, 0xF0] ++ le 2 0 ++ le 2 1 ++ le 4 data.length ++ data)

/-- RETIRED. -/
def retired : State := { up with otp := { up.otp with retired := true, commissioned := true } }

theorem witness_TestIndicesAnswer0101 :
    (∃ (s : State) (f : QlpFrame), 0xF000 ≤ reqIndex f ∧ s.fresh f ∧ s.admits f 1 ∧ (s.asked f).lifecycle = 4) ∧
    (∃ (s : State) (f : QlpFrame), 0xF000 ≤ reqIndex f ∧ s.fresh f ∧ s.admits f 2 ∧ reqSegmented f = false ∧ reqTagged f = false) ∧
    (∃ (s : State) (f : QlpFrame), 0xF000 ≤ reqIndex f ∧ s.fresh f ∧ s.admits f 2 ∧ 12 + reqLen f ≤ f.msg.length ∧
      reqTagged f = true) :=
  ⟨⟨retired, testIndex 1 0 [], by decide +kernel⟩, ⟨up, testIndex 2 0 [1], by decide +kernel⟩,
    ⟨up, testIndex 2 1 (List.replicate 12 0), by decide +kernel⟩⟩

/-- A response to `readReq` is kept. -/
def answered : State :=
  { up with qlp := { up.qlp with
    kept := [{ link := 0, src := 5, dest := 0, seq := 1, request := readReq.msg, response := [1], at' := 1000000000000 }] } }

/-- A transfer of node 5 is open with SEQ 1. -/
def transferring : State := { up with qlp := { up.qlp with transfers := [writing] } }

theorem witness_RetransmissionsAnsweredOnce_1 : (answered.asked readReq).keptFor readReq = some
    { link := 0, src := 5, dest := 0, seq := 1, request := readReq.msg, response := [1], at' := 1000000000000 } ∧
    answered.admits readReq 1 := by
  decide +kernel

theorem witness_RetransmissionsAnsweredOnce_2 : (transferring.asked readReq).keptFor readReq = none ∧
    ((transferring.asked readReq).qlp.transfers.any fun t => t.link == 0 && t.src == 5 && t.seq == 1) = true ∧
    transferring.admits readReq 1 := by
  decide +kernel

/-- A kept response of the link, with the request's source, destination, SEQ and payload, 1 µs younger than 2 s. -/
theorem witness_RetransmissionsAnsweredOnce_4 : ∃ (s : State) (k : KeptResp), k ∈ s.qlp.kept ∧ k.link = readReq.link.val ∧
    k.src = readReq.src ∧ k.dest = readReq.dest ∧ k.seq = readReq.seq ∧ k.request = readReq.msg ∧ s.mono < k.at' + 2000000 ∧
    k.at' + 2000000 = s.mono + 1 :=
  ⟨{ answered with clk := { answered.clk with mono := 1000001999999 } },
    { link := 0, src := 5, dest := 0, seq := 1, request := readReq.msg, response := [1], at' := 1000000000000 }, by decide +kernel⟩

theorem witness_RetransmissionsAnsweredOnce_3 : (up.qlp.kept.filter fun k => k.link == 2).length ≤ 8 := by decide +kernel

theorem witness_RetiredAnswers0405 :
    (∀ op ∈ [(1 : Byte), 2], ∃ f, (retired.fresh f ∧ (retired.asked f).lifecycle = 4 ∧ reqIndex f < 0xF000 ∧ retired.admits f op.toNat ∧
      ¬ (0x1000 ≤ reqIndex f ∧ reqIndex f ≤ 0x10FF) ∧ reqIndex f ≠ O.tombstone)) ∧
    (∀ op ∈ [(0x10 : Byte), 0x11, 0x12, 0x20], ∃ f, (retired.fresh f ∧ (retired.asked f).lifecycle = 4 ∧ reqIndex f < 0xF000 ∧
      retired.admits f op.toNat)) := by
  refine ⟨fun op h => ⟨qf op ([0] ++ le 2 O.lighthousePeriod ++ le 2 0 ++ le 2 1 ++ le 4 0), ?_⟩,
    fun op h => ⟨qf op ([0] ++ le 2 0 ++ le 2 0 ++ le 2 0 ++ le 4 0), ?_⟩⟩
  · simp only [List.mem_cons, List.not_mem_nil, or_false] at h
    rcases h with rfl | rfl <;> decide +kernel
  · simp only [List.mem_cons, List.not_mem_nil, or_false] at h
    rcases h with rfl | rfl | rfl | rfl <;> decide +kernel

theorem witness_MessagesArePadded : ∃ (o : Out) (f : QlpFrame), o.payload.length ≤ 64 ∧ 12 + reqLen f ≤ f.msg.length :=
  ⟨{ cls := 9, dest := 5, src := 0, seq := 1, prio := 4, payload := List.replicate 13 1 }, writeReq, by decide +kernel⟩

theorem witness_FrameHeadersReadBack :
    (∃ f : QlpFrame, f.link.val < 2 ∧ f.ident = canId 7 63 127 127 63) ∧
    ∃ f : QlpFrame, 2 ≤ f.link.val ∧ f.msg.length < 65536 ∧ f.head = datagramHead 7 63 127 127 63 f.msg.length :=
  ⟨⟨{ link := 1, ident := canId 7 63 127 127 63, msg := [] }, by decide +kernel⟩, ⟨dgram 7 63 127 127 63 [1], by decide +kernel⟩⟩

theorem witness_StoredLayouts_1 : (LogRec.mk 1 0 0 0 0 false false false 1 0 (List.replicate 228 1) 0).payload.length ≤ 228 := by
  decide +kernel

theorem witness_StoredLayouts_4 : ∃ (r : LogRec) (k : Nat), r.payload.length ≤ 228 ∧ 24 + r.payload.length ≤ k ∧ k < 4 * r.units - 4 :=
  ⟨{ payload := [1] }, 27, by decide +kernel⟩

theorem witness_StoredLayouts_2 : LogPage.used { recs := List.replicate 145 {} } ≤ 4080 ∧
    (16 + LogPage.used { recs := List.replicate 145 {} } ≤ 4095) := by
  decide +kernel

theorem witness_StoredLayouts_3 : ∃ r : JRec, r.payload.length + 28 < 2 ^ 32 ∧ r.payload.length + 28 ≤ (r.bytes 1 3).length - 1 :=
  ⟨{ payload := [1] }, by decide +kernel⟩

/-- A write of a routing word that reaches the device. -/
abbrev routes (s : State) (source : Byte) : Prop := s.takesWrite rq O.eventRoute source.toNat

theorem witness_RoutingWordWrites_1 : ∃ (s : State) (source : Byte), s.canonical ∧ routes s source ∧ sourceLocked source.toNat = true :=
  ⟨up, 0x40, canonical_of _ (by decide +kernel), by decide +kernel⟩

theorem witness_RoutingWordWrites_2 : ∃ (s : State) (source : Byte) (value : BitVec 32), s.canonical ∧ routes s source ∧
    sourceLocked source.toNat = false ∧ bits value.toNat 31 20 ≠ 0 :=
  ⟨up, 0xD5, 0x100000, canonical_of _ (by decide +kernel), by decide +kernel⟩

theorem witness_RoutingWordWrites_3 : ∃ (s : State) (source : Byte) (value : BitVec 32), s.canonical ∧ routes s source ∧
    sourceLocked source.toNat = false ∧ bits value.toNat 31 20 = 0 ∧ bits value.toNat 7 1 = 0 ∧ s.allOpen = false :=
  ⟨up.put O.stringContactorState 3 6, 0xD5, 0x800, canonical_of _ (by decide +kernel), by decide +kernel⟩

theorem witness_RoutingWordWrites_4 : ∃ (s : State) (source : Byte) (value : BitVec 32), s.canonical ∧ routes s source ∧
    sourceLocked source.toNat = false ∧ bits value.toNat 31 20 = 0 ∧ bits value.toNat 7 1 = 0 ∧ s.allOpen = true ∧
    s.variant = .qb1024 ∧ bits value.toNat 19 18 ≠ 0 :=
  ⟨{ up with variant := .qb1024 }, 0xD5, 0x40000, canonical_of _ (by decide +kernel), by decide +kernel⟩

theorem witness_RoutingWordWrites_5 : ∃ (s : State) (source : Byte) (value : BitVec 32), s.canonical ∧ routes s source ∧
    sourceLocked source.toNat = false ∧ bits value.toNat 31 20 = 0 ∧ bits value.toNat 7 1 = 0 ∧ s.allOpen = true ∧
    s.variant = .qb2048 :=
  ⟨up, 0xD5, 0xFFF01, canonical_of _ (by decide +kernel), by decide +kernel⟩

/-- The tally runs. -/
def ticking : State := { up with fw := { up.fw with ticking := true, tally := 0xFFFFFFFF } }

theorem witness_TallyIndexCounts_1 : up.running = true ∧ up.fw.ticking = false := by decide +kernel

theorem witness_TallyIndexCounts_2 : ∃ s : State, s.running = true ∧ s.fw.ticking = true ∧ s.fw.tallyTime + s.fw.period ≤ s.now :=
  ⟨{ ticking with clk := { ticking.clk with now := 1000 } }, by decide +kernel⟩

theorem witness_TallyIndexCounts_3 : ticking.running = true ∧ ticking.fw.ticking = true ∧
    ticking.now < ticking.fw.tallyTime + ticking.fw.period := by
  decide +kernel

theorem witness_StaleCounts : (State.cell (ring3.cellUpd 1536 fun x => { x with fresh := true }) 1536).fresh = true ∧
    (ring3.cell 1536).fresh = false := by
  decide +kernel

theorem witness_ExceedanceCounts : ∃ (s : State) (c : Nat), s.canonical ∧ (s.cell c).fresh = true ∧
    s.gn O.cellOvTrip (cellRing c) ≤ (s.cell c).word :=
  ⟨ring3.cellUpd 1536 fun x => { x with fresh := true, word := 65535 }, 1536, canonical_of _ (by decide +kernel), by decide +kernel⟩

theorem witness_RepliesCarryTheirCrc : State.judgeReply (answering 0x01 []) 3 false (reply 0x81 identBytes) false = .good 1 1 false := by
  decide +kernel

theorem witness_SafeOffRefusesEnergise : ∃ s : State, s.pd = true ∧ s.safeOff (s.stringOf 11) = true :=
  ⟨{ up with pairs := [] }, by decide +kernel⟩

theorem witness_TripResetRefused : ∃ (s : State) (mask : Byte) (n : Nat), s.takesWrite rq O.tripReset 0 ∧ mask.toNat < 16 ∧
    n < 4 ∧ bit mask.toNat n = true ∧ s.has n = true ∧ (s.tagSeen rq).tripCausePresent n = true :=
  ⟨{ up with pairs := [] }, 0xF, 3, by decide +kernel⟩

theorem witness_ThermalLatches : ∃ s u : State, (s.canonical ∧ s.pd = true ∧ (s.lsw 15).latch = false) ∧
    u.canonical ∧ u.pd = true ∧ (u.lsw 15).latch = true :=
  ⟨up, up.lswUpd 15 fun l => { l with latch := true }, ⟨canonical_of _ (by decide +kernel), by decide +kernel⟩,
    canonical_of _ (by decide +kernel), by decide +kernel⟩

theorem witness_DecelerationHeld_1 : ∃ (s : State) (mV : Nat), s.canonical ∧ s.pd = true ∧ s.vmot.hold = false ∧
    s.gn O.vmotRampHoldLevel 0 < s.converted 7 mV (s.gn O.vmotVoltage 0) := ⟨up, 100000, canonical_of _ (by decide +kernel), by decide +kernel⟩

theorem witness_DecelerationHeld_2 : ∃ (s : State) (mV : Nat), s.canonical ∧ s.pd = true ∧ s.vmot.hold = true ∧
    s.converted 7 mV (s.gn O.vmotVoltage 0) + 1000 < s.gn O.vmotRampHoldLevel 0 := ⟨{ up with vmot := { up.vmot with hold := true } }, 20000, canonical_of _ (by decide +kernel), by decide +kernel⟩

theorem witness_DecelerationHeld_3 : ∃ (s : State), s.canonical ∧ (s.mot 3).decelHeld = true ∧
    isNext (exec (.motorSpeedLoop 3 0) s) = true :=
  ⟨up.motUpd 3 fun m => { m with decelHeld := true, st := 3, ref := 500000 }, canonical_of _ (by decide +kernel), by decide +kernel⟩

/-- Both claims stand. -/
def clashing (pref : Bool) : State := { holding with dup := { holding.dup with berthIn := true, pref := pref } }

theorem witness_ConflictWithdraws : ∀ p : Bool, (clashing p).pd = true ∧ (clashing p).dup.mode ≠ 0 ∧ (clashing p).dup.claim = .held ∧
    (clashing p).dup.berthIn = true ∧ (clashing p).past (clashing p).dup.berthAt (if (clashing p).dup.pref then 100 else 10) = true := by
  decide +kernel

theorem witness_DeviceResetCommand_1 : ∃ s : State, s.takesWrite rq O.deviceResetCommand 0 ∧ ∃ d < 12, (s.drv d).energised = true :=
  ⟨up.drvUpd 11 fun v => { v with energised := true }, by decide +kernel⟩

theorem witness_DeviceResetCommand_2 : ∃ s : State, s.takesWrite rq O.deviceResetCommand 0 ∧ ∀ d < 12, (s.drv d).energised = false :=
  ⟨up, by decide +kernel⟩

theorem witness_MooredCommandChecks_1 : retired.running = true ∧ retired.addressed rq.dest = true ∧ retired.lifecycle = 4 := by
  decide +kernel

theorem witness_MooredCommandChecks_2 : ∃ s : State, s.takesWrite rq O.mooredCommand 0 ∧ s.allOpen = false :=
  ⟨up.put O.stringContactorState 0 1, by decide +kernel⟩

theorem witness_MooredCommandChecks_3 : ∃ s : State, s.takesWrite rq O.mooredCommand 0 ∧ s.allOpen = true ∧
    s.otest.string.isSome = true := ⟨{ up with otest := { up.otest with string := some 0 } }, by decide +kernel⟩

theorem witness_MooredCommandChecks_4 : ∃ s : State, s.takesWrite rq O.mooredCommand 0 ∧ s.allOpen = true ∧ s.dup.mode ≠ 0 ∧
    s.dup.out = true ∧ s.dup.up = true := ⟨{ holding with dup := { holding.dup with up := true } }, by decide +kernel⟩

theorem witness_MooredCommandChecks_5 : ∃ s : State, s.takesWrite rq O.mooredCommand 0 ∧ s.allOpen = true ∧ s.otest.string = none ∧
    s.pwr.mooring = .none ∧ s.dup.mode = 0 := ⟨up, by decide +kernel⟩

theorem witness_LogClearRefused_1 : ∃ (s : State) (req : Req), s.running = true ∧ s.addressed req.dest = true ∧ s.lifecycle ≠ 4 ∧
    s.authOk req = false := ⟨up, { rq with auth := false }, by decide +kernel⟩

theorem witness_LogClearRefused_2 : ∃ s : State, s.running = true ∧ s.addressed rq.dest = true ∧ s.lifecycle ≠ 4 ∧ s.authOk rq = true ∧
    s.lifecycle ≠ 1 ∧ s.lifecycle ≠ 3 := ⟨up, by decide +kernel⟩

theorem witness_LogClearRefused_3 : ∃ s : State, s.running = true ∧ s.addressed rq.dest = true ∧ s.lifecycle ≠ 4 ∧ s.authOk rq = true ∧
    s.lifecycle = 1 ∧ ¬ (16000 ≤ s.pwr.vauxMv ∧ s.pwr.warning = false) :=
  ⟨{ inService with pwr := { inService.pwr with warning := true } }, by decide +kernel⟩

theorem witness_LogClearRefused_4 : ∃ (s : State) (code : BitVec 32), s.running = true ∧ s.addressed rq.dest = true ∧ s.lifecycle ≠ 4 ∧
    s.authOk rq = true ∧ s.lifecycle = 1 ∧ 16000 ≤ s.pwr.vauxMv ∧ s.pwr.warning = false ∧
    code.toNat ≠ crc32 (le 4 s.log.gen ++ le 4 (s.tagSeen rq).logOldest) := ⟨inService, 0, by decide +kernel⟩

theorem witness_StageFourOpens : ∃ s : State, s.canonical ∧ s.running = true ∧ s.pd = true ∧ s.gn O.throttleStage 3 < 4 ∧
    3 ≤ mget 0 (s.scope 3).hits 4 :=
  ⟨up.scopeUpd 3 fun x => { x with hits := [(4, 3)] }, canonical_of _ (by decide +kernel), by decide +kernel⟩

end Sys2Proof.Tests
end

section
/-! The device as shipped (R5): what the reset state reads. -/

namespace Sys2Proof.Machine

/-- R413: a device with neither fuse programmed is BLANK, whatever life-cycle record its journal holds. -/
theorem State.lifecycle_eq_zero_of_no_fuse (s : State) (hretired : s.otp.retired = false)
    (hcommissioned : s.otp.commissioned = false) : s.lifecycle = 0 := by
  simp [State.lifecycle, hretired, hcommissioned]

/-- R5: the factory ships the OTP store without a customer bit. -/
theorem State.reset_otp : State.reset.otp = {} := rfl

/-- R5: the one firmware slot with contents is slot A, which is active. -/
theorem State.reset_slot (k : Nat) : State.reset.slot k = if k = 0 then { st := 5 } else {} := by
  have hlisted : State.reset.slot k = if 0 = k then { st := 5 } else mget {} [] k := mget_cons _ _ _ _ _
  rw [hlisted, mget_nil]
  simp only [eq_comm]

/-- Settles O5: neither fuse is programmed, so the device is BLANK; slot A is the only slot the factory has written. -/
theorem resetAsShipped : Obligations.ResetAsShipped := by
  unfold Obligations.ResetAsShipped
  have hblank : State.reset.lifecycle = 0 :=
    State.reset.lifecycle_eq_zero_of_no_fuse (by rw [State.reset_otp]) (by rw [State.reset_otp])
  have hslotA : (State.reset.slot 0).st = 5 := by rw [State.reset_slot, if_pos rfl]
  have hslotB : (State.reset.slot 1).st = 0 := by rw [State.reset_slot, if_neg Nat.one_ne_zero]
  rw [State.reset_otp]
  exact ⟨hblank, hslotA, rfl, hslotB, rfl, rfl, rfl, rfl, rfl, rfl⟩

end Sys2Proof.Machine
end

section
/-! The empty queue (R26, R29): one microsecond of local time advances the clocks, and the work done in it leaves them alone,
but for the instant of the time mark of a moored entry (R404). -/

namespace Sys2Proof.Machine

/-- The induction over the changes of `forEach`: what each of them keeps, all of them keep. -/
theorem forEach_keeps {α : Type} (P : State → Prop) (l : List α) (s : State) (f : State → α → State) (hs : P s)
    (hf : ∀ t a, P t → P (f t a)) : P (forEach l s f) :=
  List.foldlRecOn l f hs fun t ht a _ => hf t a ht

theorem forEach_clk {α : Type} (l : List α) (s : State) (f : State → α → State) (hf : ∀ t a, (f t a).clk = t.clk) :
    (forEach l s f).clk = s.clk :=
  forEach_keeps (fun t => t.clk = s.clk) l s f rfl fun t a ht => (hf t a).trans ht

/-! #### The log -/

@[simp] theorem State.logStage_clk (s : State) (r : LogRec) : (s.logStage r).clk = s.clk := by
  unfold State.logStage
  split
  · rfl
  · exact State.bump_clk _ _ _

@[simp] theorem State.logSeal_clk (s : State) : s.logSeal.clk = s.clk := by
  unfold State.logSeal
  split
  · rfl
  · exact State.logStage_clk _ _

@[simp] theorem State.logInternal_clk (s : State) (code sev : Nat) (p : List Byte) : (s.logInternal code sev p).clk = s.clk :=
  (State.logStage_clk _ _).trans s.logSeal_clk

@[simp] theorem State.logReclaimed_clk (s : State) (p : LogPage) : (s.logReclaimed p).clk = s.clk := by
  unfold State.logReclaimed
  extract_lets t
  split
  · exact State.bump_clk _ _ _
  · exact (State.logInternal_clk _ _ _ _).trans (State.bump_clk _ _ _)

@[simp] theorem State.logDropReport_clk (s : State) : s.logDropReport.clk = s.clk := by
  simp [State.logDropReport, apply_ite State.clk]

@[simp] theorem State.logOpenPage_clk (s : State) (r : LogRec) : (s.logOpenPage r).clk = s.clk := by
  unfold State.logOpenPage
  split
  · exact State.bump_clk _ _ _
  · rename_i old _
    cases old with
    | none => simp [apply_ite State.clk, State.erase_clk]
    | some p => simp [apply_ite State.clk, State.erase_clk]

@[simp] theorem State.logReadBack_clk (n : Nat) (s : State) (r : LogRec) : (State.logReadBack n s r).clk = s.clk := by
  induction n generalizing s with
  | zero => rfl
  | succ n ih =>
    unfold State.logReadBack
    split
    · rfl
    · exact (ih _).trans ((State.logOpenPage_clk _ _).trans (State.replaceSectors_clk _ _ _))

@[simp] theorem State.logVerify_clk (s : State) (r : LogRec) : (s.logVerify r).clk = s.clk := State.logReadBack_clk _ _ _

@[simp] theorem State.logProgramRec_clk (s : State) (r : LogRec) : (s.logProgramRec r).clk = s.clk := by
  unfold State.logProgramRec
  split
  · simp
  · extract_lets p
    split <;> simp

@[simp] theorem State.logProgramN_clk (fuel : Nat) (s : State) : (State.logProgramN fuel s).clk = s.clk := by
  induction fuel generalizing s with
  | zero => unfold State.logProgramN; rfl
  | succ n ih =>
    unfold State.logProgramN
    split
    · rfl
    · rfl
    · rename_i h _
      cases h
      exact (ih _).trans (State.logProgramRec_clk _ _)

@[simp] theorem State.logProgramNow_clk (s : State) : s.logProgramNow.clk = s.clk := by
  unfold State.logProgramNow
  split
  · exact State.logProgramN_clk _ _
  · rfl

@[simp] theorem State.logFlush_clk (s : State) (reason : Nat) : (s.logFlush reason).clk = s.clk := by
  simp [State.logFlush]

/-! #### What goes on with local time alone -/

@[simp] theorem State.linkUs_clk (s : State) : s.linkUs.clk = s.clk := rfl

@[simp] theorem State.mirrorOutputs_clk (s : State) : s.mirrorOutputs.clk = s.clk := by
  unfold State.mirrorOutputs
  split <;> rfl

@[simp] theorem State.dupTransmit_clk (s : State) : s.dupTransmit.clk = s.clk := by
  unfold State.dupTransmit
  split <;> rfl

@[simp] theorem State.ethGone_clk (s : State) (o : Out) : (s.ethGone o).clk = s.clk := by
  unfold State.ethGone
  extract_lets t
  split <;> rfl

@[simp] theorem State.highWater_clk (s : State) (ch : Nat) : (s.highWater ch).clk = s.clk := by
  unfold State.highWater
  extract_lets n
  split <;> rfl

@[simp] theorem State.refill_clk (s : State) (link : Nat) : (s.refill link).clk = s.clk := by
  unfold State.refill
  split
  · exact State.highWater_clk _ _
  · rfl

@[simp] theorem State.ethSend_clk (s : State) : s.ethSend.clk = s.clk := by
  unfold State.ethSend
  split
  · exact State.ethGone_clk _ _
  · exact (State.refill_clk _ _).trans (State.ethGone_clk _ _)
  · rfl

@[simp] theorem State.stageTime_clk (s : State) : s.stageTime.clk = s.clk := by
  unfold State.stageTime
  split
  · rfl
  · exact forEach_clk _ _ _ fun _ _ => rfl

@[simp] theorem State.fabricRuns_clk (s : State) : s.fabricRuns.clk = s.clk := by
  unfold State.fabricRuns
  split
  · rfl
  · exact forEach_clk _ _ _ fun _ _ => rfl

@[simp] theorem State.tamperCommit_clk (s : State) : s.tamperCommit.clk = s.clk := by
  unfold State.tamperCommit
  extract_lets kept
  split
  · exact State.journal_clk _ _ _ _ _
  · rfl

theorem State.newChallenge_clk {s t : State} {c : List Byte} (h : s.newChallenge = some (t, c)) : t.clk = s.clk := by
  simp only [State.newChallenge, Option.map_eq_some_iff, Prod.mk.injEq] at h
  obtain ⟨u, hu, rfl, -⟩ := h
  change u.clk = s.clk
  split_ifs at hu <;> obtain rfl := Option.some.inj hu
  · rfl
  · rw [State.journal_clk]

@[simp] theorem State.queueTo_clk (s : State) (r p order type : Nat) (payload : List Byte) :
    (s.queueTo r p order type payload).clk = s.clk := by
  unfold State.queueTo
  split <;> rfl

@[simp] theorem State.authStart_clk (s : State) (r p : Nat) : (s.authStart r p).clk = s.clk := by
  unfold State.authStart
  split
  · rename_i h
    exact (State.queueTo_clk _ _ _ _ _ _).trans ((State.monUpd_clk _ _ _).trans (State.newChallenge_clk h))
  · rfl
  · rfl

@[simp] theorem State.authResume_clk (s : State) : s.authResume.clk = s.clk := by
  unfold State.authResume
  split
  · rfl
  · exact forEach_clk _ _ _ fun _ _ => State.authStart_clk _ _ _

/-- R303: a time mark notes the local time at which it was made. -/
theorem State.timeMark_clk (s : State) (worn : Bool) : (s.timeMark worn).clk = { s.clk with markAt := s.mono } := by
  simp [State.timeMark, State.ranWork, State.mono, State.journal_clk]

/-- R404: the commits of a moored entry leave only the time mark's own instant in the clock. -/
theorem State.moorCommit_clk (s : State) : s.moorCommit.clk = { s.clk with markAt := s.mono } := by
  simp only [State.moorCommit, forEach_clk, State.journal_clk, State.timeMark_clk, implies_true]

/-- R404: the flash work of a moored entry leaves the clock as it is, or notes the instant of its time mark. -/
theorem State.moorWork_clk (s : State) : s.moorWork.clk = s.clk ∨ s.moorWork.clk = { s.clk with markAt := s.mono } := by
  unfold State.moorWork
  split
  · exact .inl rfl
  · split
    · exact .inr (State.moorCommit_clk _)
    · split
      · exact .inl (State.logFlush_clk _ _)
      · exact .inl rfl

@[simp] theorem State.moorWork_mono (s : State) : s.moorWork.clk.mono = s.clk.mono := by
  rcases s.moorWork_clk with h | h <;> rw [h]

@[simp] theorem State.moorWork_now (s : State) : s.moorWork.clk.now = s.clk.now := by
  rcases s.moorWork_clk with h | h <;> rw [h]

/-- R29, R305: in one microsecond of local time device time goes on by 0, 1 or 2 µs. -/
theorem State.passUs_time (s : State) : s.passUs.clk.mono = s.clk.mono + 1 ∧ s.clk.now ≤ s.passUs.clk.now :=
  ⟨rfl, Nat.le_add_right _ _⟩

/-- R301: one Ethernet frame leaves where the port is up. -/
theorem State.ethSend_ite_clk (s : State) (c : Bool) : (if c then s.ethSend else s).clk = s.clk := by
  split
  · exact s.ethSend_clk
  · rfl

/-- R29, R396: while the oscillators run, the clocks stand after the microsecond as `State.passUs` set them. -/
theorem State.tick_time (s : State) (h : s.pwr.started = true) :
    s.tick.clk.mono = s.clk.mono + 1 ∧ s.clk.now ≤ s.tick.clk.now := by
  simp only [State.tick, h, Bool.not_true, Bool.false_eq_true, if_false, State.authResume_clk, State.moorWork_mono,
    State.moorWork_now, State.tamperCommit_clk, State.fabricRuns_clk, State.stageTime_clk, State.ethSend_ite_clk,
    State.dupTransmit_clk, State.mirrorOutputs_clk, State.linkUs_clk]
  exact s.passUs_time

/-- R396: without the oscillators nothing happens. -/
theorem State.tick_of_not_started (s : State) (h : s.pwr.started = false) : s.tick = s := by
  simp [State.tick, h]

theorem step_of_empty (s : State) (h : s.pending = []) : step s = .next s.tick := by
  simp [step, h]

/-- Settles O2: `State.tick` is the whole step; only its first part, `State.passUs`, moves the clocks. -/
theorem emptyQueueTicks : Obligations.EmptyQueueTicks := by
  unfold Obligations.EmptyQueueTicks
  intro s hempty
  rw [step_of_empty s hempty]
  refine ⟨fun hstarted => ⟨s.tick, rfl, s.tick_time hstarted⟩, fun hoff => ?_⟩
  rw [s.tick_of_not_started hoff]

end Sys2Proof.Machine
end

section
/-! The commands that leave the power die's outputs as they are (R14). -/

namespace Sys2Proof.Machine

/-- R14: each command of `leavesOutputs` leaves the outputs, by its own law; no other command is asked about. -/
theorem exec_held_of_leavesOutputs {s₀ : State} (c : Instr) (s : State) (hc : leavesOutputs c = true) (hs : s.held s₀) :
    nextSat (exec c s) fun t => t.held s₀ := by
  cases c with
  | lockstepMismatch => exact execLockstepMismatch_held s hs
  | clockMonitorGate count1 count5 byDomain8 => exact execClockMonitorGate_held count1 count5 byDomain8 s hs
  | clockFaultRelease => exact execClockFaultRelease_held s hs
  | domain8Loss => exact execDomain8Loss_held s hs
  | interdieFrameReceived atPower f => exact execInterdieFrameReceived_held atPower f s hs
  | interdieLinkTimeout atPower => exact execInterdieLinkTimeout_held atPower s hs
  | interdieIdleSend fromPower => exact execInterdieIdleSend_held fromPower s hs
  | eventRouteWrite req source value => exact execEventRouteWrite_held req source value s hs
  | tableSetReloadDone set => exact execTableSetReloadDone_held set s hs
  | learnedDataCommit string worn => exact execLearnedDataCommit_held string worn s hs
  | weldStateCommit string worn => exact execWeldStateCommit_held string worn s hs
  | laneLost ring loss => exact execLaneLost_held ring loss s hs
  | laneRestored ring valid => exact execLaneRestored_held ring valid s hs
  | tallyTrigger => exact execTallyTrigger_held s hs
  | tallyInstant busdetUv => exact execTallyInstant_held busdetUv s hs
  | sample ring bEnd frame => exact execSample_held ring bEnd frame s hs
  | comparatorSourceRaise ring kind number => exact execComparatorSourceRaise_held ring kind number s hs
  | hopMissing ring bEnd hop => exact execHopMissing_held ring bEnd hop s hs
  | trainEotReturned ring bEnd => exact execTrainEotReturned_held ring bEnd s hs
  | trainTimeout ring bEnd => exact execTrainTimeout_held ring bEnd s hs
  | returnPathCheck ring r => exact execReturnPathCheck_held ring r s hs
  | idleSlotLaunch ring bEnd => exact execIdleSlotLaunch_held ring bEnd s hs
  | ident ring bEnd frame => exact execIdent_held ring bEnd frame s hs
  | echoBack ring bEnd frame t0 t1 => exact execEchoBack_held ring bEnd frame t0 t1 s hs
  | configAck ring bEnd frame => exact execConfigAck_held ring bEnd frame s hs
  | status ring bEnd frame => exact execStatus_held ring bEnd frame s hs
  | balAck ring bEnd frame => exact execBalAck_held ring bEnd frame s hs
  | openWireResult ring bEnd frame => exact execOpenWireResult_held ring bEnd frame s hs
  | authResult ring bEnd frame => exact execAuthResult_held ring bEnd frame s hs
  | authMac ring bEnd frame => exact execAuthMac_held ring bEnd frame s hs
  | rejoinResult ring bEnd frame => exact execRejoinResult_held ring bEnd frame s hs
  | authReadDue ring pos => exact execAuthReadDue_held ring pos s hs
  | authRetry ring pos => exact execAuthRetry_held ring pos s hs
  | moduleAuthDue ring pos => exact execModuleAuthDue_held ring pos s hs
  | enumerationStart ring => exact execEnumerationStart_held ring s hs
  | enumerationWaitDone ring aIdle bIdle => exact execEnumerationWaitDone_held ring aIdle bIdle s hs
  | manifestMismatchReenumerate ring => exact execManifestMismatchReenumerate_held ring s hs
  | tallyPeriodApply => exact execTallyPeriodApply_held s hs
  | currentOutput string dsiBits isaCode => exact execCurrentOutput_held string dsiBits isaCode s hs
  | fastPathDebounceExpiry string => exact execFastPathDebounceExpiry_held string s hs
  | currentSampleDelivered string ch => exact execCurrentSampleDelivered_held string ch s hs
  | dsiStuckFault string => exact execDsiStuckFault_held string s hs
  | isaRangeFault string => exact execIsaRangeFault_held string s hs
  | currentFaultClear string ch => exact execCurrentFaultClear_held string ch s hs
  | crossCheckDisagree string => exact execCrossCheckDisagree_held string s hs
  | tempDwellEnd ring pos slot => exact execTempDwellEnd_held ring pos slot s hs
  | tempStaleTimeout ring pos input => exact execTempStaleTimeout_held ring pos input s hs
  | sweepComplete ring => exact execSweepComplete_held ring s hs
  | staleTrip ring cell => exact execStaleTrip_held ring cell s hs
  | deratingClear string code => exact execDeratingClear_held string code s hs
  | balancePlan => exact execBalancePlan_held s hs
  | openWireSuspect ring cell => exact execOpenWireSuspect_held ring cell s hs
  | openWireTestStart ring pos channel => exact execOpenWireTestStart_held ring pos channel s hs
  | openWireTestEvaluate ring pos => exact execOpenWireTestEvaluate_held ring pos s hs
  | openWireRetest ring pos => exact execOpenWireRetest_held ring pos s hs
  | openWireRotation ring pos channel => exact execOpenWireRotation_held ring pos channel s hs
  | openWireRequest req value => exact execOpenWireRequest_held req value s hs
  | openWireRequestDone => exact execOpenWireRequestDone_held s hs
  | captureArm req value => exact execCaptureArm_held req value s hs
  | captureTrigger req value => exact execCaptureTrigger_held req value s hs
  | captureFreeze => exact execCaptureFreeze_held s hs
  | euWorkItemClaim eu => exact execEuWorkItemClaim_held eu s hs
  | euUpdateComplete eu residueOk => exact execEuUpdateComplete_held eu residueOk s hs
  | euHandshakeTimeout eu => exact execEuHandshakeTimeout_held eu s hs
  | epochDeadline string => exact execEpochDeadline_held string s hs
  | estimationHeld string => exact execEstimationHeld_held string s hs
  | rateStepUp region => exact execRateStepUp_held region s hs
  | fabricKnownAnswerTest eu pass => exact execFabricKnownAnswerTest_held eu pass s hs
  | fabricSelfTestRequest req value => exact execFabricSelfTestRequest_held req value s hs
  | fabricSelfTestDone failed => exact execFabricSelfTestDone_held failed s hs
  | modelTableFileWrite req set file => exact execModelTableFileWrite_held req set file s hs
  | tableSetLoadDone set => exact execTableSetLoadDone_held set s hs
  | currentPlausibilityWindow string => exact execCurrentPlausibilityWindow_held string s hs
  | restPointFormed string => exact execRestPointFormed_held string s hs
  | stringDisagreementEnter string => exact execStringDisagreementEnter_held string s hs
  | channelAuditRepeat string => exact execChannelAuditRepeat_held string s hs
  | capLearnReportRequest req value => exact execCapLearnReportRequest_held req value s hs
  | capLearnReportDone => exact execCapLearnReportDone_held s hs
  | impedanceSnapshotRequest req value => exact execImpedanceSnapshotRequest_held req value s hs
  | impedanceSnapshotTimeout => exact execImpedanceSnapshotTimeout_held s hs
  | stringClose req string => exact execStringClose_held req string s hs
  | prechargeCooldownEnd string => exact execPrechargeCooldownEnd_held string s hs
  | closingDropTimeElapsed string => exact execClosingDropTimeElapsed_held string s hs
  | joinWaitTimeout string => exact execJoinWaitTimeout_held string s hs
  | breakMaxRepeat string => exact execBreakMaxRepeat_held string s hs
  | openingDropElapsed string => exact execOpeningDropElapsed_held string s hs
  | tripReset req mask => exact execTripReset_held req mask s hs
  | contactorOpenTestRequest req value => exact execContactorOpenTestRequest_held req value s hs
  | safetyConfigReadback upset => exact execSafetyConfigReadback_held upset s hs
  | qlpRead f => exact execQlpRead_held f s hs
  | sessionOpen f => exact execSessionOpen_held f s hs
  | sessionAuth f => exact execSessionAuth_held f s hs
  | sessionClose f => exact execSessionClose_held f s hs
  | timeSet f ageUs => exact execTimeSet_held f ageUs s hs
  | blockAck f => exact execBlockAck_held f s hs
  | blockAbort f => exact execBlockAbort_held f s hs
  | segmentTimeout link src => exact execSegmentTimeout_held link src s hs
  | sessionTimeout => exact execSessionTimeout_held s hs
  | nonceExpiry link src => exact execNonceExpiry_held link src s hs
  | authLockoutEnd => exact execAuthLockoutEnd_held s hs
  | qlpNodeIdWrite req value => exact execQlpNodeIdWrite_held req value s hs
  | canTxDone ch won sofDelay tdcNs => exact execCanTxDone_held ch won sofDelay tdcNs s hs
  | responseQueueTimeout link => exact execResponseQueueTimeout_held link s hs
  | canBusOff ch txErr rxErr busOff => exact execCanBusOff_held ch txErr rxErr busOff s hs
  | canBusOffRecovery ch => exact execCanBusOffRecovery_held ch s hs
  | canTimingApply ch => exact execCanTimingApply_held ch s hs
  | lighthouseDue ch => exact execLighthouseDue_held ch s hs
  | ptpSyncReceived sync interval16 master utcOffset => exact execPtpSyncReceived_held sync interval16 master utcOffset s hs
  | ptpHoldoverTimeout => exact execPtpHoldoverTimeout_held s hs
  | timeStepApply => exact execTimeStepApply_held s hs
  | timeMarkCommit worn => exact execTimeMarkCommit_held worn s hs
  | timeSetLockExpiry => exact execTimeSetLockExpiry_held s hs
  | eventAcknowledge req value => exact execEventAcknowledge_held req value s hs
  | streamSnapshotDue stream => exact execStreamSnapshotDue_held stream s hs
  | ethLinkUp fast full => exact execEthLinkUp_held fast full s hs
  | arpRequest targetIp sender => exact execArpRequest_held targetIp sender s hs
  | icmpEchoRequest len fragment sender => exact execIcmpEchoRequest_held len fragment sender s hs
  | manifestFileWrite req file => exact execManifestFileWrite_held req file s hs
  | manifestAdoptUids req mask => exact execManifestAdoptUids_held req mask s hs
  | configSave req => exact execConfigSave_held req s hs
  | handoverOffer tally tail => exact execHandoverOffer_held tally tail s hs
  | handoverRefuse tally tail => exact execHandoverRefuse_held tally tail s hs
  | handoverTaken tally tail => exact execHandoverTaken_held tally tail s hs
  | chainReq ring command latest tail => exact execChainReq_held ring command latest tail s hs
  | chainFwd ring decodedAt frame tail => exact execChainFwd_held ring decodedAt frame tail s hs
  | duplexTally index period time tail => exact execDuplexTally_held index period time tail s hs
  | hello h tail => exact execHello_held h tail s hs
  | ringDelays payload tail => exact execRingDelays_held payload tail s hs
  | duplexLinkDown => exact execDuplexLinkDown_held s hs
  | duplexLinkUp => exact execDuplexLinkUp_held s hs
  | berthHandOver req => exact execBerthHandOver_held req s hs
  | berthTake req => exact execBerthTake_held req s hs
  | berthRevert => exact execBerthRevert_held s hs
  | standbyTakeoverSweep ring => exact execStandbyTakeoverSweep_held ring s hs
  | logRecordSealTimeout => exact execLogRecordSealTimeout_held s hs
  | logProgram failing => exact execLogProgram_held failing s hs
  | logSuppressedReport => exact execLogSuppressedReport_held s hs
  | logClear req code => exact execLogClear_held req code s hs
  | logFlushLevel vauxMv => exact execLogFlushLevel_held vauxMv s hs
  | supplyRecovery vauxMv => exact execSupplyRecovery_held vauxMv s hs
  | powerOn vauxMv => exact execPowerOn_held vauxMv s hs
  | computeDieResetRelease => exact execComputeDieResetRelease_held s hs
  | chainWakeEnd ring => exact execChainWakeEnd_held ring s hs
  | watchdogEscalation => exact execWatchdogEscalation_held s hs
  | resetNAssert => exact execResetNAssert_held s hs
  | resetNRelease => exact execResetNRelease_held s hs
  | deviceResetCommand req value => exact execDeviceResetCommand_held req value s hs
  | mooredEntryComplete => exact execMooredEntryComplete_held s hs
  | tamperAcknowledge req mask => exact execTamperAcknowledge_held req mask s hs
  | firmwareBegin req => exact execFirmwareBegin_held req s hs
  | firmwareEraseDone => exact execFirmwareEraseDone_held s hs
  | firmwareChunkWrite req chunk bytes => exact execFirmwareChunkWrite_held req chunk bytes s hs
  | firmwareVerify req => exact execFirmwareVerify_held req s hs
  | firmwareActivate req => exact execFirmwareActivate_held req s hs
  | firmwareAbort req => exact execFirmwareAbort_held req s hs
  | dieSensorConversion readings => exact execDieSensorConversion_held readings s hs
  | dieSensorBroken sensor late => exact execDieSensorBroken_held sensor late s hs
  | throttleStageLeave scope stage => exact execThrottleStageLeave_held scope stage s hs
  | dieTempFrameTimeout => exact execDieTempFrameTimeout_held s hs
  | scrubPass corrected => exact execScrubPass_held corrected s hs
  | converterCalibration conv ppm => exact execConverterCalibration_held conv ppm s hs
  | integrityCheck c => exact execIntegrityCheck_held c s hs
  | deviceSelfTestRequest req value => exact execDeviceSelfTestRequest_held req value s hs
  | deviceSelfTestDone found => exact execDeviceSelfTestDone_held found s hs
  | ethLinkDown => exact execEthLinkDown_held s hs
  | duplexHelloSend => exact execDuplexHelloSend_held s hs
  | armingRefreshTimeout => exact execArmingRefreshTimeout_held s hs
  | _ => exact absurd hc Bool.false_ne_true

/-- Settles O8: the laws of the commands, each for the state that the command starts from. -/
theorem commandsLeaveOutputs : Obligations.CommandsLeaveOutputs := by
  unfold Obligations.CommandsLeaveOutputs
  intro s t c hc hexec
  exact exec_held_of_leavesOutputs c s hc s.held_refl t hexec

end Sys2Proof.Machine
end

section
/-! Output commands that the power die refuses (R14, R35). -/

namespace Sys2Proof.Machine

/-- R14: the power die does not trust the compute die, or its claim does not stand. -/
def State.refusesOutputs (s : State) : Prop := (s.trusts && s.berthOk) = false

theorem State.refusesOutputs.gate {s : State} (h : s.refusesOutputs) : (s.trusts && s.berthOk) = false := h

/-- The power die refuses output commands, and its outputs stand as in `s₀`. -/
def State.heldRefusing (s s₀ : State) : Prop := s.held s₀ ∧ s.refusesOutputs

theorem State.refuseOut_heldRefusing {s s₀ : State} (r : OutReq) (h : s.heldRefusing s₀) : (s.refuseOut r).heldRefusing s₀ :=
  ⟨State.refuseOut_held _ _ h.1, h.2⟩

theorem State.sayC_heldRefusing {s s₀ : State} (cls content : Nat) (h : s.heldRefusing s₀) : (s.sayC cls content).heldRefusing s₀ :=
  ⟨State.sayC_held _ _ _ h.1, h.2⟩

theorem State.put_heldRefusing {s s₀ : State} (i sub : Nat) (v : Int) (h : s.heldRefusing s₀) : (s.put i sub v).heldRefusing s₀ :=
  ⟨State.put_held _ _ _ _ h.1, h.2⟩

theorem State.tagSeen_heldRefusing {s s₀ : State} (req : Req) (h : s.heldRefusing s₀) : (s.tagSeen req).heldRefusing s₀ :=
  ⟨State.tagSeen_held _ _ h.1, by simpa [State.refusesOutputs] using h.2⟩

/-! #### What each request comes to where it is refused -/

section refused
variable {s : State} (h : s.refusesOutputs)
include h

theorem State.requestOn_refused (d : Nat) : s.requestOn d = s.refuseOut (.energise (Fin.ofNat 12 d)) := by
  have hno : s.mayEnergise d = false := by
    simp only [State.mayEnergise, Bool.and_assoc s.pd s.trusts, h.gate, Bool.and_false, Bool.false_and]
  simp [State.requestOn, hno]

theorem State.requestOff_refused (d : Nat) : s.requestOff d = s.refuseOut (.deenergise (Fin.ofNat 12 d)) := by
  simp [State.requestOff, h.gate]

theorem State.lsRequest_refused (n mode duty freq : Nat) :
    s.lsRequest n mode duty freq = if s.quiet then s else s.refuseOut (.loadSwitch (Fin.ofNat 16 n) mode duty freq) := by
  simp [State.lsRequest, h.gate]

theorem State.lsClearRequest_refused (n : Nat) : s.lsClearRequest n = s.refuseOut (.lsClear (Fin.ofNat 16 n)) := by
  simp [State.lsClearRequest, h.gate]

theorem State.mdRequest_refused (n rpm : Nat) :
    s.mdRequest n rpm = if s.quiet then s else s.refuseOut (.motor (Fin.ofNat 4 n) rpm) := by
  simp [State.mdRequest, h.gate]

theorem State.mdClearRequest_refused (n : Nat) : s.mdClearRequest n = s.refuseOut (.motorClear (Fin.ofNat 4 n)) := by
  simp [State.mdClearRequest, h.gate]

theorem State.brakeClearRequest_refused : s.brakeClearRequest = s.refuseOut .brakeClear := by
  simp [State.brakeClearRequest, h.gate]

end refused

/-! #### The requests leave the outputs -/

section held
variable {s s₀ : State} (h : s.heldRefusing s₀)
include h

theorem State.lsRequest_heldRefusing (n mode duty freq : Nat) : (s.lsRequest n mode duty freq).heldRefusing s₀ := by
  rw [State.lsRequest_refused h.2]
  split
  · exact h
  · exact State.refuseOut_heldRefusing _ h

theorem State.mdRequest_heldRefusing (n rpm : Nat) : (s.mdRequest n rpm).heldRefusing s₀ := by
  rw [State.mdRequest_refused h.2]
  split
  · exact h
  · exact State.refuseOut_heldRefusing _ h

theorem State.lsClearRequest_heldRefusing (n : Nat) : (s.lsClearRequest n).heldRefusing s₀ := by
  rw [State.lsClearRequest_refused h.2]
  exact State.refuseOut_heldRefusing _ h

theorem State.mdClearRequest_heldRefusing (n : Nat) : (s.mdClearRequest n).heldRefusing s₀ := by
  rw [State.mdClearRequest_refused h.2]
  exact State.refuseOut_heldRefusing _ h

theorem State.brakeClearRequest_heldRefusing : s.brakeClearRequest.heldRefusing s₀ := by
  rw [State.brakeClearRequest_refused h.2]
  exact State.refuseOut_heldRefusing _ h

/-- A request of the compute die is refused, or is one that the power die does not take up at all. -/
theorem outputRequest_held_of_refusing (r : OutReq) : nextSat (execOutputRequest r s) fun t => t.held s₀ := by
  refine doneIf_held _ _ _ (fun _ => ?_) h.1
  cases r with
  | energise d =>
    change (s.requestOn d.val).held s₀
    rw [State.requestOn_refused h.2]
    exact State.refuseOut_held _ _ h.1
  | deenergise d =>
    change (s.requestOff d.val).held s₀
    rw [State.requestOff_refused h.2]
    exact State.refuseOut_held _ _ h.1
  | loadSwitch n mode duty freq => exact (State.lsRequest_heldRefusing h _ _ _ _).1
  | motor n rpm => exact held_ite _ _ _ (fun _ => (State.mdRequest_heldRefusing h _ _).1) fun _ => h.1
  | lsClear n => exact (State.lsClearRequest_heldRefusing h _).1
  | motorClear n => exact held_ite _ _ _ (fun _ => (State.mdClearRequest_heldRefusing h _).1) fun _ => h.1
  | brakeClear => exact (State.brakeClearRequest_heldRefusing h).1

theorem State.lsCommand_held_of_refusing (n mode : Nat) : (s.lsCommand n mode).1.held s₀ :=
  (State.lsRequest_heldRefusing (State.sayC_heldRefusing _ _ (State.put_heldRefusing _ _ _ h)) _ _ _ _).1

theorem State.mdCommand_held_of_refusing (n rpm : Nat) : (s.mdCommand n rpm).1.held s₀ := by
  unfold State.mdCommand
  split
  · exact h.1
  · exact (State.mdRequest_heldRefusing (State.sayC_heldRefusing _ _ (State.put_heldRefusing _ _ _ h)) _ _).1

theorem State.lsFaultClear_held_of_refusing (mask : Nat) : (s.lsFaultClear mask).1.held s₀ :=
  (forEach_keeps (·.heldRefusing s₀) _ _ _ h fun _ n ht =>
    State.lsClearRequest_heldRefusing (State.sayC_heldRefusing _ _ ht) n).1

theorem State.mdFaultClear_held_of_refusing (mask : Nat) : (s.mdFaultClear mask).1.held s₀ := by
  unfold State.mdFaultClear
  split
  · exact h.1
  · split
    · exact h.1
    · exact (forEach_keeps (·.heldRefusing s₀) _ _ _ h fun _ n ht =>
        State.mdClearRequest_heldRefusing (State.sayC_heldRefusing _ _ ht) n).1

theorem State.brakeClear_held_of_refusing (value : Nat) : (s.brakeClear value).1.held s₀ := by
  unfold State.brakeClear
  split
  · exact h.1
  · exact held_ite _ _ _ (fun _ => (State.brakeClearRequest_heldRefusing (State.sayC_heldRefusing _ _ h)).1) fun _ => h.1

/-- A host's request leaves the outputs where its operation does so while the power die refuses. -/
theorem State.request_held_of_refusing (req : Req) (i sub : Nat) (op : State → State × Nat)
    (ho : ∀ t : State, t.heldRefusing s₀ → (op t).1.held s₀) : nextSat (s.request req i sub op) fun t => t.held s₀ := by
  have hseen : (s.tagSeen req).heldRefusing s₀ := State.tagSeen_heldRefusing req h
  unfold State.request
  extract_lets g r
  split
  · exact next_held _ h.1
  · split
    · exact next_held _ (State.answerW_held _ _ _ _ _ hseen.1)
    · exact next_held _ (State.answerW_held _ _ _ _ _ (ho _ hseen))

end held

/-- Settles O9: the power die refuses each request that such a command comes to, and a refusal only reports. -/
theorem untrustedOutputsStay : Obligations.UntrustedOutputsStay := by
  unfold Obligations.UntrustedOutputsStay
  intro s t c hno hc hexec
  have h : s.heldRefusing s := ⟨s.held_refl, hno⟩
  suffices hsat : nextSat (exec c s) fun t => t.held s from hsat t hexec
  rcases hc with ⟨r, rfl⟩ | ⟨req, n, rfl | rfl | rfl⟩ | ⟨req, m, rfl⟩ | ⟨req, n, rpm, rfl⟩ | ⟨req, m, rfl⟩ | ⟨req, v, rfl⟩
  · exact outputRequest_held_of_refusing h r
  · change nextSat (execLoadSwitchCmdOff req n s) _
    exact State.request_held_of_refusing h _ _ _ _ fun _ ht => State.lsCommand_held_of_refusing ht _ _
  · change nextSat (execLoadSwitchCmdOn req n s) _
    exact State.request_held_of_refusing h _ _ _ _ fun _ ht => State.lsCommand_held_of_refusing ht _ _
  · change nextSat (execLoadSwitchCmdPwm req n s) _
    exact State.request_held_of_refusing h _ _ _ _ fun _ ht => State.lsCommand_held_of_refusing ht _ _
  · change nextSat (execLsFaultClear req m s) _
    exact State.request_held_of_refusing h _ _ _ _ fun _ ht => State.lsFaultClear_held_of_refusing ht _
  · change nextSat (execMotorSpeedCommand req n rpm s) _
    exact State.request_held_of_refusing h _ _ _ _ fun _ ht => State.mdCommand_held_of_refusing ht _ _
  · change nextSat (execMotorFaultClear req m s) _
    exact State.request_held_of_refusing h _ _ _ _ fun _ ht => State.mdFaultClear_held_of_refusing ht _
  · change nextSat (execBrakeFaultClear req v s) _
    exact State.request_held_of_refusing h _ _ _ _ fun _ ht => State.brakeClear_held_of_refusing ht _

end Sys2Proof.Machine
end

section
/-! Writes of a routing word (R38, R39, R322). -/

namespace Sys2Proof.Machine

/-! #### A response changes no element but the links' high-water marks -/

theorem State.highWater_el (s : State) (ch i k : Nat) (hch : ch < 2) (hk : k < 65536) (hi : i ≠ O.canStats) :
    (s.highWater ch).el i k = s.el i k := by
  unfold State.highWater
  extract_lets n
  split
  · exact State.put_el_other _ _ _ _ _ _ (okey_ne (by omega) hk (.inl hi))
  · rfl

theorem State.txPush_el (s : State) (link : Nat) (o : Out) (i k : Nat) (hk : k < 65536) (hi : i ≠ O.canStats) :
    (s.txPush link o).el i k = s.el i k := by
  unfold State.txPush
  split
  · rename_i hlink
    exact State.highWater_el _ link i k hlink hk hi
  · rfl

theorem State.txResponse_el (s : State) (link : Nat) (o : Out) (i k : Nat) (hk : k < 65536) (hi : i ≠ O.canStats) :
    (s.txResponse link o).el i k = s.el i k := by
  unfold State.txResponse
  split
  · exact State.txPush_el _ _ _ _ _ hk hi
  · split <;> rfl

theorem State.answerW_el (s : State) (req : Req) (i sub status j k : Nat) (hk : k < 65536) (hj : j ≠ O.canStats) :
    (s.answerW req i sub status).el j k = s.el j k :=
  State.txResponse_el _ _ _ _ _ hk hj

/-! #### The checks of the write, in the order of R323 -/

section routeWrite
variable (s : State) (source v : Nat)

theorem State.routeWrite_locked (hlock : sourceLocked source = true) : s.routeWrite source v = (s, 0x0203) := by
  simp [State.routeWrite, hlock, refuse]

theorem State.routeWrite_reserved (hlock : sourceLocked source = false) (hres : bits v 31 20 ≠ 0 ∨ bits v 7 1 ≠ 0) :
    s.routeWrite source v = (s, 0x0305) := by
  simp [State.routeWrite, hlock, hres, refuse]

theorem State.routeWrite_notOpen (hlock : sourceLocked source = false) (hhigh : bits v 31 20 = 0) (hlow : bits v 7 1 = 0)
    (hopen : s.allOpen = false) : s.routeWrite source v = (s, 0x0401) := by
  simp [State.routeWrite, hlock, hhigh, hlow, hopen, refuse]

theorem State.routeWrite_absent (hlock : sourceLocked source = false) (hhigh : bits v 31 20 = 0) (hlow : bits v 7 1 = 0)
    (hopen : s.allOpen = true) (hvar : s.variant = .qb1024) (htrip : bits v 19 18 ≠ 0) :
    s.routeWrite source v = (s, 0x0301) := by
  simp [State.routeWrite, hlock, hhigh, hlow, hopen, hvar, htrip, refuse]

theorem State.routeWrite_stored (hlock : sourceLocked source = false) (hhigh : bits v 31 20 = 0) (hlow : bits v 7 1 = 0)
    (hopen : s.allOpen = true) (htrip : s.variant = .qb2048 ∨ bits v 19 18 = 0) :
    s.routeWrite source v = (s.put O.eventRoute source (v / 2 * 2 : Nat), 0) := by
  rcases htrip with hvar | hzero
  · simp [State.routeWrite, hlock, hhigh, hlow, hopen, hvar, accept]
  · simp [State.routeWrite, hlock, hhigh, hlow, hopen, hzero, accept]

end routeWrite

/-- What the command answers where its checks end in a state and a status. -/
theorem exec_eventRouteWrite (s t : State) (req : Req) (source : Byte) (value : BitVec 32) (st : Nat)
    (hreq : s.takesWrite req O.eventRoute source.toNat)
    (hrun : (s.tagSeen req).routeWrite source.toNat value.toNat = (t, st)) :
    exec (.eventRouteWrite req source value) s = .next (t.answerW req O.eventRoute source.toNat st) := by
  change execEventRouteWrite req source value s = _
  exact State.request_next _ _ _ _ _ _ _ hreq hrun

/-- Settles O20: the checks of `State.routeWrite` one by one; a stored word outlives the response. -/
theorem routingWordWrites : Obligations.RoutingWordWrites := by
  unfold Obligations.RoutingWordWrites
  intro s req source value hcanon hreq
  refine ⟨fun hlock => ?_, fun hlock hres => ?_, fun hlock hhigh hlow =>
    ⟨fun hopen => ?_, fun hopen hvar htrip => ?_, fun hopen htrip => ?_⟩⟩
  · exact exec_eventRouteWrite s _ req source value _ hreq (State.routeWrite_locked _ _ _ hlock)
  · exact exec_eventRouteWrite s _ req source value _ hreq (State.routeWrite_reserved _ _ _ hlock hres)
  · exact exec_eventRouteWrite s _ req source value _ hreq (State.routeWrite_notOpen _ _ _ hlock hhigh hlow (by simpa))
  · exact exec_eventRouteWrite s _ req source value _ hreq
      (State.routeWrite_absent _ _ _ hlock hhigh hlow (by simpa) (by simpa) htrip)
  · refine ⟨_, exec_eventRouteWrite s _ req source value _ hreq
      (State.routeWrite_stored _ _ _ hlock hhigh hlow (by simpa) (by simpa)), ?_⟩
    have hbyte : source.toNat < 65536 := lt_trans source.isLt (by decide)
    have heven : value.toNat / 2 * 2 = value.toNat - value.toNat % 2 := by omega
    rw [State.answerW_el _ _ _ _ _ _ _ hbyte (by decide), heven]
    exact State.putL_el_same _ _ _ _ (by simp [hcanon])

end Sys2Proof.Machine
end

section
/-! The claim withdrawn for a conflict (R25, R352). -/

namespace Sys2Proof.Machine

@[simp] theorem State.tell_dup (s : State) (src inst : Nat) : (s.tell src inst).dup = s.dup := by
  unfold State.tell
  split
  · exact State.raise_dup _ _ _ _
  · rfl

/-- R352: after a withdrawal `BERTH_OUT` is low and the claim holds the outputs, or is locked out. -/
theorem State.withdraw_claim (s : State) (reason : Nat) (lock : Bool) :
    (s.withdraw reason lock).dup.out = false ∧
      (s.withdraw reason lock).dup.claim = if lock then .lockout else .holding := by
  unfold State.withdraw
  extract_lets t u v
  rw [State.tell_dup]
  exact ⟨rfl, rfl⟩

/-- R352: a withdrawal for a conflict is a withdrawal; what follows it only reports. -/
theorem State.conflictWithdraw_dup (s : State) : ∃ (u : State) (lock : Bool), s.conflictWithdraw.dup = (u.withdraw 3 lock).dup := by
  unfold State.conflictWithdraw
  simp only [apply_ite State.dup, State.putL_dup, State.bump_dup, State.tell_dup, ite_self]
  exact ⟨_, _, rfl⟩

/-- Settles O29: past the bound the command withdraws the claim. -/
theorem conflictWithdraws : Obligations.ConflictWithdraws := by
  unfold Obligations.ConflictWithdraws
  intro s hpd hmode hheld hin hpast
  have hrun : exec .claimConflictWithdraw s = .next s.conflictWithdraw := by
    change execClaimConflictWithdraw s = _
    simp [execClaimConflictWithdraw, doneIf, hpd, hmode, hheld, hin, hpast]
  obtain ⟨u, lock, hdup⟩ := s.conflictWithdraw_dup
  obtain ⟨hout, hclaim⟩ := u.withdraw_claim 3 lock
  refine ⟨s.conflictWithdraw, hrun, hdup ▸ hout, ?_⟩
  rw [hdup, hclaim]
  cases lock
  · exact .inl rfl
  · exact .inr rfl

end Sys2Proof.Machine
end

section
/-! The CRC of a chain reply (R56). -/

namespace Sys2Proof.Machine

theorem crc32_checkValue : crc32 [0x31, 0x32, 0x33, 0x34, 0x35, 0x36, 0x37, 0x38, 0x39] = 0xCBF43926 := by
  decide +kernel

/-- R76: what a reply judged good has passed before its train is looked at. The judgement has one good case, behind the checks
of the CRC and of the header; every other case is a fault, a copy or a second reply. -/
theorem State.judgeReply_good {s : State} {r hop pos : Nat} {port sample b : Bool} {f : List Byte}
    (h : s.judgeReply r port f sample = .good hop pos b) :
    (8 ≤ f.length ∧ crc32 (f.take (f.length - 4)) = leAt f (f.length - 4) 4) ∧
      (bit (byteAt f 0).toNat 6 = true ∧ (byteAt f 0).toNat % 64 < 32 ∧ (byteAt f 3).toNat + 8 = f.length) ∧
      hop = (byteAt f 0).toNat % 64 ∧ b = bit (byteAt f 0).toNat 7 := by
  unfold State.judgeReply at h
  extract_lets x n ctrl origin target at h
  -- The three checks of the frame itself: its greatest length, its CRC, its header.
  obtain ⟨-, ⟨⟩⟩ | ⟨-, h⟩ := ite_eq_iff.mp h
  obtain ⟨-, ⟨⟩⟩ | ⟨hcrc, h⟩ := ite_eq_iff.mp h
  obtain ⟨-, ⟨⟩⟩ | ⟨hhead, h⟩ := ite_eq_iff.mp h
  have hcrcGood : 8 ≤ n ∧ crc32 (f.take (n - 4)) = leAt f (n - 4) 4 := by simpa using hcrc
  have hheadGood : bit ctrl 6 = true ∧ target < 32 ∧ (byteAt f 3).toNat + 8 = n := by
    simpa [and_assoc] using hhead
  refine ⟨hcrcGood, hheadGood, ?_⟩
  generalize x.train origin = train at h
  cases train with
  | none => cases h
  | some t =>
    -- Five checks against the train in flight, each with a fault or a copy where it fails.
    iterate 5 obtain ⟨-, ⟨⟩⟩ | ⟨-, h⟩ := ite_eq_iff.mp h
    obtain ⟨-, hseen⟩ | ⟨-, hfirst⟩ := ite_eq_iff.mp h
    · obtain ⟨-, ⟨⟩⟩ | ⟨-, hother⟩ := ite_eq_iff.mp hseen
      obtain ⟨-, ⟨⟩⟩ | ⟨-, ⟨⟩⟩ := ite_eq_iff.mp hother
    · obtain ⟨-, ⟨⟩⟩ | ⟨-, hgood⟩ := ite_eq_iff.mp hfirst
      obtain ⟨hhop, -, hb⟩ := Heard.good.inj hgood
      exact ⟨hhop.symm, hb.symm⟩

/-- Settles O24: the check value by evaluation; the checks that a good reply has passed by `State.judgeReply_good`. -/
theorem repliesCarryTheirCrc : Obligations.RepliesCarryTheirCrc := by
  unfold Obligations.RepliesCarryTheirCrc
  refine ⟨crc32_checkValue, fun s r port sample f hop pos b hgood => ?_⟩
  obtain ⟨⟨hlen, hcrc⟩, ⟨hreply, -, hpayload⟩, hhop, hb⟩ := State.judgeReply_good hgood
  exact ⟨hlen, hcrc.symm, hreply, hhop, hb, hpayload⟩

end Sys2Proof.Machine
end

section
/-! Acquisition (chapter 3): the tally index (R80), the stale words (R101) and the exceedance counts (R95). -/

namespace Sys2Proof.Machine

/-! #### The tally instant: what it does not say itself leaves the firmware's part of the state alone -/

theorem forEach_fw {α : Type} (l : List α) (s : State) (f : State → α → State) (hf : ∀ t a, (f t a).fw = t.fw) :
    (forEach l s f).fw = s.fw :=
  forEach_keeps (fun t => t.fw = s.fw) l s f rfl fun t a ht => (hf t a).trans ht

@[simp] theorem State.captureWrite_fw (s : State) : s.captureWrite.fw = s.fw := by
  simp [State.captureWrite, apply_ite State.fw]

@[simp] theorem State.countTally_fw (s : State) (n : Nat) : (s.countTally n).fw = s.fw := by
  simp [State.countTally, apply_ite State.fw]

@[simp] theorem State.dropLateTests_fw (s : State) (r : Nat) : (s.dropLateTests r).fw = s.fw :=
  forEach_fw _ _ _ fun t b => forEach_fw _ (t.setQueue r b _) _ fun u _ => u.monUpd_fw _ _

@[simp] theorem State.regionStep_fw (s : State) (g : Nat) : (s.regionStep g).fw = s.fw := by
  simp [State.regionStep, apply_ite State.fw]

theorem State.instantTime_of_stopped {s : State} (hticks : s.fw.ticking = false) : s.instantTime = s.now := by
  simp [State.instantTime, hticks]

theorem State.instantTime_of_ticking {s : State} (hticks : s.fw.ticking = true) :
    s.instantTime = s.fw.tallyTime + s.fw.period := by
  simp [State.instantTime, hticks]

/-- R80: what an instant does to the tally index and to the time of the latest tally. -/
theorem State.tallyInstant_fw (s : State) (uv : Nat) :
    (s.tallyInstant uv).fw.tally = (if s.fw.ticking then (s.fw.tally + 1) % 2 ^ 32 else 0) ∧
      (s.tallyInstant uv).fw.ticking = true ∧ (s.tallyInstant uv).fw.tallyTime = s.instantTime := by
  unfold State.tallyInstant
  extract_lets counted n code resumed t renewed fw latched tested moved cleared published
  have hcounted : counted.fw = s.fw := by
    simp only [counted, apply_ite State.fw, forEach_fw _ _ _ State.countTally_fw, State.captureWrite_fw, ite_self]
  have hcleared : cleared.fw = latched.fw :=
    calc cleared.fw = moved.fw := forEach_fw _ _ _ fun u k => u.monUpd_fw k _
      _ = tested.fw := forEach_fw _ _ _ fun u k => u.chanUpd_fw k _
      _ = latched.fw := forEach_fw _ _ _ State.dropLateTests_fw
  have hindex : n = if s.fw.ticking then (s.fw.tally + 1) % 2 ^ 32 else 0 := by rw [← hcounted]
  have htime : t = s.instantTime := by
    have hresumed : resumed.fw = s.fw := hcounted
    cases hticks : s.fw.ticking with
    | false =>
      have hsame : counted = s := by simp [counted, hticks]
      calc t = counted.now := State.instantTime_of_stopped (hresumed ▸ hticks)
        _ = s.now := by rw [hsame]
        _ = s.instantTime := (State.instantTime_of_stopped hticks).symm
    | true =>
      rw [State.instantTime_of_ticking hticks, ← hresumed]
      exact State.instantTime_of_ticking (hresumed ▸ hticks)
  rw [State.regionStep_fw, State.regionStep_fw, State.put_fw, hcleared]
  exact ⟨hindex, rfl, htime⟩

theorem exec_tallyInstant (s : State) (uv : Nat) (hrun : s.running = true) :
    exec (.tallyInstant uv) s = .next (if s.instantTime ≤ s.now then s.tallyInstant uv else s) := by
  change execTallyInstant uv s = _
  simp [execTallyInstant, doneIf, hrun]

/-- Settles O21: the instant acts exactly where its time has come (`exec_tallyInstant`); a first one is always due. -/
theorem tallyIndexCounts : Obligations.TallyIndexCounts := by
  unfold Obligations.TallyIndexCounts
  intro s uv hrun
  obtain ⟨htally, hstarted, htime⟩ := s.tallyInstant_fw uv
  rw [exec_tallyInstant s uv hrun]
  refine ⟨fun hticks => ?_, fun hticks hdue => ?_, fun hticks hearly => ?_⟩
  · have hnow := State.instantTime_of_stopped hticks
    exact ⟨_, by rw [if_pos hnow.le], by simp [htally, hticks], hstarted⟩
  · have hnext := State.instantTime_of_ticking hticks
    exact ⟨_, by rw [if_pos (hnext.trans_le hdue)], by simp [htally, hticks], htime.trans hnext⟩
  · have hnext := State.instantTime_of_ticking hticks
    rw [if_neg (by omega)]

/-! #### Words of flags with a count above them (Table 3-7) -/

theorem b2n_lt_two (b : Bool) : b2n b < 2 := by
  cases b <;> decide

theorem word_lt (l : List Bool) : word l < 2 ^ l.length := by
  induction l with
  | nil => decide
  | cons b l ih =>
    have hb := b2n_lt_two b
    simp only [word, List.length_cons, pow_succ]
    omega

/-- The lowest flag is bit 0, whatever stands from bit 12 on. -/
theorem bit_zero_word_cons (b : Bool) (l : List Bool) (n : Nat) : bit (word (b :: l) + 4096 * n) 0 = b := by
  have hmod : (b2n b + 2 * word l + 4096 * n) % 2 = b2n b := by
    have hb := b2n_lt_two b
    omega
  rw [bit, word, Nat.testBit_zero, hmod]
  cases b <;> rfl

/-- Twelve flags or fewer leave bits 14 to 12 to the count above them. -/
theorem bits_word_add (l : List Bool) (n : Nat) (hlen : l.length ≤ 12) (hn : n < 8) :
    bits (word l + 4096 * n) 14 12 = n := by
  have hword : word l < 4096 := (word_lt l).trans_le (Nat.pow_le_pow_right (by decide) hlen)
  simp only [bits]
  omega

/-- Table 3-7: bit 0 is STALE, bits 14 to 12 are STALE_COUNT, with eleven flags between them. -/
theorem State.cellFlagsOf_eq (s : State) (c : Nat) : ∃ flags : List Bool, flags.length = 11 ∧
    s.cellFlagsOf c = word ((!(s.cell c).fresh) :: flags) +
      4096 * if (s.cell c).fresh then 0 else min 7 (bits (s.gn O.cellFlags c) 14 12 + 1) :=
  ⟨_, rfl, rfl⟩

/-- Settles O22: the flags written out by `State.cellFlagsOf_eq`, read back by the lemmas of words of flags. -/
theorem staleCounts : Obligations.StaleCounts := by
  unfold Obligations.StaleCounts
  intro s c
  obtain ⟨flags, hlen, hflags⟩ := s.cellFlagsOf_eq c
  have hcount : (if (s.cell c).fresh then 0 else min 7 (bits (s.gn O.cellFlags c) 14 12 + 1)) < 8 := by split <;> omega
  rw [hflags, bit_zero_word_cons, bits_word_add _ _ (by simp [hlen]) hcount]
  exact ⟨fun hfresh => by simp [hfresh], fun hfresh => by simp [hfresh]⟩

/-! #### The judgement of a cell alone (R95) -/

@[simp] theorem countNext_decide (n : Nat) (p : Prop) [Decidable p] : countNext n (decide p) = if p then n + 1 else 0 := by
  simp [countNext]

/-- R95: what the judgement of one delivered word does: it changes that cell, whose two counts move by `countNext`. -/
theorem State.judgeGroup_single (s : State) (c : Nat) (hfresh : (s.cell c).fresh = true) :
    ∃ f : CellAcq → CellAcq, s.judgeGroup [c] = s.cellUpd c f ∧ ∀ x,
      (f x).ov = countNext x.ov (decide (s.gn O.cellOvTrip (cellRing c) ≤ (s.cell c).word)) ∧
      (f x).uv = countNext x.uv (decide ((s.cell c).word ≤ s.gn O.cellUvTrip (cellRing c))) :=
  ⟨_, if_neg (by simp [hfresh]), fun _ => by simp⟩

/-- Settles O23: the judgement is an update of the one cell (`State.judgeGroup_single`). -/
theorem exceedanceCounts : Obligations.ExceedanceCounts := by
  unfold Obligations.ExceedanceCounts
  intro s c hcanon hfresh
  obtain ⟨f, hjudge, hcounts⟩ := s.judgeGroup_single c hfresh
  obtain ⟨hov, huv⟩ := hcounts (s.cell c)
  rw [hjudge, State.cellUpd_cell_same _ _ _ hcanon, hov, huv]
  exact ⟨countNext_decide _ _, countNext_decide _ _, fun k hk => State.cellUpd_cell_other _ _ _ _ hk⟩

end Sys2Proof.Machine
end

section
/-! The trip reset refused for a cause still present (R193). -/

namespace Sys2Proof.Machine

/-- R193: one named string whose cause is present refuses the reset of every named string. -/
theorem State.tripReset_causePresent (s : State) (mask n : Nat) (hmask : mask < 16) (hn : n < 4)
    (hnamed : bit mask n = true) (hhas : s.has n = true) (hcause : s.tripCausePresent n = true) :
    s.tripReset mask = (s, 0x0412) := by
  have hmem : n ∈ (List.range 4).filter fun k => bit mask k :=
    List.mem_filter.mpr ⟨List.mem_range.mpr hn, hnamed⟩
  have hany : (((List.range 4).filter fun k => bit mask k).any fun k => s.has k && s.tripCausePresent k) = true :=
    List.any_eq_true.mpr ⟨n, hmem, by rw [hhas, hcause]; rfl⟩
  unfold State.tripReset
  extract_lets named
  rw [if_neg (Nat.not_le.mpr hmask), if_pos hany]
  rfl

/-- Settles O26: the request passes the checks of every write (`State.request_next`), and its own check refuses it. -/
theorem tripResetRefused : Obligations.TripResetRefused := by
  unfold Obligations.TripResetRefused
  intro s req mask n hreq hmask hn hnamed hhas hcause
  have hhasSeen : (s.tagSeen req).has n = true := by rwa [State.tagSeen_has]
  have hrefused : (s.tagSeen req).tripReset mask.toNat = (s.tagSeen req, 0x0412) :=
    State.tripReset_causePresent _ _ n hmask hn hnamed hhasSeen hcause
  change execTripReset req mask s = _
  exact State.request_next s _ req O.tripReset 0 _ _ hreq hrefused

end Sys2Proof.Machine
end

section
/-! The request to energise a driver of a string whose safe-off is asserted (R226). -/

namespace Sys2Proof.Machine

/-- R226: safe-off of a driver's string withdraws the power die's leave to energise it. -/
theorem State.mayEnergise_eq_false_of_safeOff {s : State} {d : Nat} (hoff : s.safeOff (s.stringOf d) = true) :
    s.mayEnergise d = false := by
  simp [State.mayEnergise, hoff]

/-- R14: a request to energise a driver that the power die may not energise is refused. -/
theorem State.requestOn_eq_refuseOut {s : State} {d : Nat} (hno : s.mayEnergise d = false) :
    s.requestOn d = s.refuseOut (.energise (Fin.ofNat 12 d)) := by
  simp [State.requestOn, hno]

/-- R14: while the power die runs, OUTPUT_REQUEST is the request to energise itself. -/
theorem exec_outputRequest_energise {s : State} (d : Fin 12) (hpd : s.pd = true) :
    exec (.outputRequest (.energise d)) s = .next (s.requestOn d.val) := by
  change doneIf s.pd (s.requestOn d.val) s = _
  rw [doneIf, if_pos hpd]

/-- Settles O25: the request comes to `State.refuseOut`, which reports and leaves the outputs (`State.refuseOut_held`). -/
theorem safeOffRefusesEnergise : Obligations.SafeOffRefusesEnergise := by
  unfold Obligations.SafeOffRefusesEnergise
  intro s d hpd hoff
  have hrefuse : s.requestOn d.val = s.refuseOut (.energise d) := by
    rw [State.requestOn_eq_refuseOut (State.mayEnergise_eq_false_of_safeOff hoff), Fin.ofNat_val_eq_self]
  have hexec : exec (.outputRequest (.energise d)) s = .next (s.refuseOut (.energise d)) := by
    rw [exec_outputRequest_energise d hpd, hrefuse]
  exact ⟨s.refuseOut (.energise d), hexec, State.refuseOut_held s _ s.held_refl, rfl⟩

end Sys2Proof.Machine
end

section
/-! The load switches (R251, R253): what work on one channel leaves as it is, and the frame of the host's commands. -/

namespace Sys2Proof.Machine

/-! #### Work on one channel -/

/-- What leads from `s` to `t` is work on load switch `n`: it leaves the other channels, and of its own what `g` reads. -/
structure State.workedOn {α : Type} (t s : State) (n : Nat) (g : LoadSw → α) : Prop where
  canonical : s.canonical → t.canonical
  kept : s.canonical → g (t.lsw n) = g (s.lsw n)
  others : ∀ k, k ≠ n → t.lsw k = s.lsw k

section workedOn
variable {α : Type} {g : LoadSw → α}

theorem State.workedOn.trans {s t u : State} {n : Nat} (htu : u.workedOn t n g) (hst : t.workedOn s n g) :
    u.workedOn s n g where
  canonical hs := htu.canonical (hst.canonical hs)
  kept hs := (htu.kept (hst.canonical hs)).trans (hst.kept hs)
  others k hk := (htu.others k hk).trans (hst.others k hk)

theorem State.workedOn_self (s : State) (n : Nat) : s.workedOn s n g := ⟨id, fun _ => rfl, fun _ _ => rfl⟩

theorem State.lswUpd_workedOn (s : State) (n : Nat) (f : LoadSw → LoadSw)
    (hf : ∀ l, g (f l) = g l := by exact fun _ => rfl) : (s.lswUpd n f).workedOn s n g where
  canonical hs := State.lswUpd_canonical s n f hs
  kept hs := by rw [State.lswUpd_lsw_same _ _ _ hs, hf]
  others k hk := State.lswUpd_lsw_other _ _ _ k hk

/-- A step that may change the channel, or not. -/
theorem State.lswUpd_ite_workedOn (c : Prop) [Decidable c] (s : State) (n : Nat) (f : LoadSw → LoadSw)
    (hf : ∀ l, g (f l) = g l := by exact fun _ => rfl) : (if c then s.lswUpd n f else s).workedOn s n g := by
  split
  · exact s.lswUpd_workedOn n f hf
  · exact s.workedOn_self n

theorem State.raise_workedOn (s : State) (n src inst : Nat) (p : List Byte) : (s.raise src inst p).workedOn s n g where
  canonical hs := State.raise_canonical s src inst p hs
  kept _ := by simp [State.lsw]
  others _ _ := by simp [State.lsw]

theorem State.bump_workedOn (s : State) (n i k : Nat) : (s.bump i k).workedOn s n g where
  canonical hs := State.bump_canonical s i k hs
  kept _ := by simp [State.lsw]
  others _ _ := by simp [State.lsw]

end workedOn

/-! #### Turning on, turning off and following the command leave the thermal latch -/

theorem State.lsOn_workedOn (s : State) (n : Nat) : (s.lsOn n).workedOn s n LoadSw.latch :=
  s.lswUpd_workedOn n _ fun l => by split <;> rfl

theorem State.lsOff_workedOn (s : State) (n : Nat) : (s.lsOff n).workedOn s n LoadSw.latch :=
  s.lswUpd_workedOn n _ fun l => by split <;> rfl

theorem State.lsOff_on (s : State) (n : Nat) (hs : s.canonical) : ((s.lsOff n).lsw n).on = false := by
  unfold State.lsOff
  rw [State.lswUpd_lsw_same _ _ _ hs]
  split
  · rfl
  · rename_i hoff
    exact Bool.eq_false_iff.mpr hoff

theorem State.lsFollow_workedOn (s : State) (n : Nat) : (s.lsFollow n).workedOn s n LoadSw.latch := by
  unfold State.lsFollow
  split
  · exact s.lsOn_workedOn n
  · exact s.lsOff_workedOn n

theorem State.lsApply_workedOn (s : State) (n mode duty freq : Nat) :
    (s.lsApply n mode duty freq).workedOn s n LoadSw.latch := by
  unfold State.lsApply
  extract_lets t u
  have ht : t.workedOn s n LoadSw.latch := s.lswUpd_workedOn n _
  have hu : u.workedOn t n LoadSw.latch := t.lswUpd_ite_workedOn _ n _
  exact (u.lsFollow_workedOn n).trans (hu.trans ht)

theorem State.lsRestart_workedOn (s : State) (n : Nat) : (s.lsRestart n).workedOn s n LoadSw.latch := by
  unfold State.lsRestart
  extract_lets l due t u
  have ht : t.workedOn s n LoadSw.latch := s.lswUpd_ite_workedOn _ n _
  have hu : u.workedOn t n LoadSw.latch := t.lswUpd_ite_workedOn _ n _
  split
  · exact (u.lsFollow_workedOn n).trans (hu.trans ht)
  · exact hu.trans ht

/-- R252, R253: a trip switches the channel off; what it does then counts and reports, and leaves the output and the latch. -/
theorem State.lsTrip_workedOn_lsOff (s : State) (n kind : Nat) :
    (s.lsTrip n kind).workedOn (s.lsOff n) n fun l => (l.latch, l.on) := by
  unfold State.lsTrip
  extract_lets off cleared counted
  have hcounted : counted.workedOn off n fun l => (l.latch, l.on) :=
    (State.raise_workedOn _ n _ _ _).trans ((State.bump_workedOn _ n _ _).trans (off.lswUpd_workedOn n _))
  split
  · exact (State.raise_workedOn _ n _ _ _).trans ((counted.lswUpd_workedOn n _).trans hcounted)
  · exact (counted.lswUpd_workedOn n _).trans hcounted

/-- R252, R253: a trip leaves the channel off, with its latch as it was, and leaves the other channels. -/
theorem State.lsTrip_lsw (s : State) (n kind : Nat) (hs : s.canonical) :
    ((s.lsTrip n kind).lsw n).latch = (s.lsw n).latch ∧ ((s.lsTrip n kind).lsw n).on = false ∧
      ∀ k, k ≠ n → (s.lsTrip n kind).lsw k = s.lsw k := by
  have hoff := s.lsOff_workedOn n
  have htrip := s.lsTrip_workedOn_lsOff n kind
  obtain ⟨hlatch, hon⟩ := Prod.mk.inj (htrip.kept (hoff.canonical hs))
  exact ⟨hlatch.trans (hoff.kept hs), hon.trans (s.lsOff_on n hs), fun k hk => (htrip.others k hk).trans (hoff.others k hk)⟩

/-! #### The thermal latch (R253) -/

/-- R253: the thermal latch of a channel as the temperature of its output sets or clears it. -/
def State.setThermal (s : State) (n : Nat) (hot : Bool) : State := s.lswUpd n fun l => { l with latch := hot }

section setThermal
variable {s : State} (n : Nat) (hot : Bool)

theorem State.setThermal_lsw_other (k : Nat) (hk : k ≠ n) : (s.setThermal n hot).lsw k = s.lsw k :=
  State.lswUpd_lsw_other _ _ _ k hk

variable (hs : s.canonical)
include hs

theorem State.setThermal_canonical : (s.setThermal n hot).canonical := State.lswUpd_canonical _ _ _ hs

theorem State.setThermal_lsw : (s.setThermal n hot).lsw n = { s.lsw n with latch := hot } :=
  State.lswUpd_lsw_same _ _ _ hs

end setThermal

/-- R253: where the channel was on, its latch is a trip. -/
theorem exec_lsThermalLatchSet_of_on {s : State} (n : Fin 16) (hpd : s.pd = true) (hlatch : (s.lsw n.val).latch = false)
    (hon : (s.lsw n.val).on = true) :
    exec (.lsThermalLatchSet n) s = .next ((s.setThermal n.val true).lsTrip n.val 1) := by
  change execLsThermalLatchSet n s = _
  simp [execLsThermalLatchSet, doneIf, State.setThermal, hpd, hlatch, hon]

/-- R253: where the channel was off, its latch is only reported. -/
theorem exec_lsThermalLatchSet_of_off {s : State} (n : Fin 16) (hpd : s.pd = true) (hlatch : (s.lsw n.val).latch = false)
    (hoff : (s.lsw n.val).on = false) :
    exec (.lsThermalLatchSet n) s = .next ((s.setThermal n.val true).raise (lsSource n.val) 1) := by
  change execLsThermalLatchSet n s = _
  simp [execLsThermalLatchSet, doneIf, State.setThermal, hpd, hlatch, hoff]

theorem exec_lsThermalLatchClear {s : State} (n : Fin 16) (hpd : s.pd = true) (hlatch : (s.lsw n.val).latch = true) :
    exec (.lsThermalLatchClear n) s = .next (((s.setThermal n.val false).lsRestart n.val).lsFollow n.val) := by
  change execLsThermalLatchClear n s = _
  simp [execLsThermalLatchClear, doneIf, State.setThermal, hpd, hlatch]

/-- Settles O27: the latch itself is one update of the channel (`State.setThermal`); the trip, the report, the restart and the
following of the command that come after it are work on that channel which leaves its latch. -/
theorem thermalLatches : Obligations.ThermalLatches := by
  unfold Obligations.ThermalLatches
  intro s n hs hpd
  have hread := fun hot => State.setThermal_lsw n.val hot hs
  have hcanon := fun hot => State.setThermal_canonical n.val hot hs
  refine ⟨fun hclear => ?_, fun hset => ?_⟩
  · cases hwas : (s.lsw n.val).on with
    | true =>
      obtain ⟨hlatch, hon, hothers⟩ := (s.setThermal n.val true).lsTrip_lsw n.val 1 (hcanon true)
      exact ⟨_, exec_lsThermalLatchSet_of_on n hpd hclear hwas, hlatch.trans (by rw [hread]), hon,
        fun k hk => (hothers k hk).trans (State.setThermal_lsw_other _ _ k hk)⟩
    | false =>
      have hraise := (s.setThermal n.val true).raise_workedOn (g := id) n.val (lsSource n.val) 1 []
      have hown := (hraise.kept (hcanon true)).trans (hread true)
      exact ⟨_, exec_lsThermalLatchSet_of_off n hpd hclear hwas, congrArg LoadSw.latch hown,
        (congrArg LoadSw.on hown).trans hwas,
        fun k hk => (hraise.others k hk).trans (State.setThermal_lsw_other _ _ k hk)⟩
  · have hwork := (State.lsFollow_workedOn _ n.val).trans ((s.setThermal n.val false).lsRestart_workedOn n.val)
    exact ⟨_, exec_lsThermalLatchClear n hpd hset, (hwork.kept (hcanon false)).trans (by rw [hread]),
      fun k hk => (hwork.others k hk).trans (State.setThermal_lsw_other _ _ k hk)⟩

/-! #### The frame of the host's commands (R251) -/

/-- The state without what a load-switch command of the host may change: the load switches and the objects, of which more is
said below, the messages to the other die, the refusal, the response, and that an output command was executed. -/
def State.bare (s : State) : State :=
  { s with objs := [], linkP := {}, linkC := {}, refused := [], ls := [], qlp := {}, dup := { s.dup with acted := false } }

/-- What a command of the host for load switch `n` through a link leaves as it is. -/
structure State.hostFrame (t s : State) (link n : Nat) : Prop where
  bare : t.bare = s.bare
  switches : ∀ k, k ≠ n → t.lsw k = s.lsw k
  elements : ∀ i k, k < 65536 → (i ≠ O.loadSwitchCommand ∨ k ≠ n) → (i ≠ O.canStats ∨ k ≠ link * 6 + 5) →
    t.el i k = s.el i k

section hostFrame
variable {s t u : State} {link n : Nat}

theorem State.hostFrame.trans (htu : u.hostFrame t link n) (hst : t.hostFrame s link n) : u.hostFrame s link n where
  bare := htu.bare.trans hst.bare
  switches k hk := (htu.switches k hk).trans (hst.switches k hk)
  elements i k hk hcmd hstats := (htu.elements i k hk hcmd hstats).trans (hst.elements i k hk hcmd hstats)

/-- What leaves the objects keeps the elements: their defaults hang on the variant alone. -/
theorem State.el_of_bare (hbare : t.bare = s.bare) (hobjs : t.objs = s.objs) (i k : Nat) : t.el i k = s.el i k := by
  have hvariant : t.variant = s.variant := by simpa only [State.bare] using congrArg State.variant hbare
  simp only [State.el, hvariant, hobjs]

/-- What leaves the load switches and the objects is in the frame where it leaves the rest. -/
theorem State.hostFrame_of_bare (hbare : t.bare = s.bare) (hls : t.ls = s.ls) (hobjs : t.objs = s.objs) :
    t.hostFrame s link n where
  bare := hbare
  switches k _ := by simp only [State.lsw, hls]
  elements i k _ _ _ := State.el_of_bare hbare hobjs i k

theorem State.hostFrame_self (s : State) : s.hostFrame s link n := State.hostFrame_of_bare rfl rfl rfl

theorem State.tagSeen_hostFrame (s : State) (req : Req) : (s.tagSeen req).hostFrame s link n :=
  State.hostFrame_of_bare (by rw [State.tagSeen_eq]; rfl) (s.tagSeen_ls req) (s.tagSeen_objs req)

theorem State.sayC_hostFrame (s : State) (cls content : Nat) : (s.sayC cls content).hostFrame s link n :=
  State.hostFrame_of_bare rfl rfl rfl

theorem State.refuseOut_hostFrame (s : State) (r : OutReq) : (s.refuseOut r).hostFrame s link n :=
  State.hostFrame_of_bare rfl rfl rfl

theorem State.outputDone_hostFrame (s : State) : s.outputDone.hostFrame s link n :=
  State.hostFrame_of_bare rfl rfl rfl

/-- A stored element is in the frame where it is one that the frame leaves open. -/
theorem State.put_hostFrame (s : State) (i k : Nat) (v : Int) (hk : k < 65536)
    (hopen : (i = O.loadSwitchCommand ∧ k = n) ∨ (i = O.canStats ∧ k = link * 6 + 5)) :
    (s.put i k v).hostFrame s link n where
  bare := rfl
  switches _ _ := rfl
  elements j l hl hcmd hstats := State.put_el_other _ _ _ _ _ _ (okey_ne hk hl (by
    rcases hopen with ⟨rfl, rfl⟩ | ⟨rfl, rfl⟩
    · exact hcmd
    · exact hstats))

/-! The power die's part of the command. -/

theorem State.lsFollow_eq (s : State) (n : Nat) : s.lsFollow n = { s with ls := (s.lsFollow n).ls } := by
  unfold State.lsFollow
  split <;> rfl

theorem State.lsApply_eq (s : State) (n mode duty freq : Nat) :
    s.lsApply n mode duty freq = { s with ls := (s.lsApply n mode duty freq).ls } := by
  unfold State.lsApply
  extract_lets t u
  have hu : u = { s with ls := u.ls } := by
    simp only [u]
    split <;> rfl
  rw [State.lsFollow_eq, hu]

theorem State.lsApply_hostFrame (s : State) (n mode duty freq : Nat) :
    (s.lsApply n mode duty freq).hostFrame s link n := by
  have hbare : (s.lsApply n mode duty freq).bare = s.bare := by rw [State.lsApply_eq]; rfl
  have hobjs : (s.lsApply n mode duty freq).objs = s.objs := by rw [State.lsApply_eq]
  exact ⟨hbare, (s.lsApply_workedOn n mode duty freq).others, fun i k _ _ _ => State.el_of_bare hbare hobjs i k⟩

theorem State.lsRequest_hostFrame (s : State) (n mode duty freq : Nat) :
    (s.lsRequest n mode duty freq).hostFrame s link n := by
  unfold State.lsRequest
  split
  · exact s.hostFrame_self
  · split
    · exact (State.outputDone_hostFrame _).trans (s.lsApply_hostFrame n mode duty freq)
    · exact s.refuseOut_hostFrame _

theorem State.lsCommand_hostFrame (s : State) (n mode : Nat) (hn : n < 65536) :
    (s.lsCommand n mode).1.hostFrame s link n :=
  (State.lsRequest_hostFrame _ n _ _ _).trans
    ((State.sayC_hostFrame _ _ _).trans (s.put_hostFrame _ _ _ hn (.inl ⟨rfl, rfl⟩)))

/-! The response. -/

theorem State.highWater_hostFrame (s : State) (hlink : link < 2) : (s.highWater link).hostFrame s link n := by
  unfold State.highWater
  extract_lets m
  split
  · exact s.put_hostFrame _ _ _ (by omega) (.inr ⟨rfl, rfl⟩)
  · exact s.hostFrame_self

theorem State.txPush_hostFrame (s : State) (o : Out) : (s.txPush link o).hostFrame s link n := by
  unfold State.txPush
  split
  · rename_i hlink
    exact (State.highWater_hostFrame _ hlink).trans (State.hostFrame_of_bare rfl rfl rfl)
  · exact State.hostFrame_of_bare rfl rfl rfl

theorem State.txResponse_hostFrame (s : State) (o : Out) : (s.txResponse link o).hostFrame s link n := by
  unfold State.txResponse
  split
  · exact s.txPush_hostFrame o
  · split <;> exact State.hostFrame_of_bare rfl rfl rfl

theorem State.answerW_hostFrame (s : State) (req : Req) (i k status : Nat) :
    (s.answerW req i k status).hostFrame s req.link.val n :=
  (State.txResponse_hostFrame _ _).trans (State.hostFrame_of_bare rfl rfl rfl)

/-- A host's request is in the frame where its operation is. -/
theorem State.request_hostFrame (s : State) (req : Req) (i k : Nat) (op : State → State × Nat)
    (hop : ∀ u : State, (op u).1.hostFrame u req.link.val n) :
    nextSat (s.request req i k op) fun t => t.hostFrame s req.link.val n := by
  have hseen : (s.tagSeen req).hostFrame s req.link.val n := s.tagSeen_hostFrame req
  unfold State.request
  extract_lets gate result
  split
  · rintro _ ⟨⟩
    exact s.hostFrame_self
  · split
    · rintro _ ⟨⟩
      exact (State.answerW_hostFrame _ _ _ _ _).trans hseen
    · rintro _ ⟨⟩
      exact (State.answerW_hostFrame _ _ _ _ _).trans ((hop _).trans hseen)

end hostFrame

/-- R251: the three commands are one request, for their three modes. -/
theorem exec_loadSwitchCmd_hostFrame {s t : State} {c : Instr} {req : Req} {n : Fin 16}
    (hc : c = .loadSwitchCmdOff req n ∨ c = .loadSwitchCmdOn req n ∨ c = .loadSwitchCmdPwm req n)
    (hexec : exec c s = .next t) :
    t.hostFrame s req.link.val n.val := by
  have hrequest (mode : Nat) :=
    s.request_hostFrame req O.loadSwitchCommand n.val (·.lsCommand n.val mode) fun u =>
      u.lsCommand_hostFrame n.val mode (n.isLt.trans (by decide))
  rcases hc with rfl | rfl | rfl
  · exact hrequest 0 t hexec
  · exact hrequest 1 t hexec
  · exact hrequest 2 t hexec

/-- Settles O10: the frame of the request, read field by field. -/
theorem loadSwitchFrame : Obligations.LoadSwitchFrame := by
  unfold Obligations.LoadSwitchFrame
  intro s t c req n hc hexec
  obtain ⟨hbare, hswitches, helements⟩ := exec_loadSwitchCmd_hostFrame hc hexec
  have hread {α : Type} (g : State → α) : g t.bare = g s.bare := congrArg g hbare
  have hdup : { t.dup with acted := s.dup.acted } = s.dup := hread fun u => { u.dup with acted := s.dup.acted }
  exact ⟨hread State.drivers, hread State.motors, hread State.vmot, hread State.gov,
    hread State.pairs, hswitches, hread State.flash, hread State.otp, hread State.clk,
    hread State.strs, hread State.rings, hread State.cells, hread State.log,
    hread State.monitors, hread State.temps, hread State.chans, hread State.shots,
    hread State.otest, hread State.capture, hread State.ev, hread State.fab,
    hread State.th, hread State.fw, hread State.pwr, hread State.wd,
    hread State.variant, hread State.pending, hdup, fun _ => helements⟩

end Sys2Proof.Machine
end

section
/-! VMOT and the deceleration of the motor channels (R274). -/

namespace Sys2Proof.Machine

/-! #### What leaves the ramp of every channel as it is -/

/-- From `s` to `t` the deceleration hold, its level and the references of the channels stand. -/
structure State.sameRamps (t s : State) : Prop where
  canonical : t.canonical
  variant : t.variant = s.variant
  hold : t.vmot.hold = s.vmot.hold
  level : t.gn O.vmotRampHoldLevel 0 = s.gn O.vmotRampHoldLevel 0
  ramp : ∀ n, (t.mot n).decelHeld = (s.mot n).decelHeld ∧ (t.mot n).ref = (s.mot n).ref

theorem State.sameRamps_self {s : State} (hs : s.canonical) : s.sameRamps s := ⟨hs, rfl, rfl, rfl, fun _ => ⟨rfl, rfl⟩⟩

theorem State.sameRamps.trans {s t u : State} (htu : u.sameRamps t) (hst : t.sameRamps s) : u.sameRamps s where
  canonical := htu.canonical
  variant := htu.variant.trans hst.variant
  hold := htu.hold.trans hst.hold
  level := htu.level.trans hst.level
  ramp n := ⟨(htu.ramp n).1.trans (hst.ramp n).1, (htu.ramp n).2.trans (hst.ramp n).2⟩

theorem State.sameRamps.strings {s t : State} (h : t.sameRamps s) : t.strings = s.strings := by
  simp only [State.strings, State.nStrings, h.variant]

/-- R3: no variant has more than four motor channels. -/
theorem State.lt_of_mem_strings {s : State} {n : Nat} (hn : n ∈ s.strings) : n < 65536 := by
  have hlt : n < s.nStrings := List.mem_range.mp hn
  have hfour : s.nStrings ≤ 4 := by unfold State.nStrings; split <;> decide
  omega

section sameRamps
variable {s s₀ : State} (h : s.sameRamps s₀)
include h

theorem State.motUpd_sameRamps (n : Nat) (f : Motor → Motor)
    (hf : ∀ m, (f m).decelHeld = m.decelHeld ∧ (f m).ref = m.ref := by exact fun _ => ⟨rfl, rfl⟩) :
    (s.motUpd n f).sameRamps s₀ :=
  { h with
    canonical := State.motUpd_canonical _ _ _ h.canonical
    ramp := fun k => by
      by_cases hk : k = n
      · subst hk
        rw [State.motUpd_mot_same _ _ _ h.canonical]
        exact ⟨(hf _).1.trans (h.ramp k).1, (hf _).2.trans (h.ramp k).2⟩
      · rw [State.motUpd_mot_other _ _ _ k hk]
        exact h.ramp k }

theorem State.put_sameRamps (i k : Nat) (v : Int) (hk : k < 65536) (hi : i ≠ O.vmotRampHoldLevel := by decide) :
    (s.put i k v).sameRamps s₀ :=
  { h with
    canonical := State.put_canonical _ _ _ _ h.canonical
    level := (State.put_gn_other _ _ _ _ _ _ (okey_ne hk (by decide) (.inl hi.symm))).trans h.level }

theorem State.raise_sameRamps (src inst : Nat) (p : List Byte) : (s.raise src inst p).sameRamps s₀ where
  canonical := State.raise_canonical _ _ _ _ h.canonical
  variant := (State.raise_variant _ _ _ _).trans h.variant
  hold := by rw [State.raise_vmot, h.hold]
  level := (State.raise_gn _ _ _ _ _ _).trans h.level
  ramp n := by simpa [State.mot] using h.ramp n

theorem State.setVmot_sameRamps (v : Vmot) (hv : v.hold = s.vmot.hold := by rfl) :
    State.sameRamps { s with vmot := v } s₀ :=
  { h with canonical := h.canonical, hold := hv.trans h.hold }

/-- Work on channel after channel of the device keeps the ramps where the work on each does. -/
theorem State.forEach_sameRamps (l : List Nat) (f : State → Nat → State)
    (hf : ∀ (t : State) (n : Nat), n ∈ l → t.sameRamps s₀ → (f t n).sameRamps s₀) : (forEach l s f).sameRamps s₀ :=
  List.foldlRecOn (motive := (·.sameRamps s₀)) l f h fun t ht n hn => hf t n hn ht

/-! #### The motor control block: only the ramp and the hold themselves change them -/

theorem State.mdEnter_sameRamps (n st : Nat) : (s.mdEnter n st).sameRamps s₀ :=
  State.motUpd_sameRamps h _ _

theorem State.mdLoss_sameRamps (n : Nat) : (s.mdLoss n).sameRamps s₀ :=
  State.motUpd_sameRamps h _ _ fun m => by split <;> exact ⟨rfl, rfl⟩

theorem State.mdCoast_sameRamps {n : Nat} (hn : n < 65536) (st : Nat) : (s.mdCoast n st).sameRamps s₀ :=
  State.put_sameRamps (State.motUpd_sameRamps (State.mdEnter_sameRamps h n st) _ _) _ _ _ hn

theorem State.mdStep_sameRamps {n : Nat} (hn : n < 65536) (step : Nat) : (s.mdStep n step).sameRamps s₀ := by
  have hstep : (s.motUpd n fun m => { m with recStep := step, retryPending := false }).sameRamps s₀ :=
    State.motUpd_sameRamps h _ _
  unfold State.mdStep
  extract_lets t
  split
  · exact State.mdEnter_sameRamps hstep _ _
  · split
    · exact State.put_sameRamps (State.motUpd_sameRamps (State.mdEnter_sameRamps hstep _ _) _ _)
        _ _ _ hn
    · exact State.mdEnter_sameRamps hstep _ _

theorem State.mdResume_sameRamps {n : Nat} (hn : n < 65536) : (s.mdResume n).sameRamps s₀ := by
  unfold State.mdResume
  extract_lets m
  split
  · exact h
  · split
    · exact State.motUpd_sameRamps (State.mdCoast_sameRamps h hn 0) _ _
    · split
      · exact h
      · exact State.mdStep_sameRamps h hn _

theorem State.mdWait_sameRamps {n : Nat} (hn : n < 65536) : (s.mdWait n).sameRamps s₀ := by
  unfold State.mdWait
  extract_lets m t w
  exact State.motUpd_sameRamps (State.mdCoast_sameRamps h hn 4) _ _

theorem State.mdSyncLost_sameRamps {n : Nat} (hn : n < 65536) (kind : Nat) : (s.mdSyncLost n kind).sameRamps s₀ :=
  State.mdWait_sameRamps (State.raise_sameRamps (State.mdLoss_sameRamps h n) _ _ _) hn

theorem State.mdBrake_sameRamps (n : Nat) : (s.mdBrake n).sameRamps s₀ :=
  State.raise_sameRamps (State.motUpd_sameRamps (State.mdEnter_sameRamps (State.mdLoss_sameRamps h n) n 6) _ _) _ _ _

theorem State.mdBrakeEnd_sameRamps {n : Nat} (hn : n < 65536) : (s.mdBrakeEnd n).sameRamps s₀ := by
  have hback : (s.motUpd n fun m => { m with fellBack := false }).sameRamps s₀ :=
    State.motUpd_sameRamps h _ _
  unfold State.mdBrakeEnd
  extract_lets t
  split
  · split
    · exact State.mdCoast_sameRamps hback hn 7
    · exact State.mdResume_sameRamps (State.mdCoast_sameRamps hback hn 4) hn
  · exact hback

/-! #### The other answers to a conversion of VMOT (R273, R275 to R277) -/

theorem State.vmotCoastAll_sameRamps (all : Bool) : (s.vmotCoastAll all).sameRamps s₀ := by
  refine State.forEach_sameRamps h _ _ fun t n hn ht => ?_
  have hloss : (t.mdLoss n).sameRamps s₀ := State.mdLoss_sameRamps ht n
  have hcoast : ∀ run : Bool, (if run then (t.mdLoss n).mdCoast n 4 else t.mdLoss n).sameRamps s₀ := by
    intro run
    split
    · exact State.mdCoast_sameRamps hloss (State.lt_of_mem_strings hn) 4
    · exact hloss
  simp only
  split
  · exact State.motUpd_sameRamps (hcoast _) _ _
  · exact hcoast _

theorem State.vmotUnder_sameRamps (mV : Nat) : (s.vmotUnder mV).sameRamps s₀ := by
  unfold State.vmotUnder
  split
  · exact State.raise_sameRamps (State.vmotCoastAll_sameRamps (State.setVmot_sameRamps h _) false) _ _ _
  · exact h

theorem State.vmotBrake_sameRamps (mV : Nat) : (s.vmotBrake mV).sameRamps s₀ := by
  unfold State.vmotBrake
  split
  · exact h
  · split
    · exact State.raise_sameRamps (State.setVmot_sameRamps h _) _ _ _
    · split
      · exact State.setVmot_sameRamps h _
      · exact h

theorem State.vmotAbs_sameRamps (mV : Nat) : (s.vmotAbs mV).sameRamps s₀ := by
  unfold State.vmotAbs
  split
  · extract_lets coasted vmot t
    have ht : t.sameRamps s₀ := State.setVmot_sameRamps (State.vmotCoastAll_sameRamps h true) _
    split
    · exact ht
    · exact State.raise_sameRamps ht _ _ _
  · exact State.setVmot_sameRamps h _

theorem State.vmotZero_sameRamps (mV : Nat) : (s.vmotZero mV).sameRamps s₀ := by
  unfold State.vmotZero
  extract_lets t
  have ht : t.sameRamps s₀ := by
    simp only [t]
    split
    · exact State.forEach_sameRamps h _ _ fun u n _ hu => State.mdBrake_sameRamps hu n
    · exact h
  split
  · exact State.forEach_sameRamps ht _ _ fun u n hn hu =>
      State.mdBrakeEnd_sameRamps (State.mdLoss_sameRamps hu n) (State.lt_of_mem_strings (List.mem_of_mem_filter hn))
  · exact ht

theorem State.vmotGood_sameRamps (mV : Nat) : (s.vmotGood mV).sameRamps s₀ := State.setVmot_sameRamps h _

end sameRamps

/-! #### The hold (R274) -/

/-- R274: the hold of every deceleration of the device begins or ends. -/
def State.setHold (s : State) (held : Bool) : State :=
  forEach s.strings { s with vmot := { s.vmot with hold := held } } fun s n => s.motUpd n fun m => { m with decelHeld := held }

theorem State.vmotHold_begins {s : State} {mV : Nat} (habove : s.gn O.vmotRampHoldLevel 0 < mV) (hhold : s.vmot.hold = false) :
    s.vmotHold mV = (s.setHold true).raise 0xC8 0 := by
  rw [State.vmotHold, if_pos (by simp [habove, hhold])]
  rfl

theorem State.vmotHold_ends {s : State} {mV : Nat} (hbelow : mV + 1000 < s.gn O.vmotRampHoldLevel 0)
    (hhold : s.vmot.hold = true) :
    s.vmotHold mV = s.setHold false := by
  have hnot : ¬ s.gn O.vmotRampHoldLevel 0 < mV := by omega
  rw [State.vmotHold, if_neg (by simp [hnot]), if_pos (by simp [hbelow, hhold])]
  rfl

/-- Setting the hold of channel after channel sets it in each of them. -/
theorem forEach_setDecelHeld (l : List Nat) (s : State) (held : Bool) (hs : s.canonical) (n : Nat) :
    ((forEach l s fun s n => s.motUpd n fun m => { m with decelHeld := held }).mot n).decelHeld =
      if n ∈ l then held else (s.mot n).decelHeld := by
  induction l generalizing s with
  | nil => rfl
  | cons k l ih =>
    refine (ih _ (State.motUpd_canonical _ _ _ hs)).trans ?_
    by_cases hk : n = k
    · subst hk
      simp [State.motUpd_mot_same _ _ _ hs]
    · simp [State.motUpd_mot_other _ _ _ n hk, hk]

theorem State.setHold_spec (s : State) (held : Bool) (hs : s.canonical) :
    (s.setHold held).canonical ∧ (s.setHold held).vmot.hold = held ∧
      ∀ n ∈ s.strings, ((s.setHold held).mot n).decelHeld = held := by
  refine ⟨forEach_canonical _ _ _ hs fun _ _ h => State.motUpd_canonical _ _ _ h,
    forEach_keeps (fun t => t.vmot.hold = held) _ _ _ rfl fun _ _ h => h, fun n hn => ?_⟩
  refine (forEach_setDecelHeld s.strings { s with vmot := { s.vmot with hold := held } } held hs n).trans ?_
  rw [if_pos hn]

/-- R274, R439: of what a conversion does, `State.vmotHold` on the trimmed VMOT alone changes the ramps. -/
theorem State.vmotTake_ramps (s : State) (mV : Nat) (hs : s.canonical) :
    ∃ t : State, t.sameRamps s ∧
      (s.vmotTake mV).sameRamps (t.vmotHold (s.converted 7 mV (s.gn O.vmotVoltage 0))) := by
  unfold State.vmotTake
  extract_lets v published
  have hpublished : published.sameRamps s :=
    State.put_sameRamps (s := s.resumes 7) { State.sameRamps_self hs with canonical := hs } _ _ _ (by decide)
  have hunder : (published.vmotUnder v).sameRamps s := State.vmotUnder_sameRamps hpublished v
  have hheld := State.sameRamps_self (State.vmotHold_canonical _ v hunder.canonical)
  exact ⟨published.vmotUnder v, hunder, State.vmotGood_sameRamps (State.vmotZero_sameRamps (State.vmotAbs_sameRamps
    (State.vmotBrake_sameRamps hheld v) v) v) v⟩

/-- R274: a conversion that makes the hold begin or end does so in every channel of the device. -/
theorem State.vmotTake_hold {s : State} {mV : Nat} {held : Bool} (hs : s.canonical)
    (hturn : ∀ t : State, t.sameRamps s →
      (t.vmotHold (s.converted 7 mV (s.gn O.vmotVoltage 0))).sameRamps (t.setHold held)) :
    (s.vmotTake mV).vmot.hold = held ∧ ∀ n ∈ s.strings, ((s.vmotTake mV).mot n).decelHeld = held := by
  obtain ⟨t, ht, htake⟩ := s.vmotTake_ramps mV hs
  have hset := htake.trans (hturn t ht)
  obtain ⟨-, hhold, hchannels⟩ := t.setHold_spec held ht.canonical
  exact ⟨hset.hold.trans hhold, fun n hn => (hset.ramp n).1.trans (hchannels n (ht.strings.symm ▸ hn))⟩

theorem exec_vmotSample {s : State} (mV : Nat) (hpd : s.pd = true) : exec (.vmotSample mV) s = .next (s.vmotTake mV) := by
  change doneIf s.pd (s.vmotTake mV) s = _
  rw [doneIf, if_pos hpd]

/-! #### The reference of a channel that holds its deceleration (R266, R274) -/

/-- R274: the ramp only rises while the channel holds. -/
theorem State.ref_le_mdRamp {s : State} {n : Nat} (hheld : (s.mot n).decelHeld = true) : (s.mot n).ref ≤ s.mdRamp n := by
  simp only [State.mdRamp, hheld, if_true]
  split
  · exact le_rfl
  · split
    · rename_i hrise
      exact le_min hrise.le (Nat.le_add_right _ _)
    · exact le_rfl

/-- R266: one millisecond of the loop leaves the reference, or makes it the ramp's. -/
theorem State.mdSpeedLoop_ref (s : State) {n : Nat} (hn : n < 65536) (x : Int) (hs : s.canonical) :
    ∃ t : State, t.sameRamps s ∧
      (((s.mdSpeedLoop n x).mot n).ref = (t.mot n).ref ∨ ((s.mdSpeedLoop n x).mot n).ref = t.mdRamp n) := by
  unfold State.mdSpeedLoop
  extract_lets measured resumed m ref ramped d looped dev
  have hmeasured : measured.sameRamps s := State.put_sameRamps (State.sameRamps_self hs) _ _ _ hn
  have hresumed : resumed.sameRamps s := by
    simp only [resumed]
    split
    · exact State.mdResume_sameRamps (State.motUpd_sameRamps hmeasured _ _) hn
    · exact hmeasured
  refine ⟨resumed, hresumed, ?_⟩
  have hcanon : ramped.canonical := State.motUpd_canonical _ _ _ hresumed.canonical
  have href : (ramped.mot n).ref = resumed.mdRamp n := by
    simp only [ramped, State.motUpd_mot_same _ _ _ hresumed.canonical]
    rfl
  have hself : ramped.sameRamps ramped := State.sameRamps_self hcanon
  have hlooped : looped.sameRamps ramped := State.put_sameRamps (State.motUpd_sameRamps hself _ _) _ _ _ hn
  -- An open-loop start and a channel that is not running leave the reference; a running channel takes the ramp's.
  split
  · left
    exact ((State.put_sameRamps (State.sameRamps_self hresumed.canonical) _ _ _ hn).ramp n).2
  · split
    · exact .inl rfl
    · right
      split
      · exact ((State.mdCoast_sameRamps (State.mdLoss_sameRamps hself n) hn 0).ramp n).2.trans href
      · split
        · exact ((State.mdSyncLost_sameRamps hlooped hn 1).ramp n).2.trans href
        · exact (hlooped.ramp n).2.trans href

/-- R274: while a channel holds, a millisecond of its loop does not lower its reference. -/
theorem State.ref_le_mdSpeedLoop {s : State} {n : Nat} (hn : n < 65536) (x : Int) (hs : s.canonical)
    (hheld : (s.mot n).decelHeld = true) : (s.mot n).ref ≤ ((s.mdSpeedLoop n x).mot n).ref := by
  obtain ⟨t, ht, hstands | hramped⟩ := s.mdSpeedLoop_ref hn x hs
  · rw [hstands, (ht.ramp n).2]
  · rw [hramped, ← (ht.ramp n).2]
    exact State.ref_le_mdRamp ((ht.ramp n).1.trans hheld)

theorem exec_motorSpeedLoop (s : State) (n : Fin 4) (x : Int) :
    exec (.motorSpeedLoop n x) s = .next (if s.pd && s.has n.val then s.mdSpeedLoop n.val x else s) := rfl

/-- Settles O28: the conversion turns the hold of every channel (`State.vmotTake_hold`), and nothing else of it touches the hold;
the ramp of a channel that holds only rises (`State.ref_le_mdRamp`). -/
theorem decelerationHeld : Obligations.DecelerationHeld := by
  unfold Obligations.DecelerationHeld
  refine ⟨fun s mV hs hpd habove hhold => ?_, fun s mV hs hpd hbelow hhold => ?_, fun s t n x hs hheld hexec => ?_⟩
  · refine ⟨s.vmotTake mV, exec_vmotSample mV hpd, State.vmotTake_hold hs fun t ht => ?_⟩
    rw [State.vmotHold_begins (ht.level ▸ habove) (ht.hold.trans hhold)]
    exact State.raise_sameRamps (State.sameRamps_self (t.setHold_spec true ht.canonical).1) _ _ _
  · refine ⟨s.vmotTake mV, exec_vmotSample mV hpd, State.vmotTake_hold hs fun t ht => ?_⟩
    rw [State.vmotHold_ends (ht.level ▸ hbelow) (ht.hold.trans hhold)]
    exact State.sameRamps_self (t.setHold_spec false ht.canonical).1
  · rw [exec_motorSpeedLoop] at hexec
    obtain rfl := Host.Outcome.next.inj hexec
    split
    · exact State.ref_le_mdSpeedLoop (n.isLt.trans (by decide)) x hs hheld
    · exact le_rfl

end Sys2Proof.Machine
end

section
/-! Writes that the checks of existence and access refuse (R290, R323). -/

namespace Sys2Proof.Machine

/-! #### The response records itself and leaves the node ID -/

@[simp] theorem State.highWater_qlp (s : State) (ch : Nat) : (s.highWater ch).qlp = s.qlp := by
  unfold State.highWater
  extract_lets n
  split
  · exact State.put_qlp _ _ _ _
  · rfl

theorem State.txPush_reply (s : State) (link : Nat) (o : Out) : (s.txPush link o).qlp.reply = s.qlp.reply := by
  unfold State.txPush
  split
  · rw [State.highWater_qlp]
    rfl
  · rfl

theorem State.txResponse_reply (s : State) (link : Nat) (o : Out) : (s.txResponse link o).qlp.reply = s.qlp.reply := by
  unfold State.txResponse
  split
  · exact State.txPush_reply _ _ _
  · split <;> rfl

theorem State.answerW_reply_status (s : State) (req : Req) (i k st : Nat) :
    ∃ r, (s.answerW req i k st).qlp.reply = some r ∧ r.status = st :=
  ⟨_, State.txResponse_reply _ _ _, rfl⟩

theorem State.answerW_nodeId (s : State) (req : Req) (i k st : Nat) : (s.answerW req i k st).nodeId = s.nodeId := by
  simp only [State.nodeId, State.gn, State.gi, State.answerW_el s req i k st O.qlpNodeId 0 (by decide) (by decide)]

/-! #### What a refused write answers -/

/-- R290: the outcome of a write of an element: the first failed check of existence and access is its whole answer, and a
request that does not reach the device changes nothing. -/
def State.refusesWrite (s : State) (req : Req) (i k : Nat) (o : Host.Outcome State Fault Refusal) : Prop :=
  (s.running = true → s.addressed req.dest = true → s.writeGate i k (s.authOk req) ≠ 0 →
    o = .next ((s.tagSeen req).answerW req i k (s.writeGate i k (s.authOk req)))) ∧
  ((s.running = false ∨ s.addressed req.dest = false) → o = .next s)

theorem State.request_refusesWrite (s : State) (req : Req) (i k : Nat) (op : State → State × Nat) :
    s.refusesWrite req i k (s.request req i k op) := by
  refine ⟨fun hrun haddr hgate => ?_, fun hunheard => ?_⟩
  · simp [State.request, hrun, haddr, hgate]
  · rcases hunheard with hstopped | hother
    · simp [State.request, hstopped]
    · simp [State.request, hother]

/-- R280: what follows a changed node ID does not follow a refusal. -/
theorem State.refusesWrite.withNode {s : State} {req : Req} {i k : Nat} {o : Host.Outcome State Fault Refusal}
    (h : s.refusesWrite req i k o) : s.refusesWrite req i k (withNode s o) := by
  refine ⟨fun hrun haddr hgate => ?_, fun hunheard => ?_⟩
  · have hsame : s.nodeId = ((s.tagSeen req).answerW req i k (s.writeGate i k (s.authOk req))).nodeId := by
      rw [State.answerW_nodeId, State.tagSeen_nodeId]
    rw [h.1 hrun haddr hgate, Machine.withNode, if_pos hsame]
  · rw [h.2 hunheard, Machine.withNode, if_pos rfl]

theorem State.hears_eq_false_iff (s : State) (req : Req) :
    s.hears req = false ↔ s.running = false ∨ s.addressed req.dest = false :=
  Bool.and_eq_false_iff

theorem State.hears_of_running {s : State} {req : Req} (hrun : s.running = true) (haddr : s.addressed req.dest = true) :
    s.hears req = true := by
  rw [State.hears, hrun, haddr]; rfl

theorem following_answerW_of_ne_zero (f : State → State) (s : State) (req : Req) (i k st : Nat) (hst : st ≠ 0) :
    following f (.next (s.answerW req i k st)) = .next (s.answerW req i k st) := by
  obtain ⟨r, hreply, hstatus⟩ := s.answerW_reply_status req i k st
  simp only [following, hreply, hstatus, if_neg hst]

/-- R401, R425: what follows the response to an accepted write does not follow a refusal. -/
theorem State.refusesWrite.following {s : State} {req : Req} {i k : Nat} {o : Host.Outcome State Fault Refusal}
    (h : s.refusesWrite req i k o) (f : State → State) :
    s.refusesWrite req i k (if !s.hears req then done s else following f o) := by
  refine ⟨fun hrun haddr hgate => ?_, fun hunheard => ?_⟩
  · have hheard : s.hears req = true := State.hears_of_running hrun haddr
    simp [hheard, h.1 hrun haddr hgate, following_answerW_of_ne_zero f _ _ _ _ _ hgate]
  · have hunheard' : s.hears req = false := (s.hears_eq_false_iff req).mpr hunheard
    simp [hunheard', done]

/-- R375, R425: only an activation that passes the checks may hand over first. -/
theorem execFirmwareActivate_refusesWrite (s : State) (req : Req) :
    s.refusesWrite req O.firmwareCommand 0 (execFirmwareActivate req s) := by
  have h := (s.request_refusesWrite req O.firmwareCommand 0 State.fwActivate).following State.activateNow
  refine ⟨fun hrun haddr hgate => ?_, fun hunheard => ?_⟩
  · rw [← h.1 hrun haddr hgate]
    simp [execFirmwareActivate, hgate]
  · have hunheard' : s.hears req = false := (s.hears_eq_false_iff req).mpr hunheard
    simp [execFirmwareActivate, hunheard', done]

theorem execQlpNodeIdWrite_refusesWrite (s : State) (req : Req) (value : Nat) :
    s.refusesWrite req O.qlpNodeId 0 (execQlpNodeIdWrite req value s) := by
  refine ⟨fun hrun haddr hgate => ?_, fun hunheard => ?_⟩
  · simp [execQlpNodeIdWrite, hrun, haddr, hgate]
  · rcases hunheard with hstopped | hother
    · simp [execQlpNodeIdWrite, hstopped, done]
    · simp [execQlpNodeIdWrite, hother, done]

/-- Settles O12: every such command is a request (`State.request`); five of them add something of their own before or after
it, which a refusal does not come to. -/
theorem refusedWriteChangesNothing : Obligations.RefusedWriteChangesNothing := by
  unfold Obligations.RefusedWriteChangesNothing
  intro s c req i k hwrite
  change s.refusesWrite req i k (exec c s)
  cases c <;> cases hwrite <;> dsimp only [exec]
  case configDiscard.refl => exact (s.request_refusesWrite req _ _ State.configDiscard).withNode
  case configImageImport.refl image => exact (s.request_refusesWrite req _ _ (·.imageImport image)).withNode
  case deviceResetCommand.refl value =>
    exact (s.request_refusesWrite req _ _ (·.resetCommand value)).following fun t => t.cdReset 9
  case firmwareActivate.refl => exact execFirmwareActivate_refusesWrite s req
  case qlpNodeIdWrite.refl value => exact execQlpNodeIdWrite_refusesWrite s req value
  all_goals exact s.request_refusesWrite req _ _ _

end Sys2Proof.Machine
end

section
/-! CAN messages and their padding (R286). -/

namespace Sys2Proof.Machine

/-! #### The FIFO of a channel -/

@[simp] theorem CanTx.load_fifo (c : CanTx) : c.load.fifo = c.fifo := by
  unfold CanTx.load
  split <;> rfl

/-- A value that is not the default is listed, so that it reads back whatever the map was. -/
theorem mget_mset_same_of_ne {α : Type} [DecidableEq α] {d v : α} (d' : α) (m : SMap α) (k : Nat) (hv : v ≠ d) :
    mget d' (mset d m k v) k = v := by
  rw [mset, if_neg hv, mget_mins_same]

theorem State.canUpd_can_same (s : State) (k : Nat) (f : CanTx → CanTx) (hf : f (s.can k) ≠ {}) :
    (s.canUpd k f).can k = f (s.can k) :=
  mget_mset_same_of_ne _ _ _ hf

theorem State.txPush_fifo (s : State) (link : Nat) (o : Out) (hlink : link < 2) :
    ((s.txPush link o).can link).fifo = (s.can link).fifo ++ [o.padded] := by
  have hlisted : CanTx.load { s.can link with fifo := (s.can link).fifo ++ [o.padded] } ≠ {} := fun h => by
    have hfifo := congrArg CanTx.fifo h
    simp at hfifo
  have hcan (t : State) : (t.highWater link).can link = t.can link := by
    simp only [State.can, State.highWater_qlp]
  rw [State.txPush, if_pos hlink, hcan, State.canUpd_can_same _ _ _ hlisted, CanTx.load_fifo]

/-! #### The valid FD data lengths -/

/-- R286: the data lengths of a CAN FD frame. -/
def fdLengths : List Nat := [0, 1, 2, 3, 4, 5, 6, 7, 8, 12, 16, 20, 24, 32, 48, 64]

theorem fdLength_mem {n : Nat} (hn : n ≤ 64) : fdLength n ∈ fdLengths := by
  unfold fdLength
  split_ifs
  · simp only [fdLengths, List.mem_cons]
    omega
  all_goals decide

theorem le_fdLength {n : Nat} (hn : n ≤ 64) : n ≤ fdLength n := by
  unfold fdLength
  split_ifs <;> omega

/-- No valid length that holds `n` bytes is less. -/
theorem fdLength_le {m n : Nat} (hm : m ∈ fdLengths) (h : n ≤ m) : fdLength n ≤ m := by
  simp only [fdLengths, List.mem_cons, List.not_mem_nil, or_false] at hm
  unfold fdLength
  split_ifs <;> omega

theorem Out.padded_length {o : Out} (h : o.payload.length ≤ 64) :
    o.padded.payload.length = fdLength o.payload.length := by
  simp [Out.padded, Nat.add_sub_cancel' (le_fdLength h)]

/-! #### Reception -/

/-- A field is read from the bytes up to its end. -/
theorem leAt_append (a b : List Byte) (off n : Nat) (h : off + n ≤ a.length) : leAt (a ++ b) off n = leAt a off n := by
  rw [leAt, leAt, List.drop_append_of_le_length (by omega),
    List.take_append_of_le_length (by rw [List.length_drop]; omega)]

theorem reqData_append (f : QlpFrame) (b : List Byte) (h : 12 + reqLen f ≤ f.msg.length) :
    reqData { f with msg := f.msg ++ b } = reqData f := by
  have hlen : reqLen { f with msg := f.msg ++ b } = reqLen f := leAt_append f.msg b 8 4 (by omega)
  rw [reqData, reqData, hlen, List.drop_append_of_le_length (by omega),
    List.take_append_of_le_length (by rw [List.length_drop]; omega)]

/-- Settles O17: `fdLength` answers the least valid length that holds the message, and a request's LENGTH bounds its data. -/
theorem messagesArePadded : Obligations.MessagesArePadded := by
  unfold Obligations.MessagesArePadded
  refine ⟨State.txPush_fifo, fun o ho => ⟨?_, fun n hn hle => ?_, _, rfl⟩, fun f k => reqData_append f _⟩
  · rw [Out.padded_length ho]
    exact fdLength_mem ho
  · rw [Out.padded_length ho]
    exact fdLength_le hn hle

end Sys2Proof.Machine
end

section
/-! The headers of frames (Table 9-2, Table 9-13). -/

namespace Sys2Proof.Machine

/-! #### The field of a header, for each kind of link -/

theorem field_of_can {f : QlpFrame} (hlink : f.link.val < 2) (low byte width : Nat) :
    f.field low byte width = f.ident / 2 ^ low % 2 ^ width := by
  rw [QlpFrame.field, if_pos hlink]

theorem field_of_datagram {f : QlpFrame} (hlink : 2 ≤ f.link.val) (low byte width : Nat) :
    f.field low byte width = (byteAt f.head byte).toNat % 2 ^ width := by
  rw [QlpFrame.field, if_neg (Nat.not_lt.mpr hlink)]

/-! #### The identifier on CAN -/

/-- Table 9-2: the fields of an identifier, from its bits. -/
theorem canId_fields (prio cls dest src seq : Nat) :
    canId prio cls dest src seq / 2 ^ 26 % 2 ^ 3 = prio % 8 ∧ canId prio cls dest src seq / 2 ^ 20 % 2 ^ 6 = cls % 64 ∧
      canId prio cls dest src seq / 2 ^ 13 % 2 ^ 7 = dest % 128 ∧ canId prio cls dest src seq / 2 ^ 6 % 2 ^ 7 = src % 128 ∧
      canId prio cls dest src seq / 2 ^ 0 % 2 ^ 6 = seq % 64 := by
  unfold canId
  omega

theorem canId_lt (prio cls dest src seq : Nat) : canId prio cls dest src seq < 2 ^ 29 := by
  unfold canId
  omega

theorem headerFields_of_can {f : QlpFrame} {prio cls dest src seq : Nat} (hlink : f.link.val < 2)
    (hident : f.ident = canId prio cls dest src seq) :
    f.prio = prio % 8 ∧ f.cls = cls % 64 ∧ f.dest = dest % 128 ∧ f.src = src % 128 ∧ f.seq = seq % 64 := by
  simp only [QlpFrame.prio, QlpFrame.cls, QlpFrame.dest, QlpFrame.src, QlpFrame.seq, field_of_can hlink, hident]
  exact canId_fields prio cls dest src seq

/-! #### The header of a datagram -/

/-- Table 9-13: a header byte by byte. -/
theorem datagramHead_eq (prio cls dest src seq len : Nat) :
    datagramHead prio cls dest src seq len = [1, BitVec.ofNat 8 prio, BitVec.ofNat 8 cls, BitVec.ofNat 8 dest,
      BitVec.ofNat 8 src, BitVec.ofNat 8 seq] ++ le 2 len := rfl

theorem datagramHead_length (prio cls dest src seq len : Nat) : (datagramHead prio cls dest src seq len).length = 8 := rfl

theorem datagramHead_len (prio cls dest src seq len : Nat) :
    leAt (datagramHead prio cls dest src seq len) 6 2 = len % 65536 := by
  rw [datagramHead_eq]
  exact (leAt_behind _ (le 2 len) 0 2).trans (ofLe_le 2 len)

/-- Table 9-13: the bytes of a header from PRIORITY to SEQ. -/
theorem datagramHead_bytes (prio cls dest src seq len : Nat) :
    (byteAt (datagramHead prio cls dest src seq len) 1).toNat = prio % 256 ∧
      (byteAt (datagramHead prio cls dest src seq len) 2).toNat = cls % 256 ∧
      (byteAt (datagramHead prio cls dest src seq len) 3).toNat = dest % 256 ∧
      (byteAt (datagramHead prio cls dest src seq len) 4).toNat = src % 256 ∧
      (byteAt (datagramHead prio cls dest src seq len) 5).toNat = seq % 256 :=
  ⟨rfl, rfl, rfl, rfl, rfl⟩

theorem headerFields_of_datagram {f : QlpFrame} {prio cls dest src seq len : Nat} (hlink : 2 ≤ f.link.val)
    (hhead : f.head = datagramHead prio cls dest src seq len) :
    f.prio = prio % 8 ∧ f.cls = cls % 64 ∧ f.dest = dest % 128 ∧ f.src = src % 128 ∧ f.seq = seq % 64 := by
  obtain ⟨hp, hc, hd, hs, hq⟩ := datagramHead_bytes prio cls dest src seq len
  simp only [QlpFrame.prio, QlpFrame.cls, QlpFrame.dest, QlpFrame.src, QlpFrame.seq, field_of_datagram hlink,
    hhead, hp, hc, hd, hs, hq]
  omega

/-- R311: VERSION is 0x01, the header's size is right, and LENGTH is the message's. -/
theorem badDatagram_datagramHead {f : QlpFrame} {prio cls dest src seq : Nat} (hlen : f.msg.length < 65536)
    (hhead : f.head = datagramHead prio cls dest src seq f.msg.length) : badDatagram f = false := by
  have hversion : byteAt f.head 0 = 1 := by rw [hhead]; rfl
  have hsize : f.head.length = 8 := by rw [hhead, datagramHead_length]
  have hlength : leAt f.head 6 2 = f.msg.length := by rw [hhead, datagramHead_len, Nat.mod_eq_of_lt hlen]
  simp [badDatagram, hversion, hsize, hlength]

/-- R317: fields within their widths leave the bits above them clear. -/
theorem reservedSet_datagramHead {f : QlpFrame} {prio cls dest src seq len : Nat}
    (hprio : prio < 8) (hcls : cls < 64) (hdest : dest < 128) (hsrc : src < 128) (hseq : seq < 64)
    (hhead : f.head = datagramHead prio cls dest src seq len) : reservedSet f = false := by
  obtain ⟨hp, hc, hd, hs, hq⟩ := datagramHead_bytes prio cls dest src seq len
  have hbyte {v n : Nat} (hv : v < n) (hn : n ≤ 256) : v % 256 < n := by omega
  simp [reservedSet, hhead, hp, hc, hd, hs, hq, hbyte hprio, hbyte hcls, hbyte hdest, hbyte hsrc, hbyte hseq]

/-- Settles O18: a header's fields are read modulo their widths (`headerFields_of_can`, `headerFields_of_datagram`), and
each value is within its width. -/
theorem frameHeadersReadBack : Obligations.FrameHeadersReadBack := by
  unfold Obligations.FrameHeadersReadBack
  intro f prio cls dest src seq hprio hcls hdest hsrc hseq
  have hwithin : f.prio = prio % 8 ∧ f.cls = cls % 64 ∧ f.dest = dest % 128 ∧ f.src = src % 128 ∧ f.seq = seq % 64 →
      f.prio = prio ∧ f.cls = cls ∧ f.dest = dest ∧ f.src = src ∧ f.seq = seq := by
    omega
  refine ⟨fun hlink hident => ?_, fun hlink hlen hhead => ?_⟩
  · obtain ⟨hp, hc, hd, hs, hq⟩ := hwithin (headerFields_of_can hlink hident)
    exact ⟨hp, hc, hd, hs, hq, hident ▸ canId_lt _ _ _ _ _⟩
  · obtain ⟨hp, hc, hd, hs, hq⟩ := hwithin (headerFields_of_datagram hlink hhead)
    exact ⟨hp, hc, hd, hs, hq, badDatagram_datagramHead hlen hhead,
      reservedSet_datagramHead hprio hcls hdest hsrc hseq hhead⟩

end Sys2Proof.Machine
end

section
/-! The canonical form of the stored state (R324): the state after reset has it, every step keeps it, and in it a stored
element reads as stored. -/

namespace Sys2Proof.Machine

/-! #### The state after reset -/

/-- Records at rising numbers, each the same and none at the default, are in canonical form above any lower number. -/
theorem mwfFrom_map_const {α : Type} [DecidableEq α] {d v : α} (hv : v ≠ d) (l : List Nat) (hl : l.Pairwise (· < ·))
    (lo : Option Nat) (hlo : ∀ a, lo = some a → ∀ k ∈ l, a < k) :
    mwfFrom (fun _ => d) lo (l.map fun k => (k, v)) = true := by
  induction l generalizing lo with
  | nil => exact mwf_nil _ lo
  | cons k l ih =>
    obtain ⟨hk, hrest⟩ := List.pairwise_cons.1 hl
    rw [List.map_cons, mwf_cons]
    refine ⟨fun a ha => hlo a ha k List.mem_cons_self, hv, ih hrest (some k) ?_⟩
    rintro _ ⟨⟩
    exact hk

/-- The first `n` records, each the same and none at the default, are in canonical form. -/
theorem recordsWf_range {α : Type} [DecidableEq α] {d v : α} (hv : v ≠ d) (n : Nat) :
    recordsWf d ((List.range n).map fun k => (k, v)) :=
  mwfFrom_map_const hv _ List.pairwise_lt_range none nofun

/-- R237: as shipped every driver is due for proof; no other record and no element is listed. -/
theorem State.reset_driversWf : driversWf State.reset.drivers :=
  recordsWf_range (by decide) 12

/-- Settles O4: of all the maps only the drivers' lists anything, and no driver that is due stands for itself. -/
theorem resetCanonical : Obligations.ResetCanonical := by
  unfold Obligations.ResetCanonical
  exact ⟨rfl, State.reset_driversWf, rfl, rfl, rfl, rfl, rfl, rfl, rfl, rfl, rfl, rfl⟩

/-! #### Every step -/

/-- Every command keeps the canonical form, each by its own law. -/
theorem exec_canonical (c : Instr) (s : State) (hs : s.canonical) : nextSat (exec c s) fun t => t.canonical := by
  cases c with
  | lockstepMismatch => exact execLockstepMismatch_canonical s hs
  | clockMonitorGate count1 count5 byDomain8 => exact execClockMonitorGate_canonical count1 count5 byDomain8 s hs
  | clockFaultRelease => exact execClockFaultRelease_canonical s hs
  | domain8Loss => exact execDomain8Loss_canonical s hs
  | interdieFrameReceived atPower f => exact execInterdieFrameReceived_canonical atPower f s hs
  | interdieLinkTimeout atPower => exact execInterdieLinkTimeout_canonical atPower s hs
  | interdieIdleSend fromPower => exact execInterdieIdleSend_canonical fromPower s hs
  | outputRequest r => exact execOutputRequest_canonical r s hs
  | tripOpenRequest string => exact execTripOpenRequest_canonical string s hs
  | watchdogAnswer k value at9 => exact execWatchdogAnswer_canonical k value at9 s hs
  | watchdogWindowEnd => exact execWatchdogWindowEnd_canonical s hs
  | eventMatrixEvaluate => exact execEventMatrixEvaluate_canonical s hs
  | eventRouteWrite req source value => exact execEventRouteWrite_canonical req source value s hs
  | sramEccError area uncorrectable item => exact execSramEccError_canonical area uncorrectable item s hs
  | tableSetReloadDone set => exact execTableSetReloadDone_canonical set s hs
  | learnedDataCommit string worn => exact execLearnedDataCommit_canonical string worn s hs
  | weldStateCommit string worn => exact execWeldStateCommit_canonical string worn s hs
  | laneLost ring loss => exact execLaneLost_canonical ring loss s hs
  | laneRestored ring valid => exact execLaneRestored_canonical ring valid s hs
  | tallyTrigger => exact execTallyTrigger_canonical s hs
  | tallyInstant busdetUv => exact execTallyInstant_canonical busdetUv s hs
  | sample ring bEnd frame => exact execSample_canonical ring bEnd frame s hs
  | comparatorSourceRaise ring kind number => exact execComparatorSourceRaise_canonical ring kind number s hs
  | hopMissing ring bEnd hop => exact execHopMissing_canonical ring bEnd hop s hs
  | trainEotReturned ring bEnd => exact execTrainEotReturned_canonical ring bEnd s hs
  | trainTimeout ring bEnd => exact execTrainTimeout_canonical ring bEnd s hs
  | returnPathCheck ring r => exact execReturnPathCheck_canonical ring r s hs
  | idleSlotLaunch ring bEnd => exact execIdleSlotLaunch_canonical ring bEnd s hs
  | ident ring bEnd frame => exact execIdent_canonical ring bEnd frame s hs
  | echoBack ring bEnd frame t0 t1 => exact execEchoBack_canonical ring bEnd frame t0 t1 s hs
  | configAck ring bEnd frame => exact execConfigAck_canonical ring bEnd frame s hs
  | status ring bEnd frame => exact execStatus_canonical ring bEnd frame s hs
  | balAck ring bEnd frame => exact execBalAck_canonical ring bEnd frame s hs
  | openWireResult ring bEnd frame => exact execOpenWireResult_canonical ring bEnd frame s hs
  | authResult ring bEnd frame => exact execAuthResult_canonical ring bEnd frame s hs
  | authMac ring bEnd frame => exact execAuthMac_canonical ring bEnd frame s hs
  | rejoinResult ring bEnd frame => exact execRejoinResult_canonical ring bEnd frame s hs
  | authReadDue ring pos => exact execAuthReadDue_canonical ring pos s hs
  | authRetry ring pos => exact execAuthRetry_canonical ring pos s hs
  | moduleAuthDue ring pos => exact execModuleAuthDue_canonical ring pos s hs
  | enumerationStart ring => exact execEnumerationStart_canonical ring s hs
  | enumerationWaitDone ring aIdle bIdle => exact execEnumerationWaitDone_canonical ring aIdle bIdle s hs
  | manifestMismatchReenumerate ring => exact execManifestMismatchReenumerate_canonical ring s hs
  | tallyPeriodWrite req value => exact execTallyPeriodWrite_canonical req value s hs
  | tallyPeriodApply => exact execTallyPeriodApply_canonical s hs
  | currentOutput string dsiBits isaCode => exact execCurrentOutput_canonical string dsiBits isaCode s hs
  | fastPathDebounceExpiry string => exact execFastPathDebounceExpiry_canonical string s hs
  | currentSampleDelivered string ch => exact execCurrentSampleDelivered_canonical string ch s hs
  | dsiStuckFault string => exact execDsiStuckFault_canonical string s hs
  | isaRangeFault string => exact execIsaRangeFault_canonical string s hs
  | currentFaultClear string ch => exact execCurrentFaultClear_canonical string ch s hs
  | crossCheckDisagree string => exact execCrossCheckDisagree_canonical string s hs
  | tempDwellEnd ring pos slot => exact execTempDwellEnd_canonical ring pos slot s hs
  | tempStaleTimeout ring pos input => exact execTempStaleTimeout_canonical ring pos input s hs
  | sweepComplete ring => exact execSweepComplete_canonical ring s hs
  | staleTrip ring cell => exact execStaleTrip_canonical ring cell s hs
  | deratingClear string code => exact execDeratingClear_canonical string code s hs
  | balancePlan => exact execBalancePlan_canonical s hs
  | openWireSuspect ring cell => exact execOpenWireSuspect_canonical ring cell s hs
  | openWireTestStart ring pos channel => exact execOpenWireTestStart_canonical ring pos channel s hs
  | openWireTestEvaluate ring pos => exact execOpenWireTestEvaluate_canonical ring pos s hs
  | openWireRetest ring pos => exact execOpenWireRetest_canonical ring pos s hs
  | openWireRotation ring pos channel => exact execOpenWireRotation_canonical ring pos channel s hs
  | openWireRequest req value => exact execOpenWireRequest_canonical req value s hs
  | openWireRequestDone => exact execOpenWireRequestDone_canonical s hs
  | captureArm req value => exact execCaptureArm_canonical req value s hs
  | captureTrigger req value => exact execCaptureTrigger_canonical req value s hs
  | captureFreeze => exact execCaptureFreeze_canonical s hs
  | euWorkItemClaim eu => exact execEuWorkItemClaim_canonical eu s hs
  | euUpdateComplete eu residueOk => exact execEuUpdateComplete_canonical eu residueOk s hs
  | euHandshakeTimeout eu => exact execEuHandshakeTimeout_canonical eu s hs
  | epochDeadline string => exact execEpochDeadline_canonical string s hs
  | estimationHeld string => exact execEstimationHeld_canonical string s hs
  | rateStepUp region => exact execRateStepUp_canonical region s hs
  | fabricKnownAnswerTest eu pass => exact execFabricKnownAnswerTest_canonical eu pass s hs
  | fabricSelfTestRequest req value => exact execFabricSelfTestRequest_canonical req value s hs
  | fabricSelfTestDone failed => exact execFabricSelfTestDone_canonical failed s hs
  | modelTableFileWrite req set file => exact execModelTableFileWrite_canonical req set file s hs
  | tableSetLoadDone set => exact execTableSetLoadDone_canonical set s hs
  | currentPlausibilityWindow string => exact execCurrentPlausibilityWindow_canonical string s hs
  | restPointFormed string => exact execRestPointFormed_canonical string s hs
  | stringDisagreementEnter string => exact execStringDisagreementEnter_canonical string s hs
  | channelAuditRepeat string => exact execChannelAuditRepeat_canonical string s hs
  | capLearnReportRequest req value => exact execCapLearnReportRequest_canonical req value s hs
  | capLearnReportDone => exact execCapLearnReportDone_canonical s hs
  | impedanceSnapshotRequest req value => exact execImpedanceSnapshotRequest_canonical req value s hs
  | impedanceSnapshotTimeout => exact execImpedanceSnapshotTimeout_canonical s hs
  | stringClose req string => exact execStringClose_canonical req string s hs
  | stringOpen req string => exact execStringOpen_canonical req string s hs
  | contactorStep => exact execContactorStep_canonical s hs
  | closeTurnGranted string => exact execCloseTurnGranted_canonical string s hs
  | weldCheckElapsed string => exact execWeldCheckElapsed_canonical string s hs
  | prechargeDeadline string => exact execPrechargeDeadline_canonical string s hs
  | prechargeCooldownEnd string => exact execPrechargeCooldownEnd_canonical string s hs
  | closingCloseTimeElapsed string => exact execClosingCloseTimeElapsed_canonical string s hs
  | closingDropTimeElapsed string => exact execClosingDropTimeElapsed_canonical string s hs
  | joinWaitTimeout string => exact execJoinWaitTimeout_canonical string s hs
  | openRampTimeout string => exact execOpenRampTimeout_canonical string s hs
  | breakMaxRepeat string => exact execBreakMaxRepeat_canonical string s hs
  | openingWeldTest string => exact execOpeningWeldTest_canonical string s hs
  | openingDropElapsed string => exact execOpeningDropElapsed_canonical string s hs
  | postTripWeldCheck string => exact execPostTripWeldCheck_canonical string s hs
  | tripReset req mask => exact execTripReset_canonical req mask s hs
  | weldClear req mask => exact execWeldClear_canonical req mask s hs
  | pullInEnd driver => exact execPullInEnd_canonical driver s hs
  | coilFaultDetected driver c => exact execCoilFaultDetected_canonical driver c s hs
  | currentSourceNoneTimeout string => exact execCurrentSourceNoneTimeout_canonical string s hs
  | tempInputLossTimeout ring pos => exact execTempInputLossTimeout_canonical ring pos s hs
  | overLimitTimeout string => exact execOverLimitTimeout_canonical string s hs
  | safetyInputChange pair chB level => exact execSafetyInputChange_canonical pair chB level s hs
  | safetyDiscrepancyTimeout pair => exact execSafetyDiscrepancyTimeout_canonical pair s hs
  | safeOffReport pair asserted => exact execSafeOffReport_canonical pair asserted s hs
  | safetyInputSelfTest follows => exact execSafetyInputSelfTest_canonical follows s hs
  | oscillatorCrossCheck count7 count9 => exact execOscillatorCrossCheck_canonical count7 count9 s hs
  | offPulseStart driver highSide => exact execOffPulseStart_canonical driver highSide s hs
  | offPulseCheck driver mA => exact execOffPulseCheck_canonical driver mA s hs
  | offPulseEnd driver => exact execOffPulseEnd_canonical driver s hs
  | offStateCheck driver hsMa lsMa coilMa => exact execOffStateCheck_canonical driver hsMa lsMa coilMa s hs
  | openingProofDue driver => exact execOpeningProofDue_canonical driver s hs
  | openingProofOverdue driver => exact execOpeningProofOverdue_canonical driver s hs
  | contactorOpenTestRequest req value => exact execContactorOpenTestRequest_canonical req value s hs
  | openTestStepCheck => exact execOpenTestStepCheck_canonical s hs
  | openTestStepDropDone => exact execOpenTestStepDropDone_canonical s hs
  | safetyConfigReadback upset => exact execSafetyConfigReadback_canonical upset s hs
  | loadSwitchCmdOff req ls => exact execLoadSwitchCmdOff_canonical req ls s hs
  | loadSwitchCmdOn req ls => exact execLoadSwitchCmdOn_canonical req ls s hs
  | loadSwitchCmdPwm req ls => exact execLoadSwitchCmdPwm_canonical req ls s hs
  | lsOvercurrentTrip ls => exact execLsOvercurrentTrip_canonical ls s hs
  | lsThermalLatchSet ls => exact execLsThermalLatchSet_canonical ls s hs
  | lsThermalLatchClear ls => exact execLsThermalLatchClear_canonical ls s hs
  | lsRetryRestart ls => exact execLsRetryRestart_canonical ls s hs
  | lsRetryCountReset ls => exact execLsRetryCountReset_canonical ls s hs
  | lsFaultClear req mask => exact execLsFaultClear_canonical req mask s hs
  | lsOnOpenLoad ls low => exact execLsOnOpenLoad_canonical ls low s hs
  | lsOffStateDiag ls c => exact execLsOffStateDiag_canonical ls c s hs
  | dissipationEstimate m => exact execDissipationEstimate_canonical m s hs
  | governorShed => exact execGovernorShed_canonical s hs
  | governorRestore => exact execGovernorRestore_canonical s hs
  | motorSpeedCommand req md rpm => exact execMotorSpeedCommand_canonical req md rpm s hs
  | motorSpeedLoop md shuntMa => exact execMotorSpeedLoop_canonical md shuntMa s hs
  | motorZeroCrossing md x => exact execMotorZeroCrossing_canonical md x s hs
  | motorCommutation md => exact execMotorCommutation_canonical md s hs
  | motorCrossingTimeout md => exact execMotorCrossingTimeout_canonical md s hs
  | motorCoastWaitEnd md => exact execMotorCoastWaitEnd_canonical md s hs
  | motorCatchSpinEnd md intervals bemfMv => exact execMotorCatchSpinEnd_canonical md intervals bemfMv s hs
  | motorStopped md => exact execMotorStopped_canonical md s hs
  | motorAlignEnd md => exact execMotorAlignEnd_canonical md s hs
  | motorStartHandover md intervals => exact execMotorStartHandover_canonical md intervals s hs
  | motorStartTimeout md => exact execMotorStartTimeout_canonical md s hs
  | motorRetryDelay md => exact execMotorRetryDelay_canonical md s hs
  | motorCurrentLimit md hit => exact execMotorCurrentLimit_canonical md hit s hs
  | motorLimitTimeTrip md => exact execMotorLimitTimeTrip_canonical md s hs
  | motorVdsTrip md lowSide => exact execMotorVdsTrip_canonical md lowSide s hs
  | motorThermalLatch md set => exact execMotorThermalLatch_canonical md set s hs
  | motorGateUv md => exact execMotorGateUv_canonical md s hs
  | motorClockLoss => exact execMotorClockLoss_canonical s hs
  | motorFaultClear req mask => exact execMotorFaultClear_canonical req mask s hs
  | vmotSample mV => exact execVmotSample_canonical mV s hs
  | vmotRecovery => exact execVmotRecovery_canonical s hs
  | brakeFaultCheck inst vmotMv brkMa => exact execBrakeFaultCheck_canonical inst vmotMv brkMa s hs
  | brakeFaultClear req value => exact execBrakeFaultClear_canonical req value s hs
  | qlpRead f => exact execQlpRead_canonical f s hs
  | qlpWrite f => exact execQlpWrite_canonical f s hs
  | sessionOpen f => exact execSessionOpen_canonical f s hs
  | sessionAuth f => exact execSessionAuth_canonical f s hs
  | sessionClose f => exact execSessionClose_canonical f s hs
  | timeSet f ageUs => exact execTimeSet_canonical f ageUs s hs
  | blockSegment f => exact execBlockSegment_canonical f s hs
  | blockAck f => exact execBlockAck_canonical f s hs
  | blockAbort f => exact execBlockAbort_canonical f s hs
  | segmentTimeout link src => exact execSegmentTimeout_canonical link src s hs
  | sessionTimeout => exact execSessionTimeout_canonical s hs
  | nonceExpiry link src => exact execNonceExpiry_canonical link src s hs
  | authLockoutEnd => exact execAuthLockoutEnd_canonical s hs
  | qlpNodeIdWrite req value => exact execQlpNodeIdWrite_canonical req value s hs
  | canTxDone ch won sofDelay tdcNs => exact execCanTxDone_canonical ch won sofDelay tdcNs s hs
  | responseQueueTimeout link => exact execResponseQueueTimeout_canonical link s hs
  | canBusOff ch txErr rxErr busOff => exact execCanBusOff_canonical ch txErr rxErr busOff s hs
  | canBusOffRecovery ch => exact execCanBusOffRecovery_canonical ch s hs
  | canTimingApply ch => exact execCanTimingApply_canonical ch s hs
  | lighthouseDue ch => exact execLighthouseDue_canonical ch s hs
  | ptpSyncReceived sync interval16 master utcOffset => exact execPtpSyncReceived_canonical sync interval16 master utcOffset s hs
  | ptpHoldoverTimeout => exact execPtpHoldoverTimeout_canonical s hs
  | timeStepApply => exact execTimeStepApply_canonical s hs
  | timeMarkCommit worn => exact execTimeMarkCommit_canonical worn s hs
  | timeSetLockExpiry => exact execTimeSetLockExpiry_canonical s hs
  | eventAcknowledge req value => exact execEventAcknowledge_canonical req value s hs
  | streamSnapshotDue stream => exact execStreamSnapshotDue_canonical stream s hs
  | ethLinkUp fast full => exact execEthLinkUp_canonical fast full s hs
  | arpRequest targetIp sender => exact execArpRequest_canonical targetIp sender s hs
  | icmpEchoRequest len fragment sender => exact execIcmpEchoRequest_canonical len fragment sender s hs
  | manifestFileWrite req file => exact execManifestFileWrite_canonical req file s hs
  | manifestAdoptUids req mask => exact execManifestAdoptUids_canonical req mask s hs
  | configSave req => exact execConfigSave_canonical req s hs
  | configDiscard req => exact execConfigDiscard_canonical req s hs
  | configFactoryDefaults req => exact execConfigFactoryDefaults_canonical req s hs
  | configImageImport req image => exact execConfigImageImport_canonical req image s hs
  | berthInChange level => exact execBerthInChange_canonical level s hs
  | claimWaitExpiry => exact execClaimWaitExpiry_canonical s hs
  | claimConflictWithdraw => exact execClaimConflictWithdraw_canonical s hs
  | claimRefreshTimeout => exact execClaimRefreshTimeout_canonical s hs
  | holdingRelease => exact execHoldingRelease_canonical s hs
  | holdingTimeout => exact execHoldingTimeout_canonical s hs
  | handoverOffer tally tail => exact execHandoverOffer_canonical tally tail s hs
  | handoverAccept tally tail => exact execHandoverAccept_canonical tally tail s hs
  | handoverRefuse tally tail => exact execHandoverRefuse_canonical tally tail s hs
  | handoverTaken tally tail => exact execHandoverTaken_canonical tally tail s hs
  | chainReq ring command latest tail => exact execChainReq_canonical ring command latest tail s hs
  | chainFwd ring decodedAt frame tail => exact execChainFwd_canonical ring decodedAt frame tail s hs
  | duplexTally index period time tail => exact execDuplexTally_canonical index period time tail s hs
  | mirror m tail => exact execMirror_canonical m tail s hs
  | hello h tail => exact execHello_canonical h tail s hs
  | ringDelays payload tail => exact execRingDelays_canonical payload tail s hs
  | duplexLinkDown => exact execDuplexLinkDown_canonical s hs
  | duplexLinkUp => exact execDuplexLinkUp_canonical s hs
  | berthHandOver req => exact execBerthHandOver_canonical req s hs
  | berthTake req => exact execBerthTake_canonical req s hs
  | berthRevert => exact execBerthRevert_canonical s hs
  | standbyTakeoverSweep ring => exact execStandbyTakeoverSweep_canonical ring s hs
  | logRecordSealTimeout => exact execLogRecordSealTimeout_canonical s hs
  | logProgram failing => exact execLogProgram_canonical failing s hs
  | logSuppressedReport => exact execLogSuppressedReport_canonical s hs
  | logClear req code => exact execLogClear_canonical req code s hs
  | logFlushLevel vauxMv => exact execLogFlushLevel_canonical vauxMv s hs
  | supplyRecovery vauxMv => exact execSupplyRecovery_canonical vauxMv s hs
  | brownOutWarning vauxMv => exact execBrownOutWarning_canonical vauxMv s hs
  | brownOutClear vauxMv => exact execBrownOutClear_canonical vauxMv s hs
  | powerDieReset vauxMv => exact execPowerDieReset_canonical vauxMv s hs
  | regulatorFault vddcMv vddioMv => exact execRegulatorFault_canonical vddcMv vddioMv s hs
  | powerOn vauxMv => exact execPowerOn_canonical vauxMv s hs
  | powerDieResetRelease berthPref => exact execPowerDieResetRelease_canonical berthPref s hs
  | computeDieResetRelease => exact execComputeDieResetRelease_canonical s hs
  | startupComplete c => exact execStartupComplete_canonical c s hs
  | chainWakeEnd ring => exact execChainWakeEnd_canonical ring s hs
  | watchdogEscalation => exact execWatchdogEscalation_canonical s hs
  | resetNAssert => exact execResetNAssert_canonical s hs
  | resetNRelease => exact execResetNRelease_canonical s hs
  | deviceResetCommand req value => exact execDeviceResetCommand_canonical req value s hs
  | mooredWatchCommand req => exact execMooredWatchCommand_canonical req s hs
  | mooredDarkCommand req => exact execMooredDarkCommand_canonical req s hs
  | mooredEntryComplete => exact execMooredEntryComplete_canonical s hs
  | mooredWake w => exact execMooredWake_canonical w s hs
  | mooredDarkAuto => exact execMooredDarkAuto_canonical s hs
  | siteKeyWrite req blob => exact execSiteKeyWrite_canonical req blob s hs
  | moduleKeyWrite req ring blob => exact execModuleKeyWrite_canonical req ring blob s hs
  | lifecycleCommission req value => exact execLifecycleCommission_canonical req value s hs
  | lifecycleInService req value => exact execLifecycleInService_canonical req value s hs
  | lifecycleMaintenance req value => exact execLifecycleMaintenance_canonical req value s hs
  | lifecycleRetire req value => exact execLifecycleRetire_canonical req value s hs
  | tamperAcknowledge req mask => exact execTamperAcknowledge_canonical req mask s hs
  | firmwareBegin req => exact execFirmwareBegin_canonical req s hs
  | firmwareEraseDone => exact execFirmwareEraseDone_canonical s hs
  | firmwareChunkWrite req chunk bytes => exact execFirmwareChunkWrite_canonical req chunk bytes s hs
  | firmwareVerify req => exact execFirmwareVerify_canonical req s hs
  | firmwareActivate req => exact execFirmwareActivate_canonical req s hs
  | firmwareAbort req => exact execFirmwareAbort_canonical req s hs
  | firmwareTrialConfirm => exact execFirmwareTrialConfirm_canonical s hs
  | dieSensorConversion readings => exact execDieSensorConversion_canonical readings s hs
  | dieSensorBroken sensor late => exact execDieSensorBroken_canonical sensor late s hs
  | throttleStageEnter scope stage => exact execThrottleStageEnter_canonical scope stage s hs
  | throttleStageLeave scope stage => exact execThrottleStageLeave_canonical scope stage s hs
  | dieTempFrameTimeout => exact execDieTempFrameTimeout_canonical s hs
  | thermalShed => exact execThermalShed_canonical s hs
  | thermalRestore => exact execThermalRestore_canonical s hs
  | scrubPass corrected => exact execScrubPass_canonical corrected s hs
  | converterCalibration conv ppm => exact execConverterCalibration_canonical conv ppm s hs
  | integrityCheck c => exact execIntegrityCheck_canonical c s hs
  | deviceSelfTestRequest req value => exact execDeviceSelfTestRequest_canonical req value s hs
  | deviceSelfTestDone found => exact execDeviceSelfTestDone_canonical found s hs
  | lsLimiting ls reached => exact execLsLimiting_canonical ls reached s hs
  | gateSupplyRecovered md => exact execGateSupplyRecovered_canonical md s hs
  | motorRetryCountReset md => exact execMotorRetryCountReset_canonical md s hs
  | ethLinkDown => exact execEthLinkDown_canonical s hs
  | duplexHelloSend => exact execDuplexHelloSend_canonical s hs
  | armingRefreshTimeout => exact execArmingRefreshTimeout_canonical s hs

/-- Settles O6: a step is a command, which keeps the canonical form (`exec_canonical`), or one microsecond of local time, which
keeps it too (`State.tick_canonical`). -/
theorem stepKeepsCanonical : Obligations.StepKeepsCanonical := by
  unfold Obligations.StepKeepsCanonical
  intro s t hs hstep
  cases hq : s.pending with
  | nil =>
    obtain rfl : s.tick = t := by simpa [step_of_empty s hq] using hstep
    exact s.tick_canonical hs
  | cons c rest =>
    have hexec : exec c { s with pending := rest } = .next t := by simpa only [step, hq] using hstep
    exact exec_canonical c { s with pending := rest } hs t hexec

/-! #### Reads after a store -/

/-- Settles O11: the store is a write to the sparse map at the element's key, and different elements have different keys. -/
theorem storeThenRead : Obligations.StoreThenRead := by
  unfold Obligations.StoreThenRead
  intro s i sub v hs hsub
  refine ⟨s.putL_el_same i sub v hs, fun j k hk hother => ?_⟩
  exact s.putL_el_other i sub v j k (okey_ne hsub hk hother)

end Sys2Proof.Machine
end

section
/-! Requests that pass the checks of every request (R280 to R292, R317, R420), and the index range 0xF000 to 0xFFFF (R325). -/

namespace Sys2Proof.Machine

/-! #### The checks of every request -/

/-- R280, R281: the checks that let a frame through change nothing; each refusal answers false. -/
theorem State.accepts_state {s : State} {f : QlpFrame} (h : (s.accepts f).2 = true) : (s.accepts f).1 = s := by
  unfold State.accepts at h ⊢
  split_ifs at h ⊢
  rfl

/-- R280, R281, R285: what a frame that the device goes on with comes to. -/
theorem State.receive_of_accepted {s : State} {f : QlpFrame} {cls : Nat} (hframe : s.wellFramed f) (hcls : f.cls = cls)
    (haccepts : ((s.countIn f).accepts f).2 = true) (op : State → State) :
    s.receive f cls op = .next (op (s.countIn f)) := by
  obtain ⟨hrun, hlink, hqlp, hdatagram, -⟩ := hframe
  simp [State.receive, hrun, hlink, hqlp, hdatagram, hcls, haccepts, State.accepts_state haccepts]

/-- R287, R292, R317, R420: a new request that passes the checks of every request is run on the state in which it is counted; a
RETIRED device goes on with a READ and with a WRITE of index 0xF000 and above only. -/
theorem State.ask_of_admits {s : State} {f : QlpFrame} {op : Nat} (hadmits : s.admits f op) (hfresh : s.fresh f)
    (hop : op ∈ knownOps) (hservice : (s.asked f).lifecycle = 4 → op = 1 ∨ op = 2 ∧ 0xF000 ≤ reqIndex f)
    (run : State → State) : s.ask f op run = .next (run (s.asked f)) := by
  obtain ⟨hframe, hcls, haccepts, hreq, hrate, hformed⟩ := hadmits
  obtain ⟨hkept, htransfers⟩ := hfresh
  have hreserved : reservedSet f = false := hframe.2.2.2.2
  have hserved : ¬(((s.asked f).lifecycle = 4 ∧ ¬op = 1) ∧ (¬op = 2 ∨ reqIndex f < 0xF000)) := by omega
  rw [State.ask, if_neg (by simp [hreq]), State.receive_of_accepted hframe hcls haccepts]
  unfold State.asked at hkept htransfers hserved ⊢
  simp [hrate, hreserved, hformed, hreq, hop, hkept, htransfers, hserved]

/-! #### Index 0xF000 to 0xFFFF -/

section testIndex
variable {f : QlpFrame} (hindex : 0xF000 ≤ reqIndex f)
include hindex

/-- R325, R420: the index is judged before the life-cycle state. -/
theorem State.readRun_of_testIndex (s : State) : s.readRun f = s.answer f 0x0101 (reqSub f) := by
  simp [State.readRun, State.readCheck, hindex]

/-- R323, R325: existence is the first check to be answered, whatever the tag came to. -/
theorem State.writeRun_of_testIndex (s : State) (data : List Byte) (ok : Session → Bool) :
    s.writeRun f data ok = State.answer
      (if reqTagged f then (s.tagCheck f data (s.shortStatus (reqIndex f) (reqSub f)) ok).1 else s) f 0x0101 (reqSub f) := by
  simp [State.writeRun, State.rangeExists, hindex, accept, apply_ite Prod.fst]

end testIndex

/-- R293: a WRITE that carries all its data is run at once. -/
theorem State.writeStart_of_complete (s : State) {f : QlpFrame} (h : reqSegmented f = false ∨ 12 + reqLen f ≤ f.msg.length) :
    s.writeStart f = s.writeRun f (reqData f) fun _ => true := by
  simp [State.writeStart, h]

/-- Settles O14: both requests pass the checks of every request in every life-cycle state (`State.ask_of_admits`), and then the
index is refused before anything else is judged. -/
theorem testIndicesAnswer0101 : Obligations.TestIndicesAnswer0101 := by
  unfold Obligations.TestIndicesAnswer0101
  intro s f hindex hfresh
  refine ⟨fun hread => ?_, fun hwrite hcomplete => ?_, fun u data ok => ⟨_, u.writeRun_of_testIndex hindex data ok⟩⟩
  · change s.ask f 1 (fun s => s.readRun f) = _
    rw [State.ask_of_admits hread hfresh (by decide) fun _ => .inl rfl, State.readRun_of_testIndex hindex]
  · change s.ask f 2 (fun s => s.writeStart f) = _
    rw [State.ask_of_admits hwrite hfresh (by decide) fun _ => .inr ⟨rfl, hindex⟩, State.writeStart_of_complete _ hcomplete,
      State.writeRun_of_testIndex hindex]

end Sys2Proof.Machine
end

section
/-! Writes that a device in standby or lockout refuses (R358). -/

namespace Sys2Proof.Machine

/-! #### The objects of R358 -/

/-- R323: each of them can be written, and of them only `WeldClear` asks for the session. -/
theorem berthWrites_rows : ∀ i ∈ berthWrites, ∃ o ∈ objRow i, o.acc ≠ .ro ∧ (o.acc = .auth → i = O.weldClear) := by
  decide

theorem berthWrites_subset_commandObjs : berthWrites ⊆ commandObjs := by
  decide

theorem ne_logClear_of_mem_berthWrites {i : Nat} (hi : i ∈ berthWrites) : i ≠ O.logClear := by
  rintro rfl
  exact absurd hi (by decide)

/-! #### The check of access -/

/-- R358: `BerthState` of a standby, armed or not, and of a device in lockout. -/
def State.standsBy (s : State) : Prop := s.berthState = 3 ∨ s.berthState = 4 ∨ s.berthState = 5

theorem State.berthRefuses_of_standsBy {s : State} (h : s.standsBy) : s.berthRefuses = true := by
  have hlisted : s.berthState ∈ [3, 4, 5] := by simpa [State.standsBy] using h
  simp [State.berthRefuses, hlisted]

/-- R323, R358: a write that passes the checks before it is refused for the role. -/
theorem State.writeGate_of_standsBy {s : State} {i k : Nat} {auth : Bool} (hi : i ∈ berthWrites) (hlife : s.lifecycle ≠ 4)
    (hexists : s.existCheck i k = 0) (hauth : i = O.weldClear → auth = true) (hrole : s.standsBy) :
    s.writeGate i k auth = 0x0205 := by
  obtain ⟨o, hrow, hwritable, hsession⟩ := berthWrites_rows i hi
  rw [Option.mem_def] at hrow
  have haccess : o.acc = .auth → auth = true := fun hacc => hauth (hsession hacc)
  simpa [State.writeGate, hlife, hexists, hrow, hwritable, ne_logClear_of_mem_berthWrites hi, hi,
    State.berthRefuses_of_standsBy hrole] using haccess

/-! #### WRITE -/

/-- R320: what a range that exists comes to. -/
theorem State.rangeExists_some {s : State} {i sub count : Nat} (h : s.rangeExists i sub count = (0, sub)) :
    i < 0xF000 ∧ ∃ o, objRow i = some o ∧ sub < o.elements ∧ s.absent o sub = false := by
  unfold State.rangeExists at h
  cases hrow : objRow i with
  | none => simp [hrow] at h
  | some o =>
    simp only [hrow] at h
    split_ifs at h <;> simp_all

/-- R320: a range exists where its first element does. -/
theorem State.existCheck_of_rangeExists {s : State} {i sub count : Nat} (h : s.rangeExists i sub count = (0, sub)) :
    s.existCheck i sub = 0 := by
  obtain ⟨hindex, o, hrow, helement, hpresent⟩ := State.rangeExists_some h
  simp [State.existCheck, Nat.not_le.mpr hindex, hrow, Nat.not_le.mpr helement, hpresent]

/-- R290, R323: the check of access of the first element comes before the commands that a WRITE of such objects runs. -/
theorem State.writeData_of_writeGate {s : State} {req : Req} {i sub count : Nat} (data : List Byte) (hi : i ∈ commandObjs)
    (hrange : s.rangeExists i sub count = (0, sub)) (hgate : s.writeGate i sub (s.authOk req) ≠ 0) :
    s.writeData req i sub count data = (s, s.writeGate i sub (s.authOk req), sub) := by
  obtain ⟨-, o, hrow, -, -⟩ := State.rangeExists_some hrange
  simp [State.writeData, hrange, hrow, hi, hgate]

/-- R323: a tagged write without room for its trailer is refused with something. -/
theorem State.shortStatus_ne_zero (s : State) (i sub : Nat) : s.shortStatus i sub ≠ 0 := by
  unfold State.shortStatus
  extract_lets g
  split_ifs with hg
  · exact hg
  · decide

/-- R297, R298: an accepted tag moves the session on, and nothing else. -/
theorem State.tagCheck_accepted {s u : State} {f : QlpFrame} {data : List Byte} {short : Nat} {ok : Session → Bool}
    (hshort : short ≠ 0) (h : s.tagCheck f data short ok = (u, 0)) :
    ∃ x, u = { s with qlp := { s.qlp with session := x } } := by
  unfold State.tagCheck at h
  cases hsession : s.qlp.session with
  | none => simp [hsession, refuse] at h
  | some x =>
    simp only [hsession] at h
    split_ifs at h
    · simp [refuse] at h
    · simp [refuse, hshort] at h
    · simp [refuse] at h
    · exact ⟨_, (congrArg Prod.fst h).symm⟩

/-- R297: the state and the status that the tag of a WRITE comes to, 0 for a request without one. -/
def State.tagged (s : State) (f : QlpFrame) : State × Nat :=
  if reqTagged f then s.tagCheck f (reqData f) (s.shortStatus (reqIndex f) (reqSub f)) fun _ => true else (s, 0)

/-- R297: a WRITE whose tag, if it has one, is accepted goes on with the same elements and the same life-cycle state. -/
theorem State.tagged_accepted {s u : State} {f : QlpFrame} (h : s.tagged f = (u, 0)) :
    u.rangeExists = s.rangeExists ∧ u.lifecycle = s.lifecycle := by
  unfold State.tagged at h
  split_ifs at h
  · obtain ⟨x, rfl⟩ := State.tagCheck_accepted (s.shortStatus_ne_zero _ _) h
    exact ⟨rfl, rfl⟩
  · obtain rfl : s = u := congrArg Prod.fst h
    exact ⟨rfl, rfl⟩

/-- R290, R323: a WRITE of elements that exist, its tag accepted, is answered with the check of access that its first element
fails. -/
theorem State.writeRun_of_writeGate {s u : State} {f : QlpFrame} (hi : reqIndex f ∈ commandObjs)
    (hrange : s.rangeExists (reqIndex f) (reqSub f) (reqCount f) = (0, reqSub f)) (htag : s.tagged f = (u, 0))
    (hgate : u.writeGate (reqIndex f) (reqSub f) (u.authOk (reqFrom f (reqTagged f))) ≠ 0) :
    s.writeRun f (reqData f) (fun _ => true) =
      u.answer f (u.writeGate (reqIndex f) (reqSub f) (u.authOk (reqFrom f (reqTagged f)))) (reqSub f) := by
  have hrangeU := (congrFun₃ (State.tagged_accepted htag).1 (reqIndex f) (reqSub f) (reqCount f)).trans hrange
  have hdata := fun data => State.writeData_of_writeGate data hi hrangeU hgate
  unfold State.tagged at htag
  simp [State.writeRun, accept, htag, hrange, hdata, hgate]

/-- Settles O13: both kinds of write come to the check of access (`State.writeGate_of_standsBy`), a command by O12, a WRITE by
`State.writeRun_of_writeGate`. -/
theorem standbyRefusesOutputWrites : Obligations.StandbyRefusesOutputWrites := by
  unfold Obligations.StandbyRefusesOutputWrites
  refine ⟨fun s c req i k hwrite hi hrun haddr hlife hexists hauth hrole => ?_,
    fun s u f hreq hcomplete hi hrange htag hauth hrole => ?_⟩
  · have hlisted : i ∈ berthWrites := List.Sublist.subset (by decide) hi
    have hgate : s.writeGate i k (s.authOk req) = 0x0205 :=
      State.writeGate_of_standsBy hlisted hlife hexists (fun _ => hauth) hrole
    have hrefused := (refusedWriteChangesNothing s c req i k hwrite).1 hrun haddr (by rw [hgate]; decide)
    rwa [hgate] at hrefused
  · obtain ⟨hadmits, hfresh, hlife⟩ := hreq
    obtain ⟨hsameRange, hsameLife⟩ := State.tagged_accepted (f := f) htag
    have hgate : u.writeGate (reqIndex f) (reqSub f) (u.authOk (reqFrom f (reqTagged f))) = 0x0205 :=
      State.writeGate_of_standsBy hi (by rwa [hsameLife]) (State.existCheck_of_rangeExists (by rwa [hsameRange]))
        (fun hweld => hauth.resolve_left (not_not.mpr hweld)) hrole
    change (s.ask f 2 fun s => s.writeStart f) = _
    rw [State.ask_of_admits hadmits hfresh (by decide) fun hretired => absurd hretired hlife,
      State.writeStart_of_complete _ hcomplete,
      State.writeRun_of_writeGate (berthWrites_subset_commandObjs hi) hrange htag (by rw [hgate]; decide), hgate]

end Sys2Proof.Machine
end

section
/-! The layouts of stored records (Table 12-1, Table 12-2, Table 12-4, Table 13-6). -/

namespace Sys2Proof.Machine

/-! #### Layouts of little-endian fields (R7) -/

/-- R7: the bytes of fields in their order, each given by its size and its value. -/
def fields (fs : List (Nat × Nat)) : List Byte := fs.flatMap fun f => le f.1 f.2

/-- The fields are read in their order from an offset, each as its value modulo its width. -/
def readsAs (b : List Byte) (off : Nat) : List (Nat × Nat) → Prop
  | [] => True
  | f :: fs => leAt b off f.1 = f.2 % 256 ^ f.1 ∧ readsAs b (off + f.1) fs

theorem fields_cons (f : Nat × Nat) (fs : List (Nat × Nat)) : fields (f :: fs) = le f.1 f.2 ++ fields fs := rfl

/-- Fields behind `a` are read back. -/
theorem readsAs_behind (a rest : List Byte) (fs : List (Nat × Nat)) : readsAs (a ++ (fields fs ++ rest)) a.length fs := by
  induction fs generalizing a with
  | nil => trivial
  | cons f fs ih =>
    rw [fields_cons, List.append_assoc]
    refine ⟨(leAt_behind a _ 0 f.1).trans (leAt_front f.1 f.2 _), ?_⟩
    simpa [length_le] using ih (a ++ le f.1 f.2)

/-- Fields at the front of a layout are read back. -/
theorem readsAs_front {bytes rest : List Byte} {fs : List (Nat × Nat)} (h : bytes = fields fs ++ rest) :
    readsAs bytes 0 fs := by
  subst h
  exact readsAs_behind [] rest fs

/-- R56: behind the bytes that it covers stands their CRC-32. -/
theorem leAt_crc32 {bytes body rest : List Byte} {n : Nat} (h : bytes = body ++ (le 4 (crc32 body) ++ rest))
    (hn : body.length = n) : leAt bytes n 4 = crc32 (bytes.take n) := by
  subst h hn
  calc leAt (body ++ (le 4 (crc32 body) ++ rest)) body.length 4
      = leAt (le 4 (crc32 body) ++ rest) 0 4 := leAt_behind body _ 0 4
    _ = crc32 body % 256 ^ 4 := leAt_front 4 _ rest
    _ = crc32 body := Nat.mod_eq_of_lt (crc32_lt body)
    _ = crc32 ((body ++ (le 4 (crc32 body) ++ rest)).take body.length) := by rw [List.take_left' rfl]

/-- Bytes that stand between others are found at their place. -/
theorem take_drop_between {bytes a mid rest : List Byte} {off n : Nat} (h : bytes = a ++ (mid ++ rest))
    (hoff : a.length = off) (hn : mid.length = n) : (bytes.drop off).take n = mid := by
  rw [h, List.drop_left' hoff, List.take_left' hn]

/-- Every byte of a filled range is the fill byte. -/
theorem byteAt_fill {bytes a rest : List Byte} {x : Byte} {n k : Nat} (h : bytes = a ++ (List.replicate n x ++ rest))
    (hlow : a.length ≤ k) (hhigh : k < a.length + n) : byteAt bytes k = x := by
  obtain ⟨j, rfl⟩ := Nat.exists_eq_add_of_le hlow
  have hj : j < n := Nat.lt_of_add_lt_add_left hhigh
  rw [h, byteAt_behind]
  simp [byteAt, List.getElem?_append_left, hj]

/-! #### Log records (Table 12-1, Table 12-2) -/

/-- Table 12-1: the fields before the payload. -/
def LogRec.header (r : LogRec) : List (Nat × Nat) :=
  [(1, 0xA5), (1, r.units), (1, r.flags), (1, r.payload.length), (4, r.seq), (8, r.time), (2, r.code), (2, r.source),
    (2, r.repeat'), (2, r.last)]

/-- R378: the bytes that a record's CRC covers. -/
def LogRec.body (r : LogRec) : List Byte :=
  fields r.header ++ (r.payload ++ List.replicate (4 * r.units - 28 - r.payload.length) 0)

theorem LogRec.bytes_eq (r : LogRec) : r.bytes = r.body ++ (le 4 (crc32 r.body) ++ []) := by
  have hbody : r.body = fields r.header ++ r.payload ++ List.replicate (4 * r.units - 28 - r.payload.length) 0 :=
    (List.append_assoc _ _ _).symm
  rw [List.append_nil, hbody]
  rfl

theorem LogRec.bytes_eq_header (r : LogRec) : ∃ rest, r.bytes = fields r.header ++ (r.payload ++
    (List.replicate (4 * r.units - 28 - r.payload.length) 0 ++ rest)) :=
  ⟨le 4 (crc32 r.body) ++ [], by rw [r.bytes_eq, LogRec.body]; simp only [List.append_assoc]⟩

theorem LogRec.length_header (r : LogRec) : (fields r.header).length = 24 := rfl

theorem LogRec.units_bounds (r : LogRec) : r.payload.length + 28 ≤ 4 * r.units ∧ 4 * r.units < r.payload.length + 32 := by
  unfold LogRec.units
  omega

theorem LogRec.length_body (r : LogRec) : r.body.length = 4 * r.units - 4 := by
  obtain ⟨hlow, -⟩ := r.units_bounds
  simp only [LogRec.body, List.length_append, r.length_header, List.length_replicate]
  omega

theorem LogRec.length_bytes (r : LogRec) : r.bytes.length = 4 * r.units := by
  obtain ⟨hlow, -⟩ := r.units_bounds
  simp only [r.bytes_eq, List.length_append, r.length_body, length_le, List.length_nil]
  omega

theorem bit_of_div_mod {v i : Nat} {b : Bool} (h : v / 2 ^ i % 2 = b2n b) : bit v i = b := by
  rw [bit, Nat.testBit_eq_decide_div_mod_eq, h]
  cases b <;> rfl

/-- Table 12-2: the fields of FLAGS; bits 7 to 5 are 0. -/
theorem LogRec.flags_fields (r : LogRec) : bit r.flags 4 = r.internal ∧ bit r.flags 3 = r.latch ∧ bit r.flags 2 = r.trip ∧
    bits r.flags 1 0 = r.sev % 4 ∧ bits r.flags 7 5 = 0 ∧ r.flags < 256 := by
  have hinternal := b2n_lt_two r.internal
  have hlatch := b2n_lt_two r.latch
  have htrip := b2n_lt_two r.trip
  unfold LogRec.flags bits
  refine ⟨bit_of_div_mod ?_, bit_of_div_mod ?_, bit_of_div_mod ?_, ?_, ?_, ?_⟩ <;> omega

/-- Table 12-1: a record of a length that LEN can give, field by field. -/
theorem LogRec.layout (r : LogRec) (hpayload : r.payload.length ≤ 228) :
    r.bytes.length = 4 * r.units ∧ byteAt r.bytes 0 = 0xA5 ∧ leAt r.bytes 1 1 = r.units ∧ leAt r.bytes 4 4 = r.seq % 2 ^ 32 ∧
      bit (leAt r.bytes 2 1) 4 = r.internal ∧ bit (leAt r.bytes 2 1) 3 = r.latch ∧ bit (leAt r.bytes 2 1) 2 = r.trip ∧
      bits (leAt r.bytes 2 1) 1 0 = r.sev % 4 ∧ bits (leAt r.bytes 2 1) 7 5 = 0 ∧ leAt r.bytes 3 1 = r.payload.length ∧
      leAt r.bytes 8 8 = r.time % 2 ^ 64 ∧ leAt r.bytes 16 2 = r.code % 2 ^ 16 ∧ leAt r.bytes 18 2 = r.source % 2 ^ 16 ∧
      leAt r.bytes 20 2 = r.repeat' % 2 ^ 16 ∧ leAt r.bytes 22 2 = r.last % 2 ^ 16 ∧
      (r.bytes.drop 24).take r.payload.length = r.payload ∧
      (∀ k, 24 + r.payload.length ≤ k → k < 4 * r.units - 4 → byteAt r.bytes k = 0) ∧
      leAt r.bytes (4 * r.units - 4) 4 = crc32 (r.bytes.take (4 * r.units - 4)) := by
  obtain ⟨hlow, hhigh⟩ := r.units_bounds
  obtain ⟨rest, hbytes⟩ := r.bytes_eq_header
  obtain ⟨-, hunits, hflags, hlen, hseq, htime, hcode, hsource, hrepeat, hlast, -⟩ := readsAs_front hbytes
  obtain ⟨hinternal, hlatch, htrip, hsev, hreserved, hwidth⟩ := r.flags_fields
  have hflagsRead : leAt r.bytes 2 1 = r.flags := hflags.trans (Nat.mod_eq_of_lt hwidth)
  have hunitsFit : r.units < 256 := by omega
  have hlenFits : r.payload.length < 256 := by omega
  have hfill : r.bytes = (fields r.header ++ r.payload) ++
      (List.replicate (4 * r.units - 28 - r.payload.length) 0 ++ rest) := hbytes.trans (List.append_assoc _ _ _).symm
  have hbehind : (fields r.header ++ r.payload).length = 24 + r.payload.length := by
    rw [List.length_append, r.length_header]
  rw [hflagsRead]
  refine ⟨r.length_bytes, rfl, hunits.trans (Nat.mod_eq_of_lt hunitsFit), hseq, hinternal, hlatch, htrip, hsev, hreserved,
    hlen.trans (Nat.mod_eq_of_lt hlenFits), htime, hcode, hsource, hrepeat, hlast,
    take_drop_between hbytes r.length_header rfl, fun k hk hend => ?_, leAt_crc32 r.bytes_eq r.length_body⟩
  exact byteAt_fill hfill (by omega) (by omega)

/-! #### Log pages (Table 12-4) -/

/-- Table 12-4: the fields that HEADER_CRC covers. -/
def LogPage.header (p : LogPage) : List (Nat × Nat) := [(4, 0x31484251), (4, p.gen), (4, p.first)]

theorem LogPage.bytes_eq (p : LogPage) : p.bytes = fields p.header ++ (le 4 (crc32 (fields p.header)) ++
    (p.recs.flatMap LogRec.bytes ++ (List.replicate (4080 - p.used) 0xFF ++ []))) := by
  rw [List.append_nil, ← List.append_assoc, ← List.append_assoc]
  rfl

theorem LogPage.length_header (p : LogPage) : (fields p.header).length = 12 := rfl

/-- R383: what a page has used is what its records take. -/
theorem LogPage.length_records (p : LogPage) : (p.recs.flatMap LogRec.bytes).length = p.used := by
  have hsum : ∀ (rs : List LogRec) (n : Nat),
      n + (rs.flatMap LogRec.bytes).length = rs.foldl (fun n r => n + 4 * r.units) n := by
    intro rs
    induction rs with
    | nil => exact fun n => rfl
    | cons r rs ih =>
      intro n
      rw [List.foldl_cons, ← ih, List.flatMap_cons, List.length_append, r.length_bytes, Nat.add_assoc]
  exact (Nat.zero_add _).symm.trans (hsum p.recs 0)

/-- Table 12-4: a page whose records fit, field by field. -/
theorem LogPage.layout (p : LogPage) (hfits : p.used ≤ 4080) :
    p.bytes.length = 4096 ∧ leAt p.bytes 0 4 = 0x31484251 ∧ leAt p.bytes 4 4 = p.gen % 2 ^ 32 ∧
      leAt p.bytes 8 4 = p.first % 2 ^ 32 ∧ leAt p.bytes 12 4 = crc32 (p.bytes.take 12) ∧
      (p.bytes.drop 16).take p.used = p.recs.flatMap LogRec.bytes ∧
      ∀ k, 16 + p.used ≤ k → k < 4096 → byteAt p.bytes k = 0xFF := by
  obtain ⟨hmagic, hgen, hfirst, -⟩ := readsAs_front p.bytes_eq
  have hrecords := p.bytes_eq.trans (List.append_assoc _ _ _).symm
  have hhead : (fields p.header ++ le 4 (crc32 (fields p.header))).length = 16 := rfl
  have hfill := hrecords.trans (List.append_assoc _ _ _).symm
  have hwritten : ((fields p.header ++ le 4 (crc32 (fields p.header))) ++ p.recs.flatMap LogRec.bytes).length =
      16 + p.used := by
    rw [List.length_append, hhead, p.length_records]
  refine ⟨?_, hmagic, hgen, hfirst, leAt_crc32 p.bytes_eq p.length_header, take_drop_between hrecords hhead p.length_records,
    fun k hk hend => byteAt_fill hfill (by omega) (by omega)⟩
  rw [hfill, List.length_append, hwritten, List.length_append, List.length_replicate, List.length_nil]
  omega

/-! #### Journal records (Table 13-6) -/

/-- Table 13-6: the fields before the payload. -/
def JRec.header (r : JRec) (kind inst : Nat) : List (Nat × Nat) :=
  [(4, 0x314A4251), (1, kind), (1, inst), (2, 0), (4, r.payload.length + 28), (4, r.seq), (8, r.time)]

theorem JRec.bytes_eq (r : JRec) (kind inst : Nat) :
    r.bytes kind inst = (fields (r.header kind inst) ++ r.payload) ++ (le 4 (crc32 (fields (r.header kind inst) ++ r.payload)) ++
      (List.replicate (journalBytes r.payload - r.payload.length - 28) 0xFF ++ [])) := by
  rw [List.append_nil, ← List.append_assoc]
  rfl

theorem JRec.length_header (r : JRec) (kind inst : Nat) : (fields (r.header kind inst)).length = 24 := rfl

/-- R409: a record takes whole units of 16 bytes, as few as hold it. -/
theorem journalBytes_bounds (payload : List Byte) :
    journalBytes payload % 16 = 0 ∧ payload.length + 28 ≤ journalBytes payload := by
  unfold journalBytes
  omega

/-- Table 13-6: a record whose length its LENGTH can give, field by field. -/
theorem JRec.layout (r : JRec) (kind inst : Nat) (hkind : kind < 256) (hinst : inst < 256)
    (hlen : r.payload.length + 28 < 2 ^ 32) :
    let b := r.bytes kind inst
    let n := r.payload.length + 28
    b.length % 16 = 0 ∧ n ≤ b.length ∧ leAt b 0 4 = 0x314A4251 ∧ leAt b 4 1 = kind ∧ leAt b 5 1 = inst ∧ leAt b 6 2 = 0 ∧
      leAt b 8 4 = n ∧ leAt b 12 4 = r.seq % 2 ^ 32 ∧ leAt b 16 8 = r.time % 2 ^ 64 ∧ (b.drop 24).take r.payload.length = r.payload ∧
      leAt b (n - 4) 4 = crc32 (b.take (n - 4)) ∧ ∀ k, n ≤ k → k < b.length → byteAt b k = 0xFF := by
  intro b n
  have hpayload : b = _ := (r.bytes_eq kind inst).trans (List.append_assoc _ _ _)
  obtain ⟨hsync, hkindRead, hinstRead, hzero, hlenRead, hseq, htime, -⟩ := readsAs_front hpayload
  have hbody : (fields (r.header kind inst) ++ r.payload).length = n - 4 := by
    rw [List.length_append, r.length_header]
    omega
  have hfill : b = _ := (r.bytes_eq kind inst).trans (List.append_assoc _ _ _).symm
  have hcovered : ((fields (r.header kind inst) ++ r.payload) ++
      le 4 (crc32 (fields (r.header kind inst) ++ r.payload))).length = n := by
    rw [List.length_append, hbody, length_le]
    omega
  obtain ⟨hunits, hholds⟩ := journalBytes_bounds r.payload
  have htotal : b.length = journalBytes r.payload := by
    rw [hfill, List.length_append, hcovered, List.length_append, List.length_replicate, List.length_nil]
    omega
  refine ⟨by rwa [htotal], by rwa [htotal], hsync, hkindRead.trans (Nat.mod_eq_of_lt hkind),
    hinstRead.trans (Nat.mod_eq_of_lt hinst), hzero, hlenRead.trans (Nat.mod_eq_of_lt hlen), hseq, htime,
    take_drop_between hpayload (r.length_header kind inst) rfl, leAt_crc32 (r.bytes_eq kind inst) hbody,
    fun k hk hend => byteAt_fill hfill (by omega) (by omega)⟩

/-- Settles O19: each layout is a row of fields (`readsAs_front`), then bytes in their place (`take_drop_between`,
`byteAt_fill`), with the CRC behind what it covers (`leAt_crc32`). -/
theorem storedLayouts : Obligations.StoredLayouts := by
  unfold Obligations.StoredLayouts
  exact ⟨LogRec.layout, LogPage.layout, JRec.layout⟩

end Sys2Proof.Machine
end

section
/-! The refusals of `LogClear` (R390). -/

namespace Sys2Proof.Machine

/-! #### The tag -/

/-- R298: the time that a tagged request starts anew does not close the session. -/
@[simp] theorem State.tagSeen_authOk (s : State) (req : Req) : (s.tagSeen req).authOk req = s.authOk req := by
  cases hsession : s.qlp.session with
  | none => simp [State.tagSeen, hsession]
  | some x =>
    by_cases hauth : s.authOk req = true
    · have hrefreshed : s.tagSeen req = { s with qlp := { s.qlp with session := some { x with taggedAt := s.mono } } } := by
        simp [State.tagSeen, hsession, hauth]
      simp [hrefreshed, State.authOk, hsession]
    · simp [State.tagSeen, hsession, hauth]

/-! #### The checks of every write -/

/-- Table 12-5: every device has `LogClear`, one element, which any write access reaches. -/
theorem logClear_row : ∃ o, objRow O.logClear = some o ∧ o.elements = 1 ∧ o.per = .none' ∧ o.acc = .wo :=
  ⟨_, rfl, rfl, rfl, rfl⟩

/-- R323, R390: outside RETIRED the checks of access ask for the tag, and for nothing else. -/
theorem State.writeGate_logClear {s : State} (auth : Bool) (hlife : s.lifecycle ≠ 4) :
    s.writeGate O.logClear 0 auth = if auth then 0 else 0x0204 := by
  obtain ⟨o, hrow, hone, hper, hacc⟩ := logClear_row
  have hpresent : s.absent o 0 = false := by
    unfold State.absent
    rw [hper]
    cases s.variant <;> simp
  have hexists : s.existCheck O.logClear 0 = 0 := by
    have hindex : ¬0xF000 ≤ O.logClear := by decide
    simp [State.existCheck, hindex, hrow, hone, hpresent]
  have hunlisted : O.logClear ∉ berthWrites := by decide
  cases auth <;> simp [State.writeGate, hlife, hexists, hrow, hacc, hunlisted]

/-! #### The checks of the command -/

theorem State.logClear_of_lifecycle {s : State} {node link v : Nat} (hnew : s.lifecycle ≠ 1) (hmaint : s.lifecycle ≠ 3) :
    s.logClear true node link v = (s, 0x0405) := by
  simp [State.logClear, refuse, hnew, hmaint]

/-- R45: the conditions under which a flash operation may start. -/
theorem State.flashOk_iff (s : State) : s.flashOk = true ↔ 16000 ≤ s.pwr.vauxMv ∧ s.pwr.warning = false := by
  simp [State.flashOk]

section mayClear
variable {s : State} {node link v : Nat} (hlife : s.lifecycle = 1 ∨ s.lifecycle = 3)
include hlife

theorem State.logClear_of_flash (hflash : s.flashOk = false) : s.logClear true node link v = (s, 0x0404) := by
  simp [State.logClear, refuse, hlife, hflash]

theorem State.logClear_of_code (hflash : s.flashOk = true) (hcode : v ≠ s.logClearCode) :
    s.logClear true node link v = (s, 0x0301) := by
  simp [State.logClear, refuse, hlife, hflash, hcode]

end mayClear

/-- R390: a tagged write is answered with what the command itself refuses it with. -/
theorem State.exec_logClear_of_refused {s : State} {req : Req} {code : BitVec 32} {status : Nat}
    (hreq : s.takesWrite req O.logClear 0) (hauth : s.authOk req = true)
    (hrefused : (s.tagSeen req).logClear true req.src req.link.val code.toNat = (s.tagSeen req, status)) :
    exec (.logClear req code) s = .next ((s.tagSeen req).answerW req O.logClear 0 status) := by
  change s.request req O.logClear 0 (fun s => s.logClear (s.authOk req) req.src req.link.val code.toNat) = _
  exact s.request_next _ req _ _ _ _ hreq (by simpa only [State.tagSeen_authOk, hauth] using hrefused)

/-- Settles O32: a write without the tag fails the checks of access, whose answer is O12's; a tagged one comes to the command,
which makes its checks in the order of R390. -/
theorem logClearRefused : Obligations.LogClearRefused := by
  unfold Obligations.LogClearRefused
  intro s req code hrun haddr hservice
  have hgate := State.writeGate_logClear (s.authOk req) hservice
  have htakes (hauth : s.authOk req = true) : s.takesWrite req O.logClear 0 := ⟨hrun, haddr, by rw [hgate, if_pos hauth]⟩
  refine ⟨fun hauth => ?_, fun hauth hnew hmaint => ?_, fun hauth hlife => ⟨fun hno => ?_, fun hvaux hwarning hcode => ?_⟩⟩
  · have huntagged : s.writeGate O.logClear 0 (s.authOk req) = 0x0204 := by
      rw [hgate, hauth, if_neg Bool.false_ne_true]
    have hrefused := (refusedWriteChangesNothing s (.logClear req code) req O.logClear 0 rfl).1 hrun haddr
      (by rw [huntagged]; decide)
    rwa [huntagged] at hrefused
  · exact State.exec_logClear_of_refused (htakes hauth) hauth (State.logClear_of_lifecycle (by simpa) (by simpa))
  · have hflash : s.flashOk = false := by rwa [← Bool.not_eq_true, State.flashOk_iff]
    exact State.exec_logClear_of_refused (htakes hauth) hauth (State.logClear_of_flash (by simpa) (by simpa))
  · have hflash : s.flashOk = true := s.flashOk_iff.mpr ⟨hvaux, hwarning⟩
    have hwrong : code.toNat ≠ (s.tagSeen req).logClearCode := by rwa [State.logClearCode, State.tagSeen_log]
    exact State.exec_logClear_of_refused (htakes hauth) hauth (State.logClear_of_code (by simpa) (by simpa) hwrong)

end Sys2Proof.Machine
end

section
/-! What no step undoes (R414, R3, R29, R303, R306). -/

namespace Sys2Proof.Machine

/-- Every command goes onwards, each by its own law; a start needs that device time resumes no earlier than it is measured
against. -/
theorem exec_onwards {s₀ : State} (c : Instr) (s : State) (hs : s.onwards s₀)
    (hstart : ∀ checks, c = .startupComplete checks →
      s₀.clk.now ≤ (s.scanJournal checks.records).resumeTime.clk.now) :
    nextSat (exec c s) fun t => t.onwards s₀ := by
  cases c with
  | lockstepMismatch => exact execLockstepMismatch_onwards s hs
  | clockMonitorGate count1 count5 byDomain8 => exact execClockMonitorGate_onwards count1 count5 byDomain8 s hs
  | clockFaultRelease => exact execClockFaultRelease_onwards s hs
  | domain8Loss => exact execDomain8Loss_onwards s hs
  | interdieFrameReceived atPower f => exact execInterdieFrameReceived_onwards atPower f s hs
  | interdieLinkTimeout atPower => exact execInterdieLinkTimeout_onwards atPower s hs
  | interdieIdleSend fromPower => exact execInterdieIdleSend_onwards fromPower s hs
  | outputRequest r => exact execOutputRequest_onwards r s hs
  | tripOpenRequest string => exact execTripOpenRequest_onwards string s hs
  | watchdogAnswer k value at9 => exact execWatchdogAnswer_onwards k value at9 s hs
  | watchdogWindowEnd => exact execWatchdogWindowEnd_onwards s hs
  | eventMatrixEvaluate => exact execEventMatrixEvaluate_onwards s hs
  | eventRouteWrite req source value => exact execEventRouteWrite_onwards req source value s hs
  | sramEccError area uncorrectable item => exact execSramEccError_onwards area uncorrectable item s hs
  | tableSetReloadDone set => exact execTableSetReloadDone_onwards set s hs
  | learnedDataCommit string worn => exact execLearnedDataCommit_onwards string worn s hs
  | weldStateCommit string worn => exact execWeldStateCommit_onwards string worn s hs
  | laneLost ring loss => exact execLaneLost_onwards ring loss s hs
  | laneRestored ring valid => exact execLaneRestored_onwards ring valid s hs
  | tallyTrigger => exact execTallyTrigger_onwards s hs
  | tallyInstant busdetUv => exact execTallyInstant_onwards busdetUv s hs
  | sample ring bEnd frame => exact execSample_onwards ring bEnd frame s hs
  | comparatorSourceRaise ring kind number => exact execComparatorSourceRaise_onwards ring kind number s hs
  | hopMissing ring bEnd hop => exact execHopMissing_onwards ring bEnd hop s hs
  | trainEotReturned ring bEnd => exact execTrainEotReturned_onwards ring bEnd s hs
  | trainTimeout ring bEnd => exact execTrainTimeout_onwards ring bEnd s hs
  | returnPathCheck ring r => exact execReturnPathCheck_onwards ring r s hs
  | idleSlotLaunch ring bEnd => exact execIdleSlotLaunch_onwards ring bEnd s hs
  | ident ring bEnd frame => exact execIdent_onwards ring bEnd frame s hs
  | echoBack ring bEnd frame t0 t1 => exact execEchoBack_onwards ring bEnd frame t0 t1 s hs
  | configAck ring bEnd frame => exact execConfigAck_onwards ring bEnd frame s hs
  | status ring bEnd frame => exact execStatus_onwards ring bEnd frame s hs
  | balAck ring bEnd frame => exact execBalAck_onwards ring bEnd frame s hs
  | openWireResult ring bEnd frame => exact execOpenWireResult_onwards ring bEnd frame s hs
  | authResult ring bEnd frame => exact execAuthResult_onwards ring bEnd frame s hs
  | authMac ring bEnd frame => exact execAuthMac_onwards ring bEnd frame s hs
  | rejoinResult ring bEnd frame => exact execRejoinResult_onwards ring bEnd frame s hs
  | authReadDue ring pos => exact execAuthReadDue_onwards ring pos s hs
  | authRetry ring pos => exact execAuthRetry_onwards ring pos s hs
  | moduleAuthDue ring pos => exact execModuleAuthDue_onwards ring pos s hs
  | enumerationStart ring => exact execEnumerationStart_onwards ring s hs
  | enumerationWaitDone ring aIdle bIdle => exact execEnumerationWaitDone_onwards ring aIdle bIdle s hs
  | manifestMismatchReenumerate ring => exact execManifestMismatchReenumerate_onwards ring s hs
  | tallyPeriodWrite req value => exact execTallyPeriodWrite_onwards req value s hs
  | tallyPeriodApply => exact execTallyPeriodApply_onwards s hs
  | currentOutput string dsiBits isaCode => exact execCurrentOutput_onwards string dsiBits isaCode s hs
  | fastPathDebounceExpiry string => exact execFastPathDebounceExpiry_onwards string s hs
  | currentSampleDelivered string ch => exact execCurrentSampleDelivered_onwards string ch s hs
  | dsiStuckFault string => exact execDsiStuckFault_onwards string s hs
  | isaRangeFault string => exact execIsaRangeFault_onwards string s hs
  | currentFaultClear string ch => exact execCurrentFaultClear_onwards string ch s hs
  | crossCheckDisagree string => exact execCrossCheckDisagree_onwards string s hs
  | tempDwellEnd ring pos slot => exact execTempDwellEnd_onwards ring pos slot s hs
  | tempStaleTimeout ring pos input => exact execTempStaleTimeout_onwards ring pos input s hs
  | sweepComplete ring => exact execSweepComplete_onwards ring s hs
  | staleTrip ring cell => exact execStaleTrip_onwards ring cell s hs
  | deratingClear string code => exact execDeratingClear_onwards string code s hs
  | balancePlan => exact execBalancePlan_onwards s hs
  | openWireSuspect ring cell => exact execOpenWireSuspect_onwards ring cell s hs
  | openWireTestStart ring pos channel => exact execOpenWireTestStart_onwards ring pos channel s hs
  | openWireTestEvaluate ring pos => exact execOpenWireTestEvaluate_onwards ring pos s hs
  | openWireRetest ring pos => exact execOpenWireRetest_onwards ring pos s hs
  | openWireRotation ring pos channel => exact execOpenWireRotation_onwards ring pos channel s hs
  | openWireRequest req value => exact execOpenWireRequest_onwards req value s hs
  | openWireRequestDone => exact execOpenWireRequestDone_onwards s hs
  | captureArm req value => exact execCaptureArm_onwards req value s hs
  | captureTrigger req value => exact execCaptureTrigger_onwards req value s hs
  | captureFreeze => exact execCaptureFreeze_onwards s hs
  | euWorkItemClaim eu => exact execEuWorkItemClaim_onwards eu s hs
  | euUpdateComplete eu residueOk => exact execEuUpdateComplete_onwards eu residueOk s hs
  | euHandshakeTimeout eu => exact execEuHandshakeTimeout_onwards eu s hs
  | epochDeadline string => exact execEpochDeadline_onwards string s hs
  | estimationHeld string => exact execEstimationHeld_onwards string s hs
  | rateStepUp region => exact execRateStepUp_onwards region s hs
  | fabricKnownAnswerTest eu pass => exact execFabricKnownAnswerTest_onwards eu pass s hs
  | fabricSelfTestRequest req value => exact execFabricSelfTestRequest_onwards req value s hs
  | fabricSelfTestDone failed => exact execFabricSelfTestDone_onwards failed s hs
  | modelTableFileWrite req set file => exact execModelTableFileWrite_onwards req set file s hs
  | tableSetLoadDone set => exact execTableSetLoadDone_onwards set s hs
  | currentPlausibilityWindow string => exact execCurrentPlausibilityWindow_onwards string s hs
  | restPointFormed string => exact execRestPointFormed_onwards string s hs
  | stringDisagreementEnter string => exact execStringDisagreementEnter_onwards string s hs
  | channelAuditRepeat string => exact execChannelAuditRepeat_onwards string s hs
  | capLearnReportRequest req value => exact execCapLearnReportRequest_onwards req value s hs
  | capLearnReportDone => exact execCapLearnReportDone_onwards s hs
  | impedanceSnapshotRequest req value => exact execImpedanceSnapshotRequest_onwards req value s hs
  | impedanceSnapshotTimeout => exact execImpedanceSnapshotTimeout_onwards s hs
  | stringClose req string => exact execStringClose_onwards req string s hs
  | stringOpen req string => exact execStringOpen_onwards req string s hs
  | contactorStep => exact execContactorStep_onwards s hs
  | closeTurnGranted string => exact execCloseTurnGranted_onwards string s hs
  | weldCheckElapsed string => exact execWeldCheckElapsed_onwards string s hs
  | prechargeDeadline string => exact execPrechargeDeadline_onwards string s hs
  | prechargeCooldownEnd string => exact execPrechargeCooldownEnd_onwards string s hs
  | closingCloseTimeElapsed string => exact execClosingCloseTimeElapsed_onwards string s hs
  | closingDropTimeElapsed string => exact execClosingDropTimeElapsed_onwards string s hs
  | joinWaitTimeout string => exact execJoinWaitTimeout_onwards string s hs
  | openRampTimeout string => exact execOpenRampTimeout_onwards string s hs
  | breakMaxRepeat string => exact execBreakMaxRepeat_onwards string s hs
  | openingWeldTest string => exact execOpeningWeldTest_onwards string s hs
  | openingDropElapsed string => exact execOpeningDropElapsed_onwards string s hs
  | postTripWeldCheck string => exact execPostTripWeldCheck_onwards string s hs
  | tripReset req mask => exact execTripReset_onwards req mask s hs
  | weldClear req mask => exact execWeldClear_onwards req mask s hs
  | pullInEnd driver => exact execPullInEnd_onwards driver s hs
  | coilFaultDetected driver c => exact execCoilFaultDetected_onwards driver c s hs
  | currentSourceNoneTimeout string => exact execCurrentSourceNoneTimeout_onwards string s hs
  | tempInputLossTimeout ring pos => exact execTempInputLossTimeout_onwards ring pos s hs
  | overLimitTimeout string => exact execOverLimitTimeout_onwards string s hs
  | safetyInputChange pair chB level => exact execSafetyInputChange_onwards pair chB level s hs
  | safetyDiscrepancyTimeout pair => exact execSafetyDiscrepancyTimeout_onwards pair s hs
  | safeOffReport pair asserted => exact execSafeOffReport_onwards pair asserted s hs
  | safetyInputSelfTest follows => exact execSafetyInputSelfTest_onwards follows s hs
  | oscillatorCrossCheck count7 count9 => exact execOscillatorCrossCheck_onwards count7 count9 s hs
  | offPulseStart driver highSide => exact execOffPulseStart_onwards driver highSide s hs
  | offPulseCheck driver mA => exact execOffPulseCheck_onwards driver mA s hs
  | offPulseEnd driver => exact execOffPulseEnd_onwards driver s hs
  | offStateCheck driver hsMa lsMa coilMa => exact execOffStateCheck_onwards driver hsMa lsMa coilMa s hs
  | openingProofDue driver => exact execOpeningProofDue_onwards driver s hs
  | openingProofOverdue driver => exact execOpeningProofOverdue_onwards driver s hs
  | contactorOpenTestRequest req value => exact execContactorOpenTestRequest_onwards req value s hs
  | openTestStepCheck => exact execOpenTestStepCheck_onwards s hs
  | openTestStepDropDone => exact execOpenTestStepDropDone_onwards s hs
  | safetyConfigReadback upset => exact execSafetyConfigReadback_onwards upset s hs
  | loadSwitchCmdOff req ls => exact execLoadSwitchCmdOff_onwards req ls s hs
  | loadSwitchCmdOn req ls => exact execLoadSwitchCmdOn_onwards req ls s hs
  | loadSwitchCmdPwm req ls => exact execLoadSwitchCmdPwm_onwards req ls s hs
  | lsOvercurrentTrip ls => exact execLsOvercurrentTrip_onwards ls s hs
  | lsThermalLatchSet ls => exact execLsThermalLatchSet_onwards ls s hs
  | lsThermalLatchClear ls => exact execLsThermalLatchClear_onwards ls s hs
  | lsRetryRestart ls => exact execLsRetryRestart_onwards ls s hs
  | lsRetryCountReset ls => exact execLsRetryCountReset_onwards ls s hs
  | lsFaultClear req mask => exact execLsFaultClear_onwards req mask s hs
  | lsOnOpenLoad ls low => exact execLsOnOpenLoad_onwards ls low s hs
  | lsOffStateDiag ls c => exact execLsOffStateDiag_onwards ls c s hs
  | dissipationEstimate m => exact execDissipationEstimate_onwards m s hs
  | governorShed => exact execGovernorShed_onwards s hs
  | governorRestore => exact execGovernorRestore_onwards s hs
  | motorSpeedCommand req md rpm => exact execMotorSpeedCommand_onwards req md rpm s hs
  | motorSpeedLoop md shuntMa => exact execMotorSpeedLoop_onwards md shuntMa s hs
  | motorZeroCrossing md x => exact execMotorZeroCrossing_onwards md x s hs
  | motorCommutation md => exact execMotorCommutation_onwards md s hs
  | motorCrossingTimeout md => exact execMotorCrossingTimeout_onwards md s hs
  | motorCoastWaitEnd md => exact execMotorCoastWaitEnd_onwards md s hs
  | motorCatchSpinEnd md intervals bemfMv => exact execMotorCatchSpinEnd_onwards md intervals bemfMv s hs
  | motorStopped md => exact execMotorStopped_onwards md s hs
  | motorAlignEnd md => exact execMotorAlignEnd_onwards md s hs
  | motorStartHandover md intervals => exact execMotorStartHandover_onwards md intervals s hs
  | motorStartTimeout md => exact execMotorStartTimeout_onwards md s hs
  | motorRetryDelay md => exact execMotorRetryDelay_onwards md s hs
  | motorCurrentLimit md hit => exact execMotorCurrentLimit_onwards md hit s hs
  | motorLimitTimeTrip md => exact execMotorLimitTimeTrip_onwards md s hs
  | motorVdsTrip md lowSide => exact execMotorVdsTrip_onwards md lowSide s hs
  | motorThermalLatch md set => exact execMotorThermalLatch_onwards md set s hs
  | motorGateUv md => exact execMotorGateUv_onwards md s hs
  | motorClockLoss => exact execMotorClockLoss_onwards s hs
  | motorFaultClear req mask => exact execMotorFaultClear_onwards req mask s hs
  | vmotSample mV => exact execVmotSample_onwards mV s hs
  | vmotRecovery => exact execVmotRecovery_onwards s hs
  | brakeFaultCheck inst vmotMv brkMa => exact execBrakeFaultCheck_onwards inst vmotMv brkMa s hs
  | brakeFaultClear req value => exact execBrakeFaultClear_onwards req value s hs
  | qlpRead f => exact execQlpRead_onwards f s hs
  | qlpWrite f => exact execQlpWrite_onwards f s hs
  | sessionOpen f => exact execSessionOpen_onwards f s hs
  | sessionAuth f => exact execSessionAuth_onwards f s hs
  | sessionClose f => exact execSessionClose_onwards f s hs
  | timeSet f ageUs => exact execTimeSet_onwards f ageUs s hs
  | blockSegment f => exact execBlockSegment_onwards f s hs
  | blockAck f => exact execBlockAck_onwards f s hs
  | blockAbort f => exact execBlockAbort_onwards f s hs
  | segmentTimeout link src => exact execSegmentTimeout_onwards link src s hs
  | sessionTimeout => exact execSessionTimeout_onwards s hs
  | nonceExpiry link src => exact execNonceExpiry_onwards link src s hs
  | authLockoutEnd => exact execAuthLockoutEnd_onwards s hs
  | qlpNodeIdWrite req value => exact execQlpNodeIdWrite_onwards req value s hs
  | canTxDone ch won sofDelay tdcNs => exact execCanTxDone_onwards ch won sofDelay tdcNs s hs
  | responseQueueTimeout link => exact execResponseQueueTimeout_onwards link s hs
  | canBusOff ch txErr rxErr busOff => exact execCanBusOff_onwards ch txErr rxErr busOff s hs
  | canBusOffRecovery ch => exact execCanBusOffRecovery_onwards ch s hs
  | canTimingApply ch => exact execCanTimingApply_onwards ch s hs
  | lighthouseDue ch => exact execLighthouseDue_onwards ch s hs
  | ptpSyncReceived sync interval16 master utcOffset => exact execPtpSyncReceived_onwards sync interval16 master utcOffset s hs
  | ptpHoldoverTimeout => exact execPtpHoldoverTimeout_onwards s hs
  | timeStepApply => exact execTimeStepApply_onwards s hs
  | timeMarkCommit worn => exact execTimeMarkCommit_onwards worn s hs
  | timeSetLockExpiry => exact execTimeSetLockExpiry_onwards s hs
  | eventAcknowledge req value => exact execEventAcknowledge_onwards req value s hs
  | streamSnapshotDue stream => exact execStreamSnapshotDue_onwards stream s hs
  | ethLinkUp fast full => exact execEthLinkUp_onwards fast full s hs
  | arpRequest targetIp sender => exact execArpRequest_onwards targetIp sender s hs
  | icmpEchoRequest len fragment sender => exact execIcmpEchoRequest_onwards len fragment sender s hs
  | manifestFileWrite req file => exact execManifestFileWrite_onwards req file s hs
  | manifestAdoptUids req mask => exact execManifestAdoptUids_onwards req mask s hs
  | configSave req => exact execConfigSave_onwards req s hs
  | configDiscard req => exact execConfigDiscard_onwards req s hs
  | configFactoryDefaults req => exact execConfigFactoryDefaults_onwards req s hs
  | configImageImport req image => exact execConfigImageImport_onwards req image s hs
  | berthInChange level => exact execBerthInChange_onwards level s hs
  | claimWaitExpiry => exact execClaimWaitExpiry_onwards s hs
  | claimConflictWithdraw => exact execClaimConflictWithdraw_onwards s hs
  | claimRefreshTimeout => exact execClaimRefreshTimeout_onwards s hs
  | holdingRelease => exact execHoldingRelease_onwards s hs
  | holdingTimeout => exact execHoldingTimeout_onwards s hs
  | handoverOffer tally tail => exact execHandoverOffer_onwards tally tail s hs
  | handoverAccept tally tail => exact execHandoverAccept_onwards tally tail s hs
  | handoverRefuse tally tail => exact execHandoverRefuse_onwards tally tail s hs
  | handoverTaken tally tail => exact execHandoverTaken_onwards tally tail s hs
  | chainReq ring command latest tail => exact execChainReq_onwards ring command latest tail s hs
  | chainFwd ring decodedAt frame tail => exact execChainFwd_onwards ring decodedAt frame tail s hs
  | duplexTally index period time tail => exact execDuplexTally_onwards index period time tail s hs
  | mirror m tail => exact execMirror_onwards m tail s hs
  | hello h tail => exact execHello_onwards h tail s hs
  | ringDelays payload tail => exact execRingDelays_onwards payload tail s hs
  | duplexLinkDown => exact execDuplexLinkDown_onwards s hs
  | duplexLinkUp => exact execDuplexLinkUp_onwards s hs
  | berthHandOver req => exact execBerthHandOver_onwards req s hs
  | berthTake req => exact execBerthTake_onwards req s hs
  | berthRevert => exact execBerthRevert_onwards s hs
  | standbyTakeoverSweep ring => exact execStandbyTakeoverSweep_onwards ring s hs
  | logRecordSealTimeout => exact execLogRecordSealTimeout_onwards s hs
  | logProgram failing => exact execLogProgram_onwards failing s hs
  | logSuppressedReport => exact execLogSuppressedReport_onwards s hs
  | logClear req code => exact execLogClear_onwards req code s hs
  | logFlushLevel vauxMv => exact execLogFlushLevel_onwards vauxMv s hs
  | supplyRecovery vauxMv => exact execSupplyRecovery_onwards vauxMv s hs
  | brownOutWarning vauxMv => exact execBrownOutWarning_onwards vauxMv s hs
  | brownOutClear vauxMv => exact execBrownOutClear_onwards vauxMv s hs
  | powerDieReset vauxMv => exact execPowerDieReset_onwards vauxMv s hs
  | regulatorFault vddcMv vddioMv => exact execRegulatorFault_onwards vddcMv vddioMv s hs
  | powerOn vauxMv => exact execPowerOn_onwards vauxMv s hs
  | powerDieResetRelease berthPref => exact execPowerDieResetRelease_onwards berthPref s hs
  | computeDieResetRelease => exact execComputeDieResetRelease_onwards s hs
  | startupComplete c => exact execStartupComplete_onwards c s hs (hstart c rfl)
  | chainWakeEnd ring => exact execChainWakeEnd_onwards ring s hs
  | watchdogEscalation => exact execWatchdogEscalation_onwards s hs
  | resetNAssert => exact execResetNAssert_onwards s hs
  | resetNRelease => exact execResetNRelease_onwards s hs
  | deviceResetCommand req value => exact execDeviceResetCommand_onwards req value s hs
  | mooredWatchCommand req => exact execMooredWatchCommand_onwards req s hs
  | mooredDarkCommand req => exact execMooredDarkCommand_onwards req s hs
  | mooredEntryComplete => exact execMooredEntryComplete_onwards s hs
  | mooredWake w => exact execMooredWake_onwards w s hs
  | mooredDarkAuto => exact execMooredDarkAuto_onwards s hs
  | siteKeyWrite req blob => exact execSiteKeyWrite_onwards req blob s hs
  | moduleKeyWrite req ring blob => exact execModuleKeyWrite_onwards req ring blob s hs
  | lifecycleCommission req value => exact execLifecycleCommission_onwards req value s hs
  | lifecycleInService req value => exact execLifecycleInService_onwards req value s hs
  | lifecycleMaintenance req value => exact execLifecycleMaintenance_onwards req value s hs
  | lifecycleRetire req value => exact execLifecycleRetire_onwards req value s hs
  | tamperAcknowledge req mask => exact execTamperAcknowledge_onwards req mask s hs
  | firmwareBegin req => exact execFirmwareBegin_onwards req s hs
  | firmwareEraseDone => exact execFirmwareEraseDone_onwards s hs
  | firmwareChunkWrite req chunk bytes => exact execFirmwareChunkWrite_onwards req chunk bytes s hs
  | firmwareVerify req => exact execFirmwareVerify_onwards req s hs
  | firmwareActivate req => exact execFirmwareActivate_onwards req s hs
  | firmwareAbort req => exact execFirmwareAbort_onwards req s hs
  | firmwareTrialConfirm => exact execFirmwareTrialConfirm_onwards s hs
  | dieSensorConversion readings => exact execDieSensorConversion_onwards readings s hs
  | dieSensorBroken sensor late => exact execDieSensorBroken_onwards sensor late s hs
  | throttleStageEnter scope stage => exact execThrottleStageEnter_onwards scope stage s hs
  | throttleStageLeave scope stage => exact execThrottleStageLeave_onwards scope stage s hs
  | dieTempFrameTimeout => exact execDieTempFrameTimeout_onwards s hs
  | thermalShed => exact execThermalShed_onwards s hs
  | thermalRestore => exact execThermalRestore_onwards s hs
  | scrubPass corrected => exact execScrubPass_onwards corrected s hs
  | converterCalibration conv ppm => exact execConverterCalibration_onwards conv ppm s hs
  | integrityCheck c => exact execIntegrityCheck_onwards c s hs
  | deviceSelfTestRequest req value => exact execDeviceSelfTestRequest_onwards req value s hs
  | deviceSelfTestDone found => exact execDeviceSelfTestDone_onwards found s hs
  | lsLimiting ls reached => exact execLsLimiting_onwards ls reached s hs
  | gateSupplyRecovered md => exact execGateSupplyRecovered_onwards md s hs
  | motorRetryCountReset md => exact execMotorRetryCountReset_onwards md s hs
  | ethLinkDown => exact execEthLinkDown_onwards s hs
  | duplexHelloSend => exact execDuplexHelloSend_onwards s hs
  | armingRefreshTimeout => exact execArmingRefreshTimeout_onwards s hs

/-- A step goes onwards from a state whose queue is what stands behind its front: a command by `exec_onwards`, the microsecond
of an empty queue by `State.tick_onwards`. -/
theorem step_onwards {s t s₀ : State} (hstep : step s = .next t) (hs : State.onwards { s with pending := s.pending.tail } s₀)
    (hstart : ∀ checks rest, s.pending = .startupComplete checks :: rest →
      s₀.clk.now ≤ ((State.scanJournal { s with pending := rest } checks.records).resumeTime).clk.now) :
    t.onwards s₀ := by
  obtain ⟨hvariant, hotp, hclk, hqueue⟩ := hs
  cases hq : s.pending with
  | nil =>
    obtain rfl : s.tick = t := by simpa [step_of_empty s hq] using hstep
    exact State.tick_onwards s ⟨hvariant, hotp, hclk, by simpa [hq] using hqueue⟩
  | cons c rest =>
    have hexec : exec c { s with pending := rest } = .next t := by simpa only [step, hq] using hstep
    exact exec_onwards c { s with pending := rest } ⟨hvariant, hotp, hclk, by simpa [hq] using hqueue⟩
      (fun checks hc => hstart checks rest (by rw [hq, hc])) t hexec

/-- Settles O7: measured against device time 0, no start can set it back; measured against the device time that stands, only a
start that resumes behind it could (`State.resumeTime_ahead`). -/
theorem stepGoesOnwards : Obligations.StepGoesOnwards := by
  unfold Obligations.StepGoesOnwards
  refine ⟨fun s t hstep => ?_, fun s t hstep hahead => ?_⟩
  · have hs : State.onwards { s with pending := s.pending.tail }
        { s with pending := s.pending.tail, clk := { s.clk with now := 0 } } := by
      obtain ⟨hvariant, hotp, ⟨hmono, -⟩, hqueue⟩ := State.onwards_refl { s with pending := s.pending.tail }
      exact ⟨hvariant, hotp, ⟨hmono, Nat.zero_le _⟩, hqueue⟩
    exact step_onwards hstep hs fun _ _ _ => Nat.zero_le _
  · have hs := State.onwards_refl { s with pending := s.pending.tail }
    have ht : t.onwards { s with pending := s.pending.tail } :=
      step_onwards hstep hs fun checks rest hq => State.resumeTime_ahead _ checks (hahead checks rest hq)
    exact ⟨ht, (ow_clk ht).2⟩

end Sys2Proof.Machine
end

section
/-! Every command answers a next state (the model's choice, log entry 4). -/

namespace Sys2Proof.Machine

/-- An outcome that is a next state. -/
def answersNext (o : Host.Outcome State Fault Refusal) : Prop := ∃ t, o = .next t

theorem answersNext_next (t : State) : answersNext (.next t) := ⟨t, rfl⟩

/-- A choice between two outcomes that answer. -/
theorem answersNext_ite {c : Prop} [Decidable c] {a b : Host.Outcome State Fault Refusal} (ha : answersNext a)
    (hb : answersNext b) : answersNext (if c then a else b) := by
  split
  · exact ha
  · exact hb

/-! #### The shared forms of a command -/

theorem State.request_answersNext (s : State) (req : Req) (i k : Nat) (op : State → State × Nat) :
    answersNext (s.request req i k op) :=
  answersNext_ite (answersNext_next _) (answersNext_ite (answersNext_next _) (answersNext_next _))

theorem State.receive_answersNext (s : State) (f : QlpFrame) (cls : Nat) (op : State → State) :
    answersNext (s.receive f cls op) :=
  answersNext_ite (answersNext_next _)
    (answersNext_ite (answersNext_next _) (answersNext_ite (answersNext_next _) (answersNext_next _)))

theorem State.ask_answersNext (s : State) (f : QlpFrame) (op : Nat) (run : State → State) : answersNext (s.ask f op run) :=
  answersNext_ite (answersNext_next _) (s.receive_answersNext f _ _)

theorem State.blockFrame_answersNext (s : State) (f : QlpFrame) (kind : Nat) (op : State → State) :
    answersNext (s.blockFrame f kind op) :=
  answersNext_ite (answersNext_next _) (s.receive_answersNext f _ _)

theorem State.dupFrame_answersNext (s : State) (crcOk : Bool) (op : State → State) : answersNext (s.dupFrame crcOk op) :=
  answersNext_ite (answersNext_next _) (answersNext_ite (answersNext_next _) (answersNext_next _))

theorem withNode_answersNext (s : State) {o : Host.Outcome State Fault Refusal} (h : answersNext o) :
    answersNext (withNode s o) := by
  obtain ⟨t, rfl⟩ := h
  exact answersNext_next _

theorem following_answersNext (f : State → State) {o : Host.Outcome State Fault Refusal} (h : answersNext o) :
    answersNext (following f o) := by
  obtain ⟨t, rfl⟩ := h
  exact answersNext_next _

/-! #### Every command -/

/-- A command of none of the forms above acts where its moment has come (`doneIf`); the commands taken apart here first ask
which die they are for, or for something that may not be there. -/
theorem exec_answersNext (c : Instr) (s : State) : answersNext (exec c s) := by
  cases c <;> dsimp only [exec]
  case eventRouteWrite | tallyPeriodWrite | openWireRequest | captureArm | captureTrigger | fabricSelfTestRequest |
      modelTableFileWrite | capLearnReportRequest | impedanceSnapshotRequest | stringClose | stringOpen | tripReset |
      weldClear | contactorOpenTestRequest | loadSwitchCmdOff | loadSwitchCmdOn | loadSwitchCmdPwm | lsFaultClear |
      motorSpeedCommand | motorFaultClear | brakeFaultClear | eventAcknowledge | manifestFileWrite | manifestAdoptUids |
      configSave | configFactoryDefaults | berthHandOver | berthTake | logClear | mooredWatchCommand | mooredDarkCommand |
      siteKeyWrite | moduleKeyWrite | lifecycleCommission | lifecycleInService | lifecycleMaintenance |
      lifecycleRetire | tamperAcknowledge | firmwareBegin | firmwareChunkWrite | firmwareVerify | firmwareAbort |
      deviceSelfTestRequest =>
    exact State.request_answersNext _ _ _ _ _
  case qlpRead | qlpWrite | sessionOpen | sessionAuth | sessionClose | timeSet =>
    exact State.ask_answersNext _ _ _ _
  case blockSegment | blockAck | blockAbort =>
    exact State.blockFrame_answersNext _ _ _ _
  case handoverOffer | handoverAccept | handoverRefuse | handoverTaken | chainReq | chainFwd | duplexTally | mirror |
      hello | ringDelays =>
    exact State.dupFrame_answersNext _ _ _
  case configDiscard | configImageImport => exact withNode_answersNext _ (State.request_answersNext _ _ _ _ _)
  case deviceResetCommand =>
    exact answersNext_ite (answersNext_next _) (following_answersNext _ (State.request_answersNext _ _ _ _ _))
  case firmwareActivate =>
    exact answersNext_ite (answersNext_next _)
      (answersNext_ite (answersNext_next _) (following_answersNext _ (State.request_answersNext _ _ _ _ _)))
  case clockFaultRelease | interdieFrameReceived | interdieLinkTimeout | interdieIdleSend | trainEotReturned |
      trainTimeout | returnPathCheck | idleSlotLaunch | echoBack | tallyPeriodApply | currentSampleDelivered |
      openWireRetest | openWireRequestDone | euWorkItemClaim | euUpdateComplete | fabricSelfTestDone |
      capLearnReportDone | impedanceSnapshotTimeout | postTripWeldCheck | coilFaultDetected | tempInputLossTimeout |
      openTestStepCheck | openTestStepDropDone | segmentTimeout | sessionTimeout | authLockoutEnd |
      qlpNodeIdWrite | timeStepApply | logRecordSealTimeout | firmwareTrialConfirm | thermalRestore | deviceSelfTestDone =>
    dsimp only [execClockFaultRelease, execInterdieFrameReceived, execInterdieLinkTimeout, execInterdieIdleSend,
      execTrainEotReturned, execTrainTimeout, execReturnPathCheck, execIdleSlotLaunch, execEchoBack,
      execTallyPeriodApply, execCurrentSampleDelivered, execOpenWireRetest, execOpenWireRequestDone, execEuWorkItemClaim,
      execEuUpdateComplete, execFabricSelfTestDone, execCapLearnReportDone, execImpedanceSnapshotTimeout,
      execPostTripWeldCheck, execCoilFaultDetected, execTempInputLossTimeout, execOpenTestStepCheck,
      execOpenTestStepDropDone, execSegmentTimeout, execSessionTimeout, execAuthLockoutEnd, execQlpNodeIdWrite,
      execTimeStepApply, execLogRecordSealTimeout, execFirmwareTrialConfirm, execThermalRestore, execDeviceSelfTestDone]
    split <;> exact answersNext_next _
  case safeOffReport =>
    dsimp only [execSafeOffReport]
    refine answersNext_ite ?_ (answersNext_next _)
    split <;> exact answersNext_next _
  all_goals exact answersNext_next _

/-- Settles O3: a step is a command, which answers (`exec_answersNext`), or one microsecond of local time. -/
theorem stepAnswersNext : Obligations.StepAnswersNext := by
  unfold Obligations.StepAnswersNext
  intro s
  cases hq : s.pending with
  | nil => exact ⟨s.tick, step_of_empty s hq⟩
  | cons c rest =>
    obtain ⟨t, hexec⟩ := exec_answersNext c { s with pending := rest }
    exact ⟨t, by simpa only [step, hq] using hexec⟩

/-- Settles O1: the queue's front is what `step` looks at. -/
theorem stepRunsFront : Obligations.StepRunsFront := by
  unfold Obligations.StepRunsFront
  intro s c rest
  rfl

end Sys2Proof.Machine
end

section
/-! What a RETIRED device refuses (R420). -/

namespace Sys2Proof.Machine

/-- R420: a new request that passes the checks before it is refused for the life-cycle state, unless it is a READ or a WRITE of
index 0xF000 and above. -/
theorem State.ask_of_retired {s : State} {f : QlpFrame} {op : Nat} (hadmits : s.admits f op) (hfresh : s.fresh f)
    (hretired : (s.asked f).lifecycle = 4) (hop : op ∈ knownOps) (hread : op ≠ 1) (hindex : reqIndex f < 0xF000)
    (run : State → State) : s.ask f op run = .next ((s.asked f).answer f 0x0405 (reqSub f)) := by
  obtain ⟨hframe, hcls, haccepts, hreq, hrate, hformed⟩ := hadmits
  obtain ⟨hkept, htransfers⟩ := hfresh
  have hreserved : reservedSet f = false := hframe.2.2.2.2
  rw [State.ask, if_neg (by simp [hreq]), State.receive_of_accepted hframe hcls haccepts]
  unfold State.asked at hkept htransfers hretired ⊢
  simp [hrate, hreserved, hformed, hreq, hop, hkept, htransfers, hretired, hread, hindex]

/-- R420: a READ of another object than those that a RETIRED device still answers. -/
theorem State.readRun_of_retired {s : State} {f : QlpFrame} (hretired : s.lifecycle = 4) (hindex : reqIndex f < 0xF000)
    (hmay : retiredMay (reqIndex f) = false) : s.readRun f = s.answer f 0x0405 (reqSub f) := by
  simp [State.readRun, State.readCheck, hretired, hmay, Nat.not_le.mpr hindex]

/-- Settles O16: a READ passes the checks of every request and is refused by its own, every other request by them. -/
theorem retiredAnswers0405 : Obligations.RetiredAnswers0405 := by
  unfold Obligations.RetiredAnswers0405
  intro s f age hfresh hretired hindex
  have hask {op : Nat} (hop : op ∈ knownOps) (hread : op ≠ 1) (run : State → State) (hadmits : s.admits f op) :
      s.ask f op run = .next ((s.asked f).answer f 0x0405 (reqSub f)) :=
    State.ask_of_retired hadmits hfresh hretired hop hread hindex run
  dsimp only [exec]
  refine ⟨fun hadmits hidentity htombstone => ?_, hask (by decide) (by decide) _, hask (by decide) (by decide) _,
    hask (by decide) (by decide) _, hask (by decide) (by decide) _, hask (by decide) (by decide) _⟩
  have hmay : retiredMay (reqIndex f) = false := by simpa [retiredMay, htombstone] using hidentity
  change s.ask f 1 (fun s => s.readRun f) = _
  rw [State.ask_of_admits hadmits hfresh (by decide) fun _ => .inl rfl, State.readRun_of_retired hretired hindex hmay]

end Sys2Proof.Machine
end

section
/-! The reset of the compute die by command (R401). -/

namespace Sys2Proof.Machine

theorem State.anyEnergised_eq_false_iff (s : State) : s.anyEnergised = false ↔ ∀ d < 12, (s.drv d).energised = false := by
  simp [State.anyEnergised]

theorem State.anyEnergised_iff (s : State) : s.anyEnergised = true ↔ ∃ d < 12, (s.drv d).energised = true := by
  simp [State.anyEnergised]

/-- R401, R425: what follows an accepted write follows its response. -/
theorem following_answerW_of_zero (f : State → State) (s : State) (req : Req) (i k : Nat) :
    following f (.next (s.answerW req i k 0)) = .next (f (s.answerW req i k 0)) := by
  obtain ⟨r, hreply, hstatus⟩ := s.answerW_reply_status req i k 0
  simp only [following, hreply, hstatus, if_true]

/-- R401: `DeviceResetCommand` that reaches the device and passes the checks of every request. -/
theorem State.exec_deviceResetCommand_of_takesWrite {s : State} {req : Req} {value : Nat}
    (hreq : s.takesWrite req O.deviceResetCommand 0) :
    exec (.deviceResetCommand req value) s = following (fun t => t.cdReset 9)
      (.next ((s.tagSeen req).answerW req O.deviceResetCommand 0
        (if s.anyEnergised then 0x0406 else if value ≠ 1 then 0x0301 else 0))) := by
  have hheard : s.hears req = true := State.hears_of_running hreq.1 hreq.2.1
  have hcheck : (s.tagSeen req).resetCommand value =
      (s.tagSeen req, if s.anyEnergised then 0x0406 else if value ≠ 1 then 0x0301 else 0) := by
    simp only [State.resetCommand, State.tagSeen_anyEnergised, refuse, accept]
    split_ifs <;> rfl
  change (if !s.hears req then done s else following _ (s.request req _ 0 fun s => s.resetCommand value)) = _
  rw [hheard, s.request_next _ req _ _ _ _ hreq hcheck]
  rfl

/-- Settles O30: the check of the command is the whole answer to a refusal; the reset follows the response to value 1. -/
theorem deviceResetCommand : Obligations.DeviceResetCommand := by
  unfold Obligations.DeviceResetCommand
  intro s req value hreq
  rw [State.exec_deviceResetCommand_of_takesWrite hreq]
  refine ⟨fun henergised => ?_, fun hoff hvalue => ?_, fun hoff hvalue => ⟨?_, rfl⟩⟩
  · rw [if_pos (s.anyEnergised_iff.mpr henergised), following_answerW_of_ne_zero _ _ _ _ _ _ (by decide)]
  · rw [(s.anyEnergised_eq_false_iff).mpr hoff, if_neg Bool.false_ne_true, if_pos hvalue,
      following_answerW_of_ne_zero _ _ _ _ _ _ (by decide)]
  · rw [(s.anyEnergised_eq_false_iff).mpr hoff, if_neg Bool.false_ne_true, if_neg (not_not.mpr hvalue),
      following_answerW_of_zero]

end Sys2Proof.Machine
end

section
/-! The entry into a moored mode (R403, R404): what it leaves of the mode that has been asked for. -/

namespace Sys2Proof.Machine

/-- Changes that leave the moored mode, done for each of a list of things, leave it. -/
theorem forEach_mooring {α : Type} (l : List α) (s : State) (f : State → α → State)
    (hf : ∀ t a, (f t a).pwr.mooring = t.pwr.mooring) : (forEach l s f).pwr.mooring = s.pwr.mooring :=
  forEach_keeps (fun t => t.pwr.mooring = s.pwr.mooring) l s f rfl fun t a ht => (hf t a).trans ht

/-- R41: what the power die keeps of an event is not its moored mode. -/
@[simp] theorem State.raise_mooring (s : State) (src inst : Nat) (p : List Byte) :
    (s.raise src inst p).pwr.mooring = s.pwr.mooring := by
  unfold State.raise
  split
  · rfl
  · split
    · rfl
    · split <;> rfl

/-! #### Flash, the journal and the log -/

@[simp] theorem State.replaceSectors_mooring (s : State) (area n : Nat) :
    (s.replaceSectors area n).pwr.mooring = s.pwr.mooring :=
  forEach_mooring _ _ _ fun _ _ => State.raise_mooring _ _ _ _

@[simp] theorem State.erase_mooring (s : State) (unit n : Nat) : (s.erase unit n).pwr.mooring = s.pwr.mooring := by
  unfold State.erase
  split
  · rfl
  · exact State.replaceSectors_mooring _ _ _

theorem State.journalPut_mooring (s : State) (key : Nat) (p : List Byte) :
    (s.journalPut key p).pwr.mooring = s.pwr.mooring := State.erase_mooring _ _ _

theorem State.journalMove_mooring (s : State) (key : Nat) : (s.journalMove key).pwr.mooring = s.pwr.mooring :=
  State.journalMove_keeps (fun t => t.pwr.mooring = s.pwr.mooring) (fun t k p h => (State.journalPut_mooring t k p).trans h)
    (fun _ _ h => h) s key rfl

theorem State.journalRoom_mooring (n k : Nat) (s : State) : (s.journalRoom n k).pwr.mooring = s.pwr.mooring := by
  induction k generalizing s with
  | zero => rfl
  | succ k ih =>
    unfold State.journalRoom
    split
    · rfl
    · exact (ih _).trans (State.journalMove_mooring _ _)

@[simp] theorem State.journal_mooring (s : State) (kind i : Nat) (p : List Byte) (w : Bool) :
    (s.journal kind i p w).pwr.mooring = s.pwr.mooring :=
  (State.replaceSectors_mooring _ _ _).trans ((State.journalPut_mooring _ _ _).trans (State.journalRoom_mooring _ _ _))

@[simp] theorem State.logStage_mooring (s : State) (r : LogRec) : (s.logStage r).pwr.mooring = s.pwr.mooring := by
  unfold State.logStage
  split
  · rfl
  · exact congrArg _ (State.bump_pwr _ _ _)

@[simp] theorem State.logSeal_mooring (s : State) : s.logSeal.pwr.mooring = s.pwr.mooring := by
  unfold State.logSeal
  split
  · rfl
  · exact State.logStage_mooring _ _

@[simp] theorem State.logInternal_mooring (s : State) (code sev : Nat) (p : List Byte) :
    (s.logInternal code sev p).pwr.mooring = s.pwr.mooring :=
  (State.logStage_mooring _ _).trans s.logSeal_mooring

@[simp] theorem State.logReclaimed_mooring (s : State) (p : LogPage) : (s.logReclaimed p).pwr.mooring = s.pwr.mooring := by
  simp [State.logReclaimed, apply_ite State.pwr, apply_ite Power.mooring]

@[simp] theorem State.logDropReport_mooring (s : State) : s.logDropReport.pwr.mooring = s.pwr.mooring := by
  simp [State.logDropReport, apply_ite State.pwr, apply_ite Power.mooring]

@[simp] theorem State.logOpenPage_mooring (s : State) (r : LogRec) : (s.logOpenPage r).pwr.mooring = s.pwr.mooring := by
  unfold State.logOpenPage
  split
  · exact congrArg _ (State.bump_pwr _ _ _)
  · rename_i old _
    cases old <;> simp [apply_ite State.pwr, apply_ite Power.mooring]

@[simp] theorem State.logReadBack_mooring (n : Nat) (s : State) (r : LogRec) :
    (State.logReadBack n s r).pwr.mooring = s.pwr.mooring := by
  induction n generalizing s with
  | zero => rfl
  | succ n ih =>
    unfold State.logReadBack
    split
    · rfl
    · exact (ih _).trans ((State.logOpenPage_mooring _ _).trans (State.replaceSectors_mooring _ _ _))

@[simp] theorem State.logProgramRec_mooring (s : State) (r : LogRec) : (s.logProgramRec r).pwr.mooring = s.pwr.mooring := by
  unfold State.logProgramRec
  split
  · simp [State.logVerify]
  · extract_lets p
    split <;> simp [State.logVerify]

@[simp] theorem State.logProgramN_mooring (fuel : Nat) (s : State) :
    (State.logProgramN fuel s).pwr.mooring = s.pwr.mooring := by
  induction fuel generalizing s with
  | zero => unfold State.logProgramN; rfl
  | succ n ih =>
    unfold State.logProgramN
    split
    · rfl
    · rfl
    · rename_i h _
      cases h
      exact (ih _).trans (State.logProgramRec_mooring _ _)

@[simp] theorem State.logProgramNow_mooring (s : State) : s.logProgramNow.pwr.mooring = s.pwr.mooring := by
  unfold State.logProgramNow
  split
  · exact State.logProgramN_mooring _ _
  · rfl

@[simp] theorem State.logFlush_mooring (s : State) (reason : Nat) : (s.logFlush reason).pwr.mooring = s.pwr.mooring := by
  simp [State.logFlush]

/-! #### The outputs -/

@[simp] theorem State.drvOff_mooring (s : State) (d : Nat) : (s.drvOff d).pwr.mooring = s.pwr.mooring := by
  simp only [State.drvOff, State.drvSwitch, State.countBreak, Bool.and_false, Bool.false_eq_true, if_false]
  split
  · split
    · split <;> simp
    · simp
  · simp

@[simp] theorem State.mdCoast_mooring (s : State) (n st : Nat) : (s.mdCoast n st).pwr.mooring = s.pwr.mooring := by
  simp [State.mdCoast, State.mdEnter]

theorem State.outputsOff_mooring (s : State) : s.outputsOff.pwr.mooring = s.pwr.mooring := by
  unfold State.outputsOff
  rw [forEach_mooring, forEach_mooring, forEach_mooring]
  · exact fun t d => t.drvOff_mooring d
  · exact fun _ _ => rfl
  · exact fun t n => by simp [State.mdLoss]

/-! #### The rings -/

@[simp] theorem State.shotDone_mooring (s : State) (k result : Nat) (members : List Int) :
    (s.shotDone k result members).pwr.mooring = s.pwr.mooring := by
  unfold State.shotDone
  split
  · rfl
  · simp

@[simp] theorem State.shotNotRun_mooring (s : State) (k result zeros : Nat) :
    (s.shotNotRun k result zeros).pwr.mooring = s.pwr.mooring := by
  unfold State.shotNotRun
  split
  · rfl
  · exact State.shotDone_mooring _ _ _ _

@[simp] theorem State.owNotRun_mooring (s : State) : s.owNotRun.pwr.mooring = s.pwr.mooring := by
  unfold State.owNotRun
  split
  · rfl
  · exact State.shotDone_mooring _ _ _ _

@[simp] theorem State.dropDeviceTest_mooring (s : State) : s.dropDeviceTest.pwr.mooring = s.pwr.mooring := by
  unfold State.dropDeviceTest
  split
  · rfl
  · simp [apply_ite State.pwr, apply_ite Power.mooring]

@[simp] theorem State.dropShots_mooring (s : State) (r : Nat) : (s.dropShots r).pwr.mooring = s.pwr.mooring := by
  simp [State.dropShots, State.testNotRun, apply_ite State.pwr, apply_ite Power.mooring]

@[simp] theorem State.dropWork_mooring (s : State) (r : Nat) : (s.dropWork r).pwr.mooring = s.pwr.mooring := by
  unfold State.dropWork
  rw [forEach_mooring]
  · exact s.dropShots_mooring r
  · exact fun _ _ => rfl

@[simp] theorem State.refreshEst_mooring (s : State) (n : Nat) : (s.refreshEst n).pwr.mooring = s.pwr.mooring := by
  unfold State.refreshEst
  extract_lets st v
  split
  · rfl
  · exact congrArg _ (State.put_pwr _ _ _ _)

@[simp] theorem State.slept_mooring (s : State) (r : Nat) : (s.slept r).pwr.mooring = s.pwr.mooring := by
  unfold State.slept
  extract_lets x
  split
  · rfl
  · simp

@[simp] theorem State.queueTrain_pwr (s : State) (r : Nat) (b : Bool) (t : Train) : (s.queueTrain r b t).pwr = s.pwr := rfl

@[simp] theorem State.sendBalance_pwr (s : State) (r : Nat) (b : Bool) (order first last timer : Nat) :
    (s.sendBalance r b order first last timer).pwr = s.pwr := State.queueTrain_pwr _ _ _ _

theorem State.ringMoor_mooring (s : State) (r : Nat) : (s.ringMoor r).pwr.mooring = s.pwr.mooring := by
  unfold State.ringMoor
  extract_lets t l
  have ht : t.pwr.mooring = s.pwr.mooring := by
    simp only [t]
    rw [State.ringUpd_pwr, State.dropWork_mooring]
  clear_value t
  split
  · rw [State.slept_mooring, ht]
  · rw [forEach_mooring, ht]
    exact fun t b => by rw [State.queueTrain_pwr, State.sendBalance_pwr]

/-! #### The flash work of the entry, and the whole of it -/

@[simp] theorem State.timeMark_mooring (s : State) (worn : Bool) : (s.timeMark worn).pwr.mooring = s.pwr.mooring := by
  simp [State.timeMark, State.ranWork]

theorem State.withVmot_pwr (s : State) (v : Vmot) : State.pwr { s with vmot := v } = s.pwr := rfl

theorem State.withFlash_pwr (s : State) (f : Flash) : State.pwr { s with flash := f } = s.pwr := rfl

theorem State.moorCommit_mooring (s : State) : s.moorCommit.pwr.mooring = s.pwr.mooring := by
  unfold State.moorCommit
  extract_lets t
  have ht : t.pwr.mooring = s.pwr.mooring := s.timeMark_mooring false
  clear_value t
  rw [forEach_mooring, ht]
  exact fun u n => (congrArg _ (State.withFlash_pwr _ _)).trans (u.journal_mooring 1 n (u.learnedPayload n) false)

theorem State.moorWork_mooring (s : State) : s.moorWork.pwr.mooring = s.pwr.mooring := by
  unfold State.moorWork
  split
  · rfl
  · split
    · rw [State.moorCommit_mooring]
    · split
      · rw [State.logFlush_mooring]
      · rfl

/-- R404: an entry that has begun keeps the mode asked for. -/
theorem State.moorStart_mooring (s : State) (m : Mooring) (inst : Nat) : (s.moorStart m inst).pwr.mooring = m := by
  unfold State.moorStart
  rw [State.moorWork_mooring, forEach_mooring _ _ _ State.ringMoor_mooring, forEach_mooring]
  · exact (congrArg Power.mooring (State.withVmot_pwr _ _)).trans
      ((State.outputsOff_mooring _).trans ((State.raise_mooring _ _ _ _).trans rfl))
  · exact fun u c => congrArg _ (u.cellUpd_pwr c _)

/-! #### The response -/

@[simp] theorem State.highWater_pwr (s : State) (ch : Nat) : (s.highWater ch).pwr = s.pwr := by
  unfold State.highWater
  extract_lets n
  split
  · exact State.put_pwr _ _ _ _
  · rfl

@[simp] theorem State.txPush_pwr (s : State) (link : Nat) (o : Out) : (s.txPush link o).pwr = s.pwr := by
  unfold State.txPush
  split
  · rw [State.highWater_pwr]
    rfl
  · rfl

@[simp] theorem State.txResponse_pwr (s : State) (link : Nat) (o : Out) : (s.txResponse link o).pwr = s.pwr := by
  unfold State.txResponse
  split
  · exact State.txPush_pwr _ _ _
  · split <;> rfl

@[simp] theorem State.answerW_pwr (s : State) (req : Req) (i k st : Nat) : (s.answerW req i k st).pwr = s.pwr :=
  State.txResponse_pwr _ _ _

/-! #### The checks of the command -/

/-- R403: what refuses both modes with 0x0411: an opening test, an entry under way, or the berth held with the link up. -/
theorem State.moor_of_free {s : State} (hopen : s.allOpen = true) (htest : s.otest.string = none)
    (hmooring : s.pwr.mooring = .none) (hberth : s.dup.mode = 0 ∨ s.dup.out = false ∨ s.dup.up = false) (v : Nat) :
    s.moor v = if v = 1 then accept (s.moorStart .enterWatch 0) else if v = 2 then accept (s.moorStart .enterDark 1)
      else refuse s 0x0301 := by
  have hholds : (s.dup.mode != 0 && s.dup.out && s.dup.up) = false := by
    rcases hberth with h | h | h <;> simp [h]
  simp [State.moor, hopen, htest, hmooring, hholds]

/-- R403, R404: an accepted command has begun the entry into the mode that it names. -/
theorem State.moor_accepts {s : State} (hopen : s.allOpen = true) (htest : s.otest.string = none)
    (hmooring : s.pwr.mooring = .none) (hberth : s.dup.mode = 0 ∨ s.dup.out = false ∨ s.dup.up = false) (dark : Bool) :
    ∃ u, s.moor (if dark then 2 else 1) = (u, 0) ∧ u.pwr.mooring = if dark then .enterDark else .enterWatch := by
  have hmoor := State.moor_of_free hopen htest hmooring hberth
  cases dark with
  | false => exact ⟨_, hmoor 1, s.moorStart_mooring .enterWatch 0⟩
  | true => exact ⟨_, hmoor 2, s.moorStart_mooring .enterDark 1⟩

theorem State.moor_of_closed {s : State} (hclosed : s.allOpen = false) (v : Nat) : s.moor v = (s, 0x0401) := by
  simp [State.moor, refuse, hclosed]

theorem State.moor_of_busy {s : State} (hopen : s.allOpen = true)
    (hbusy : s.otest.string.isSome = true ∨ (s.dup.mode ≠ 0 ∧ s.dup.out = true ∧ s.dup.up = true)) (v : Nat) :
    s.moor v = (s, 0x0411) := by
  rcases hbusy with h | ⟨hpair, hout, hup⟩
  · simp [State.moor, refuse, hopen, h]
  · simp [State.moor, refuse, hopen, hpair, hout, hup]

/-- R403: both commands are requests for the one object. -/
theorem exec_mooredCommand (s : State) (req : Req) (dark : Bool) :
    exec (if dark then .mooredDarkCommand req else .mooredWatchCommand req) s =
      s.request req O.mooredCommand 0 fun s => s.moor (if dark then 2 else 1) := by
  cases dark <;> rfl

/-- Settles O31: a RETIRED device refuses the write as any other (O12); else the command makes its checks, and an accepted one
begins the entry, which keeps the mode (`State.moorStart_mooring`). -/
theorem mooredCommandChecks : Obligations.MooredCommandChecks := by
  unfold Obligations.MooredCommandChecks
  refine ⟨fun s req dark hrun haddr hretired => ?_, fun s req dark hreq => ⟨fun hclosed => ?_, fun hopen hbusy => ?_,
    fun hopen htest hmooring hberth => ?_⟩, fun s v hwatch hdark hopen htest hmooring hberth => ?_⟩
  · have hgate : s.writeGate O.mooredCommand 0 (s.authOk req) = 0x0405 := if_pos hretired
    have hrefused := (s.request_refusesWrite req O.mooredCommand 0 fun s => s.moor (if dark then 2 else 1)).1 hrun haddr
      (by rw [hgate]; decide)
    rw [exec_mooredCommand, hrefused, hgate]
  · rw [exec_mooredCommand]
    exact s.request_next _ req _ _ _ _ hreq (State.moor_of_closed (by simpa using hclosed) _)
  · rw [exec_mooredCommand]
    exact s.request_next _ req _ _ _ _ hreq (State.moor_of_busy (by simpa using hopen) (by simpa using hbusy) _)
  · obtain ⟨u, hmoor, hentry⟩ := State.moor_accepts (s := s.tagSeen req) (by simpa using hopen) (by simpa using htest)
      (by simpa using hmooring) (by simpa using hberth) dark
    rw [exec_mooredCommand, s.request_next u req _ _ 0 _ hreq hmoor]
    exact ⟨_, rfl, (congrArg _ (u.answerW_pwr _ _ _ _)).trans hentry, u.answerW_reply_status _ _ _ _⟩
  · rw [State.moor_of_free hopen htest hmooring hberth, if_neg hwatch, if_neg hdark]
    rfl

end Sys2Proof.Machine
end

section
/-! Stage 4 of the package (R435): every string is given requested-open cause 4, and keeps it while the others are given theirs. -/

namespace Sys2Proof.Machine

/-- What the causes of the strings, given one after the other, leave: the canonical form, the package's throttle stage, and
every cause 4 given before. -/
def State.keepsHeat (t s₀ : State) : Prop :=
  t.canonical ∧ t.el O.throttleStage 3 = s₀.el O.throttleStage 3 ∧ ∀ k, 4 ∈ (s₀.str k).causes → 4 ∈ (t.str k).causes

theorem State.keepsHeat.refl {s : State} (hs : s.canonical) : s.keepsHeat s := ⟨hs, rfl, fun _ h => h⟩

theorem State.keepsHeat.trans {s t u : State} (htu : u.keepsHeat t) (hst : t.keepsHeat s) : u.keepsHeat s := by
  obtain ⟨hcanonical, hstage, hcauses⟩ := htu
  obtain ⟨-, hstage', hcauses'⟩ := hst
  exact ⟨hcanonical, hstage.trans hstage', fun k h => hcauses k (hcauses' k h)⟩

theorem State.keepsHeat.canonical {s t : State} (h : t.keepsHeat s) : t.canonical := h.1

/-- A change of neither the dictionary nor the strings. -/
theorem State.keepsHeat.of_same {t s₀ : State} (u : State) (hs : t.keepsHeat s₀) (hcanonical : u.canonical)
    (hvariant : u.variant = t.variant) (hobjs : u.objs = t.objs) (hstrs : u.strs = t.strs) : u.keepsHeat s₀ := by
  obtain ⟨-, hstage, hcauses⟩ := hs
  refine ⟨hcanonical, ?_, ?_⟩
  · rw [State.el, hvariant, hobjs]
    exact hstage
  · simp only [State.str, hstrs]
    exact hcauses

theorem forEach_keepsHeat {α : Type} {s₀ : State} (l : List α) (s : State) (f : State → α → State) (hs : s.keepsHeat s₀)
    (hf : ∀ t, ∀ a ∈ l, t.keepsHeat s₀ → (f t a).keepsHeat s₀) : (forEach l s f).keepsHeat s₀ := by
  induction l generalizing s with
  | nil => exact hs
  | cons a l ih => exact ih (f s a) (hf s a List.mem_cons_self hs) fun t b hb => hf t b (List.mem_cons_of_mem _ hb)

theorem State.lt_four_of_mem_strings {s : State} {n : Nat} (h : n ∈ s.strings) : n < 4 := by
  have hlt : n < s.nStrings := List.mem_range.mp h
  unfold State.nStrings at hlt
  split at hlt <;> omega

/-! #### Elements and records -/

section ops
variable {s s₀ : State} (hs : s.keepsHeat s₀)
include hs

theorem State.put_keepsHeat {i k : Nat} (v : Int) (hi : i < O.throttleStage) (hk : k < 65536) : (s.put i k v).keepsHeat s₀ := by
  obtain ⟨hcanonical, hstage, hcauses⟩ := hs
  refine ⟨State.put_canonical _ _ _ _ hcanonical, ?_, fun k h => ?_⟩
  · rw [State.put_el_other _ _ _ _ _ _ (okey_ne hk (by decide) (.inl hi.ne')), hstage]
  · rw [State.str, State.put_strs]
    exact hcauses k h

theorem State.strUpd_keepsHeat (n : Nat) (f : Str → Str) (hf : ∀ x : Str, 4 ∈ x.causes → 4 ∈ (f x).causes) :
    (s.strUpd n f).keepsHeat s₀ := by
  obtain ⟨hcanonical, hstage, hcauses⟩ := hs
  refine ⟨State.strUpd_canonical _ _ _ hcanonical, hstage, fun k h => ?_⟩
  by_cases hk : k = n
  · subst hk
    rw [State.strUpd_str_same _ _ _ hcanonical]
    exact hf _ (hcauses k h)
  · rw [State.strUpd_str_other _ _ _ _ hk]
    exact hcauses k h

theorem State.raise_keepsHeat (src inst : Nat) (p : List Byte) : (s.raise src inst p).keepsHeat s₀ :=
  hs.of_same _ (State.raise_canonical _ _ _ _ hs.canonical) (State.raise_variant _ _ _ _) (State.raise_objs _ _ _ _)
    (State.raise_strs _ _ _ _)

theorem State.drvUpd_keepsHeat (d : Nat) (f : Driver → Driver) : (s.drvUpd d f).keepsHeat s₀ :=
  hs.of_same _ (State.drvUpd_canonical _ _ _ hs.canonical) rfl rfl rfl

theorem State.sayP_keepsHeat (cls content : Nat) : (s.sayP cls content).keepsHeat s₀ :=
  hs.of_same _ (State.sayP_canonical _ _ _ hs.canonical) rfl rfl rfl

theorem State.sayC_keepsHeat (cls content : Nat) : (s.sayC cls content).keepsHeat s₀ :=
  hs.of_same _ (State.sayC_canonical _ _ _ hs.canonical) rfl rfl rfl

theorem State.refuseOut_keepsHeat (r : OutReq) : (s.refuseOut r).keepsHeat s₀ :=
  hs.of_same _ (State.refuseOut_canonical _ _ hs.canonical) rfl rfl rfl

theorem State.outputDone_keepsHeat : s.outputDone.keepsHeat s₀ :=
  hs.of_same _ (State.outputDone_canonical _ hs.canonical) rfl rfl rfl

/-! #### Requests for drivers -/

theorem State.countBreak_keepsHeat {d : Nat} (hd : d < 12) : (s.countBreak d).keepsHeat s₀ := by
  have hcounted : (s.bump O.loadBreakCount d).keepsHeat s₀ := State.put_keepsHeat hs _ (by decide) (by omega)
  unfold State.countBreak
  extract_lets i t
  split
  · split
    · exact State.put_keepsHeat hcounted _ (by decide) (by omega)
    · exact hcounted
  · exact hs

theorem State.drvOff_keepsHeat {d : Nat} (hd : d < 12) : (s.drvOff d).keepsHeat s₀ := by
  unfold State.drvOff State.drvSwitch
  rw [if_neg (by decide)]
  split
  · exact State.drvUpd_keepsHeat (State.countBreak_keepsHeat hs hd) _ _
  · exact State.drvUpd_keepsHeat hs _ _

theorem State.requestOff_keepsHeat {d : Nat} (hd : d < 12) : (s.requestOff d).keepsHeat s₀ := by
  unfold State.requestOff
  split
  · extract_lets t
    have ht : t.keepsHeat s₀ := by
      simp only [t]
      split
      · exact State.refuseOut_keepsHeat hs _
      · exact hs
    exact State.outputDone_keepsHeat (State.drvUpd_keepsHeat (State.drvOff_keepsHeat ht hd) _ _)
  · exact State.refuseOut_keepsHeat hs _

theorem State.roleOff_keepsHeat (n role : Nat) : (s.roleOff n role).keepsHeat s₀ := by
  refine forEach_keepsHeat _ _ _ hs fun t d hd ht => ?_
  have hlt : d < 12 := List.mem_range.mp (List.mem_of_mem_filter hd)
  exact State.sayP_keepsHeat (State.requestOff_keepsHeat (State.sayC_keepsHeat ht _ _) hlt) _ _

/-! #### States of the strings and the limits that follow them -/

theorem State.setApplied_keepsHeat : s.setApplied.keepsHeat s₀ := by
  refine forEach_keepsHeat _ _ _ hs fun t n hn ht => forEach_keepsHeat _ _ _ ht fun u h hh hu => ?_
  have hstring : n < 4 := State.lt_four_of_mem_strings hn
  have hhorizon : h < 3 := by simp at hh; omega
  exact State.put_keepsHeat (State.put_keepsHeat hu _ (by decide) (by omega)) _ (by decide) (by omega)

theorem State.busLimits_keepsHeat : s.busLimits.keepsHeat s₀ := by
  unfold State.busLimits
  extract_lets cl opening sh t
  have ht : t.keepsHeat s₀ := forEach_keepsHeat _ _ _ hs fun u n hn hu => by
    have hstring : n < 4 := State.lt_four_of_mem_strings hn
    exact State.put_keepsHeat hu _ (by decide) (by omega)
  refine forEach_keepsHeat _ _ _ ht fun u h hh hu => ?_
  have hhorizon : h < 65536 := by simp at hh; omega
  exact State.put_keepsHeat (State.put_keepsHeat (State.put_keepsHeat (State.put_keepsHeat hu _ (by decide) hhorizon) _
    (by decide) hhorizon) _ (by decide) hhorizon) _ (by decide) hhorizon

theorem State.enterSeq_keepsHeat {n : Nat} (hn : n < 65536) (st : Nat) : (s.enterSeq n st).keepsHeat s₀ := by
  unfold State.enterSeq
  extract_lets old t u
  have ht : t.keepsHeat s₀ :=
    State.strUpd_keepsHeat (State.put_keepsHeat hs _ (by decide) hn) _ _ fun _ h => h
  have hu : u.keepsHeat s₀ := by
    simp only [u]
    split
    · exact State.put_keepsHeat (State.put_keepsHeat ht _ (by decide) hn) _ (by decide) hn
    · split
      · exact ht
      · exact State.put_keepsHeat ht _ (by decide) hn
  split
  · exact State.busLimits_keepsHeat (State.setApplied_keepsHeat hu)
  · exact hu

theorem State.enterOpen_keepsHeat {n : Nat} (hn : n < 65536) (st : Nat) : (s.enterOpen n st).keepsHeat s₀ := by
  have ht := State.enterSeq_keepsHeat hs hn st
  unfold State.enterOpen
  dsimp only
  split
  · exact State.strUpd_keepsHeat ht _ _ fun x h => (List.mem_erase_of_ne (by decide)).mpr h
  · exact ht

theorem State.abortClose_keepsHeat {n : Nat} (hn : n < 65536) : (s.abortClose n).keepsHeat s₀ :=
  State.enterOpen_keepsHeat (State.roleOff_keepsHeat (State.roleOff_keepsHeat (State.roleOff_keepsHeat hs n 0) n 1) n 2) hn 0

end ops

/-! #### The cause -/

/-- R195: a cause that comes in stands in the causes of its string, and those of the other strings stay. -/
theorem State.openCause_keepsHeat {s : State} (hs : s.canonical) {n : Nat} (hn : n < 65536) :
    (s.openCause n 4).keepsHeat s ∧ 4 ∈ ((s.openCause n 4).str n).causes := by
  unfold State.openCause
  extract_lets t st
  have ht : t.keepsHeat s := by
    refine State.strUpd_keepsHeat (.refl hs) _ _ fun x h => ?_
    split
    · exact h
    · exact List.mem_mergeSort.mpr (List.mem_cons_of_mem _ h)
  have hcause : 4 ∈ (t.str n).causes := by
    rw [State.strUpd_str_same _ _ _ hs]
    by_cases hlisted : (s.str n).causes.contains 4 = true
    · rw [if_pos hlisted]
      exact List.contains_iff_mem.mp hlisted
    · rw [if_neg hlisted]
      exact List.mem_mergeSort.mpr List.mem_cons_self
  have hall {u : State} (hu : u.keepsHeat t) : u.keepsHeat s ∧ 4 ∈ (u.str n).causes := ⟨hu.trans ht, hu.2.2 n hcause⟩
  have hrefl : t.keepsHeat t := .refl ht.canonical
  clear_value t
  split
  · exact hall hrefl
  · split
    · exact hall (State.raise_keepsHeat (State.enterSeq_keepsHeat hrefl hn 7) _ _ _)
    · split
      · exact hall (State.abortClose_keepsHeat hrefl hn)
      · exact hall hrefl

theorem State.openCauses_keepsHeat (l : List Nat) (hl : ∀ n ∈ l, n < 65536) {s : State} (hs : s.canonical) :
    (forEach l s fun s n => s.openCause n 4).keepsHeat s ∧
      ∀ n ∈ l, 4 ∈ ((forEach l s fun s n => s.openCause n 4).str n).causes := by
  induction l generalizing s with
  | nil => exact ⟨.refl hs, by simp⟩
  | cons n l ih =>
    obtain ⟨hfirst, hcause⟩ := State.openCause_keepsHeat hs (hl n List.mem_cons_self)
    obtain ⟨hrest, hcauses⟩ := ih (fun m hm => hl m (List.mem_cons_of_mem _ hm)) hfirst.canonical
    refine ⟨hrest.trans hfirst, fun m hm => ?_⟩
    rcases List.mem_cons.mp hm with rfl | hm
    · exact hrest.2.2 m hcause
    · exact hcauses m hm

/-! #### The entry -/

@[simp] theorem State.raise_running (s : State) (src inst : Nat) (p : List Byte) :
    (s.raise src inst p).running = s.running := by
  unfold State.raise
  split
  · rfl
  · split
    · rfl
    · split <;> rfl

theorem State.setStage_strings (s : State) (k g : Nat) : (s.setStage k g).strings = s.strings := by
  rw [State.strings, State.nStrings, State.setStage, State.raise_variant, State.put_variant]
  rfl

/-- R433, R435: the entry into stage 4 of the package is the stage, the restart of the shedding where it had not begun, and the
cause. -/
theorem State.stageEnter_four {s : State} (hrun : s.running = true) :
    ∃ t : State, s.stageEnter 3 4 = forEach s.strings t (fun s n => s.openCause n 4) ∧ t.objs = (s.setStage 3 4).objs ∧
      t.variant = (s.setStage 3 4).variant ∧ (s.canonical → t.canonical) := by
  have hrunning : (s.setStage 3 4).running = true := by rw [State.setStage, State.raise_running]; exact hrun
  have hcanonical : s.canonical → (s.setStage 3 4).canonical := State.setStage_canonical s 3 4
  have hstrings := s.setStage_strings 3 4
  unfold State.stageEnter
  dsimp only
  generalize s.setStage 3 4 = u at hrunning hcanonical hstrings ⊢
  rw [if_neg (by decide), if_pos rfl]
  by_cases hbefore : s.gn O.throttleStage 3 < 3
  · have hu : State.running { u with th := { u.th with shedAt := none, shedTemp := none } } = true := hrunning
    refine ⟨{ u with th := { u.th with shedAt := none, shedTemp := none } }, ?_, rfl, rfl, hcanonical⟩
    rw [if_pos hbefore, hu, ← hstrings]
    rfl
  · refine ⟨u, ?_, rfl, rfl, hcanonical⟩
    rw [if_neg hbefore, hrunning, ← hstrings]
    rfl

/-- Settles O33: the entry sets the stage, and then gives each string its cause (`State.openCauses_keepsHeat`). -/
theorem stageFourOpens : Obligations.StageFourOpens := by
  unfold Obligations.StageFourOpens
  intro s hs hrun hpd hstage hhits
  obtain ⟨t, henter, hobjs, hvariant, hcanonical⟩ := State.stageEnter_four hrun
  have hstrings : ∀ n ∈ s.strings, n < 65536 := fun n hn => (State.lt_four_of_mem_strings hn).trans (by decide)
  obtain ⟨⟨-, hkept, -⟩, hcauses⟩ := State.openCauses_keepsHeat s.strings hstrings (hcanonical hs)
  have hset : t.el O.throttleStage 3 = [4] := by
    rw [State.el, hvariant, hobjs]
    change (s.setStage 3 4).el O.throttleStage 3 = [4]
    rw [State.setStage, State.raise_el]
    exact State.putL_el_same _ _ _ _ hs
  refine ⟨s.stageEnter 3 4, ?_, ?_, ?_⟩
  · change doneIf (s.pd && _ && _ && _ && _) (s.stageEnter 3 4) s = _
    simp [doneIf, hpd, hstage, hhits, scopeStages]
  · rw [henter, State.gn, State.gi, hkept, hset]
    rfl
  · rw [henter]
    exact hcauses

end Sys2Proof.Machine
end

section
/-! The forms that the commands share, where they complete: what each comes to once its conditions are met. -/

namespace Sys2Proof.Machine

/-- A command whose moment has come. -/
theorem doneIf_next {c : Bool} {t t' s : State} (hc : c = true) (ht : t = t') : doneIf c t s = .next t' := by
  rw [doneIf, hc, ht]
  rfl

/-- R76: a reply that a ring's end hears first, and that is valid, is noted and acted on. -/
theorem State.onReply_next {s : State} {r hop pos : Nat} {port b : Bool} {f : List Byte}
    (hhears : s.hearsReply r port f hop pos b) (act : State → Nat → Bool → State) :
    s.onReply r port f act = .next (act (s.noteReply r port (b2n b * 32 + hop) f) pos b) := by
  obtain ⟨hrun, hhas, hring, hdirects, hjudged⟩ := hhears
  exact doneIf_next (by simp [hrun, hhas, hring]) (by rw [if_pos hdirects, State.reply, hjudged])

/-- R287, R292, R317, R420: a request that passes the checks of every request is run on the state in which it is counted. -/
theorem State.ask_next {s t : State} {f : QlpFrame} {op : Nat} {run : State → State} (hreq : s.takesRequest f op)
    (hop : op ∈ knownOps) (ht : run (s.asked f) = t) : s.ask f op run = .next t := by
  rw [State.ask_of_admits hreq.1 hreq.2.1 hop (fun hretired => absurd hretired hreq.2.2) run]
  exact congrArg _ ht

/-- R285, R293, R317: a block frame that reaches the device. -/
theorem State.blockFrame_next {s t : State} {f : QlpFrame} {kind : Nat} {op : State → State} (hblock : s.takesBlock f kind)
    (ht : op (s.countIn f) = t) : s.blockFrame f kind op = .next t := by
  obtain ⟨hframe, hcls, haccepts, hkind, hlength⟩ := hblock
  have hreserved : reservedSet f = false := hframe.2.2.2.2
  rw [State.blockFrame, if_neg (by simp [hkind]), State.receive_of_accepted hframe hcls haccepts]
  simp [hreserved, hkind, Nat.not_lt.mpr hlength, ht]

/-- R361: a valid frame of the duplex link. -/
theorem State.dupFrame_next {s t : State} {crcOk : Bool} {op : State → State} (hrun : s.running = true)
    (hmode : s.dup.mode ≠ 0) (hcrc : crcOk = true) (ht : op s.dupHeard = t) : s.dupFrame crcOk op = .next t := by
  rw [← ht]
  simp [State.dupFrame, hrun, hmode, hcrc, done, State.dupHeard]

/-! What a one-shot leaves as it is when it starts. -/

theorem State.shotStart_has (s : State) (k seq target r : Nat) : (s.shotStart k seq target).has r = s.has r := rfl

theorem State.shotStart_nMon (s : State) (k seq target r : Nat) : (s.shotStart k seq target).nMon r = s.nMon r := rfl

theorem State.shotStart_gn (s : State) (k seq target i j : Nat) : (s.shotStart k seq target).gn i j = s.gn i j := rfl

theorem State.shotStart_ready (s : State) (k seq target : Nat) : (s.shotStart k seq target).ready = s.ready := rfl

theorem State.shotStart_shotRuns (s : State) (k seq target t : Nat) :
    (s.shotStart k seq target).shotRuns t = s.shotRuns t := rfl

theorem State.shotStart_selfTestRuns (s : State) (k seq target : Nat) :
    (s.shotStart k seq target).selfTestRuns = s.selfTestRuns := rfl

/-- A power die that is awake is up. -/
theorem State.pdUp_of_pd {s : State} (h : s.pd = true) : s.pwr.pdUp = true := (Bool.and_eq_true_iff.mp h).1

/-! The end of a session (R298). -/

theorem State.sessionEnd_of_none {s : State} (h : s.qlp.session = none) : s.sessionEnd = s := by
  rw [State.sessionEnd, h]

theorem State.sessionEnd_of_some {s : State} {x : Session} (h : s.qlp.session = some x) :
    s.sessionEnd = State.raise { s with qlp := { s.qlp with session := none } } 0xD7 1 := by
  rw [State.sessionEnd, h]

/-- A time that lies back by a span lies back by every shorter one. -/
theorem State.past_of_le {s : State} {t d d' : Nat} (h : s.past t d = true) (hd : d' ≤ d) : s.past t d' = true := by
  simp only [State.past, decide_eq_true_eq] at h ⊢
  omega

end Sys2Proof.Machine
end

section
/-! Output requests and hardware trips at the power die (chapter 1): each takes effect where its conditions hold. -/

namespace Sys2Proof.Machine

/-- Settles O35: a request is carried out or refused by what the driver, the berth and the safe-off say of it, and a
trip by its level; each clause names the branch of the request that its conditions choose. -/
theorem completesPowerDie : Obligations.CompletesPowerDie := by
  unfold Obligations.CompletesPowerDie
  intro s
  dsimp only [exec]
  refine ⟨?_, ?_, ?_, ?_, ?_, ?_, ?_, ?_, ?_, ?_, ?_⟩
  -- `outputRequest`
  · intro d hpd hmayenergise hyields
    exact doneIf_next (by simp [hpd]) (if_pos (by simp [hmayenergise, hyields]))
  · intro d hpd hyields
    exact doneIf_next (by simp [hpd]) (by rcases hyields with h | h <;> simp [State.requestOn, h])
  · intro d hpd htrusts hberth hsafe hclosereqat
    exact doneIf_next (by simp [hpd]) (by simp [State.requestOff, htrusts, hberth, hsafe, hclosereqat])
  · intro d hpd hsafe
    exact doneIf_next (by simp [hpd]) (by rcases hsafe with h | h | h <;> simp [State.requestOff, h])
  · intro n mode duty freq hpd htrusts hberth hquiet
    exact doneIf_next (by simp [hpd]) (by simp [State.lsRequest, hquiet, htrusts, hberth])
  · intro n rpm hpd hhas htrusts hberth hquiet
    exact doneIf_next (by simp [hpd]) (by simp [State.mdRequest, hhas, hquiet, htrusts, hberth])
  · intro n hpd htrusts hberth
    exact doneIf_next (by simp [hpd]) (if_pos (by simp [htrusts, hberth]))
  · intro n hpd hhas htrusts hberth
    exact doneIf_next (by simp [hpd]) (by simp [State.mdClearRequest, hhas, htrusts, hberth])
  · intro hpd htrusts hberth
    exact doneIf_next (by simp [hpd]) (if_pos (by simp [htrusts, hberth]))
  -- `tripOpenRequest`
  · intro string hpd hhas htripscount hword
    exact doneIf_next (by simp [hpd, hhas, htripscount]) (by simp [hword])
  · intro string l hpd hcd hhas htripscount hword hstate
    exact doneIf_next (by simp [hpd, hhas, htripscount]) (by simp [hcd, hword, hstate])

end Sys2Proof.Machine
end

section
/-! Events, routing, memory errors and commits to flash (chapter 1). -/

namespace Sys2Proof.Machine

/-- What a commit of the learned data leaves in the flash's record of it: when it was last committed, the strings whose weld
state is not yet in it, and the journal's sequence. -/
def State.learnedMarks (s : State) : List (Nat × Nat) × List (Nat × Nat) × Nat :=
  (s.flash.learnedAt, s.flash.weldDirty, s.flash.jseq)

theorem State.replaceSectors_learnedMarks (s : State) (area n : Nat) :
    (s.replaceSectors area n).learnedMarks = s.learnedMarks := by
  unfold State.replaceSectors
  refine forEach_keeps (fun t => t.learnedMarks = s.learnedMarks) _ s _ rfl fun t _ ht => ?_
  rw [← ht, State.learnedMarks, State.raise_flash]
  rfl

theorem State.erase_learnedMarks (s : State) (unit n : Nat) : (s.erase unit n).learnedMarks = s.learnedMarks := by
  unfold State.erase
  split
  · rfl
  · rw [State.replaceSectors_learnedMarks]
    rfl

/-- R410: a record appended takes the next sequence. -/
theorem State.journalPut_learnedMarks (s : State) (key : Nat) (payload : List Byte) :
    (s.journalPut key payload).learnedMarks = (s.flash.learnedAt, s.flash.weldDirty, s.flash.jseq + 1) := by
  rw [State.journalPut, State.erase_learnedMarks]
  rfl

/-- R410: where nothing has to be relocated, a commit takes one sequence. -/
theorem State.journal_learnedMarks {s : State} {kind inst : Nat} {payload : List Byte} (worn : Bool)
    (hroom : s.journalDoomed (journalBytes payload) = none) :
    (s.journal kind inst payload worn).learnedMarks = (s.flash.learnedAt, s.flash.weldDirty, s.flash.jseq + 1) := by
  rw [State.journal, State.replaceSectors_learnedMarks, State.journalRoom, hroom, State.journalPut_learnedMarks]

/-- Settles O36: each clause's conditions are what the command checks; of a commit, `State.journal_learnedMarks` says
what it leaves in the flash. -/
theorem completesEventsAndStores : Obligations.CompletesEventsAndStores := by
  unfold Obligations.CompletesEventsAndStores
  intro s
  dsimp only [exec]
  refine ⟨?_, ?_, ?_, ?_, ?_, ?_, ?_, ?_, ?_, ?_⟩
  -- `eventMatrixEvaluate`
  · intro hrun
    exact doneIf_next (by simp [hrun]) rfl
  -- `eventRouteWrite`
  · intro req source value hreq hsourcelocked hhigh hlow hopen hstrings
    exact s.request_next _ req _ _ _ _ hreq (by
      rcases hstrings with h | h <;> simp [State.routeWrite, accept, hsourcelocked, hhigh, hlow, hopen, h])
  -- `eventAcknowledge`
  · intro req value hreq hvalue htripfield
    exact s.request_next _ req _ _ _ _ hreq (by simp [State.acknowledge, refuse, accept, hvalue, htripfield])
  -- `sramEccError`
  · intro area uncorrectable item hrun huncorrectable
    exact doneIf_next (by simp [hrun]) (by simp [huncorrectable])
  · intro area uncorrectable item hrun huncorrectable harea
    exact doneIf_next (by simp [hrun]) (by simp [huncorrectable, harea])
  · intro area uncorrectable item hrun huncorrectable harea
    exact ⟨_, doneIf_next (by simp [hrun]) (by rw [if_pos huncorrectable, if_pos harea]), rfl, rfl,
      by simp [State.keepReason]⟩
  -- `tableSetReloadDone`
  · intro set hrun hreloading
    exact doneIf_next (by simp [hrun, hreloading]) rfl
  -- `tableSetLoadDone`
  · intro set hrun hreloading
    exact doneIf_next (by simp [hrun, hreloading]) rfl
  -- `learnedDataCommit`
  · intro string worn hrun hinmanifest hflash hroom hpast
    have hmarks := State.journal_learnedMarks (kind := 1) (inst := string.val) worn hroom
    simp only [State.learnedMarks, Prod.mk.injEq] at hmarks
    exact ⟨_, doneIf_next (by simp [hrun, hinmanifest, hflash, hpast]) rfl, by simp [State.ranWork, hmarks],
      by simp [State.ranWork, hmarks]⟩
  -- `weldStateCommit`
  · intro string worn hrun hwelddirty hflash hroom
    have hmarks := State.journal_learnedMarks (kind := 1) (inst := string.val) worn hroom
    simp only [State.learnedMarks, Prod.mk.injEq] at hmarks
    exact ⟨_, doneIf_next (by simp [hrun, hwelddirty, hflash]) rfl, by simp [hmarks], hmarks.2.2⟩

end Sys2Proof.Machine
end

section
/-! A ring's lanes, trains and idle slots (chapter 2). -/

namespace Sys2Proof.Machine

/-- R66, R76: what returns on a ring that the device directs. -/
theorem execReturnPathCheck_of_directs {s t : State} {ring : Fin 4} {rp : ReturnPath} (hrun : s.running = true)
    (hdirects : s.directs = true) (hhas : s.has ring.val = true)
    (hring : s.gn O.chainRingState ring.val = 2 ∨ s.gn O.chainRingState ring.val = 3 ∨
      s.gn O.chainRingState ring.val = 4) (ht : s.returned ring.val rp = t) : execReturnPathCheck ring rp s = .next t := by
  rw [execReturnPathCheck, if_pos hdirects]
  exact doneIf_next (by simp [hrun, hhas, hring]) ht

/-- R367: what returns on a ring that the device does not direct. -/
theorem execReturnPathCheck_of_not_directs {s t : State} {ring : Fin 4} {rp : ReturnPath} (hrun : s.running = true)
    (hdirects : s.directs = false) (hhas : s.has ring.val = true)
    (ht : s.returnedFar ring.val rp = t) : execReturnPathCheck ring rp s = .next t := by
  rw [execReturnPathCheck, if_neg (by simp [hdirects])]
  exact doneIf_next (by simp [hrun, hhas]) ht

/-- R66: the head's own trigger, back unchanged over a ring without a break, gives the round trip. -/
theorem State.returned_trigger {s : State} {r ns : Nat} {seq check : Byte} (hbroken : (s.ring r).broken = [])
    (hring : s.gn O.chainRingState r = 2 ∨ s.gn O.chainRingState r = 3)
    (hsame : s.returnDiffers r (.trigger s.headB ns seq check) = false) :
    s.returned r (.trigger s.headB ns seq check) = s.triggerBack r ns := by
  simp [State.returned, State.returnCompare, hbroken, hring, hsame]

/-- R66: a round trip within 0.20 µs of R ends the count of those that are further from it. -/
theorem State.triggerBack_of_near {s : State} {r ns : Nat} (hwant : (s.ring r).wantR = 0)
    (hnone : (s.ring r).remeasure = .none) (hlate : ns - s.portNs r s.headB ≤ s.gn O.ringRoundTrip r + 200)
    (hearly : s.gn O.ringRoundTrip r ≤ ns - s.portNs r s.headB + 200) :
    s.triggerBack r ns = s.ringUpd r fun x => { x with drift := 0 } := by
  have hnear : ((ns - s.portNs r s.headB : Nat) : Int) ≤ s.gn O.ringRoundTrip r + 200 ∧
      (s.gn O.ringRoundTrip r : Int) ≤ (ns - s.portNs r s.headB : Nat) + 200 := by omega
  rw [State.triggerBack, if_neg (by simp [hwant]), if_neg (by simp [hnone]), if_pos hnear]

/-- The end that reaches a monitor rests on the ring, not on what the device keeps of its monitors. -/
theorem State.monUpd_endOf (s : State) (k : Nat) (f : Monitor → Monitor) (r p : Nat) :
    (s.monUpd k f).endOf r p = s.endOf r p := rfl

/-- Settles O37: each clause's conditions are what the command checks; a return path is the directing device's or its
partner's, and a trigger's return `State.triggerBack` judges. -/
theorem completesChainLinks : Obligations.CompletesChainLinks := by
  unfold Obligations.CompletesChainLinks
  intro s
  dsimp only [exec]
  refine ⟨?_, ?_, ?_, ?_, ?_, ?_, ?_, ?_, ?_, ?_, ?_, ?_, ?_, ?_, ?_, ?_, ?_, ?_, ?_⟩
  -- `laneLost`
  · intro ring loss hcd hhas hmon hbend hlosta hseen
    exact doneIf_next (by simp [hcd, hhas, hmon, hbend, hlosta, hseen]) rfl
  -- `laneRestored`
  · intro ring v hcd hlosta hvalidus hpast
    exact doneIf_next (by simp [hcd, hlosta, hvalidus, hpast]) rfl
  -- `trainEotReturned`
  · intro ring bEnd t hrun htrain
    simp [execTrainEotReturned, doneIf, hrun, htrain]
  -- `trainTimeout`
  · intro ring bEnd t hrun htrain hpast
    simp [execTrainTimeout, doneIf, hrun, htrain, hpast]
  -- `returnPathCheck`
  · intro ring b f hrun hdirects hhas hring hdiffers
    exact execReturnPathCheck_of_directs hrun hdirects hhas hring (by simp [State.returned, State.returnCompare, hdiffers])
  · intro ring ns seq check hrun hdirects hhas hbroken hring hsame
    exact execReturnPathCheck_of_directs hrun hdirects hhas (by omega) (State.returned_trigger hbroken hring hsame)
  · intro ring ns seq check hrun hdirects hhas hbroken hring hsame hwant hnone hlate hearly
    exact execReturnPathCheck_of_directs hrun hdirects hhas (.inr (.inl hring))
      ((State.returned_trigger hbroken (.inr hring) hsame).trans (State.triggerBack_of_near hwant hnone hlate hearly))
  · intro ring hrun hdirects hhas
    exact execReturnPathCheck_of_not_directs hrun hdirects hhas rfl
  · intro ring b f hrun hdirects hhas
    exact execReturnPathCheck_of_not_directs hrun hdirects hhas rfl
  -- `idleSlotLaunch`
  · intro ring bEnd t queued hrun hhas hnextlaunch hmaylaunch hmatemay
    rw [execIdleSlotLaunch, hnextlaunch]
    refine doneIf_next ?_ rfl
    rcases hmate : s.rejoinMate ring.val bEnd t with _ | u
    · simp [hrun, hhas, hmaylaunch]
    · simp [hrun, hhas, hmaylaunch, hmatemay u hmate]
  -- `hopMissing`
  · intro ring bEnd hop hrun hhas hsweeping htakeover hmon hposof hdeclared hhoplate
    exact doneIf_next (by simp [hrun, hhas, hsweeping, htakeover, hmon, hposof, hdeclared, hhoplate]) rfl
  -- `authReadDue`
  · intro ring pos hrun hchallenge hchallengeat hpast hissome
    exact doneIf_next (by simp [hrun, hchallenge, hchallengeat, hpast])
      (if_neg (by rw [State.monUpd_endOf, ← Option.not_isSome, hissome]; decide))
  · intro ring pos hrun hchallenge hchallengeat hpast hendof
    exact doneIf_next (by simp [hrun, hchallenge, hchallengeat, hpast]) (if_pos (by rw [State.monUpd_endOf, hendof]; rfl))
  -- `authRetry`
  · intro ring pos at' hrun hring hchallenge hwrongat hpast
    exact doneIf_next (by simp [hrun, hring, hchallenge, hwrongat, hpast]) rfl
  -- `moduleAuthDue`
  · intro ring pos hrun hring hmon hchallenge hmono
    exact doneIf_next (by simp [hrun, hring, hmon, hchallenge, hmono]) rfl
  -- `enumerationStart`
  · intro ring hrun hhas hdirects hmon hlife hasleep hmooring hring
    exact doneIf_next (by simp [hrun, hhas, hdirects, hmon, hlife, hasleep, hmooring, hring]) rfl
  -- `enumerationWaitDone`
  · intro ring aIdle bIdle hrun henumstep hpast
    exact doneIf_next (by simp [hrun, henumstep, hpast]) rfl
  -- `manifestMismatchReenumerate`
  · intro ring hrun hmismatch hstate
    exact doneIf_next (by simp [hrun, hmismatch, hstate]) rfl
  -- `chainWakeEnd`
  · intro ring hrun hdirects hmooring hring hpast
    exact doneIf_next (by simp [hrun, hdirects, hmooring, hring, hpast]) rfl

end Sys2Proof.Machine
end

section
/-! A monitor's replies (chapter 2, R76). -/

namespace Sys2Proof.Machine

/-- Settles O38: `State.onReply_next`, for the act of each kind of reply. -/
theorem completesChainReplies : Obligations.CompletesChainReplies := by
  unfold Obligations.CompletesChainReplies
  intro s
  dsimp only [exec]
  refine ⟨?_, ?_, ?_, ?_, ?_, ?_, ?_, ?_, ?_, ?_⟩
  -- `ident`
  · intro ring bEnd frame hop pos b hhears
    exact State.onReply_next hhears _
  -- `echoBack`
  · intro ring bEnd frame t0 t1 hop pos b hhears
    have hdirects : s.directs = true := hhears.2.2.2.1
    rw [execEchoBack, if_pos hdirects]
    exact State.onReply_next hhears _
  -- `configAck`
  · intro ring bEnd frame hop pos b hhears
    exact State.onReply_next hhears _
  -- `status`
  · intro ring bEnd frame hop pos b hhears
    exact State.onReply_next hhears _
  -- `balAck`
  · intro ring bEnd frame hop pos b hhears
    exact State.onReply_next hhears _
  -- `openWireResult`
  · intro ring bEnd frame hop pos b hhears
    exact State.onReply_next hhears _
  -- `authResult`
  · intro ring bEnd frame hop pos b hhears
    exact State.onReply_next hhears _
  -- `authMac`
  · intro ring bEnd frame hop pos b hhears
    exact State.onReply_next hhears _
  -- `rejoinResult`
  · intro ring bEnd frame hop pos b hhears
    exact State.onReply_next hhears _
  -- `sample`
  · intro ring bEnd frame hop pos b hrun hhas hring hdirects hgood
    exact doneIf_next (by simp [hrun, hhas, hring]) (by simp [hdirects, hgood])

end Sys2Proof.Machine
end

section
/-! The tally's trigger, instant and period (chapter 3). -/

namespace Sys2Proof.Machine

/-- R79: a new period takes effect once every monitor of the rings in use has acknowledged it. -/
theorem execTallyPeriodApply_next {s t : State} {v : Nat} (hrun : s.running = true) (hnew : s.fw.newPeriod = some v)
    (hacked : ∀ r ∈ s.strings, s.gn O.chainRingState r ≠ 3 ∧ s.gn O.chainRingState r ≠ 4 ∨
      ∀ p < s.nMon r, s.periodAcked r p = true)
    (ht : (if s.fw.ticking then { s with fw := { s.fw with periodReady := true } }
      else { s with fw := { s.fw with period := v, newPeriod := none } }) = t) :
    execTallyPeriodApply s = .next t := by
  rw [execTallyPeriodApply, hnew]
  refine doneIf_next ?_ ht
  rw [hrun, Bool.true_and, List.all_eq_true]
  intro r hr
  rcases hacked r hr with ⟨hidle, hfault⟩ | hall
  · simp [hidle, hfault]
  · simp only [Bool.or_eq_true, List.all_eq_true, List.mem_range]
    exact .inr hall

/-- Settles O39: each clause's conditions are what the command checks; of a new period, `execTallyPeriodApply_next`. -/
theorem completesTally : Obligations.CompletesTally := by
  unfold Obligations.CompletesTally
  intro s
  dsimp only [exec]
  refine ⟨?_, ?_, ?_, ?_, ?_, ?_, ?_, ?_, ?_⟩
  -- `tallyTrigger`
  · intro hrun hnexttally hnow
    exact doneIf_next (by simp [hrun, hnexttally, hnow]) rfl
  -- `tallyInstant`
  · intro busdetUv hrun hnow
    exact doneIf_next (by simp [hrun, hnow]) rfl
  -- `comparatorSourceRaise`
  · intro ring number hrun hhas hcellring hovdue
    exact doneIf_next (by simp [hrun, hhas, hcellring]) (by simp [hovdue])
  · intro ring number hrun hhas hcellring huvdue
    exact doneIf_next (by simp [hrun, hhas, hcellring]) (by simp [huvdue])
  · intro ring number hrun hhas hnumber hotdue
    exact doneIf_next (by simp [hrun, hhas, hnumber]) (by simp [hotdue])
  · intro ring number hrun hhas hnumber hutdue
    exact doneIf_next (by simp [hrun, hhas, hnumber]) (by simp [hutdue])
  -- `tallyPeriodWrite`
  · intro req value hreq hopen hflash hperiodok
    exact s.request_next _ req _ _ _ _ hreq (by simp [State.tallyPeriod, State.storing, accept, hopen, hflash, hperiodok])
  -- `tallyPeriodApply`
  · intro v hrun hnewperiod hacked hticking
    exact execTallyPeriodApply_next hrun hnewperiod hacked (if_neg (by simp [hticking]))
  · intro v hrun hnewperiod hacked hticking
    exact execTallyPeriodApply_next hrun hnewperiod hacked (if_pos hticking)

end Sys2Proof.Machine
end

section
/-! The current channels, the temperatures and a sweep's end (chapter 3). -/

namespace Sys2Proof.Machine

/-- What is kept of a channel, where it is not the reset value. -/
theorem State.chanUpd_chan_of_ne {s : State} {k : Nat} {f : Chan → Chan} (h : f (s.chan k) ≠ {}) :
    (s.chanUpd k f).chan k = f (s.chan k) :=
  mget_mset_same_of_ne _ _ _ h

/-- R91: the two channels of a string that the cross-check marks. -/
theorem State.chanUpd_pair_chan {s : State} {k : Nat} {f g : Chan → Chan} (hf : f (s.chan k) ≠ {})
    (hg : g (s.chan (k + 1)) ≠ {}) :
    ((s.chanUpd k f).chanUpd (k + 1) g).chan k = f (s.chan k) ∧
      ((s.chanUpd k f).chanUpd (k + 1) g).chan (k + 1) = g (s.chan (k + 1)) := by
  have hother : (s.chanUpd k f).chan (k + 1) = s.chan (k + 1) := State.chanUpd_chan_other s k f _ (by omega)
  constructor
  · rw [State.chanUpd_chan_other _ _ _ _ (by omega), State.chanUpd_chan_of_ne hf]
  · rw [State.chanUpd_chan_of_ne (by rwa [hother]), hother]

theorem State.raise_chan (s : State) (src inst : Nat) (p : List Byte) (k : Nat) :
    (s.raise src inst p).chan k = s.chan k := by
  rw [State.chan, State.raise_chans, State.chan]

/-- A channel of which something is noted is not the reset value. -/
theorem Chan.ne_reset_of {c : Chan} (h : c.chargeRaised = true ∨ c.delivered = true ∨ c.disagree = true) : c ≠ {} := by
  rintro rfl
  simp at h

/-- R92: the debounce that has run marks its channel, whatever becomes of the string's other one. -/
theorem State.chanUpd_pair_chargeRaised {s : State} {k : Nat} {f : Chan → Chan} (g : Chan → Chan) (cls content : Nat)
    (hf : (f (s.chan k)).chargeRaised = true) :
    ((((s.chanUpd k f).chanUpd (k + 1) g).sayP cls content).chan k).chargeRaised = true := by
  have hother : (((s.chanUpd k f).chanUpd (k + 1) g).sayP cls content).chan k = (s.chanUpd k f).chan k :=
    State.chanUpd_chan_other (s.chanUpd k f) (k + 1) g k (by omega)
  rw [hother, State.chanUpd_chan_of_ne (Chan.ne_reset_of (.inl hf)), hf]

/-- Settles O40: each clause's conditions are what the command checks; what is then read of a channel is what was
written to it, since it is not the reset value. -/
theorem completesAcquisition : Obligations.CompletesAcquisition := by
  unfold Obligations.CompletesAcquisition
  intro s
  dsimp only [exec]
  refine ⟨?_, ?_, ?_, ?_, ?_, ?_, ?_, ?_, ?_, ?_, ?_⟩
  -- `currentOutput`
  · intro string dsiBits isaCode hpd hhas
    exact doneIf_next (by simp [hpd, hhas]) rfl
  -- `fastPathDebounceExpiry`
  · intro string since hpd hhas hchargesince hchargeraised hpast
    refine ⟨_, doneIf_next (by simp [hpd, hhas, hchargesince, hchargeraised, hpast]) rfl, ?_⟩
    rw [State.raise_chan]
    exact State.chanUpd_pair_chargeRaised _ _ _ (by simp [hchargesince, hchargeraised, hpast])
  -- `currentSampleDelivered`
  · intro string ch v hrun hpd hhas hticking hlost hlag
    rw [execCurrentSampleDelivered, hlag]
    refine ⟨_, doneIf_next (by simp [hrun, hpd, hhas, hticking, hlost]) rfl, ?_⟩
    rw [State.chanUpd_chan_of_ne (Chan.ne_reset_of (.inr (.inl rfl)))]
    exact ⟨rfl, rfl⟩
  -- `dsiStuckFault`
  · intro string hpd hhas hchanon hrun
    exact doneIf_next (by simp [hpd, hhas, hchanon, hrun]) rfl
  -- `isaRangeFault`
  · intro string hpd hhas hchanon
    exact doneIf_next (by simp [hpd, hhas, hchanon]) rfl
  -- `currentFaultClear`
  · intro string ch hpd hfault hpast
    exact doneIf_next (by simp [hpd, hfault, hpast]) rfl
  -- `crossCheckDisagree`
  · intro string hrun hhas hcrossbad hdisagree
    refine ⟨_, doneIf_next (by simp [hrun, hhas]) (if_pos (by simp [hcrossbad, hdisagree])), ?_⟩
    obtain ⟨hfirst, hsecond⟩ := State.chanUpd_pair_chan (s := s) (k := string.val * 2)
      (f := fun c => { c with disagree := true, winDiff := none })
      (g := fun c => { c with disagree := true, winDiff := none })
      (Chan.ne_reset_of (.inr (.inr rfl))) (Chan.ne_reset_of (.inr (.inr rfl)))
    rw [State.raise_chan, State.raise_chan]
    exact ⟨congrArg Chan.disagree hfirst, congrArg Chan.disagree hsecond⟩
  -- `tempDwellEnd`
  · intro ring pos slot hrun hhas hmon hslotmask hslot hover hcounted
    refine doneIf_next (by simp [hrun, hhas, hmon, hslotmask, hover]) ?_
    rw [hslot] at hcounted
    simp [hslot, hcounted]
  -- `tempStaleTimeout`
  · intro ring pos input hrun hticking hhas hmon hmoduleinputs hplausibleat
    exact doneIf_next (by simp [hrun, hticking, hhas, hmon, hmoduleinputs, hplausibleat]) rfl
  -- `sweepComplete`
  · intro ring hrun hhas hsweeping hticking hsweepover
    exact doneIf_next (by simp [hrun, hhas, hsweeping, hticking, hsweepover]) rfl
  -- `staleTrip`
  · intro ring cell hrun hhas hmanifestcellcount hcellflags hstaleraised
    exact doneIf_next (by simp [hrun, hhas, hmanifestcellcount, hcellflags, hstaleraised]) rfl

end Sys2Proof.Machine
end

section
/-! Balancing, the open-wire test and the transient capture (chapter 3). -/

namespace Sys2Proof.Machine

/-- Settles O41: each clause's conditions are what the command or its write checks. -/
theorem completesDiagnosis : Obligations.CompletesDiagnosis := by
  unfold Obligations.CompletesDiagnosis
  intro s
  dsimp only [exec]
  refine ⟨?_, ?_, ?_, ?_, ?_, ?_, ?_, ?_, ?_, ?_, ?_, ?_, ?_⟩
  -- `balancePlan`
  · intro hrun hdirects hbalanceat
    exact doneIf_next (by simp [hrun, hdirects, hbalanceat]) rfl
  -- `openWireSuspect`
  · intro ring cell hrun hsignature hnodebad hlength
    exact doneIf_next (by simp [hrun, hsignature, hnodebad, hlength]) rfl
  -- `openWireTestStart`
  · intro ring pos channel hrun hdirects hring hactive hhead hmon hissome
    exact doneIf_next (by simp [hrun, hdirects, hring, hactive, hhead, hmon, hissome]) rfl
  -- `openWireTestEvaluate`
  · intro ring pos v hrun hactive hsent hresult hv
    exact doneIf_next (by simp [hrun, hactive, hsent, hresult, hv]) rfl
  · intro ring pos hrun hactive hsent hresult hlong hahead
    exact doneIf_next (by simpa [hrun, hactive, hsent, hresult, hlong] using hahead) rfl
  · intro ring pos hrun hactive hsent hresult hlong hahead hpurpose habove
    exact doneIf_next (by simpa [hrun, hactive, hsent, hresult, hlong] using hahead)
      (by simp [State.owEvaluate, hpurpose, habove])
  -- `openWireRetest`
  · intro ring pos hrun _ hactive htodo howat hpast
    simp [execOpenWireRetest, doneIf, hrun, hactive, htodo, howat, hpast]
  -- `openWireRotation`
  · intro ring pos channel t0 hready hmon hchannels hactive htodo hreadyat hmono
    exact doneIf_next (by simp [hready, hmon, hchannels, hactive, htodo, hreadyat, hmono]) rfl
  -- `openWireRequest`
  · intro req value hreq hshotgate hvalue hbits hhas hmon hring hready
    exact s.request_next _ req _ _ _ _ hreq (by
      simp [State.openWireRequest, hshotgate, hbits, hvalue, accept, State.shotStart_has, State.shotStart_nMon,
        State.shotStart_gn, State.shotStart_ready, hhas, hring, hready, hmon])
  -- `openWireRequestDone`
  · intro q t hrun hpending hpurpose hactive htodo hnodes
    simp [execOpenWireRequestDone, doneIf, hrun, hpending, hpurpose, hactive, htodo, hnodes]
  -- `captureArm`
  · intro req value hreq hvalue
    exact s.request_next _ req _ _ _ _ hreq (by simp [State.captureArm, accept, hvalue])
  -- `captureTrigger`
  · intro req value hreq hvalue
    exact s.request_next _ req _ _ _ _ hreq (by simp [State.captureForce, accept, hvalue])
  -- `captureFreeze`
  · intro hrun hcapturestate hleft
    exact doneIf_next (by simp [hrun, hcapturestate, hleft]) rfl

end Sys2Proof.Machine
end

section
/-! The estimator fabric (chapter 4). -/

namespace Sys2Proof.Machine

/-- Settles O42: each clause's conditions are what the command or its write checks. -/
theorem completesFabric : Obligations.CompletesFabric := by
  unfold Obligations.CompletesFabric
  intro s
  dsimp only [exec]
  refine ⟨?_, ?_, ?_, ?_, ?_, ?_, ?_, ?_, ?_, ?_, ?_, ?_⟩
  -- `euWorkItemClaim`
  · intro eu i is hcd hqueues hretired hitem
    simp [execEuWorkItemClaim, doneIf, hcd, hqueues, hretired, hitem]
  -- `euUpdateComplete`
  · intro eu residueOk n c hcd hitem hretired hresidueok
    simp [execEuUpdateComplete, doneIf, hcd, hitem, hretired, hresidueok]
  · intro eu residueOk n c hcd hitem hretired hresidueok heuran
    simp [execEuUpdateComplete, doneIf, hcd, hitem, hretired, hresidueok, heuran]
  -- `euHandshakeTimeout`
  · intro eu hcd hretired
    exact doneIf_next (by simp [hcd, hretired]) rfl
  -- `epochDeadline`
  · intro string hrun hhas hdeadlinepassed hnone
    exact doneIf_next (by simp [hrun, hhas, hdeadlinepassed]) (by simp [hnone])
  · intro string hrun hhas hdeadlinepassed hnone hpast
    exact doneIf_next (by simp [hrun, hhas, hdeadlinepassed]) (by simp [hnone, hpast])
  -- `estimationHeld`
  · intro string at' hrun hhas hestimatorstringstate hpublishedat hmono
    exact doneIf_next (by simp [hrun, hhas, hestimatorstringstate, hpublishedat, hmono]) rfl
  -- `rateStepUp`
  · intro region hrun hload hpast hthermal hlimit
    exact doneIf_next (by simp [hrun, hload, hpast, hthermal, hlimit]) rfl
  -- `fabricKnownAnswerTest`
  · intro eu pass hcd hretired hitem hqueues hdue
    refine doneIf_next ?_ rfl
    rcases hkat : (s.eu eu.val).katAt with _ | a
    · simp [hcd, hretired, hitem, hqueues]
    · simpa [hcd, hretired, hitem, hqueues, hkat] using hdue
  -- `fabricSelfTestRequest`
  · intro req value hreq hshotgate hseq htarget hruns
    exact s.request_next _ req _ _ _ _ hreq (by simp [State.fabricTest, accept, State.shotStart_selfTestRuns, hshotgate,
      hseq, htarget, hruns])
  -- `fabricSelfTestDone`
  · intro failed q x hrun hpending hruns hpassed
    have hgood : s.testedEus.filter (fun e => failed.getLsbD e) = [] := by simpa using hpassed
    rw [execFabricSelfTestDone, hpending]
    exact doneIf_next (by simp [hrun]) (by rw [hgood, if_pos hruns]; rfl)
  -- `modelTableFileWrite`
  · intro req set file hreq hopen hflash htablecheck
    exact s.request_next _ req _ _ _ _ hreq (by simp [State.tableWrite, accept, hopen, hflash, htablecheck])

end Sys2Proof.Machine
end

section
/-! The estimator's timed commands and one-shot requests (chapter 5). -/

namespace Sys2Proof.Machine

/-- R170, R173: a string's one-shot that may run starts. -/
theorem State.stringShot_runs {s : State} {k value result zeros : Nat} (hgate : s.shotGate k value false = none)
    (hvalue : value / 65536 ≠ 0) (hbits : bits (value % 65536) 15 2 = 0) (hhas : s.has (value % 65536 % 4) = true)
    (hruns : s.shotRuns (value % 65536) = true) :
    s.stringShot k value result zeros = accept (s.shotStart k (value / 65536) (value % 65536)) := by
  have hclean : (bits (value % 65536) 15 2 != 0) = false := by simp [hbits]
  have hnamed : ¬ ((value / 65536 = 0 || !s.has (value % 65536 % 4)) = true) := by rw [hhas]; simp [hvalue]
  simp only [State.stringShot, hclean, hgate]
  rw [if_neg hnamed, if_pos (by rw [State.shotStart_shotRuns, hruns])]

/-- R136: a one-shot may run in a ready device on a ring that is not lost. -/
theorem State.shotRuns_of_ready {s : State} {t : Nat} (hready : s.ready = true)
    (hring : s.gn O.chainRingState (t % 4) ≠ 5) : s.shotRuns t = true := by
  rw [State.shotRuns, hready, Bool.true_and, bne_iff_ne]
  exact hring

/-- Settles O43: each clause's conditions are what the command checks; of a string's one-shot, `State.stringShot_runs`. -/
theorem completesEstimation : Obligations.CompletesEstimation := by
  unfold Obligations.CompletesEstimation
  intro s
  dsimp only [exec]
  refine ⟨?_, ?_, ?_, ?_, ?_, ?_, ?_, ?_⟩
  -- `currentPlausibilityWindow`
  · intro string hrun hhas hpast
    exact doneIf_next (by simp [hrun, hhas, hpast]) rfl
  -- `restPointFormed`
  · intro string at' hrun hhas hqualified hformed hpast
    exact doneIf_next (by simp [hrun, hhas, hqualified, hformed, hpast]) rfl
  -- `stringDisagreementEnter`
  · intro string us hrun hhas hmedianus hus hdisagreement
    exact doneIf_next (by simp [hrun, hhas, hmedianus, hus, hdisagreement]) rfl
  -- `channelAuditRepeat`
  · intro string hrun hhas hdisagreement hauditagain hpast
    exact doneIf_next (by simp [hrun, hhas, hdisagreement, hauditagain, hpast]) rfl
  -- `capLearnReportRequest`
  · intro req value hreq hshotgate hvalue hbits hhas hready hring
    exact s.request_next _ req _ _ _ _ hreq (State.stringShot_runs (by simp [hshotgate]) hvalue hbits
      (by rw [State.tagSeen_has, hhas]) (by rw [State.tagSeen_shotRuns, State.shotRuns_of_ready hready hring]))
  -- `capLearnReportDone`
  · intro q t hrun hpending hshotruns
    simp [execCapLearnReportDone, doneIf, hrun, hpending, hshotruns]
  -- `impedanceSnapshotRequest`
  · intro req value hreq hshotgate hvalue hbits hhas hready hring
    exact s.request_next _ req _ _ _ _ hreq (State.stringShot_runs (by simp [hshotgate]) hvalue hbits
      (by rw [State.tagSeen_has, hhas]) (by rw [State.tagSeen_shotRuns, State.shotRuns_of_ready hready hring]))
  -- `impedanceSnapshotTimeout`
  · intro q t hrun hpending hpast hshotruns
    rw [execImpedanceSnapshotTimeout, hpending]
    exact doneIf_next (by simp [hrun, hpast]) (if_pos hshotruns)

end Sys2Proof.Machine
end

section
/-! The contactor sequence up to CLOSED (chapter 6). -/

namespace Sys2Proof.Machine

/-- Settles O44: each clause's conditions are what the command or its write checks. -/
theorem completesContactors : Obligations.CompletesContactors := by
  unfold Obligations.CompletesContactors
  intro s
  dsimp only [exec]
  refine ⟨?_, ?_, ?_, ?_, ?_, ?_, ?_, ?_, ?_, ?_, ?_, ?_⟩
  -- `stringClose`
  · intro req string hreq hstate hcloseblock
    exact s.request_next _ req _ _ _ _ hreq (by simp [State.closeCommand, accept, hstate, hcloseblock])
  · intro req string hreq hclosed hclosing
    exact s.request_next _ req _ _ _ _ hreq (by simp [State.closeCommand, accept, hclosed, hclosing])
  -- `stringOpen`
  · intro req string hreq hstate
    exact s.request_next _ req _ _ _ _ hreq (by simp [State.openCommand, accept, hstate])
  · intro req string hreq hfirst hlast
    exact s.request_next _ req _ _ _ _ hreq (by
      rw [State.openCommand, State.tagSeen_seqState, if_neg (by omega), if_pos ⟨hfirst, hlast⟩]
      rfl)
  -- `contactorStep`
  · intro hrun hstepdue
    exact doneIf_next (by simp [hrun, hstepdue]) rfl
  -- `closeTurnGranted`
  · intro string hseq hturnfree hwaitsturn
    exact doneIf_next (by simp [hseq, hturnfree, hwaitsturn]) rfl
  -- `weldCheckElapsed`
  · intro string hseq hstate hpast
    exact doneIf_next (by simp [hseq, hstate, hpast]) rfl
  -- `prechargeDeadline`
  · intro string hseq hstate
    exact doneIf_next (by simp [hseq, hstate]) rfl
  -- `prechargeCooldownEnd`
  · intro string e hrun hcooldownend hreached
    exact doneIf_next (by simp [hrun, hcooldownend, hreached]) rfl
  -- `closingCloseTimeElapsed`
  · intro string hseq hstate hphase hpast
    exact doneIf_next (by simp [hseq, hstate, hphase, hpast]) rfl
  -- `closingDropTimeElapsed`
  · intro string hseq hstate hphase hpast
    exact doneIf_next (by simp [hseq, hstate, hphase, hpast]) rfl
  -- `joinWaitTimeout`
  · intro string hseq hstate hpast
    exact doneIf_next (by simp [hseq, hstate, hpast]) rfl

end Sys2Proof.Machine
end

section
/-! The contactor sequence's openings, and the commands that clear what opened a string (chapter 6). -/

namespace Sys2Proof.Machine

/-- R193: a reset that names strings of the device whose causes have gone resets each of them. -/
theorem State.tripReset_of_gone {s : State} {mask : Nat} (hmask : mask < 16)
    (hgone : ∀ n < 4, bit mask n = true → s.has n = true ∧ s.tripCausePresent n = false) :
    s.tripReset mask = accept (forEach ((List.range 4).filter fun n => bit mask n)
      (s.unlatch fun l => ((List.range 4).any fun n => bit mask n && [9, 10].contains (s.seqState n)) && l.trip != 0 &&
        (List.range 4).all fun n => !bit l.trip n || bit mask n) State.resetString) := by
  have hnamed : ∀ n ∈ (List.range 4).filter fun n => bit mask n, s.has n = true ∧ s.tripCausePresent n = false := by
    intro n hn
    rw [List.mem_filter, List.mem_range] at hn
    exact hgone n hn.1 hn.2
  rw [State.tripReset, if_neg (by omega), if_neg, if_neg]
  · rw [Bool.not_eq_true, List.any_eq_false]
    intro n hn
    simp [hnamed n hn]
  · rw [Bool.not_eq_true, List.any_eq_false]
    intro n hn
    simp [hnamed n hn]

/-- Settles O45: each clause's conditions are what the command checks; of a reset of trips, `State.tripReset_of_gone`. -/
theorem completesContactorOpening : Obligations.CompletesContactorOpening := by
  unfold Obligations.CompletesContactorOpening
  intro s
  dsimp only [exec]
  refine ⟨?_, ?_, ?_, ?_, ?_, ?_, ?_, ?_, ?_, ?_, ?_, ?_, ?_⟩
  -- `openRampTimeout`
  · intro string hseq hstate hreached hreleaseok
    exact doneIf_next (by simp [hseq, hstate, hreached]) (by simp [hreleaseok])
  · intro string hseq hstate hreached hreleaseok hbreakat
    exact doneIf_next (by simp [hseq, hstate, hreached]) (by simp [hreleaseok, hbreakat])
  -- `breakMaxRepeat`
  · intro string at' hseq hstate hamps hbreakat hpast
    exact doneIf_next (by simp [hseq, hstate, hamps, hbreakat, hpast]) rfl
  -- `openingWeldTest`
  · intro string hseq hstate hphase hopenat hpast hweldcurrentlimit
    exact doneIf_next (by simp [hseq, hstate, hphase, hopenat, hpast]) (by rw [if_neg (Nat.not_le.mpr hweldcurrentlimit)])
  -- `openingDropElapsed`
  · intro string hseq hstate hopenat hphase hpast
    exact doneIf_next (by simp [hseq, hstate, hopenat, hphase, hpast]) rfl
  -- `postTripWeldCheck`
  · intro string i at' hrun htrip hpast hweldcurrent
    simp [execPostTripWeldCheck, doneIf, hrun, htrip, hpast, hweldcurrent]
  -- `tripReset`
  · intro req mask hreq hmask hgone
    exact s.request_next _ req _ _ _ _ hreq ((State.tripReset_of_gone hmask (by simpa using hgone)).trans (by simp [accept]))
  -- `weldClear`
  · intro req mask hreq hmask
    exact s.request_next _ req _ _ _ _ hreq (by simp [State.weldClear, refuse, accept, hmask])
  -- `currentSourceNoneTimeout`
  · intro string at' hrun hhas hnonesince hpast
    exact doneIf_next (by simp [hrun, hhas, hnonesince, hpast]) rfl
  -- `tempInputLossTimeout`
  · intro ring pos t0 hrun hmanifestmodulecount hmodulelost hpast hwithin
    simp [execTempInputLossTimeout, doneIf, hrun, hmanifestmodulecount, hmodulelost, hpast, hwithin]
  · intro ring pos t0 hrun hmanifestmodulecount hmodulelost hpast
    rw [execTempInputLossTimeout, hmodulelost]
    exact doneIf_next (by simp [hrun, hmanifestmodulecount])
      (by rw [if_pos hpast, if_pos (State.past_of_le hpast (by decide))])
  -- `overLimitTimeout`
  · intro string at' hrun hhas hoverdischarge hpast
    refine doneIf_next ?_ rfl
    rcases hoverdischarge with h | h <;> simp [hrun, hhas, h, hpast]
  -- `deratingClear`
  · intro string code hrun hstepdue hhead
    exact doneIf_next (by simp [hrun, hstepdue, hhead]) rfl

end Sys2Proof.Machine
end

section
/-! The contactor drivers (chapters 6 and 7). -/

namespace Sys2Proof.Machine

/-- Settles O46: each clause's conditions are what the command checks; a failed check takes the branch that its current
chooses. -/
theorem completesDrivers : Obligations.CompletesDrivers := by
  unfold Obligations.CompletesDrivers
  intro s
  dsimp only [exec]
  refine ⟨?_, ?_, ?_, ?_, ?_, ?_, ?_, ?_, ?_, ?_, ?_, ?_⟩
  -- `pullInEnd`
  · intro driver hpd henergised hhold hpast
    exact doneIf_next (by simp [hpd, henergised, hhold, hpast]) rfl
  -- `coilFaultDetected`
  · intro driver c hpd hpresent hcond hshorths hovertemp
    rw [execCoilFaultDetected, if_pos hpresent]
    exact doneIf_next (by simp [hpd, hcond]) (by rw [State.coilFault, if_neg (by simp [hshorths, hovertemp])]; rfl)
  · intro driver c hpd hpresent hcond
    simp [execCoilFaultDetected, doneIf, hpd, hpresent, hcond]
  · intro driver c hpd hpresent
    simp [execCoilFaultDetected, doneIf, hpd, hpresent]
  -- `offPulseStart`
  · intro driver highSide hpd hpulsesok henergised hhold hslotat hpulse hslotdue
    exact doneIf_next (by simpa [hpd, hpulsesok, henergised, hhold, hslotat, hslotdue] using hpulse) rfl
  -- `offPulseCheck`
  · intro driver mA hpd hpulse hpulsejudged hpast hma
    exact doneIf_next (by simp [hpd, hpulse, hpulsejudged, hpast]) (by simp [hma])
  · intro driver mA hpd hpulse hpulsejudged hpast hma
    exact doneIf_next (by simp [hpd, hpulse, hpulsejudged, hpast]) (by simp [hpulse, Nat.not_lt.mpr hma])
  -- `offPulseEnd`
  · intro driver hpd hpulse hpast
    exact doneIf_next (by simp [hpd, hpulse, hpast]) rfl
  -- `offStateCheck`
  · intro driver hsMa lsMa coilMa hpd hpulsesok henergised hslotdue hhsma hlsma hcoilma
    exact doneIf_next (by simp [hpd, hpulsesok, henergised, hslotdue]) (by simp [hhsma, hlsma, hcoilma])
  · intro driver hsMa lsMa coilMa hpd hpulsesok henergised hslotdue hhsma
    exact doneIf_next (by simp [hpd, hpulsesok, henergised, hslotdue]) (by simp [Nat.not_lt.mpr hhsma])
  -- `openingProofDue`
  · intro driver hrun hdriverrole hdue helapsed
    exact doneIf_next (by simp [hrun, hdriverrole, hdue, helapsed]) rfl
  -- `openingProofOverdue`
  · intro driver hrun hdriverrole hdue hoverdue helapsed
    exact doneIf_next (by simp [hrun, hdriverrole, hdue, hoverdue, helapsed]) rfl

end Sys2Proof.Machine
end

section
/-! The safety functions (chapter 7). -/

namespace Sys2Proof.Machine

/-- Settles O47: each clause's conditions are what the command or its write checks. -/
theorem completesSafety : Obligations.CompletesSafety := by
  unfold Obligations.CompletesSafety
  intro s
  dsimp only [exec]
  refine ⟨?_, ?_, ?_, ?_, ?_, ?_, ?_, ?_, ?_, ?_, ?_, ?_⟩
  -- `safetyInputChange`
  · intro pair chB level hpdup hatball
    exact doneIf_next (by simp [hpdup]) (by simp [hatball])
  · intro pair chB level hpdup hatball hmoored hlevelcounts
    exact doneIf_next (by simp [hpdup]) (by simp [hatball, hmoored, hlevelcounts])
  -- `safetyDiscrepancyTimeout`
  · intro pair hpd hpairused hwaits hpairlate
    exact doneIf_next (by simp [hpd, hpairused, hwaits, hpairlate]) rfl
  -- `safeOffReport`
  · intro pair asserted inst hpd hcd hasserted hreport
    simp [execSafeOffReport, doneIf, hpd, hcd, hasserted, hreport]
  -- `safetyInputSelfTest`
  · intro follows hpd
    exact doneIf_next (by simp [hpd]) rfl
  -- `oscillatorCrossCheck`
  · intro count7 count9 hpd hoscbad hcount7within hcount9within
    exact doneIf_next (by simp [hpd]) (by simp [hoscbad, hcount7within, hcount9within])
  · intro count7 count9 hpd hoscbad hcount7within
    exact doneIf_next (by simp [hpd]) (by simp [hoscbad, hcount7within])
  -- `safetyConfigReadback`
  · intro hrun hreadbackat
    exact doneIf_next (by simp [hrun, hreadbackat]) rfl
  · intro u hrun hreadbackat
    exact doneIf_next (by simp [hrun, hreadbackat]) rfl
  -- `contactorOpenTestRequest`
  · intro req value hreq hshotgate hvalue hbits hhas hinmanifest hstate hsafe hready hmode hconclusive hring
    have hruns : s.testRuns (value.toNat % 4) = true := by simp [State.testRuns, hready, hinmanifest, hring, hstate]
    exact s.request_next _ req _ _ _ _ hreq (by
      simp [State.openTestRequest, accept, hshotgate, hvalue, hbits, hhas, hstate, hsafe, hready, hmode, hconclusive, hruns])
  -- `openTestStepCheck`
  · intro n hrun hstring hdropping hpast
    simp [execOpenTestStepCheck, doneIf, hrun, hstring, hdropping, hpast]
  -- `openTestStepDropDone`
  · intro n hrun hstring hdropping hpast
    simp [execOpenTestStepDropDone, doneIf, hrun, hstring, hdropping, hpast]

end Sys2Proof.Machine
end

section
/-! The load switches (chapter 8). -/

namespace Sys2Proof.Machine

/-- Settles O48: each clause's conditions are what the command checks, and the branch that they choose in its effect. -/
theorem completesLoadSwitches : Obligations.CompletesLoadSwitches := by
  unfold Obligations.CompletesLoadSwitches
  intro s
  dsimp only [exec]
  refine ⟨?_, ?_, ?_, ?_, ?_, ?_, ?_, ?_, ?_, ?_, ?_, ?_, ?_, ?_, ?_, ?_, ?_, ?_, ?_⟩
  -- `loadSwitchCmdOff`
  · intro req ls hreq
    exact s.request_next _ req _ _ _ _ hreq (by simp [State.lsCommand, accept])
  -- `loadSwitchCmdOn`
  · intro req ls hreq
    exact s.request_next _ req _ _ _ _ hreq (by simp [State.lsCommand, accept])
  -- `loadSwitchCmdPwm`
  · intro req ls hreq
    exact s.request_next _ req _ _ _ _ hreq (by simp [State.lsCommand, accept])
  -- `lsOvercurrentTrip`
  · intro ls hpd hon hlimiting hpast
    exact doneIf_next (by simp [hpd, hon, hlimiting, hpast]) rfl
  -- `lsThermalLatchSet`
  · intro ls hpd hlatch hon
    exact doneIf_next (by simp [hpd, hlatch]) (by simp [hon])
  · intro ls hpd hlatch hon
    exact doneIf_next (by simp [hpd, hlatch]) (by simp [hon])
  -- `lsThermalLatchClear`
  · intro ls hpd hlatch
    exact doneIf_next (by simp [hpd, hlatch]) rfl
  -- `lsRetryRestart`
  · intro ls hpd
    exact doneIf_next (by simp [hpd]) rfl
  -- `lsRetryCountReset`
  · intro ls hpd hmono
    exact doneIf_next (by simp [hpd, hmono]) rfl
  -- `lsFaultClear`
  · intro req mask hreq
    exact s.request_next _ req _ _ _ _ hreq (by simp [State.lsFaultClear, accept])
  -- `lsOnOpenLoad`
  · intro ls low hpd hon hmono hlow honopen
    exact doneIf_next (by simp [hpd, hon, hmono, hlow, honopen]) (by simp [hlow])
  · intro ls low hpd hon hmono hlow honopen
    exact doneIf_next (by simp [hpd, hon, hmono, hlow, honopen]) (by simp [hlow])
  -- `lsOffStateDiag`
  · intro ls c hpd hlsoffdiag hon hpast hmode hlow
    exact doneIf_next (by simp [hpd, hlsoffdiag, hon, hpast, hmode]) (by simp [hlow])
  · intro ls c hpd hlsoffdiag hon hpast hmode hopen hoffopen
    exact doneIf_next (by simp [hpd, hlsoffdiag, hon, hpast, hmode]) (by simp [hopen, hoffopen])
  · intro ls c hpd hlsoffdiag hon hpast hmode hnearvaux hoffshort
    exact doneIf_next (by simp [hpd, hlsoffdiag, hon, hpast, hmode]) (by simp [hnearvaux, hoffshort])
  -- `lsLimiting`
  · intro ls reached hpd hon hlimiting
    exact doneIf_next (by simp [hpd, hon, hlimiting]) rfl
  -- `dissipationEstimate`
  · intro m hpd
    exact doneIf_next (by simp [hpd]) rfl
  -- `governorShed`
  · intro hpd hdissipation hpast
    exact doneIf_next (by simp [hpd, hdissipation, hpast]) rfl
  -- `governorRestore`
  · intro at' hpd hoksince hpast
    exact doneIf_next (by simp [hpd, hoksince, hpast]) rfl

end Sys2Proof.Machine
end

section
/-! The motor channels' speed, commutation, start and recovery (chapter 8). -/

namespace Sys2Proof.Machine

/-- A channel that enters a state other than 0 is in it. -/
theorem State.mdEnter_mot_st {s : State} {n st : Nat} (hst : st ≠ 0) : ((s.mdEnter n st).mot n).st = st := by
  have hkept : ({ s.mot n with
      st := st, stAt := s.mono, runTime := (s.mot n).ran s.mono, runSince := s.mono } : Motor) ≠ {} :=
    fun h => hst (congrArg Motor.st h)
  exact congrArg Motor.st (mget_mset_same_of_ne _ _ _ hkept)

theorem State.raise_mot (s : State) (src inst : Nat) (p : List Byte) (n : Nat) :
    (s.raise src inst p).mot n = s.mot n := by
  rw [State.mot, State.raise_motors, State.mot]

/-- Settles O49: each clause's conditions are what the command checks, and the branch that they choose in its effect. -/
theorem completesMotors : Obligations.CompletesMotors := by
  unfold Obligations.CompletesMotors
  intro s
  dsimp only [exec]
  refine ⟨?_, ?_, ?_, ?_, ?_, ?_, ?_, ?_, ?_, ?_, ?_, ?_, ?_, ?_⟩
  -- `motorSpeedCommand`
  · intro req md rpm hreq hrpm
    exact s.request_next _ req _ _ _ _ hreq (by simp [State.mdCommand, refuse, accept, hrpm])
  -- `motorSpeedLoop`
  · intro md shuntMa hpd hhas
    exact doneIf_next (by simp [hpd, hhas]) rfl
  -- `motorZeroCrossing`
  · intro md x hpd hhas hst hcrossingsigns hsampled hcrossingns hinterval
    exact doneIf_next (by simp [hpd, hhas, hst, hcrossingsigns, hsampled, hcrossingns])
      (if_neg (by simp [hcrossingns, hinterval]))
  · intro md x hpd hhas hst hcrossingsigns hsampled hinterval hshorter
    have hshort : ((s.mot md.val).interval != 0 && (decide ((s.mot md.val).interval * 5 < crossingNs x * 4) ||
        decide (crossingNs x * 4 < (s.mot md.val).interval * 3))) = true := by simp [hinterval, hshorter]
    have hpositive : 0 < crossingNs x := by omega
    exact doneIf_next (by simp [hpd, hhas, hst, hcrossingsigns, hsampled, hpositive]) (if_pos hshort)
  -- `motorCommutation`
  · intro md hpd hhas hst hforcedsteps
    exact doneIf_next (by simp [hpd, hhas, hst, hforcedsteps]) rfl
  · intro md at' hpd hhas hst hcommat hreached
    exact doneIf_next (by simp [hpd, hhas, hst, hcommat, hreached]) rfl
  -- `motorCrossingTimeout`
  · intro md hpd hhas hst hmono
    exact doneIf_next (by simp [hpd, hhas, hst, hmono]) rfl
  -- `motorCoastWaitEnd`
  · intro md hpd hhas hst hrecstep hreached hbarred
    exact doneIf_next (by simp [hpd, hhas, hst, hrecstep, hreached, hbarred]) rfl
  -- `motorCatchSpinEnd`
  · intro md intervals bemfMv hpd hhas hst hrecstep hlength hpast
    exact doneIf_next (by simp [hpd, hhas, hst, hrecstep, hpast]) (by simp [hlength])
  -- `motorStopped`
  · intro md hpd hhas hst hrecstep hbarred hmdstopspeed
    exact doneIf_next (by simp [hpd, hhas, hst, hrecstep, hbarred, hmdstopspeed]) rfl
  -- `motorAlignEnd`
  · intro md hpd hhas hst hpast
    exact doneIf_next (by simp [hpd, hhas, hst, hpast]) rfl
  -- `motorStartHandover`
  · intro md intervals hpd hhas hst hlength hsteady hspeeds
    refine ⟨_, doneIf_next ?_ rfl, ?_⟩
    · simpa [hpd, hhas, hst, hlength, hsteady, forall_and] using hspeeds
    · rw [State.raise_mot, State.mdEnter_mot_st (by decide)]
  -- `motorStartTimeout`
  · intro md hpd hhas hst hpast
    exact doneIf_next (by simp [hpd, hhas, hst, hpast]) rfl
  -- `motorRetryDelay`
  · intro md hpd hhas
    exact doneIf_next (by simp [hpd, hhas]) rfl

end Sys2Proof.Machine
end

section
/-! The motor protections, the VMOT rail and the brake chopper (chapter 8). -/

namespace Sys2Proof.Machine

/-- Settles O50: each clause's conditions are what the command checks, and the branch that they choose in its effect. -/
theorem completesMotorProtection : Obligations.CompletesMotorProtection := by
  unfold Obligations.CompletesMotorProtection
  intro s
  dsimp only [exec]
  refine ⟨?_, ?_, ?_, ?_, ?_, ?_, ?_, ?_, ?_, ?_, ?_, ?_, ?_⟩
  -- `motorCurrentLimit`
  · intro md _ hpd hhas hdriven
    exact doneIf_next (by simp [hpd, hhas, hdriven]) rfl
  -- `motorLimitTimeTrip`
  · intro md hpd hhas hdriven hcurrentlimit hpast
    exact doneIf_next (by simp [hpd, hhas, hdriven, hcurrentlimit, hpast]) rfl
  -- `motorVdsTrip`
  · intro md lowSide hpd hhas hdriven hst
    exact doneIf_next (by simp [hpd, hhas, hdriven]) (if_neg fun h => hst.elim (· h.1) fun hhigh => by simp [hhigh] at h)
  -- `motorThermalLatch`
  · intro md set hpd hhas hlatch hset hdriven
    exact doneIf_next (by simp [hpd, hhas, hlatch, hset]) (by simp [hset, hdriven])
  -- `motorGateUv`
  · intro md hpd hhas hgateuv hdriven
    exact doneIf_next (by simp [hpd, hhas, hgateuv]) (by simp [hdriven])
  -- `gateSupplyRecovered`
  · intro md hpd hhas hgateuv
    exact doneIf_next (by simp [hpd, hhas, hgateuv]) rfl
  -- `motorRetryCountReset`
  · intro md hpd hhas hmono
    exact doneIf_next (by simp [hpd, hhas, hmono]) rfl
  -- `motorClockLoss`
  · intro hpd
    exact doneIf_next (by simp [hpd]) rfl
  -- `motorFaultClear`
  · intro req mask hreq hmask hhas
    exact s.request_next _ req _ _ _ _ hreq (by simp [State.mdFaultClear, refuse, accept, hmask, hhas])
  -- `vmotSample`
  · intro mV hpd
    exact doneIf_next (by simp [hpd]) rfl
  -- `vmotRecovery`
  · intro at' hpd habswait hgoodsince hpast
    exact doneIf_next (by simp [hpd, habswait, hgoodsince, hpast]) rfl
  -- `brakeFaultCheck`
  · intro inst vmotMv brkMa hpd hbrakeon hfaulty hinst hpast honmv
    exact doneIf_next (by simp [hpd, hbrakeon, hfaulty, hinst, hpast, honmv]) (by simp [hinst])
  -- `brakeFaultClear`
  · intro req value hreq hvalue
    exact s.request_next _ req _ _ _ _ hreq (by simp [State.brakeClear, accept, hvalue])

end Sys2Proof.Machine
end

section
/-! Requests and block frames of the Quay Link Protocol (chapter 9). -/

namespace Sys2Proof.Machine

/-- R323: what is written went into an object that exists. -/
theorem State.rangeExists_of_writeData {s : State} {req : Req} {i sub count : Nat} {data : List Byte}
    (h : (s.writeData req i sub count data).2.1 = 0) : (s.rangeExists i sub count).1 = 0 := by
  by_contra hgone
  rw [State.writeData, if_pos hgone] at h
  exact hgone h

/-- R401, R425: only a command acts after its answer. -/
theorem State.afterWrite_of_plain {s : State} {i v : Nat} (hplain : i ∉ commandObjs) : s.afterWrite i v = s := by
  have hreset : i ≠ O.deviceResetCommand := fun h => hplain (by rw [h]; decide)
  have hfirmware : i ≠ O.firmwareCommand := fun h => hplain (by rw [h]; decide)
  rw [State.afterWrite, if_neg hreset, if_neg fun h => hfirmware h.1]

/-- R290, R293: an untagged write of a plain object that succeeds, and leaves the node ID as it is, is answered. -/
theorem State.writeRun_of_plain {s : State} {f : QlpFrame} (ok : Session → Bool) (htagged : reqTagged f = false)
    (hplain : reqIndex f ∉ commandObjs)
    (hdone : (s.writeData (reqFrom f false) (reqIndex f) (reqSub f) (reqCount f) (reqData f)).2.1 = 0)
    (hnode : ((s.writeData (reqFrom f false) (reqIndex f) (reqSub f) (reqCount f) (reqData f)).1.answer f 0
      (reqSub f)).nodeId = s.nodeId) :
    s.writeRun f (reqData f) ok =
      (s.writeData (reqFrom f false) (reqIndex f) (reqSub f) (reqCount f) (reqData f)).1.answer f 0 (reqSub f) := by
  have hexists := State.rangeExists_of_writeData hdone
  have hfirmware : reqIndex f ≠ O.firmwareCommand := fun h => hplain (by rw [h]; decide)
  simp [State.writeRun, htagged, accept, hexists, hdone, hfirmware, State.afterWrite_of_plain hplain, hnode]

/-- R297: a request whose tag is good and whose length is right runs. -/
theorem State.taggedRun_of_good {s : State} {f : QlpFrame} {n : Nat} (op : State → State) (htagged : reqTagged f = true)
    (hgood : (s.tagCheck f (reqData f) 0x0204 fun _ => true).2 = 0) (hlength : reqLen f = n + 12) :
    s.taggedRun f n op = op (s.tagCheck f (reqData f) 0x0204 fun _ => true).1 := by
  simp only [State.taggedRun]
  rw [if_neg (by simp [htagged]), if_neg (by simp [hgood]), if_neg (by simp [hlength])]

/-- R293, R294: a segment that continues its transfer, and is neither its last nor the last of a window, is kept. -/
theorem State.segment_of_next {s : State} {f : QlpFrame} {t : Transfer} (ht : s.transferFor f false = some t)
    (hnumber : blockNumber f = t.next) (hpositive : 0 < t.next) (hsent : t.sent < t.next) (hwindow : t.next < t.sent + 16)
    (hlast : t.next < lastSegment t.link (leAt t.header 8 4) (t.header.length - 12)) :
    s.segment f = s.setTransfer
      { t with at' := s.mono, retried := false, next := t.next + 1, data := t.data ++ f.msg.drop 3 } := by
  have hlen : reqLen (firstFrame f t) = leAt t.header 8 4 := rfl
  simp only [State.segment, ht, hnumber, hlen, reduceIte]
  rw [if_neg (by omega), if_neg (by omega), if_neg (by omega)]

/-- Settles O51: `State.ask_next` and `State.blockFrame_next`, for what each operation does with a frame that passes the
checks of every request. -/
theorem completesRequests : Obligations.CompletesRequests := by
  unfold Obligations.CompletesRequests
  intro s
  dsimp only [exec]
  refine ⟨?_, ?_, ?_, ?_, ?_, ?_, ?_, ?_, ?_, ?_, ?_⟩
  -- `qlpRead`
  · intro f o hreq hcheck hrow hlength
    refine State.ask_next hreq (by decide) ?_
    simp only [State.readRun, hrow, State.answerData]
    rw [if_neg (by simp [hcheck]), if_pos hlength]
  -- `qlpWrite`
  · intro f hreq htagged hwhole hplain hdone hnode
    exact State.ask_next hreq (by decide)
      ((if_pos (by simp [hwhole])).trans (State.writeRun_of_plain _ htagged hplain hdone hnode))
  -- `sessionOpen`
  · intro f hreq hlockout hlength hkey hsession
    refine State.ask_next hreq (by decide) ?_
    simp only [State.openRun, State.sessionEnd_of_none hsession]
    rw [if_neg (by simp [hlockout]), if_neg (by simp [hlength]), if_neg (by simp [← Option.not_isSome, hkey]),
      if_neg (by simp [hsession])]
  -- `sessionAuth`
  · intro f d key hreq hlockout hlength hnonce hkey hsession hproof
    refine State.ask_next hreq (by decide) ?_
    simp only [State.authRun, hnonce, hkey]
    rw [if_neg (by simp [hlockout]), if_neg (by simp [hlength]), if_neg (by simp [hproof]), if_neg (by simp [hsession])]
    rfl
  -- `sessionClose`
  · intro f hreq htagged hgood hlength
    exact State.ask_next hreq (by decide) (State.taggedRun_of_good _ htagged hgood hlength)
  -- `timeSet`
  · intro f ageUs hreq htagged hgood hlength _
    exact State.ask_next hreq (by decide) (State.taggedRun_of_good _ htagged hgood hlength)
  -- `blockSegment`
  · intro f t hblock htransfer hnumber hpositive hsent hwindow hlast
    exact State.blockFrame_next hblock (State.segment_of_next htransfer hnumber hpositive hsent hwindow hlast)
  -- `blockAck`
  · intro f t hblock htransfer hsegments hsent
    refine State.blockFrame_next hblock ?_
    simp only [State.blockAck, htransfer]
    rw [if_neg (by omega), if_pos hsegments]
  · intro f t hblock htransfer hblocknumber hsent hsegments
    refine State.blockFrame_next hblock ?_
    simp only [State.blockAck, htransfer]
    rw [if_neg (by omega), if_neg hsegments]
  -- `blockAbort`
  · intro f t hblock htransfer
    refine State.blockFrame_next hblock ?_
    rw [htransfer]
    rfl
  -- `segmentTimeout`
  · intro link src t hrun hsrc hpast
    simp [execSegmentTimeout, doneIf, hrun, hsrc, hpast]

end Sys2Proof.Machine
end

section
/-! Sessions, node ID and device time (chapter 9). -/

namespace Sys2Proof.Machine

/-- Settles O52: each clause's conditions are what the command checks, and the branch that they choose in its effect. -/
theorem completesSessions : Obligations.CompletesSessions := by
  unfold Obligations.CompletesSessions
  intro s
  dsimp only [exec]
  refine ⟨?_, ?_, ?_, ?_, ?_, ?_, ?_, ?_, ?_⟩
  -- `sessionTimeout`
  · intro x hrun hsession hpast
    rw [execSessionTimeout, hsession]
    exact doneIf_next (by simp [hrun, hpast]) (State.sessionEnd_of_some hsession)
  -- `nonceExpiry`
  · intro link src hrun
    exact doneIf_next (by simp [hrun]) rfl
  -- `authLockoutEnd`
  · intro at' hrun hlockoutat hreached
    simp [execAuthLockoutEnd, doneIf, hrun, hlockoutat, hreached]
  -- `qlpNodeIdWrite`
  · intro req value hreq hvalue hlast hmode hnodeid
    obtain ⟨hrun, haddressed, hgate⟩ := hreq
    rcases hmode with h | h <;>
      simp [execQlpNodeIdWrite, hrun, haddressed, hgate, hvalue, Nat.not_lt.mpr hlast, h, hnodeid]
  -- `ptpSyncReceived`
  · intro sync sent interval16 master utcOffset hrun hfollows hethup hshort hlong hdomain hsentat hheard
    have hvalid : s.ptpValid sync master = true := by simpa [State.ptpValid, hdomain, hsentat] using hheard
    exact doneIf_next (by simp [hrun, hethup]) (by simp [hfollows, hshort, hlong, hvalid, hsentat])
  -- `ptpHoldoverTimeout`
  · intro at' hfollows htimesyncstate hlastsync hpast
    exact doneIf_next (by simp [hfollows, htimesyncstate, hlastsync, hpast]) rfl
  -- `timeStepApply`
  · intro ns hrun hstepns hticking hlatchedat hflash
    simp [execTimeStepApply, doneIf, hrun, hstepns, hticking, hlatchedat, hflash]
  -- `timeMarkCommit`
  · intro worn hrun hflash hpast
    exact doneIf_next (by simp [hrun, hflash, hpast]) rfl
  -- `timeSetLockExpiry`
  · intro at' hfollows htimesyncstate htimesetat hpast
    exact doneIf_next (by simp [hfollows, htimesyncstate, htimesetat, hpast]) rfl

end Sys2Proof.Machine
end

section
/-! The CAN channels, lighthouse frames, streams and the Ethernet port (chapter 9). -/

namespace Sys2Proof.Machine

/-- R282: a channel that is enabled in a running device stays so when a statistic of it is counted. -/
theorem State.bump_canStats {s : State} (ch : Fin 2) {k : Nat} (hk : k < 65536) :
    (s.bump O.canStats k).running = s.running ∧ (s.bump O.canStats k).gb O.canEnable ch.val = s.gb O.canEnable ch.val := by
  have hother : okey O.canEnable ch.val ≠ okey O.canStats k := okey_ne hk (by omega) (.inl (by decide))
  constructor
  · simp [State.running]
  · rw [State.gb, State.bump, State.put_gi_other _ _ _ _ _ _ hother, State.gb]

/-- Settles O53: each clause's conditions are what the command checks, and the branch that they choose in its effect. -/
theorem completesLinks : Obligations.CompletesLinks := by
  unfold Obligations.CompletesLinks
  intro s
  dsimp only [exec]
  refine ⟨?_, ?_, ?_, ?_, ?_, ?_, ?_, ?_, ?_, ?_, ?_, ?_, ?_⟩
  -- `canTxDone`
  · intro ch won sofDelay tdcNs hrun hlinkup _
    exact doneIf_next (by simp [hrun, hlinkup]) rfl
  -- `responseQueueTimeout`
  · intro link hrun hlink
    exact doneIf_next (by simp [hrun]) (by simp [hlink])
  · intro link hrun hlink
    exact doneIf_next (by simp [hrun]) (by simp [hlink])
  -- `canBusOff`
  · intro ch txErr rxErr busOff hrun hcanenable hcanerrorstate hbusoff
    simp only [execCanBusOff, ← Bool.decide_or, decide_eq_true_eq, hbusoff]
    have hcounted := State.bump_canStats (s := s) ch (k := ch.val * 6 + 2) (by omega)
    split
    · exact doneIf_next (by simp [hcounted, hrun, hcanenable, hcanerrorstate]) rfl
    · exact doneIf_next (by simp [hrun, hcanenable, hcanerrorstate]) rfl
  · intro ch txErr rxErr busOff hrun hcanenable hcanerrorstate hbusoff htxerr
    simp only [execCanBusOff, ← Bool.decide_or, decide_eq_true_eq, hbusoff, if_pos htxerr]
    have hcounted := State.bump_canStats (s := s) ch (k := ch.val * 6 + 2) (by omega)
    split
    · exact doneIf_next (by simp [hcounted, hrun, hcanenable, hcanerrorstate]) (by simp [hcanerrorstate])
    · exact doneIf_next (by simp [hrun, hcanenable, hcanerrorstate]) (by simp [hcanerrorstate])
  -- `canBusOffRecovery`
  · intro ch hrun hcanerrorstate hpast
    exact doneIf_next (by simp [hrun, hcanerrorstate, hpast]) rfl
  -- `canTimingApply`
  · intro ch hrun htimingdue
    exact doneIf_next (by simp [hrun, htimingdue]) rfl
  -- `lighthouseDue`
  · intro ch hleads hcanenable hlighthouseenable hsched
    exact doneIf_next (by simp [hleads, hcanenable, hlighthouseenable, hsched]) rfl
  -- `streamSnapshotDue`
  · intro stream hleads hstreamconfig hstreamus hstreamat
    exact doneIf_next (by simp [hleads, hstreamconfig, hstreamus, hstreamat]) rfl
  -- `ethLinkUp`
  · intro fast full hrun hethenable hethlinkstate
    exact doneIf_next (by simp [hrun, hethenable, hethlinkstate]) rfl
  -- `arpRequest`
  · intro targetIp sender hrun hethup hethipaddress
    exact doneIf_next (by simp [hrun, hethup]) (by simp [hethipaddress])
  -- `icmpEchoRequest`
  · intro len fragment sender hrun hethup hfragment hlen hlength
    exact doneIf_next (by simp [hrun, hethup]) (if_pos (by simp [hfragment, hlen, hlength]))
  -- `ethLinkDown`
  · intro hrun hethlinkstate
    exact doneIf_next (by simp [hrun, hethlinkstate]) rfl

end Sys2Proof.Machine
end

section
/-! Manifest and configuration (chapter 10). -/

namespace Sys2Proof.Machine

/-- R280: a command that may change the node ID, where it is accepted. -/
theorem withNode_request_next {s t : State} {req : Req} {i k : Nat} {op : State → State × Nat} (h : s.takesWrite req i k)
    (hop : op (s.tagSeen req) = accept t) :
    withNode s (s.request req i k op) =
      .next (if s.nodeId = (t.answerW req i k 0).nodeId then t.answerW req i k 0 else (t.answerW req i k 0).nodeChange) := by
  rw [s.request_next t req i k 0 op h hop]
  rfl

/-- R339: the strings that a mask names and that have what their monitors were found with. -/
theorem State.adoptUids_of_found {s : State} {mask : Nat} (hmask : mask < 16) (hgate : s.manifestGate = 0)
    (hfound : ((List.range 4).filter fun r => bit mask r).all s.uidsFound = true)
    (hhas : (((List.range 4).filter fun r => bit mask r).any fun r => !s.has r) = false) :
    s.adoptUids mask = accept (s.commitUids mask) := by
  have hmissing : (((List.range 4).filter fun r => bit mask r).any fun r => s.has r && !s.uidsFound r) = false := by
    rw [List.any_eq_false]
    intro r hr
    simp [List.all_eq_true.mp hfound r hr]
  rw [State.adoptUids, if_neg (by omega), if_neg (by simp [hgate]), if_neg (by simp only [hmissing]; decide),
    if_neg (by simp only [hhas]; decide)]

/-- R341: the newest valid image is put in force again. -/
theorem State.configDiscard_of_image {s : State} {k : Nat} {img : List Byte} (hlife : s.configLife = true)
    (hopen : s.allOpen = true) (himage : s.bootImage = some (k, img)) :
    s.configDiscard = accept ((State.adopt
      { s with flash := { s.flash with configSlot := k + 1, configSeq := leAt img 16 4 } }
      (State.applyEntries { s with flash := { s.flash with configSlot := k + 1, configSeq := leAt img 16 4 } }
        (entriesOf img))
      (entriesManifest (entriesOf img)) false).configRaise 1) := by
  rw [State.configDiscard, if_neg (by simp [hlife]), if_neg (by simp [hopen]), himage]

/-- R345: an image without a fault is taken. -/
theorem State.imageImport_of_good {s : State} {img : List Byte} (hgate : s.manifestGate = 0)
    (hgood : s.imageCheck img = (0, 0)) :
    s.imageImport img = accept ((s.putL O.configLoadError 0 [0, 0]).importImage img) := by
  rw [State.imageImport, if_neg (by simp [hgate]), hgood]
  rfl

/-- Settles O54: each write passes the checks of its own that `State.request_next` asks for, and what may change the
node ID is answered as `withNode_request_next` says. -/
theorem completesConfiguration : Obligations.CompletesConfiguration := by
  unfold Obligations.CompletesConfiguration
  intro s
  dsimp only [exec]
  refine ⟨?_, ?_, ?_, ?_, ?_, ?_⟩
  -- `manifestFileWrite`
  · intro req file hreq hmanifestgate htallyperiod
    exact s.request_next _ req _ _ _ _ hreq (by simp [State.manifestWrite, accept, hmanifestgate, htallyperiod])
  -- `manifestAdoptUids`
  · intro req mask hreq hmask hmanifestgate huidsfound hhas
    exact s.request_next _ req _ _ _ _ hreq
      (State.adoptUids_of_found hmask (by simp [hmanifestgate]) (by simpa using huidsfound) (by simpa using hhas))
  -- `configSave`
  · intro req hreq hconfiglife hflash
    exact s.request_next _ req _ _ _ _ hreq (by simp [State.configSave, accept, hconfiglife, hflash])
  -- `configDiscard`
  · intro req k img hreq hconfiglife hopen hbootimage
    exact withNode_request_next hreq (State.configDiscard_of_image (by simp [hconfiglife]) (by simp [hopen]) hbootimage)
  -- `configFactoryDefaults`
  · intro req hreq hconfiglife hopen
    exact s.request_next _ req _ _ _ _ hreq (by simp [State.configDefaults, accept, hconfiglife, hopen])
  -- `configImageImport`
  · intro req image hreq hmanifestgate himagecheck
    exact withNode_request_next hreq (State.imageImport_of_good (by simp [hmanifestgate]) himagecheck)

end Sys2Proof.Machine
end

section
/-! The claim of a duplex pair and the release of its outputs (chapter 11). -/

namespace Sys2Proof.Machine

/-- Settles O55: each clause's conditions are what the command checks, and the branch that they choose in its effect. -/
theorem completesClaim : Obligations.CompletesClaim := by
  unfold Obligations.CompletesClaim
  intro s
  dsimp only [exec]
  refine ⟨?_, ?_, ?_, ?_, ?_, ?_, ?_, ?_, ?_, ?_, ?_, ?_⟩
  -- `berthInChange`
  · intro level hpd hberthin hmode
    exact doneIf_next (by simp [State.pdUp_of_pd hpd, hberthin]) (if_pos (by simp [hmode]))
  · intro level hpd hberthin hmode
    obtain ⟨hup, hwake⟩ := Bool.and_eq_true_iff.mp hpd
    exact doneIf_next (by simp [hup, hberthin]) (if_neg (by simpa [hmode] using hwake))
  -- `claimWaitExpiry`
  · intro hpd hmode hreleased hrequest htrusts hberthin hquiet hpast
    exact doneIf_next (by simp [hpd, hmode, hreleased, hrequest, htrusts, hberthin, hquiet, hpast]) rfl
  -- `claimConflictWithdraw`
  · intro hpd hmode hheld hberthin hpast
    exact doneIf_next (by simp [hpd, hmode, hheld, hberthin, hpast]) rfl
  -- `claimRefreshTimeout`
  · intro hpd hmode hheld hpast
    exact doneIf_next (by simp [hpd, hmode, hheld, hpast]) rfl
  -- `holdingRelease`
  · intro hpd hmode hnotaker hberthin hpast
    exact doneIf_next (by simp [hpd, hmode, hnotaker, hberthin, hpast]) rfl
  -- `holdingTimeout`
  · intro hpd hmode hholds hpast hberthin
    exact doneIf_next (by simp [hpd, hmode, hholds, hpast, hberthin]) rfl
  -- `armingRefreshTimeout`
  · intro hpd hmode harmed hpast
    exact doneIf_next (by simp [hpd, hmode, harmed, hpast]) rfl
  -- `standbyTakeoverSweep`
  · intro ring hrun hmode hout hhas hmon hring htakeover hpast
    exact doneIf_next (by simp [hrun, hmode, hout, hhas, hmon, hring, htakeover, hpast]) rfl
  -- `berthHandOver`
  · intro req hreq hberthstate hhandover hhandoverinhibit
    exact s.request_next _ req _ _ _ _ hreq (by simp [State.handOver, accept, hberthstate, hhandover, hhandoverinhibit])
  -- `berthTake`
  · intro req hreq hberthstate hup
    exact s.request_next _ req _ _ _ _ hreq (by simp [State.take, accept, hberthstate, hup])
  -- `berthRevert`
  · intro hrun hmode hpref hberthstate hup hpast hreached hhandoverinhibit
    exact doneIf_next (by simp [hrun, hmode, hpref, hberthstate, hup, hpast, hreached, hhandoverinhibit]) rfl

end Sys2Proof.Machine
end

section
/-! Frames and commands of the duplex link (chapter 11). -/

namespace Sys2Proof.Machine

/-! What a valid frame leaves as it is when it is noted (R361). -/

@[simp] theorem State.dupHeard_out (s : State) : s.dupHeard.dup.out = s.dup.out := rfl

@[simp] theorem State.dupHeard_armed (s : State) : s.dupHeard.dup.armed = s.dup.armed := rfl

@[simp] theorem State.dupHeard_shadow (s : State) : s.dupHeard.dup.shadow = s.dup.shadow := rfl

@[simp] theorem State.dupHeard_handover (s : State) : s.dupHeard.dup.handover = s.dup.handover := rfl

@[simp] theorem State.dupHeard_handoverTally (s : State) : s.dupHeard.dup.handoverTally = s.dup.handoverTally := rfl

@[simp] theorem State.dupHeard_reason (s : State) : s.dupHeard.dup.reason = s.dup.reason := rfl

@[simp] theorem State.dupHeard_holdAt (s : State) : s.dupHeard.dup.holdAt = s.dup.holdAt := rfl

@[simp] theorem State.dupHeard_now (s : State) : s.dupHeard.now = s.now := rfl

@[simp] theorem State.dupHeard_mono (s : State) : s.dupHeard.mono = s.mono := rfl

@[simp] theorem State.dupHeard_fw (s : State) : s.dupHeard.fw = s.fw := rfl

@[simp] theorem State.dupHeard_has (s : State) (n : Nat) : s.dupHeard.has n = s.has n := rfl

@[simp] theorem State.dupHeard_headB (s : State) : s.dupHeard.headB = s.headB := rfl

/-- Settles O56: `State.dupFrame_next`, for what each frame does where its device holds the berth or not. -/
theorem completesDuplexLink : Obligations.CompletesDuplexLink := by
  unfold Obligations.CompletesDuplexLink
  intro s
  dsimp only [exec]
  refine ⟨?_, ?_, ?_, ?_, ?_, ?_, ?_, ?_, ?_, ?_, ?_, ?_, ?_, ?_⟩
  -- `handoverOffer`
  · intro tally tail hrun hmode hintact hout harmed hissome
    exact State.dupFrame_next hrun hmode hintact (by simp [State.takeOffer, hout, harmed, hissome])
  -- `handoverAccept`
  · intro tally tail hrun hmode hintact hout hhandover hhandovertally
    exact State.dupFrame_next hrun hmode hintact (if_pos (by simp [hout, hhandover, hhandovertally]))
  -- `handoverRefuse`
  · intro tally tail hrun hmode hintact hout hhandover hhandovertally
    exact State.dupFrame_next hrun hmode hintact
      ((if_pos (by simp [hout])).trans (if_pos (by simp [hhandover, hhandovertally])))
  · intro tally tail hrun hmode hintact hout
    exact State.dupFrame_next hrun hmode hintact (if_neg (by simp [hout]))
  -- `handoverTaken`
  · intro tally tail hrun hmode hintact hout hhandovertally hreason
    exact State.dupFrame_next hrun hmode hintact (by simp [hout, hhandovertally, hreason])
  -- `chainReq`
  · intro ring command latest tail hrun hmode hintact hout hintime hhas hword
    exact State.dupFrame_next hrun hmode hintact (by
      simp only [State.takeChainReq]
      rw [if_neg (by simp [hout, hhas, Nat.not_lt.mpr hintime]), if_neg hword]
      rfl)
  -- `chainFwd`
  · intro ring decodedAt frame tail hrun hmode hintact hout hintime hreply hstatus
    exact State.dupFrame_next hrun hmode hintact
      ((if_pos hintime).trans (by simp [State.takeForward, hout, hreply, hstatus]))
  -- `duplexTally`
  · intro index period time tail hrun hmode hintact hout
    exact State.dupFrame_next hrun hmode hintact (if_neg (by simp [hout]))
  -- `mirror`
  · intro m tail hrun hmode hintact hout
    exact State.dupFrame_next hrun hmode hintact (if_neg (by simp [hout]))
  -- `hello`
  · intro h tail hrun hmode hintact
    exact State.dupFrame_next hrun hmode hintact rfl
  -- `ringDelays`
  · intro payload tail hrun hmode hintact hlength
    exact State.dupFrame_next hrun hmode hintact (if_pos hlength)
  -- `duplexLinkDown`
  · intro hrun hmode hup hpast
    exact doneIf_next (by simp [hrun, hmode, hup, hpast]) rfl
  -- `duplexLinkUp`
  · intro hrun hmode hup hvalidat hsince hrecent
    exact doneIf_next (by simp [hrun, hmode, hup, hvalidat, hsince, hrecent]) rfl
  -- `duplexHelloSend`
  · intro hrun hmode hsent hpast
    exact doneIf_next (by simp [hrun, hmode, hsent, hpast]) rfl

end Sys2Proof.Machine
end

section
/-! The harbour log (chapter 12). -/

namespace Sys2Proof.Machine

/-- Settles O57: each clause's conditions are what the command or its write checks. -/
theorem completesLog : Obligations.CompletesLog := by
  unfold Obligations.CompletesLog
  intro s
  dsimp only [exec]
  refine ⟨?_, ?_, ?_, ?_, ?_⟩
  -- `logRecordSealTimeout`
  · intro r hcd hopen hpast
    simp [execLogRecordSealTimeout, doneIf, hcd, hopen, hpast]
  -- `logProgram`
  · intro failing hrun hflash hretired
    exact doneIf_next (by simp [hrun, hflash, hretired]) rfl
  -- `logSuppressedReport`
  · intro hcd hall hpast
    exact doneIf_next (by simp [hcd, hall, hpast]) rfl
  -- `logClear`
  · intro req code hreq hauthok hlife hflash hlogclearcode
    exact s.request_next _ req _ _ _ _ hreq (by simp [State.logClear, accept, hauthok, hlife, hflash, hlogclearcode])
  -- `logFlushLevel`
  · intro vauxMv hrun hflushed hvauxmv
    exact doneIf_next (by simp [hrun, hflushed, hvauxmv]) rfl

end Sys2Proof.Machine
end

section
/-! Supply levels, power-on and resets (chapter 13). -/

namespace Sys2Proof.Machine

/-- R452: noting the supply's level leaves the clocks as they are. -/
theorem State.withVaux_clk (s : State) (mv : Nat) : (s.withVaux mv).clk = s.clk := by
  show (s.readVaux mv).clk = s.clk
  simp only [State.readVaux]
  split
  · exact State.putL_clk _ _ _ _
  · rfl

/-- Settles O58: each clause's conditions are what the command checks; of the commands that moor, `State.moor_of_free`. -/
theorem completesSupply : Obligations.CompletesSupply := by
  unfold Obligations.CompletesSupply
  intro s
  dsimp only [exec]
  refine ⟨?_, ?_, ?_, ?_, ?_, ?_, ?_, ?_, ?_, ?_, ?_, ?_, ?_, ?_, ?_, ?_, ?_, ?_⟩
  -- `supplyRecovery`
  · intro vauxMv hrun hflushed hvauxmv
    exact doneIf_next (by simp [hrun, hflushed, hvauxmv]) rfl
  -- `brownOutWarning`
  · intro vauxMv hpd hwarning hvauxmv
    exact doneIf_next (by simp [State.pdUp_of_pd hpd, hwarning, hvauxmv]) rfl
  -- `brownOutClear`
  · intro vauxMv hpd hwarning hvauxmv
    exact doneIf_next (by simp [State.pdUp_of_pd hpd, hwarning, hvauxmv]) rfl
  -- `powerDieReset`
  · intro vauxMv hstarted hvauxmv
    exact doneIf_next (by simp [hstarted, hvauxmv]) rfl
  -- `regulatorFault`
  · intro vddcMv vddioMv hpd hvddcmv
    exact doneIf_next (by simpa [hpd, or_assoc] using hvddcmv) rfl
  -- `powerOn`
  · intro vauxMv hstarted hvauxmv
    exact doneIf_next (by simp [hstarted, hvauxmv]) (by rw [State.withVaux_clk])
  -- `powerDieResetRelease`
  · intro berthPref hstarted hpdup hpast
    exact doneIf_next (by simp [hstarted, hpdup, hpast]) rfl
  -- `computeDieResetRelease`
  · intro hpd hcd hholdclock hholdresetn _ _
    exact doneIf_next (by simp [State.cdFree, hpd, hcd, hholdclock, hholdresetn]) rfl
  -- `startupComplete`
  · intro c hcd hscanned
    exact doneIf_next (by simp [hcd, hscanned]) rfl
  -- `resetNAssert`
  · intro hpd hholdresetn hcd
    exact doneIf_next (by simp [State.pdUp_of_pd hpd, hholdresetn]) (by rw [if_pos hcd])
  · intro hpd hholdresetn hcd
    exact doneIf_next (by simp [State.pdUp_of_pd hpd, hholdresetn]) (by rw [if_neg (by simp [hcd])])
  -- `resetNRelease`
  · intro hpd hholdresetn
    exact doneIf_next (by simp [State.pdUp_of_pd hpd, hholdresetn]) rfl
  -- `deviceResetCommand`
  · intro req value hreq hanyenergised hvalue
    refine (State.exec_deviceResetCommand_of_takesWrite hreq).trans ?_
    rw [hanyenergised, if_neg Bool.false_ne_true, if_neg (not_not.mpr hvalue), following_answerW_of_zero]
  -- `mooredWatchCommand`
  · intro req hreq hopen hstring hnone hmode
    exact s.request_next _ req _ _ _ _ hreq
      (State.moor_of_free (by simp [hopen]) (by simp [hstring]) (by simp [hnone]) (by simpa using hmode) 1)
  -- `mooredDarkCommand`
  · intro req hreq hopen hstring hnone hmode
    exact s.request_next _ req _ _ _ _ hreq
      (State.moor_of_free (by simp [hopen]) (by simp [hstring]) (by simp [hnone]) (by simpa using hmode) 2)
  -- `mooredEntryComplete`
  · intro hrun hmooring hmoorstep hpending
    exact doneIf_next (by simp [hrun, hmooring, hmoorstep, hpending]) rfl
  -- `mooredWake`
  · intro w hpdup hwatch hmooredwakemask hwakemet
    exact doneIf_next (by simp [hpdup, hwatch, hmooredwakemask, hwakemet]) rfl
  -- `mooredDarkAuto`
  · intro at' hrun hlowsince hpast hdarkdue hnone hstring hmode
    exact doneIf_next (by simpa [hrun, hlowsince, hpast, hdarkdue, hnone, hstring, or_assoc] using hmode) rfl

end Sys2Proof.Machine
end

section
/-! Keys, life-cycle, tamper and firmware (chapter 13). -/

namespace Sys2Proof.Machine

/-- R416: a wrapped site key that passes its checks is written into the first free place, and ends the session. -/
theorem State.siteKeyWrite_of_good {s : State} {auth : Bool} {link k : Nat} {b : List Byte}
    (hfree : (List.range 4).find? (fun k => !mhas s.otp.siteKeys k) = some k) (hgood : s.keyCheck auth 32 (some k) b = 0) :
    s.siteKeyWrite auth link b = accept (State.sessionEnd { s with otp := { s.otp with
      siteKeys := mins s.otp.siteKeys k (s.unwrap ((b.drop 4).take 16) ((b.drop 20).take 32)) } }) := by
  simp only [State.siteKeyWrite, hfree]
  rw [if_neg (by simp [hgood])]
  rfl

/-- R416: a wrapped module key that passes its checks is written into its ring's first free place, and the monitors of a
ring in use are authenticated with it. -/
theorem State.moduleKeyWrite_of_good {s : State} {auth : Bool} {link r k : Nat} {b : List Byte}
    (hfree : ((List.range 4).map fun g => r * 4 + g).find? (fun k => !mhas s.otp.moduleKeys k) = some k)
    (hgood : s.keyCheck auth 16 (some (0x10 + k)) b = 0) :
    s.moduleKeyWrite auth link r b = accept (if [3, 4].contains (s.gn O.chainRingState r) then
        forEach (List.range (s.nMon r)) { s with otp := { s.otp with
          moduleKeys := mins s.otp.moduleKeys k (s.unwrap ((b.drop 4).take 16) ((b.drop 20).take 16)) } }
          fun s p => s.authStart r p
      else { s with otp := { s.otp with
        moduleKeys := mins s.otp.moduleKeys k (s.unwrap ((b.drop 4).take 16) ((b.drop 20).take 16)) } }) := by
  simp only [State.moduleKeyWrite, hfree, Option.map_some]
  rw [if_neg (by simp [hgood])]
  rfl

/-- R422: the tampers that a mask names are acknowledged. -/
theorem State.tamperAck_of_allowed {s : State} {mask : Nat} (hmask : mask < 512)
    (hlife : s.lifecycle = 1 ∨ s.lifecycle = 3) (hflash : s.flashOk = true) :
    s.tamperAck mask = accept ((State.journal
      { s with fw := { s.fw with tamper := s.fw.tamper - Nat.land s.fw.tamper mask } } 4 0
      (le 4 (s.fw.tamper - Nat.land s.fw.tamper mask))).raise 0xF8 0x80) := by
  simp only [State.tamperAck]
  rw [if_neg (by omega), if_neg (by rcases hlife with h | h <;> simp [h]), if_pos]
  exact hflash

/-- R424: a chunk that the other slot has not, of the length that the image gives it, is kept. -/
theorem State.fwChunk_of_new {s : State} {c : Nat} {bs : List Byte} (hgate : s.fwGate = 0)
    (hst : (s.slot s.otherSlot).st = 2) (hknown : c = 0 ∨ mhas (s.slot s.otherSlot).chunks 0 = true)
    (hheader : c ≠ 0 ∨ 12 ≤ bs.length) (hsome : bs ≠ [])
    (hlength : bs.length = chunkLen (if c = 0 then leAt bs 8 4 else (s.slot s.otherSlot).imageLen) c)
    (hnew : mhas (s.slot s.otherSlot).chunks c = false) :
    s.fwChunk c bs = accept (s.slotUpd s.otherSlot fun x => { x with chunks := mins x.chunks c bs }) := by
  have hshort : (decide (c = 0) && decide (bs.length < 12)) = false := by
    rcases hheader with h | h
    · simp [h]
    · simp [Nat.not_lt.mpr h]
  have hplace : (decide (c = 0) || mhas (s.slot s.otherSlot).chunks 0) = true := by simpa using hknown
  simp only [State.fwChunk, hshort, hplace, ← hlength]
  rw [if_neg (by simp [hsome]), if_neg (by simp [hgate]), if_neg (by simp [hst]), if_neg (by simp [hnew])]

/-- R424, R421: the verification of the image in the other slot, which the check's number decides. -/
theorem State.fwVerify_of_full {s : State} {c : Nat} (hgate : s.fwGate = 0) (hst : (s.slot s.otherSlot).st = 2)
    (hcheck : s.fwCheck (s.slot s.otherSlot) = c) :
    s.fwVerify = if c = 0 then
        accept ((State.slotUpd (s.put O.firmwareVerifyError 0 (c : Nat)) s.otherSlot fun x =>
          { x with st := 3, version := leAt (mget [] (s.slot s.otherSlot).chunks 0) 12 4,
                   security := leAt (mget [] (s.slot s.otherSlot).chunks 0) 16 2 }).raise 0xF7 0)
      else refuse (if c = 5 ∨ c = 6 then
          ((State.slotUpd (s.put O.firmwareVerifyError 0 (c : Nat)) s.otherSlot fun x =>
            { x with st := 4 }).raise 0xF7 1).tamper 4
        else (State.slotUpd (s.put O.firmwareVerifyError 0 (c : Nat)) s.otherSlot fun x => { x with st := 4 }).raise 0xF7 1)
          0x0306 := by
  simp only [State.fwVerify]
  rw [if_neg (by simp [hgate]), if_neg (by simp [hst]), hcheck]

/-- R425: without a partner and with every driver off, the verified image may be activated. -/
theorem State.fwActivate_of_alone {s : State} (hgate : s.fwGate = 0) (hst : (s.slot s.otherSlot).st = 3)
    (halone : s.dup.mode = 0) (hoff : s.anyEnergised = false) : s.fwActivate = accept s := by
  rw [State.fwActivate, if_neg (by simp [hgate]), if_neg (by simp [hst]), if_neg (by simp [hoff]),
    if_neg (by simp [State.mustHandOver, halone])]

/-- Settles O59: each write passes its own checks, which the lemmas above put together for the keys, the tamper and the
firmware. -/
theorem completesLifecycle : Obligations.CompletesLifecycle := by
  unfold Obligations.CompletesLifecycle
  intro s
  dsimp only [exec]
  refine ⟨?_, ?_, ?_, ?_, ?_, ?_, ?_, ?_, ?_, ?_, ?_, ?_, ?_, ?_, ?_⟩
  -- `siteKeyWrite`
  · intro req blob k hreq hfree hgood
    exact s.request_next _ req _ _ _ _ hreq ((State.siteKeyWrite_of_good (by simpa using hfree)
      (by rw [State.tagSeen_keyCheck, hgood])).trans (by rw [State.tagSeen_otp, State.tagSeen_unwrap]; rfl))
  -- `moduleKeyWrite`
  · intro req ring blob k hreq hfree hgood hring
    exact s.request_next _ req _ _ _ _ hreq ((State.moduleKeyWrite_of_good (by simpa using hfree)
      (by rw [State.tagSeen_keyCheck, hgood])).trans
      (by rw [if_pos (by simpa using hring), State.tagSeen_otp, State.tagSeen_unwrap, State.tagSeen_nMon]; rfl))
  · intro req ring blob k hreq hfree hgood hidle hfault
    exact s.request_next _ req _ _ _ _ hreq ((State.moduleKeyWrite_of_good (by simpa using hfree)
      (by rw [State.tagSeen_keyCheck, hgood])).trans
      (by rw [if_neg (by simp [hidle, hfault]), State.tagSeen_otp, State.tagSeen_unwrap]; rfl))
  -- `lifecycleCommission`
  · intro req value hreq hvalue hlife hsitekeys hflash
    exact s.request_next _ req _ _ _ _ hreq (by simp [State.lifeCommand, accept, hvalue, hlife, hsitekeys, hflash])
  -- `lifecycleInService`
  · intro req value hreq hvalue hlife hlifecycleblock hflash
    exact s.request_next _ req _ _ _ _ hreq (by
      rcases hlife with h | h <;> simp [State.lifeCommand, accept, hvalue, h, hlifecycleblock, hflash])
  -- `lifecycleMaintenance`
  · intro req value hreq hvalue hlife hflash
    exact s.request_next _ req _ _ _ _ hreq (by simp [State.lifeCommand, accept, hvalue, hlife, hflash])
  -- `lifecycleRetire`
  · intro req value hreq hretirecode hlife hopen hflash
    exact s.request_next _ req _ _ _ _ hreq (by simp [State.lifeCommand, accept, hretirecode, hlife, hopen, hflash])
  -- `tamperAcknowledge`
  · intro req mask hreq hmask hlife hflash
    exact s.request_next _ req _ _ _ _ hreq ((State.tamperAck_of_allowed hmask (by simpa using hlife)
      (by simp [hflash])).trans (by rw [State.tagSeen_fw]; rfl))
  -- `firmwareBegin`
  · intro req hreq hgate hst
    exact s.request_next _ req _ _ _ _ hreq (by simp [State.fwBegin, accept, hgate, hst])
  -- `firmwareEraseDone`
  · intro hrun hst
    exact doneIf_next (by simp [hrun, hst]) rfl
  -- `firmwareChunkWrite`
  · intro req chunk bytes hreq hgate hst hknown hheader hsome hsize hnew
    exact s.request_next _ req _ _ _ _ hreq ((State.fwChunk_of_new (by simp [hgate]) (by simp [hst])
      (by simpa using hknown) hheader hsome (by simpa using hsize) (by simp [hnew])).trans
      (by rw [State.tagSeen_otherSlot]; rfl))
  -- `firmwareVerify`
  · intro req c hreq hgate hst hcheck
    have hverify := State.fwVerify_of_full (s := s.tagSeen req) (by simp [hgate]) (by simp [hst]) (by simpa using hcheck)
    rw [State.tagSeen_otherSlot, State.tagSeen_slot] at hverify
    split
    next hgood =>
      subst hgood
      rw [if_pos rfl] at hverify
      exact s.request_next _ req _ _ _ _ hreq hverify
    next hbad =>
      rw [if_neg hbad] at hverify
      split
      next htamper =>
        rw [if_pos htamper] at hverify
        exact s.request_next _ req _ _ _ _ hreq hverify
      next hplain =>
        rw [if_neg hplain] at hverify
        exact s.request_next _ req _ _ _ _ hreq hverify
  -- `firmwareActivate`
  · intro req hreq hgate hst hmode hanyenergised
    have hactivate := State.fwActivate_of_alone (s := s.tagSeen req) (by simp [hgate]) (by simp [hst]) (by simp [hmode])
      (by simp [hanyenergised])
    obtain ⟨hrun, haddressed, -⟩ := id hreq
    rw [execFirmwareActivate, if_neg (by simp [State.hears_of_running hrun haddressed]),
      if_neg (by simp [State.mustHandOver, hmode]), s.request_next _ req _ _ _ _ hreq hactivate, following_answerW_of_zero]
  -- `firmwareAbort`
  · intro req hreq hgate hst htrial
    exact s.request_next _ req _ _ _ _ hreq (by simp [State.fwAbort, accept, hgate, hst, htrial])
  -- `firmwareTrialConfirm`
  · intro k hrun hflash hbooted hstartup hst hpast
    simp [execFirmwareTrialConfirm, doneIf, hrun, hflash, hbooted, hstartup, hst, hpast]

end Sys2Proof.Machine
end

section
/-! Die sensors, throttling, thermal shedding and background work (chapter 14). -/

namespace Sys2Proof.Machine

theorem State.shotStart_deviceTestRuns (s : State) (k seq target t : Nat) :
    (s.shotStart k seq target).deviceTestRuns t = s.deviceTestRuns t := rfl

theorem State.tagSeen_deviceTestRuns (s : State) (req : Req) (t : Nat) :
    (s.tagSeen req).deviceTestRuns t = s.deviceTestRuns t := by
  rw [State.tagSeen_eq]
  rfl

/-- R442: a self-test that may run starts. -/
theorem State.selfTest_of_runs {s : State} {v : Nat} (hgate : s.shotGate 5 v false = none) (hseq : v / 65536 ≠ 0)
    (hknown : v % 65536 < 32) (hsome : v % 65536 ≠ 0) (hruns : s.deviceTestRuns (v % 65536) = true) :
    s.selfTest v = accept (State.selfTestTrains { s.shotStart 5 (v / 65536) (v % 65536) with
      th := { (s.shotStart 5 (v / 65536) (v % 65536)).th with test := {} } } (v % 65536)) := by
  have hreserved : decide (32 ≤ v % 65536) = false := by simp [hknown]
  simp only [State.selfTest, hreserved, hgate]
  rw [if_neg (by simp [hseq, hsome]), if_pos (by rw [State.shotStart_deviceTestRuns, hruns])]

/-- Settles O60: each clause's conditions are what the command checks; of the self-test, `State.selfTest_of_runs`. -/
theorem completesThermal : Obligations.CompletesThermal := by
  unfold Obligations.CompletesThermal
  intro s
  dsimp only [exec]
  refine ⟨?_, ?_, ?_, ?_, ?_, ?_, ?_, ?_, ?_, ?_, ?_, ?_⟩
  -- `dieSensorConversion`
  · intro readings hpd
    exact doneIf_next (by simp [hpd]) rfl
  -- `dieSensorBroken`
  · intro sensor late hpd hcd hsensorbroken hsensorfails
    exact doneIf_next (by simp [hpd, hcd, hsensorbroken, hsensorfails]) rfl
  -- `dieTempFrameTimeout`
  · intro hpd hframelost hpast
    exact doneIf_next (by simp [hpd, hframelost, hpast]) rfl
  -- `throttleStageEnter`
  · intro scope stage hpd hcd hstage hthrottlestage hhits
    exact doneIf_next (by simp [hpd, hcd, hstage, hthrottlestage, hhits]) rfl
  -- `throttleStageLeave`
  · intro scope stage hpd hcd hstage hthrottlestage hbelow hpast
    exact doneIf_next (by simp [hpd, hcd, hstage, hthrottlestage, hbelow, hpast]) rfl
  -- `thermalShed`
  · intro hpd hthrottlestage hsheddue
    exact doneIf_next (by simp [hpd, hthrottlestage, hsheddue]) rfl
  -- `thermalRestore`
  · intro c hrestorepick hpd hthrottlestage hpast
    simp [execThermalRestore, doneIf, hrestorepick, hpd, hthrottlestage, hpast]
  -- `scrubPass`
  · intro corrected hrun hpast
    exact doneIf_next (by simp [hrun, hpast]) rfl
  -- `converterCalibration`
  · intro conv ppm hpd hconverters hcaldue hlatchnear
    exact doneIf_next (by simp [hpd, hconverters, hcaldue, hlatchnear]) rfl
  -- `integrityCheck`
  · intro c hrun hflash hpast
    exact doneIf_next (by simp [hrun, hflash, hpast]) rfl
  -- `deviceSelfTestRequest`
  · intro req value hreq _ hgate hseq hknown hsome hruns
    exact s.request_next _ req _ _ _ _ hreq ((State.selfTest_of_runs (by simp [hgate]) hseq hknown hsome
      (by rw [State.tagSeen_deviceTestRuns, hruns])).trans rfl)
  -- `deviceSelfTestDone`
  · intro found q t hrun hpending hdevicetestruns hdevicetestover
    simp [execDeviceSelfTestDone, doneIf, hrun, hpending, hdevicetestruns, hdevicetestover]

end Sys2Proof.Machine
end
